-- ==== Sys2Proof/Word.lean ====
section
/-!
DEFINITION. The word types of the Bernil 6400 register map and memories (R4): octets, 32-bit register
words, 64-bit table words, and the plainest arithmetic on them.
-/
namespace Sys2Proof

/-- An octet. -/
abbrev Byte := BitVec 8
/-- A register word, 32 bits wide (R4). -/
abbrev Word := BitVec 32
/-- A 64-bit word (format steps, ID store units). -/
abbrev Word64 := BitVec 64

/-- A signed reading of a 32-bit word. -/
abbrev Word.int (w : Word) : Int := w.toInt

end Sys2Proof
end

