-- ==== Sys2Proof/Machine/Sparse.lean ====
section
/-!
DEFINITION. Sparse contents in one canonical form: a list of (key, value) pairs, keys strictly rising,
and no entry equal to what an unlisted key reads as (`dflt`). Register file, memories and tables all
use these three operations.
-/
namespace Sys2Proof.Machine

/-- The contents of a store, by key. -/
abbrev Sparse (β : Type) := List (Nat × β)

/-- What key k reads as. -/
def smGet {β : Type} (dflt : Nat → β) : Sparse β → Nat → β
  | [], k => dflt k
  | (k', v) :: m, k => if k = k' then v else smGet dflt m k

/-- The store without key k. -/
def smDrop {β : Type} : Sparse β → Nat → Sparse β
  | [], _ => []
  | (k', v) :: m, k => if k = k' then smDrop m k else (k', v) :: smDrop m k

/-- The store with (k, v) put in key order. -/
def smPut {β : Type} : Sparse β → Nat → β → Sparse β
  | [], k, v => [(k, v)]
  | (k', v') :: m, k, v =>
    if k < k' then (k, v) :: (k', v') :: m
    else if k = k' then (k, v) :: m
    else (k', v') :: smPut m k v

/-- The store with key k holding v: an entry equal to what the unlisted key reads as is not listed. -/
def smSet {β : Type} [DecidableEq β] (dflt : Nat → β) (m : Sparse β) (k : Nat) (v : β) : Sparse β :=
  if v = dflt k then smDrop m k else smPut m k v

/-- The keys after the first are all above `lo`, and no entry is its default. -/
def smWfFrom {β : Type} [DecidableEq β] (dflt : Nat → β) : Option Nat → Sparse β → Bool
  | _, [] => true
  | lo, (k, v) :: m =>
    (match lo with | none => true | some l => decide (l < k)) && decide (v ≠ dflt k) &&
      smWfFrom dflt (some k) m

/-- The canonical form. -/
def smWf {β : Type} [DecidableEq β] (dflt : Nat → β) (m : Sparse β) : Bool := smWfFrom dflt none m

/-- The keys listed whose entry meets p are kept, the others read their default again. -/
def smKeep {β : Type} (m : Sparse β) (p : Nat → Bool) : Sparse β := m.filter (fun e => p e.1)

/-- The octet every unlisted address of an on-die SRAM reads as: R69 step 4 clears all SRAM. -/
def zeroOctet (_ : Nat) : Byte := 0
/-- The octet every unlisted address of the MRAM reads as: an erased word holds ones (R397).
(DESIGN CHOICE, log entry 6.) -/
def erasedOctet (_ : Nat) : Byte := 0xFF

/-- n octets from address a on. -/
def memRead (dflt : Nat → Byte) (m : Sparse Byte) (a n : Nat) : List Byte :=
  (List.range n).map (fun i => smGet dflt m (a + i))

/-- Octets written from address a on. -/
def memWrite (dflt : Nat → Byte) (m : Sparse Byte) (a : Nat) : List Byte → Sparse Byte
  | [] => m
  | b :: bs => memWrite dflt (smSet dflt m a b) (a + 1) bs

/-- The 32-bit word at address a, little-endian (R4). -/
def memWord (dflt : Nat → Byte) (m : Sparse Byte) (a : Nat) : Word :=
  (smGet dflt m (a + 3)) ++ (smGet dflt m (a + 2)) ++ (smGet dflt m (a + 1)) ++ (smGet dflt m a)

end Sys2Proof.Machine
end

