-- ==== Sys2Proof/Machine/Parts/Core.lean ====
section
/-!
DEFINITION. State of the always-on part and of access control: supplies and clocks, the Lodge and the
reset sequence, boot, the Gatehouse, the Belvedere, the Hedge and the battery-backed well, and what the
block puts on its wires.
-/
namespace Sys2Proof.Machine

/-- Gatehouse ports, in the bit order of R13. -/
inductive Port where
  | host | core | maint | twin | kiosk | card | net | debug | boot
  deriving DecidableEq, Repr

/-- Supplies with a brown-out threshold, in the order of PWR_STA.BOR_SRC (R44, R59). -/
inductive Supply where
  | vdd | vdds | vddh | vddio18 | vddio33 | vmram
  deriving DecidableEq, Repr

/-- The liveness strobes of R76. -/
inductive Strobe where
  | core | pgl | fab
  deriving DecidableEq, Repr

/-- The level on an AOUT ball: high-impedance, low, high, or given over to its alternate (R83, R99). -/
inductive Level where
  | z | low | high | alt
  deriving DecidableEq, Repr

/-- What the block puts on its wires or answers to a port during one command, oldest first.
(DESIGN CHOICE, log entry 158.) -/
inductive Emission where
  /-- The word a register or memory read returns to its port. -/
  | value (w : Word)
  /-- An MSI-X vector (R508). -/
  | msix (vector : Nat)
  /-- Frame octets leaving on an Ethernet port. -/
  | frame (port : Nat) (octets : List Byte)
  /-- Octets returned on the maintenance SPI (R512). -/
  | spi (octets : List Byte)
  /-- Octets a Kiosk answer carries (R485), without CRC_A. -/
  | tag (octets : List Byte)
  /-- Bits shifted out by the TAP, as octets (R516 to R518). -/
  | tap (octets : List Byte)
  /-- An octet on UART_TX (R515). -/
  | uart (b : Byte)
  /-- Octets written to a host address (R510). -/
  | hostWrite (addr : Nat) (octets : List Byte)
  /-- A command or data block on the card bus (R461, R462): command index, argument, octets. -/
  | card (cmd : Nat) (arg : Nat) (octets : List Byte)
  /-- A message on the Colonnade session: kind and content octets (R365). -/
  | twinMsg (kind : Nat) (octets : List Byte)
  /-- A frame handed to Ndear-C (R149, R156, R162). -/
  | toCore (octets : List Byte)
  /-- A PTP message: its port, its kind (0 Announce, 1 Sync, 2 Pdelay_Req, 3 Follow_Up, 4 Pdelay_Resp, 5
  Pdelay_Resp_Follow_Up) and its frame without FCS (R91). -/
  | ptp (port kind : Nat) (octets : List Byte)
  /-- An AVSBus request for a VDD setpoint in mV (R39). -/
  | avs (mv : Nat)
  deriving DecidableEq, Repr

/-- Supplies, reference clocks and thermal pins (chapter 02). -/
structure Power where
  /-- Supplies below their brown-out threshold now (R44). -/
  low : List Supply
  /-- VDDIO18 is lost (R540). -/
  vddio18Lost : Bool
  vbatOk : Bool
  cdVioOk : Bool
  /-- Reference inputs declared lost (R50). -/
  refALost : Bool
  refBLost : Bool
  sysclkLost : Bool
  ref10mLost : Bool
  pcieRefLost : Bool
  /-- THERM_N driven low (R55). -/
  thermLow : Bool
  /-- The eight readings of the last conversion, signed, in 1/8 °C (R55, R56). -/
  temps : List Int
  /-- A request went unanswered, so no further request is sent until the next device reset (R39). -/
  avsSilent : Bool
  /-- A request has been sent since the last device reset (R39). -/
  avsAsked : Bool
  deriving DecidableEq, Repr

/-- Where the main domain stands in the reset sequence of R64. -/
inductive RstPhase where
  /-- Reset is asserted throughout the main domain. -/
  | held
  /-- The main domain runs. -/
  | running
  deriving DecidableEq, Repr

/-- Boot sources of R65. -/
inductive BootSrc where
  | mram | card | maint | host
  deriving DecidableEq, Repr

/-- An accepted configuration package (R67, R86): its profile and BODY_HASH. -/
structure Package where
  profile : Nat
  hash : List Byte
  deriving DecidableEq, Repr

/-- The image the boot ROM is streaming from HOST or MAINT (R511). -/
structure BootStream where
  src : BootSrc
  /-- 0 firmware, 1 package. -/
  kind : Nat
  /-- The MRAM offset the KIND is installed at: 0, or the firmware's PKG_PTR. -/
  base : Nat
  /-- Octets of the current KIND received so far, in order. -/
  got : List Byte
  deriving DecidableEq, Repr

/-- The boot ROM at work on a card (R472, R474): 0 the card starts, 1 its directory is read, 2 and 3 the header block and the
rest of the firmware, 4 and 5 those of the package; START LBA and LENGTH of the area being read, and of the package's. -/
structure CardBoot where
  phase : Nat
  area : Nat × Nat
  pkg : Option (Nat × Nat)
  deriving DecidableEq, Repr

/-- The Lodge: reset sequence, ERR_N causes, AOUT balls, liveness, watchdog (chapter 03). -/
structure Lodge where
  phase : RstPhase
  /-- RST_N is held low (R62). -/
  rstNLow : Bool
  /-- 20 µs have passed since reset was asserted (t₄ of R64). -/
  t4 : Bool
  /-- Levels driven on AOUT00–AOUT31. -/
  aout : List Level
  /-- A liveness loss holds ERR_N (R75). -/
  errLive : Bool
  /-- A boot failure of R74 holds ERR_N and, for a firmware code, the AOUT balls. -/
  errBoot : Bool
  /-- A fatal cause holds ERR_N until the next device reset (R426). -/
  errFatal : Bool
  /-- Local instant at which the watchdog count last started from 0 (R82). -/
  wdgAt : Nat
  /-- Strobes that have stopped. -/
  coreStopped : Bool
  pglStopped : Bool
  fabStopped : Bool
  deriving DecidableEq, Repr

/-- Boot progress (R65 to R74, R86, R87, R511). -/
structure Boot where
  /-- Ndear-C has jumped to ENTRY (step 10 of R69). -/
  entered : Bool
  /-- The entry address taken from the firmware header. -/
  entry : Nat
  /-- Every source of the row has failed, so the boot ROM polls (R65). -/
  polling : Bool
  accepted : Option Package
  stream : Option BootStream
  card : Option CardBoot
  /-- PKG_ADDR as the PKG_CMD in progress found it (R87). -/
  pkgOff : Nat
  /-- Local instant of t₀ of R69, in ns. -/
  t0 : Nat
  /-- Block resets of the Fountain that the boot ROM has applied after failed start-ups (R71). -/
  ftnFails : Nat
  deriving DecidableEq, Repr

/-- One entry of the Gatehouse log (R501, R520). -/
structure GthEntry where
  kind : Nat
  lost : Bool
  port : Nat
  page : Nat
  offset : Nat
  deriving DecidableEq, Repr

/-- A first half of a shadow pair, pending in its page (R18). -/
structure PendingPair where
  page : Nat
  off : Nat
  value : Word
  port : Port
  deriving DecidableEq, Repr

/-- A write held by the Gatehouse while another port's pair is pending (R499). -/
structure HeldWrite where
  port : Port
  page : Nat
  off : Nat
  value : Word
  deriving DecidableEq, Repr

/-- The access of GTH_PROXY (R500): performed here as NET, or sent to the peer. -/
structure ProxyReq where
  net : Bool
  write : Bool
  pair : Bool
  addr : Nat
  value : Word
  deriving DecidableEq, Repr

/-- Write and read masks of a block index (R497). -/
structure Masks where
  wr : BitVec 9
  rd : BitVec 9
  deriving DecidableEq, Repr

/-- The Gatehouse: current masks, log, pending shadow pairs and held writes (chapter 18). -/
structure Gate where
  /-- Current masks of indices that were narrowed; the others read their loaded masks. -/
  cur : Sparse Masks
  log : List GthEntry
  /-- Pairs pending, at most one in a page (R18). -/
  pairs : List PendingPair
  held : List HeldWrite
  proxy : Option ProxyReq
  bootDone : Bool
  /-- The Lodge's copy of the current masks, from which it serves MAINT while the main domain is in reset (R513). -/
  kept : Sparse Masks
  /-- What befell the access in progress: kinds logged, and `accPair` for a shadow pair that failed (the model's own field). -/
  acc : List Nat
  deriving DecidableEq, Repr

/-- A report on its way to the Belvedere (R420, R421). -/
structure Report where
  page : Nat
  kind : Nat
  item : Nat
  cause : Nat
  cls : Nat
  addr : Nat
  inj : Bool
  /-- The page's FLT_MSK bit was set when the cause arose (R428). -/
  masked : Bool
  /-- Reactions a block rule requests, in the bit order of RCT_COR (R428, R445). -/
  want : Nat
  /-- The page a Hedge source's FENCE names (R445); otherwise the report's own target is fenced. -/
  fencePage : Option Nat
  /-- A DEVICE_RESET requested by the Hedge records HDG instead of BLV (R445). -/
  hdgReset : Bool
  /-- A device reset came between the cause and the reaction unit's step. -/
  old : Bool := false
  deriving DecidableEq, Repr

/-- One history entry (R422). `first` and `latest` are local instants in ns. -/
structure Hist where
  cls : Nat
  cause : Nat
  origin : Word
  addr : Nat
  inj : Bool
  time : Nat
  first : Nat
  latest : Nat
  witness : Nat
  req : Nat
  taken : Nat
  superseded : Bool
  lost : Bool
  deriving DecidableEq, Repr

/-- A fence in force: its target, as an origin word, and the page and cause that CAUSE_PENDING tests. -/
structure Fence where
  target : Word
  page : Nat
  cause : Nat
  deriving DecidableEq, Repr

/-- An exclusive action still within its bound (R432): what it is (0 the fence of a channel, 1 another fence, 2 a degrade, 3
HALT_ENGINE, 4 the fence of a core), the history entry that asked for it, and the local instant at which its bound ends; the fence of a channel is
within its bound until the next slot start. -/
structure Recent where
  act : Nat
  origin : Word
  cause : Nat
  addr : Nat
  till : Nat
  deriving DecidableEq, Repr

/-- The Belvedere: history, reports not yet taken, fences and HALT_ENGINE (chapter 14). -/
structure Belvedere where
  hist : List Hist
  lostNext : Bool
  incoming : List Report
  halted : Bool
  recent : List Recent
  fences : List Fence
  /-- Lifts that wait: the target, and the SLOT_CNT at which it takes effect; none where the Pergola was disabled (R433). -/
  lift : List (Word × Option Nat)
  /-- HIST1–HIST5 as latched by the last read of HIST0 (R438). -/
  latch : List Word
  deriving DecidableEq, Repr

/-- A backup alarm record (R452). -/
structure AlarmRec where
  mask : Nat
  ticks : Nat
  staValid : Bool
  deriving DecidableEq, Repr

/-- The battery-backed well (R450 to R453, R321, R334). -/
structure Well where
  /-- The check pattern reads back. -/
  pattern : Bool
  /-- BBR, when present. -/
  bbr : Option (BitVec 256)
  impNonce : Option (BitVec 128)
  zeroised : Bool
  zcnt : Nat
  records : List AlarmRec
  overflow : Nat
  /-- STA_LOSS in ns of station time, when valid. -/
  staLoss : Option Nat
  /-- Ticks of the 32.768 kHz oscillator since the changeover. -/
  ticks : Nat
  onVbat : Bool
  deriving DecidableEq, Repr

/-- The Hedge: conditions present, and sources that have raised and not been absent since (R444). -/
structure Hedge where
  active : List Nat
  raised : List Nat
  /-- Source 0 or 1 has raised and the window of source 2 runs (R441). -/
  lightWait : Option Nat
  /-- Registers found to differ from their shadows and not rewritten since (R449), by register key. -/
  mismatch : List Nat
  /-- REF_HEDGE suppresses these sources while it stimulates one (R526). -/
  suppressed : List Nat
  deriving DecidableEq, Repr

end Sys2Proof.Machine
end

