-- ==== Sys2Proof/Machine/Parts/Edge.lean ====
section
/-!
DEFINITION. State of the Kiosk tag (chapter 17), the control-core page, the host interface, the maintenance
SPI and the debug port (chapter 18) and the self-test (chapter 19).
-/
namespace Sys2Proof.Machine

/-- Tag states of R481. -/
inductive TagState where
  | powerOff | idle | ready | active | inventory | halt
  deriving DecidableEq, Repr

/-- Security sub-states of ACTIVE (R481). -/
inductive TagAuth where
  | open | pwd | aes
  deriving DecidableEq, Repr

/-- The Kiosk tag. -/
structure Kiosk where
  st : TagState
  auth : TagAuth
  /-- The state was entered from HALT, so an invalid frame returns to HALT (the star states of R481). -/
  star : Bool
  level : Nat
  /-- Handle and slot counter of an inventory round (R482). -/
  handle : Nat
  slotCtr : Nat
  /-- Staging buffer of a note: the units of 16 octets staged, by OFS (R485). -/
  staging : Sparse (List Byte)
  /-- Nonce NB pending after AUTH_1 (R487). -/
  nb : Option (List Byte)
  /-- Session key and command counter in SECURED_AES (R488). -/
  ks : Option (List Byte)
  ctr : Nat
  holdoff : Bool
  /-- Installation key K, password and whether PWD_AUTH is blocked: kept in the Kiosk's own MRAM. -/
  key : Option (List Byte)
  pwd : List Byte
  pwdSet : Bool
  fails : Nat
  blocked : Bool
  /-- A field is present, and it can support a write (R477, R478). -/
  field : Bool
  strong : Bool
  deriving DecidableEq, Repr

/-- The control-core page's own state beside its registers. -/
structure CtlPage where
  txq : List Byte
  rxq : List Byte
  /-- NMI sources pending, in the bit order of CCP_NMI (R291, R427). -/
  nmi : Nat
  deriving DecidableEq, Repr

/-- A transfer that runs: its source, destination and octets as they were when it started, and the octets moved.
(DEDUCED, log entry 4.) -/
structure Transfer where
  src : Nat
  dst : Nat
  len : Nat
  moved : Nat
  deriving DecidableEq, Repr

/-- The host link and the transfer engines (R507 to R510, R523): the HIF transfer and the CCP transfer that run. -/
structure HostLink where
  perstN : Bool
  up : Bool
  xfer : Option Transfer
  dma : Option Transfer
  deriving DecidableEq, Repr

/-- The maintenance SPI and the debug port (R511 to R518). -/
structure Debug where
  /-- STATUS of the last write and of the port (R512). -/
  msLast : Nat
  unlocked : Bool
  challenge : List Byte
  chalReady : Bool
  resp : List Byte
  verifying : Bool
  fails : Nat
  unlockSta : Nat
  /-- The result that the next Capture-DR of DBG_ACC shifts out, low octet first (R518). -/
  last : List Byte
  deriving DecidableEq, Repr

/-- The self-test in progress (R524, R530): its test, target and length, the target's registers as saved, and in REF_HEDGE
the source under stimulus with what earlier ones gave. -/
structure SelfTest where
  test : Nat
  target : Nat
  count : Nat
  saved : List (Nat × Word)
  source : Nat
  failed : Nat
  skipped : Nat
  active : Bool
  deriving DecidableEq, Repr

/-- What a test measured (R524): errors counted, supplies whose monitor failed, the eight sensors and the well sensor in
1/8 °C, whether the detector under stimulus raised within its bound, the MISR. -/
inductive TestOutcome where
  | errors (n : Nat)
  | supplies (failed : Nat)
  | temps (sensors : List Int) (well : Int)
  | hedge (raised : Bool)
  | misr (sig : Nat)
  deriving DecidableEq, Repr

end Sys2Proof.Machine
end

