-- ==== Sys2Proof/Machine/Parts/Engine.lean ====
section
/-!
DEFINITION. State of the Ndear cores (chapter 08), the Pergola (chapter 07) and the Pavilion (chapter 09),
and the on-die memories with the marks of the Bernil-256 code (R415 to R417, R435).
-/
namespace Sys2Proof.Machine

/-- The two processor kinds that run Ndear code: the Pavilion engine and the control core. -/
inductive Cpu where
  | pav | core
  deriving DecidableEq, Repr

/-- Where poisoned data came from: a word of a region, or a flit of the page that sent it (R417, R421). -/
inductive PoisonAt where
  | word (r w : Nat)
  | flit (page : Nat)
  deriving DecidableEq, Repr

/-- A result on its way to its ports (R256): it lands at the end of cycle `due`. -/
structure Landing where
  due : Nat
  /-- Ports and values written. -/
  writes : List (Nat × Word)
  /-- The load's data is poisoned, and where (R272, R286). -/
  poison : Option PoisonAt
  deriving DecidableEq, Repr

/-- A pending control transfer: target, delay bundles left, and whether it is a return from trap. -/
structure Xfer where
  target : Nat
  left : Nat
  eret : Bool
  deriving DecidableEq, Repr

/-- A repeat: the count n, the repetition k to issue next, and whether it may be interrupted (R283). -/
structure Repeat where
  n : Nat
  k : Nat
  soft : Bool
  deriving DecidableEq, Repr

/-- An AOUT request of a run (R305). -/
structure AoutReq where
  ctl : Word
  hi : Word
  lo : Word
  deriving DecidableEq, Repr

/-- An event word a run created (R306). -/
structure EvtReq where
  code : Word
  value : Word
  deriving DecidableEq, Repr

/-- A store of win0 or win1 that takes effect at the end of its issue cycle (R272): a context word, an output word, an SV
sample, a quality word, an AOUT request or an event. -/
inductive StoreOp where
  | ctx (w : Nat) (v : Word)
  | out (w : Nat) (v : Word)
  | sample (w : Nat) (n v : Word)
  | qual (w : Nat) (v : Word)
  | aout (r : AoutReq)
  | event (r : EvtReq)
  deriving DecidableEq, Repr

/-- A move to perform: its slot, its source port or none for an immediate, the immediate, and its destination (R259). -/
structure Move where
  slot : Nat
  src : Option Nat
  imm : Word
  dst : Nat
  deriving DecidableEq, Repr

/-- A trap of a cycle: code, slot and TVAL, and the poisoned word of a POISON trap (R286). -/
structure TrapAt where
  code : Nat
  slot : Nat
  tval : Word
  poison : Option PoisonAt
  deriving DecidableEq, Repr

/-- A posted store of lsu0 (R276): byte address, width in octets, value. -/
structure PostedStore where
  addr : Nat
  width : Nat
  value : Word
  deriving DecidableEq, Repr

/-- A long load of lsu0 (R276): its operation and byte address. -/
structure LongLoad where
  op : Nat
  addr : Nat
  deriving DecidableEq, Repr

/-- What the cycle in progress holds: nothing yet after a bundle, which ends its own cycle; single operations; or nothing yet after
single operations whose cycle has ended (the model's own). -/
inductive CycleUse where
  | bundle | ops | gap
  deriving DecidableEq, Repr

/-- The architectural state of an Ndear core. -/
structure Engine where
  /-- Bundle index in the code region on Ndear-P; byte address on Ndear-C (R258). -/
  pc : Nat
  /-- Guard registers g1–g7 in bits [7:1]. -/
  guards : Nat
  /-- Register n of file f at 32f + n. -/
  rf : Sparse Word
  /-- Operand latches, by port number. -/
  opnd : Sparse Word
  /-- Result ports r, r2 and f, by port number. -/
  res : Sparse Word
  /-- MAC accumulators, by unit. -/
  acc : List (Nat × Int)
  /-- Sticky saturation flags of the MAC units (R268). -/
  sticky : List Nat
  flight : List Landing
  /-- Units triggered by single operations in the cycle in progress (R257). -/
  trig : List Nat
  /-- Stores of this cycle, by unit (R272). -/
  defer : List (Nat × StoreOp)
  /-- Issue cycles so far. -/
  cycle : Nat
  use : CycleUse
  /-- Cycles in which issue stood still, as far as they were told (Ndear-C). -/
  stalls : Nat
  xfer : Option Xfer
  rep : Option Repeat
  /-- A repeat set in this cycle, for the next bundle (R283). -/
  nextRep : Option Repeat
  /-- The return stack, newest first (R281). -/
  rs : List Nat
  /-- Depth of the data stack, and its base and limit on Ndear-P as word indices (R282, R297). -/
  depth : Nat
  dsBase : Nat
  dsLimit : Nat
  -- Ndear-C only
  st : Word
  tvec : Word
  epc : Word
  cause : Word
  tval : Word
  erep : Word
  exfer : Word
  dsb : Word
  dsl : Word
  cych : Word
  scr : List Word
  stores : List PostedStore
  /-- A long load outstanding (R276). -/
  longLoad : Option LongLoad
  /-- Issue stalls at ctl.wfi (R278). -/
  waiting : Bool
  /-- Halted by DBG_CORE (R518). -/
  halted : Bool
  deriving DecidableEq, Repr

/-- A run of a channel program with its run buffer (R302). Ages grow towards the front: newest first. -/
structure Run where
  entry : Nat
  charged : Nat
  budget : Nat
  words : List (Nat × Word)
  samples : List (Nat × Nat × Word)
  quals : List (Nat × Word)
  reqs : List AoutReq
  events : List EvtReq
  deriving DecidableEq, Repr

/-- The status of a schedule entry (R252 words 2 and 3). -/
structure EntryStat where
  ovrCnt : Nat
  consec : Nat
  fenced : Bool
  stale : Bool
  lastUsed : Nat
  deriving DecidableEq, Repr

/-- An OVR_LOG entry (R251). -/
structure OvrEntry where
  entry : Nat
  kind : Nat
  lost : Bool
  slot : Nat
  deriving DecidableEq, Repr

/-- The Pergola. -/
structure Pergola where
  /-- Schedule words 0 and 1 at entry × 4 + word (R252). -/
  sched : Sparse Word
  stat : List (Nat × EntryStat)
  /-- Entries due in this slot and not yet dispatched, ascending. -/
  due : List Nat
  /-- C_k + 5 µs has passed in this slot, so dispatch goes on (R235). -/
  open5 : Bool
  run : Option Run
  /-- Charged cycles and switch costs of this slot, and runs dispatched. -/
  used : Nat
  runs : Nat
  stall : Nat
  /-- Charges of the current budget window, by class (R230). -/
  charge : Sparse Nat
  /-- Classes already counted over budget in this window. -/
  exceeded : List Nat
  heldWin : Bool
  /-- Station time of the last window restart. -/
  winAt : Nat
  log : List OvrEntry
  /-- PGL CTL.EN has read 1 since the last device reset (R236). -/
  everEnabled : Bool
  /-- Entry words 0 cleared at run time, effective at the next slot start (R236). -/
  clearing : List Nat
  /-- Owners of output words as of acceptance: (first, length, entry) of the enabled entries. -/
  owners : List (Nat × Nat × Nat)
  deriving DecidableEq, Repr

/-- An output word (R302, R303); its stale mark is that of its owner (R247). -/
structure OutWord where
  value : Word
  typ : Nat
  never : Bool
  /-- Slot starts counted when it was last committed. -/
  commit : Nat
  /-- The quality word last committed to it (R304). -/
  quality : Word
  deriving DecidableEq, Repr

/-- Run-time status of a channel (R316 words 4 and 5, R307). -/
structure Chan where
  lastCode : Nat
  /-- Slot starts counted at each of the counted traps, newest first (R311). -/
  traps : List Nat
  trapFenced : Bool
  trapCnt : Nat
  evtDrop : Nat
  svsDrop : Nat
  /-- AOUT outcomes since the previous dispatch, laid out as lt word 0xFFF8. -/
  outcome : Nat
  /-- The outcomes and the previous run's result as fixed at C_k (words 0xFFF8, 0xFFF9). -/
  outcomeK : Nat
  last : Nat
  lastK : Nat
  deriving DecidableEq, Repr

/-- An entry of the Pavilion trap log (R315). -/
structure TrapEntry where
  code : Nat
  multi : Bool
  preempt : Bool
  lost : Bool
  entry : Nat
  bundle : Nat
  mslot : Nat
  slot : Nat
  tval : Word
  deriving DecidableEq, Repr

/-- An event in the event ring (R306). -/
structure RingEvt where
  event : Nat
  entry : Nat
  stale : Bool
  lost : Bool
  record : Bool
  value : Word
  slot : Nat
  time : Nat
  deriving DecidableEq, Repr

/-- A capture in progress (R312, R313). -/
structure Capture where
  dfn : Nat
  /-- Ring offset of the record, and its length. -/
  base : Nat
  len : Nat
  pre : Nat
  /-- The named streams, H_k of each in the trigger slot, and the heads its blocks were last judged by. -/
  streams : List Nat
  heads : List (Option Nat)
  vis : List (Option Nat)
  /-- Slot starts counted at the trigger. -/
  start : Nat
  /-- Block numbers (step × NS + stream) not copied yet. -/
  left : List Nat
  /-- Header word 0. -/
  head0 : Nat
  deriving DecidableEq, Repr

/-- A control request that waits for the last run of the slot (R239): an event word on its way to the ring, or a read of CTX_DATA. -/
inductive CtlReq where
  | event (entry : Nat) (stale : Bool) (q : EvtReq)
  | ctx
  deriving DecidableEq, Repr

/-- The Pavilion. -/
structure Pavilion where
  /-- Channel descriptor words 0–3 at entry × 8 + word (R316). -/
  desc : Sparse Word
  chan : List (Nat × Chan)
  ow : Sparse OutWord
  traps : List TrapEntry
  trapLatch : List Word
  evq : List RingEvt
  evqLost : Bool
  evqLatch : List Word
  /-- Slot starts since the device reset, for AGE (R302). -/
  starts : Nat
  /-- The slot record, lt words 0xFFF0–0xFFF7 (R307). -/
  slotRec : List Word
  capDef : Sparse Word
  caps : List Capture
  /-- Control requests beyond the limit of stall cycles, oldest first (R239). -/
  ctlWait : List CtlReq
  deriving DecidableEq, Repr

/-- What is known of a 256-bit word whose check bits do not match its data (R415, R417, R435).
(DEDUCED, log entry 146.) -/
structure Mark where
  /-- Bits in error, 1 to 3. -/
  bits : Nat
  poisoned : Bool
  inj : Bool
  deriving DecidableEq, Repr

/-- The on-die memories and the MRAM, octet by octet, and the words in error, by region × 2²⁰ + word
offset (R415). -/
structure Memories where
  sample : Sparse Byte
  packet : Sparse Byte
  ctx : Sparse Byte
  table : Sparse Byte
  csram : Sparse Byte
  mram : Sparse Byte
  scratch : Sparse Byte
  kiosk : Sparse Byte
  marks : List (Nat × Mark)
  deriving DecidableEq, Repr

end Sys2Proof.Machine
end

