-- ==== Sys2Proof/Machine/Parts/Keys.lean ====
section
/-!
DEFINITION. State of the Orangery (chapter 10), the Arbour and the Fountain (chapter 11) and the Colonnade
(chapter 12).
-/
namespace Sys2Proof.Machine

/-- What one position of a key slot holds (R323, R326). -/
structure KeyPos where
  /-- AES-128, AES-256, or HMAC-SHA256, as TYPE of R323 (1, 2, 3). -/
  typ : Nat
  usage : Nat
  keyId : Nat
  /-- TAI seconds, 0 for no expiry. -/
  notAfter : Nat
  /-- The key octets, most significant first. -/
  key : List Byte
  deriving DecidableEq, Repr

/-- A key slot: CUR, NXT and whether NXT holds a retired key, the swap instant in TAI seconds, the
swap-missed mark and the station time in ns at which a retired key is zeroed (R326, R327). -/
structure KeySlot where
  cur : Option KeyPos
  nxt : Option KeyPos
  retired : Bool
  swapAt : Option Nat
  swapMiss : Bool
  retireAt : Option Nat
  deriving DecidableEq, Repr

/-- An empty key slot. -/
def KeySlot.empty : KeySlot := ⟨none, none, false, none, false, none⟩

/-- A key command in progress: what is to be done when it ends, and of a transport blob, as its checks met it, Q_E, the nonce and the
wrapped data (R320, R321, R324). -/
structure KeyCmd where
  op : Nat
  pos : Nat
  both : Bool
  slot : Nat
  qe : List Byte
  nonce : List Byte
  wrapped : List Byte
  deriving DecidableEq, Repr

/-- A queued descriptor of R332: the ring it waits in, and its index there. -/
structure Desc where
  ring : Nat
  index : Nat
  deriving DecidableEq, Repr

/-- A descriptor a core works on: AES cores 0–23, SHA-256 cores 32–47 (R420); its words and the key it
fetched when it started (R328). -/
structure CoreJob where
  core : Nat
  desc : Desc
  words : List Word
  key : List Byte
  deriving DecidableEq, Repr

/-- The Orangery. -/
structure Orangery where
  slots : Sparse KeySlot
  /-- Key-encryption key K_S, key-agreement scalar d_KA and the transport key of a LOAD in progress. -/
  kekS : Option (List Byte)
  dKA : Option Nat
  keyCmd : Option KeyCmd
  /-- Descriptors queued and not yet taken, oldest first. -/
  queue : List Desc
  jobs : List CoreJob
  /-- A zeroise runs (R332). -/
  zeroising : Bool
  deriving DecidableEq, Repr

/-- The Arbour's phases (R340). -/
inductive ArbPhase where
  | idle
  /-- Waiting for its randomness. -/
  | random
  | timed
  deriving DecidableEq, Repr

/-- Internal requests of the Arbour, taken as key-store requests (R347, R370, R388, R517, R87). -/
inductive ArbReq where
  | qKA | qID | transportLoad | attach | certCheck | unlockVerify | package
  deriving DecidableEq, Repr

/-- The operation in progress: a firmware command as ARB_CMD gave it, or an internal request. -/
inductive ArbOp where
  | fw (op : Nat) (msk : Bool) (ksrc esel words : Nat)
  | req (r : ArbReq)
  deriving DecidableEq, Repr

/-- The Arbour: phase, operation, ephemeral scalars E0–E3 and the identity scalar; its scratch memory is region 9
of the memories.
(DEDUCED, log entry 4.) -/
structure Arbour where
  phase : ArbPhase
  cur : Option ArbOp
  /-- The randomness the operation has drawn. -/
  rnd : List Byte
  /-- Internal requests that wait, oldest first. -/
  waiting : List ArbReq
  eph : List (Option Nat)
  dID : Option Nat
  /-- ARB_SRC and ARB_LEN as they were when the operation was commanded. -/
  src : Nat
  len : Nat
  deriving DecidableEq, Repr

/-- Fountain states of R361. -/
inductive FtnState where
  | reset | startup | ready | failed
  deriving DecidableEq, Repr

/-- Who waits for the DRBG (R355), in the order of its service. -/
inductive FtnReq where
  | rekey | arbour | attach
  deriving DecidableEq, Repr

/-- The Fountain: state, waiting requests, the words latched for each port and each port's last result. -/
structure Fountain where
  st : FtnState
  waiting : List FtnReq
  latch : List (Port × List Word)
  res : List (Port × Nat)
  deriving DecidableEq, Repr

/-- Pair states of R369. -/
inductive PairState where
  | off | wait | attachId | attachXfer | inStep | solo | withdrawn
  deriving DecidableEq, Repr

/-- What a twin knows of its peer: the peer waits, runs as the pair, or has withdrawn (R369).
(DESIGN CHOICE, log entry 115.) -/
inductive PeerState where
  | waiting | active | withdrawn
  deriving DecidableEq, Repr

/-- A subscribed frame this twin has placed and sent a digest record for (R373 to R375). -/
structure DigestRec where
  goose : Bool
  sub : Nat
  key : Nat
  /-- Receive timestamp and placement instant, ns of station time. -/
  rx : Nat
  placed : Nat
  digest : List Byte
  frame : List Byte
  /-- Samples of the subscription that the frame carries, from the first on. -/
  count : Nat
  matched : Bool
  /-- The frame has been forwarded to the peer (R375). -/
  forwarded : Bool
  deriving DecidableEq, Repr

/-- An attach in progress (R370): the own nonce and Q_E once made, whether the message of step 2 has left, what the peer's
carried, and the state a refusal returns a joiner to. -/
structure AttachRun where
  nonce : List Byte
  qE : List Byte
  sent : Bool
  /-- The own statement of step 4 has left. -/
  attested : Bool
  peerCert : List Byte
  peerQE : List Byte
  peerNonce : List Byte
  back : PairState
  deriving DecidableEq, Repr

/-- An entry of the takeover log (R390). -/
structure TakeEntry where
  event : Nat
  lost : Bool
  us : Nat
  slot : Nat
  deriving DecidableEq, Repr

/-- The Colonnade. -/
structure Colonnade where
  st : PairState
  donor : Bool
  attach : Option AttachRun
  /-- The session's link, digest and state keys stand. -/
  session : Bool
  /-- The link key, the digest keys DG and DH, and the state key (R370). -/
  keys : List (List Byte)
  records : List DigestRec
  /-- Digest records the peer has sent for frames not placed here yet; they hold no frame. -/
  peerRecs : List DigestRec
  /-- Versions, as SLOT_CNT, of the context units and output words a joiner holds, and the head of each stream at C_s (R372). -/
  unitVer : Sparse Nat
  heads0 : List (Nat × Nat)
  /-- The bulk is complete and the slot r − 1 units are applied, so IN_STEP begins at the next slot start. -/
  bulkDone : Bool
  /-- A detach or hand-over waiting for the next slot start (R384). -/
  leaving : Bool
  handing : Bool
  /-- The follower adopts the leader's SLOT_CNT and angle at the next boundary (R378). -/
  adopt : Option (Nat × Nat)
  /-- The peer's record of this slot. -/
  peerRec : Option (List Word)
  /-- Counters as of the slot start: source, pair and number; and what the LEAD holder's exceed them by, modulo 2¹⁶, which is
  added at the next slot start (R379). -/
  seqSnap : List (Nat × Nat × Nat)
  takeSeq : List (Nat × Nat × Nat)
  /-- The OP of a key command that waits for the peer (R385). -/
  keyWait : Option Nat
  /-- Addresses latched at the last Pergola enable: the pair MAC, management MAC and clockIdentity. -/
  latchMac : Option Nat
  latchValid : Bool
  /-- What the last heartbeats told of the peer. -/
  peer : PeerState
  /-- This twin has left its pair and withholds its outputs (R384). -/
  detached : Bool
  takes : List TakeEntry
  deriving DecidableEq, Repr

end Sys2Proof.Machine
end

