-- ==== Sys2Proof/Machine/Parts/Prm.lean ====
section
/-!
DEFINITION. State of the Promenade: tables, queues, gates, PRP/HSR pairs, MACsec associations and Folly
(chapter 05). Lane and port status stand in the register file (STA of the LNE pages, PORT_STA).
-/
namespace Sys2Proof.Machine

/-- A VLAN table entry (R186): member ports and untagged ports as bit maps, LEARN. -/
structure VlanEntry where
  members : Nat
  untagged : Nat
  learn : Bool
  deriving DecidableEq, Repr

/-- A forwarding database entry (R150, R186). `born` is the local instant it was learned or refreshed. -/
structure FdbEntry where
  mac : Nat
  vid : Nat
  port : Nat
  static : Bool
  mcast : Bool
  ports : Nat
  born : Nat
  deriving DecidableEq, Repr

/-- A proxy table entry (R160, R186). -/
structure ProxyEntry where
  mac : Nat
  vid : Nat
  pair : Nat
  seq : Nat
  deriving DecidableEq, Repr

/-- One duplicate-discard entry (R158), with the pair members that have brought a copy, bit 0 A and bit 1 B. -/
structure DupEntry where
  mac : Nat
  seq : Nat
  born : Nat
  seen : Nat
  deriving DecidableEq, Repr

/-- A sequence counter of the device for a source address and pair (R160). -/
structure SeqCtr where
  mac : Nat
  pair : Nat
  seq : Nat
  deriving DecidableEq, Repr

/-- The packet buffer region that holds a queued frame: the frame pool, the publication reserve, or the duplicate buffer
of a pair in its AUX quarter (R160, R167). -/
inductive Home where
  | pool
  | reserve
  | dup (pair : Nat)
  deriving DecidableEq, Repr

/-- A frame in an egress queue: octets without FCS, the region that holds it, the pair, source and number of a numbered
copy, which shares its buffer with the other copy in the same region (R160), whether its transmission is timestamped,
whether its FCS is to be inverted, and its receive timestamp, 0 for a frame of the device's own (R148, R151, R165, R166). -/
structure QFrame where
  octets : List Byte
  home : Home
  buf : Option (Nat × Nat × Nat)
  stamp : Bool
  badFcs : Bool
  rx : Nat
  deriving DecidableEq, Repr

/-- A gate list entry (R153, R189). -/
structure GateEntry where
  gates : Nat
  interval : Nat
  deriving DecidableEq, Repr

/-- The oper list of a port in progress (R153 to R155): gate states, the entry in force, its end in ns from the cycle start,
whether the list has run to its end and holds, the cycle time, the base time, the station time of the cycle start, BASE_SEL,
and whether it has started since GATE_EN was last set. -/
structure GateRun where
  gates : Nat
  entry : Nat
  till : Nat
  held : Bool
  cycleNs : Nat
  base : Nat
  startAt : Nat
  baseSel : Bool
  started : Bool
  deriving DecidableEq, Repr

/-- A frame Folly holds for reordering: its timestamp, the local instant it was held, and the frames still to pass
before its release (R171, R165). -/
structure FollyHeld where
  octets : List Byte
  ts : Nat
  heldAt : Nat
  left : Nat
  deriving DecidableEq, Repr

/-- A frame in Folly's delay stage: its timestamp, the local instant it came, and the instant it is released (R171). -/
structure FollyDelayed where
  octets : List Byte
  ts : Nat
  heldAt : Nat
  due : Nat
  deriving DecidableEq, Repr

/-- A running Folly program (R170 to R174). -/
structure FollyRun where
  n : Nat
  held : List FollyHeld
  delayed : List FollyDelayed
  deriving DecidableEq, Repr

/-- A frame on its way to a parse pipeline (R147): its port, octets after MACsec and PRP/HSR handling,
receive timestamp, and the pair with the source and sequence number of its trailer or tag, where the
duplicate decision waits for the tag check (R159). -/
structure ParseIn where
  port : Nat
  octets : List Byte
  ts : Nat
  dup : Option (Nat × Nat × Nat)
  /-- A record agreed over the Colonnade brings its agreed placement instant (R374, R375). -/
  agreed : Option Nat
  /-- The frame is beyond its ingest class budget and waits behind those within it (R201). -/
  late : Bool
  deriving DecidableEq, Repr

/-- The Promenade. -/
structure Promenade where
  vlan : Sparse VlanEntry
  fdb : List (Nat × FdbEntry)
  proxy : List (Nat × ProxyEntry)
  /-- Duplicate tables of enabled pairs, by pair: oldest entry first. -/
  dup : List (Nat × List DupEntry)
  seqs : List SeqCtr
  /-- Egress queues by port × 16 + class; class 8 is the publication queue (R151). -/
  queues : List (Nat × List QFrame)
  /-- Gate lists by (port × 2 + list) × 128 + entry: list 0 admin, 1 oper (R189). -/
  gcl : Sparse GateEntry
  gates : List (Nat × GateRun)
  /-- MACsec association words by the index of R190: ((((port × 2 + DIR) × 4 + SC) × 2 + SA) × 8 + WORD). -/
  ms : Sparse Word
  folly : List (Nat × FollyRun)
  /-- Folly's shift registers by port, 1 where nothing has loaded them (R172). -/
  lfsr : Sparse Word
  /-- Frames waiting for parse pipeline 0 and 1 (R146). -/
  pipe0 : List ParseIn
  pipe1 : List ParseIn
  /-- Transmit timestamps taken, latest first: port and station time (R165). -/
  txStamp : Option (Nat × Nat)
  deriving DecidableEq, Repr

end Sys2Proof.Machine
end

