-- ==== Sys2Proof/Machine/Parts/Ptr.lean ====
section
/-!
DEFINITION. State of the Parterre: what the walker delivers, SV and GOOSE subscriptions, exception logs
and publications (chapter 06). Format steps, configuration words, flags and the ID store lie in the
table memory (R293); windows lie in the sample store.
-/
namespace Sys2Proof.Machine

/-- One closed SV record of a walked frame (R197, R202). -/
structure SvRecord where
  appid : Nat
  svid : List Byte
  confRev : Nat
  smpCnt : Nat
  smpSynch : Nat
  sim : Bool
  values : List (Nat × Word)
  quals : List (Nat × Word)
  deriving DecidableEq, Repr

/-- A walked GOOSE record (R197, R211). -/
structure GooseRecord where
  appid : Nat
  gocbRef : List Byte
  datSet : List Byte
  confRev : Nat
  stNum : Nat
  sqNum : Nat
  tal : Nat
  ndsCom : Bool
  nEntries : Nat
  sim : Bool
  entries : List (Nat × Word)
  deriving DecidableEq, Repr

/-- The security fields of a walked frame (R197, R200). -/
structure WalkedTag where
  tag : Option (List Byte)
  keyId : Option Nat
  iv : List Byte
  cover : List Byte
  deriving DecidableEq, Repr

/-- What a record matched: its subscription index, and the record. -/
inductive Matched where
  | sv (index : Nat) (r : SvRecord)
  | goose (index : Nat) (r : GooseRecord)
  deriving DecidableEq, Repr

/-- A matched frame waiting for its IEC 62351-6 tag check (R200). -/
structure TagWait where
  /-- The check was stopped by a zeroise (R334), so the frame counts as a tag failure. -/
  stopped : Bool
  recs : List Matched
  tag : WalkedTag
  ts : Nat
  frame : List Byte
  dup : Option (Nat × Nat × Nat)
  agreed : Option Nat
  deriving DecidableEq, Repr

/-- A staged sample (R205): its age limit is already judged, `late` says its age exceeds LATE_US; `placed` is its placement
instant, the agreed one on a twin. -/
structure Staged where
  stream : Nat
  n : Nat
  late : Bool
  placed : Nat
  values : List (Nat × Word)
  quals : List (Nat × Word)
  sim : Bool
  sync : Bool
  deriving DecidableEq, Repr

/-- The status of an SV subscription (R203 to R209, R226 words 7 to 19). -/
structure SvStream where
  /-- H, the newest index in the window. -/
  head : Option Nat
  /-- H_k, the head the current slot sees. -/
  fixed : Option Nat
  live : Bool
  lost : Bool
  cfgErr : Bool
  simSeen : Bool
  missCnt : Nat
  oowCnt : Nat
  tagfCnt : Nat
  dupCnt : Nat
  /-- Latest quality words; empty before the first placement. -/
  quals : List Word
  /-- The newest index placed; the indices above it up to `head` are missing by the time rule (R209). -/
  newest : Nat
  /-- Positions whose frame failed its tag and that are still missing (R200). -/
  tagf : List Nat
  deriving DecidableEq, Repr

/-- The live or slot copy of a GOOSE block (R214). -/
structure GooseCopy where
  members : List Word
  stale : Bool
  cfgErr : Bool
  chg : Nat
  deriving DecidableEq, Repr

/-- The status of a GOOSE subscription (R211 to R214, R227). -/
structure GooseBlock where
  recvd : Bool
  live : GooseCopy
  slot : GooseCopy
  stNum : Nat
  sqNum : Nat
  deadline : Nat
  simSeen : Bool
  replayCnt : Nat
  tagfCnt : Nat
  /-- Records with the held stNum that brought nothing new (R212). -/
  repeats : Nat
  /-- LIVE and SIM_SEEN of the slot copy (R214, R301). -/
  slotRecvd : Bool
  slotSeen : Bool
  deriving DecidableEq, Repr

/-- An exception log entry (R215, R224). -/
structure ExcEntry where
  code : Nat
  lost : Bool
  index : Nat
  slot : Nat
  deriving DecidableEq, Repr

/-- A GOOSE publication's state (R217). -/
structure GoosePub where
  stNum : Nat
  sqNum : Nat
  /-- Members of the last state published. -/
  last : Option (List Word)
  /-- Retransmissions of the state built so far. -/
  count : Nat
  /-- The station instant of the next retransmission, once the state's first frame was handed over. -/
  due : Option Nat
  /-- Owners of its members that are due in this slot and have not ended; none where it is not to be evaluated. -/
  waits : Option (List Nat)
  /-- Station time of the state, for its t field. -/
  time : Nat
  deriving DecidableEq, Repr

/-- An SV publication's state (R218): the number of the next frame to build, frame k holding the indices k × NASDU to
(k + 1) × NASDU − 1, the later frames already built by EARLY, and the last smpCnt sent. -/
structure SvPub where
  next : Nat
  done : List Nat
  smpCnt : Nat
  deriving DecidableEq, Repr

/-- A committed SV OUTPUT sample (R218, R304): its index, value and quality. -/
structure OutSample where
  n : Nat
  value : Word
  quality : Word
  deriving DecidableEq, Repr

/-- A publication frame built and not yet handed to the Promenade (R216, R380): its entry (KIND, INDEX)
and its octets with and without the simulation indication (R175). -/
structure PubFrame where
  sv : Bool
  index : Nat
  /-- GOOSE: the state and sequence number it carries. -/
  stNum : Nat
  sqNum : Nat
  octets : List Byte
  simOctets : List Byte
  /-- Station time of its evaluation or build. -/
  made : Nat
  deriving DecidableEq, Repr

/-- The Parterre. -/
structure Parterre where
  sv : List (Nat × SvStream)
  goose : List (Nat × GooseBlock)
  staged : List Staged
  stageDrop : Nat
  /-- Samples and GOOSE records with a placement instant at or after C_k that wait for H_k on a twin exchanging digests
  (R205). -/
  stagedLate : List Staged
  gooseLate : List (Nat × GooseRecord × Nat)
  /-- Blocks that became STALE (true) or CFG_ERR (false) at or after C_k while their slot copies wait (R214). -/
  gooseNotes : List (Nat × Bool)
  /-- The slot has started and its H_k and slot copies are still to be fixed (R205). -/
  fixWait : Bool
  exc1 : List ExcEntry
  exc2 : List ExcEntry
  tagWait : List TagWait
  goosePub : List (Nat × GoosePub)
  svPub : List (Nat × SvPub)
  /-- OUTPUT buffers by output word × 64 + (n mod 64). -/
  outBuf : List (Nat × OutSample)
  built : List PubFrame
  /-- Configuration words of SV entries (PTR 1), GOOSE entries (PTR 2) and publication entries (PTR 3), by
  INDEX × 32 + WORD; on PTR 3, SV publications follow at 2²⁰ + INDEX × 32 + WORD (R226 to R228). -/
  cfg1 : Sparse Word
  cfg2 : Sparse Word
  cfg3 : Sparse Word
  /-- The Pergola has been enabled once since the last device reset (R198, R224). -/
  everEnabled : Bool
  deriving DecidableEq, Repr

end Sys2Proof.Machine
end

