-- ==== Sys2Proof/Machine/Parts/Sdl.lean ====
section
/-!
DEFINITION. State of the Sundial: station time, its sources, the grid angle, the reference channels,
slots and the compare units (chapter 04).
-/
namespace Sys2Proof.Machine

/-- Station-time states of R90. -/
inductive TimeState where
  | free | locking | locked | holdover | holdExpired
  deriving DecidableEq, Repr

/-- Station-time sources (R89, STA.TIME_SRC). -/
inductive TimeSrc where
  | none | ptp | pps | pps2
  deriving DecidableEq, Repr

/-- Angle sources of R104. -/
inductive AngleSrc where
  | free | primary | secondary
  deriving DecidableEq, Repr

/-- Slot modes of R108. -/
inductive SlotMode where
  | angle | clampHi | clampLo | realign
  deriving DecidableEq, Repr

/-- Reference-channel states of R103. -/
inductive RefState where
  | idle | acquire | locked | lost
  deriving DecidableEq, Repr

/-- A reference channel: its state, the cycles passed well in ACQUIRE, and those since LOCKED, each in parts of
`cycleParts` (R103, R104). -/
structure RefChan where
  st : RefState
  good : Nat
  lockedFor : Nat
  deriving DecidableEq, Repr

/-- A source's qualification: consecutive good intervals or edges, and whether it now qualifies. -/
structure SrcQual where
  run : Nat
  ok : Bool
  /-- Local instant of the last edge, and whether a valid IRIG frame has been matched to it. -/
  lastEdge : Option Nat
  matched : Bool
  /-- Consecutive invalid IRIG frames. -/
  bad : Nat
  /-- The offset of the last Sync interval. -/
  off : Option Int
  deriving DecidableEq, Repr

/-- What the DFT unit gives for a channel at a slot boundary (R102, R103): RMS in units of AMIN, the longest run of
unusable samples of the last cycle, the frequency estimate in Q16.16 Hz, and the fundamental's angle. -/
structure RefEst where
  rms : Nat
  badRun : Nat
  freq : Nat
  angle : Nat
  deriving DecidableEq, Repr

/-- The data set an Announce carries (R91): priority1, clockClass, clockAccuracy, offsetScaledLogVariance, priority2,
grandmasterIdentity and stepsRemoved, the sender's clockIdentity; and currentUtcOffset where it is valid. -/
structure PtpSet where
  prio1 : Nat
  clockClass : Nat
  accuracy : Nat
  variance : Nat
  prio2 : Nat
  identity : Nat
  steps : Nat
  sender : Nat
  utc : Option Nat
  deriving DecidableEq, Repr

/-- A received PTP message, as the Sundial's engine sees it (R91, R92). -/
inductive PtpMsg where
  | announce (set : PtpSet)
  /-- A Sync, with its Follow_Up where two-step, from the port's master: the corrected master time at its arrival. -/
  | sync (identity : Nat) (masterNs : Nat)
  /-- A completed peer-delay exchange and its meanLinkDelay in ns. -/
  | pdelay (ns : Nat)
  /-- A Pdelay_Req, with its sourcePortIdentity (clockIdentity × 65,536 + portNumber) and sequenceId. -/
  | pdelayReq (source seq : Nat)
  /-- A message that needs what R92 leaves out. -/
  | unsupported
  deriving DecidableEq, Repr

/-- A decoded IRIG-B frame (R94): its code B00n, whether it decoded, seconds since the start of its year, its year
(codes B004 to B007), and the control functions of IEEE C37.118.1: leap pending (0 none, 1 inserted, 2 deleted), local
offset in half hours and time quality. -/
structure IrigFrame where
  code : Nat
  valid : Bool
  secs : Nat
  year : Nat
  leap : Nat
  halfHours : Int
  quality : Nat
  deriving DecidableEq, Repr

/-- What a compare unit is armed with (R115, R116). -/
structure Armed where
  /-- An angle target (CYCLE:ANGLE), or none for a station-time or immediate action. -/
  angle : Option Nat
  /-- The station-time instant, in ns, at which the first edge is placed. -/
  due : Nat
  level : Nat
  pulse : Nat
  /-- The first edge has been placed. -/
  placed : Bool
  /-- The level in force before the first edge. -/
  prior : Level
  /-- The schedule entry whose run asked for the action, and the request's number (R305), if any. -/
  entry : Option (Nat × Nat)
  deriving DecidableEq, Repr

/-- The first edges of one ball in one 1 ns tick: the level before them, and each unit with its LEVEL (R116). -/
structure EdgeTick where
  ball : Nat
  time : Nat
  base : Level
  units : List (Nat × Nat)
  deriving DecidableEq, Repr

/-- One entry of the Sundial event log (R138). -/
structure SdlEvt where
  code : Nat
  lost : Bool
  slot : Nat
  deriving DecidableEq, Repr

/-- The Sundial. -/
structure Sundial where
  /-- Station time in ns since the TAI epoch (R88). -/
  time : Nat
  state : TimeState
  src : TimeSrc
  /-- The source before the last loss (R98). -/
  lastSrc : TimeSrc
  ptp : SrcQual
  pps : SrcQual
  pps2 : SrcQual
  /-- Consecutive corrections within ±100 ns (R90). -/
  lockRun : Nat
  /-- Offset still to be slewed, in ns. -/
  slew : Int
  /-- Local instant at which HOLDOVER was entered (R90). -/
  holdAt : Nat
  /-- Rates against SYSCLK, in parts of 10⁹, that station time takes in HOLDOVER on REF10M and on SYSCLK, as last measured in LOCKED
  (R90). -/
  rate10m : Int
  rateSys : Int
  /-- The next sequenceId of each PTP message kind of a port, by port × 8 + kind (R91). -/
  ptpSeq : Sparse Nat
  /-- A step waiting for the next slot boundary (R96). -/
  step : Option Int
  /-- Station time has held a date since reset (R94). -/
  dated : Bool
  /-- Grandmaster clockClass of the PTP source in use (R98). -/
  gmClass : Nat
  /-- Grandmaster clockIdentity (R220). -/
  gmId : Nat
  /-- The best data set each PTP port has received, by port. -/
  erbest : List (Nat × PtpSet)
  /-- A REF10M offset has been measured (R90). -/
  ref10mUsed : Bool
  /-- Slots still to be flagged TSTEP (R207). -/
  tstep : Nat
  /-- TIME_S_LO, TIME_S_HI and TIME_NS as latched (R125). -/
  timeLatch : Nat
  /-- ANGLE, CYCLE and ANG_T_NS as latched (R133). -/
  angLatch : Nat
  angLatchNs : Nat
  /-- CYCLE:ANGLE, 64 bits (R101), and the remainder of its advance in parts of 10⁹. -/
  ang : Nat
  angRem : Nat
  /-- The angle's rate in Hz, Q16.16 (R132). -/
  freq : Nat
  angSrc : AngleSrc
  pri : RefChan
  sec : RefChan
  /-- Differences secondary − primary at the last boundaries with both LOCKED (R104). -/
  ofsRun : List Nat
  learned : Bool
  /-- Mean difference at the last boundary at which both were LOCKED. -/
  ofs : Nat
  /-- Offset added to the channel in use. -/
  chanOfs : Nat
  /-- Slot boundaries left in which the tracker absorbs its difference (R106). -/
  slewFor : Nat
  /-- ANG_OFS in force, as of the last boundary (R131). -/
  angOfs : Nat
  mode : SlotMode
  /-- A REALIGN slot is due at the next boundary (R105). -/
  realign : Bool
  /-- Station time of C_k, when a slot runs. -/
  slotAt : Option Nat
  slotCnt : Nat
  /-- Armed compare units, by unit number. -/
  cmp : List (Nat × Armed)
  /-- The last first edges of each ball (R116). -/
  edges : List EdgeTick
  evt : List SdlEvt
  ppsOut : Bool
  deriving DecidableEq, Repr

end Sys2Proof.Machine
end

