-- ==== Sys2Proof/Machine/Parts/Store.lean ====
section
/-!
DEFINITION. State of the MRAM controller and the OTP row (chapter 13) and of the Potting Shed (chapter 16).
-/
namespace Sys2Proof.Machine

/-- A run of the MRAM controller (R396 to R402): its operation, first offset, units and source octets. -/
structure NvmRun where
  op : Nat
  off : Nat
  count : Nat
  done : Nat
  /-- Octets a PROGRAM writes, in order. -/
  data : List Byte
  /-- A unit is in progress; between units the run is held for budget or paused by a dip. -/
  unitOn : Bool
  /-- An operation of the card journal, which no NVM command asked for (R464). -/
  journal : Bool
  deriving DecidableEq, Repr

/-- The MRAM controller. -/
structure Nvm where
  run : Option NvmRun
  /-- A journal operation that waits for the end of a command (R464). -/
  jwait : Option NvmRun
  /-- Erases and programs are stopped by a supply dip (R44). -/
  dip : Bool
  /-- What the device itself would have written in the dip, in order: the offset, the octets, and whether it is a program
  (R44). -/
  deferred : List (Nat × List Byte × Bool)
  deriving DecidableEq, Repr

/-- The OTP row: the fuses as burned, and the once-words found uncorrectable (R406, R407), by offset. -/
structure Otp where
  row : Sparse Byte
  bad : List Nat
  deriving DecidableEq, Repr

/-- Card states of R475. -/
inductive CardState where
  | empty | debounce | powerUp | ident | recover | ready | xfer | sleepClk | sleepOff | failed
  deriving DecidableEq, Repr

/-- What the Potting Shed is doing with the card. -/
inductive CardJob where
  /-- A start-up at a step of R461; waits inside a step have numbers of their own: 0 powered off before another start, 13 until
  ACMD41 is repeated, 14 for the voltage to settle, 24 for DAT0–DAT3 to rise, 70 tuning after SLEEP_CLK. `tries` counts
  ACMD41, `mode` is the mode being tuned, `retry33` the start with S18R = 0. -/
  | start (step tries mode : Nat) (retry33 : Bool)
  /-- READ into a buffer of `count` blocks from a block on, `done` transferred. -/
  | read (lba buf count done : Nat)
  /-- A write transaction on entry j: step 1 erase, 2 old contents, 31 header, 32 old data, 33 OPEN, 4 blocks, 41 DATA_SENT, 5
  busy, 51 CMD13, 52 BUSY, 6 read-back, 61 DONE (R466); `done` blocks handled in the step. -/
  | write (step entry buf done : Nat)
  /-- Restoring entry j: step 4 blocks, 5 busy, 51 CMD13, 61 DONE and RESTORED; at start-up or after an error (R467, R468). -/
  | restore (step entry done : Nat) (startup : Bool)
  /-- The boot ROM reads `count` blocks from a block on; the octets it has got (R474). -/
  | boot (lba count : Nat) (got : List Byte)
  deriving DecidableEq, Repr

/-- What a card answers (R461, R462, R466). -/
inductive CardAnswer where
  /-- The argument that CMD8 echoes. -/
  | echo (arg : Nat)
  /-- ACMD41: the card is ready, CCS, S18A. -/
  | ocr (ready ccs s18a : Bool)
  /-- CMD11 is acknowledged; and DAT0–DAT3 read high after the switch. -/
  | accepted
  /-- CID and CSD, 16 octets each. -/
  | ident (cid csd : List Byte)
  /-- The access modes the card offers, one bit for each MAX_MODE code. -/
  | modes (mask : Nat)
  | tuned (ok : Bool)
  /-- A data block with a good CRC. -/
  | block (octets : List Byte)
  /-- The CRC status of a written block. -/
  | crc (ok : Bool)
  /-- CMD13: the tran state with READY_FOR_DATA and no error bit. -/
  | status (ok : Bool)
  /-- A response or block in error. -/
  | error
  deriving DecidableEq, Repr

/-- The Potting Shed. -/
structure Shed where
  st : CardState
  job : Option CardJob
  /-- The next block of the job is held for its background class (R233, R462). -/
  held : Bool
  inserted : Bool
  pwrEn : Bool
  vsel : Bool
  lbas : List Nat
  /-- Old contents read in step 2 of a write. -/
  old : List Byte
  cid : List Byte
  csd : List Byte
  deriving DecidableEq, Repr

end Sys2Proof.Machine
end

