-- ==== Sys2Proof/Machine/Parts/Operand.lean ====
section
/-!
DEFINITION. Operands of commands that carry more than numbers: what arrives over the Colonnade (chapter 12).
-/
namespace Sys2Proof.Machine

/-- A message of an attach (R370): step 2, step 4, and the configuration items of step 6 (R371). -/
inductive AttachMsg where
  | hello (cert qE nonce : List Byte)
  | proof (statement sig : List Byte)
  | items (fmtDigest tblDigest : List Byte) (prfAct fmax fnom : Nat)
  deriving DecidableEq, Repr

/-- A unit of the state transfer (R372).
(DESIGN CHOICE, log entry 115.) -/
inductive XferItem where
  /-- Index n of stream i: its values and flag word. -/
  | window (i n : Nat) (values : List Word) (flags : Nat)
  | goose (i stNum sqNum deadline : Nat) (members : List Word) (stale cfgErr : Bool)
  /-- 64 octets of context memory, with the SLOT_CNT of their version. -/
  | ctx (unit ver : Nat) (octets : List Byte)
  | outWord (w ver : Nat) (value : Word) (stale never : Bool) (age : Nat)
  | goosePub (i stNum sqNum : Nat) (last : List Word) (count : Nat) (due : Option Nat)
  | svPub (i next smpCnt : Nat)
  | seqCtr (mac pair seq : Nat)
  | proxyEntry (i mac vid pair seq : Nat)
  /-- SLOT_CNT, CYCLE:ANGLE, the rate and the slot record. -/
  | sundial (slotCnt angle freq : Nat) (rec : List Word)
  /-- A key position, wrapped under the state key, and the slot's swap instant. -/
  | key (slot : Nat) (nxt : Bool) (wrapped : List Byte) (swapAt : Option Nat)
  /-- The bulk is complete and the units of the slot before are applied. -/
  | complete
  deriving DecidableEq, Repr

/-- A unit a donor can send: its item exists, and its fields have their lengths (R372). -/
def XferItem.fits : XferItem → Bool
  | .window i _ vs f => decide (i < 8192) && decide (vs.length ≤ 8) && decide (f < 65536)
  | .goose i st sq _ ms _ _ => decide (i < 8192) && decide (st < 2 ^ 32) && decide (sq < 2 ^ 32) && decide (ms.length ≤ 16)
  | .ctx u ver bs => decide (u < 65536) && decide (ver < 2 ^ 32) && decide (bs.length = 64)
  | .outWord w ver _ _ _ _ => decide (w < 65536) && decide (ver < 2 ^ 32)
  | .goosePub i st sq _ _ _ => decide (i < 1024) && decide (st < 2 ^ 32) && decide (sq < 2 ^ 32)
  | .svPub i _ _ => decide (i < 256)
  | .seqCtr mac pair seq => decide (mac < 2 ^ 49) && decide (pair < 32) && decide (seq < 65536)
  | .proxyEntry i mac vid pair seq =>
    decide (i < 512) && decide (mac < 2 ^ 48) && decide (vid < 4096) && decide (pair < 32) && decide (seq < 65536)
  | .sundial c a f r => decide (c < 2 ^ 32) && decide (a < 2 ^ 64) && decide (f < 2 ^ 32) && decide (r.length = 8)
  | .key slot _ _ _ => decide (slot < 8192)
  | .complete => true

/-- A digest record as it arrives (R373).
(DESIGN CHOICE, log entry 115.) -/
structure PeerDigest where
  goose : Bool
  sub : Nat
  key : Nat
  rx : Nat
  placed : Nat
  digest : List Byte
  deriving DecidableEq, Repr

/-- A record of 32 octets spells it (R373). -/
def PeerDigest.fits (d : PeerDigest) : Bool :=
  decide (d.digest.length = 16) && decide (d.sub < 8192) && decide (d.key < 2 ^ 32)

/-- A frame that arrives over the Colonnade: one forwarded under agreed values (R375), one that the peer has numbered or
asks this twin to number (R379), one in HSR transit (R366). -/
inductive FwdFrame where
  | agreed (goose : Bool) (sub key rx placed : Nat) (octets : List Byte)
  | numbered (pair seq : Nat) (octets : List Byte)
  | toNumber (pair vid : Nat) (octets : List Byte)
  | transit (pair : Nat) (octets : List Byte)
  deriving DecidableEq, Repr

/-- Its pair, subscription, VLAN and numbers exist. -/
def FwdFrame.fits : FwdFrame → Bool
  | .agreed _ sub key _ _ _ => decide (sub < 8192) && decide (key < 2 ^ 32)
  | .numbered pair seq _ => decide (pair < 32) && decide (seq < 65536)
  | .toNumber pair vid _ => decide (pair < 32) && decide (vid < 4096)
  | .transit pair _ => decide (pair < 32)

/-- A key-replication message (R385).
(DESIGN CHOICE, log entry 115.) -/
inductive KeyMsg where
  /-- A command of the peer, for the KEY holder: its OP and operands. -/
  | request (op slot : Nat) (nxt both : Bool) (swapAt : Nat)
  /-- The KEY holder's turn for this twin's command. -/
  | grant
  | position (slot : Nat) (nxt : Bool) (wrapped : List Byte)
  | swapAt (slot at_ : Nat)
  | erase (slot : Nat) (nxt both : Bool)
  /-- The peer has applied what it was sent. -/
  | ack
  deriving DecidableEq, Repr

/-- Its slot exists (R322). -/
def KeyMsg.fits : KeyMsg → Bool
  | .request op slot _ _ _ => decide (op < 8) && decide (slot < 8192)
  | .grant => true
  | .position slot _ _ => decide (slot < 8192)
  | .swapAt slot _ => decide (slot < 8192)
  | .erase slot _ _ => decide (slot < 8192)
  | .ack => true

/-- Health-test causes of R361: which test failed on which source, or the start-up. -/
inductive HealthFail where
  | repetition (s1 : Bool) | proportion (s1 : Bool) | startup
  deriving DecidableEq, Repr

end Sys2Proof.Machine
end

