-- ==== Sys2Proof/Syntax.lean ====
section
/-!
DEFINITION. The commands the block takes: one for each row of the opcode table, with the row's operands. Register commands name
the Gatehouse port they come from; `eport` is an Ethernet port; times are in ns.
-/
namespace Sys2Proof
open Sys2Proof.Machine

/-- A command from outside, or an event inside the block that has its own instant. -/
inductive Instr where
  /-- A write to a register that has no row of its own takes effect according to its access code, after the
  Gatehouse mask, lock and reserved-bit checks (R6). -/
  | registerWrite (port : Port) (addr : Word) (value : Word)
  /-- A register access that is not an aligned 32-bit access reads zero or is discarded, and is logged as malformed (R5). -/
  | malformedAccess (port : Port) (addr : Word) (read : Bool)
  /-- A write of CTL.EN = 1 enables the block unless a claim conflict, fence or failed block check leaves EN at 0 (R11). -/
  | blockEnable (port : Port) (page : Fin 4096)
  /-- A write of CTL.SRST = 1 starts a block reset, which releases the page's claims and sets RST_BUSY (R11). -/
  | blockReset (port : Port) (page : Fin 4096)
  /-- The block reset ends, forced by the Lodge after 10 us if needed, and RST_BUSY clears within 20 us of the SRST
  write (R75). -/
  | blockResetComplete (page : Fin 4096)
  /-- A write to CLAIM claims or releases shared resources under the first-claim rule, and logs CLAIM_CONFLICT on a
  conflict (R17). -/
  | claimWrite (port : Port) (page : Fin 4096) (value : Word)
  /-- Writing LOCK.LOCKED = 1 freezes every RWL field of the page (R15). -/
  | lockWrite (port : Port) (page : Fin 4096)
  /-- A write to an RWP register leaves a value pending, and opens the 80 ns window for its inverse (R18). -/
  | shadowPrimaryWrite (port : Port) (page : Fin 4096) (offset : Fin 2048) (value : Word)
  /-- A write to a shadow offset completes a pending pair when it is the exact inverse, and otherwise raises a
  shadow event (R18). -/
  | shadowInverseWrite (port : Port) (page : Fin 4096) (offset : Fin 2048) (value : Word)
  /-- The window of a pending shadow pair expires, the pending value is discarded and a case-2 shadow event is
  raised (R19). -/
  | shadowWindowExpiry (page : Fin 4096)
  /-- The continuous comparison finds a shadowed register that differs from its inverse, and raises source 7 once
  with case 5 (R449). -/
  | shadowMismatch (page : Fin 4096) (offset : Fin 2048)
  /-- A write to PRF_SEL sets the profile, and is discarded and logged while the Pergola is enabled (R21). -/
  | prfWrite (port : Port) (value : Word)
  /-- All supplies reach their operating ranges, and the supply monitors release the internal power-on reset (R41). -/
  | powerUp (inOrder : Bool)
  /-- A supply falls below its brown-out threshold, and new MRAM erases and programs are stopped within 200 ns (R44). -/
  | supplyDip (x : Supply)
  /-- A supply that dipped recovers within 1 us, MRAM operations resume and no reset follows (R44). -/
  | supplyRecovery (x : Supply)
  /-- A supply has stayed below its threshold for 1 us, and a reset with power-on reach records BOR_SRC (R44). -/
  | brownOutReset (x : Supply)
  /-- VDDIO18 has stayed below 1.50 V for 1 us, which clears all Lodge-held state (R540). -/
  | vddio18Loss
  /-- A low pulse on RST_N passes the filter, and starts and holds a device reset with cause PIN (R62). -/
  | rstNLow
  /-- RST_N goes high, and the held reset is released (R64). -/
  | rstNRelease
  /-- 20 us after the reset is asserted it is released, and the boot starts (R64). -/
  | deviceResetRelease
  /-- The boot ROM samples the straps, loads OTP, verifies the firmware and the package, and jumps to ENTRY (R69). -/
  | bootSequence (sel : Fin 4) (twinB : Bool) (ftnOk : Bool) (avsOk : Bool) (dt : Nat)
  /-- Every 100 ms after all sources have failed, the boot ROM polls the sources of its row again (R65). -/
  | bootSourcePoll (dt : Nat)
  /-- A write of HIF_BOOT_DB by the source hands a staged chunk to the boot ROM, which checks, hashes and programs
  it (R511). -/
  | bootDoorbell (port : Port) (value : Word)
  /-- The device sends an AVSBus setpoint request, at least 1 ms after the previous one (R39). -/
  | avsRequest (mv : Fin 1024)
  /-- The regulator does not answer, and AVS_ERR is set with VDD_REQ at 800 mV (R39). -/
  | avsNoAck
  /-- The monitor declares REFCLK_A or REFCLK_B lost, and the lanes it serves lose link (R50). -/
  | refclkLoss (refclkB : Bool)
  /-- The Lodge declares SYSCLK lost, asserts ERR_N, sets the safe levels and holds a device reset (R50). -/
  | sysclkLoss
  /-- After SYSCLK has run 4,096 cycles, the held reset is released (R50). -/
  | sysclkRecovery
  /-- REF10M is declared lost, and the Sundial leaves it as holdover source (R50). -/
  | ref10mLoss
  /-- The eight sensors are converted every 100 us, which updates TEMP_MAX and THERM_N (R55). -/
  | tempConversion (temps : List Int)
  /-- A write of key 0xD5E7 to RST_REQ starts a device reset with cause SW (R80). -/
  | rstReqWrite (port : Port)
  /-- A write of key 0x2E50 to ZRQ requests a zeroise (R80). -/
  | zrqWrite (port : Port)
  /-- A write of 0x0000_C1A0 to WDG_KICK restarts the watchdog count (R82). -/
  | wdgKick (port : Port)
  /-- Half of TIMEOUT has elapsed with PRE_EN set, which raises the pre-timeout NMI (R81). -/
  | wdgPreTimeout
  /-- The watchdog count reaches TIMEOUT and starts a device reset with cause WDG (R81). -/
  | watchdogExpiry
  /-- An expected liveness strobe has been missing for 3 us, so the heartbeat gate closes, the safe levels are set
  and a LIVE reset starts (R76). -/
  | livenessLoss (x : Strobe)
  /-- A write of 0xC0F6 to PKG_CMD from CORE starts the acceptance of the package at PKG_ADDR (R87). -/
  | pkgCmdWrite (port : Port)
  /-- The package acceptance ends with a RESULT, and on OK it writes CFG_HASH and releases ERR_N (R87). -/
  | pkgAcceptComplete
  /-- A received PTP message updates the clock servo, the BMCA and the port state, or is dropped as unsupported (R91). -/
  | ptpMessageReceived (eport : Fin 256) (domain : Fin 256) (m : PtpMsg)
  /-- At each interval the device sends Announce, Sync or Pdelay_Req on its PTP ports (R91). -/
  | ptpMessageTransmit (eport : Fin 256) (kind : Fin 3)
  /-- The announce receipt timeout or 3 s without Sync loses the PTP source (R90). -/
  | ptpSourceTimeout (announce : Bool)
  /-- A PPS_IN or PPS_IN2 rising edge is sampled for qualification and discipline (R89). -/
  | ppsEdge (second : Bool)
  /-- An IRIG-B frame is decoded and checked, then matched to its PPS edge (R94). -/
  | irigFrame (second : Bool) (frame : IrigFrame)
  /-- No PPS edge has come for 2 s, and the PPS/IRIG source is lost (R90). -/
  | ppsLoss (second : Bool)
  /-- HOLDOVER has lasted MAX_S seconds, and station time enters HOLD_EXPIRED (R90). -/
  | holdExpired
  /-- A write of 0x71E5 to SET_CMD loads station time at the next 1 us tick, or is refused (R97). -/
  | setCmd (port : Port)
  /-- PPS_OUT rises at every whole TAI second of station time (R95). -/
  | ppsOutRise
  /-- PPS_OUT falls after PPS_W milliseconds (R95). -/
  | ppsOutFall
  /-- Enabling the Sundial sets the angle to 0 in FREE, starts ACQUIRE and starts the first slot (R542). -/
  | sundialEnable (port : Port)
  /-- Disabling the Sundial stops the angle and sends the reference channels to IDLE (R542). -/
  | sundialDisable (port : Port)
  /-- A locked reference channel has had no sample for 2 ms, and goes LOST (R103). -/
  | refSampleTimeout (second : Bool)
  /-- The Sundial starts slot k: SLOT_CNT increments, budget windows restart, heads and GOOSE copies are fixed, and
  keys swap and expire (R108). -/
  | slotStart (ref10m : Int) (sysclk : Int)
  /-- While the Pergola is disabled, a swap takes place within 1 us of T_s (R327). -/
  | swapTimer (at_ : Nat)
  /-- A RETIRED key is zeroed RETIRE_S seconds after the swap (R327). -/
  | retireExpiry (at_ : Nat)
  /-- At C_k + 5 us, a twin exchanging digests fixes H_k, the MISS flags and the GOOSE slot copies from agreed
  instants (R377). -/
  | slotInputFix
  /-- Each time L_min has passed since the last restart within a slot, the ingest, crypto and background budgets
  restart (R230). -/
  | budgetWindowRestart
  /-- A CMPn_ACT write with ARM_CANCEL = 1 arms unit n, or is refused as AOUT_LATE or AOUT_BUSY (R114). -/
  | cmpArm (port : Port) (unit : Fin 64) (value : Word)
  /-- A CMPn_ACT write with ARM_CANCEL = 1 while the unit is armed cancels its action (R140). -/
  | cmpCancel (port : Port) (unit : Fin 64) (value : Word)
  /-- 20 us before the predicted instant, an angle target is converted to station time again (R115). -/
  | cmpReconversion (unit : Fin 64)
  /-- An armed compare unit reaches its target and drives the ball to its level (R116). -/
  | cmpFirstEdge (unit : Fin 64)
  /-- PULSE us after the first edge, the ball returns to its prior level and the unit becomes free (R116). -/
  | cmpReturnEdge (unit : Fin 64)
  /-- A read of TIME_S_LO latches station time into the three time registers (R125). -/
  | timeSLoRead (port : Port)
  /-- A read of ANGLE latches ANGLE, CYCLE and ANG_T_NS (R133). -/
  | angleRead (port : Port)
  /-- A read of EVT returns and removes the oldest Sundial event (R138). -/
  | sdlEvtRead (port : Port)
  /-- A frame's last bit arrives at a lane, and it is timestamped, passes Folly, the MAC and FCS, MACsec and PRP/HSR
  handling, and is switched (R147). -/
  | frameReceived (eport : Fin 256) (octets : List Byte) (lead : Nat)
  /-- An egress port starts the next frame from its queues, with the publication queue first, subject to the gates (R151). -/
  | frameTransmit (eport : Fin 256)
  /-- A lane gains or loses signal, CDR lock, block lock or PCS link (R176). -/
  | laneSignalChange (lane : Fin 64) (sig : Bool) (cdr : Bool) (blk : Bool) (link : Bool) (fec : Bool) (corr : Nat) (uncorr : Nat)
  /-- SGMII or QSGMII in-band status changes the port's speed or link (R141). -/
  | phyStatusChange (eport : Fin 256) (link : Bool) (speed : Fin 8)
  /-- A write of CONFIG_CHANGE requests the admin gate list, or refuses it (R155). -/
  | gclConfigChange (port : Port) (eport : Fin 256) (value : Word)
  /-- A gate cycle starts on its compare unit or at C_k, and copies a pending admin list to oper (R154). -/
  | gateCycleStart (eport : Fin 256)
  /-- A gate list entry's interval ends, and the next entry's gate states apply (R153). -/
  | gateEntryExpiry (eport : Fin 256)
  /-- An access to GCL_DATA acts on the addressed entry and advances ENTRY (R189). -/
  | gclDataAccess (port : Port) (group : Fin 16) (write : Option Word)
  /-- A PAIR_CFG write of EN = 1 enables a PRP/HSR pair, or refuses it with its PAIR_ERR cause (R161). -/
  | pairEnable (port : Port) (pair : Fin 32) (value : Word)
  /-- A PAIR_CFG write that clears EN disables the pair and frees its table (R187). -/
  | pairDisable (port : Port) (pair : Fin 32) (value : Word)
  /-- Every 2 s the device sends PRP/HSR supervision frames for itself and its proxied SANs (R156). -/
  | supervisionTx (pair : Fin 32)
  /-- A dynamic forwarding entry ages out after AGE_S seconds (R150). -/
  | fdbAgeOut (index : Fin 65536)
  /-- TBL_CMD op 0 reads a VLAN, FDB or proxy entry into TBL_DATA (R186). -/
  | tblRead (port : Port) (table : Fin 3) (index : Fin 65536)
  /-- TBL_CMD op 1 writes an entry, subject to the STATIC and VLAN write rules (R186). -/
  | tblWrite (port : Port) (table : Fin 3) (index : Fin 65536)
  /-- TBL_CMD op 2 deletes an entry (R186). -/
  | tblDelete (port : Port) (table : Fin 3) (index : Fin 65536)
  /-- TBL_CMD op 3 searches for the key in DATA (R186). -/
  | tblSearch (port : Port) (table : Fin 3) (index : Fin 65536)
  /-- A PORT_CFG write sets the port fields; only HOST or MAINT may move STATE into or out of TEST (R169). -/
  | portCfgWrite (port : Port) (eport : Fin 256) (value : Word)
  /-- Setting FLY_CTL.RUN starts the Folly program, or refuses it (R173). -/
  | follyRunStart (port : Port) (eport : Fin 256) (value : Word)
  /-- Clearing RUN, leaving TEST or resetting the page stops the program, and its held frames are dropped (R174). -/
  | follyRunStop (port : Port) (eport : Fin 256) (value : Word)
  /-- A frame held for reorder is released 1 ms after it was held (R171). -/
  | follyReorderTimeout (eport : Fin 256)
  /-- A delayed frame is released DELAY ns after it reached the stage, timed by its compare unit (R171). -/
  | follyDelayRelease (eport : Fin 256)
  /-- A frame in a parse pipeline is walked against the first matching format slot, and emits records (R195). -/
  | frameWalk (second : Bool) (dt : Nat)
  /-- The Orangery ends the IEC 62351-6 tag check, and the record is placed or discarded as TAGF or KEYID (R200). -/
  | tagCheckDone (n : Nat) (dt : Nat)
  /-- A GOOSE block reaches its live deadline without a record, and becomes STALE (R213). -/
  | gooseStale (sub : Fin 8192)
  /-- A write of FMT_DATA_HI stores the addressed format step and advances STEP (R198). -/
  | fmtDataHiWrite (port : Port) (value : Word)
  /-- A write of ID_DATA_HI stores an ID-store unit and advances UNIT (R225). -/
  | idDataHiWrite (port : Port) (value : Word)
  /-- A read of EXC returns and removes the oldest exception (R224). -/
  | excRead (port : Port) (goose : Bool)
  /-- A GOOSE retransmission falls due, and is built with sqNum + 1 (R217). -/
  | gooseRetransmit (pub : Fin 1024)
  /-- An SV publication frame is built at t(n_last) + PDLY_US, or early when every sample is present (R218). -/
  | svFrameBuild (pub : Fin 256)
  /-- A built and tagged publication frame is handed to the Promenade's publication queue (R380). -/
  | pubFrameHandover (dt : Nat)
  /-- A write of PGL CTL.EN = 1 starts the enable check (R240). -/
  | pergolaEnable (port : Port)
  /-- The enable check ends, and either accepts the configuration or refuses with the first failing cause (R240). -/
  | enableCheckComplete (dt : Nat)
  /-- A write of PGL CTL.EN = 0 ends the promise at the next slot start (R241). -/
  | pergolaDisable (port : Port)
  /-- At C_k + 5 us, the first switch of the slot begins for the lowest due entry (R235). -/
  | firstDispatch
  /-- After the 48-cycle switch, a due entry's run starts at its entry point (R235). -/
  | runDispatch
  /-- A run's charged cycles reach BUDGET, so it is pre-empted and counted as an overrun (R243). -/
  | budgetPreempt
  /-- A schedule word write is accepted before the first enable; later only an EN clear is accepted, at the next
  slot start (R236). -/
  | schDataWrite (port : Port) (value : Word)
  /-- A read of OVR_LOG returns and removes the oldest entry (R251). -/
  | ovrLogRead (port : Port)
  /-- A bundle issues, performing its true-guarded moves after the encoding, port and conflict checks (R254). -/
  | bundleIssue (cpu : Cpu)
  /-- An operation's result lands at its unit's result port at the end of cycle c + L - 1 (R256). -/
  | resultLand (cpu : Cpu)
  /-- Between bundles, a pending enabled interrupt is taken (R291). -/
  | interruptEntry
  /-- Between bundles, a pending NMI is taken whatever IE holds (R291). -/
  | nmiEntry
  /-- After its delay bundles, a pending control transfer moves issue to its target (R278). -/
  | controlTransferTaken (cpu : Cpu)
  /-- ALU add: r = o + t (R267). -/
  | aluAdd (cpu : Cpu) (unit : Fin 4) (o : Word) (t : Word)
  /-- ALU sub: r = o - t (R267). -/
  | aluSub (cpu : Cpu) (unit : Fin 4) (o : Word) (t : Word)
  /-- ALU adds: saturating addition (R267). -/
  | aluAdds (cpu : Cpu) (unit : Fin 4) (o : Word) (t : Word)
  /-- ALU subs: saturating subtraction (R267). -/
  | aluSubs (cpu : Cpu) (unit : Fin 4) (o : Word) (t : Word)
  /-- ALU and (R267). -/
  | aluAnd (cpu : Cpu) (unit : Fin 4) (o : Word) (t : Word)
  /-- ALU or (R267). -/
  | aluOr (cpu : Cpu) (unit : Fin 4) (o : Word) (t : Word)
  /-- ALU xor (R267). -/
  | aluXor (cpu : Cpu) (unit : Fin 4) (o : Word) (t : Word)
  /-- ALU andn: o AND NOT t (R267). -/
  | aluAndn (cpu : Cpu) (unit : Fin 4) (o : Word) (t : Word)
  /-- ALU shl: shift left by t[4:0] (R267). -/
  | aluShl (cpu : Cpu) (unit : Fin 4) (o : Word) (t : Word)
  /-- ALU shr: logical shift right (R267). -/
  | aluShr (cpu : Cpu) (unit : Fin 4) (o : Word) (t : Word)
  /-- ALU sra: arithmetic shift right (R267). -/
  | aluSra (cpu : Cpu) (unit : Fin 4) (o : Word) (t : Word)
  /-- ALU min: signed minimum (R267). -/
  | aluMin (cpu : Cpu) (unit : Fin 4) (o : Word) (t : Word)
  /-- ALU max: signed maximum (R267). -/
  | aluMax (cpu : Cpu) (unit : Fin 4) (o : Word) (t : Word)
  /-- ALU minu: unsigned minimum (R267). -/
  | aluMinu (cpu : Cpu) (unit : Fin 4) (o : Word) (t : Word)
  /-- ALU maxu: unsigned maximum (R267). -/
  | aluMaxu (cpu : Cpu) (unit : Fin 4) (o : Word) (t : Word)
  /-- ALU eq: 1 when o = t (R267). -/
  | aluEq (cpu : Cpu) (unit : Fin 4) (o : Word) (t : Word)
  /-- ALU ne: 1 when o differs from t (R267). -/
  | aluNe (cpu : Cpu) (unit : Fin 4) (o : Word) (t : Word)
  /-- ALU lt: signed less-than (R267). -/
  | aluLt (cpu : Cpu) (unit : Fin 4) (o : Word) (t : Word)
  /-- ALU ltu: unsigned less-than (R267). -/
  | aluLtu (cpu : Cpu) (unit : Fin 4) (o : Word) (t : Word)
  /-- ALU ge: signed greater-or-equal (R267). -/
  | aluGe (cpu : Cpu) (unit : Fin 4) (o : Word) (t : Word)
  /-- ALU geu: unsigned greater-or-equal (R267). -/
  | aluGeu (cpu : Cpu) (unit : Fin 4) (o : Word) (t : Word)
  /-- ALU abs: saturating absolute value of t (R267). -/
  | aluAbs (cpu : Cpu) (unit : Fin 4) (o : Word) (t : Word)
  /-- ALU pass: r = t (R267). -/
  | aluPass (cpu : Cpu) (unit : Fin 4) (o : Word) (t : Word)
  /-- MAC macq: accumulates o x t and gives A rounded to Q1.31 (R268). -/
  | macMacq (cpu : Cpu) (unit : Fin 8) (o : Word) (t : Word)
  /-- MAC mul: low 32 bits of o x t (R268). -/
  | macMul (cpu : Cpu) (unit : Fin 8) (o : Word) (t : Word)
  /-- MAC mulh: high 32 bits of the signed product (R268). -/
  | macMulh (cpu : Cpu) (unit : Fin 8) (o : Word) (t : Word)
  /-- MAC mulq: product rounded to Q1.31 (R268). -/
  | macMulq (cpu : Cpu) (unit : Fin 8) (o : Word) (t : Word)
  /-- MAC mac: accumulates and gives A[31:0] (R268). -/
  | macMac (cpu : Cpu) (unit : Fin 8) (o : Word) (t : Word)
  /-- MAC clr: clears the accumulator, r and f (R268). -/
  | macClr (cpu : Cpu) (unit : Fin 8) (o : Word) (t : Word)
  /-- MAC ld: loads A with t x 2^31 (R268). -/
  | macLd (cpu : Cpu) (unit : Fin 8) (o : Word) (t : Word)
  /-- MAC rdh: reads A[63:32] (R268). -/
  | macRdh (cpu : Cpu) (unit : Fin 8) (o : Word) (t : Word)
  /-- FMA fma: o x o2 + t with one rounding (R269). -/
  | fmaFma (cpu : Cpu) (unit : Fin 4) (o : Word) (o2 : Word) (t : Word)
  /-- FMA fadd (R269). -/
  | fmaFadd (cpu : Cpu) (unit : Fin 4) (o : Word) (o2 : Word) (t : Word)
  /-- FMA fsub (R269). -/
  | fmaFsub (cpu : Cpu) (unit : Fin 4) (o : Word) (o2 : Word) (t : Word)
  /-- FMA fmul (R269). -/
  | fmaFmul (cpu : Cpu) (unit : Fin 4) (o : Word) (o2 : Word) (t : Word)
  /-- FMA fmin (R269). -/
  | fmaFmin (cpu : Cpu) (unit : Fin 4) (o : Word) (o2 : Word) (t : Word)
  /-- FMA fmax (R269). -/
  | fmaFmax (cpu : Cpu) (unit : Fin 4) (o : Word) (o2 : Word) (t : Word)
  /-- FMA fabs (R269). -/
  | fmaFabs (cpu : Cpu) (unit : Fin 4) (o : Word) (o2 : Word) (t : Word)
  /-- FMA itof: integer to binary32 (R269). -/
  | fmaItof (cpu : Cpu) (unit : Fin 4) (o : Word) (o2 : Word) (t : Word)
  /-- FMA qtof: Q1.31 to binary32 (R269). -/
  | fmaQtof (cpu : Cpu) (unit : Fin 4) (o : Word) (o2 : Word) (t : Word)
  /-- FMA ftoq: binary32 to saturating Q1.31 (R269). -/
  | fmaFtoq (cpu : Cpu) (unit : Fin 4) (o : Word) (o2 : Word) (t : Word)
  /-- FMA ftoi: binary32 to saturating integer (R269). -/
  | fmaFtoi (cpu : Cpu) (unit : Fin 4) (o : Word) (o2 : Word) (t : Word)
  /-- FMA flt: 1 when o < t (R269). -/
  | fmaFlt (cpu : Cpu) (unit : Fin 4) (o : Word) (o2 : Word) (t : Word)
  /-- FMA feq: 1 when o = t (R269). -/
  | fmaFeq (cpu : Cpu) (unit : Fin 4) (o : Word) (o2 : Word) (t : Word)
  /-- CORDIC sincos of a grid angle (R270). -/
  | corSincos (cpu : Cpu) (unit : Fin 2) (o : Word) (o2 : Word) (t : Word)
  /-- CORDIC atan2 and magnitude (R270). -/
  | corAtan2 (cpu : Cpu) (unit : Fin 2) (o : Word) (o2 : Word) (t : Word)
  /-- CORDIC rot: rotates (x, y) by an angle (R270). -/
  | corRot (cpu : Cpu) (unit : Fin 2) (o : Word) (o2 : Word) (t : Word)
  /-- DIV div: signed quotient and remainder (R271). -/
  | divDiv (cpu : Cpu) (unit : Fin 2) (o : Word) (t : Word)
  /-- DIV divu: unsigned quotient and remainder (R271). -/
  | divDivu (cpu : Cpu) (unit : Fin 2) (o : Word) (t : Word)
  /-- DIV divq: Q1.31 quotient (R271). -/
  | divDivq (cpu : Cpu) (unit : Fin 2) (o : Word) (t : Word)
  /-- Window load of a sample value and its flag word, or the slot head (R300). -/
  | winLw (unit : Fin 2) (o : Word) (d : Word) (t : Word)
  /-- Load of a context program word (R299). -/
  | winLc (unit : Fin 2) (o : Word) (d : Word) (t : Word)
  /-- Load of a constant or slot-record word (R307). -/
  | winLt (unit : Fin 2) (o : Word) (d : Word) (t : Word)
  /-- Load of a GOOSE member and its block status from the slot copy (R301). -/
  | winLg (unit : Fin 2) (o : Word) (d : Word) (t : Word)
  /-- Load of an output word and its stale mark (R302). -/
  | winLo (unit : Fin 2) (o : Word) (d : Word) (t : Word)
  /-- Piecewise-linear curve evaluation (R308). -/
  | winCrv (unit : Fin 2) (o : Word) (d : Word) (t : Word)
  /-- State-machine step giving next state and action (R309). -/
  | winFsm (unit : Fin 2) (o : Word) (d : Word) (t : Word)
  /-- Store of a context program word (R299). -/
  | winSc (unit : Fin 2) (o : Word) (d : Word) (t : Word)
  /-- Store of an output word to the run buffer (R302). -/
  | winSo (unit : Fin 2) (o : Word) (d : Word) (t : Word)
  /-- Store of an SV OUTPUT sample to the run buffer (R304). -/
  | winSs (unit : Fin 2) (o : Word) (d : Word) (t : Word)
  /-- Store of an SV OUTPUT quality word (R304). -/
  | winSq (unit : Fin 2) (o : Word) (d : Word) (t : Word)
  /-- Records an AOUT request for release at completion (R305). -/
  | winSa (unit : Fin 2) (o : Word) (d : Word) (t : Word)
  /-- Creates an event word, which may trigger a capture (R306). -/
  | winSe (unit : Fin 2) (o : Word) (d : Word) (t : Word)
  /-- Ndear-C word load (R276). -/
  | lsuLw (o : Word) (t : Word)
  /-- Ndear-C sign-extended halfword load (R276). -/
  | lsuLh (o : Word) (t : Word)
  /-- Ndear-C zero-extended halfword load (R276). -/
  | lsuLhu (o : Word) (t : Word)
  /-- Ndear-C sign-extended byte load (R276). -/
  | lsuLb (o : Word) (t : Word)
  /-- Ndear-C zero-extended byte load (R276). -/
  | lsuLbu (o : Word) (t : Word)
  /-- Ndear-C word store, posted to the store queue (R276). -/
  | lsuSw (o : Word) (d : Word) (t : Word)
  /-- Ndear-C halfword store (R276). -/
  | lsuSh (o : Word) (d : Word) (t : Word)
  /-- Ndear-C byte store (R276). -/
  | lsuSb (o : Word) (d : Word) (t : Word)
  /-- Stalls issue until every earlier store has completed (R276). -/
  | lsuSync
  /-- A posted Ndear-C store leaves the queue and reaches its memory or page (R276). -/
  | storeComplete
  /-- Jump to a bundle address after two delay bundles (R278). -/
  | ctlJmp (cpu : Cpu) (t : Word)
  /-- Relative branch (R278). -/
  | ctlBr (cpu : Cpu) (t : Word)
  /-- Pushes the return address and jumps (R278). -/
  | ctlCall (cpu : Cpu) (t : Word)
  /-- Pushes the return address and branches relative (R278). -/
  | ctlCallr (cpu : Cpu) (t : Word)
  /-- Pops the return stack and jumps there (R278). -/
  | ctlRet (cpu : Cpu)
  /-- The Ndear-P run completes: its run buffer is committed, requests are released and events delivered (R280). -/
  | ctlEnd (cpu : Cpu)
  /-- Raises BREAK after this bundle (R278). -/
  | ctlBrk (cpu : Cpu)
  /-- Returns from a trap, restoring the mode, repeat and transfer (R290). -/
  | ctlEret (cpu : Cpu)
  /-- Stalls issue until an interrupt is pending (R278). -/
  | ctlWfi (cpu : Cpu)
  /-- An interrupt becomes pending, and issue resumes after wfi (R278). -/
  | wfiResume
  /-- Pushes a word on the data stack (R282). -/
  | stkPush (cpu : Cpu) (t : Word)
  /-- Pops the data stack into stk.r (R282). -/
  | stkPop (cpu : Cpu)
  /-- Reads a word below the top of the data stack (R282). -/
  | stkPeek (cpu : Cpu) (t : Word)
  /-- Sets an interruptible repeat count for the next bundle (R283). -/
  | repT (cpu : Cpu) (t : Word)
  /-- Sets a non-interruptible repeat count for the next bundle (R283). -/
  | repTn (cpu : Cpu) (t : Word)
  /-- Signed bounds check, which traps BOUNDS on failure (R285). -/
  | bndChk (cpu : Cpu) (lo : Word) (hi : Word) (t : Word)
  /-- Unsigned bounds check (R285). -/
  | bndChku (cpu : Cpu) (lo : Word) (hi : Word) (t : Word)
  /-- Clamps to the limits and never traps (R285). -/
  | bndClp (cpu : Cpu) (lo : Word) (hi : Word) (t : Word)
  /-- The capture engine copies the window blocks of a triggered record into the ring within its background budget (R313). -/
  | captureBlockCopy (dfn : Fin 8)
  /-- An access to CTX_DATA reaches a context word, costs stall cycles and advances CTX_ADDR (R295). -/
  | ctxDataAccess (port : Port) (write : Option Word)
  /-- A read of TRAP_LOG0 removes the oldest trap and latches TRAP_LOG1-3 (R315). -/
  | trapLogRead (port : Port)
  /-- A read of EVQ0 removes the oldest event and latches EVQ1-4 (R315). -/
  | evqRead (port : Port)
  /-- KEY_CMD LOAD unwraps a storage or transport blob into a slot position after its ordered checks (R324). -/
  | load (port : Port) (nxt : Bool) (slot : Fin 8192)
  /-- A transport LOAD ends once the Arbour's ECDH has given KEK_T (R324). -/
  | transportLoadComplete
  /-- KEY_CMD SWAP_AT sets a slot's swap instant (R327). -/
  | swapAt (port : Port) (slot : Fin 8192)
  /-- KEY_CMD ERASE zeroes one or both positions of a slot (R328). -/
  | erase (port : Port) (nxt : Bool) (both : Bool) (slot : Fin 8192)
  /-- KEY_CMD EXPORT writes a storage blob of one slot position (R325). -/
  | exportBlob (port : Port) (nxt : Bool) (slot : Fin 8192)
  /-- KEY_CMD BBR_GEN draws 384 bits for BBR and IMP_NONCE, then derives the keys (R321). -/
  | bbrGen (port : Port)
  /-- KEY_CMD KEK_DERIVE derives KEK_S and d_KA and starts the Q_KA computation (R320). -/
  | kekDerive (port : Port)
  /-- A write of RING_HEAD queues firmware descriptors for the cores (R338). -/
  | ringHeadWrite (port : Port) (ring : Fin 4) (value : Word)
  /-- Clearing RING_CTL.EN ends its queued and running descriptors ABORTED (R338). -/
  | ringDisable (port : Port) (ring : Fin 4) (value : Word)
  /-- A free AES or SHA core takes the next descriptor in priority order, charging its class (R331). -/
  | coreTakeDescriptor
  /-- A core finishes a descriptor, writes DST and the tag as the outcome permits, and sets word 7 (R333). -/
  | descriptorComplete (cpu : Fin 48)
  /-- Arbour HASH of a message in control SRAM or MRAM (R339). -/
  | hash (port : Port)
  /-- Arbour ECDSA P-256 verification (R339). -/
  | p256Verify (port : Port)
  /-- Arbour ECDSA P-256 signature (R339). -/
  | p256Sign (port : Port) (ksrc : Fin 4) (esel : Fin 4)
  /-- Arbour ECDH on P-256 (R339). -/
  | p256Ecdh (port : Port) (ksrc : Fin 4) (esel : Fin 4)
  /-- Arbour P-256 key generation (R339). -/
  | p256Keygen (port : Port) (ksrc : Fin 4) (esel : Fin 4)
  /-- Arbour builds and signs an attestation statement under d_ID (R345). -/
  | attest (port : Port)
  /-- Arbour modular addition (R339). -/
  | modadd (port : Port) (masked : Bool) (words : Fin 32)
  /-- Arbour modular subtraction (R339). -/
  | modsub (port : Port) (masked : Bool) (words : Fin 32)
  /-- Arbour modular multiplication (R339). -/
  | modmul (port : Port) (masked : Bool) (words : Fin 32)
  /-- Arbour modular exponentiation (R339). -/
  | modexp (port : Port) (masked : Bool) (words : Fin 32)
  /-- Arbour CLEAR zeroes the whole scratch memory (R349). -/
  | clear (port : Port)
  /-- Arbour ABORT stops the operation and zeroes scratch within 6 us (R350). -/
  | abort (port : Port)
  /-- Once its randomness has been drawn, an Arbour operation starts its timed phase (R340). -/
  | arbTimedPhaseStart
  /-- An Arbour operation ends its timed phase and writes ARB_RES and ARB_CYC, with an interrupt (R348). -/
  | arbOperationComplete
  /-- A key-store or attach request pre-empts a running firmware operation, which ends PREEMPTED (R347). -/
  | arbPreempt
  /-- An access to SCR_DATA reaches a scratch word and advances SCR_ADDR (R360). -/
  | scrDataAccess (port : Port) (write : Option Word)
  /-- The start-up tests pass and the pool fills, the DRBG is instantiated and STATE becomes READY (R353). -/
  | fountainReady
  /-- READY has not been reached 3 ms after start, and the Fountain enters FAILED (R353). -/
  | fountainStartupTimeout
  /-- A continuous or start-up health test fails, which zeroes the DRBG and fails waiting requests (R357). -/
  | healthTestFail (cause : HealthFail)
  /-- The DRBG serves the next waiting request in priority order, reseeding after 65,536 requests (R355). -/
  | ftnRequestServed
  /-- A read of FTN_OUT0 makes a 256-bit request and latches words 1-7 for the port (R362). -/
  | ftnOut0Read (port : Port)
  /-- A write of 0x5EED to FTN_CMD reseeds the DRBG from the pool (R356). -/
  | ftnReseed (port : Port)
  /-- PAIR_EN with a CLN CTL.EN write starts the Colonnade enable check, which sends the twin to WAIT or refuses (R367). -/
  | clnEnable (port : Port)
  /-- A peer heartbeat appears on a side, and starts attach as joiner or donor (R369). -/
  | peerHeartbeatSeen (side : Fin 2) (peer : PeerState) (delay : Nat)
  /-- WAIT_MS passes with no peer heartbeat, and the twin goes SOLO (R369). -/
  | waitTimeout
  /-- 1 s after a refused attach, it is retried (R369). -/
  | attachRetry
  /-- An attach message with a certificate, ephemeral key, nonce or attestation arrives and is checked (R370). -/
  | attachMessageReceived (m : AttachMsg)
  /-- The joiner applies a bulk or delta unit of state sent by the donor (R372). -/
  | stateTransferReceived (item : XferItem)
  /-- A peer digest record is matched to a locally placed frame, and the agreed values are applied (R374). -/
  | digestRecordReceived (d : PeerDigest)
  /-- 2 us after its own record with no match, a twin forwards the whole frame (R375). -/
  | forwardTimeout
  /-- A forwarded frame is walked and placed under the sender's agreed values (R375). -/
  | forwardedFrameReceived (frame : FwdFrame)
  /-- The peer's slot record arrives for comparison (R378). -/
  | slotRecordReceived (rec_ : List Word) (roles : Fin 32) (handed : Fin 32) (leaving : Bool) (ofs : Int)
  /-- At C_k + 2 us the records differ, so both twins use the leader's record and the follower adopts its count (R378). -/
  | slotRecordSplit
  /-- The peer's counter check arrives, and a mismatch makes both twins take the LEAD counters (R379). -/
  | sequenceCheckReceived (counters : List (Nat × Nat × Nat))
  /-- The offset from the time leader has exceeded 200 ns for 1 ms (R378). -/
  | timeOffsetAlarm (ofs : Int)
  /-- No heartbeat has come on a side for 1 us, or a lane lost link, and traffic moves to the other side (R382). -/
  | sideLoss (side : Fin 2)
  /-- No heartbeat has come on either side for 1 us, and the survivor takes the roles or withdraws (R383). -/
  | peerLoss (us : Nat)
  /-- CLN_CMD ATTACH retries an attach at once (R369). -/
  | attach (port : Port)
  /-- CLN_CMD DETACH hands the roles over at the next slot start and goes OFF (R384). -/
  | detach (port : Port)
  /-- CLN_CMD HAND_ROLES moves every role to the peer at the next slot start (R384). -/
  | handRoles (port : Port)
  /-- CLN_CMD KEYSYNC copies every slot position of the KEY holder to the peer (R385). -/
  | keysync (port : Port)
  /-- A key command or wrapped slot position from the peer is applied (R385). -/
  | keyReplicationReceived (m : KeyMsg)
  /-- A propagated zeroise from the peer is performed within 1 us (R386). -/
  | zeroisePropagationReceived
  /-- A write of CERT_ADDR starts the verification of the certificate (R388). -/
  | certAddrWrite (port : Port) (value : Word)
  /-- Certificate verification ends within 5 ms and sets or clears ESTATE.VALID (R388). -/
  | certVerifyComplete
  /-- A read of TAKE_LOG removes the oldest entry (R390). -/
  | takeLogRead (port : Port)
  /-- NVM_CMD ERASE starts erasing sectors after the ordered tests (R397). -/
  | nvmErase (port : Port)
  /-- NVM_CMD PROGRAM checks every word for 0-to-1 changes and then programs the run (R398). -/
  | nvmProgram (port : Port)
  /-- NVM_CMD VERIFY reads words at the normal and margin references (R400). -/
  | nvmVerify (port : Port) (margin : Fin 4) (cmpSrc : Bool)
  /-- An erase or program unit completes, DONE increments and the next unit starts or the run ends (R399). -/
  | nvmUnitDone
  /-- A run held for budget resumes at the next window when its unit fits (R402). -/
  | nvmRunResume
  /-- The patrol scrubber reads and corrects a word in idle cycles (R416). -/
  | patrolScrubRead (region : Fin 16) (word : Nat)
  /-- Every 10 ns the Belvedere takes the new reports, writes or coalesces history and takes the combined reactions (R432). -/
  | reactionStep (dt : Nat)
  /-- A write of 0xF3CE to FENCE_CMD requests the lift of the fence named in FENCE_TGT (R433). -/
  | fenceCmd (port : Port)
  /-- A lift takes effect at the second slot start, or within 2 us while the Pergola is disabled (R433). -/
  | fenceLift (peer : Option (Word × Nat))
  /-- A write of 0xC1EA empties the history queue (R425). -/
  | histClr (port : Port)
  /-- A read of HIST0 latches the entry at HIST_IDX into HIST1-5 (R438). -/
  | hist0Read (port : Port)
  /-- Mesh photocurrent above the threshold raises source 0 (R440). -/
  | lightMesh (nanoamps : Nat)
  /-- Every 20 us the light cells are read and refreshed, raising source 1 at DECAY_TH decayed cells (R440). -/
  | lightCellRefresh (decayed : Fin 4097)
  /-- The disagreement window ends with only one light source raised, and source 2 is raised (R441). -/
  | lightDisagree
  /-- A supply has been outside its window for MIN_NS, and source 3 is raised (R442). -/
  | supplyGlitch (ns : Nat)
  /-- A short SYSCLK interval or a fast PLL period raises source 4 (R440). -/
  | clockGlitch
  /-- Every 32,768 ticks in backup the well sensor is sampled (R443). -/
  | backupTempSample (temp : Int) (ticks : Nat)
  /-- A backup source is detected, BBR is cleared and an alarm record is written (R451). -/
  | backupAlarm (mask : Fin 256) (ticks : Nat)
  /-- CD_DET_N has been low for 2 ms, insertion is declared and start-up begins (R460). -/
  | cardInsertion
  /-- CD_DET_N has been high for 2 ms, so the slot is powered off and any command ends REMOVED (R460). -/
  | cardRemoval
  /-- A card response or data block arrives and the current card operation continues (R461). -/
  | cardResponse (answer : CardAnswer) (detHigh : Bool)
  /-- The card releases DAT0 after its busy, and the journal entry advances (R466). -/
  | cardBusyRelease
  /-- The card busy lasts beyond 500 ms, and the old content is restored (R467). -/
  | cardBusyTimeout (detHigh : Bool)
  /-- PSH_CMD READ transfers blocks from the card (R462). -/
  | read (port : Port) (count : Fin 256)
  /-- PSH_CMD WRITE runs a journalled write transaction (R466). -/
  | write (port : Port) (count : Fin 256)
  /-- PSH_CMD SLEEP_CLK stops CD_CLK (R470). -/
  | sleepClk (port : Port)
  /-- PSH_CMD SLEEP_OFF powers the slot off (R470). -/
  | sleepOff (port : Port)
  /-- PSH_CMD WAKE restarts the clock or runs the start-up again (R470). -/
  | wake (port : Port)
  /-- PSH_CMD DISCARD marks every pending journal entry DONE and DISCARDED (R469). -/
  | discard (port : Port)
  /-- A reader field appears, KFD rises and the tag enters IDLE (R479). -/
  | fieldAppear (strong : Bool)
  /-- The field collapses, resetting the protocol controller to POWER_OFF (R478). -/
  | fieldCollapse
  /-- REQA moves an IDLE tag to READY (R481). -/
  | reqa
  /-- WUPA moves an IDLE or HALT tag to READY (R481). -/
  | wupa
  /-- A READY tag whose UID matches the NVB bits answers the remaining bits and BCC (R484). -/
  | anticollision (level : Fin 3) (k : Fin 40) (uid : List Byte)
  /-- SELECT with the full UID answers the SAK, and at level 2 enters ACTIVE (R481). -/
  | select (level : Fin 3) (uid : List Byte) (crcOk : Bool)
  /-- HLTA sends the tag to HALT (R481). -/
  | hlta (crcOk : Bool) (mac : List Byte)
  /-- A frame not valid in the state sends the tag to IDLE or HALT without an answer (R481). -/
  | invalidTagFrame
  /-- INV_BEGIN draws a handle and slot and starts an inventory round (R482). -/
  | invBegin (haltToo : Bool) (crcOk : Bool)
  /-- INV_NEXT advances the slot counter, and the tag answers in its slot (R482). -/
  | invNext (crcOk : Bool)
  /-- INV_ACK with the tag's handle returns its UID and moves it to READY (R482). -/
  | invAck (handle : Fin 65536) (crcOk : Bool)
  /-- INV_TREE moves the tags of the slot to READY without answering (R482). -/
  | invTree (crcOk : Bool)
  /-- The tag command READ_REC returns 16 octets of the newer valid copy of a record (R485). -/
  | readRec (rec_ : Fin 256) (ofs : Fin 256) (crcOk : Bool) (mac : List Byte)
  /-- NOTE_STAGE stores 16 octets of a note in the staging buffer (R485). -/
  | noteStage (ofs : Fin 256) (data : List Byte) (crcOk : Bool) (mac : List Byte)
  /-- NOTE_COMMIT writes the staged note by the two-copy commit (R491). -/
  | noteCommit (seq : Fin 65536) (cut : Option Nat) (crcOk : Bool) (mac : List Byte)
  /-- PWD_AUTH checks the password and enters SECURED_PWD, or counts a failure (R486). -/
  | pwdAuth (pwd : List Byte) (crcOk : Bool) (mac : List Byte)
  /-- 100 ms after a password failure, comparisons resume (R486). -/
  | pwdHoldoffExpiry
  /-- AUTH_1 draws and returns the nonce NB (R487). -/
  | auth1 (keyNo : Fin 256) (crcOk : Bool) (mac : List Byte)
  /-- AUTH_2 checks TR, answers TT and enters SECURED_AES (R487). -/
  | auth2 (na : List Byte) (tr : List Byte) (crcOk : Bool) (mac : List Byte)
  /-- REG_RD reads a register word as the KIOSK port (R489). -/
  | regRd (addr : Word) (crcOk : Bool) (mac : List Byte)
  /-- REG_WR writes a register word, or a pair, as the KIOSK port (R489). -/
  | regWr (pair : Bool) (addr : Word) (value : Word) (crcOk : Bool) (mac : List Byte)
  /-- KSK_CMD READ_REC copies the newer valid copy of a record to KSK_DATA (R493). -/
  | kskReadRec (port : Port) (rec_ : Fin 8)
  /-- KSK_CMD WRITE_REC writes a record by the two-copy commit (R491). -/
  | kskWriteRec (port : Port) (rec_ : Fin 8)
  /-- KSK_CMD KEY_FROM_SLOT copies an Orangery CUR key into K (R493). -/
  | keyFromSlot (port : Port) (slot : Fin 8192)
  /-- KSK_CMD KEY_CLEAR clears K (R493). -/
  | keyClear (port : Port)
  /-- KSK_CMD PWD_SET sets the password and lifts a block (R493). -/
  | pwdSet (port : Port)
  /-- KSK_CMD PWD_UNBLOCK lifts a block and resets the failure count (R493). -/
  | pwdUnblock (port : Port)
  /-- A write of GTH_NARROW clears bits of the current masks of one or every index (R498). -/
  | gthNarrowWrite (port : Port) (clrW : BitVec 9) (clrR : BitVec 9) (all : Bool)
  /-- GTH_PROXY_CMD read performs a read as NET locally or as TWIN on the peer (R500). -/
  | proxyRead (port : Port) (twin : Bool)
  /-- GTH_PROXY_CMD write performs a write, or a pair, as NET or TWIN (R500). -/
  | proxyWrite (port : Port) (pair : Bool) (twin : Bool)
  /-- A TWIN proxy access from the peer is performed under the TWIN masks and answered (R500). -/
  | proxyAccessReceived (write : Bool) (pair : Bool) (addr : Word) (value : Word)
  /-- The peer's answer, or its absence at 20 us or on session loss, ends the proxy command (R500). -/
  | proxyAnswerReceived (answer : Option (Nat × Word))
  /-- A read of GTH_LOG removes the oldest entry (R520). -/
  | gthLogRead (port : Port)
  /-- A comparator disagreement or parity error blocks the output, stops CORE_LIVE and reports fatal (R502). -/
  | lockstepError (parity : Bool)
  /-- A write of CCP_MASK.REKEY = 1 re-keys the bus masks from the Fountain (R503). -/
  | rekey (port : Port)
  /-- PERST_N, hot reset or link down resets the endpoint and aborts HIF transfers (R509). -/
  | pcieReset (perst : Bool)
  /-- A host BAR2 request reaches control SRAM or the sample store under HIF_WIN (R507). -/
  | bar2Access (offset : Fin 0x8000000) (count : Fin 1025) (write : Option (List Byte))
  /-- A write of HIF_F2H_SET sets doorbell bits and sends their MSI-X vectors (R522). -/
  | hifF2hSetWrite (port : Port) (value : Word)
  /-- XF_CMD GO starts a transfer from control SRAM to the host (R510). -/
  | hifTransferStart (port : Port)
  /-- The HIF transfer ends with its RESULT (R510). -/
  | hifTransferDone
  /-- DMA_CMD GO starts a CCP transfer (R523). -/
  | dmaStart (port : Port)
  /-- The CCP transfer ends with its RESULT (R523). -/
  | dmaDone
  /-- A write of UART_TX queues an octet (R523). -/
  | uartTxWrite (port : Port) (data : Byte)
  /-- A read of UART_RX removes the oldest octet (R523). -/
  | uartRxRead (port : Port)
  /-- An octet arrives on UART_RX (R515). -/
  | uartRxOctet (data : Byte)
  /-- SPI READ returns STATUS and successive words (R512). -/
  | msRead (addr : Word) (count : Nat)
  /-- SPI WRITE writes successive words (R512). -/
  | msWrite (addr : Word) (words : List Word) (cut : Bool)
  /-- SPI PAIRED presents a value and its inverse as one transaction (R512). -/
  | paired (addr : Word) (value : Word) (inverse : Word) (cut : Bool)
  /-- SPI RDSR returns the status of the last write (R512). -/
  | rdsr
  /-- SPI STAGE writes boot data into staging (R512). -/
  | stage (offset : Fin 0x1000000) (data : List Byte)
  /-- SPI BOOTDB rings the boot doorbell (R512). -/
  | bootdb (value : Word)
  /-- SPI IDENT returns DEVICE_ID and VER (R512). -/
  | ident
  /-- JTAG IDCODE shifts out 0xB640_0A6B (R516). -/
  | idcode
  /-- JTAG BYPASS, or any undecoded code (R516). -/
  | bypass (octets : List Byte)
  /-- JTAG UNLOCK_CHAL shifts out a challenge with a fresh nonce (R517). -/
  | unlockChal
  /-- JTAG UNLOCK_RESP takes a signed response for verification (R517). -/
  | unlockResp (response : List Byte)
  /-- The response is verified, and after a zeroise in OPERATIONAL the TAP unlocks or counts a failure (R517). -/
  | unlockVerifyComplete
  /-- JTAG UNLOCK_STA reads the unlock state (R517). -/
  | unlockSta
  /-- JTAG DBG_ACC makes a debug read, write or paired write at Update-DR (R518). -/
  | dbgAcc (op : Fin 4) (addr : Word) (data : Word)
  /-- JTAG DBG_CORE halts, steps or resumes Ndear-C (R518). -/
  | dbgCore (op : Fin 4)
  /-- BST test LANE_NEAR runs near-end PRBS31 loopback on an idle lane (R524). -/
  | laneNear (port : Port)
  /-- BST test LANE_FAR runs far-end loopback on an idle lane (R524). -/
  | laneFar (port : Port)
  /-- BST test CLN_NEAR loops a Colonnade lane (R524). -/
  | clnNear (port : Port)
  /-- BST test KSK_LOOP demodulates internal Type A frames (R527). -/
  | kskLoop (port : Port)
  /-- BST test REF_SUPPLY checks the supply monitor thresholds (R524). -/
  | refSupply (port : Port)
  /-- BST test REF_TEMP checks the sensors against their median (R524). -/
  | refTemp (port : Port)
  /-- BST test REF_HEDGE stimulates the selected detectors one at a time (R526). -/
  | refHedge (port : Port)
  /-- BST test LBIST runs scan patterns on an idle target and compares the MISR (R528). -/
  | lbist (port : Port)
  /-- A test ends, its target state is restored and BST_RES is written (R530). -/
  | bstTestComplete (outcome : TestOutcome)
  /-- REF10M is present again after its loss, so it is once more available as the holdover source (R90). -/
  | ref10mRecovery
  /-- VBAT falls below 2.2 V while it is the only supply, and the battery-backed well no longer holds its contents (R47). -/
  | vbatLoss
  /-- CD_VIO leaves the range selected by CD_VSEL while the slot is powered, setting SYS FLT_STA bit [5] and
  PWR_STA.CD_VIO_OK (R60). -/
  | cdVioOutOfRange
  /-- A lost Colonnade side regains link and the peer heartbeat, and it is back in use for traffic sent on both
  sides and for transit (R382). -/
  | sideRecovery (side : Fin 2)
  /-- A Hedge source's condition has been absent for 1 ms (1 s in backup), so the source can be raised again (R444). -/
  | hedgeConditionAbsent (source : Fin 8)
  /-- A card command gets no response within its limit, or a timed wait of start-up elapses (2 ms power-up, 10 ms
  ACMD41 repeat, 5 ms voltage settle, PWR_OFF_MS), so start-up proceeds, refuses or ends TIMEOUT (R461). -/
  | cardTimeout (detHigh : Bool)
  /-- PCIe link training completes after PERST_N release, and STA.BLK.LINK_UP, SPEED and WIDTH are set (R521). -/
  | pcieLinkUp (speed : Fin 5) (width : Fin 5) (bme : Bool)
  /-- The console finishes sending one octet at 115,200 baud, so UART_TX.LEVEL falls and FULL clears (R515). -/
  | uartTxOctetSent
  deriving DecidableEq, Repr

end Sys2Proof
end

