-- ==== Sys2Proof/Decode.lean ====
section
/-!
DEFINITION. The words of the opcode table. Its rows give a mnemonic, a rule and a summary and no bits: a command of this block is an
access at a port, a message or an event, and no word spells one.
-/
namespace Sys2Proof

/-- The command a word of the table spells: none, for the table gives no bits.
(DESIGN CHOICE, log entry 3.) -/
def decodeTableWord (_nbits _w : Nat) : Option Instr := none

end Sys2Proof
end

