-- ==== Sys2Proof/Config.lean ====
section
/-!
DEFINITION. What the manual leaves open and a device settles: the free values. Each is a constant with no
body, so nothing in Lean can prove a value of it. A counter in the state (`freeCtr`) tells the draws apart.
-/
namespace Sys2Proof.Config

/-- A random octet: octet i of draw n of the Fountain, of the ring oscillators or of a masked start (R352,
R355).
(DESIGN CHOICE, log entry 10.) -/
opaque randomOctet : Nat → Nat → BitVec 8
/-- A value of 32 bits that the manual leaves open, by draw number.
(DESIGN CHOICE, log entry 11.) -/
opaque freeWord : Nat → BitVec 32
/-- A choice that the manual leaves open, by draw number.
(DESIGN CHOICE, log entry 12.) -/
opaque freeNat : Nat → Nat
/-- The deviation of a CORDIC result from the exact value, in units of the last place, by operation and
operands; R270 bounds it.
(DESIGN CHOICE, log entry 13.) -/
opaque cordicError : Nat → BitVec 32 → BitVec 32 → BitVec 32 → Nat
/-- The 64-bit product of a curve segment whose exact product needs more than 64 bits: R308 forms it in 64 bits and does not say what
becomes of the rest.
(DESIGN CHOICE, log entry 14.) -/
opaque curveProduct : Int → Int → BitVec 64
/-- Whether a fused multiply-add of an infinity and a zero with a quiet-NaN addend signals invalid: IEEE 754 leaves it to
each implementation.
(DESIGN CHOICE, log entry 15.) -/
opaque fmaNanInvalid : Bool
/-- Bits [63:0] of the salt of a MACsec association of an XPN suite: word 6 of R190 holds bits [95:64] alone.
(DESIGN CHOICE, log entry 16.) -/
opaque macsecSalt : Nat → BitVec 64
/-- The SSCI of a receive association of an XPN suite, which the words of R190 do not hold.
(DESIGN CHOICE, log entry 17.) -/
opaque macsecSsci : Nat → BitVec 32
/-- The LAN an HSR-PRP RedBox interlink belongs to, by pair: LAN B or LAN A; PAIR_ILK names the network alone.
(DESIGN CHOICE, log entry 18.) -/
opaque interlinkLanB : Nat → Bool
/-- The boot-ROM table of expected LBIST signatures, by target and COUNT (R528).
(DESIGN CHOICE, log entry 19.) -/
opaque lbistGolden : Nat → Nat → BitVec 32
/-- The content of the boot ROM, octet by octet (R505).
(DESIGN CHOICE, log entry 20.) -/
opaque bootRom : Nat → BitVec 8
/-- The estimates of the DFT unit at a slot boundary for a sample rate, the ns since the newest sample, and the samples from it
back, each with whether it may be used: fundamental RMS in units of AMIN, frequency in Q16.16 Hz, and angle (R102 gives no
arithmetic).
(DESIGN CHOICE, log entry 53.) -/
opaque dft : Nat → Nat → List (Int × Bool) → Nat × Nat × Nat

/-- The AGE that a load of a never-committed output word returns, by word: R302 counts from a commit there was none of.
(DESIGN CHOICE, log entry 21.) -/
opaque neverAge : Nat → BitVec 16
/-- The value that a GOOSE member whose word is stale keeps where nothing of its publication has been published, by publication and
member: R247 keeps the value last published, and there is none.
(DESIGN CHOICE, log entry 190.) -/
opaque unpublished : Nat → Nat → BitVec 32
/-- The quality octet of a UtcTime in a published frame, by synchronisation state; R220 fixes smpSynch alone.
(DESIGN CHOICE, log entry 22.) -/
opaque timeQuality : Nat → BitVec 8
/-- The source IPv4 address of a routable publication: no register holds it.
(DESIGN CHOICE, log entry 23.) -/
opaque ownIpv4 : BitVec 32
/-- The source IPv6 address of a routable publication.
(DESIGN CHOICE, log entry 23.) -/
opaque ownIpv6 : BitVec 128
/-- Plogaley's manufacturer code, UID0 of every tag (R480 names it MC and gives no value).
(DESIGN CHOICE, log entry 24.) -/
opaque manufacturerCode : BitVec 8
/-- The SEQ that a record of the Kiosk reads while neither copy is valid, by record (R490 gives data and STATUS alone).
(DESIGN CHOICE, log entry 25.) -/
opaque emptySeq : Nat → BitVec 16

end Sys2Proof.Config
end

