-- ==== Sys2Proof/Machine/Bits.lean ====
section
/-!
DEFINITION. Bit fields of register words, octet order (R4: little-endian in the Ndear-C map), and
saturating counts: the helpers every block file uses.
-/
namespace Sys2Proof.Machine

/-- The field [hi:lo] of a word, as a number. -/
def bits (w : Word) (hi lo : Nat) : Nat := (w.toNat >>> lo) % 2 ^ (hi + 1 - lo)

/-- Bit i of a word. -/
def bitAt (w : Word) (i : Nat) : Bool := w.getLsbD i

/-- The mask with ones in [hi:lo]. -/
def fieldMask (hi lo : Nat) : Word := BitVec.ofNat 32 ((2 ^ (hi + 1 - lo) - 1) <<< lo)

/-- A word with the field [hi:lo] replaced by v (v cut to the field). -/
def putBits (w : Word) (hi lo v : Nat) : Word :=
  (w &&& ~~~ (fieldMask hi lo)) ||| BitVec.ofNat 32 ((v % 2 ^ (hi + 1 - lo)) <<< lo)

/-- A one-bit field from a flag. -/
def b2n (b : Bool) : Nat := if b then 1 else 0

/-- Counts that saturate (R422, R457, R520 and the like). -/
def satAdd (limit a b : Nat) : Nat := min limit (a + b)

/-- The four octets of a word, least significant first (R4). -/
def wordOctets (w : Word) : List Byte :=
  [w.extractLsb' 0 8, w.extractLsb' 8 8, w.extractLsb' 16 8, w.extractLsb' 24 8]

/-- The four octets of a word, most significant first (the maintenance SPI, R512). -/
def wordOctetsBE (w : Word) : List Byte := (wordOctets w).reverse

/-- A number from octets, first octet least significant. -/
def leNat : List Byte → Nat
  | [] => 0
  | b :: bs => b.toNat + 256 * leNat bs

/-- A number from octets, first octet most significant. -/
def beNat (bs : List Byte) : Nat := leNat bs.reverse

/-- n octets of a number, least significant first. -/
def natOctets : Nat → Nat → List Byte
  | 0, _ => []
  | n + 1, v => BitVec.ofNat 8 v :: natOctets n (v / 256)

/-- n octets of a number, most significant first. -/
def natOctetsBE (n v : Nat) : List Byte := (natOctets n v).reverse

/-- A word from its first four octets, little-endian; missing octets read 0. -/
def leWord (bs : List Byte) : Word := BitVec.ofNat 32 (leNat (bs.take 4))

/-- The first set bit of a mask below `n`. -/
def firstBit (m : Nat) : Nat → Option Nat
  | 0 => none
  | n + 1 => match firstBit m n with
    | some i => some i
    | none => if m.testBit n then some n else none

/-- The element at an index of a list, or a default. -/
def nth {α : Type} (xs : List α) (i : Nat) (d : α) : α := xs.getD i d

/-- A list with the element at an index replaced (unchanged beyond its end). -/
def setNth {α : Type} (xs : List α) (i : Nat) (a : α) : List α := xs.set i a

end Sys2Proof.Machine
end

