-- ==== Sys2Proof/Machine/RegMap.lean ====
section
/-!
DEFINITION. The register page map: which block owns which page (R534, R535), the registers of each
page field by field with their access codes and reset values (R6, R8 and the register tables of every
chapter), and each block's fault bits with their classes (R434).
-/
namespace Sys2Proof.Machine

/-- The blocks that own pages (R534). The four PTR pages and the PRM fabric and cluster pages differ
in their registers, so they are told apart here. -/
inductive Blk where
  | sys | ldg | gth | ccp | hif | nvm | blv | hdg | sdl | pgl | pav | ptr0 | ptr1 | ptr2 | ptr3
  | org | arb | ftn | cln | psh | ksk | bst | prm | prc | fly | lne
  deriving DecidableEq, Repr

/-- Access codes of R6. -/
inductive Acc where
  | rw | ro | w1c | wo | rwl | rwp
  deriving DecidableEq, Repr

/-- One field of a register: bits [hi:lo], its access code and its reset value. -/
structure Fld where
  hi : Nat
  lo : Nat
  acc : Acc
  rst : Nat
  deriving DecidableEq, Repr

/-- A register, or an array of `cnt` like registers `stride` apart. -/
structure RegSpec where
  off : Nat
  stride : Nat
  cnt : Nat
  flds : List Fld
  deriving DecidableEq, Repr

/-- The bits of a register that carry access code a. -/
def RegSpec.mask (r : RegSpec) (a : Acc) : Word :=
  r.flds.foldl (fun w f => if f.acc = a then w ||| fieldMask f.hi f.lo else w) 0

/-- The value a register takes at a reset that reaches it. -/
def RegSpec.reset (r : RegSpec) : Word :=
  r.flds.foldl (fun w f => w ||| BitVec.ofNat 32 ((f.rst % 2 ^ (f.hi + 1 - f.lo)) <<< f.lo)) 0

/-- Whether a register (or one of its array) lies at an offset. -/
def RegSpec.at? (r : RegSpec) (o : Nat) : Bool :=
  decide (r.off ≤ o) && decide (o < r.off + r.stride * r.cnt) && decide ((o - r.off) % r.stride = 0)

namespace Reg.Sys
abbrev PRF : Nat := 0x040
abbrev TEMP_MAX : Nat := 0x044
abbrev THERM_CFG : Nat := 0x048
abbrev AVS_STA : Nat := 0x04C
abbrev PWR_STA : Nat := 0x050
end Reg.Sys

namespace Reg.Ldg
abbrev RST_CAUSE : Nat := 0x040
abbrev RST_REQ : Nat := 0x044
abbrev ZRQ : Nat := 0x048
abbrev WDG_CFG : Nat := 0x04C
abbrev WDG_KICK : Nat := 0x050
abbrev WDG_CNT : Nat := 0x054
abbrev AOUT_SAFE (i : Nat) : Nat := 0x058 + 0x004 * i
abbrev LIVE_STA : Nat := 0x060
abbrev BOOT_STA : Nat := 0x064
abbrev BOOT_TIME : Nat := 0x068
abbrev PKG_ADDR : Nat := 0x06C
abbrev PKG_CMD : Nat := 0x070
abbrev CFG_HASH (i : Nat) : Nat := 0x080 + 0x004 * i
end Reg.Ldg

namespace Reg.Gth
abbrev GTH_IDX : Nat := 0x040
abbrev GTH_CUR : Nat := 0x044
abbrev GTH_OTP : Nat := 0x048
abbrev GTH_NARROW : Nat := 0x04C
abbrev GTH_LOG : Nat := 0x050
abbrev GTH_LOG_CNT : Nat := 0x054
abbrev GTH_PROXY_ADDR : Nat := 0x058
abbrev GTH_PROXY_DATA : Nat := 0x05C
abbrev GTH_PROXY_CMD : Nat := 0x060
abbrev MS_F2M_SET : Nat := 0x064
abbrev MS_F2M : Nat := 0x068
abbrev MS_M2F_SET : Nat := 0x06C
abbrev MS_M2F : Nat := 0x070
end Reg.Gth

namespace Reg.Ccp
abbrev CCP_IE : Nat := 0x040
abbrev CCP_IP : Nat := 0x044
abbrev CCP_NMI : Nat := 0x048
abbrev CCP_MASK : Nat := 0x04C
abbrev UART_TX : Nat := 0x050
abbrev UART_RX : Nat := 0x054
abbrev DMA_SRC : Nat := 0x060
abbrev DMA_DST : Nat := 0x064
abbrev DMA_LEN : Nat := 0x068
abbrev DMA_CMD : Nat := 0x06C
end Reg.Ccp

namespace Reg.Hif
abbrev HIF_WIN : Nat := 0x040
abbrev HIF_H2F_SET : Nat := 0x044
abbrev HIF_H2F : Nat := 0x048
abbrev HIF_F2H_SET : Nat := 0x04C
abbrev HIF_F2H : Nat := 0x050
abbrev HIF_BOOT_DB : Nat := 0x054
abbrev HIF_BOOT_STA : Nat := 0x058
abbrev XF_SRC : Nat := 0x060
abbrev XF_DST_LO : Nat := 0x064
abbrev XF_DST_HI : Nat := 0x068
abbrev XF_LEN : Nat := 0x06C
abbrev XF_CMD : Nat := 0x070
end Reg.Hif

namespace Reg.Nvm
abbrev NVM_CMD : Nat := 0x040
abbrev NVM_ADDR : Nat := 0x044
abbrev NVM_SRC : Nat := 0x048
abbrev NVM_CNT : Nat := 0x04C
abbrev NVM_RES : Nat := 0x050
abbrev ECC_CNT : Nat := 0x054
abbrev ECC_LAST : Nat := 0x058
abbrev XO_FIRST (i : Nat) : Nat := 0x080 + 0x008 * i
abbrev XO_LAST (i : Nat) : Nat := 0x084 + 0x008 * i
end Reg.Nvm

namespace Reg.Blv
abbrev BLV_CFG : Nat := 0x040
abbrev RCT_COR : Nat := 0x044
abbrev RCT_UNC : Nat := 0x048
abbrev RCT_FAT : Nat := 0x04C
abbrev HIST_IDX : Nat := 0x050
abbrev HIST (i : Nat) : Nat := 0x054 + 0x004 * i
abbrev HIST_CNT : Nat := 0x06C
abbrev HIST_CLR : Nat := 0x070
abbrev OUTSTANDING : Nat := 0x074
abbrev CODE_STA : Nat := 0x078
abbrev FENCE_TGT : Nat := 0x07C
abbrev FENCE_CMD : Nat := 0x080
abbrev FENCE_STA : Nat := 0x084
abbrev DEG_AES : Nat := 0x088
abbrev DEG_SHA : Nat := 0x08C
abbrev RCT (i : Nat) : Nat := 0x100 + 0x004 * i
end Reg.Blv

namespace Reg.Hdg
abbrev SRC_CFG0 : Nat := 0x040
abbrev SRC_CFG1 (i : Nat) : Nat := 0x044 + 0x004 * i
abbrev SRC_CFG3 : Nat := 0x04C
abbrev SRC_CFG4 : Nat := 0x050
abbrev SRC_CFG5 (i : Nat) : Nat := 0x054 + 0x004 * i
abbrev SRC_CFG7 : Nat := 0x05C
abbrev LIGHT_CFG : Nat := 0x060
abbrev TEMP_CFG : Nat := 0x064
abbrev GLITCH_CFG : Nat := 0x068
abbrev SHD_LOG : Nat := 0x06C
abbrev SHD_CNT : Nat := 0x070
abbrev BK_STA : Nat := 0x074
end Reg.Hdg

namespace Reg.Sdl
abbrev SRC_CFG : Nat := 0x040
abbrev PTP_CFG : Nat := 0x044
abbrev SDL_FMAX : Nat := 0x048
abbrev FNOM_CFG : Nat := 0x04C
abbrev TIME_S_LO : Nat := 0x050
abbrev TIME_S_HI : Nat := 0x054
abbrev TIME_NS : Nat := 0x058
abbrev UTC_OFS : Nat := 0x05C
abbrev PTP_STA : Nat := 0x060
abbrev HOLD_CFG : Nat := 0x064
abbrev REF_PRI : Nat := 0x068
abbrev REF_SEC : Nat := 0x06C
abbrev TRK_CFG : Nat := 0x070
abbrev ANG_OFS : Nat := 0x074
abbrev FREQ : Nat := 0x078
abbrev ANGLE : Nat := 0x07C
abbrev CYCLE : Nat := 0x080
abbrev ANG_T_NS : Nat := 0x084
abbrev SLOT_CNT : Nat := 0x088
abbrev SLOT_LEN : Nat := 0x08C
abbrev PIN_ALT : Nat := 0x090
abbrev AOUT_OE : Nat := 0x094
abbrev SET_S_LO : Nat := 0x098
abbrev SET_S_HI : Nat := 0x09C
abbrev SET_NS : Nat := 0x0A0
abbrev SET_CMD : Nat := 0x0A4
abbrev EVT : Nat := 0x0A8
abbrev CMP_CFG (i : Nat) : Nat := 0x400 + 0x010 * i
abbrev CMP_TGT_LO (i : Nat) : Nat := 0x404 + 0x010 * i
abbrev CMP_TGT_HI (i : Nat) : Nat := 0x408 + 0x010 * i
abbrev CMP_ACT (i : Nat) : Nat := 0x40C + 0x010 * i
end Reg.Sdl

namespace Reg.Pgl
abbrev PGL_CFG : Nat := 0x040
abbrev EN_ERR : Nat := 0x044
abbrev ADM_A : Nat := 0x048
abbrev ADM_PEAK : Nat := 0x04C
abbrev ADM_GUARD : Nat := 0x050
abbrev CAP_CRY : Nat := 0x054
abbrev CAP_ING : Nat := 0x058
abbrev PUB_QCLASS : Nat := 0x05C
abbrev SLOT_USE : Nat := 0x060
abbrev OVR_LOG : Nat := 0x064
abbrev SCH_ADDR : Nat := 0x068
abbrev SCH_DATA : Nat := 0x06C
abbrev ICLS (i : Nat) : Nat := 0x100 + 0x004 * i
abbrev QCLS (i : Nat) : Nat := 0x140 + 0x004 * i
abbrev BCLS (i : Nat) : Nat := 0x180 + 0x004 * i
abbrev CLS_OVR (i : Nat) : Nat := 0x240 + 0x004 * i
end Reg.Pgl

namespace Reg.Pav
abbrev PAV_CFG : Nat := 0x040
abbrev CHN_ADDR : Nat := 0x044
abbrev CHN_DATA : Nat := 0x048
abbrev OW_ADDR : Nat := 0x04C
abbrev OW_VAL : Nat := 0x050
abbrev OW_META : Nat := 0x054
abbrev CTX_ADDR : Nat := 0x058
abbrev CTX_DATA : Nat := 0x05C
abbrev TRAP_LOG0 : Nat := 0x060
abbrev TRAP_LOG1 : Nat := 0x064
abbrev TRAP_LOG2 : Nat := 0x068
abbrev TRAP_LOG3 : Nat := 0x06C
abbrev EVQ_STA : Nat := 0x070
abbrev EVQ0 : Nat := 0x074
abbrev EVQ1 : Nat := 0x078
abbrev EVQ2 : Nat := 0x07C
abbrev EVQ3 : Nat := 0x080
abbrev EVQ4 : Nat := 0x084
abbrev CAP_BUF_BASE : Nat := 0x088
abbrev CAP_BUF_LEN : Nat := 0x08C
abbrev CAP_WR : Nat := 0x090
abbrev CAP_FREE : Nat := 0x094
abbrev CAP_STA : Nat := 0x098
abbrev CAP_ADDR : Nat := 0x09C
abbrev CAP_DATA : Nat := 0x0A0
abbrev TBL_DIGEST (i : Nat) : Nat := 0x0C0 + 0x004 * i
end Reg.Pav

namespace Reg.Ptr0
abbrev FMT_ADDR : Nat := 0x040
abbrev FMT_DATA_LO : Nat := 0x044
abbrev FMT_DATA_HI : Nat := 0x048
abbrev WALK_CNT : Nat := 0x04C
abbrev WALK_ERR : Nat := 0x050
abbrev FMT_DIGEST (i : Nat) : Nat := 0x080 + 0x004 * i
abbrev FMT_MATCH (i : Nat) : Nat := 0x100 + 0x004 * i
end Reg.Ptr0

namespace Reg.Ptr1
abbrev ADDR : Nat := 0x040
abbrev DATA : Nat := 0x044
abbrev STRM_CFG : Nat := 0x048
abbrev STG_STA : Nat := 0x04C
abbrev EXC : Nat := 0x050
abbrev ID_ADDR : Nat := 0x054
abbrev ID_DATA_LO : Nat := 0x058
abbrev ID_DATA_HI : Nat := 0x05C
end Reg.Ptr1

namespace Reg.Ptr2
abbrev ADDR : Nat := 0x040
abbrev DATA : Nat := 0x044
abbrev EXC : Nat := 0x050
end Reg.Ptr2

namespace Reg.Ptr3
abbrev ADDR : Nat := 0x040
abbrev DATA : Nat := 0x044
end Reg.Ptr3

namespace Reg.Org
abbrev ORG_CFG : Nat := 0x040
abbrev KEK_STA : Nat := 0x044
abbrev KEY_CMD : Nat := 0x048
abbrev KEY_ADDR : Nat := 0x04C
abbrev KEY_ARG0 : Nat := 0x050
abbrev KEY_ARG1 : Nat := 0x054
abbrev KEY_RES : Nat := 0x058
abbrev SLOT_ADDR : Nat := 0x05C
abbrev SLOT_INFO : Nat := 0x060
abbrev SLOT_CUR_KEYID : Nat := 0x064
abbrev SLOT_NXT_KEYID : Nat := 0x068
abbrev SLOT_SWAP_LO : Nat := 0x06C
abbrev SLOT_SWAP_HI : Nat := 0x070
abbrev IMP_NONCE (i : Nat) : Nat := 0x074 + 0x004 * i
abbrev KA_PUB (i : Nat) : Nat := 0x084 + 0x004 * i
abbrev ZCNT : Nat := 0x0C4
abbrev CORE_STA : Nat := 0x0C8
abbrev SHA_STA : Nat := 0x0CC
abbrev RING_BASE (i : Nat) : Nat := 0x100 + 0x010 * i
abbrev RING_CTL (i : Nat) : Nat := 0x104 + 0x010 * i
abbrev RING_HEAD (i : Nat) : Nat := 0x108 + 0x010 * i
abbrev RING_TAIL (i : Nat) : Nat := 0x10C + 0x010 * i
end Reg.Org

namespace Reg.Arb
abbrev ARB_CMD : Nat := 0x040
abbrev ARB_RES : Nat := 0x044
abbrev ARB_CYC : Nat := 0x048
abbrev ARB_CFG : Nat := 0x04C
abbrev ARB_SRC : Nat := 0x050
abbrev ARB_LEN : Nat := 0x054
abbrev SCR_ADDR : Nat := 0x058
abbrev SCR_DATA : Nat := 0x05C
abbrev FW_HASH (i : Nat) : Nat := 0x060 + 0x004 * i
abbrev ID_PUB (i : Nat) : Nat := 0x080 + 0x004 * i
end Reg.Arb

namespace Reg.Ftn
abbrev FTN_CFG : Nat := 0x040
abbrev FTN_RES : Nat := 0x044
abbrev FTN_OUT (i : Nat) : Nat := 0x048 + 0x004 * i
abbrev REQ_CNT : Nat := 0x068
abbrev RESEEDS : Nat := 0x06C
abbrev FTN_CMD : Nat := 0x070
abbrev HLT_STA : Nat := 0x074
end Reg.Ftn

namespace Reg.Cln
abbrev CLN_CFG : Nat := 0x040
abbrev CLN_CMD : Nat := 0x044
abbrev CLN_ERR : Nat := 0x048
abbrev CERT_ADDR : Nat := 0x04C
abbrev ESTATE : Nat := 0x050
abbrev ROLE_STA : Nat := 0x054
abbrev SIDE_STA : Nat := 0x058
abbrev TIME_OFS : Nat := 0x05C
abbrev CAP_FWD : Nat := 0x060
abbrev CAP_DIRTY : Nat := 0x064
abbrev TAKE_LOG : Nat := 0x068
abbrev CNT_FWD : Nat := 0x06C
abbrev CNT_MIS : Nat := 0x070
abbrev PEER_ID (i : Nat) : Nat := 0x074 + 0x004 * i
abbrev FWD_LEN (i : Nat) : Nat := 0x100 + 0x004 * i
abbrev CL_STA (i : Nat) : Nat := 0x140 + 0x010 * i
abbrev CL_TXEQ (i : Nat) : Nat := 0x144 + 0x010 * i
abbrev CL_LPBK (i : Nat) : Nat := 0x148 + 0x010 * i
abbrev CL_ERR (i : Nat) : Nat := 0x14C + 0x010 * i
end Reg.Cln

namespace Reg.Psh
abbrev PSH_CFG : Nat := 0x040
abbrev PSH_CMD : Nat := 0x044
abbrev PSH_LBA : Nat := 0x048
abbrev PSH_LIST : Nat := 0x04C
abbrev PSH_BUF : Nat := 0x050
abbrev PSH_RES : Nat := 0x054
abbrev CARD_INFO : Nat := 0x058
abbrev CARD_CID (i : Nat) : Nat := 0x05C + 0x004 * i
abbrev CARD_HASH (i : Nat) : Nat := 0x06C + 0x004 * i
abbrev JRNL_STA : Nat := 0x08C
end Reg.Psh

namespace Reg.Ksk
abbrev KSK_CFG : Nat := 0x040
abbrev KSK_CMD : Nat := 0x044
abbrev KSK_RES : Nat := 0x048
abbrev KSK_UID (i : Nat) : Nat := 0x04C + 0x004 * i
abbrev KSK_CNT : Nat := 0x054
abbrev KSK_DATA (i : Nat) : Nat := 0x080 + 0x004 * i
end Reg.Ksk

namespace Reg.Bst
abbrev BST_CMD : Nat := 0x040
abbrev BST_ARG0 : Nat := 0x044
abbrev BST_ARG1 : Nat := 0x048
abbrev BST_RES : Nat := 0x04C
abbrev BST_ERR : Nat := 0x050
abbrev BST_SIG : Nat := 0x054
abbrev BST_EXP : Nat := 0x058
abbrev BST_MEAS : Nat := 0x05C
end Reg.Bst

namespace Reg.Prm
abbrev FAB_CFG : Nat := 0x040
abbrev FDB_AGE : Nat := 0x044
abbrev DD_AGE : Nat := 0x048
abbrev POOL_STA : Nat := 0x04C
abbrev PAIR_ERR : Nat := 0x050
abbrev TBL_CMD : Nat := 0x054
abbrev TBL_DATA (i : Nat) : Nat := 0x060 + 0x004 * i
abbrev PAIR_CFG (i : Nat) : Nat := 0x100 + 0x008 * i
abbrev PAIR_ILK (i : Nat) : Nat := 0x104 + 0x008 * i
end Reg.Prm

namespace Reg.Prc
abbrev GCL_ADDR : Nat := 0x040
abbrev GCL_DATA : Nat := 0x044
abbrev MS_ADDR : Nat := 0x048
abbrev MS_DATA : Nat := 0x04C
abbrev PORT_CFG (i : Nat) : Nat := 0x100 + 0x040 * i
abbrev PORT_STA (i : Nat) : Nat := 0x104 + 0x040 * i
abbrev TS_ADJ (i : Nat) : Nat := 0x108 + 0x040 * i
abbrev PDELAY (i : Nat) : Nat := 0x10C + 0x040 * i
abbrev GCL_CTL (i : Nat) : Nat := 0x110 + 0x040 * i
abbrev GCL_CYCLE (i : Nat) : Nat := 0x114 + 0x040 * i
abbrev GCL_BASE_S (i : Nat) : Nat := 0x118 + 0x040 * i
abbrev GCL_BASE_NS (i : Nat) : Nat := 0x11C + 0x040 * i
abbrev GCL_INIT (i : Nat) : Nat := 0x120 + 0x040 * i
abbrev MS_PN_TH (i : Nat) : Nat := 0x124 + 0x040 * i
end Reg.Prc

namespace Reg.Fly
abbrev FLY_CTL (i : Nat) : Nat := 0x100 + 0x040 * i
abbrev FLY_DROP (i : Nat) : Nat := 0x104 + 0x040 * i
abbrev FLY_CORR (i : Nat) : Nat := 0x108 + 0x040 * i
abbrev FLY_MASK (i : Nat) : Nat := 0x10C + 0x040 * i
abbrev FLY_DUP (i : Nat) : Nat := 0x110 + 0x040 * i
abbrev FLY_REORD (i : Nat) : Nat := 0x114 + 0x040 * i
abbrev FLY_DELAY (i : Nat) : Nat := 0x118 + 0x040 * i
abbrev FLY_SEED (i : Nat) : Nat := 0x11C + 0x040 * i
abbrev FLY_CNT (i : Nat) : Nat := 0x120 + 0x040 * i
end Reg.Fly

namespace Reg.Lne
abbrev LN_MODE : Nat := 0x040
abbrev LN_LPBK : Nat := 0x044
abbrev LN_TXEQ : Nat := 0x048
abbrev LN_ERR : Nat := 0x04C
end Reg.Lne

/-- The block registers of the SYS page, field by field (R20, R56, R57, R58, R59). -/
def sysRegs : List RegSpec := [
  -- PRF (R20): PRF_SEL, PRF_ACT
  ⟨0x040, 0x004, 1, [⟨1, 0, .rwl, 0⟩, ⟨9, 8, .ro, 0⟩]⟩,
  -- TEMP_MAX (R56): TJ, SENSOR, VALID
  ⟨0x044, 0x004, 1, [⟨11, 0, .ro, 0⟩, ⟨14, 12, .ro, 0⟩, ⟨31, 31, .ro, 0⟩]⟩,
  -- THERM_CFG (R57): ALERT_TH, CLEAR_TH
  ⟨0x048, 0x004, 1, [⟨11, 0, .rwl, 0x398⟩, ⟨27, 16, .rwl, 0x370⟩]⟩,
  -- AVS_STA (R58): VDD_REQ, AVS_ACK, AVS_ERR
  ⟨0x04C, 0x004, 1, [⟨9, 0, .ro, 0x2EE⟩, ⟨16, 16, .ro, 0⟩, ⟨17, 17, .ro, 0⟩]⟩,
  -- PWR_STA (R59): VDD_OK, VDDS_OK, VDDH_OK, VDDIO18_OK, VDDIO33_OK, VMRAM_OK, VBAT_OK, CD_VIO_OK, BOR_SRC, SEQ_ERR
  ⟨0x050, 0x004, 1, [⟨0, 0, .ro, 0⟩, ⟨1, 1, .ro, 0⟩, ⟨2, 2, .ro, 0⟩, ⟨3, 3, .ro, 0⟩, ⟨4, 4, .ro, 0⟩, ⟨5, 5, .ro, 0⟩, ⟨6, 6, .ro, 0⟩, ⟨7, 7, .ro, 0⟩, ⟨15, 12, .ro, 0⟩, ⟨16, 16, .ro, 0⟩]⟩ ]

/-- The block registers of the LDG page, field by field (R79, R80, R81, R82, R83, R84, R85, R86, R87). -/
def ldgRegs : List RegSpec := [
  -- RST_CAUSE (R79): CAUSE
  ⟨0x040, 0x004, 1, [⟨8, 0, .w1c, 1⟩]⟩,
  -- RST_REQ (R80): KEY
  ⟨0x044, 0x004, 1, [⟨15, 0, .wo, 0⟩]⟩,
  -- ZRQ (R80): KEY
  ⟨0x048, 0x004, 1, [⟨15, 0, .wo, 0⟩]⟩,
  -- WDG_CFG (R81): EN, PRE_EN, TIMEOUT
  ⟨0x04C, 0x004, 1, [⟨0, 0, .rwp, 0⟩, ⟨1, 1, .rwp, 0⟩, ⟨27, 8, .rwp, 0x4000⟩]⟩,
  -- WDG_KICK (R82): KEY
  ⟨0x050, 0x004, 1, [⟨31, 0, .wo, 0⟩]⟩,
  -- WDG_CNT (R82): CNT
  ⟨0x054, 0x004, 1, [⟨19, 0, .ro, 0⟩]⟩,
  -- AOUT_SAFE (R83): LVL
  ⟨0x058, 0x004, 2, [⟨31, 0, .rwp, 0⟩]⟩,
  -- LIVE_STA (R84): HB_GATE, CORE_LIVE, PGL_LIVE, FAB_LIVE
  ⟨0x060, 0x004, 1, [⟨0, 0, .ro, 0⟩, ⟨1, 1, .ro, 0⟩, ⟨2, 2, .ro, 0⟩, ⟨3, 3, .ro, 0⟩]⟩,
  -- BOOT_STA (R85): STAGE, BOOT_SEL, TWIN_SEL, LIFECYCLE, FTN_RDY, MASK_REKEYED, KEK_OK, ERR, SVN_OTP
  ⟨0x064, 0x004, 1, [⟨3, 0, .ro, 0⟩, ⟨5, 4, .ro, 0⟩, ⟨6, 6, .ro, 0⟩, ⟨9, 8, .ro, 0⟩, ⟨10, 10, .ro, 0⟩, ⟨11, 11, .ro, 0⟩, ⟨12, 12, .ro, 0⟩, ⟨23, 16, .ro, 0⟩, ⟨30, 24, .ro, 0⟩]⟩,
  -- BOOT_TIME (R86): FIRST_SLOT, VALID
  ⟨0x068, 0x004, 1, [⟨23, 0, .ro, 0⟩, ⟨31, 31, .ro, 0⟩]⟩,
  -- PKG_ADDR (R87): OFFSET
  ⟨0x06C, 0x004, 1, [⟨23, 0, .rw, 0⟩]⟩,
  -- PKG_CMD (R87): KEY, RESULT, BUSY
  ⟨0x070, 0x004, 1, [⟨15, 0, .wo, 0⟩, ⟨23, 16, .ro, 0⟩, ⟨31, 31, .ro, 0⟩]⟩,
  -- CFG_HASH (R86): HASH
  ⟨0x080, 0x004, 8, [⟨31, 0, .ro, 0⟩]⟩ ]

/-- The block registers of the GTH page, field by field (R520). -/
def gthRegs : List RegSpec := [
  -- GTH_IDX (R520): IDX
  ⟨0x040, 0x004, 1, [⟨7, 0, .rw, 0⟩]⟩,
  -- GTH_CUR (R520): WR, RD
  ⟨0x044, 0x004, 1, [⟨8, 0, .ro, 0⟩, ⟨24, 16, .ro, 0⟩]⟩,
  -- GTH_OTP (R520): WR, RD
  ⟨0x048, 0x004, 1, [⟨8, 0, .ro, 0⟩, ⟨24, 16, .ro, 0⟩]⟩,
  -- GTH_NARROW (R520): CLR_W, CLR_R, ALL
  ⟨0x04C, 0x004, 1, [⟨8, 0, .wo, 0⟩, ⟨24, 16, .wo, 0⟩, ⟨31, 31, .wo, 0⟩]⟩,
  -- GTH_LOG (R520): KIND, LOST, PORT, PAGE, OFFSET
  ⟨0x050, 0x004, 1, [⟨2, 0, .ro, 0⟩, ⟨3, 3, .ro, 0⟩, ⟨7, 4, .ro, 0⟩, ⟨19, 8, .ro, 0⟩, ⟨29, 20, .ro, 0⟩]⟩,
  -- GTH_LOG_CNT (R520): RD_REFUSED
  ⟨0x054, 0x004, 1, [⟨15, 0, .ro, 0⟩]⟩,
  -- GTH_PROXY_ADDR (R520): ADDR
  ⟨0x058, 0x004, 1, [⟨31, 0, .rw, 0⟩]⟩,
  -- GTH_PROXY_DATA (R520): DATA
  ⟨0x05C, 0x004, 1, [⟨31, 0, .rw, 0⟩]⟩,
  -- GTH_PROXY_CMD (R520): OP, PAIR, ORIGIN, RESULT, BUSY
  ⟨0x060, 0x004, 1, [⟨0, 0, .wo, 0⟩, ⟨1, 1, .wo, 0⟩, ⟨2, 2, .wo, 0⟩, ⟨10, 8, .ro, 0⟩, ⟨31, 31, .ro, 0⟩]⟩,
  -- MS_F2M_SET (R520): SET
  ⟨0x064, 0x004, 1, [⟨7, 0, .wo, 0⟩]⟩,
  -- MS_F2M (R520): BITS
  ⟨0x068, 0x004, 1, [⟨7, 0, .w1c, 0⟩]⟩,
  -- MS_M2F_SET (R520): SET
  ⟨0x06C, 0x004, 1, [⟨7, 0, .wo, 0⟩]⟩,
  -- MS_M2F (R520): BITS
  ⟨0x070, 0x004, 1, [⟨7, 0, .w1c, 0⟩]⟩ ]

/-- The block registers of the CCP page, field by field (R523). -/
def ccpRegs : List RegSpec := [
  -- CCP_IE (R523): IE
  ⟨0x040, 0x004, 1, [⟨15, 0, .rw, 0⟩]⟩,
  -- CCP_IP (R523): IP
  ⟨0x044, 0x004, 1, [⟨15, 0, .w1c, 0⟩]⟩,
  -- CCP_NMI (R523): WDG_PRE, BLV_UNC, BLV_FAT
  ⟨0x048, 0x004, 1, [⟨0, 0, .w1c, 0⟩, ⟨1, 1, .w1c, 0⟩, ⟨2, 2, .w1c, 0⟩]⟩,
  -- CCP_MASK (R523): MASK_GEN, REKEY
  ⟨0x04C, 0x004, 1, [⟨15, 0, .ro, 0⟩, ⟨31, 31, .wo, 0⟩]⟩,
  -- UART_TX (R523): DATA, LEVEL, FULL
  ⟨0x050, 0x004, 1, [⟨7, 0, .wo, 0⟩, ⟨12, 8, .ro, 0⟩, ⟨31, 31, .ro, 0⟩]⟩,
  -- UART_RX (R523): DATA, VALID, OVERRUN
  ⟨0x054, 0x004, 1, [⟨7, 0, .ro, 0⟩, ⟨8, 8, .ro, 0⟩, ⟨9, 9, .w1c, 0⟩]⟩,
  -- DMA_SRC (R523): SRC
  ⟨0x060, 0x004, 1, [⟨31, 0, .rw, 0⟩]⟩,
  -- DMA_DST (R523): DST
  ⟨0x064, 0x004, 1, [⟨31, 0, .rw, 0⟩]⟩,
  -- DMA_LEN (R523): LEN
  ⟨0x068, 0x004, 1, [⟨21, 0, .rw, 0⟩]⟩,
  -- DMA_CMD (R523): GO, RESULT, BUSY
  ⟨0x06C, 0x004, 1, [⟨0, 0, .wo, 0⟩, ⟨2, 1, .ro, 0⟩, ⟨31, 31, .ro, 0⟩]⟩ ]

/-- The block registers of the HIF page, field by field (R522). -/
def hifRegs : List RegSpec := [
  -- HIF_WIN (R522): CSRAM, SAMPLE
  ⟨0x040, 0x004, 1, [⟨1, 0, .rwl, 0⟩, ⟨2, 2, .rwl, 0⟩]⟩,
  -- HIF_H2F_SET (R522): SET
  ⟨0x044, 0x004, 1, [⟨7, 0, .wo, 0⟩]⟩,
  -- HIF_H2F (R522): BITS
  ⟨0x048, 0x004, 1, [⟨7, 0, .w1c, 0⟩]⟩,
  -- HIF_F2H_SET (R522): SET
  ⟨0x04C, 0x004, 1, [⟨7, 0, .wo, 0⟩]⟩,
  -- HIF_F2H (R522): BITS
  ⟨0x050, 0x004, 1, [⟨7, 0, .w1c, 0⟩]⟩,
  -- HIF_BOOT_DB (R522): LEN, KIND, LAST, PENDING
  ⟨0x054, 0x004, 1, [⟨16, 0, .rw, 0⟩, ⟨17, 17, .rw, 0⟩, ⟨18, 18, .rw, 0⟩, ⟨31, 31, .rw, 0⟩]⟩,
  -- HIF_BOOT_STA (R522): READY, ERR
  ⟨0x058, 0x004, 1, [⟨0, 0, .ro, 0⟩, ⟨15, 8, .ro, 0⟩]⟩,
  -- XF_SRC (R522): SRC
  ⟨0x060, 0x004, 1, [⟨31, 0, .rw, 0⟩]⟩,
  -- XF_DST_LO (R522): DST
  ⟨0x064, 0x004, 1, [⟨31, 0, .rw, 0⟩]⟩,
  -- XF_DST_HI (R522): DST
  ⟨0x068, 0x004, 1, [⟨31, 0, .rw, 0⟩]⟩,
  -- XF_LEN (R522): LEN
  ⟨0x06C, 0x004, 1, [⟨16, 0, .rw, 0⟩]⟩,
  -- XF_CMD (R522): GO, RESULT, BUSY
  ⟨0x070, 0x004, 1, [⟨0, 0, .wo, 0⟩, ⟨2, 1, .ro, 0⟩, ⟨31, 31, .ro, 0⟩]⟩ ]

/-- The block registers of the NVM page, field by field (R413, R414). -/
def nvmRegs : List RegSpec := [
  -- NVM_CMD (R413): OP, MARGIN, CMPSRC, KEY, BUSY
  ⟨0x040, 0x004, 1, [⟨2, 0, .wo, 0⟩, ⟨5, 4, .wo, 0⟩, ⟨6, 6, .wo, 0⟩, ⟨23, 16, .wo, 0⟩, ⟨31, 31, .ro, 0⟩]⟩,
  -- NVM_ADDR (R413): OFFSET
  ⟨0x044, 0x004, 1, [⟨23, 0, .rw, 0⟩]⟩,
  -- NVM_SRC (R413): SRC
  ⟨0x048, 0x004, 1, [⟨31, 0, .rw, 0⟩]⟩,
  -- NVM_CNT (R413): COUNT
  ⟨0x04C, 0x004, 1, [⟨7, 0, .rw, 0⟩]⟩,
  -- NVM_RES (R413): RESULT, INDEX, DONE
  ⟨0x050, 0x004, 1, [⟨7, 0, .ro, 0⟩, ⟨15, 8, .ro, 0⟩, ⟨23, 16, .ro, 0⟩]⟩,
  -- ECC_CNT (R413): CORR, UNCORR
  ⟨0x054, 0x004, 1, [⟨15, 0, .ro, 0⟩, ⟨31, 16, .ro, 0⟩]⟩,
  -- ECC_LAST (R413): OFFSET, UNCORR
  ⟨0x058, 0x004, 1, [⟨23, 0, .ro, 0⟩, ⟨24, 24, .ro, 0⟩]⟩,
  -- XO_FIRST (R414): EN, UPD, FIRST
  ⟨0x080, 0x008, 8, [⟨0, 0, .rwl, 0⟩, ⟨1, 1, .rwl, 0⟩, ⟨23, 12, .rwl, 0⟩]⟩,
  -- XO_LAST (R414): LAST
  ⟨0x084, 0x008, 8, [⟨23, 12, .rwl, 0⟩]⟩ ]

/-- The block registers of the BLV page, field by field (R437, R438, R439). -/
def blvRegs : List RegSpec := [
  -- BLV_CFG (R437): ERR_LEVEL, IRQ_COR, NMI_UNC
  ⟨0x040, 0x004, 1, [⟨1, 0, .rwl, 2⟩, ⟨2, 2, .rw, 0⟩, ⟨3, 3, .rw, 0⟩]⟩,
  -- RCT_COR (R437): REACT
  ⟨0x044, 0x004, 1, [⟨4, 0, .rwl, 0⟩]⟩,
  -- RCT_UNC (R437): REACT
  ⟨0x048, 0x004, 1, [⟨4, 0, .rwl, 0⟩]⟩,
  -- RCT_FAT (R437): REACT_LO, HALT, RESET
  ⟨0x04C, 0x004, 1, [⟨2, 0, .rwl, 0⟩, ⟨3, 3, .ro, 1⟩, ⟨4, 4, .rwl, 0⟩]⟩,
  -- HIST_IDX (R437): IDX
  ⟨0x050, 0x004, 1, [⟨5, 0, .rw, 0⟩]⟩,
  -- HIST (R438): W
  ⟨0x054, 0x004, 6, [⟨31, 0, .ro, 0⟩]⟩,
  -- HIST_CNT (R437): COUNT, DROP_CNT
  ⟨0x06C, 0x004, 1, [⟨6, 0, .ro, 0⟩, ⟨31, 16, .ro, 0⟩]⟩,
  -- HIST_CLR (R437): KEY
  ⟨0x070, 0x004, 1, [⟨15, 0, .wo, 0⟩]⟩,
  -- OUTSTANDING (R437): CLASSES, ERR_N
  ⟨0x074, 0x004, 1, [⟨2, 0, .ro, 0⟩, ⟨8, 8, .ro, 0⟩]⟩,
  -- CODE_STA (R437): CORR, UNC
  ⟨0x078, 0x004, 1, [⟨12, 0, .w1c, 0⟩, ⟨28, 16, .w1c, 0⟩]⟩,
  -- FENCE_TGT (R437): ORIGIN
  ⟨0x07C, 0x004, 1, [⟨31, 0, .rw, 0⟩]⟩,
  -- FENCE_CMD (R437): KEY
  ⟨0x080, 0x004, 1, [⟨15, 0, .wo, 0⟩]⟩,
  -- FENCE_STA (R437): PENDING, RESULT
  ⟨0x084, 0x004, 1, [⟨0, 0, .ro, 0⟩, ⟨2, 1, .ro, 0⟩]⟩,
  -- DEG_AES (R437): OUT
  ⟨0x088, 0x004, 1, [⟨23, 0, .ro, 0⟩]⟩,
  -- DEG_SHA (R437): OUT, CAP
  ⟨0x08C, 0x004, 1, [⟨15, 0, .ro, 0⟩, ⟨31, 16, .ro, 0x7530⟩]⟩,
  -- RCT (R439): PAGE, CAUSE, ANY, REACT, EN
  ⟨0x100, 0x004, 16, [⟨11, 0, .rwl, 0⟩, ⟨19, 12, .rwl, 0⟩, ⟨20, 20, .rwl, 0⟩, ⟨28, 24, .rwl, 0⟩, ⟨31, 31, .rwl, 0⟩]⟩ ]

/-- The block registers of the HDG page, field by field (R455, R456, R457). -/
def hdgRegs : List RegSpec := [
  -- SRC_CFG0 (R455): EN, IRQ, FENCE, ZEROISE, RESET, BK_EN, FPAGE
  ⟨0x040, 0x004, 1, [⟨0, 0, .rwp, 1⟩, ⟨1, 1, .rwp, 1⟩, ⟨2, 2, .rwp, 0⟩, ⟨3, 3, .rwp, 0⟩, ⟨4, 4, .rwp, 0⟩, ⟨5, 5, .rwp, 1⟩, ⟨27, 16, .rwp, 0xFFF⟩]⟩,
  -- SRC_CFG1 (R455): EN, IRQ, FENCE, ZEROISE, RESET, BK_EN, FPAGE
  ⟨0x044, 0x004, 2, [⟨0, 0, .rwp, 1⟩, ⟨1, 1, .rwp, 1⟩, ⟨2, 2, .rwp, 0⟩, ⟨3, 3, .rwp, 0⟩, ⟨4, 4, .rwp, 0⟩, ⟨5, 5, .ro, 0⟩, ⟨27, 16, .rwp, 0xFFF⟩]⟩,
  -- SRC_CFG3 (R455): EN, IRQ, FENCE, ZEROISE, RESET, BK_EN, FPAGE
  ⟨0x04C, 0x004, 1, [⟨0, 0, .rwp, 1⟩, ⟨1, 1, .rwp, 1⟩, ⟨2, 2, .rwp, 0⟩, ⟨3, 3, .rwp, 0⟩, ⟨4, 4, .rwp, 0⟩, ⟨5, 5, .rwp, 1⟩, ⟨27, 16, .rwp, 0xFFF⟩]⟩,
  -- SRC_CFG4 (R455): EN, IRQ, FENCE, ZEROISE, RESET, BK_EN, FPAGE
  ⟨0x050, 0x004, 1, [⟨0, 0, .rwp, 1⟩, ⟨1, 1, .rwp, 1⟩, ⟨2, 2, .rwp, 0⟩, ⟨3, 3, .rwp, 0⟩, ⟨4, 4, .rwp, 0⟩, ⟨5, 5, .ro, 0⟩, ⟨27, 16, .rwp, 0xFFF⟩]⟩,
  -- SRC_CFG5 (R455): EN, IRQ, FENCE, ZEROISE, RESET, BK_EN, FPAGE
  ⟨0x054, 0x004, 2, [⟨0, 0, .rwp, 1⟩, ⟨1, 1, .rwp, 1⟩, ⟨2, 2, .rwp, 0⟩, ⟨3, 3, .rwp, 0⟩, ⟨4, 4, .rwp, 0⟩, ⟨5, 5, .rwp, 1⟩, ⟨27, 16, .rwp, 0xFFF⟩]⟩,
  -- SRC_CFG7 (R455): EN, IRQ, FENCE, ZEROISE, RESET, BK_EN, FPAGE
  ⟨0x05C, 0x004, 1, [⟨0, 0, .rwp, 1⟩, ⟨1, 1, .rwp, 1⟩, ⟨2, 2, .rwp, 0⟩, ⟨3, 3, .rwp, 0⟩, ⟨4, 4, .rwp, 0⟩, ⟨5, 5, .ro, 0⟩, ⟨27, 16, .rwp, 0xFFF⟩]⟩,
  -- LIGHT_CFG (R456): MESH_TH, DECAY_TH, DISAGREE_US
  ⟨0x060, 0x004, 1, [⟨3, 0, .rwp, 4⟩, ⟨15, 8, .rwp, 0x10⟩, ⟨23, 16, .rwp, 0x64⟩]⟩,
  -- TEMP_CFG (R456): HI_TH, LO_TH
  ⟨0x064, 0x004, 1, [⟨11, 0, .rwp, 0x410⟩, ⟨27, 16, .rwp, 0xE98⟩]⟩,
  -- GLITCH_CFG (R456): MIN_NS
  ⟨0x068, 0x004, 1, [⟨7, 0, .rwp, 0x14⟩]⟩,
  -- SHD_LOG (R457): PAGE, OFFSET, CASE
  ⟨0x06C, 0x004, 1, [⟨11, 0, .ro, 0⟩, ⟨22, 12, .ro, 0⟩, ⟨26, 24, .ro, 0⟩]⟩,
  -- SHD_CNT (R457): COUNT
  ⟨0x070, 0x004, 1, [⟨15, 0, .ro, 0⟩]⟩,
  -- BK_STA (R457): RECORDS, OVERFLOW
  ⟨0x074, 0x004, 1, [⟨3, 0, .ro, 0⟩, ⟨11, 4, .ro, 0⟩]⟩ ]

/-- The block registers of the SDL page, field by field (R121, R122, R123, R124, R125, R126, R127, R128, R129, R130, R131, R132, R133, R134, R135, R136, R137, R138, R139). -/
def sdlRegs : List RegSpec := [
  -- SRC_CFG (R121): ORDER, PTP_EN, IRIG_EN, IRIG2_EN
  ⟨0x040, 0x004, 1, [⟨1, 0, .rwl, 0⟩, ⟨2, 2, .rwl, 0⟩, ⟨3, 3, .rwl, 0⟩, ⟨4, 4, .rwl, 0⟩]⟩,
  -- PTP_CFG (R122): ROLE, TC_EN, SLAVE_ONLY, ONE_STEP, DOMAIN, PRIO1, PRIO2
  ⟨0x044, 0x004, 1, [⟨1, 0, .rwl, 0⟩, ⟨2, 2, .rwl, 0⟩, ⟨3, 3, .rwl, 0⟩, ⟨4, 4, .rwl, 0⟩, ⟨15, 8, .rwl, 0⟩, ⟨23, 16, .rwl, 0x80⟩, ⟨31, 24, .rwl, 0x80⟩]⟩,
  -- SDL_FMAX (R123): FMAX
  ⟨0x048, 0x004, 1, [⟨6, 0, .rwp, 0x37⟩]⟩,
  -- FNOM_CFG (R124): FNOM, FHYS
  ⟨0x04C, 0x004, 1, [⟨0, 0, .rwl, 0⟩, ⟨15, 8, .rwl, 0x0A⟩]⟩,
  -- TIME_S_LO (R125): S_LO
  ⟨0x050, 0x004, 1, [⟨31, 0, .ro, 0⟩]⟩,
  -- TIME_S_HI (R125): S_HI
  ⟨0x054, 0x004, 1, [⟨15, 0, .ro, 0⟩]⟩,
  -- TIME_NS (R125): NS
  ⟨0x058, 0x004, 1, [⟨29, 0, .ro, 0⟩]⟩,
  -- UTC_OFS (R126): TAI_UTC, LEAP
  ⟨0x05C, 0x004, 1, [⟨15, 0, .rw, 0x25⟩, ⟨17, 16, .rw, 0⟩]⟩,
  -- PTP_STA (R127): OFFSET, SLAVE_PORT, SLAVE_VALID, DROPS
  ⟨0x060, 0x004, 1, [⟨15, 0, .ro, 0⟩, ⟨23, 16, .ro, 0⟩, ⟨24, 24, .ro, 0⟩, ⟨31, 25, .ro, 0⟩]⟩,
  -- HOLD_CFG (R128): REF10M_EN, MAX_S
  ⟨0x064, 0x004, 1, [⟨0, 0, .rwl, 0⟩, ⟨31, 16, .rwl, 0x0E10⟩]⟩,
  -- REF_PRI (R129): STREAM, QTY, EN
  ⟨0x068, 0x004, 1, [⟨12, 0, .rwl, 0⟩, ⟨15, 13, .rwl, 0⟩, ⟨16, 16, .rwl, 0⟩]⟩,
  -- REF_SEC (R129): STREAM, QTY, EN
  ⟨0x06C, 0x004, 1, [⟨12, 0, .rwl, 0⟩, ⟨15, 13, .rwl, 0⟩, ⟨16, 16, .rwl, 0⟩]⟩,
  -- TRK_CFG (R130): AMIN, SIM_OK, REVERT
  ⟨0x070, 0x004, 1, [⟨15, 0, .rwl, 0x100⟩, ⟨16, 16, .rwl, 0⟩, ⟨17, 17, .rwl, 1⟩]⟩,
  -- ANG_OFS (R131): OFS
  ⟨0x074, 0x004, 1, [⟨31, 0, .rwp, 0⟩]⟩,
  -- FREQ (R132): FREQ
  ⟨0x078, 0x004, 1, [⟨31, 0, .ro, 0⟩]⟩,
  -- ANGLE (R133): ANGLE
  ⟨0x07C, 0x004, 1, [⟨31, 0, .ro, 0⟩]⟩,
  -- CYCLE (R133): CYCLE
  ⟨0x080, 0x004, 1, [⟨31, 0, .ro, 0⟩]⟩,
  -- ANG_T_NS (R133): NS
  ⟨0x084, 0x004, 1, [⟨31, 0, .ro, 0⟩]⟩,
  -- SLOT_CNT (R134): CNT
  ⟨0x088, 0x004, 1, [⟨31, 0, .ro, 0⟩]⟩,
  -- SLOT_LEN (R134): LEN
  ⟨0x08C, 0x004, 1, [⟨19, 0, .ro, 0⟩]⟩,
  -- PIN_ALT (R135): IRIG_1344, PPS_FREE, PPS_W
  ⟨0x090, 0x004, 1, [⟨0, 0, .rwl, 0⟩, ⟨1, 1, .rwl, 0⟩, ⟨15, 8, .rwl, 0x64⟩]⟩,
  -- AOUT_OE (R136): OE
  ⟨0x094, 0x004, 1, [⟨31, 0, .rwl, 0⟩]⟩,
  -- SET_S_LO (R137): LO
  ⟨0x098, 0x004, 1, [⟨31, 0, .rw, 0⟩]⟩,
  -- SET_S_HI (R137): HI
  ⟨0x09C, 0x004, 1, [⟨15, 0, .rw, 0⟩]⟩,
  -- SET_NS (R137): NS
  ⟨0x0A0, 0x004, 1, [⟨29, 0, .rw, 0⟩]⟩,
  -- SET_CMD (R137): KEY
  ⟨0x0A4, 0x004, 1, [⟨15, 0, .wo, 0⟩]⟩,
  -- EVT (R138): CODE, VALID, LOST, SLOT
  ⟨0x0A8, 0x004, 1, [⟨3, 0, .ro, 0⟩, ⟨4, 4, .ro, 0⟩, ⟨7, 7, .ro, 0⟩, ⟨31, 8, .ro, 0⟩]⟩,
  -- CMP_CFG (R139): BALL, AOUT_EN, OWNER, ARMED, CANCELLED
  ⟨0x400, 0x010, 64, [⟨4, 0, .rw, 0⟩, ⟨5, 5, .rw, 0⟩, ⟨7, 6, .ro, 0⟩, ⟨8, 8, .ro, 0⟩, ⟨9, 9, .w1c, 0⟩]⟩,
  -- CMP_TGT_LO (R139): LO
  ⟨0x404, 0x010, 64, [⟨31, 0, .rw, 0⟩]⟩,
  -- CMP_TGT_HI (R139): HI
  ⟨0x408, 0x010, 64, [⟨31, 0, .rw, 0⟩]⟩,
  -- CMP_ACT (R139): LEVEL, PULSE, TIME, NOW, ARM_CANCEL
  ⟨0x40C, 0x010, 64, [⟨1, 0, .rw, 0⟩, ⟨17, 2, .rw, 0⟩, ⟨29, 29, .rw, 0⟩, ⟨30, 30, .rw, 0⟩, ⟨31, 31, .wo, 0⟩]⟩ ]

/-- The block registers of the PGL page, field by field (R251, R253). -/
def pglRegs : List RegSpec := [
  -- PGL_CFG (R251): OVR_FENCE
  ⟨0x040, 0x004, 1, [⟨7, 0, .rw, 0⟩]⟩,
  -- EN_ERR (R251): CAUSE, DETAIL
  ⟨0x044, 0x004, 1, [⟨4, 0, .ro, 0⟩, ⟨23, 8, .ro, 0⟩]⟩,
  -- ADM_A (R251): A
  ⟨0x048, 0x004, 1, [⟨18, 0, .ro, 0⟩]⟩,
  -- ADM_PEAK (R251): SUM, RESIDUE
  ⟨0x04C, 0x004, 1, [⟨23, 0, .ro, 0⟩, ⟨29, 24, .ro, 0⟩]⟩,
  -- ADM_GUARD (R251): GUARD_NS
  ⟨0x050, 0x004, 1, [⟨15, 0, .ro, 0⟩]⟩,
  -- CAP_CRY (R251): UNITS
  ⟨0x054, 0x004, 1, [⟨23, 0, .ro, 0⟩]⟩,
  -- CAP_ING (R251): FRAMES
  ⟨0x058, 0x004, 1, [⟨15, 0, .ro, 0⟩]⟩,
  -- PUB_QCLASS (R251): QCLASS
  ⟨0x05C, 0x004, 1, [⟨3, 0, .rw, 0⟩]⟩,
  -- SLOT_USE (R251): CYCLES, RUNS
  ⟨0x060, 0x004, 1, [⟨18, 0, .ro, 0⟩, ⟨31, 20, .ro, 0⟩]⟩,
  -- OVR_LOG (R251): ENTRY, KIND, LOST, SLOT
  ⟨0x064, 0x004, 1, [⟨10, 0, .ro, 0⟩, ⟨12, 11, .ro, 0⟩, ⟨13, 13, .ro, 0⟩, ⟨31, 14, .ro, 0⟩]⟩,
  -- SCH_ADDR (R251): ENTRY, WORD
  ⟨0x068, 0x004, 1, [⟨10, 0, .rw, 0⟩, ⟨17, 16, .rw, 0⟩]⟩,
  -- SCH_DATA (R251): DATA
  ⟨0x06C, 0x004, 1, [⟨31, 0, .rw, 0⟩]⟩,
  -- ICLS (R253): FRAMES, QCLASS
  ⟨0x100, 0x004, 16, [⟨15, 0, .rw, 0⟩, ⟨19, 16, .rw, 0⟩]⟩,
  -- QCLS (R253): UNITS
  ⟨0x140, 0x004, 16, [⟨23, 0, .rw, 0⟩]⟩,
  -- BCLS (R253): UNITS
  ⟨0x180, 0x004, 8, [⟨13, 0, .rw, 0⟩]⟩,
  -- CLS_OVR (R253): WINDOWS
  ⟨0x240, 0x004, 40, [⟨15, 0, .ro, 0⟩]⟩ ]

/-- The block registers of the PAV page, field by field (R315). -/
def pavRegs : List RegSpec := [
  -- PAV_CFG (R315): CAP_EN, EVQ_IRQ
  ⟨0x040, 0x004, 1, [⟨0, 0, .rwl, 0⟩, ⟨1, 1, .rw, 0⟩]⟩,
  -- CHN_ADDR (R315): ENTRY, WORD
  ⟨0x044, 0x004, 1, [⟨10, 0, .rw, 0⟩, ⟨18, 16, .rw, 0⟩]⟩,
  -- CHN_DATA (R315): DATA
  ⟨0x048, 0x004, 1, [⟨31, 0, .rw, 0⟩]⟩,
  -- OW_ADDR (R315): INDEX
  ⟨0x04C, 0x004, 1, [⟨13, 0, .rw, 0⟩]⟩,
  -- OW_VAL (R315): VALUE
  ⟨0x050, 0x004, 1, [⟨31, 0, .ro, 0⟩]⟩,
  -- OW_META (R315): TYPE, STALE, NEVER, AGE
  ⟨0x054, 0x004, 1, [⟨2, 0, .rw, 0⟩, ⟨8, 8, .ro, 0⟩, ⟨9, 9, .ro, 1⟩, ⟨31, 16, .ro, 0⟩]⟩,
  -- CTX_ADDR (R315): WORD
  ⟨0x058, 0x004, 1, [⟨19, 0, .rw, 0⟩]⟩,
  -- CTX_DATA (R315): DATA
  ⟨0x05C, 0x004, 1, [⟨31, 0, .rw, 0⟩]⟩,
  -- TRAP_LOG0 (R315): CODE, MULTI, PREEMPT, LOST, ENTRY
  ⟨0x060, 0x004, 1, [⟨7, 0, .ro, 0⟩, ⟨8, 8, .ro, 0⟩, ⟨9, 9, .ro, 0⟩, ⟨10, 10, .ro, 0⟩, ⟨21, 11, .ro, 0⟩]⟩,
  -- TRAP_LOG1 (R315): BUNDLE, MSLOT
  ⟨0x064, 0x004, 1, [⟨19, 0, .ro, 0⟩, ⟨23, 20, .ro, 0⟩]⟩,
  -- TRAP_LOG2 (R315): SLOT
  ⟨0x068, 0x004, 1, [⟨31, 0, .ro, 0⟩]⟩,
  -- TRAP_LOG3 (R315): TVAL
  ⟨0x06C, 0x004, 1, [⟨31, 0, .ro, 0⟩]⟩,
  -- EVQ_STA (R315): LOST_CNT
  ⟨0x070, 0x004, 1, [⟨31, 16, .ro, 0⟩]⟩,
  -- EVQ0 (R315): EVENT, ENTRY, STALE, LOST, RECORD, VALID
  ⟨0x074, 0x004, 1, [⟨7, 0, .ro, 0⟩, ⟨18, 8, .ro, 0⟩, ⟨19, 19, .ro, 0⟩, ⟨20, 20, .ro, 0⟩, ⟨21, 21, .ro, 0⟩, ⟨31, 31, .ro, 0⟩]⟩,
  -- EVQ1 (R315): VALUE
  ⟨0x078, 0x004, 1, [⟨31, 0, .ro, 0⟩]⟩,
  -- EVQ2 (R315): SLOT
  ⟨0x07C, 0x004, 1, [⟨31, 0, .ro, 0⟩]⟩,
  -- EVQ3 (R315): SEC
  ⟨0x080, 0x004, 1, [⟨31, 0, .ro, 0⟩]⟩,
  -- EVQ4 (R315): NS
  ⟨0x084, 0x004, 1, [⟨29, 0, .ro, 0⟩]⟩,
  -- CAP_BUF_BASE (R315): BASE
  ⟨0x088, 0x004, 1, [⟨31, 0, .rwl, 0⟩]⟩,
  -- CAP_BUF_LEN (R315): LEN
  ⟨0x08C, 0x004, 1, [⟨20, 0, .rwl, 0⟩]⟩,
  -- CAP_WR (R315): WR
  ⟨0x090, 0x004, 1, [⟨20, 0, .ro, 0⟩]⟩,
  -- CAP_FREE (R315): FREE
  ⟨0x094, 0x004, 1, [⟨20, 0, .rw, 0⟩]⟩,
  -- CAP_STA (R315): ACTIVE, REFUSED
  ⟨0x098, 0x004, 1, [⟨7, 0, .ro, 0⟩, ⟨31, 16, .ro, 0⟩]⟩,
  -- CAP_ADDR (R315): DEF, WORD
  ⟨0x09C, 0x004, 1, [⟨2, 0, .rw, 0⟩, ⟨12, 8, .rw, 0⟩]⟩,
  -- CAP_DATA (R315): DATA
  ⟨0x0A0, 0x004, 1, [⟨31, 0, .rw, 0⟩]⟩,
  -- TBL_DIGEST (R315): DIGEST
  ⟨0x0C0, 0x004, 8, [⟨31, 0, .ro, 0⟩]⟩ ]

/-- The block registers of the PTR0 page, field by field (R223). -/
def ptr0Regs : List RegSpec := [
  -- FMT_ADDR (R223): STEP, SLOT
  ⟨0x040, 0x004, 1, [⟨5, 0, .rw, 0⟩, ⟨10, 6, .rw, 0⟩]⟩,
  -- FMT_DATA_LO (R223): LO
  ⟨0x044, 0x004, 1, [⟨31, 0, .rw, 0⟩]⟩,
  -- FMT_DATA_HI (R223): HI
  ⟨0x048, 0x004, 1, [⟨31, 0, .rw, 0⟩]⟩,
  -- WALK_CNT (R223): REJ
  ⟨0x04C, 0x004, 1, [⟨15, 0, .ro, 0⟩]⟩,
  -- WALK_ERR (R223): SLOT, STEP, CAUSE
  ⟨0x050, 0x004, 1, [⟨4, 0, .ro, 0⟩, ⟨10, 5, .ro, 0⟩, ⟨23, 16, .ro, 0⟩]⟩,
  -- FMT_DIGEST (R223): DIGEST
  ⟨0x080, 0x004, 8, [⟨31, 0, .ro, 0⟩]⟩,
  -- FMT_MATCH (R223): ETYPE, UDP_DPORT
  ⟨0x100, 0x004, 32, [⟨15, 0, .rwl, 0⟩, ⟨31, 16, .rwl, 0⟩]⟩ ]

/-- The block registers of the PTR1 page, field by field (R224, R225). -/
def ptr1Regs : List RegSpec := [
  -- ADDR (R224): INDEX, WORD
  ⟨0x040, 0x004, 1, [⟨13, 0, .rw, 0⟩, ⟨20, 16, .rw, 0⟩]⟩,
  -- DATA (R224): DATA
  ⟨0x044, 0x004, 1, [⟨31, 0, .rw, 0⟩]⟩,
  -- STRM_CFG (R225): SIM_MODE
  ⟨0x048, 0x004, 1, [⟨0, 0, .rwl, 0⟩]⟩,
  -- STG_STA (R225): USED, DROP
  ⟨0x04C, 0x004, 1, [⟨11, 0, .ro, 0⟩, ⟨31, 16, .ro, 0⟩]⟩,
  -- EXC (R224): CODE, LOST, INDEX, SLOT
  ⟨0x050, 0x004, 1, [⟨3, 0, .ro, 0⟩, ⟨7, 7, .ro, 0⟩, ⟨20, 8, .ro, 0⟩, ⟨31, 21, .ro, 0⟩]⟩,
  -- ID_ADDR (R225): UNIT
  ⟨0x054, 0x004, 1, [⟨16, 0, .rw, 0⟩]⟩,
  -- ID_DATA_LO (R225): LO
  ⟨0x058, 0x004, 1, [⟨31, 0, .rw, 0⟩]⟩,
  -- ID_DATA_HI (R225): HI
  ⟨0x05C, 0x004, 1, [⟨31, 0, .rw, 0⟩]⟩ ]

/-- The block registers of the PTR2 page, field by field (R224). -/
def ptr2Regs : List RegSpec := [
  -- ADDR (R224): INDEX, WORD
  ⟨0x040, 0x004, 1, [⟨13, 0, .rw, 0⟩, ⟨20, 16, .rw, 0⟩]⟩,
  -- DATA (R224): DATA
  ⟨0x044, 0x004, 1, [⟨31, 0, .rw, 0⟩]⟩,
  -- EXC (R224): CODE, LOST, INDEX, SLOT
  ⟨0x050, 0x004, 1, [⟨3, 0, .ro, 0⟩, ⟨7, 7, .ro, 0⟩, ⟨20, 8, .ro, 0⟩, ⟨31, 21, .ro, 0⟩]⟩ ]

/-- The block registers of the PTR3 page, field by field (R224). -/
def ptr3Regs : List RegSpec := [
  -- ADDR (R224): INDEX, WORD, KIND
  ⟨0x040, 0x004, 1, [⟨13, 0, .rw, 0⟩, ⟨20, 16, .rw, 0⟩, ⟨21, 21, .rw, 0⟩]⟩,
  -- DATA (R224): DATA
  ⟨0x044, 0x004, 1, [⟨31, 0, .rw, 0⟩]⟩ ]

/-- The block registers of the ORG page, field by field (R337, R338). -/
def orgRegs : List RegSpec := [
  -- ORG_CFG (R337): RETIRE_S, FW_QMASK
  ⟨0x040, 0x004, 1, [⟨15, 0, .rwl, 0x3C⟩, ⟨31, 16, .rwl, 0⟩]⟩,
  -- KEK_STA (R337): KEK_OK, BBR_PRESENT, KA_VALID, ZEROISED
  ⟨0x044, 0x004, 1, [⟨0, 0, .ro, 0⟩, ⟨1, 1, .ro, 0⟩, ⟨2, 2, .ro, 0⟩, ⟨3, 3, .ro, 0⟩]⟩,
  -- KEY_CMD (R337): OP, POS, BOTH, SLOT, BUSY
  ⟨0x048, 0x004, 1, [⟨2, 0, .wo, 0⟩, ⟨3, 3, .wo, 0⟩, ⟨4, 4, .wo, 0⟩, ⟨28, 16, .wo, 0⟩, ⟨31, 31, .ro, 0⟩]⟩,
  -- KEY_ADDR (R337): ADDR
  ⟨0x04C, 0x004, 1, [⟨31, 0, .rw, 0⟩]⟩,
  -- KEY_ARG0 (R337): SWAP_S_LO
  ⟨0x050, 0x004, 1, [⟨31, 0, .rw, 0⟩]⟩,
  -- KEY_ARG1 (R337): SWAP_S_HI
  ⟨0x054, 0x004, 1, [⟨15, 0, .rw, 0⟩]⟩,
  -- KEY_RES (R337): RESULT
  ⟨0x058, 0x004, 1, [⟨7, 0, .ro, 0⟩]⟩,
  -- SLOT_ADDR (R337): SLOT
  ⟨0x05C, 0x004, 1, [⟨12, 0, .rw, 0⟩]⟩,
  -- SLOT_INFO (R337): CUR_ACTIVE, NXT_STATE, CUR_TYPE, NXT_TYPE, CUR_USAGE, NXT_USAGE, SWAP_SET, SWAP_MISS
  ⟨0x060, 0x004, 1, [⟨0, 0, .ro, 0⟩, ⟨2, 1, .ro, 0⟩, ⟨4, 3, .ro, 0⟩, ⟨6, 5, .ro, 0⟩, ⟨10, 7, .ro, 0⟩, ⟨14, 11, .ro, 0⟩, ⟨15, 15, .ro, 0⟩, ⟨16, 16, .w1c, 0⟩]⟩,
  -- SLOT_CUR_KEYID (R337): KEYID
  ⟨0x064, 0x004, 1, [⟨31, 0, .ro, 0⟩]⟩,
  -- SLOT_NXT_KEYID (R337): KEYID
  ⟨0x068, 0x004, 1, [⟨31, 0, .ro, 0⟩]⟩,
  -- SLOT_SWAP_LO (R337): S_LO
  ⟨0x06C, 0x004, 1, [⟨31, 0, .ro, 0⟩]⟩,
  -- SLOT_SWAP_HI (R337): S_HI
  ⟨0x070, 0x004, 1, [⟨15, 0, .ro, 0⟩]⟩,
  -- IMP_NONCE (R337): NONCE
  ⟨0x074, 0x004, 4, [⟨31, 0, .ro, 0⟩]⟩,
  -- KA_PUB (R337): Q_KA
  ⟨0x084, 0x004, 16, [⟨31, 0, .ro, 0⟩]⟩,
  -- ZCNT (R337): COUNT
  ⟨0x0C4, 0x004, 1, [⟨15, 0, .ro, 0⟩]⟩,
  -- CORE_STA (R337): AES_BUSY
  ⟨0x0C8, 0x004, 1, [⟨23, 0, .ro, 0⟩]⟩,
  -- SHA_STA (R337): SHA_BUSY
  ⟨0x0CC, 0x004, 1, [⟨15, 0, .ro, 0⟩]⟩,
  -- RING_BASE (R338): BASE
  ⟨0x100, 0x010, 4, [⟨31, 0, .rw, 0⟩]⟩,
  -- RING_CTL (R338): LOG2, IRQ, EN
  ⟨0x104, 0x010, 4, [⟨3, 0, .rw, 4⟩, ⟨30, 30, .rw, 0⟩, ⟨31, 31, .rw, 0⟩]⟩,
  -- RING_HEAD (R338): HEAD
  ⟨0x108, 0x010, 4, [⟨11, 0, .rw, 0⟩]⟩,
  -- RING_TAIL (R338): TAIL
  ⟨0x10C, 0x010, 4, [⟨11, 0, .ro, 0⟩]⟩ ]

/-- The block registers of the ARB page, field by field (R360). -/
def arbRegs : List RegSpec := [
  -- ARB_CMD (R360): OP, MASK, KSRC, ESEL, WORDS
  ⟨0x040, 0x004, 1, [⟨4, 0, .wo, 0⟩, ⟨5, 5, .wo, 0⟩, ⟨7, 6, .wo, 0⟩, ⟨9, 8, .wo, 0⟩, ⟨20, 16, .wo, 0⟩]⟩,
  -- ARB_RES (R360): STATUS, PASS
  ⟨0x044, 0x004, 1, [⟨7, 0, .ro, 0⟩, ⟨8, 8, .ro, 0⟩]⟩,
  -- ARB_CYC (R360): CYCLES
  ⟨0x048, 0x004, 1, [⟨31, 0, .ro, 0⟩]⟩,
  -- ARB_CFG (R360): IRQ_EN
  ⟨0x04C, 0x004, 1, [⟨0, 0, .rw, 0⟩]⟩,
  -- ARB_SRC (R360): SRC
  ⟨0x050, 0x004, 1, [⟨31, 0, .rw, 0⟩]⟩,
  -- ARB_LEN (R360): LEN
  ⟨0x054, 0x004, 1, [⟨24, 0, .rw, 0⟩]⟩,
  -- SCR_ADDR (R360): WORD
  ⟨0x058, 0x004, 1, [⟨11, 0, .rw, 0⟩]⟩,
  -- SCR_DATA (R360): DATA
  ⟨0x05C, 0x004, 1, [⟨31, 0, .rw, 0⟩]⟩,
  -- FW_HASH (R360): HASH
  ⟨0x060, 0x004, 8, [⟨31, 0, .ro, 0⟩]⟩,
  -- ID_PUB (R360): Q_ID
  ⟨0x080, 0x004, 16, [⟨31, 0, .ro, 0⟩]⟩ ]

/-- The block registers of the FTN page, field by field (R362). -/
def ftnRegs : List RegSpec := [
  -- FTN_CFG (R362): COND
  ⟨0x040, 0x004, 1, [⟨0, 0, .rwl, 0⟩]⟩,
  -- FTN_RES (R362): RES
  ⟨0x044, 0x004, 1, [⟨1, 0, .ro, 0⟩]⟩,
  -- FTN_OUT (R362): OUT
  ⟨0x048, 0x004, 8, [⟨31, 0, .ro, 0⟩]⟩,
  -- REQ_CNT (R362): REQ
  ⟨0x068, 0x004, 1, [⟨16, 0, .ro, 0⟩]⟩,
  -- RESEEDS (R362): COUNT
  ⟨0x06C, 0x004, 1, [⟨31, 0, .ro, 0⟩]⟩,
  -- FTN_CMD (R362): KEY
  ⟨0x070, 0x004, 1, [⟨15, 0, .wo, 0⟩]⟩,
  -- HLT_STA (R362): RCT_MAX, APT_MAX
  ⟨0x074, 0x004, 1, [⟨5, 0, .ro, 0⟩, ⟨25, 16, .ro, 0⟩]⟩ ]

/-- The block registers of the CLN page, field by field (R390, R391). -/
def clnRegs : List RegSpec := [
  -- CLN_CFG (R390): PAIR_EN, ZPROP, WAIT_MS
  ⟨0x040, 0x004, 1, [⟨0, 0, .rwl, 0⟩, ⟨1, 1, .rwl, 1⟩, ⟨23, 8, .rwl, 0x1F4⟩]⟩,
  -- CLN_CMD (R390): OP
  ⟨0x044, 0x004, 1, [⟨2, 0, .wo, 0⟩]⟩,
  -- CLN_ERR (R390): CAUSE
  ⟨0x048, 0x004, 1, [⟨4, 0, .ro, 0⟩]⟩,
  -- CERT_ADDR (R390): ADDR
  ⟨0x04C, 0x004, 1, [⟨31, 0, .rwl, 0⟩]⟩,
  -- ESTATE (R390): ESTATE_NO, VALID
  ⟨0x050, 0x004, 1, [⟨15, 0, .ro, 0⟩, ⟨16, 16, .ro, 0⟩]⟩,
  -- ROLE_STA (R390): OWN, PEER
  ⟨0x054, 0x004, 1, [⟨4, 0, .ro, 0⟩, ⟨12, 8, .ro, 0⟩]⟩,
  -- SIDE_STA (R390): SIDE0_UP, SIDE1_UP, SIDE0_HB, SIDE1_HB, DELAY_NS
  ⟨0x058, 0x004, 1, [⟨0, 0, .ro, 0⟩, ⟨1, 1, .ro, 0⟩, ⟨2, 2, .ro, 0⟩, ⟨3, 3, .ro, 0⟩, ⟨27, 16, .ro, 0⟩]⟩,
  -- TIME_OFS (R390): OFS_NS
  ⟨0x05C, 0x004, 1, [⟨15, 0, .ro, 0⟩]⟩,
  -- CAP_FWD (R390): LOAD
  ⟨0x060, 0x004, 1, [⟨23, 0, .ro, 0⟩]⟩,
  -- CAP_DIRTY (R390): PEAK
  ⟨0x064, 0x004, 1, [⟨23, 0, .ro, 0⟩]⟩,
  -- TAKE_LOG (R390): EVENT, LOST, ROLES_US, SLOT
  ⟨0x068, 0x004, 1, [⟨2, 0, .ro, 0⟩, ⟨3, 3, .ro, 0⟩, ⟨15, 4, .ro, 0⟩, ⟨31, 16, .ro, 0⟩]⟩,
  -- CNT_FWD (R390): SENT, RCVD
  ⟨0x06C, 0x004, 1, [⟨15, 0, .ro, 0⟩, ⟨31, 16, .ro, 0⟩]⟩,
  -- CNT_MIS (R390): MISMATCH, LONG
  ⟨0x070, 0x004, 1, [⟨15, 0, .ro, 0⟩, ⟨31, 16, .ro, 0⟩]⟩,
  -- PEER_ID (R390): ID
  ⟨0x074, 0x004, 4, [⟨31, 0, .ro, 0⟩]⟩,
  -- FWD_LEN (R390): LEN
  ⟨0x100, 0x004, 16, [⟨13, 0, .rwl, 0x5F2⟩]⟩,
  -- CL_STA (R391): SIG_DET, CDR_LOCK, BLK_LOCK, LINK
  ⟨0x140, 0x010, 8, [⟨0, 0, .ro, 0⟩, ⟨1, 1, .ro, 0⟩, ⟨2, 2, .ro, 0⟩, ⟨3, 3, .ro, 0⟩]⟩,
  -- CL_TXEQ (R391): PRE, MAIN, POST
  ⟨0x144, 0x010, 8, [⟨4, 0, .rw, 4⟩, ⟨11, 6, .rw, 0x30⟩, ⟨20, 16, .rw, 8⟩]⟩,
  -- CL_LPBK (R391): MODE
  ⟨0x148, 0x010, 8, [⟨1, 0, .rw, 0⟩]⟩,
  -- CL_ERR (R391): FEC_UNCORR, AUTH_FAIL
  ⟨0x14C, 0x010, 8, [⟨15, 0, .ro, 0⟩, ⟨31, 16, .ro, 0⟩]⟩ ]

/-- The block registers of the PSH page, field by field (R476). -/
def pshRegs : List RegSpec := [
  -- PSH_CFG (R476): MAX_MODE, VERIFY, TUNE50, PWR_OFF_MS
  ⟨0x040, 0x004, 1, [⟨2, 0, .rwl, 5⟩, ⟨3, 3, .rwl, 0⟩, ⟨4, 4, .rwl, 0⟩, ⟨15, 8, .rwl, 0x32⟩]⟩,
  -- PSH_CMD (R476): OP, COUNT, KEY, BUSY
  ⟨0x044, 0x004, 1, [⟨2, 0, .wo, 0⟩, ⟨15, 8, .wo, 0⟩, ⟨23, 16, .wo, 0⟩, ⟨31, 31, .ro, 0⟩]⟩,
  -- PSH_LBA (R476): LBA
  ⟨0x048, 0x004, 1, [⟨31, 0, .rw, 0⟩]⟩,
  -- PSH_LIST (R476): ADDR
  ⟨0x04C, 0x004, 1, [⟨31, 0, .rw, 0⟩]⟩,
  -- PSH_BUF (R476): ADDR
  ⟨0x050, 0x004, 1, [⟨31, 0, .rw, 0⟩]⟩,
  -- PSH_RES (R476): RESULT, DONE
  ⟨0x054, 0x004, 1, [⟨7, 0, .ro, 0⟩, ⟨15, 8, .ro, 0⟩]⟩,
  -- CARD_INFO (R476): MODE, WIDTH4, C_SIZE
  ⟨0x058, 0x004, 1, [⟨2, 0, .ro, 0⟩, ⟨3, 3, .ro, 0⟩, ⟨29, 8, .ro, 0⟩]⟩,
  -- CARD_CID (R476): CID
  ⟨0x05C, 0x004, 4, [⟨31, 0, .ro, 0⟩]⟩,
  -- CARD_HASH (R476): H
  ⟨0x06C, 0x004, 8, [⟨31, 0, .ro, 0⟩]⟩,
  -- JRNL_STA (R476): ENTRY, FOUND_STATE, RESTORED, OTHER_CARD, SEQ
  ⟨0x08C, 0x004, 1, [⟨1, 0, .ro, 0⟩, ⟨4, 2, .ro, 0⟩, ⟨5, 5, .ro, 0⟩, ⟨6, 6, .ro, 0⟩, ⟨31, 16, .ro, 0⟩]⟩ ]

/-- The block registers of the KSK page, field by field (R495). -/
def kskRegs : List RegSpec := [
  -- KSK_CFG (R495): PWD_EN, AES_EN, REG_EN, KFD_IRQ
  ⟨0x040, 0x004, 1, [⟨0, 0, .rwl, 0⟩, ⟨1, 1, .rwl, 0⟩, ⟨2, 2, .rwl, 0⟩, ⟨3, 3, .rw, 0⟩]⟩,
  -- KSK_CMD (R495): OP, REC, KEY, SLOT, BUSY
  ⟨0x044, 0x004, 1, [⟨2, 0, .wo, 0⟩, ⟨5, 3, .wo, 0⟩, ⟨15, 8, .wo, 0⟩, ⟨28, 16, .wo, 0⟩, ⟨31, 31, .ro, 0⟩]⟩,
  -- KSK_RES (R495): RESULT, SEQ
  ⟨0x048, 0x004, 1, [⟨7, 0, .ro, 0⟩, ⟨31, 16, .ro, 0⟩]⟩,
  -- KSK_UID (R495): UID
  ⟨0x04C, 0x004, 2, [⟨31, 0, .ro, 0⟩]⟩,
  -- KSK_CNT (R495): PWD_FAIL, SESSIONS
  ⟨0x054, 0x004, 1, [⟨7, 0, .ro, 0⟩, ⟨23, 8, .ro, 0⟩]⟩,
  -- KSK_DATA (R495): DATA
  ⟨0x080, 0x004, 32, [⟨31, 0, .rw, 0⟩]⟩ ]

/-- The block registers of the BST page, field by field (R533). -/
def bstRegs : List RegSpec := [
  -- BST_CMD (R533): TEST, KEY, BUSY
  ⟨0x040, 0x004, 1, [⟨3, 0, .wo, 0⟩, ⟨15, 8, .wo, 0⟩, ⟨31, 31, .ro, 0⟩]⟩,
  -- BST_ARG0 (R533): TARGET
  ⟨0x044, 0x004, 1, [⟨8, 0, .rw, 0⟩]⟩,
  -- BST_ARG1 (R533): COUNT
  ⟨0x048, 0x004, 1, [⟨15, 0, .rw, 0⟩]⟩,
  -- BST_RES (R533): TEST, RESULT, DETAIL
  ⟨0x04C, 0x004, 1, [⟨3, 0, .ro, 0⟩, ⟨7, 4, .ro, 0⟩, ⟨15, 8, .ro, 0⟩]⟩,
  -- BST_ERR (R533): ERRORS
  ⟨0x050, 0x004, 1, [⟨31, 0, .ro, 0⟩]⟩,
  -- BST_SIG (R533): MISR
  ⟨0x054, 0x004, 1, [⟨31, 0, .ro, 0⟩]⟩,
  -- BST_EXP (R533): EXPECT
  ⟨0x058, 0x004, 1, [⟨31, 0, .ro, 0⟩]⟩,
  -- BST_MEAS (R533): FAILED, SKIPPED, SPREAD
  ⟨0x05C, 0x004, 1, [⟨7, 0, .ro, 0⟩, ⟨15, 8, .ro, 0⟩, ⟨27, 16, .ro, 0⟩]⟩ ]

/-- The block registers of the PRM page, field by field (R183, R184, R185, R186, R187). -/
def prmRegs : List RegSpec := [
  -- FAB_CFG (R183): MAX_LEN, CUT_EN, MGMT_VID
  ⟨0x040, 0x004, 1, [⟨13, 0, .rwl, 0x5F2⟩, ⟨14, 14, .rwl, 0⟩, ⟨27, 16, .rwl, 0⟩]⟩,
  -- FDB_AGE (R184): AGE_S
  ⟨0x044, 0x004, 1, [⟨15, 0, .rwl, 0x12C⟩]⟩,
  -- DD_AGE (R184): FORGET_MS
  ⟨0x048, 0x004, 1, [⟨11, 0, .rwl, 0x190⟩]⟩,
  -- POOL_STA (R184): FREE, TABLES
  ⟨0x04C, 0x004, 1, [⟨12, 0, .ro, 0⟩, ⟨21, 16, .ro, 0⟩]⟩,
  -- PAIR_ERR (R185): PAIR, CAUSE
  ⟨0x050, 0x004, 1, [⟨4, 0, .ro, 0⟩, ⟨10, 8, .ro, 0⟩]⟩,
  -- TBL_CMD (R186): OP, TABLE, INDEX, BUSY
  ⟨0x054, 0x004, 1, [⟨1, 0, .wo, 0⟩, ⟨3, 2, .wo, 0⟩, ⟨19, 4, .wo, 0⟩, ⟨31, 31, .ro, 0⟩]⟩,
  -- TBL_DATA (R186): DATA
  ⟨0x060, 0x004, 17, [⟨31, 0, .rw, 0⟩]⟩,
  -- PAIR_CFG (R187): PORT_A, PORT_B, MODE, SPLIT, DUPQ_EN, DUPQ, EN
  ⟨0x100, 0x008, 32, [⟨7, 0, .rwl, 0⟩, ⟨15, 8, .rwl, 0⟩, ⟨17, 16, .rwl, 0⟩, ⟨18, 18, .rwl, 0⟩, ⟨19, 19, .rwl, 0⟩, ⟨21, 20, .rwl, 0⟩, ⟨31, 31, .rw, 0⟩]⟩,
  -- PAIR_ILK (R187): ILK_PORT, ILK_KIND, NET_ID
  ⟨0x104, 0x008, 32, [⟨7, 0, .rwl, 0⟩, ⟨9, 8, .rwl, 0⟩, ⟨14, 12, .rwl, 0⟩]⟩ ]

/-- The block registers of the PRC page, field by field (R189, R190, R188). -/
def prcRegs : List RegSpec := [
  -- GCL_ADDR (R189): PORT_IDX, ENTRY, LIST
  ⟨0x040, 0x004, 1, [⟨3, 0, .rw, 0⟩, ⟨10, 4, .rw, 0⟩, ⟨12, 12, .rw, 0⟩]⟩,
  -- GCL_DATA (R189): GATES, INTERVAL
  ⟨0x044, 0x004, 1, [⟨7, 0, .rw, 0⟩, ⟨31, 8, .rw, 0⟩]⟩,
  -- MS_ADDR (R190): PORT_IDX, DIR, SC, SA, WORD
  ⟨0x048, 0x004, 1, [⟨3, 0, .rw, 0⟩, ⟨4, 4, .rw, 0⟩, ⟨6, 5, .rw, 0⟩, ⟨7, 7, .rw, 0⟩, ⟨10, 8, .rw, 0⟩]⟩,
  -- MS_DATA (R190): DATA
  ⟨0x04C, 0x004, 1, [⟨31, 0, .rw, 0⟩]⟩,
  -- PORT_CFG (R188): STATE, MACSEC_EN, MS_STRICT, MS_OFS, PTP_EN, SIM_ON_TEST, PVID, DEF_PCP, TAG_ONLY
  ⟨0x100, 0x040, 16, [⟨1, 0, .rw, 0⟩, ⟨2, 2, .rwl, 0⟩, ⟨3, 3, .rwl, 1⟩, ⟨5, 4, .rwl, 0⟩, ⟨6, 6, .rwl, 0⟩, ⟨7, 7, .rwl, 0⟩, ⟨19, 8, .rwl, 1⟩, ⟨22, 20, .rwl, 0⟩, ⟨23, 23, .rwl, 0⟩]⟩,
  -- PORT_STA (R188): LINK, SPEED, PTP_STATE, DROP_CNT
  ⟨0x104, 0x040, 16, [⟨0, 0, .ro, 0⟩, ⟨3, 1, .ro, 0⟩, ⟨7, 4, .ro, 0⟩, ⟨31, 16, .ro, 0⟩]⟩,
  -- TS_ADJ (R188): RX_ADJ, TX_ADJ
  ⟨0x108, 0x040, 16, [⟨15, 0, .rw, 0⟩, ⟨31, 16, .rw, 0⟩]⟩,
  -- PDELAY (R188): DELAY, VALID
  ⟨0x10C, 0x040, 16, [⟨23, 0, .ro, 0⟩, ⟨31, 31, .ro, 0⟩]⟩,
  -- GCL_CTL (R188): GATE_EN, BASE_SEL, CMP, ADMIN_LEN, OPER_LEN, PENDING, CONFIG_CHANGE
  ⟨0x110, 0x040, 16, [⟨0, 0, .rw, 0⟩, ⟨1, 1, .rw, 0⟩, ⟨7, 2, .rw, 0⟩, ⟨15, 8, .rw, 0⟩, ⟨23, 16, .ro, 0⟩, ⟨30, 30, .ro, 0⟩, ⟨31, 31, .wo, 0⟩]⟩,
  -- GCL_CYCLE (R188): CYCLE_NS
  ⟨0x114, 0x040, 16, [⟨27, 0, .rw, 0⟩]⟩,
  -- GCL_BASE_S (R188): BASE_S
  ⟨0x118, 0x040, 16, [⟨31, 0, .rw, 0⟩]⟩,
  -- GCL_BASE_NS (R188): BASE_NS
  ⟨0x11C, 0x040, 16, [⟨29, 0, .rw, 0⟩]⟩,
  -- GCL_INIT (R188): GATES
  ⟨0x120, 0x040, 16, [⟨7, 0, .rw, 0xFF⟩]⟩,
  -- MS_PN_TH (R188): TH
  ⟨0x124, 0x040, 16, [⟨31, 0, .rw, 0xC0000000⟩]⟩ ]

/-- The block registers of the FLY page, field by field (R191). -/
def flyRegs : List RegSpec := [
  -- FLY_CTL (R191): RUN, DIR, DROP_EN, DROP_MODE, CORR_EN, FCS_FIX, DUP_EN, REORD_EN, DELAY_EN, MATCH_EN, AUXQ, MATCH_ETYPE
  ⟨0x100, 0x040, 16, [⟨0, 0, .rw, 0⟩, ⟨1, 1, .rw, 0⟩, ⟨2, 2, .rw, 0⟩, ⟨3, 3, .rw, 0⟩, ⟨4, 4, .rw, 0⟩, ⟨5, 5, .rw, 0⟩, ⟨6, 6, .rw, 0⟩, ⟨7, 7, .rw, 0⟩, ⟨8, 8, .rw, 0⟩, ⟨9, 9, .rw, 0⟩, ⟨11, 10, .rw, 0⟩, ⟨31, 16, .rw, 0⟩]⟩,
  -- FLY_DROP (R191): PARAM
  ⟨0x104, 0x040, 16, [⟨15, 0, .rw, 0⟩]⟩,
  -- FLY_CORR (R191): OFFSET, N
  ⟨0x108, 0x040, 16, [⟨13, 0, .rw, 0⟩, ⟨31, 16, .rw, 0⟩]⟩,
  -- FLY_MASK (R191): MASK
  ⟨0x10C, 0x040, 16, [⟨31, 0, .rw, 0⟩]⟩,
  -- FLY_DUP (R191): N
  ⟨0x110, 0x040, 16, [⟨15, 0, .rw, 0⟩]⟩,
  -- FLY_REORD (R191): K, M
  ⟨0x114, 0x040, 16, [⟨15, 0, .rw, 0⟩, ⟨23, 16, .rw, 0⟩]⟩,
  -- FLY_DELAY (R191): NS, CMP
  ⟨0x118, 0x040, 16, [⟨19, 0, .rw, 0⟩, ⟨25, 20, .rw, 0⟩]⟩,
  -- FLY_SEED (R191): SEED
  ⟨0x11C, 0x040, 16, [⟨31, 0, .rw, 1⟩]⟩,
  -- FLY_CNT (R191): ACTED, FULL_DROP
  ⟨0x120, 0x040, 16, [⟨23, 0, .ro, 0⟩, ⟨31, 24, .ro, 0⟩]⟩ ]

/-- The block registers of the LNE page, field by field (R178, R179, R180, R181). -/
def lneRegs : List RegSpec := [
  -- LN_MODE (R178): MODE, FEC, AN_EN, TX_INV, RX_INV
  ⟨0x040, 0x004, 1, [⟨2, 0, .rwl, 0⟩, ⟨5, 4, .rwl, 0⟩, ⟨6, 6, .rwl, 0⟩, ⟨8, 8, .rwl, 0⟩, ⟨9, 9, .rwl, 0⟩]⟩,
  -- LN_LPBK (R179): MODE
  ⟨0x044, 0x004, 1, [⟨1, 0, .rw, 0⟩]⟩,
  -- LN_TXEQ (R180): PRE, MAIN, POST
  ⟨0x048, 0x004, 1, [⟨4, 0, .rw, 4⟩, ⟨11, 6, .rw, 0x30⟩, ⟨20, 16, .rw, 8⟩]⟩,
  -- LN_ERR (R181): FEC_CORR, FEC_UNCORR
  ⟨0x04C, 0x004, 1, [⟨15, 0, .ro, 0⟩, ⟨31, 16, .ro, 0⟩]⟩ ]

/- Offsets of the common page header (R8). -/
namespace Reg.Hdr
abbrev ID : Nat := 0x000
abbrev VER : Nat := 0x004
abbrev CTL : Nat := 0x008
abbrev STA : Nat := 0x00C
abbrev FLT_STA : Nat := 0x010
abbrev FLT_MSK : Nat := 0x014
abbrev FLT_INJ : Nat := 0x018
abbrev BGT : Nat := 0x01C
abbrev CLAIM : Nat := 0x020
abbrev AUTH : Nat := 0x024
abbrev LOCK : Nat := 0x028
end Reg.Hdr

/-- The page number of instance n of a block whose base index is b (R534, R535). -/
def pageAt (b n : Nat) : Nat := b * 16 + n

abbrev pSys : Nat := 0x000
abbrev pLdg : Nat := 0x010
abbrev pGth : Nat := 0x020
abbrev pCcp : Nat := 0x030
abbrev pHif : Nat := 0x040
abbrev pNvm : Nat := 0x050
abbrev pBlv : Nat := 0x060
abbrev pHdg : Nat := 0x070
abbrev pSdl : Nat := 0x080
abbrev pPgl : Nat := 0x090
abbrev pPav : Nat := 0x0A0
abbrev pPtr0 : Nat := 0x0B0
abbrev pPtr1 : Nat := 0x0B1
abbrev pPtr2 : Nat := 0x0B2
abbrev pPtr3 : Nat := 0x0B3
abbrev pOrg : Nat := 0x0C0
abbrev pArb : Nat := 0x0D0
abbrev pFtn : Nat := 0x0E0
abbrev pCln : Nat := 0x0F0
abbrev pPsh : Nat := 0x100
abbrev pKsk : Nat := 0x110
abbrev pBst : Nat := 0x120
/-- The fabric page, PRM instance 0. -/
abbrev pPrm : Nat := 0x200
/-- The cluster page of lane group g: PRM instance g + 1. -/
abbrev pPrc (g : Nat) : Nat := 0x201 + g
abbrev pFly (g : Nat) : Nat := 0x240 + g
abbrev pLne (n : Nat) : Nat := 0x280 + n

/-- The block that owns a page, and its instance number (R534); `none` where no page lies (R536). -/
def blkOf (p : Nat) : Option (Blk × Nat) :=
  if p = 0x000 then some (.sys, 0) else if p = 0x010 then some (.ldg, 0)
  else if p = 0x020 then some (.gth, 0) else if p = 0x030 then some (.ccp, 0)
  else if p = 0x040 then some (.hif, 0) else if p = 0x050 then some (.nvm, 0)
  else if p = 0x060 then some (.blv, 0) else if p = 0x070 then some (.hdg, 0)
  else if p = 0x080 then some (.sdl, 0) else if p = 0x090 then some (.pgl, 0)
  else if p = 0x0A0 then some (.pav, 0) else if p = 0x0B0 then some (.ptr0, 0)
  else if p = 0x0B1 then some (.ptr1, 1) else if p = 0x0B2 then some (.ptr2, 2)
  else if p = 0x0B3 then some (.ptr3, 3) else if p = 0x0C0 then some (.org, 0)
  else if p = 0x0D0 then some (.arb, 0) else if p = 0x0E0 then some (.ftn, 0)
  else if p = 0x0F0 then some (.cln, 0) else if p = 0x100 then some (.psh, 0)
  else if p = 0x110 then some (.ksk, 0) else if p = 0x120 then some (.bst, 0)
  else if p = 0x200 then some (.prm, 0)
  else if 0x201 ≤ p ∧ p ≤ 0x210 then some (.prc, p - 0x200)
  else if 0x240 ≤ p ∧ p ≤ 0x24F then some (.fly, p - 0x240)
  else if 0x280 ≤ p ∧ p ≤ 0x2BF then some (.lne, p - 0x280)
  else none

/-- The block index that a page's Gatehouse masks belong to (R497). -/
def indexOf (p : Nat) : Nat := p / 16

/-- A block's prefix in ASCII, first letter highest (R9). -/
def Blk.name : Blk → Nat
  | .sys => 0x535953 | .ldg => 0x4C4447 | .gth => 0x475448 | .ccp => 0x434350 | .hif => 0x484946
  | .nvm => 0x4E564D | .blv => 0x424C56 | .hdg => 0x484447 | .sdl => 0x53444C | .pgl => 0x50474C
  | .pav => 0x504156 | .ptr0 => 0x505452 | .ptr1 => 0x505452 | .ptr2 => 0x505452 | .ptr3 => 0x505452
  | .org => 0x4F5247 | .arb => 0x415242 | .ftn => 0x46544E | .cln => 0x434C4E | .psh => 0x505348
  | .ksk => 0x4B534B | .bst => 0x425354 | .prm => 0x50524D | .prc => 0x50524D | .fly => 0x464C59
  | .lne => 0x4C4E45

/-- The block registers of a block's pages. -/
def Blk.regs : Blk → List RegSpec
  | .sys => sysRegs | .ldg => ldgRegs | .gth => gthRegs | .ccp => ccpRegs | .hif => hifRegs
  | .nvm => nvmRegs | .blv => blvRegs | .hdg => hdgRegs | .sdl => sdlRegs | .pgl => pglRegs
  | .pav => pavRegs | .ptr0 => ptr0Regs | .ptr1 => ptr1Regs | .ptr2 => ptr2Regs | .ptr3 => ptr3Regs
  | .org => orgRegs | .arb => arbRegs | .ftn => ftnRegs | .cln => clnRegs | .psh => pshRegs
  | .ksk => kskRegs | .bst => bstRegs | .prm => prmRegs | .prc => prcRegs | .fly => flyRegs
  | .lne => lneRegs

/-- The FLT_STA bits a block's pages use (R60, R119, R177, R182, R191, R222, R250, R314, R336, R359,
R361, R389, R412, R436, R454, R475, R494, R519, R521, R523, R532). -/
def Blk.faultMask : Blk → Nat
  | .sys => 0x3F | .ldg => 0 | .gth => 0x3F | .ccp => 0x3 | .hif => 0xF | .nvm => 0xFF | .blv => 0x7
  | .hdg => 0x1FF | .sdl => 0x7FFF | .pgl => 0xFF | .pav => 0x7F | .ptr0 => 0x3 | .ptr1 => 0x3F
  | .ptr2 => 0x3F | .ptr3 => 0x23 | .org => 0x7F | .arb => 0xF | .ftn => 0x3F | .cln => 0x1FF
  | .psh => 0x7F | .ksk => 0x3F | .bst => 0x7 | .prm => 0x7F | .prc => 0 | .fly => 0x7 | .lne => 0x1F

/-- The FLT_STA bits whose class is uncorrected but contained; the others in use are corrected (R418
and each chapter's table). -/
def Blk.uncorrMask : Blk → Nat
  | .nvm => 0x86 | .hdg => 0x1FF | .pgl => 0x0D | .pav => 0x03 | .ptr1 => 0x1 | .ptr2 => 0x1
  | .org => 0x40 | .ftn => 0x1F | .cln => 0x64 | .psh => 0x10 | .prm => 0x42 | _ => 0

/-- The class of FLT_STA bit n of a page: 1 corrected, 2 uncorrected but contained (R418). -/
def faultClass (p n : Nat) : Nat :=
  match blkOf p with
  | some (b, _) => if b.uncorrMask.testBit n then 2 else 1
  | none => 1

/-- The memory unit numbers a page owns for FLT_INJ (R415): how many units 0, 1, … it has. -/
def Blk.injUnits : Blk → Nat
  | .ptr1 => 1 | .prm => 1 | .pav => 2 | .ccp => 1 | .nvm => 4 | .arb => 1 | .ksk => 1 | _ => 0

/-- The CLAIM bits a block's page can claim: compare groups [15:0] and AOUT28–31 uses [23:16] for SDL
(R113, R120), compare groups [15:0] and AUX quarters [19:16] for the PRM fabric and FLY pages (R168).
Every other page reserves CLAIM. -/
def Blk.claimMask : Blk → Nat
  | .sdl => 0xFFFFFF | .prm => 0xFFFFF | .fly => 0xFFFFF | _ => 0

/-- The header registers a page holds as storage: CTL.EN, STA, FLT_STA, FLT_MSK, FLT_INJ, BGT, CLAIM
and LOCK (R8, R11, R12, R15, R232, R434, R435). -/
def hdrRegs (b : Blk) : List RegSpec := [
  ⟨Reg.Hdr.CTL, 4, 1, [⟨0, 0, .rw, 0⟩, ⟨1, 1, .wo, 0⟩]⟩,
  ⟨Reg.Hdr.STA, 4, 1, [⟨2, 0, .ro, 0⟩, ⟨31, 8, .ro, 0⟩]⟩,
  ⟨Reg.Hdr.FLT_STA, 4, 1, [⟨31, 0, .w1c, 0⟩]⟩,
  ⟨Reg.Hdr.FLT_MSK, 4, 1, [⟨31, 0, .rw, 0⟩]⟩,
  ⟨Reg.Hdr.FLT_INJ, 4, 1, [⟨4, 0, .rw, 0⟩, ⟨5, 5, .rw, 0⟩, ⟨7, 6, .rw, 0⟩, ⟨12, 8, .rw, 0⟩,
    ⟨16, 16, .ro, 0⟩, ⟨17, 17, .w1c, 0⟩]⟩,
  ⟨Reg.Hdr.BGT, 4, 1, match b with
    | .nvm | .psh | .hif | .ccp => [⟨5, 0, .rwl, 0⟩]
    | _ => []⟩,
  ⟨Reg.Hdr.CLAIM, 4, 1, [⟨31, 0, .rw, 0⟩]⟩,
  ⟨Reg.Hdr.LOCK, 4, 1, [⟨0, 0, .rwl, 0⟩]⟩ ]

/-- The register at an offset of a page, if one lies there (reserved offsets: R7). -/
def specOf (p o : Nat) : Option RegSpec :=
  match blkOf p with
  | none => none
  | some (b, _) =>
    if o < 0x40 then (hdrRegs b).find? (·.at? o) else b.regs.find? (·.at? o)

/-- The reset value of the register at an offset of a page (0 where none lies). -/
def regReset (p o : Nat) : Word :=
  match specOf p o with
  | none => 0
  | some r => r.reset

/-- The key of a register in the register file. -/
def regKey (p o : Nat) : Nat := p * 0x1000 + o

/-- What an unlisted register file key reads as: the register's reset value. -/
def regDflt (k : Nat) : Word := regReset (k / 0x1000) (k % 0x1000)

end Sys2Proof.Machine
end

