-- ==== Sys2Proof/Machine/State.lean ====
section
/-!
DEFINITION. The state of the Bernil 6400 as a block: every register of every page, every memory, table,
queue, key store and sequencer the manual names, and the commands that wait. Plain data throughout.
-/
namespace Sys2Proof.Machine

/-- Why the machine stops. -/
inductive Fault where
  /-- A command whose operands are none the hardware can meet (`Instr.wf` is false): raised by every
  meaning through `runIf`. Safe: no such command arrives at a device. -/
  | illFormed
  deriving DecidableEq, Repr

/-- Why a command has no meaning. -/
inductive Refusal where
  /-- A command without a meaning in this model: raised by the dispatcher alone. Safe. -/
  | notModelled (mnemonic : String)
  deriving DecidableEq, Repr

/-- The state of the device and the commands waiting at it. -/
structure State where
  /-- Every register of every page (key: page × 0x1000 + offset); an unlisted one holds its reset value. -/
  regs : Sparse Word
  /-- Local time in ns since the power-on reset, as told by the commands that carry time. -/
  now : Nat
  /-- Draws of free values made so far (the model's own field). -/
  freeCtr : Nat
  /-- What the last command put on the wires or answered to its port, oldest first. -/
  out : List Emission
  /-- The ERR_N ball is held low (R426). -/
  errN : Bool
  /-- The MS_IRQ_N ball is held low (R514). -/
  msIrqN : Bool
  /-- The KFD ball is high (R479). -/
  kfd : Bool
  pwr : Power
  ldg : Lodge
  boot : Boot
  gate : Gate
  blv : Belvedere
  hdg : Hedge
  well : Well
  sdl : Sundial
  prm : Promenade
  ptr : Parterre
  pgl : Pergola
  pav : Pavilion
  /-- Ndear-P and Ndear-C. -/
  engP : Engine
  engC : Engine
  mem : Memories
  org : Orangery
  arb : Arbour
  ftn : Fountain
  cln : Colonnade
  nvm : Nvm
  otp : Otp
  psh : Shed
  ksk : Kiosk
  ccp : CtlPage
  hif : HostLink
  dbg : Debug
  bst : Option SelfTest
  /-- Commands that wait, first in first out. -/
  pending : List Instr
  deriving DecidableEq, Repr

/-- An Ndear core after reset: no bundle issued, every register, port and accumulator 0 (R258, R259).
(DESIGN CHOICE, log entry 1.) -/
def Engine.reset : Engine :=
  { pc := 0, guards := 0, rf := [], opnd := [], res := [], acc := [], sticky := [], flight := [], trig := [], defer := [], cycle := 0, use := .bundle
    stalls := 0, xfer := none, rep := none, nextRep := none, rs := [], depth := 0, dsBase := 0, dsLimit := 0
    st := 0, tvec := 0, epc := 0, cause := 0, tval := 0, erep := 0, exfer := 0, dsb := 0, dsl := 0, cych := 0
    scr := [0, 0, 0, 0], stores := [], longLoad := none, waiting := false, halted := false }

/-- Ndear-C after reset: the boot ROM starts in SYS mode (R277). -/
def Engine.coreReset : Engine := { Engine.reset with st := 1 }

/-- Supplies in range and every reference clock present.
(DESIGN CHOICE, log entry 1.) -/
def Power.reset : Power :=
  { low := [], vddio18Lost := false, vbatOk := true, cdVioOk := true, refALost := false, refBLost := false
    sysclkLost := false, ref10mLost := false, pcieRefLost := false, thermLow := false, temps := [], avsSilent := false, avsAsked := false }

/-- The Lodge at RST_N release after power-up: the balls at AOUT_SAFE, 0b00 high-impedance (R77, R83).
(DESIGN CHOICE, log entry 7.) -/
def Lodge.reset : Lodge :=
  { phase := .running, rstNLow := false, t4 := true, aout := List.replicate 32 .z, errLive := false
    errBoot := false, errFatal := false, wdgAt := 0, coreStopped := false, pglStopped := false, fabStopped := false }

/-- Nothing booted. -/
def Boot.reset : Boot :=
  { entered := false, entry := 0, polling := false, accepted := none, stream := none, card := none, pkgOff := 0, t0 := 0
    ftnFails := 0 }

/-- Masks as loaded, nothing logged, pending or held (R497, R498, R520). -/
def Gate.reset : Gate :=
  { cur := [], log := [], pairs := [], held := [], proxy := none, bootDone := false, kept := [], acc := [] }

/-- An empty history and nothing reported (R422, R437). -/
def Belvedere.reset : Belvedere :=
  { hist := [], lostNext := false, incoming := [], halted := false, recent := [], fences := [], lift := []
    latch := [0, 0, 0, 0, 0] }

/-- No condition present (R444). -/
def Hedge.reset : Hedge :=
  { active := [], raised := [], lightWait := none, mismatch := [], suppressed := [] }

/-- A well that holds nothing yet: no BBR, no records (R450, R453).
(DESIGN CHOICE, log entry 1.) -/
def Well.reset : Well :=
  { pattern := true, bbr := none, impNonce := none, zeroised := false, zcnt := 0, records := [], overflow := 0
    staLoss := none, ticks := 0, onVbat := false }

/-- A source that has not qualified. -/
def SrcQual.reset : SrcQual := ⟨0, false, none, false, 0, none⟩
/-- A reference channel in IDLE (R103). -/
def RefChan.reset : RefChan := ⟨.idle, 0, 0⟩

/-- Station time from 0 in FREE, no slot run (R90, R134). -/
def Sundial.reset : Sundial :=
  { time := 0, state := .free, src := .none, lastSrc := .none, ptp := .reset, pps := .reset, pps2 := .reset, lockRun := 0
    slew := 0, holdAt := 0, rate10m := 0, rateSys := 0, ptpSeq := [], step := none, dated := false, gmClass := 248, gmId := 0, erbest := [], ref10mUsed := false, tstep := 0
    timeLatch := 0, angLatch := 0, angLatchNs := 0, ang := 0, angRem := 0, freq := 0
    angSrc := .free, pri := .reset, sec := .reset, ofsRun := [], learned := false, ofs := 0, chanOfs := 0
    slewFor := 0, angOfs := 0, mode := .angle, realign := false, slotAt := none, slotCnt := 0, cmp := [], edges := [], evt := []
    ppsOut := false }

/-- Empty tables and queues. -/
def Promenade.reset : Promenade :=
  { vlan := [], fdb := [], proxy := [], dup := [], seqs := [], queues := [], gcl := [], gates := [], ms := []
    folly := [], lfsr := [], pipe0 := [], pipe1 := [], txStamp := none }

/-- No subscription, no publication. -/
def Parterre.reset : Parterre :=
  { sv := [], goose := [], staged := [], stageDrop := 0, stagedLate := [], gooseLate := [], gooseNotes := [], fixWait := false, exc1 := [], exc2 := [], tagWait := [], goosePub := []
    svPub := [], outBuf := [], built := [], cfg1 := [], cfg2 := [], cfg3 := [], everEnabled := false }

/-- Not enabled, nothing scheduled. -/
def Pergola.reset : Pergola :=
  { sched := [], stat := [], due := [], open5 := false, run := none, used := 0, runs := 0, stall := 0
    charge := [], exceeded := [], heldWin := false, winAt := 0, log := [], everEnabled := false, clearing := []
    owners := [] }

/-- No channel, every output word never committed. -/
def Pavilion.reset : Pavilion :=
  { desc := [], chan := [], ow := [], traps := [], trapLatch := [0, 0, 0], evq := [], evqLost := false
    evqLatch := [0, 0, 0, 0], starts := 0, slotRec := [0, 0, 0, 0, 0, 0, 0, 0], capDef := [], caps := [], ctlWait := [] }

/-- Every on-die memory cleared (R69 step 4), the MRAM erased.
(DESIGN CHOICE, log entry 6.) -/
def Memories.reset : Memories :=
  { sample := [], packet := [], ctx := [], table := [], csram := [], mram := [], scratch := [], kiosk := []
    marks := [] }

/-- No key, no command, no descriptor. -/
def Orangery.reset : Orangery :=
  { slots := [], kekS := none, dKA := none, keyCmd := none, queue := [], jobs := [], zeroising := false }

/-- Idle, no scalar held. -/
def Arbour.reset : Arbour :=
  { phase := .idle, cur := none, rnd := [], waiting := [], eph := [none, none, none, none], dID := none, src := 0, len := 0 }

/-- STATE = RESET, nothing waiting (R361). -/
def Fountain.reset : Fountain := { st := .reset, waiting := [], latch := [], res := [] }

/-- OFF, no session (R369). -/
def Colonnade.reset : Colonnade :=
  { st := .off, donor := false, attach := none, session := false, keys := [], records := [], peerRecs := [], unitVer := [], heads0 := []
    bulkDone := false, leaving := false, handing := false, adopt := none, peerRec := none, seqSnap := []
    takeSeq := [], peer := .waiting, detached := false
    keyWait := none, latchMac := none, latchValid := false, takes := [] }

/-- The slot empty and unpowered (R475). -/
def Shed.reset : Shed :=
  { st := .empty, job := none, held := false, inserted := false, pwrEn := false, vsel := false, lbas := [], old := []
    cid := [], csd := [] }

/-- Outside a field, no key and no password set (R481).
(DESIGN CHOICE, log entry 1.) -/
def Kiosk.reset : Kiosk :=
  { st := .powerOff, auth := .open, star := false, level := 1, handle := 0, slotCtr := 0, staging := []
    nb := none, ks := none, ctr := 0, holdoff := false, key := none, pwd := [], pwdSet := false, fails := 0
    blocked := false, field := false, strong := false }

/-- The state right after a power-on reset with loss of VDDIO18, at RST_N release (R41, R61, R64).
(DESIGN CHOICE, log entries 1, 7.) -/
def State.reset : State :=
  { regs := [], now := 0, freeCtr := 0, out := [], errN := false, msIrqN := false, kfd := false
    pwr := .reset, ldg := .reset, boot := .reset, gate := .reset, blv := .reset, hdg := .reset
    well := .reset, sdl := .reset, prm := .reset, ptr := .reset, pgl := .reset, pav := .reset
    engP := .reset, engC := .coreReset, mem := .reset, org := .reset, arb := .reset, ftn := .reset
    cln := .reset, nvm := ⟨none, none, false, []⟩, otp := ⟨[], []⟩, psh := .reset, ksk := .reset
    ccp := ⟨[], [], 0⟩, hif := ⟨true, false, none, none⟩
    dbg := ⟨0, false, [], false, [], false, 0, 0, []⟩, bst := none, pending := [] }

end Sys2Proof.Machine
end

