-- ==== Sys2Proof/Machine/Ops.lean ====
section
/-!
DEFINITION. The operations every block shares: register fields, emissions, reports to the Belvedere, Gatehouse
log entries, free draws, the page enable, the pins that follow the state, and how a meaning ends.
-/
namespace Sys2Proof.Machine

/-! Registers -/

/-- The register at offset o of page p. -/
def State.reg (s : State) (p o : Nat) : Word := smGet regDflt s.regs (regKey p o)

/-- The state with the register at offset o of page p holding w. -/
def State.setReg (s : State) (p o : Nat) (w : Word) : State :=
  { s with regs := smSet regDflt s.regs (regKey p o) w }

/-- The field [hi:lo] of a register. -/
def State.fld (s : State) (p o hi lo : Nat) : Nat := bits (s.reg p o) hi lo

/-- The state with field [hi:lo] of a register holding v (cut to the field). -/
def State.setFld (s : State) (p o hi lo v : Nat) : State :=
  s.setReg p o (putBits (s.reg p o) hi lo v)

/-- Bit i of a register. -/
def State.flag (s : State) (p o i : Nat) : Bool := bitAt (s.reg p o) i

/-- The state with bit i of a register set or clear. -/
def State.setFlag (s : State) (p o i : Nat) (b : Bool) : State := s.setFld p o i i (b2n b)

/-- A field that counts up and saturates. -/
def State.countFld (s : State) (p o hi lo n : Nat) : State :=
  s.setFld p o hi lo (satAdd (2 ^ (hi + 1 - lo) - 1) (s.fld p o hi lo) n)

/-- Registers n, n + 1, … of an array `stride` apart take the words in order. -/
def State.setRegs (s : State) (p o stride : Nat) : List Word → State
  | [] => s
  | w :: ws => (s.setReg p o w).setRegs p (o + stride) stride ws

/-- The registers of a page that an offset test names return to their reset values. -/
def State.clearPage (s : State) (p : Nat) (keep : Nat → Bool) : State :=
  { s with regs := smKeep s.regs (fun k => decide (k / 0x1000 ≠ p) || keep (k % 0x1000)) }

/-- CTL.EN of a page (R11). -/
def State.enabled (s : State) (p : Nat) : Bool := s.flag p Reg.Hdr.CTL 0

/-- A page is fenced (R429): a fence whose target is the page's block is in force. -/
def State.fencedPage (s : State) (p : Nat) : Bool := s.blv.fences.any (fun f => decide (f.target = BitVec.ofNat 32 (p % 4096)))

/-- STA.FENCED: the page or an instance of it is fenced (R12). -/
def State.fencedIn (s : State) (p : Nat) : Bool := s.blv.fences.any (fun f => decide (bits f.target 11 0 = p))

/-- The Pergola is enabled. -/
def State.pglOn (s : State) : Bool := s.enabled pPgl

/-! Wires -/

/-- One more emission.
(DESIGN CHOICE, log entry 158.) -/
def State.emit (s : State) (e : Emission) : State := { s with out := s.out ++ [e] }

/-- An octet-count draw of the Fountain or an oscillator: a free value (R352, R355).
(DESIGN CHOICE, log entry 10.) -/
def State.drawOctets (s : State) (n : Nat) : List Byte × State :=
  ((List.range n).map (Config.randomOctet s.freeCtr), { s with freeCtr := s.freeCtr + 1 })

/-- A value the manual leaves open.
(DESIGN CHOICE, log entry 11.) -/
def State.drawWord (s : State) : Word × State :=
  (Config.freeWord s.freeCtr, { s with freeCtr := s.freeCtr + 1 })

/-- A choice the manual leaves open.
(DESIGN CHOICE, log entry 12.) -/
def State.drawNat (s : State) : Nat × State :=
  (Config.freeNat s.freeCtr, { s with freeCtr := s.freeCtr + 1 })

/-! Faults -/

/-- The ORIGIN word of R420. -/
def originOf (page kind item : Nat) : Word :=
  BitVec.ofNat 32 (page % 4096 + (kind % 8) * 2 ^ 12 + (item % 8192) * 2 ^ 16)

/-- The bits of a reaction word, in the order of RCT_COR (R437). -/
abbrev rctFence : Nat := 0x01
abbrev rctDegrade : Nat := 0x02
abbrev rctZeroise : Nat := 0x04
abbrev rctHalt : Nat := 0x08
abbrev rctReset : Nat := 0x10

/-- A report goes to the Belvedere, which takes it in its next step (R420, R421, R432). -/
def State.report (s : State) (r : Report) : State := { s with blv.incoming := s.blv.incoming ++ [r] }

/-- Cause n of page p arises: FLT_STA bit n is set and the report leaves, marked where FLT_MSK masks it
(R434, R428). -/
def State.faultWith (s : State) (p n kind item want : Nat) (fencePage : Option Nat) (hdgReset : Bool) : State :=
  let s := s.setFlag p Reg.Hdr.FLT_STA n true
  s.report { page := p, kind := kind, item := item, cause := n, cls := faultClass p n, addr := 0, inj := false
             masked := s.flag p Reg.Hdr.FLT_MSK n, want := want, fencePage := fencePage, hdgReset := hdgReset }

/-- Cause n of page p about an item, with the reactions a block rule requests. -/
def State.faultItem (s : State) (p n kind item want : Nat) : State := s.faultWith p n kind item want none false

/-- Cause n of page p, about the page's block. -/
def State.fault (s : State) (p n : Nat) : State := s.faultItem p n 0 0 0

/-- A cause of 0x20 and above: no FLT_STA bit, not maskable. -/
def State.reportCode (s : State) (p kind item cause cls addr : Nat) (inj : Bool) : State :=
  s.report { page := p, kind := kind, item := item, cause := cause, cls := cls, addr := addr, inj := inj
             masked := false, want := 0, fencePage := none, hdgReset := false }

/-! The Gatehouse log -/

/-- A port's bit of R13. -/
def Port.bit : Port → Nat
  | .host => 0 | .core => 1 | .maint => 2 | .twin => 3 | .kiosk => 4 | .card => 5 | .net => 6 | .debug => 7
  | .boot => 8

/-- The port of a log entry: 0xF where no access of a Gatehouse port caused it (R501). -/
def portCode : Option Port → Nat
  | some p => p.bit
  | none => 0xF

/-- Entry kinds of GTH_LOG (R520). -/
abbrev logAuth : Nat := 1
abbrev logRefused : Nat := 2
abbrev logMalformed : Nat := 3
abbrev logClaim : Nat := 4
abbrev logNotice : Nat := 5
/-- The mark of an access whose shadow pair failed, beside the kinds above. -/
abbrev accPair : Nat := 6
/-- The mark of an access whose write was discarded without a log entry. -/
abbrev accLost : Nat := 7
/-- An access is marked. -/
def State.accMark (s : State) (m : Nat) : State := { s with gate.acc := s.gate.acc ++ [m] }

/-- A log entry: the oldest is replaced when 32 are in use, the new one then carries LOST, the kind's
FLT_STA bit is set (a notice has none) and vector 17 is sent (R501, R508, R519). -/
def State.gthLog (s : State) (kind : Nat) (port : Option Port) (page off : Nat) : State :=
  let full := decide (32 ≤ s.gate.log.length)
  let e : GthEntry := ⟨kind, full, portCode port, page, off / 4 % 1024⟩
  let s := { s with gate.log := (if full then s.gate.log.drop 1 else s.gate.log) ++ [e]
                    gate.acc := s.gate.acc ++ [kind] }
  let s := if kind ≤ logClaim then s.fault pGth (kind - 1) else s
  let s := if full then s.fault pGth 4 else s
  s.emit (.msix 17)

/-- A write discarded for want of authority (R14, R538). -/
def State.authRefusal (s : State) (port : Port) (page off : Nat) : State := s.gthLog logAuth (some port) page off
/-- A write discarded and logged as a refused write. -/
def State.refuseWrite (s : State) (port : Port) (page off : Nat) : State :=
  s.gthLog logRefused (some port) page off
/-- A write discarded by a register rule that accepts CORE alone, at certain times alone: another port lacks the authority,
CORE is refused (R14, R538). -/
def State.ruleRefusal (s : State) (port : Port) (page off : Nat) : State :=
  if port == .core then s.refuseWrite port page off else s.authRefusal port page off
/-- A malformed access (R5, R536).
(DEDUCED, log entry 34.) -/
def State.malformed (s : State) (port : Port) (page off : Nat) : State :=
  s.gthLog logMalformed (some port) page off

/-! Interrupts of Ndear-C -/

/-- A source sets its CCP_IP bit (R504). -/
def State.irq (s : State) (i : Nat) : State := s.setFlag pCcp Reg.Ccp.CCP_IP i true

/-! Time -/

/-- ns of station time as whole seconds and the rest. -/
def secOf (t : Nat) : Nat := t / 1000000000
def nsOf (t : Nat) : Nat := t % 1000000000

/-- SLOT_CNT (R134). -/
def State.slotCnt (s : State) : Nat := s.sdl.slotCnt

/-! How a meaning ends -/

/-- The Belvedere class of an FLT_STA bit counts for ERR_N: FLT_STA AND NOT FLT_MSK holds a bit of class
`level` or above (R426). -/
def pageOutstanding (s : State) (p cls : Nat) : Bool :=
  let w := s.reg p Reg.Hdr.FLT_STA &&& ~~~ s.reg p Reg.Hdr.FLT_MSK
  (List.range 32).any (fun n => bitAt w n && decide (faultClass p n = cls))

/-- Every page that exists (R534). -/
def allPages : List Nat :=
  [pSys, pLdg, pGth, pCcp, pHif, pNvm, pBlv, pHdg, pSdl, pPgl, pPav, pPtr0, pPtr1, pPtr2, pPtr3, pOrg, pArb,
   pFtn, pCln, pPsh, pKsk, pBst, pPrm] ++ (List.range 16).map pPrc ++ (List.range 16).map pFly ++
  (List.range 64).map pLne

/-- A cause of class c is outstanding (R426, OUTSTANDING.CLASSES): a page's, or a memory's for classes 1
and 2. -/
def classOutstanding (s : State) (c : Nat) : Bool :=
  allPages.any (fun p => pageOutstanding s p c) ||
  (decide (c = 1) && decide (s.fld pBlv Reg.Blv.CODE_STA 12 0 ≠ 0)) ||
  (decide (c = 2) && decide (s.fld pBlv Reg.Blv.CODE_STA 28 16 ≠ 0))

/-- ERR_LEVEL, 0 acting as 1 (R437). -/
def errLevel (s : State) : Nat := max 1 (s.fld pBlv Reg.Blv.BLV_CFG 1 0)

/-- Whether ERR_N is held low (R426). -/
def errLow (s : State) : Bool :=
  s.ldg.errLive || s.ldg.errBoot || s.ldg.errFatal ||
  (decide (errLevel s ≤ 1) && classOutstanding s 1) || (decide (errLevel s ≤ 2) && classOutstanding s 2) ||
  classOutstanding s 3

/-- The level sources of R504 that ask for their CCP_IP bit now: PAV ring [7], HIF_H2F [10], MS_M2F [11],
UART [13], GTH log [14]. -/
def levelIrqs (s : State) : Word :=
  BitVec.ofNat 32 (
    (if s.flag pPav Reg.Pav.PAV_CFG 1 && !s.pav.evq.isEmpty then 2 ^ 7 else 0) +
    (if s.reg pHif Reg.Hif.HIF_H2F ≠ 0 then 2 ^ 10 else 0) +
    (if s.reg pGth Reg.Gth.MS_M2F ≠ 0 then 2 ^ 11 else 0) +
    (if s.ccp.rxq.isEmpty then 0 else 2 ^ 13) +
    (if s.gate.log.isEmpty then 0 else 2 ^ 14))

/-- What leaves the device: an MSI-X vector needs the PCIe link (R506, R509). -/
def reachesWires (link : Bool) : Emission → Bool
  | .msix _ => link
  | _ => true

/-- The pins and level interrupts follow the state: ERR_N (R426), MS_IRQ_N (R514) and the level sources of
R504. -/
def State.settle (s : State) : State :=
  let s := s.setReg pCcp Reg.Ccp.CCP_IP (s.reg pCcp Reg.Ccp.CCP_IP ||| levelIrqs s)
  { s with errN := errLow s, msIrqN := decide (s.reg pGth Reg.Gth.MS_F2M ≠ 0), out := s.out.filter (reachesWires s.hif.up) }

/-- A command's effect f: the wires start empty, the pins follow, and the queue is not f's to change.
(DESIGN CHOICE, log entry 8.) -/
def run (s : State) (f : State → State) : Host.Outcome State Fault Refusal :=
  .next { (f { s with out := [] }).settle with pending := s.pending }

/-- As `run`, where the operands are ones the hardware can meet.
(DESIGN CHOICE, log entry 2.) -/
def runIf (ok : Bool) (s : State) (f : State → State) : Host.Outcome State Fault Refusal :=
  if ok then run s f else .fault .illFormed

end Sys2Proof.Machine
end

