-- ==== Sys2Proof/Machine/Memory.lean ====
section
/-!
DEFINITION. The on-die memories and the MRAM under the Bernil-256 code (R415 to R417), with the injection of
R435. Words are 32 octets; a word in error is listed in `mem.marks`.
-/
namespace Sys2Proof.Machine

/-- Regions of R415. -/
abbrev rgSample : Nat := 0
abbrev rgPacket : Nat := 1
abbrev rgCtx : Nat := 2
abbrev rgTable : Nat := 3
abbrev rgCsram : Nat := 4
/-- Bank 0; bank b is region 5 + b. -/
abbrev rgMram : Nat := 5
abbrev rgScratch : Nat := 9
abbrev rgKiosk : Nat := 12

/-- The octets of a region; regions 5 to 8 are the one MRAM array. -/
def Memories.bytes (m : Memories) (r : Nat) : Sparse Byte :=
  if r = 0 then m.sample else if r = 1 then m.packet else if r = 2 then m.ctx else if r = 3 then m.table
  else if r = 4 then m.csram else if r = 9 then m.scratch else if r = 12 then m.kiosk else m.mram

/-- What an unlisted octet of a region reads as.
(DESIGN CHOICE, log entry 6.) -/
def regionDflt (r : Nat) : Nat → Byte := if 5 ≤ r ∧ r ≤ 8 then erasedOctet else zeroOctet

/-- The octets of a region replaced. -/
def Memories.setBytes (m : Memories) (r : Nat) (b : Sparse Byte) : Memories :=
  if r = 0 then { m with sample := b } else if r = 1 then { m with packet := b }
  else if r = 2 then { m with ctx := b } else if r = 3 then { m with table := b }
  else if r = 4 then { m with csram := b } else if r = 9 then { m with scratch := b }
  else if r = 12 then { m with kiosk := b } else { m with mram := b }

/-- The page that owns a region (R415). -/
def regionPage (r : Nat) : Nat :=
  if r = 0 then pPtr1 else if r = 1 then pPrm else if r = 2 ∨ r = 3 then pPav else if r = 4 then pCcp
  else if r = 9 then pArb else if r = 10 then pOrg else if r = 12 then pKsk else pNvm

/-- The region of a page's memory unit (R415). -/
def unitRegion (p u : Nat) : Option Nat :=
  if p = pPtr1 ∧ u = 0 then some 0 else if p = pPrm ∧ u = 0 then some 1
  else if p = pPav ∧ u ≤ 1 then some (2 + u) else if p = pCcp ∧ u = 0 then some 4
  else if p = pNvm ∧ u ≤ 3 then some (5 + u) else if p = pArb ∧ u = 0 then some 9
  else if p = pKsk ∧ u = 0 then some 12 else none

/-- The MRAM region of an MRAM offset. -/
def mramRegion (off : Nat) : Nat := rgMram + off / 0x400000 % 4

/-- The key of word w of region r in the list of words in error. -/
def markKey (r w : Nat) : Nat := r * 2 ^ 22 + w

/-- What is known of a word. -/
def State.mark (s : State) (r w : Nat) : Option Mark :=
  (s.mem.marks.find? (fun e => e.1 = markKey r w)).map (·.2)

/-- A word's mark replaced. -/
def State.setMark (s : State) (r w : Nat) (m : Option Mark) : State :=
  let rest := s.mem.marks.filter (fun e => e.1 ≠ markKey r w)
  match m with
  | none => { s with mem.marks := rest }
  | some m => { s with mem.marks := (markKey r w, m) :: rest }

/-- A memory event of cause 0x20 to 0x22: reported with its word and shown in CODE_STA (R421, R426).
(DEDUCED, log entry 146.) -/
def State.codeEvent (s : State) (r w cause : Nat) (inj : Bool) : State :=
  let s := if cause = 0x22 then s.setFlag pBlv Reg.Blv.CODE_STA (16 + r) true
    else s.setFlag pBlv Reg.Blv.CODE_STA r true
  s.reportCode (regionPage r) 5 r cause (if cause = 0x22 then 2 else 1) w inj

/-- An MRAM read event: NVM cause 0 or 1 with KIND 5 and ADDR set, counted in ECC_CNT and named in ECC_LAST
(R403, R421). -/
def State.mramEvent (s : State) (r w : Nat) (unc : Bool) (inj : Bool) : State :=
  let n := b2n unc
  let s := s.setFlag pNvm Reg.Hdr.FLT_STA n true
  let s := if unc then s.countFld pNvm Reg.Nvm.ECC_CNT 31 16 1 else s.countFld pNvm Reg.Nvm.ECC_CNT 15 0 1
  let off := (r - 5) * 0x400000 + 32 * w
  let s := s.setReg pNvm Reg.Nvm.ECC_LAST (BitVec.ofNat 32 (off + n * 2 ^ 24))
  s.report { page := pNvm, kind := 5, item := r, cause := n, cls := faultClass pNvm n, addr := w, inj := inj
             masked := s.flag pNvm Reg.Hdr.FLT_MSK n, want := 0, fencePage := none, hdgReset := false }

/-- A read of word w of region r by its memory's decoder: it is delivered, corrected (and in SRAM written
back) or poisoned, and what is found is reported once (R415 to R417, R403). Answers whether the word is
poisoned.
(DEDUCED, log entry 146.) -/
def State.decodeWord (s : State) (r w : Nat) : Bool × State :=
  match s.mark r w with
  | none => (false, s)
  | some m =>
    if m.poisoned then (true, s)
    else if m.bits ≤ 2 then
      if 5 ≤ r ∧ r ≤ 8 then (false, s.mramEvent r w false m.inj)
      else (false, (s.codeEvent r w (if m.bits = 1 then 0x20 else 0x21) m.inj).setMark r w none)
    else
      let s := s.setMark r w (some { m with poisoned := true })
      if 5 ≤ r ∧ r ≤ 8 then (true, s.mramEvent r w true m.inj) else (true, s.codeEvent r w 0x22 m.inj)

/-- The MRAM regions are the banks of one array: word w counted from region r lies in a bank of its own (R392). -/
def wordHome (r w : Nat) : Nat × Nat := if 5 ≤ r ∧ r ≤ 8 then (r + w / 131072, w % 131072) else (r, w)

/-- Words w, w + 1, … of a region read: whether one of them is poisoned. -/
def State.decodeWords (s : State) (r w : Nat) : Nat → Bool × State
  | 0 => (false, s)
  | n + 1 =>
    let (p, s) := s.decodeWord (wordHome r w).1 (wordHome r w).2
    let (q, s) := s.decodeWords r (w + 1) n
    (p || q, s)

/-- How many 32-octet words n octets from address a touch. -/
def wordSpan (a n : Nat) : Nat := if n = 0 then 0 else (a + n - 1) / 32 - a / 32 + 1

/-- The next data flit that page p's block sends over the internal fabric: a waiting injection is performed on it, and the receiver
corrects it or delivers it poisoned (R415, R417, R421, R435). Answers whether it is poisoned.
(DEDUCED, log entry 206.) -/
def State.sendFlit (s : State) (p : Nat) : Bool × State :=
  let w := s.reg p Reg.Hdr.FLT_INJ
  if bitAt w 16 && bitAt w 5 then
    let s := (s.setFlag p Reg.Hdr.FLT_INJ 16 false).setFlag p Reg.Hdr.FLT_INJ 17 true
    if bits w 7 6 ≤ 2 then (false, s.reportCode p 0 0 0x24 1 0 true) else (true, s.reportCode p 0 0 0x25 2 0 true)
  else (false, s)

/-- The octet address of a region as its words are counted: an MRAM address is an offset in the whole array. -/
def regionOfs (r a : Nat) : Nat := if 5 ≤ r ∧ r ≤ 8 then a % 0x400000 else a

/-- n octets of region r from address a, and whether a word they lie in, or the flit that carries them, is poisoned. -/
def State.readMem (s : State) (r a n : Nat) : List Byte × Bool × State :=
  let bs := memRead (regionDflt r) (s.mem.bytes r) a n
  let a' := regionOfs r a
  let (p, s) := s.decodeWords r (a' / 32) (wordSpan a' n)
  let (q, s) := s.sendFlit (regionPage r)
  (bs, p || q, s)

/-- Octets of a region as they stand, without the decoder's part. -/
def State.peekMem (s : State) (r a n : Nat) : List Byte := memRead (regionDflt r) (s.mem.bytes r) a n

/-- The injection a page waits to perform on a unit (R435): the check bits it inverts. -/
def State.armedInj (s : State) (r : Nat) : Option Nat :=
  let p := regionPage r
  let w := s.reg p Reg.Hdr.FLT_INJ
  if bitAt w 16 && !bitAt w 5 && decide (unitRegion p (bits w 4 0) = some r) then some (bits w 7 6) else none

/-- A write stores the check bits of word w: a waiting injection is performed on it (R435).
(DEDUCED, log entry 147.) -/
def State.storeCheck (s : State) (r w : Nat) : State :=
  match s.armedInj r with
  | none => s.setMark r w none
  | some n =>
    let p := regionPage r
    let s := (s.setFlag p Reg.Hdr.FLT_INJ 16 false).setFlag p Reg.Hdr.FLT_INJ 17 true
    s.setMark r w (some ⟨n, false, true⟩)

/-- The decoder's and encoder's part of a write to word w, whole or partial (R417).
(DEDUCED, log entry 147.) -/
def State.writeWordCode (s : State) (r w : Nat) (whole : Bool) : State :=
  if whole then s.storeCheck r w
  else match s.decodeWord r w with
    | (true, s) => s
    | (false, s) => s.storeCheck r w

/-- The words that a write of octets [a, a + n) touches, from word w on. -/
def State.writeWordsCode (s : State) (r a n w : Nat) : Nat → State
  | 0 => s
  | k + 1 =>
    let whole := decide (a ≤ 32 * w) && decide (32 * w + 32 ≤ a + n)
    (s.writeWordCode (wordHome r w).1 (wordHome r w).2 whole).writeWordsCode r a n (w + 1) k

/-- Octets written to region r from address a on. -/
def State.writeMem (s : State) (r a : Nat) (bs : List Byte) : State :=
  let a' := regionOfs r a
  let s := s.writeWordsCode r a' bs.length (a' / 32) (wordSpan a' bs.length)
  { s with mem := s.mem.setBytes r (memWrite (regionDflt r) (s.mem.bytes r) a bs) }

/-- The poison that a read of n octets of region r from address a met: the first poisoned word among them, else the flit. -/
def State.poisonIn (s : State) (r a n : Nat) : PoisonAt :=
  let w := regionOfs r a / 32
  match (List.range (wordSpan (regionOfs r a) n)).find? (fun i =>
      (s.mark (wordHome r (w + i)).1 (wordHome r (w + i)).2).any (·.poisoned)) with
  | some i => .word (wordHome r (w + i)).1 (wordHome r (w + i)).2
  | none => .flit (regionPage r)

/-- A report about poisoned data: its origin is the memory or the sender (R420, R421). -/
def PoisonAt.page : PoisonAt → Nat
  | .word r _ => regionPage r
  | .flit p => p
def PoisonAt.kind : PoisonAt → Nat
  | .word _ _ => 5
  | .flit _ => 0
def PoisonAt.item : PoisonAt → Nat
  | .word r _ => r
  | .flit _ => 0
def PoisonAt.addr : PoisonAt → Nat
  | .word _ w => w
  | .flit _ => 0
/-- The word or flit in error was written under FLT_INJ and not rewritten since (R421). -/
def State.poisonInj (s : State) : PoisonAt → Bool
  | .word r w => (s.mark r w).any (·.inj)
  | .flit _ => true

/-- A consumer discards a unit of work because of poisoned data (R417, R419): class 3 for a control structure.
(DEDUCED, log entry 83.) -/
def State.poisonUsed (s : State) (p : PoisonAt) (control : Bool) : State :=
  s.reportCode p.page p.kind p.item 0x23 (if control then 3 else 2) p.addr (s.poisonInj p)

/-- As `poisonUsed`, of the poison that a read of n octets of region r from address a met. -/
def State.poisonRead (s : State) (r a n : Nat) (control : Bool) : State := s.poisonUsed (s.poisonIn r a n) control

/-- A unit of work that page p's block sends as a data flit: it is taken, or discarded where the flit is poisoned (R417).
(DEDUCED, log entry 206.) -/
def State.byFlit (s : State) (p : Nat) (take : State → State) : State :=
  match s.sendFlit p with
  | (true, s) => s.poisonUsed (.flit p) false
  | (false, s) => take s

/-- The 32-bit word at octet address a of a region, and whether it is poisoned. -/
def State.readWord (s : State) (r a : Nat) : Word × Bool × State :=
  let (bs, p, s) := s.readMem r a 4
  (leWord bs, p, s)

/-- A 32-bit word written to octet address a of a region. -/
def State.writeWord (s : State) (r a : Nat) (w : Word) : State := s.writeMem r a (wordOctets w)

/-- The region lies wholly in control SRAM (R505). -/
def inCsram (a n : Nat) : Bool := decide (0x20000000 ≤ a) && decide (a + n ≤ 0x20200000)
/-- The region lies wholly in the MRAM. -/
def inMram (a n : Nat) : Bool := decide (0x10000000 ≤ a) && decide (a + n ≤ 0x11000000)

end Sys2Proof.Machine
end

