-- ==== Sys2Proof/Machine/Budget.lean ====
section
/-!
DEFINITION. The budget windows of the ingest, crypto and background classes (R229 to R233).
-/
namespace Sys2Proof.Machine

/-- The budget of a class for one window: FRAMES of ICLS_n, UNITS of QCLS_n or BCLS_n (R231, R253). -/
def State.classBudget (s : State) (c : Nat) : Nat :=
  if 0x10 ≤ c ∧ c ≤ 0x1F then s.fld pPgl (Reg.Pgl.ICLS (c - 0x10)) 15 0
  else if 0x20 ≤ c ∧ c ≤ 0x2F then s.fld pPgl (Reg.Pgl.QCLS (c - 0x20)) 23 0
  else if 0x30 ≤ c ∧ c ≤ 0x37 then s.fld pPgl (Reg.Pgl.BCLS (c - 0x30)) 13 0
  else 0

/-- The charges of a class in the current window. -/
def State.charged (s : State) (c : Nat) : Nat := smGet (fun _ => 0) s.pgl.charge c

/-- n more units of a class would stay within its budget.
(DEDUCED, log entry 121.) -/
def State.fits (s : State) (c n : Nat) : Bool := decide (s.charged c + n ≤ s.classBudget c)

/-- A charge to a class. -/
def State.addCharge (s : State) (c n : Nat) : State :=
  { s with pgl.charge := smSet (fun _ => 0) s.pgl.charge c (s.charged c + n) }

/-- Background work is held: PGL FLT_STA bit [6], once a window (R229, R233). -/
def State.noteHeld (s : State) : State :=
  if s.pgl.heldWin then s else { s.fault pPgl 6 with pgl.heldWin := true }

/-- A class is over budget in this window for the first time: FLT_STA bit [4] for ingest, [5] for crypto, [6] for background,
and CLS_OVR_c counts the window (R229). -/
def State.noteOver (s : State) (c : Nat) : State :=
  if s.pgl.exceeded.contains c then s
  else
    let s := { s with pgl.exceeded := c :: s.pgl.exceeded }
    let s := s.countFld pPgl (Reg.Pgl.CLS_OVR (c - 0x10)) 15 0 1
    if c < 0x20 then s.fault pPgl 4 else if c < 0x30 then s.fault pPgl 5 else s.noteHeld

/-- An ingest or crypto unit of work is charged n units: whether it is within budget. Budgets apply only while
the Pergola is enabled (R230). -/
def State.chargeWork (s : State) (c n : Nat) : Bool × State :=
  if !s.pglOn then (true, s)
  else
    let ok := s.fits c n
    let s := s.addCharge c n
    (ok, if ok then s else s.noteOver c)

/-- Background work of n units of a page asks to start: the state with its charge, or held, without a class (R233) or over its
budget (R229). -/
def State.background (s : State) (page n : Nat) : Bool × State :=
  if !s.pglOn then (true, s)
  else
    let c := s.fld page Reg.Hdr.BGT 5 0
    if c = 0 then (false, s.noteHeld)
    else if s.fits c n then (true, s.addCharge c n) else (false, s.noteOver c)

/-- A window restarts: every charge is 0 again (R230). -/
def State.restartWindow (s : State) : State :=
  { s with pgl.charge := [], pgl.exceeded := [], pgl.heldWin := false, pgl.winAt := s.sdl.time }

end Sys2Proof.Machine
end

