-- ==== Sys2Proof/Machine/Crypto.lean ====
section
/-!
DEFINITION. The published algorithms the manual names: SHA-256 (FIPS 180-4), HMAC (FIPS 198-1), AES (FIPS
197), CTR, GCM and GMAC (SP 800-38D), CMAC (SP 800-38B), key wrap with padding (RFC 5649), ECDSA and ECDH on
P-256 (FIPS 186-5), and the CRCs of IEEE 802.3 and of Type A frames. The manual cites them by name and does not
restate them.
-/
namespace Sys2Proof.Machine

/-- Octets in groups of n. -/
def chunksAux : Nat → Nat → List Byte → List (List Byte)
  | 0, _, _ => []
  | _, _, [] => []
  | fuel + 1, n, bs => bs.take n :: chunksAux fuel n (bs.drop n)

/-- Octets in groups of n, the last one perhaps shorter. -/
def chunks (n : Nat) (bs : List Byte) : List (List Byte) := chunksAux bs.length n bs

/-- n zero octets. -/
def zeros (n : Nat) : List Byte := List.replicate n 0

/-- Two octet strings combined by exclusive or, to the shorter length. -/
def xorOctets (a b : List Byte) : List Byte := List.zipWith (· ^^^ ·) a b

/-- ASCII octets of a text. -/
def ascii (t : String) : List Byte := t.toList.map (fun c => BitVec.ofNat 8 c.toNat)

/-! SHA-256 -/

/-- Round constants. -/
def shaK : List Word := [
  0x428A2F98, 0x71374491, 0xB5C0FBCF, 0xE9B5DBA5, 0x3956C25B, 0x59F111F1, 0x923F82A4, 0xAB1C5ED5, 0xD807AA98, 0x12835B01, 0x243185BE, 0x550C7DC3, 0x72BE5D74, 0x80DEB1FE, 0x9BDC06A7, 0xC19BF174,
  0xE49B69C1, 0xEFBE4786, 0x0FC19DC6, 0x240CA1CC, 0x2DE92C6F, 0x4A7484AA, 0x5CB0A9DC, 0x76F988DA, 0x983E5152, 0xA831C66D, 0xB00327C8, 0xBF597FC7, 0xC6E00BF3, 0xD5A79147, 0x06CA6351, 0x14292967,
  0x27B70A85, 0x2E1B2138, 0x4D2C6DFC, 0x53380D13, 0x650A7354, 0x766A0ABB, 0x81C2C92E, 0x92722C85, 0xA2BFE8A1, 0xA81A664B, 0xC24B8B70, 0xC76C51A3, 0xD192E819, 0xD6990624, 0xF40E3585, 0x106AA070,
  0x19A4C116, 0x1E376C08, 0x2748774C, 0x34B0BCB5, 0x391C0CB3, 0x4ED8AA4A, 0x5B9CCA4F, 0x682E6FF3, 0x748F82EE, 0x78A5636F, 0x84C87814, 0x8CC70208, 0x90BEFFFA, 0xA4506CEB, 0xBEF9A3F7, 0xC67178F2]

/-- Initial hash value. -/
def shaH0 : List Word := [0x6A09E667, 0xBB67AE85, 0x3C6EF372, 0xA54FF53A, 0x510E527F, 0x9B05688C, 0x1F83D9AB, 0x5BE0CD19]

/-- A word rotated right. -/
def rotr (x : Word) (n : Nat) : Word := (x >>> n) ||| (x <<< (32 - n))

/-- The message schedule, newest word first. -/
def shaSchedule : Nat → List Word → List Word
  | 0, w => w
  | n + 1, w =>
    let w15 := nth w 14 0
    let w2 := nth w 1 0
    let s0 := rotr w15 7 ^^^ rotr w15 18 ^^^ (w15 >>> 3)
    let s1 := rotr w2 17 ^^^ rotr w2 19 ^^^ (w2 >>> 10)
    shaSchedule n ((nth w 15 0 + s0 + nth w 6 0 + s1) :: w)

/-- One round on the working variables. -/
def shaRound (v : List Word) (kw : Word) : List Word :=
  match v with
  | [a, b, c, d, e, f, g, h] =>
    let t1 := h + (rotr e 6 ^^^ rotr e 11 ^^^ rotr e 25) + ((e &&& f) ^^^ (~~~e &&& g)) + kw
    let t2 := (rotr a 2 ^^^ rotr a 13 ^^^ rotr a 22) + ((a &&& b) ^^^ (a &&& c) ^^^ (b &&& c))
    [t1 + t2, a, b, c, d + t1, e, f, g]
  | _ => v

/-- The compression of one 64-octet block. -/
def shaBlock (h : List Word) (blk : List Byte) : List Word :=
  let w0 := (chunks 4 blk).map (fun c => BitVec.ofNat 32 (beNat c))
  let w := (shaSchedule 48 w0.reverse).reverse
  let v := (List.zipWith (· + ·) shaK w).foldl shaRound h
  List.zipWith (· + ·) h v

/-- The padded message. -/
def shaPad (m : List Byte) : List Byte :=
  m ++ [0x80] ++ zeros ((119 - m.length % 64) % 64) ++ natOctetsBE 8 (8 * m.length)

/-- SHA-256 of a message, 32 octets. -/
@[irreducible] def sha256 (m : List Byte) : List Byte :=
  ((chunks 64 (shaPad m)).foldl shaBlock shaH0).flatMap wordOctetsBE

/-- HMAC-SHA-256, 32 octets. -/
@[irreducible] def hmac (key m : List Byte) : List Byte :=
  let k := if key.length > 64 then sha256 key else key
  let k := k ++ zeros (64 - k.length)
  sha256 (k.map (· ^^^ 0x5C) ++ sha256 (k.map (· ^^^ 0x36) ++ m))

/-! AES -/

/-- Multiplication by x in GF(2⁸). -/
def xtime (b : Byte) : Byte := (b <<< 1) ^^^ (if b.msb then 0x1B else 0)

/-- Multiplication in GF(2⁸), n bits of the second factor left. -/
def gmulAux : Nat → Byte → Byte → Byte
  | 0, _, _ => 0
  | n + 1, a, b => (if b.getLsbD 0 then a else 0) ^^^ gmulAux n (xtime a) (b >>> 1)

/-- Multiplication in GF(2⁸). -/
def gmul (a b : Byte) : Byte := gmulAux 8 a b

/-- The inverse in GF(2⁸), 0 for 0: b²⁵⁴. -/
def ginv (b : Byte) : Byte :=
  let b2 := gmul b b
  let b4 := gmul b2 b2
  let b8 := gmul b4 b4
  let b16 := gmul b8 b8
  let b32 := gmul b16 b16
  let b64 := gmul b32 b32
  let b128 := gmul b64 b64
  gmul (gmul (gmul b2 b4) (gmul b8 b16)) (gmul (gmul b32 b64) b128)

/-- An octet rotated left. -/
def rotl8 (b : Byte) (n : Nat) : Byte := (b <<< n) ||| (b >>> (8 - n))

/-- The S-box. -/
def aesSub (b : Byte) : Byte :=
  let x := ginv b
  x ^^^ rotl8 x 1 ^^^ rotl8 x 2 ^^^ rotl8 x 3 ^^^ rotl8 x 4 ^^^ 0x63

/-- The inverse S-box. -/
def aesInvSub (b : Byte) : Byte := ginv (rotl8 b 1 ^^^ rotl8 b 3 ^^^ rotl8 b 6 ^^^ 0x05)

/-- The key schedule: words of four octets, newest first; `i` is the number of words so far. -/
def aesExpand (nk : Nat) : Nat → Nat → Byte → List (List Byte) → List (List Byte)
  | 0, _, _, w => w
  | n + 1, i, rcon, w =>
    let t := w.headD []
    let prev := w.getD (nk - 1) []
    if i % nk = 0 then
      let r := (t.drop 1 ++ t.take 1).map aesSub
      let r := xorOctets r [rcon, 0, 0, 0]
      aesExpand nk n (i + 1) (xtime rcon) (xorOctets prev r :: w)
    else if nk > 6 ∧ i % nk = 4 then
      aesExpand nk n (i + 1) rcon (xorOctets prev (t.map aesSub) :: w)
    else aesExpand nk n (i + 1) rcon (xorOctets prev t :: w)

/-- The round keys of a 16- or 32-octet key, in order. -/
def aesKeys (key : List Byte) : List (List Byte) :=
  let nk := key.length / 4
  let w := aesExpand nk (4 * (nk + 7) - nk) nk 1 (chunks 4 key).reverse
  chunks 16 w.reverse.flatten

/-- ShiftRows: octet r + 4c comes from column c + r. -/
def aesShift (s : List Byte) : List Byte :=
  (List.range 16).map (fun i => nth s ((i + 4 * (i % 4)) % 16) 0)

/-- The inverse of ShiftRows. -/
def aesInvShift (s : List Byte) : List Byte :=
  (List.range 16).map (fun i => nth s ((i + 12 * (i % 4)) % 16) 0)

/-- A column times the circulant matrix of first row m. -/
def mixColumn (m : List Byte) (c : List Byte) : List Byte :=
  (List.range 4).map (fun r =>
    (List.range 4).foldl (fun acc k => acc ^^^ gmul (nth m ((k + 4 - r) % 4) 0) (nth c k 0)) 0)

/-- MixColumns with a given matrix row. -/
def aesMix (m s : List Byte) : List Byte := (chunks 4 s).flatMap (mixColumn m)

/-- The rounds of encryption after the first key addition. -/
def aesEncRounds : List (List Byte) → List Byte → List Byte
  | [], s => s
  | [k], s => xorOctets (aesShift (s.map aesSub)) k
  | k :: ks, s => aesEncRounds ks (xorOctets (aesMix [2, 3, 1, 1] (aesShift (s.map aesSub))) k)

/-- The rounds of decryption after the last key addition. -/
def aesDecRounds : List (List Byte) → List Byte → List Byte
  | [], s => s
  | [k], s => xorOctets ((aesInvShift s).map aesInvSub) k
  | k :: ks, s => aesDecRounds ks (aesMix [14, 11, 13, 9] (xorOctets ((aesInvShift s).map aesInvSub) k))

/-- AES encryption of one 16-octet block. -/
@[irreducible] def aesEnc (key blk : List Byte) : List Byte :=
  match aesKeys key with
  | [] => blk
  | k :: ks => aesEncRounds ks (xorOctets blk k)

/-- AES decryption of one 16-octet block. -/
@[irreducible] def aesDec (key blk : List Byte) : List Byte :=
  match (aesKeys key).reverse with
  | [] => blk
  | k :: ks => aesDecRounds ks (xorOctets blk k)

/-- Counter-mode key stream applied to data, the low 32 bits of the 16-octet counter counting up. -/
def ctrAux (key iv12 : List Byte) : Nat → List (List Byte) → List Byte
  | _, [] => []
  | n, b :: bs => xorOctets b (aesEnc key (iv12 ++ natOctetsBE 4 n)) ++ ctrAux key iv12 (n + 1) bs

/-- CTR on data from a 12-octet IV and a first count. -/
@[irreducible] def aesCtr (key iv12 : List Byte) (first : Nat) (data : List Byte) : List Byte :=
  ctrAux key iv12 first (chunks 16 data)

/-- Multiplication in the field of GHASH: z, v and the bits of the factor left, highest first. -/
def ghMulAux : Nat → Nat → Nat → Nat → Nat
  | 0, _, _, z => z
  | n + 1, x, v, z =>
    ghMulAux n x (if v % 2 = 1 then (v / 2) ^^^ (0xE1 <<< 120) else v / 2)
      (if x.testBit n then z ^^^ v else z)

/-- Multiplication in the field of GHASH. -/
def ghMul (x y : Nat) : Nat := ghMulAux 128 x y 0

/-- GHASH of octets under the 16-octet subkey h. -/
@[irreducible] def ghash (h data : List Byte) : List Byte :=
  natOctetsBE 16 ((chunks 16 data).foldl
    (fun y b => ghMul (y ^^^ beNat (b ++ zeros (16 - b.length))) (beNat h)) 0)

/-- Zero octets that fill up to a multiple of 16. -/
def pad16 (bs : List Byte) : List Byte := bs ++ zeros ((16 - bs.length % 16) % 16)

/-- The GCM tag over AAD and ciphertext, with a 12-octet IV. -/
@[irreducible] def gcmTag (key iv aad ct : List Byte) : List Byte :=
  let h := aesEnc key (zeros 16)
  let s := ghash h (pad16 aad ++ pad16 ct ++ natOctetsBE 8 (8 * aad.length) ++ natOctetsBE 8 (8 * ct.length))
  xorOctets s (aesEnc key (iv ++ [0, 0, 0, 1]))

/-- A doubling in the field of CMAC. -/
def cmacDbl (b : List Byte) : List Byte :=
  let n := beNat b
  natOctetsBE 16 ((2 * n) % 2 ^ 128 ^^^ (if n.testBit 127 then 0x87 else 0))

/-- The chain of CMAC over whole blocks. -/
def cmacChain (key : List Byte) : List Byte → List (List Byte) → List Byte
  | x, [] => x
  | x, b :: bs => cmacChain key (aesEnc key (xorOctets x b)) bs

/-- AES-CMAC, 16 octets. -/
@[irreducible] def cmac (key m : List Byte) : List Byte :=
  let k1 := cmacDbl (aesEnc key (zeros 16))
  let k2 := cmacDbl k1
  let bs := chunks 16 m
  let last := bs.getLastD []
  let last := if last.length = 16 then xorOctets last k1 else
    xorOctets (last ++ [0x80] ++ zeros (15 - last.length)) k2
  cmacChain key (zeros 16) (bs.dropLast ++ [last])

/-! RFC 3394 and RFC 5649 -/

/-- One pass of the wrapping function over the registers, from step count t. -/
def wrapPass (key : List Byte) : Nat → List Byte → List (List Byte) → List Byte × List (List Byte)
  | _, a, [] => (a, [])
  | t, a, r :: rs =>
    let b := aesEnc key (a ++ r)
    let a' := xorOctets (b.take 8) (natOctetsBE 8 t)
    let (af, out) := wrapPass key (t + 1) a' rs
    (af, b.drop 8 :: out)

/-- Six passes, or those left. -/
def wrapPasses (key : List Byte) (n : Nat) : Nat → Nat → List Byte → List (List Byte) → List Byte
  | 0, _, a, rs => a ++ rs.flatten
  | j + 1, t, a, rs => match wrapPass key t a rs with
    | (a', rs') => wrapPasses key n j (t + n) a' rs'

/-- One pass of the unwrapping function over the registers in reverse order. -/
def unwrapPass (key : List Byte) : Nat → List Byte → List (List Byte) → List Byte × List (List Byte)
  | _, a, [] => (a, [])
  | t, a, r :: rs =>
    let b := aesDec key (xorOctets a (natOctetsBE 8 t) ++ r)
    let (af, out) := unwrapPass key (t - 1) (b.take 8) rs
    (af, b.drop 8 :: out)

/-- Six unwrapping passes, or those left; the registers in reverse order. -/
def unwrapPasses (key : List Byte) (n : Nat) :
    Nat → Nat → List Byte → List (List Byte) → List Byte × List (List Byte)
  | 0, _, a, rs => (a, rs)
  | j + 1, t, a, rs => match unwrapPass key t a rs with
    | (a', rs') => unwrapPasses key n j (t - n) a' rs'

/-- The alternative initial value of RFC 5649 for a plaintext of n octets. -/
def kwpAiv (n : Nat) : List Byte := [0xA6, 0x59, 0x59, 0xA6] ++ natOctetsBE 4 n

/-- Key wrap with padding. -/
@[irreducible] def kwpWrap (key plain : List Byte) : List Byte :=
  let p := plain ++ zeros ((8 - plain.length % 8) % 8)
  if p.length ≤ 8 then aesEnc key (kwpAiv plain.length ++ p)
  else wrapPasses key (p.length / 8) 6 1 (kwpAiv plain.length) (chunks 8 p)

/-- Key unwrap with padding: the plaintext where the integrity check passes. -/
@[irreducible] def kwpUnwrap (key ct : List Byte) : Option (List Byte) :=
  if ct.length < 16 ∨ ct.length % 8 ≠ 0 then none else
  let (a, p) :=
    if ct.length = 16 then let b := aesDec key ct; (b.take 8, b.drop 8)
    else
      let n := ct.length / 8 - 1
      let (a, rs) := unwrapPasses key n 6 (6 * n) (ct.take 8) (chunks 8 (ct.drop 8)).reverse
      (a, rs.reverse.flatten)
  let m := beNat (a.drop 4)
  if a.take 4 = [0xA6, 0x59, 0x59, 0xA6] ∧ p.length < m + 8 ∧ m ≤ p.length ∧
      p.drop m = zeros (p.length - m) then some (p.take m) else none

/-! P-256 -/

/-- The field prime. -/
def p256P : Nat := 0xFFFFFFFF00000001000000000000000000000000FFFFFFFFFFFFFFFFFFFFFFFF
/-- The group order. -/
def p256N : Nat := 0xFFFFFFFF00000000FFFFFFFFFFFFFFFFBCE6FAADA7179E84F3B9CAC2FC632551
/-- The curve constant b. -/
def p256B : Nat := 0x5AC635D8AA3A93E7B3EBBD55769886BC651D06B0CC53B0F63BCE3C3E27D2604B
/-- The base point. -/
def p256G : Option (Nat × Nat) :=
  some (0x6B17D1F2E12C4247F8BCE6E563A440F277037D812DEB33A0F4A13945D898C296,
    0x4FE342E2FE1A7F9B8EE7EB4A7C0F9E162BCE33576B315ECECBB6406837BF51F5)

/-- b to the power e modulo m, over `fuel` bits of e. -/
def powModAux : Nat → Nat → Nat → Nat → Nat → Nat
  | 0, _, _, _, acc => acc
  | fuel + 1, m, b, e, acc =>
    powModAux fuel m (b * b % m) (e / 2) (if e % 2 = 1 then acc * b % m else acc)

/-- b to the power e modulo m. -/
def powMod (b e m : Nat) : Nat := powModAux (e.log2 + 1) m (b % m) e (1 % m)

/-- The inverse modulo a prime. -/
def invMod (a m : Nat) : Nat := powMod a (m - 2) m

/-- Subtraction modulo m. -/
def subMod (a b m : Nat) : Nat := (a + (m - b % m)) % m

/-- Point addition; none is the point at infinity. -/
def ecAdd (p q : Option (Nat × Nat)) : Option (Nat × Nat) :=
  match p, q with
  | none, q => q
  | p, none => p
  | some (x1, y1), some (x2, y2) =>
    if x1 = x2 ∧ (y1 + y2) % p256P = 0 then none else
    let l := if x1 = x2 then (3 * x1 * x1 + (p256P - 3)) * invMod (2 * y1) p256P % p256P
      else subMod y2 y1 p256P * invMod (subMod x2 x1 p256P) p256P % p256P
    let x3 := subMod (subMod (l * l) x1 p256P) x2 p256P
    some (x3, subMod (l * subMod x1 x3 p256P) y1 p256P)

/-- Scalar multiplication over `fuel` bits. -/
def ecMulAux : Nat → Nat → Option (Nat × Nat) → Option (Nat × Nat) → Option (Nat × Nat)
  | 0, _, _, acc => acc
  | fuel + 1, k, p, acc => ecMulAux fuel (k / 2) (ecAdd p p) (if k % 2 = 1 then ecAdd acc p else acc)

/-- Scalar multiplication. -/
@[irreducible] def ecMul (k : Nat) (p : Option (Nat × Nat)) : Option (Nat × Nat) :=
  ecMulAux 256 k p none

/-- Whether a pair of coordinates is a point of the curve. -/
def onCurve (x y : Nat) : Bool :=
  decide (x < p256P) && decide (y < p256P) &&
    decide (y * y % p256P = (x * x * x + (p256P - 3) * x + p256B) % p256P)

/-- A point from 64 octets x‖y. -/
def pointOf (q : List Byte) : Nat × Nat := (beNat (q.take 32), beNat ((q.drop 32).take 32))

/-- 64 octets x‖y of a point. -/
def pointOctets : Option (Nat × Nat) → List Byte
  | none => zeros 64
  | some (x, y) => natOctetsBE 32 x ++ natOctetsBE 32 y

/-- ECDSA verification of a 32-octet hash, a key x‖y and a signature r‖s. -/
@[irreducible] def ecdsaVerify (q hash sig : List Byte) : Bool :=
  let (x, y) := pointOf q
  let r := beNat (sig.take 32)
  let s := beNat ((sig.drop 32).take 32)
  if onCurve x y = false ∨ r = 0 ∨ s = 0 ∨ p256N ≤ r ∨ p256N ≤ s then false else
  let w := invMod s p256N
  match ecAdd (ecMul (beNat hash * w % p256N) p256G) (ecMul (r * w % p256N) (some (x, y))) with
  | none => false
  | some (xr, _) => decide (xr % p256N = r)

/-- ECDSA signature r‖s of a 32-octet hash under scalar d with per-signature scalar k. -/
@[irreducible] def ecdsaSign (d k : Nat) (hash : List Byte) : List Byte :=
  let r := match ecMul k p256G with
    | none => 0
    | some (x, _) => x % p256N
  let s := invMod k p256N * (beNat hash + r * d) % p256N
  natOctetsBE 32 r ++ natOctetsBE 32 s

/-- ECDH: the x coordinate of d times a point, 32 octets. -/
@[irreducible] def ecdh (d : Nat) (q : Nat × Nat) : List Byte :=
  match ecMul d (some q) with
  | none => zeros 32
  | some (x, _) => natOctetsBE 32 x

/-! CRCs -/

/-- n steps of a reflected CRC. -/
def crcBits (poly : Nat) : Nat → Nat → Nat
  | 0, c => c
  | n + 1, c => crcBits poly n (if c % 2 = 1 then (c / 2) ^^^ poly else c / 2)

/-- A reflected CRC over octets from a register value. -/
def crcOctets (poly : Nat) (c : Nat) (bs : List Byte) : Nat :=
  bs.foldl (fun c b => crcBits poly 8 (c ^^^ b.toNat)) c

/-- CRC-32 of IEEE 802.3. -/
@[irreducible] def crc32 (bs : List Byte) : Nat := crcOctets 0xEDB88320 0xFFFFFFFF bs ^^^ 0xFFFFFFFF

/-- CRC_A of ISO/IEC 14443-3, low octet first. -/
@[irreducible] def crcA (bs : List Byte) : List Byte := natOctets 2 (crcOctets 0x8408 0x6363 bs)

end Sys2Proof.Machine
end

