-- ==== Sys2Proof/Machine/Identity.lean ====
section
/-!
DEFINITION. What the OTP row gives the device: identity, hashes, device secret, lifecycle, rollback count,
Hedge fuses and the Gatehouse masks (R72, R406, R407, R497, R537).
-/
namespace Sys2Proof.Machine

/-- Octets of the OTP row as burned (an unburned bit reads 0). -/
def State.otpRaw (s : State) (off n : Nat) : List Byte := memRead zeroOctet s.otp.row off n

/-- Octets of a once-word field; an uncorrectable word reads as zeros (R407). -/
def State.otpOnce (s : State) (off n : Nat) : List Byte :=
  if s.otp.bad.contains (off / 32 * 32) then zeros n else s.otpRaw off n

/-- The bit-by-bit majority of three copies of n octets (R407). -/
def State.otpMajority (s : State) (off n : Nat) : List Byte :=
  let a := s.otpRaw off n
  let b := s.otpRaw (off + n) n
  let c := s.otpRaw (off + 2 * n) n
  List.zipWith (fun x yz => (x &&& yz.1) ||| (x &&& yz.2) ||| (yz.1 &&& yz.2)) a (b.zip c)

/-- DEVICE_ID, 16 octets. -/
def State.deviceId (s : State) : List Byte := s.otpOnce 0x000 16
/-- The root public key hash. -/
def State.rootHash (s : State) : List Byte := s.otpOnce 0x020 32
/-- The owner public key hash. -/
def State.ownerHash (s : State) : List Byte := s.otpOnce 0x040 32

/-- The lifecycle state: 0 BLANK, 1 PROVISIONED, 2 OPERATIONAL, 3 RETURNED; an encoding R72 does not list is
RETURNED. -/
def State.lifecycle (s : State) : Nat :=
  match ((s.otpMajority 0x080 1).headD 0).toNat with
  | 0 => 0
  | 1 => 1
  | 3 => 2
  | _ => 3

/-- Keys are permitted: PROVISIONED or OPERATIONAL (R72). -/
def State.keysPermitted (s : State) : Bool := s.lifecycle == 1 || s.lifecycle == 2

/-- The device secret, where the lifecycle has one and its word reads (R73, R407). -/
def State.secret (s : State) : Option (List Byte) :=
  if s.lifecycle = 0 ∨ s.otp.bad.contains 0x060 then none else some (s.otpRaw 0x060 32)

/-- Set bits of a number, over n bits. -/
def popBits (v : Nat) : Nat → Nat
  | 0 => 0
  | n + 1 => b2n (v.testBit n) + popBits v n

/-- Burned bits of the rollback thermometer (R85). -/
def State.svnOtp (s : State) : Nat := popBits (leNat (s.otpMajority 0x090 8)) 64

/-- HDG_FORCE and HDG_DISABLE, bit s for source s. -/
def State.hdgForce (s : State) : Nat := leNat (s.otpMajority 0x0C0 4)
def State.hdgDisable (s : State) : Nat := leNat (s.otpMajority 0x0D0 4)

/-- The boot-ROM default masks of a block index (R537); an index without a page has none. -/
def bootRomMasks (idx : Nat) : Masks :=
  if idx = 0x00 ∨ idx = 0x01 then ⟨0x186, 0x19F⟩
  else if idx = 0x02 then ⟨0x187, 0x18F⟩
  else if idx = 0x03 then ⟨0x182, 0x18F⟩
  else if idx = 0x04 then ⟨0x183, 0x18F⟩
  else if idx = 0x05 then ⟨0x182, 0x18F⟩
  else if idx = 0x06 then ⟨0x187, 0x19F⟩
  else if idx = 0x07 then ⟨0x102, 0x18F⟩
  else if idx = 0x08 then ⟨0x187, 0x18F⟩
  else if idx = 0x09 ∨ idx = 0x0A ∨ idx = 0x0B ∨ idx = 0x10 ∨ idx = 0x11 then ⟨0x182, 0x18F⟩
  else if idx = 0x0C ∨ idx = 0x0D then ⟨0x102, 0x18F⟩
  else if idx = 0x0E then ⟨0x106, 0x18F⟩
  else if idx = 0x0F ∨ idx = 0x12 ∨ idx = 0x20 ∨ idx = 0x21 ∨ (0x28 ≤ idx ∧ idx ≤ 0x2B) then ⟨0x187, 0x18F⟩
  else if idx = 0x24 then ⟨0x005, 0x18F⟩
  else ⟨0, 0⟩

/-- The masks loaded for an index at step 2 of R69: AUTH_DEF, or the boot-ROM defaults while BLANK and where
its once-word is uncorrectable (R407, R497).
(DEDUCED, log entry 101.) -/
def State.loadedMasks (s : State) (idx : Nat) : Masks :=
  let off := 0x100 + 4 * idx
  if s.lifecycle = 0 ∨ s.otp.bad.contains (off / 32 * 32) then bootRomMasks idx
  else
    let w := leWord (s.otpRaw off 4)
    ⟨BitVec.ofNat 9 (bits w 8 0), BitVec.ofNat 9 (bits w 24 16)⟩

/-- The current masks of an index (R497, R498).
(DEDUCED, log entry 31.) -/
def State.masks (s : State) (idx : Nat) : Masks := smGet s.loadedMasks s.gate.cur idx

/-- A port's bit of a mask. -/
def Masks.writes (m : Masks) (p : Port) : Bool := m.wr.getLsbD p.bit
def Masks.reads (m : Masks) (p : Port) : Bool := m.rd.getLsbD p.bit

/-- The current masks of an index without the bits given (R498). -/
def State.narrow (s : State) (clrW clrR : BitVec 9) (idx : Nat) : State :=
  let m := s.masks idx
  { s with gate.cur := smSet s.loadedMasks s.gate.cur idx ⟨m.wr &&& ~~~ clrW, m.rd &&& ~~~ clrR⟩ }

/-- As `narrow`, in every index. -/
def State.narrowAll (s : State) (clrW clrR : BitVec 9) : State :=
  (List.range 256).foldl (fun s i => s.narrow clrW clrR i) s

/-- TWIN_SEL as sampled: twin B (R85). -/
def State.twinB (s : State) : Bool := s.flag pLdg Reg.Ldg.BOOT_STA 6

/-- Octets 11 to 15 of DEVICE_ID, as a number (R388). -/
def State.idTail (s : State) : Nat := beNat ((s.deviceId.drop 11).take 5)

/-- The pair number whose addresses are in force: the one latched at the last Pergola enable, otherwise that of the
verified certificate; none where the addresses come from DEVICE_ID (R387, R388). -/
def State.estate (s : State) : Option Nat :=
  if s.cln.latchValid then s.cln.latchMac
  else if s.flag pCln Reg.Cln.ESTATE 16 then some (s.fld pCln Reg.Cln.ESTATE 15 0) else none

/-- The pair MAC address (R387, R388). -/
def State.pairMac (s : State) : Nat :=
  match s.estate with
  | some e => 0x0A64 * 2 ^ 32 + e * 2 ^ 16
  | none => 0x06 * 2 ^ 40 + s.idTail

/-- The management MAC address (R387, R388). -/
def State.mgmtMac (s : State) : Nat :=
  match s.estate with
  | some e => 0x0A64 * 2 ^ 32 + e * 2 ^ 16 + 0x0100 + b2n s.twinB
  | none => 0x0E * 2 ^ 40 + s.idTail

/-- The PTP clockIdentity (R387, R388). -/
def State.clockIdentity (s : State) : Nat :=
  match s.estate with
  | some e => 0x0A64 * 2 ^ 48 + e / 256 * 2 ^ 40 + 0xFFFE * 2 ^ 24 + e % 256 * 2 ^ 16
  | none => 0x06 * 2 ^ 56 + s.idTail / 2 ^ 24 * 2 ^ 40 + 0xFFFE * 2 ^ 24 + s.idTail % 2 ^ 24

/-- CFG_HASH0–7 or another run of hash registers written from 32 octets (R86). -/
def State.setOctetRegs (s : State) (p o : Nat) (bs : List Byte) : State :=
  s.setRegs p o 4 ((chunks 4 bs).map leWord)

/-- Octets held in n registers from offset o, first octet in [7:0] of the first. -/
def State.octetRegs (s : State) (p o n : Nat) : List Byte :=
  (List.range n).flatMap (fun i => wordOctets (s.reg p (o + 4 * i)))

end Sys2Proof.Machine
end

