-- ==== Sys2Proof/Machine/DataPath.lean ====
section
/-!
DEFINITION. Data reads over the Ndear-C address map that the device makes for itself or for a port: control SRAM,
the MRAM under its execute-only descriptors, the sample store and the packet buffer (R392, R403, R404, R505).
-/
namespace Sys2Proof.Machine

/-- Descriptor n of R414 is in force over an MRAM sector. -/
def State.xoCovers (s : State) (n sector : Nat) : Bool :=
  s.flag pNvm (Reg.Nvm.XO_FIRST n) 0 &&
  decide (s.fld pNvm (Reg.Nvm.XO_FIRST n) 23 12 ≤ sector) && decide (sector ≤ s.fld pNvm (Reg.Nvm.XO_LAST n) 23 12)

/-- An MRAM sector lies in an execute-only region (R404). -/
def State.xoSector (s : State) (sector : Nat) : Bool := (List.range 8).any (fun n => s.xoCovers n sector)

/-- A sector that ERASE and PROGRAM may not touch: some descriptor in force over it has UPD = 0 (R404). -/
def State.xoFrozen (s : State) (sector : Nat) : Bool :=
  (List.range 8).any (fun n => s.xoCovers n sector && !s.flag pNvm (Reg.Nvm.XO_FIRST n) 1)

/-- A data read of the MRAM at an offset: octets of an execute-only region read zero and set NVM FLT_STA bit
[2] (R404). Answers the octets and whether a word read was poisoned. -/
def State.mramData (s : State) (off n : Nat) : List Byte × Bool × State :=
  let (bs, p, s) := s.readMem (mramRegion off) off n
  let bs' := (List.range n).zipWith (fun i b => if s.xoSector ((off + i) / 4096) then 0 else b) bs
  let s := if (List.range n).any (fun i => s.xoSector ((off + i) / 4096)) then s.fault pNvm 2 else s
  (bs', p, s)

/-- FOCUS-LATENCY is in effect (R20, R23). -/
def State.focusLatency (s : State) : Bool := s.fld pSys Reg.Sys.PRF 9 8 == 1
/-- FOCUS-STREAMS is in effect. -/
def State.focusStreams (s : State) : Bool := s.fld pSys Reg.Sys.PRF 9 8 == 2

/-- The sample store as the Ndear-C window reads it: in FOCUS-LATENCY the upper 32 MiB read 0 (R23). -/
def State.sampleData (s : State) (off n : Nat) : List Byte × Bool × State :=
  if s.focusLatency && decide (0x2000000 ≤ off) then (zeros n, false, s) else s.readMem rgSample off n

/-- A data read at an Ndear-C address of control SRAM, MRAM, sample store, packet buffer or table memory; an
address in none of them reads zeros. -/
def State.dataAt (s : State) (a n : Nat) : List Byte × Bool × State :=
  if inCsram a n then s.readMem rgCsram (a - 0x20000000) n
  else if inMram a n then s.mramData (a - 0x10000000) n
  else if 0x30000000 ≤ a ∧ a + n ≤ 0x34000000 then s.sampleData (a - 0x30000000) n
  else if 0x34000000 ≤ a ∧ a + n ≤ 0x36000000 then s.readMem rgPacket (a - 0x34000000) n
  else if 0x36000000 ≤ a ∧ a + n ≤ 0x36800000 then s.readMem rgTable (a - 0x36000000) n
  else (zeros n, false, s)

/-- The home of an octet address in a memory with check bits: region and address in it.
(DEDUCED, log entry 98.) -/
def memHome (a : Nat) : Nat × Nat :=
  if 0x36000000 ≤ a then (rgTable, a - 0x36000000)
  else if 0x34000000 ≤ a then (rgPacket, a - 0x34000000)
  else if 0x30000000 ≤ a then (rgSample, a - 0x30000000)
  else if 0x20000000 ≤ a then (rgCsram, a - 0x20000000)
  else (mramRegion (a - 0x10000000), a - 0x10000000)

/-- A consumer discards what it read of n octets at an Ndear-C address, poisoned (R417, R419). -/
def State.poisonData (s : State) (a n : Nat) : State := s.poisonRead (memHome a).1 (memHome a).2 n false

/-- Octets written to control SRAM at an Ndear-C address. -/
def State.csramWrite (s : State) (a : Nat) (bs : List Byte) : State := s.writeMem rgCsram (a - 0x20000000) bs

end Sys2Proof.Machine
end

