-- ==== Sys2Proof/Machine/Mram.lean ====
section
/-!
DEFINITION. The MRAM controller: ERASE, PROGRAM and VERIFY, their tests, units, budget and dips (R392 to R405,
R411 to R414).
-/
namespace Sys2Proof.Machine

/-- NVM_RES codes (R413). -/
abbrev nvmOk : Nat := 0
abbrev nvmRange : Nat := 1
abbrev nvmConflict : Nat := 2
abbrev nvmBankSelf : Nat := 3
abbrev nvmXo : Nat := 4
abbrev nvmVerifyFail : Nat := 5
abbrev nvmAddr : Nat := 6

/-- Octets of one unit: a sector for ERASE, a word otherwise (R392). -/
def nvmUnit (op : Nat) : Nat := if op = 1 then 4096 else 32

/-- The MRAM bank an Ndear-C address lies in. -/
def bankOf (a : Nat) : Option Nat := if inMram a 1 then some ((a - 0x10000000) / 0x400000) else none

/-- The journal sectors, which no NVM command may touch (R464). -/
def touchesJournal (off n : Nat) : Bool := decide (off < 0xFFF000) && decide (0xFBF000 < off + n)

/-- Test 1 of R396, with the journal's exclusion (R464). -/
def nvmRangeOk (op off count : Nat) : Bool :=
  let u := nvmUnit op
  decide (1 ≤ op) && decide (op ≤ 3) && decide (1 ≤ count) && decide (count ≤ if op = 1 then 64 else 128) &&
  decide (off % u = 0) && decide (off / 0x400000 = (off + u * count - 1) / 0x400000) &&
  !touchesJournal off (u * count)

/-- Test 3 of R396: the execute-only rules (R404). -/
def State.nvmXoOk (s : State) (op off count : Nat) (cmpsrc : Bool) : Bool :=
  let first := off / 4096
  let n := (off + nvmUnit op * count - 1) / 4096 + 1 - first
  (List.range n).all (fun i =>
    if op = 3 then !(cmpsrc && s.xoSector (first + i)) else !s.xoFrozen (first + i))

/-- A command ends: NVM_RES, BUSY and the interrupt; the faults of R412 for its result. -/
def State.nvmEnd (s : State) (res index done : Nat) : State :=
  let s := s.setReg pNvm Reg.Nvm.NVM_RES (BitVec.ofNat 32 (res + index * 256 + done * 65536))
  let s := (s.setFlag pNvm Reg.Nvm.NVM_CMD 31 false).setFlag pNvm Reg.Hdr.STA 8 false
  let s := { (s.setFlag pNvm Reg.Hdr.STA 9 false) with nvm.run := none }
  let s := if res = nvmConflict then s.fault pNvm 4 else if res = nvmVerifyFail then s.fault pNvm 5
    else if res = nvmOk then s else s.fault pNvm 3
  s.irq 5

/-- The words of a run as they stand, and the poison of each. -/
def State.nvmWord (s : State) (off : Nat) : List Byte × Bool × State := s.readMem (mramRegion off) off 32

/-- N AND NOT O is zero: no bit would have to change from 0 to 1 (R398). -/
def programmable (old new : List Byte) : Bool :=
  (List.zipWith (fun o n => n &&& ~~~ o) old new).all (· == 0)

/-- The check of R398 over the words of a PROGRAM from index i on: the first word that fails.
(DEDUCED, log entry 207.) -/
def State.programCheck (s : State) (off : Nat) : Nat → List (List Byte) → Option Nat × State
  | _, [] => (none, s)
  | i, w :: ws =>
    let (o, p, s) := s.nvmWord (off + 32 * i)
    if p || !programmable o w then (some i, s) else s.programCheck off (i + 1) ws

/-- The check of R400 over the words of a VERIFY: a corrected or poisoned word, a word the margin reads fail
(`weak`) and a word unlike its source fail.
(DEDUCED, log entry 207.) -/
def State.verifyCheck (s : State) (off : Nat) (cmp : Option (List (List Byte))) (weak : Option Nat) :
    Nat → Nat → Option Nat × State
  | _, 0 => (none, s)
  | i, n + 1 =>
    let marked := (s.mark (mramRegion (off + 32 * i)) ((off + 32 * i) % 0x400000 / 32)).isSome
    let (o, _, s) := s.nvmWord (off + 32 * i)
    let differs := match cmp with
      | none => false
      | some ws => nth ws i [] != o
    if marked || weak == some i || differs then (some i, s) else s.verifyCheck off cmp weak (i + 1) n

/-- The next unit of the run starts, or the run is held (R402) or paused (R399). -/
def State.nvmStartUnit (s : State) : State :=
  match s.nvm.run with
  | none => s
  | some r =>
    if s.nvm.dip then { s with nvm.run := some { r with unitOn := false } }
    else
      let (ok, s) := s.background pNvm (if r.op = 1 then 128 else 1)
      { (s.setFlag pNvm Reg.Hdr.STA 9 (!ok)) with nvm.run := some { r with unitOn := ok } }

/-- A run on a bank begins: BANK, no dip and no unit done yet (R411, R413).
(DEDUCED, log entry 203.) -/
def State.nvmRunOn (s : State) (bank : Nat) : State :=
  ((s.setFld pNvm Reg.Hdr.STA 11 10 bank).setFlag pNvm Reg.Hdr.STA 12 false).setFld pNvm Reg.Nvm.NVM_RES 23 16 0

/-- An accepted NVM_CMD write: the tests of R396 in order, then the run starts, or the VERIFY is made (R400).
`weak` is the first word whose margin reads fail. -/
def State.nvmCommand (s : State) (v : Word) (weak : Option Nat) : State :=
  let op := bits v 2 0
  let off := s.fld pNvm Reg.Nvm.NVM_ADDR 23 0
  let count := s.fld pNvm Reg.Nvm.NVM_CNT 7 0
  let src := (s.reg pNvm Reg.Nvm.NVM_SRC).toNat
  let cmpsrc := bitAt v 6
  let margin := bits v 5 4
  let needSrc := decide (op = 2) || (decide (op = 3) && cmpsrc)
  let bank := off / 0x400000
  let s := (s.setFlag pNvm Reg.Nvm.NVM_CMD 31 true).setFlag pNvm Reg.Hdr.STA 8 true
  if !nvmRangeOk op off count then s.nvmEnd nvmRange 0 0
  else if needSrc && (!inCsram src (32 * count) || decide (src % 32 ≠ 0)) then s.nvmEnd nvmAddr 0 0
  else if !s.nvmXoOk op off count cmpsrc then s.nvmEnd nvmXo 0 0
  else if bankOf s.engC.pc = some bank ∨ bankOf s.engC.tvec.toNat = some bank then s.nvmEnd nvmBankSelf 0 0
  else
    let (data, p, s) := if needSrc then s.readMem rgCsram (src - 0x20000000) (32 * count) else ([], false, s)
    if p then (s.poisonRead rgCsram (src - 0x20000000) (32 * count) false).nvmEnd nvmAddr 0 0
    else if op = 3 then
      let s := s.nvmRunOn bank
      match s.verifyCheck off (if cmpsrc then some (chunks 32 data) else none)
          (if margin = 0 then none else weak) 0 count with
      | (none, s) => s.nvmEnd nvmOk 0 count
      | (some i, s) => s.nvmEnd nvmVerifyFail i (i + 1)
    else
      let (bad, s) := if op = 2 then s.programCheck off 0 (chunks 32 data) else (none, s)
      match bad with
      | some i => s.nvmEnd nvmConflict i (i + 1)
      | none =>
        ({ (s.nvmRunOn bank) with nvm.run := some ⟨op, off, count, 0, data, false, false⟩ }).nvmStartUnit

/-- Sector or word `done` of the run is written (R397, R398).
(DEDUCED, log entry 123.) -/
def State.nvmWriteUnit (s : State) (r : NvmRun) : State :=
  let off := r.off + nvmUnit r.op * r.done
  if r.op = 1 then s.writeMem (mramRegion off) off (List.replicate 4096 0xFF)
  else
    let new := (r.data.drop (32 * r.done)).take 32
    let old := s.peekMem (mramRegion off) off 32
    s.writeMem (mramRegion off) off (List.zipWith (· &&& ·) old new)

/-- NVM BUSY as NVM_CMD and STA show it, and the bank (R413, R464). -/
def State.nvmShow (s : State) (busy : Bool) (bank : Nat) : State :=
  ((s.setFlag pNvm Reg.Nvm.NVM_CMD 31 busy).setFlag pNvm Reg.Hdr.STA 8 busy).setFld pNvm Reg.Hdr.STA 11 10 bank

/-- A journal operation ends: no result, no interrupt (R464). -/
def State.nvmQuiet (s : State) : State :=
  { ((s.nvmShow false 3).setFlag pNvm Reg.Hdr.STA 9 false) with nvm.run := none }

/-- A journal operation asks for the controller: it runs between other commands (R464). -/
def State.nvmJournal (s : State) (op off count : Nat) (data : List Byte) : State :=
  let r : NvmRun := ⟨op, off, count, 0, data, false, true⟩
  match s.nvm.run with
  | none => ({ (s.nvmShow true 3) with nvm.run := some r }).nvmStartUnit
  | some _ => { s with nvm.jwait := some r }

/-- The unit in progress completes: DONE counts it, and the next unit starts or the run ends (R399). -/
def State.nvmUnitDone (s : State) : State :=
  match s.nvm.run with
  | none => s
  | some r =>
    if !r.unitOn then s
    else
      let s := s.nvmWriteUnit r
      let s := if r.journal then s else s.setFld pNvm Reg.Nvm.NVM_RES 23 16 (r.done + 1)
      let r := { r with done := r.done + 1, unitOn := false }
      let s := { s with nvm.run := some r }
      if r.done ≠ r.count then s.nvmStartUnit else if r.journal then s.nvmQuiet else s.nvmEnd nvmOk 0 r.count

/-- Octets that the device itself erases to, or programs: a program takes O AND N (R398). -/
def State.mramPut (s : State) (off : Nat) (bs : List Byte) (prog : Bool) : State :=
  s.writeMem (mramRegion off) off
    (if prog then List.zipWith (· &&& ·) (s.peekMem (mramRegion off) off bs.length) bs else bs)

/-- An erase or program of the device itself starts, or waits for the end of a supply dip (R44).
(DEDUCED, log entry 43; DESIGN CHOICE, log entry 171.) -/
def State.mramStart (s : State) (off : Nat) (bs : List Byte) (prog : Bool) : State :=
  if s.nvm.dip then { s with nvm.deferred := s.nvm.deferred ++ [(off, bs, prog)] } else s.mramPut off bs prog

/-- The supply has recovered: a run that the dip paused shows it in STA.DIP (R399). -/
def State.nvmDipped (s : State) : State :=
  match s.nvm.run with
  | some r => if r.unitOn || s.flag pNvm Reg.Hdr.STA 9 then s else s.setFlag pNvm Reg.Hdr.STA 12 true
  | none => s

/-- A run that is held or paused tries its next unit again, and what waited for the end of a dip is performed (R44, R399,
R402). -/
def State.nvmResume (s : State) : State :=
  let s := if s.nvm.dip then s
    else s.nvm.deferred.foldl (fun s e => s.mramPut e.1 e.2.1 e.2.2) { s with nvm.deferred := [] }
  match s.nvm.run with
  | none => s
  | some r => if r.unitOn then s else s.nvmStartUnit

/-- A reset takes hold: the unit in progress completes, no further unit starts (R63, R399).
(DEDUCED, log entry 123.) -/
def State.nvmCut (s : State) : State :=
  match s.nvm.run with
  | none => s
  | some r => { (if r.unitOn then s.nvmWriteUnit r else s) with nvm.run := none, nvm.jwait := none }

/-- A whole MRAM region made erased, for the journal and the request sector (R410, R464). -/
def State.mramErase (s : State) (off n : Nat) : State := s.mramStart off (List.replicate n 0xFF) false

/-- Words programmed by the device itself: each takes O AND N (R398). -/
def State.mramProgram (s : State) (off : Nat) (bs : List Byte) : State := s.mramStart off bs true

end Sys2Proof.Machine
end

