-- ==== Sys2Proof/Machine/Fountain.lean ====
section
/-!
DEFINITION. The Fountain (R351 to R358, R361, R362) and the bus-mask re-key (R71, R503).
-/
namespace Sys2Proof.Machine

/-- STATE as FTN STA encodes it (R361). -/
def FtnState.code : FtnState → Nat
  | .reset => 0 | .startup => 1 | .ready => 2 | .failed => 3

/-- STATE takes a value. -/
def State.ftnSet (s : State) (x : FtnState) : State :=
  { (s.setFld pFtn Reg.Hdr.STA 9 8 x.code) with ftn.st := x }

/-- Orangery cores run with masks of zero, or no longer (R354, R357). -/
def State.setUnmasked (s : State) (b : Bool) : State := s.setFlag pFtn Reg.Hdr.STA 10 b

/-- Sources start: STARTUP, the pool empty, cores unmasked (R353, R354).
(DEDUCED, log entry 112.) -/
def State.ftnStart (s : State) : State :=
  ((s.ftnSet .startup).setFlag pFtn Reg.Hdr.STA 11 false).setUnmasked true

/-- One request is counted; after 65,536 the DRBG is reseeded first (R356). -/
def State.ftnCount (s : State) : State :=
  let n := s.fld pFtn Reg.Ftn.REQ_CNT 16 0
  if n ≥ 65536 then
    (s.countFld pFtn Reg.Ftn.RESEEDS 31 0 1).setReg pFtn Reg.Ftn.REQ_CNT 1
  else s.setReg pFtn Reg.Ftn.REQ_CNT (BitVec.ofNat 32 (n + 1))

/-- A request for n octets, served while READY (R355). -/
def State.ftnDraw (s : State) (n : Nat) : List Byte × State := s.ftnCount.drawOctets n

/-- The bus masks are re-keyed: MASK_GEN counts and MASK_REKEYED reads 1 (R71, R503, R523). -/
def State.rekeyMasks (s : State) : State :=
  let (_, s) := s.ftnDraw 16
  let s := s.setFld pCcp Reg.Ccp.CCP_MASK 15 0 (s.fld pCcp Reg.Ccp.CCP_MASK 15 0 + 1)
  s.setFlag pLdg Reg.Ldg.BOOT_STA 11 true

/-- The order in which waiting requests are served (R355). -/
def FtnReq.rank : FtnReq → Nat
  | .rekey => 1 | .arbour => 2 | .attach => 3

/-- A request joins those that wait, once. -/
def State.ftnAsk (s : State) (r : FtnReq) : State :=
  if s.ftn.waiting.contains r then s else { s with ftn.waiting := s.ftn.waiting ++ [r] }

/-- The waiting request to be served next: the lowest rank, the oldest of it.
(DEDUCED, log entry 111.) -/
def nextRequest : List FtnReq → Option FtnReq
  | [] => none
  | r :: rs => match nextRequest rs with
    | none => some r
    | some q => if q.rank < r.rank then some q else some r

/-- The pool is full, the DRBG instantiated: READY; the masks are to be re-keyed and the cores masked (R353,
R71).
(DEDUCED, log entry 111.) -/
def State.ftnReady (s : State) : State :=
  let s := (s.ftnSet .ready).setFlag pFtn Reg.Hdr.STA 11 true
  let s := (s.setUnmasked false).setReg pFtn Reg.Ftn.REQ_CNT 0
  (s.setFlag pLdg Reg.Ldg.BOOT_STA 10 true).ftnAsk .rekey


/-- The FTN FLT_STA bit of a failure (R361). -/
def HealthFail.bit : HealthFail → Nat
  | .repetition s1 => b2n s1
  | .proportion s1 => 2 + b2n s1
  | .startup => 4

/-- The run and the count that a failed test has seen at least (R351). -/
def HealthFail.seen : HealthFail → Nat × Nat
  | .repetition _ => (41, 0)
  | .proportion _ => (0, 800)
  | .startup => (0, 0)

/-- HLT_STA shows the extremes of the raw bits since reset, which are free up to the cutoffs of R351 and never fall; `f` is what a failed
test has seen (R362).
(DESIGN CHOICE, log entry 12.) -/
def State.hltSeen (s : State) (f : Nat × Nat) : State :=
  let (a, s) := s.drawNat
  let (b, s) := s.drawNat
  let run := max (s.fld pFtn Reg.Ftn.HLT_STA 5 0) (if f.1 = 0 then a % 41 else min 63 (f.1 + a % 64))
  let apt := max (s.fld pFtn Reg.Ftn.HLT_STA 25 16) (if f.2 = 0 then b % 800 else min 1023 (f.2 + b % 224))
  (s.setFld pFtn Reg.Ftn.HLT_STA 5 0 run).setFld pFtn Reg.Ftn.HLT_STA 25 16 apt

/-- HLT_STA read while the sources run (R362). -/
def State.hltRead (s : State) : Word × State :=
  let s := if s.ftn.st = .startup ∨ s.ftn.st = .ready then s.hltSeen (0, 0) else s
  (s.reg pFtn Reg.Ftn.HLT_STA, s)

/-- FTN_RES codes (R362). -/
abbrev ftnOk : Nat := 0
abbrev ftnNotReady : Nat := 1
abbrev ftnFail : Nat := 2

/-- A port's last FTN_OUT0 result and latched words (R362). -/
def State.ftnPort (s : State) (p : Port) (res : Nat) (ws : List Word) : State :=
  { s with ftn.res := (p, res) :: s.ftn.res.filter (fun e => e.1 ≠ p)
           ftn.latch := (p, ws) :: s.ftn.latch.filter (fun e => e.1 ≠ p) }

/-- An FTN_OUT0 read by a port: a 256-bit request, its first word and the other seven latched; 0 while not
READY (R354, R357, R362). -/
def State.ftnOut0 (s : State) (p : Port) : Word × State :=
  match s.ftn.st with
  | .ready =>
    let (bs, s) := s.ftnDraw 32
    let ws := (chunks 4 bs).map leWord
    (ws.headD 0, s.ftnPort p ftnOk (ws.drop 1))
  | .failed => (0, s.ftnPort p ftnFail [])
  | _ => (0, s.ftnPort p ftnNotReady [])

/-- FTN_OUT1–7 read by a port: each latched word once (R362). -/
def State.ftnOutN (s : State) (p : Port) (i : Nat) : Word × State :=
  let ws := ((s.ftn.latch.find? (fun e => e.1 = p)).map (·.2)).getD []
  (nth ws (i - 1) 0,
    { s with ftn.latch := (p, setNth ws (i - 1) 0) :: s.ftn.latch.filter (fun e => e.1 ≠ p) })

/-- FTN_RES as a port reads it. -/
def State.ftnResOf (s : State) (p : Port) : Nat :=
  ((s.ftn.res.find? (fun e => e.1 = p)).map (·.2)).getD 0

/-- FTN_CMD 0x5EED while READY: a reseed from the pool (R356). -/
def State.ftnReseed (s : State) : State :=
  if s.ftn.st = .ready then (s.countFld pFtn Reg.Ftn.RESEEDS 31 0 1).setReg pFtn Reg.Ftn.REQ_CNT 0 else s

end Sys2Proof.Machine
end

