-- ==== Sys2Proof/Machine/Arbour.lean ====
section
/-!
DEFINITION. The Arbour: its operations, key sources, phases, pre-emption and abort (R339 to R350, R359, R360).
-/
namespace Sys2Proof.Machine

/-- ARB_RES codes (R360). -/
abbrev arbOk : Nat := 0
abbrev arbBadOp : Nat := 1
abbrev arbBadLen : Nat := 2
abbrev arbBadKsrc : Nat := 3
abbrev arbNoKey : Nat := 4
abbrev arbBadOperand : Nat := 5
abbrev arbBadPoint : Nat := 6
abbrev arbFtnFail : Nat := 7
abbrev arbAborted : Nat := 8
abbrev arbPreempted : Nat := 9
abbrev arbZeroised : Nat := 0xA
abbrev arbAddr : Nat := 0xB

/-- Areas of the scratch memory (R341). -/
abbrev areaA : Nat := 0x0000
abbrev areaB : Nat := 0x0200
abbrev areaC : Nat := 0x0400
abbrev areaD : Nat := 0x0600
abbrev areaR : Nat := 0x0800
abbrev areaW : Nat := 0x1000

/-- n octets of the scratch memory. -/
def State.scr (s : State) (off n : Nat) : List Byte := s.peekMem rgScratch off n

/-- Octets written to the scratch memory, which is then dirty (R349, R359). -/
def State.setScr (s : State) (off : Nat) (bs : List Byte) : State :=
  (s.writeMem rgScratch off bs).setFlag pArb Reg.Hdr.STA 9 true

/-- All 16 KiB of scratch hold zero and are clean (R349, R350). -/
def State.clearScr (s : State) : State :=
  { (s.setFlag pArb Reg.Hdr.STA 9 false) with
    mem := { s.mem with scratch := [], marks := s.mem.marks.filter (fun e => e.1 / 2 ^ 22 ≠ rgScratch) } }

/-- STA shows BUSY and the ephemeral registers held (R359). -/
def State.arbStatus (s : State) : State :=
  let s := s.setFlag pArb Reg.Hdr.STA 8 (s.arb.phase != .idle)
  (List.range 4).foldl (fun s j => s.setFlag pArb Reg.Hdr.STA (11 + j) (nth s.arb.eph j none).isSome) s

/-- Timed-phase cycles of an operation (R339). -/
def arbCycles (op w len : Nat) : Nat :=
  match op with
  | 1 => 48 * ((len + 9 + 63) / 64) + 100
  | 2 => 1280000
  | 3 => 880000
  | 4 => 800000
  | 5 => 800000
  | 6 => 880244
  | 7 => 8 * w + 40
  | 8 => 8 * w + 40
  | 9 => 64 * w * w + 200
  | 10 => 512 * w * (64 * w * w + 200) + 400
  | 14 => 4096
  | _ => 0

/-- Octets of randomness an operation draws (R339). -/
def arbDraw (op : Nat) (msk : Bool) : Nat :=
  match op with
  | 3 => 80
  | 4 => 32
  | 5 => 80
  | 6 => 80
  | 7 => if msk then 32 else 0
  | 8 => if msk then 32 else 0
  | 9 => if msk then 32 else 0
  | 10 => if msk then 32 else 0
  | _ => 0

/-- Octets of randomness an internal request draws: scalar multiplications blind themselves as ECDH and KEYGEN
do; verifications draw nothing (R340). -/
def ArbReq.draw : ArbReq → Nat
  | .qKA => 32 | .qID => 32 | .transportLoad => 32 | .attach => 80 | .certCheck => 0 | .unlockVerify => 0
  | .package => 0

/-- The randomness the operation in progress draws. -/
def ArbOp.draw : ArbOp → Nat
  | .fw op msk _ _ _ => arbDraw op msk
  | .req r => r.draw

/-- Requests that pre-empt a running firmware operation (R347). -/
def ArbReq.preempts : ArbReq → Bool
  | .qKA => true | .qID => true | .attach => true | _ => false

/-- An operation that passed its checks takes the engine: it waits for its randomness, or its timed phase starts
(R340). -/
def State.arbBegin (s : State) (o : ArbOp) : State :=
  let s := { s with arb.cur := some o, arb.rnd := []
                    arb.phase := if o.draw = 0 then .timed else .random }
  (if o.draw = 0 then s else s.ftnAsk .arbour).arbStatus

/-- The engine is free: the oldest request that waits is taken (R347).
(DEDUCED, log entry 110.) -/
def State.arbNext (s : State) : State :=
  let s := { s with arb.phase := .idle, arb.cur := none, arb.rnd := []
                    ftn.waiting := s.ftn.waiting.filter (fun r => r != FtnReq.arbour) }
  match s.arb.waiting with
  | [] => s.arbStatus
  | r :: rs => ({ s with arb.waiting := rs }).arbBegin (.req r)

/-- A firmware operation ends with a status: ARB_RES and ARB_CYC are written, its faults set, the interrupt
raised where enabled, and a waiting request starts (R348, R359). -/
def State.arbEnd (s : State) (status : Nat) (pass : Bool) (cycles : Nat) : State :=
  let s := s.setReg pArb Reg.Arb.ARB_RES (BitVec.ofNat 32 (status + b2n pass * 256))
  let s := s.setReg pArb Reg.Arb.ARB_CYC (BitVec.ofNat 32 cycles)
  let s := if status = arbOk then s else s.fault pArb 0
  let s := if status = arbFtnFail then s.fault pArb 2 else s
  let s := if s.flag pArb Reg.Arb.ARB_CFG 0 then s.irq 3 else s
  s.arbNext

/-- An internal request: it starts where the engine is free, and waits otherwise (R347).
(DEDUCED, log entry 110.) -/
def State.arbRequest (s : State) (r : ArbReq) : State :=
  match s.arb.cur with
  | none => s.arbBegin (.req r)
  | some _ => { s with arb.waiting := s.arb.waiting ++ [r] }

/-- The scalar a KSRC selects, where the operation permits it (R343). -/
def State.ksrcScalar (s : State) (ksrc esel : Nat) : Option Nat :=
  if ksrc = 0 then some (beNat (s.scr areaC 32)) else nth s.arb.eph esel none

/-- The scalar range of P-256. -/
def scalarOk (d : Nat) : Bool := decide (1 ≤ d) && decide (d < p256N)

/-- The KSRC and ESEL of an operation with a selectable scalar are ones it permits (R343). -/
def ksrcOk (op ksrc esel : Nat) : Bool :=
  if op = 3 then ksrc == 0
  else if op = 4 ∨ op = 5 then ksrc == 0 || (ksrc == 1 && esel != 0)
  else true

/-- The check phase: the status of an operation that its public inputs refuse (R339, R343, R346, R360).
(DEDUCED, log entry 109.) -/
def State.arbCheck (s : State) (op ksrc esel w : Nat) : Nat :=
  let a := s.reg pArb Reg.Arb.ARB_SRC |>.toNat
  let len := s.fld pArb Reg.Arb.ARB_LEN 24 0
  if op = 1 then
    if len > 0x1000000 then arbBadLen else if inCsram a len || inMram a len then arbOk else arbAddr
  else if op = 2 then
    let q := pointOf (s.scr areaB 64)
    if onCurve q.1 q.2 then arbOk else arbBadPoint
  else if op = 3 then (if ksrcOk op ksrc esel then arbOk else arbBadKsrc)
  else if op = 4 then
    if !ksrcOk op ksrc esel then arbBadKsrc
    else match s.ksrcScalar ksrc esel with
      | none => arbNoKey
      | some d =>
        let q := pointOf (s.scr areaB 64)
        if !scalarOk d then arbBadOperand else if onCurve q.1 q.2 then arbOk else arbBadPoint
  else if op = 5 then (if ksrcOk op ksrc esel then arbOk else arbBadKsrc)
  else if op = 6 then (if s.flag pArb Reg.Hdr.STA 10 then arbOk else arbNoKey)
  else if 7 ≤ op ∧ op ≤ 10 then
    if w < 1 ∨ 16 < w then arbBadLen
    else
      let m := beNat (s.scr areaC (32 * w))
      let x := beNat (s.scr areaA (32 * w))
      let y := beNat (s.scr areaB (32 * w))
      if m < 3 ∨ m % 2 = 0 ∨ m ≤ x ∨ (op ≠ 10 ∧ m ≤ y) then arbBadOperand else arbOk
  else if op = 14 then arbOk
  else arbBadOp

/-- An abort's clearing: scratch, private area and randomness (R350). -/
def State.arbWipe (s : State) : State := { s.clearScr with arb.rnd := [] }

/-- A firmware operation is stopped: its status, and the cycles its timed phase had run, which are free (R350).
(DESIGN CHOICE, log entry 12.) -/
def State.arbStop (s : State) (status : Nat) : State :=
  match s.arb.phase, s.arb.cur with
  | .timed, some (.fw op _ _ _ w) =>
    let (n, s) := s.drawNat
    s.arbEnd status false (n % (arbCycles op w s.arb.len + 1))
  | _, _ => s.arbEnd status false 0

/-- OP 15: the firmware operation in progress stops ABORTED; scratch is zeroed (R350). An internal request goes
on: it holds nothing in scratch (R343).
(DEDUCED, log entry 196.) -/
def State.arbAbort (s : State) : State :=
  let s := s.arbWipe.fault pArb 1
  match s.arb.cur with
  | some (.req _) => s.setReg pArb Reg.Arb.ARB_RES (BitVec.ofNat 32 arbAborted)
  | _ => s.arbStop arbAborted

/-- An accepted ARB_CMD write while the engine is idle, or OP 15 at any time (R346). -/
def State.arbCommand (s : State) (v : Word) : State :=
  let op := bits v 4 0
  let msk := bitAt v 5
  let ksrc := bits v 7 6
  let esel := bits v 9 8
  let w := bits v 20 16
  if op = 15 then s.arbAbort
  else
    let st := s.arbCheck op ksrc esel w
    if st ≠ arbOk then s.arbEnd st false 0
    else if arbDraw op msk ≠ 0 ∧ s.ftn.st = .failed then s.arbEnd arbFtnFail false 0
    else ({ s with arb.src := (s.reg pArb Reg.Arb.ARB_SRC).toNat, arb.len := s.fld pArb Reg.Arb.ARB_LEN 24 0 }).arbBegin (.fw op msk ksrc esel w)

/-- The statement of ATTEST (R345). -/
def State.attestStatement (s : State) (challenge : List Byte) : List Byte :=
  ascii "BNLA" ++ [1, 0, 0, 0] ++ s.deviceId ++
  [BitVec.ofNat 8 s.lifecycle, BitVec.ofNat 8 s.svnOtp, BitVec.ofNat 8 (s.fld pOrg Reg.Org.KEK_STA 3 0), 0] ++
  natOctets 2 s.well.zcnt ++ [0, 0] ++ s.octetRegs pArb (Reg.Arb.FW_HASH 0) 8 ++
  s.octetRegs pLdg (Reg.Ldg.CFG_HASH 0) 8 ++ challenge

/-- A scalar from 384 random bits: (b mod (n − 1)) + 1 (R340). -/
def scalarOf (b : List Byte) : Nat := beNat b % (p256N - 1) + 1

/-- Operations that leave their intermediates in W: those with the scalar in C, and masked generic ones (R342);
what they leave there is open. -/
def State.leaveW (s : State) (leave : Bool) : State :=
  if leave then
    let (bs, s) := s.drawOctets 0x3000
    s.setScr areaW bs
  else s

/-- The effect of the timed phase of a firmware operation on scratch and ephemeral registers, and PASS (R342,
R343).
(DEDUCED, log entry 109.) -/
def State.arbEffect (s : State) (op : Nat) (msk : Bool) (ksrc esel w : Nat) : Bool × State :=
  let k := scalarOf (s.arb.rnd.take 48)
  let a := beNat (s.scr areaA (32 * w))
  let b := beNat (s.scr areaB (32 * w))
  let m := beNat (s.scr areaC (32 * w))
  match op with
  | 1 =>
    let (bs, _, s) := s.dataAt s.arb.src s.arb.len
    (false, s.setScr areaR (sha256 bs))
  | 2 => (ecdsaVerify (s.scr areaB 64) (s.scr areaA 32) (s.scr areaD 64), s)
  | 3 => (false, (s.setScr areaR (ecdsaSign (beNat (s.scr areaC 32)) k (s.scr areaA 32))).leaveW true)
  | 4 =>
    let d := (s.ksrcScalar ksrc esel).getD 1
    let s := s.setScr areaR (ecdh d (pointOf (s.scr areaB 64)))
    let s := if ksrc = 1 then { s with arb.eph := setNth s.arb.eph esel none } else s
    (false, s.leaveW (ksrc == 0))
  | 5 =>
    let s := s.setScr areaR (pointOctets (ecMul k p256G))
    let s := if ksrc = 0 then s.setScr areaC (natOctetsBE 32 k)
      else { s with arb.eph := setNth s.arb.eph esel (some k) }
    (false, s.leaveW (ksrc == 0))
  | 6 =>
    let st := s.attestStatement (s.scr areaA 32)
    (false, s.setScr areaR (st ++ ecdsaSign (s.arb.dID.getD 1) k (sha256 st)))
  | 7 => (false, (s.setScr areaR (natOctetsBE (32 * w) ((a + b) % m))).leaveW msk)
  | 8 => (false, (s.setScr areaR (natOctetsBE (32 * w) (subMod a b m))).leaveW msk)
  | 9 => (false, (s.setScr areaR (natOctetsBE (32 * w) (a * b % m))).leaveW msk)
  | 10 => (false, (s.setScr areaR (natOctetsBE (32 * w) (powMod a (beNat (s.scr areaD (32 * w))) m))).leaveW msk)
  | 14 => (false, s.clearScr)
  | _ => (false, s)

/-- What a firmware operation reads of scratch: area and octets (R339, R341). -/
def arbReads (op ksrc w : Nat) : List (Nat × Nat) :=
  match op with
  | 2 => [(areaB, 64), (areaA, 32), (areaD, 64)]
  | 3 => [(areaC, 32), (areaA, 32)]
  | 4 => (areaB, 64) :: if ksrc = 0 then [(areaC, 32)] else []
  | 6 => [(areaA, 32)]
  | 7 => [(areaA, 32 * w), (areaB, 32 * w), (areaC, 32 * w)]
  | 8 => [(areaA, 32 * w), (areaB, 32 * w), (areaC, 32 * w)]
  | 9 => [(areaA, 32 * w), (areaB, 32 * w), (areaC, 32 * w)]
  | 10 => [(areaA, 32 * w), (areaC, 32 * w), (areaD, 32 * w)]
  | _ => []

/-- The operands of a firmware operation pass the decoders of their memories: whether one is poisoned, which is told (R417).
(DEDUCED, log entry 197.) -/
def State.arbPoison (s : State) (op ksrc w : Nat) : Bool × State :=
  if op = 1 then
    match s.dataAt s.arb.src s.arb.len with
    | (_, p, s) => (p, if p then s.poisonData s.arb.src s.arb.len else s)
  else (arbReads op ksrc w).foldl (fun (x : Bool × State) r =>
    match x.2.readMem rgScratch r.1 r.2 with
    | (_, p, s) => (x.1 || p, if p then s.poisonRead rgScratch r.1 r.2 false else s)) (false, s)

/-- The timed phase of the operation in progress ends: a firmware operation posts its result (R348), one with a poisoned operand
ends ABORTED without one (R417); Q_KA and
Q_ID are published (R320, R344). The requests whose end is an event of its own stay until that event.
(DEDUCED, log entries 4, 197.) -/
def State.arbComplete (s : State) : State :=
  if s.arb.phase ≠ .timed then s
  else match s.arb.cur with
    | some (.fw op msk ksrc esel w) =>
      let cyc := arbCycles op w s.arb.len
      match s.arbPoison op ksrc w with
      | (true, s) => s.arbEnd arbAborted false cyc
      | (false, s) =>
        let (pass, s) := s.arbEffect op msk ksrc esel w
        s.arbEnd arbOk pass cyc
    | some (.req .qKA) =>
      let s := match s.org.dKA with
        | none => s
        | some d => (s.setOctetRegs pOrg (Reg.Org.KA_PUB 0) (pointOctets (ecMul d p256G))).setFlag pOrg Reg.Org.KEK_STA 2 true
      s.arbNext
    | some (.req .qID) =>
      let s := match s.arb.dID with
        | none => s
        | some d => (s.setOctetRegs pArb (Reg.Arb.ID_PUB 0) (pointOctets (ecMul d p256G))).setFlag pArb Reg.Hdr.STA 10 true
      s.arbNext
    | _ => s

/-- The randomness of the operation has been drawn: its timed phase starts (R340). -/
def State.arbTimed (s : State) : State :=
  if s.arb.phase = .random ∧ s.arb.rnd ≠ [] then ({ s with arb.phase := .timed }).arbStatus else s

/-- A request of R347 pre-empts the running firmware operation, which ends PREEMPTED with its scratch cleared, an abort (R350).
(DEDUCED, log entries 110, 196.) -/
def State.arbPreempt (s : State) : State :=
  match s.arb.cur, s.arb.waiting.find? (·.preempts) with
  | some (.fw _ _ _ _ _), some r =>
    let s := { s with arb.waiting := r :: s.arb.waiting.erase r }
    ((s.arbWipe.fault pArb 1).fault pArb 3).arbStop arbPreempted
  | _, _ => s

/-- A health-test failure ends an operation in its randomness phase FTN_FAIL; an internal request that draws
ends too (R357). -/
def State.arbFtnFailed (s : State) : State :=
  if s.arb.phase ≠ .random then s
  else match s.arb.cur with
    | some (.fw _ _ _ _ _) => s.arbEnd arbFtnFail false 0
    | some (.req _) => s.arbNext
    | none => s

/-- A zeroise's part: a running operation ends ZEROISED, scratch and E0–E3 are zeroed (R350).
(DEDUCED, log entry 196.) -/
def State.arbZeroise (s : State) : State :=
  let s := { s.arbWipe with arb.eph := [none, none, none, none] }
  match s.arb.cur with
  | some (.fw _ _ _ _ _) => (s.fault pArb 1).arbStop arbZeroised
  | _ => s.arbStatus

/-- An ARB block reset aborts, and zeroes E0–E3 too (R350). -/
def State.arbBlockReset (s : State) : State :=
  let s := { s.arbWipe with arb.eph := [none, none, none, none] }
  match s.arb.cur with
  | some (.fw _ _ _ _ _) => (s.fault pArb 1).arbStop arbAborted
  | _ => s.arbStatus

/-- The scratch word SCR_ADDR names, octets 4w to 4w + 3 with the lowest address in [31:24]; the reserved area
reads 0 (R341, R360). -/
def State.scrRead (s : State) : Word × State :=
  let w := s.fld pArb Reg.Arb.SCR_ADDR 11 0
  let s' := s.setReg pArb Reg.Arb.SCR_ADDR (BitVec.ofNat 32 ((w + 1) % 4096))
  if s.arb.phase ≠ .idle ∨ (0x0A00 ≤ 4 * w ∧ 4 * w < 0x1000) then (0, s')
  else
    let (bs, p, s') := s'.readMem rgScratch (4 * w) 4
    if p then (0, s'.poisonRead rgScratch (4 * w) 4 false) else (BitVec.ofNat 32 (beNat bs), s')

/-- SCR_DATA written. -/
def State.scrWrite (s : State) (v : Word) : State :=
  let w := s.fld pArb Reg.Arb.SCR_ADDR 11 0
  let s' := s.setReg pArb Reg.Arb.SCR_ADDR (BitVec.ofNat 32 ((w + 1) % 4096))
  if s.arb.phase ≠ .idle ∨ (0x0A00 ≤ 4 * w ∧ 4 * w < 0x1000) then s' else s'.setScr (4 * w) (wordOctetsBE v)

end Sys2Proof.Machine
end

