-- ==== Sys2Proof/Machine/Orangery.lean ====
section
/-!
DEFINITION. The Orangery: key hierarchy, blobs, slots, swaps and expiry, rings and cores, and its part of a
zeroise (R318 to R338).
-/
namespace Sys2Proof.Machine

/-- KEY_RES codes (R337). -/
abbrev keyOk : Nat := 0x00
abbrev keyFormat : Nat := 0x01
abbrev keyDevice : Nat := 0x02
abbrev keyUnwrap : Nat := 0x03
abbrev keyNonce : Nat := 0x04
abbrev keyNoKek : Nat := 0x05
abbrev keyAttr : Nat := 0x06
abbrev keyExpired : Nat := 0x07
abbrev keyLifecycle : Nat := 0x08
abbrev keyPosition : Nat := 0x09
abbrev keyNotReady : Nat := 0x0A
abbrev keyBbrPresent : Nat := 0x0B
abbrev keyAddr : Nat := 0x0C
abbrev keyZeroised : Nat := 0x0D
abbrev keyPoint : Nat := 0x0E

/-- The key slot of a number. -/
def State.slot (s : State) (n : Nat) : KeySlot := smGet (fun _ => KeySlot.empty) s.org.slots n

/-- A key slot replaced. -/
def State.setSlot (s : State) (n : Nat) (k : KeySlot) : State :=
  { s with org.slots := smSet (fun _ => KeySlot.empty) s.org.slots n k }

/-- A key command ends: KEY_RES takes its result, BUSY clears; a LOAD or EXPORT that fails sets FLT_STA bit [0]
(R336, R337). -/
def State.keyEnd (s : State) (op res : Nat) : State :=
  let s := { (s.setReg pOrg Reg.Org.KEY_RES (BitVec.ofNat 32 res)) with org.keyCmd := none }
  let s := (s.setFlag pOrg Reg.Org.KEY_CMD 31 false).setFlag pOrg Reg.Hdr.STA 9 false
  if (op = 1 ∨ op = 4) ∧ res ≠ keyOk then s.fault pOrg 0 else s

/-- KEK_STA.BBR_PRESENT and ZEROISED, IMP_NONCE and ZCNT show the well (R337). -/
def State.showWell (s : State) : State :=
  let s := s.setFlag pOrg Reg.Org.KEK_STA 1 s.well.bbr.isSome
  let s := s.setFlag pOrg Reg.Org.KEK_STA 3 s.well.zeroised
  let s := s.setReg pOrg Reg.Org.ZCNT (BitVec.ofNat 32 s.well.zcnt)
  s.setOctetRegs pOrg (Reg.Org.IMP_NONCE 0)
    (match s.well.bbr, s.well.impNonce with
      | some _, some n => natOctetsBE 16 n.toNat
      | _, _ => zeros 16)

/-- KEK_S and d_KA are derived from DS and BBR, KEK_OK is set and Q_KA asked for (R319, R320). -/
def State.deriveKek (s : State) (ds : List Byte) (bbr : BitVec 256) : State :=
  let s := { s with
    org.kekS := some (hmac ds (ascii "BNL-KS" ++ natOctetsBE 32 bbr.toNat))
    org.dKA := some (beNat (hmac ds (ascii "BNL-KA")) % (p256N - 1) + 1) }
  let s := (s.setFlag pOrg Reg.Org.KEK_STA 0 true).setFlag pOrg Reg.Org.KEK_STA 2 false
  ((s.setOctetRegs pOrg (Reg.Org.KA_PUB 0) (zeros 64)).setFlag pLdg Reg.Ldg.BOOT_STA 12 true).arbRequest .qKA

/-- A derivation's conditions and its effect: DS and BBR present, masks re-keyed (R320).
(DEDUCED, log entry 104.) -/
def State.kekDerive (s : State) : Nat × State :=
  if !s.keysPermitted then (keyLifecycle, s)
  else if !s.flag pLdg Reg.Ldg.BOOT_STA 11 then (keyNotReady, s)
  else match s.secret, s.well.bbr with
    | some ds, some bbr => (keyOk, s.deriveKek ds bbr)
    | _, _ => (keyNoKek, s)

/-- BBR_GEN (R321).
(DEDUCED, log entry 104.) -/
def State.bbrGen (s : State) : Nat × State :=
  if s.well.bbr.isSome then (keyBbrPresent, s)
  else if s.ftn.st ≠ .ready then (keyNotReady, s)
  else if !s.keysPermitted then (keyLifecycle, s)
  else
    let (bs, s) := s.ftnDraw 48
    let s := { s with well.bbr := some (BitVec.ofNat 256 (beNat (bs.take 32)))
                      well.impNonce := some (BitVec.ofNat 128 (beNat (bs.drop 32)))
                      well.zeroised := false }
    let (_, s) := s.showWell.kekDerive
    (keyOk, s)

/-- The header of a blob as it lies in control SRAM, and its wrapped data (R322). -/
structure BlobIn where
  transport : Bool
  devId : List Byte
  qe : List Byte
  nonce : List Byte
  wrapped : List Byte
  deriving DecidableEq, Repr

/-- A blob read at an address: none where a header field is not as R322 gives it. -/
def blobAt (s : State) (a : Nat) : Option BlobIn :=
  let rd := fun o n => s.peekMem rgCsram (a - 0x20000000 + o) n
  let form := ((rd 5 1).headD 0).toNat
  let wlen := leNat (rd 0x18 4)
  if rd 0 4 = ascii "BNLK" ∧ rd 4 1 = [1] ∧ (form = 1 ∨ form = 2) ∧ rd 6 2 = zeros 2 ∧
      (wlen = 40 ∨ wlen = 56) ∧ rd 0x1C 4 = zeros 4 then
    let t := decide (form = 2)
    some ⟨t, rd 8 16, rd 0x20 64, rd 0x60 16, rd (if t then 0x70 else 0x20) wlen⟩
  else none

/-- The octets a blob takes up, by its FORM and WLEN; its 32-octet header where these are not valid. -/
def blobLen (s : State) (a : Nat) : Nat :=
  match blobAt s a with
  | none => 32
  | some b => (if b.transport then 0x70 else 0x20) + b.wrapped.length

/-- AES types (R323). -/
def isAes (t : Nat) : Bool := t == 1 || t == 2

/-- Check 9 of R324 on the plaintext of a blob: the position it makes, or none where an attribute is bad. -/
def blobPos (s : State) (p : List Byte) (nxt : Bool) (slot : Nat) : Option KeyPos :=
  let typ := ((p.take 1).headD 0).toNat
  let usage := ((p.drop 1).headD 0).toNat
  let sl := leNat ((p.drop 2).take 2)
  let keyId := leNat ((p.drop 4).take 4)
  let na := leNat ((p.drop 8).take 8)
  let len := if typ = 1 then 32 else 48
  let kind := match (s.slot slot).cur with
    | none => true
    | some c => isAes c.typ == isAes typ
  if 1 ≤ typ ∧ typ ≤ 3 ∧ usage < 16 ∧ p.length = len ∧ keyId ≠ 0 ∧ (sl = 0xFFFF ∨ sl = slot) ∧
      (nxt = false ∨ kind = true) then
    some ⟨typ, usage, keyId, na, p.drop 16⟩
  else none

/-- Checks 8 to 11 of R324 under a key-encryption key, and the load they permit.
(DEDUCED, log entry 103.) -/
def State.loadUnder (s : State) (kek wrapped : List Byte) (nxt : Bool) (slot : Nat) : Nat × State :=
  match kwpUnwrap kek wrapped with
  | none => (keyUnwrap, s)
  | some p => match blobPos s p nxt slot with
    | none => (keyAttr, s)
    | some k =>
      let ks := s.slot slot
      if k.notAfter ≠ 0 ∧ k.notAfter ≤ secOf s.sdl.time then (keyExpired, s)
      else if nxt ∧ ks.cur = none then (keyPosition, s)
      else if nxt then (keyOk, s.setSlot slot { ks with nxt := some k, retired := false, retireAt := none })
      else (keyOk, s.setSlot slot { ks with cur := some k })

/-- LOAD: the checks of R324 in order; a transport blob's unwrap waits for the Arbour's ECDH.
(DEDUCED, log entries 103, 198.) -/
def State.keyLoad (s : State) (nxt : Bool) (slot : Nat) : State :=
  let a := (s.reg pOrg Reg.Org.KEY_ADDR).toNat
  if !s.keysPermitted then s.keyEnd 1 keyLifecycle
  else if !inCsram a 32 || !inCsram a (blobLen s a) || decide (a % 8 ≠ 0) then s.keyEnd 1 keyAddr
  else
    let (_, p, s) := s.readMem rgCsram (a - 0x20000000) (blobLen s a)
    if p then (s.poisonRead rgCsram (a - 0x20000000) (blobLen s a) false).keyEnd 1 keyFormat
    else match blobAt s a with
    | none => s.keyEnd 1 keyFormat
    | some b =>
      if b.devId ≠ s.deviceId then s.keyEnd 1 keyDevice
      else match s.org.kekS with
        | none => s.keyEnd 1 keyNoKek
        | some kek =>
          if !b.transport then
            let (r, s) := s.loadUnder kek b.wrapped nxt slot
            s.keyEnd 1 r
          else if s.well.impNonce.map (fun n => natOctetsBE 16 n.toNat) ≠ some b.nonce then s.keyEnd 1 keyNonce
          else
            let q := pointOf b.qe
            if !onCurve q.1 q.2 then s.keyEnd 1 keyPoint
            else
              let s := { s with org.keyCmd := some ⟨1, b2n nxt, false, slot, b.qe, b.nonce, b.wrapped⟩ }
              ((s.setFlag pOrg Reg.Org.KEY_CMD 31 true).setFlag pOrg Reg.Hdr.STA 9 true).arbRequest .transportLoad

/-- KEK_T of a transport blob (R319). -/
def State.kekT (s : State) (k : KeyCmd) : List Byte :=
  let z := ecdh (s.org.dKA.getD 1) (pointOf k.qe)
  hmac z (ascii "BNL-KT" ++ s.deviceId ++ k.nonce ++ k.qe)

/-- The Arbour has given KEK_T: checks 8 to 11, and the LOAD ends; KEK_T is gone with it (R324). -/
def State.transportDone (s : State) : State :=
  match s.org.keyCmd, s.arb.cur with
  | some k, some (.req .transportLoad) =>
    if s.arb.phase ≠ .timed then s
    else
      let (r, s) := s.loadUnder (s.kekT k) k.wrapped (k.pos == 1) k.slot
      (s.keyEnd 1 r).arbNext
  | _, _ => s

/-- EXPORT: a storage blob of one position (R325).
(DEDUCED, log entry 103.) -/
def State.keyExport (s : State) (nxt : Bool) (slot : Nat) : State :=
  let a := (s.reg pOrg Reg.Org.KEY_ADDR).toNat
  let k := if nxt then (s.slot slot).nxt else (s.slot slot).cur
  let len := match k with
    | some k => if k.typ = 1 then 72 else 88
    | none => 72
  if !inCsram a len || decide (a % 8 ≠ 0) then s.keyEnd 4 keyAddr
  else match s.org.kekS, k with
    | none, _ => s.keyEnd 4 keyNoKek
    | some _, none => s.keyEnd 4 keyPosition
    | some kek, some k =>
      let plain := [BitVec.ofNat 8 k.typ, BitVec.ofNat 8 k.usage] ++ natOctets 2 slot ++ natOctets 4 k.keyId ++
        natOctets 8 k.notAfter ++ k.key
      let w := kwpWrap kek plain
      let blob := ascii "BNLK" ++ [1, 1, 0, 0] ++ s.deviceId ++ natOctets 4 w.length ++ zeros 4 ++ w
      (s.csramWrite a blob).keyEnd 4 keyOk

/-- SWAP_AT: T_s of a slot from KEY_ARG1 and KEY_ARG0 (R327). -/
def State.keySwapAt (s : State) (slot : Nat) : State :=
  let t := s.fld pOrg Reg.Org.KEY_ARG1 15 0 * 2 ^ 32 + (s.reg pOrg Reg.Org.KEY_ARG0).toNat
  (s.setSlot slot { s.slot slot with swapAt := some t }).keyEnd 2 keyOk

/-- ERASE: one position or both (R328). -/
def State.keyErase (s : State) (nxt both : Bool) (slot : Nat) : State :=
  let k := s.slot slot
  let k := if both || !nxt then { k with cur := none } else k
  let k := if both || nxt then { k with nxt := none, retired := false, retireAt := none } else k
  (s.setSlot slot k).keyEnd 3 keyOk

/-- An accepted KEY_CMD write while BUSY is 0; an OP without a meaning is discarded (R337). -/
def State.keyCommand (s : State) (v : Word) : State :=
  let nxt := bitAt v 3
  let both := bitAt v 4
  let slot := bits v 28 16
  match bits v 2 0 with
  | 1 => s.keyLoad nxt slot
  | 2 => s.keySwapAt slot
  | 3 => s.keyErase nxt both slot
  | 4 => s.keyExport nxt slot
  | 5 => let (r, s) := s.bbrGen; s.keyEnd 5 r
  | 6 => let (r, s) := s.kekDerive; s.keyEnd 6 r
  | _ => s

/-- The swap of a slot at its instant (R327).
(DEDUCED, log entry 106.) -/
def State.swapSlot (s : State) (n : Nat) : State :=
  let k := s.slot n
  match k.nxt, k.retired with
  | some nx, false =>
    let r := s.fld pOrg Reg.Org.ORG_CFG 15 0
    s.setSlot n { k with cur := some nx, nxt := k.cur, retired := k.cur.isSome, swapAt := none
                         retireAt := if r = 0 ∨ k.cur = none then none else some (s.sdl.time + r * 1000000000) }
  | _, _ => (s.setSlot n { k with swapAt := none, swapMiss := true }).faultItem pOrg 2 6 n 0

/-- A position has expired at a station time (R328). -/
def expired (t : Nat) : Option KeyPos → Bool
  | some k => decide (k.notAfter ≠ 0) && decide (k.notAfter * 1000000000 ≤ t)
  | none => false

/-- Expiry of a slot's positions (R328).
(DEDUCED, log entry 106.) -/
def State.expireSlot (s : State) (t n : Nat) : State :=
  let k := s.slot n
  let a := expired t k.cur
  let b := expired t k.nxt
  let s := if a then (s.setSlot n { k with cur := none }).faultItem pOrg 3 6 n 0 else s
  if b then
    (s.setSlot n { s.slot n with nxt := none, retired := false, retireAt := none }).faultItem pOrg 3 6 n 0
  else s

/-- A retired key is zeroed when its time has come (R327). -/
def State.retireSlot (s : State) (t n : Nat) : State :=
  let k := s.slot n
  match k.retireAt with
  | some r => if r ≤ t ∧ k.retired then s.setSlot n { k with nxt := none, retired := false, retireAt := none } else s
  | none => s

/-- The slots that hold anything. -/
def State.usedSlots (s : State) : List Nat := s.org.slots.map (·.1)

/-- Every used slot whose T_s has come swaps (R327). -/
def State.swapDue (s : State) (t : Nat) : State :=
  s.usedSlots.foldl (fun s n => match (s.slot n).swapAt with
    | some ts => if ts * 1000000000 ≤ t then s.swapSlot n else s
    | none => s) s

/-- The key actions of a slot start at station time t: expiry, then swaps, then retirements (R327, R328).
(DEDUCED, log entry 106.) -/
def State.keySlotStart (s : State) (t : Nat) : State :=
  let s := s.usedSlots.foldl (fun s n => s.expireSlot t n) s
  let s := s.swapDue t
  s.usedSlots.foldl (fun s n => s.retireSlot t n) s

/-- SLOT_INFO of a slot (R337). -/
def slotInfo (k : KeySlot) : Word :=
  let ty := fun (p : Option KeyPos) => (p.map (fun k => k.typ - 1)).getD 0
  let us := fun (p : Option KeyPos) => (p.map (·.usage)).getD 0
  BitVec.ofNat 32 (b2n k.cur.isSome + (if k.nxt.isNone then 0 else if k.retired then 2 else 1) * 2 +
    ty k.cur * 8 + ty k.nxt * 32 + us k.cur * 128 + us k.nxt * 2048 + b2n k.swapAt.isSome * 2 ^ 15 +
    b2n k.swapMiss * 2 ^ 16)

/-- The position of a slot whose KEYID is named (R326, R329). -/
def keyById (k : KeySlot) (id : Nat) : Option KeyPos :=
  match k.cur with
  | some c => if c.keyId = id then some c else
    match k.nxt with
    | some n => if n.keyId = id then some n else none
    | none => none
  | none => match k.nxt with
    | some n => if n.keyId = id then some n else none
    | none => none

/-- USAGE bits (R323). -/
abbrev useVerify : Nat := 0
abbrev useGenerate : Nat := 1
abbrev useMacsec : Nat := 2
abbrev useFw : Nat := 3

/-! Rings and cores -/

/-- Cores out of service (R430): AES cores 0–23 and SHA-256 cores 32–47 by their item numbers. -/
def State.coreOut (s : State) (c : Nat) : Bool :=
  if c < 24 then s.flag pBlv Reg.Blv.DEG_AES c else s.flag pBlv Reg.Blv.DEG_SHA (c - 32)

/-- Descriptors a core holds. -/
def State.coreLoad (s : State) (c : Nat) : Nat := (s.org.jobs.filter (fun j => j.core = c)).length

/-- The lowest-numbered core in service that has room: an AES core takes one descriptor, a SHA-256 core eight
(R331).
(DEDUCED, log entry 107.) -/
def State.freeCore (s : State) (sha : Bool) : Option Nat :=
  if sha then ((List.range 16).map (· + 32)).find? (fun c => !s.coreOut c && decide (s.coreLoad c < 8))
  else (List.range 24).find? (fun c => !s.coreOut c && decide (s.coreLoad c = 0))

/-- CORE_STA and SHA_STA show the cores that hold a descriptor (R337). -/
def State.showCores (s : State) : State :=
  let s := s.setReg pOrg Reg.Org.CORE_STA (BitVec.ofNat 32
    ((List.range 24).foldl (fun w c => w + (if s.coreLoad c = 0 then 0 else 2 ^ c)) 0))
  s.setReg pOrg Reg.Org.SHA_STA (BitVec.ofNat 32
    ((List.range 16).foldl (fun w c => w + (if s.coreLoad (c + 32) = 0 then 0 else 2 ^ c)) 0))

/-- Octet offset in control SRAM of entry i of ring r. -/
def State.ringEntry (s : State) (r i : Nat) : Nat :=
  (s.reg pOrg (Reg.Org.RING_BASE r)).toNat - 0x20000000 + 32 * (i % 2 ^ s.fld pOrg (Reg.Org.RING_CTL r) 3 0)

/-- Word 7 of a descriptor: DONE, PASS and STATUS (R332); a ring with IRQ set interrupts (R338). -/
def State.postDesc (s : State) (d : Desc) (status : Nat) (pass : Bool) : State :=
  let s := s.writeWord rgCsram (s.ringEntry d.ring d.index + 28) (BitVec.ofNat 32 (1 + 2 * b2n pass + 256 * status))
  if s.flag pOrg (Reg.Org.RING_CTL d.ring) 30 then s.irq 4 else s

/-- STATUS codes of word 7 (R332). -/
abbrev dsOk : Nat := 0
abbrev dsTagFail : Nat := 1
abbrev dsNoKey : Nat := 2
abbrev dsUsage : Nat := 3
abbrev dsBadOp : Nat := 4
abbrev dsAddr : Nat := 5
abbrev dsLen : Nat := 6
abbrev dsClass : Nat := 7
abbrev dsAborted : Nat := 8
abbrev dsZeroised : Nat := 9

/-- A descriptor's OP, and the kinds of operation. -/
def opOf (w : List Word) : Nat := bits (nth w 0 0) 4 0
def opHash (op : Nat) : Bool := op == 6 || op == 7 || op == 8
def opVerify (op : Nat) : Bool := op == 2 || op == 4 || op == 7
def opTagged (op : Nat) : Bool := op != 5 && op != 8

/-- Octets of source, of the tag, and of the output of a descriptor: GMAC_GEN and HMAC_GEN put out their tag
alone, ENC and CTR also the text, SHA256 the digest (R332, R333). -/
def srcLen (w : List Word) : Nat := bits (nth w 3 0) 15 0
def aadLen (w : List Word) : Nat := bits (nth w 3 0) 31 16
def tagLen (w : List Word) : Nat := bits (nth w 6 0) 5 0
def dstLen (w : List Word) : Nat :=
  match opOf w with
  | 1 => srcLen w - aadLen w + tagLen w
  | 2 => srcLen w - aadLen w
  | 3 => tagLen w
  | 5 => srcLen w
  | 6 => tagLen w
  | 8 => 32
  | _ => 0

/-- The lengths of a descriptor are within R318 and R332. -/
def lenOk (w : List Word) : Bool :=
  let op := opOf w
  decide (srcLen w ≤ 9216) && (op == 5 || op == 8 || opHash op || decide (aadLen w ≤ srcLen w)) &&
  (!opTagged op || (decide (8 ≤ tagLen w) && decide (tagLen w ≤ if opHash op then 32 else 16)))

/-- The addresses of a descriptor lie in control SRAM. -/
def addrOk (w : List Word) : Bool :=
  let op := opOf w
  inCsram (nth w 2 0).toNat (srcLen w + if opVerify op then tagLen w else 0) &&
  (decide (dstLen w = 0) || inCsram (nth w 4 0).toNat (dstLen w)) &&
  (opHash op || inCsram (nth w 5 0).toNat (if op = 5 then 16 else 12))

/-- The key a descriptor names, or the status that refuses it: CUR or the position with KEYID w1; FW and VERIFY or
GENERATE (R329). -/
def State.descKey (s : State) (w : List Word) : Nat × List Byte :=
  let op := opOf w
  if op = 8 then (dsOk, [])
  else
    let k := s.slot (bits (nth w 0 0) 28 16)
    let pos := if bitAt (nth w 0 0) 12 then keyById k (nth w 1 0).toNat else k.cur
    match pos with
    | none => (dsNoKey, [])
    | some p =>
      let use := if opVerify op then useVerify else useGenerate
      let use := op == 5 && (p.usage.testBit useVerify || p.usage.testBit useGenerate) || p.usage.testBit use
      if (isAes p.typ == !opHash op) && p.usage.testBit useFw && use then (dsOk, p.key) else (dsUsage, [])

/-- The status that refuses a descriptor before a core, or OK with its key (R332).
(DEDUCED, log entry 107.) -/
def State.descCheck (s : State) (w : List Word) : Nat × List Byte :=
  let op := opOf w
  if op < 1 ∨ 8 < op then (dsBadOp, [])
  else if !s.flag pOrg Reg.Org.ORG_CFG (16 + bits (nth w 0 0) 11 8) then (dsClass, [])
  else if !lenOk w then (dsLen, [])
  else if !addrOk w then (dsAddr, [])
  else s.descKey w

/-- Units a descriptor is charged: 16-octet units through an AES core; a SHA-256 block counts as 4 (R229). -/
def descUnits (w : List Word) : Nat :=
  let op := opOf w
  if op = 8 then 4 * ((srcLen w + 9 + 63) / 64)
  else if opHash op then 4 * ((srcLen w + 9 + 63) / 64 + 3)
  else (srcLen w + 15) / 16

/-- The words of a queued descriptor as they lie in its ring, and whether they are poisoned. -/
def State.descWords (s : State) (d : Desc) : List Word × Bool × State :=
  let (bs, p, s) := s.readMem rgCsram (s.ringEntry d.ring d.index) 32
  ((chunks 4 bs).map leWord, p, s)

/-- The words of a queued descriptor, for choosing. -/
def State.peekDesc (s : State) (d : Desc) : List Word :=
  (chunks 4 (s.peekMem rgCsram (s.ringEntry d.ring d.index) 32)).map leWord

/-- The queued descriptors that stand first in their rings: entries are taken in ring order (R338). -/
def ringHeads (q : List Desc) : List Desc :=
  q.filter (fun d => (q.find? (fun e => e.ring = d.ring)) = some d)

/-- The rank of a candidate: in-budget work before work over budget, then the class number (R331); while the
Pergola is disabled, the class number alone (R230). -/
def State.descRank (s : State) (d : Desc) : Nat :=
  let w := s.peekDesc d
  let c := bits (nth w 0 0) 11 8
  c + if !s.pglOn || s.fits (0x20 + c) (descUnits w) then 0 else 16

/-- The first candidate of the lowest rank. -/
def State.bestDesc (s : State) : List Desc → Option Desc
  | [] => none
  | d :: ds => match s.bestDesc ds with
    | none => some d
    | some e => if s.descRank e < s.descRank d then some e else some d

/-- A descriptor can be dealt with now: it is refused before a core, or a core of its kind is free (R331, R332).
(DEDUCED, log entry 199.) -/
def State.takeable (s : State) (d : Desc) : Bool :=
  let w := s.peekDesc d
  decide ((s.descCheck w).1 ≠ dsOk) || (s.freeCore (opHash (opOf w))).isSome

/-- A free core takes the next descriptor; a descriptor that fails its tests takes no core, is not charged and
sets FLT_STA bit [5] (R331, R332).
(DEDUCED, log entries 107, 199.) -/
def State.takeDescriptor (s : State) : State :=
  match s.bestDesc ((ringHeads s.org.queue).filter s.takeable) with
  | none => s
  | some d =>
    let (w, p, s1) := s.descWords d
    let s1 := s1.setFld pOrg (Reg.Org.RING_TAIL d.ring) 11 0 (d.index + 1)
    let s1 := { s1 with org.queue := s1.org.queue.erase d }
    if p then (s1.poisonRead rgCsram (s1.ringEntry d.ring d.index) 32 false).postDesc d dsAborted false
    else match s1.descCheck w with
      | (st, key) =>
        if st ≠ dsOk then (s1.fault pOrg 5).postDesc d st false
        else match s1.freeCore (opHash (opOf w)) with
          | none => s
          | some c =>
            let (_, s1) := s1.chargeWork (0x20 + bits (nth w 0 0) 11 8) (descUnits w)
            ({ s1 with org.jobs := s1.org.jobs ++ [CoreJob.mk c d w key] }).showCores

/-- The result of an operation on its source, IV and expected tag: output octets, the tag it computes (R318,
R332). -/
def cipherResult (op : Nat) (key iv src : List Byte) (aad taglen : Nat) : List Byte × List Byte :=
  let a := src.take aad
  let t := src.drop aad
  match op with
  | 1 => let c := aesCtr key iv 2 t; (c, (gcmTag key iv a c).take taglen)
  | 2 => (aesCtr key iv 2 t, (gcmTag key iv a t).take taglen)
  | 3 => ([], (gcmTag key iv src []).take taglen)
  | 4 => ([], (gcmTag key iv src []).take taglen)
  | 5 => (aesCtr key (iv.take 12) (beNat (iv.drop 12)) src, [])
  | 6 => ([], (hmac key src).take taglen)
  | 7 => ([], (hmac key src).take taglen)
  | _ => (sha256 src, [])

/-- A core finishes a descriptor: DST and the tag are written as R333 permits, word 7 is set (R333, R336). -/
def State.completeDescriptor (s : State) (j : CoreJob) : State :=
  let w := j.words
  let op := opOf w
  let s := ({ s with org.jobs := s.org.jobs.erase j }).showCores
  let n := srcLen w + if opVerify op then tagLen w else 0
  let (src, p, s) := s.readMem rgCsram ((nth w 2 0).toNat - 0x20000000) n
  let (iv, q, s) := if opHash op then ([], false, s)
    else s.readMem rgCsram ((nth w 5 0).toNat - 0x20000000) (if op = 5 then 16 else 12)
  let s := if p then s.poisonRead rgCsram ((nth w 2 0).toNat - 0x20000000) n false else s
  let s := if q then s.poisonRead rgCsram ((nth w 5 0).toNat - 0x20000000) 16 false else s
  if p || q then s.postDesc j.desc dsAborted false
  else
    let (out, tag) := cipherResult op j.key iv (src.take (srcLen w)) (aadLen w) (tagLen w)
    if opVerify op then
      if src.drop (srcLen w) = tag then
        let s := if op = 2 then s.byFlit pOrg (fun s => s.csramWrite (nth w 4 0).toNat out) else s
        s.postDesc j.desc dsOk true
      else (s.fault pOrg 1).postDesc j.desc dsTagFail false
    else (s.byFlit pOrg (fun s => s.csramWrite (nth w 4 0).toNat (out ++ tag))).postDesc j.desc dsOk false

/-- Every queued and running descriptor that a test names ends with a status (R333). -/
def State.endDescs (s : State) (sel : Desc → Bool) (status : Nat) : State :=
  let ds := (s.org.jobs.map (·.desc) ++ s.org.queue).filter sel
  let s := { s with org.jobs := s.org.jobs.filter (fun j => !sel j.desc)
                    org.queue := s.org.queue.filter (fun d => !sel d) }
  (ds.foldl (fun s d => s.postDesc d status false) s).showCores

/-- Entries first, first + 1, … of a ring join the queue. -/
def State.queueRing (s : State) (r first n : Nat) : State :=
  { s with org.queue := s.org.queue ++ (List.range n).map (fun i => Desc.mk r ((first + i) % 4096)) }

/-- RING_HEAD of ring r written: a value past TAIL by more than the ring size is discarded; one before the entries queued takes those
beyond it back (R338).
(DEDUCED, log entry 200.) -/
def State.ringHead (s : State) (r v : Nat) : State :=
  let head := s.fld pOrg (Reg.Org.RING_HEAD r) 11 0
  let tail := s.fld pOrg (Reg.Org.RING_TAIL r) 11 0
  let size := 2 ^ s.fld pOrg (Reg.Org.RING_CTL r) 3 0
  let v := v % 4096
  if (v + 4096 - tail) % 4096 > size then s
  else
    let s := s.setReg pOrg (Reg.Org.RING_HEAD r) (BitVec.ofNat 32 v)
    let old := (head + 4096 - tail) % 4096
    let new := (v + 4096 - tail) % 4096
    if !s.flag pOrg (Reg.Org.RING_CTL r) 31 then s
    else if old ≤ new then s.queueRing r head (new - old)
    else { s with org.queue := s.org.queue.filter (fun d => d.ring ≠ r || decide ((d.index + 4096 - tail) % 4096 < new)) }

/-- RING_CTL of ring r written: LOG2 holds while EN is 1 and outside 4–12; clearing EN ends the ring's
descriptors ABORTED (R338).
(DEDUCED, log entry 108.) -/
def State.ringCtl (s : State) (r : Nat) (v : Word) : State :=
  let was := s.flag pOrg (Reg.Org.RING_CTL r) 31
  let l := bits v 3 0
  let s := if !was && decide (4 ≤ l) && decide (l ≤ 12) then s.setFld pOrg (Reg.Org.RING_CTL r) 3 0 l else s
  let s := (s.setFlag pOrg (Reg.Org.RING_CTL r) 30 (bitAt v 30)).setFlag pOrg (Reg.Org.RING_CTL r) 31 (bitAt v 31)
  if was && !bitAt v 31 then s.endDescs (fun d => d.ring = r) dsAborted
  else if !was && bitAt v 31 then
    let head := s.fld pOrg (Reg.Org.RING_HEAD r) 11 0
    let tail := s.fld pOrg (Reg.Org.RING_TAIL r) 11 0
    s.queueRing r tail ((head + 4096 - tail) % 4096)
  else s

/-- RING_BASE of ring r written, while EN is 0 (R338). -/
def State.ringBase (s : State) (r : Nat) (v : Word) : State :=
  if s.flag pOrg (Reg.Org.RING_CTL r) 31 then s else s.setReg pOrg (Reg.Org.RING_BASE r) v

/-- The Orangery's and the well's part of a zeroise (R334): every key, KEK and staging buffer is cleared, BBR and
IMP_NONCE too; stopped work ends ZEROISED. -/
def State.orgZeroise (s : State) : State :=
  let s := s.endDescs (fun _ => true) dsZeroised
  let s := match s.org.keyCmd with
    | some k => s.keyEnd k.op keyZeroised
    | none => s
  let s := { s with org.slots := [], org.kekS := none, org.dKA := none, well.bbr := none, well.impNonce := none
                    well.zeroised := true, well.zcnt := satAdd 65535 s.well.zcnt 1 }
  let s := (s.setFlag pOrg Reg.Org.KEK_STA 0 false).setFlag pOrg Reg.Org.KEK_STA 2 false
  let s := (s.setOctetRegs pOrg (Reg.Org.KA_PUB 0) (zeros 64)).setFlag pLdg Reg.Ldg.BOOT_STA 12 false
  s.showWell.fault pOrg 4

end Sys2Proof.Machine
end

