-- ==== Sys2Proof/Machine/PubTable.lean ====
section
/-!
DEFINITION. The publication table (R228) and the frames of an SV publication in station time (R218).
-/
namespace Sys2Proof.Machine

/-- What an unwritten publication word reads as: PCP 0b100, HOPS 0x10, DSCP 0x2E (R228). -/
def pubDflt (k : Nat) : Word := if k % 32 = 4 then 0x40000000 else if k % 32 = 21 then 0x2E10 else 0

/-- The key of word w of a publication entry. -/
def pubKey (sv : Bool) (i w : Nat) : Nat := (if sv then 2 ^ 20 else 0) + i * 32 + w

/-- Word w of publication entry i (R228). -/
def State.pubCfg (s : State) (sv : Bool) (i w : Nat) : Word := smGet pubDflt s.ptr.cfg3 (pubKey sv i w)

/-- A publication entry is enabled. -/
def State.pubOn (s : State) (sv : Bool) (i : Nat) : Bool := bitAt (s.pubCfg sv i 0) 0

/-- The enabled publication entries of a kind, ascending. -/
def State.pubEntries (s : State) (sv : Bool) : List Nat :=
  (s.ptr.cfg3.filter (fun e => decide (e.1 % 32 = 0) && bitAt e.2 0 && (decide (2 ^ 20 ≤ e.1) == sv))).map
    (fun e => e.1 % 2 ^ 20 / 32)

/-- W of R203 by WRAP. -/
def wrapOf (w : Nat) : Nat := if w = 1 then 2 else if w = 2 then 4 else 1

/-- The first ns at or after t(n) = n / RATE (R203). -/
def nominalNs (n rate : Nat) : Nat := (n * 1000000000 + rate - 1) / rate

/-- RATE, NASDU and PDLY_US of an SV publication. -/
def State.pubRate (s : State) (i : Nat) : Nat := bits (s.pubCfg true i 3) 16 0
def State.pubNasdu (s : State) (i : Nat) : Nat := max 1 (bits (s.pubCfg true i 0) 11 7)
def State.pubDelay (s : State) (i : Nat) : Nat := bits (s.pubCfg true i 7) 13 0 * 1000

/-- The deadline of frame k of an SV publication: t(n_last) + PDLY_US (R218). -/
def State.svDeadline (s : State) (i k : Nat) : Nat :=
  nominalNs ((k + 1) * s.pubNasdu i - 1) (max 1 (s.pubRate i)) + s.pubDelay i

/-- The first frame whose indices all lie after the present instant.
(DEDUCED, log entry 74.) -/
def State.svFirstAfter (s : State) (i : Nat) : Nat :=
  let n0 := s.sdl.time * s.pubRate i / 1000000000 + 1
  (n0 + s.pubNasdu i - 1) / s.pubNasdu i

/-- After a station-time step, SV publications go on with the first frame whose deadline lies after the step (R218,
R96).
(DEDUCED, log entry 74.) -/
def State.svPubRestart (s : State) : State :=
  { s with ptr.svPub := s.ptr.svPub.map (fun e =>
      let t := s.sdl.time - s.pubDelay e.1
      let n := t * s.pubRate e.1 / 1000000000
      (e.1, { e.2 with next := (n + 1) / s.pubNasdu e.1, done := [] })) }

end Sys2Proof.Machine
end

