-- ==== Sys2Proof/Machine/Sundial.lean ====
section
/-!
DEFINITION. The Sundial: station time and its sources, the grid angle and its channels, slot starts, and the
compare units with the AOUT balls (R88 to R140, R77, R83, R542).
-/
namespace Sys2Proof.Machine

/-! Channels' records that other blocks report to -/

/-- A channel with nothing reported. -/
def Chan.zero : Chan := ⟨0, [], false, 0, 0, 0, 0, 0, 0, 0⟩

/-- The status of a channel. -/
def State.chan (s : State) (e : Nat) : Chan := ((s.pav.chan.find? (fun c => c.1 = e)).map (·.2)).getD Chan.zero

/-- The status of a channel replaced. -/
def State.setChan (s : State) (e : Nat) (c : Chan) : State :=
  { s with pav.chan := (e, c) :: s.pav.chan.filter (fun x => x.1 ≠ e) }

/-- Outcome bit i of a channel's AOUT requests is noted for its next run (R307). -/
def State.noteOutcome (s : State) (e i : Nat) : State :=
  let c := s.chan e
  s.setChan e { c with outcome := if c.outcome.testBit i then c.outcome else c.outcome + 2 ^ i }

/-! Codes -/

def TimeState.code : TimeState → Nat
  | .free => 0 | .locking => 1 | .locked => 2 | .holdover => 3 | .holdExpired => 4
def TimeSrc.code : TimeSrc → Nat
  | .none => 0 | .ptp => 1 | .pps => 2 | .pps2 => 3
def AngleSrc.code : AngleSrc → Nat
  | .free => 0 | .primary => 1 | .secondary => 2
def SlotMode.code : SlotMode → Nat
  | .angle => 0 | .clampHi => 1 | .clampLo => 2 | .realign => 3

/-- STA.BLK shows the Sundial (R118). -/
def State.sdlStatus (s : State) : State :=
  let d := s.sdl
  let v := d.state.code + d.src.code * 8 + d.angSrc.code * 32 + d.mode.code * 128 +
    b2n (d.pri.st == .locked) * 512 + b2n (d.sec.st == .locked) * 1024 + b2n d.learned * 2048
  s.setFld pSdl Reg.Hdr.STA 31 8 v

/-- An event of R119: its FLT_STA bit and report, and an EVT entry (R138). -/
def State.sdlEvent (s : State) (n : Nat) : State :=
  let full := decide (16 ≤ s.sdl.evt.length)
  let e : SdlEvt := ⟨n, full, s.sdl.slotCnt % 2 ^ 24⟩
  ({ s with sdl.evt := (if full then s.sdl.evt.drop 1 else s.sdl.evt) ++ [e] }).fault pSdl n

/-! Figures -/

/-- N of R107 by the profile in effect. -/
def State.slotsPerCycle (s : State) : Nat := if s.focusLatency then 128 else 64

/-- FNOM in Hz (R124). -/
def State.fnomHz (s : State) : Nat := if s.flag pSdl Reg.Sdl.FNOM_CFG 0 then 60 else 50

/-- A ceiling lies in the range of R111 for the FNOM in force. -/
def State.fmaxOk (s : State) (f : Nat) : Bool := decide (s.fnomHz < f) && decide (f ≤ 70)

/-- The ceiling slot generation uses: SDL_FMAX, or 1.1 times nominal while it is out of range (R111). -/
def State.fmaxHz (s : State) : Nat :=
  let f := s.fld pSdl Reg.Sdl.SDL_FMAX 6 0
  if s.fmaxOk f then f else s.fnomHz * 11 / 10

/-- L_min and L_40 in ns (R107). -/
def State.lMin (s : State) : Nat := 1000000000 / (s.fmaxHz * s.slotsPerCycle)
def State.l40 (s : State) : Nat := 1000000000 / (40 * s.slotsPerCycle)

/-! Time passing -/

/-- The units of angle that a rate in Q16.16 Hz advances in t ns, times 10⁹.
(DEDUCED, log entry 48.) -/
def angleAdv (freq t : Nat) : Nat := freq * t * 65536

/-- The angle advances for t ns of station time while the Sundial is enabled (R101, R105). -/
def State.angleAdvance (s : State) (t : Nat) : State :=
  if s.enabled pSdl then
    let n := s.sdl.angRem + angleAdv s.sdl.freq t
    { s with sdl.ang := (s.sdl.ang + n / 1000000000) % 2 ^ 64, sdl.angRem := n % 1000000000 }
  else s

/-- What the Sundial has measured in LOCKED over the slot that ends: the rates of station time on REF10M and on SYSCLK against SYSCLK as
it runs, in parts of 10⁹ (R90).
(DESIGN CHOICE, log entry 172.) -/
def State.measured (s : State) (ref10m sysclk : Int) : State :=
  if s.sdl.state = .locked then { s with sdl.rate10m := ref10m, sdl.rateSys := sysclk } else s

/-- The rate against SYSCLK, in parts of 10⁹, at which station time runs: in HOLDOVER and after it that of REF10M as it was
measured, or the last frequency correction (R90), within 100 ppm.
(DESIGN CHOICE, log entry 172.) -/
def State.holdRate (s : State) : Int :=
  if s.sdl.state = .holdover ∨ s.sdl.state = .holdExpired then
    max (-100000) (min 100000 (if s.flag pSdl Reg.Sdl.HOLD_CFG 0 && !s.pwr.ref10mLost then s.sdl.rate10m else s.sdl.rateSys))
  else 0

/-- Of a slew, the part that d units of time admit at one unit in n (R96). -/
def slewPart (slew : Int) (d n : Nat) : Int := max (-((d / n : Nat) : Int)) (min ((d / n : Nat) : Int) slew)

/-- dt ns pass locally: station time follows, slewing by at most 100 ppm (R96), and the angle with it.
(DESIGN CHOICE, log entry 5.) -/
def State.tick (s : State) (dt : Nat) : State :=
  let adj := slewPart s.sdl.slew dt 10000
  let st : Nat := ((dt : Int) + adj + dt * s.holdRate / 1000000000).toNat
  ({ s with now := s.now + dt, sdl.time := s.sdl.time + st, sdl.slew := s.sdl.slew - adj }).angleAdvance st

/-- Station time reaches t, where it has not passed it: the local time that takes, slewing on the way (R90, R96).
(DESIGN CHOICE, log entry 5.) -/
def State.advanceTo (s : State) (t : Nat) : State :=
  if t ≤ s.sdl.time then s
  else
    let d := t - s.sdl.time
    let adj := slewPart s.sdl.slew d (if 0 ≤ s.sdl.slew then 10001 else 9999)
    let dt := (((d : Int) - adj) * 1000000000 / (1000000000 + s.holdRate)).toNat
    ({ s with now := s.now + dt, sdl.time := t, sdl.slew := s.sdl.slew - adj }).angleAdvance d

/-! Station-time sources -/

/-- Whether a source may be used (R89, R121): PPS2 with IRIG2 needs AOUT28 and AOUT29 claimed as alternates
(R100). -/
def State.srcEnabled (s : State) : TimeSrc → Bool
  | .none => false
  | .ptp => s.flag pSdl Reg.Sdl.SRC_CFG 2
  | .pps => s.flag pSdl Reg.Sdl.SRC_CFG 3
  | .pps2 => s.flag pSdl Reg.Sdl.SRC_CFG 4 && s.flag pSdl Reg.Hdr.CLAIM 20 && s.flag pSdl Reg.Hdr.CLAIM 21

/-- The qualification of a source. -/
def State.qual (s : State) : TimeSrc → SrcQual
  | .none => SrcQual.reset
  | .ptp => s.sdl.ptp
  | .pps => s.sdl.pps
  | .pps2 => s.sdl.pps2

/-- The qualification of a source replaced. -/
def State.setQual (s : State) (x : TimeSrc) (q : SrcQual) : State :=
  match x with
  | .none => s
  | .ptp => { s with sdl.ptp := q }
  | .pps => { s with sdl.pps := q }
  | .pps2 => { s with sdl.pps2 := q }

/-- The source order of SRC_CFG.ORDER (R89). -/
def State.srcOrder (s : State) : List TimeSrc :=
  match s.fld pSdl Reg.Sdl.SRC_CFG 1 0 with
  | 1 => [.pps, .pps2, .ptp]
  | 2 => [.pps, .ptp, .pps2]
  | _ => [.ptp, .pps, .pps2]

/-- The first qualified source in order. -/
def State.bestSrc (s : State) : Option TimeSrc :=
  s.srcOrder.find? (fun x => s.srcEnabled x && (s.qual x).ok)

/-- Station time moves to its first qualified source, or to HOLDOVER where its source is gone (R89, R90). -/
def State.selectSrc (s : State) : State :=
  match s.bestSrc with
  | some x =>
    if s.sdl.src = x then s
    else ({ s with sdl.src := x, sdl.state := .locking, sdl.lockRun := 0 }).sdlStatus
  | none =>
    if s.sdl.src = .none then s
    else (({ s with sdl.lastSrc := s.sdl.src, sdl.src := .none, sdl.state := .holdover, sdl.holdAt := s.now
                    sdl.lockRun := 0 }).sdlEvent 6).sdlStatus

/-- A source is lost (R90). -/
def State.loseSrc (s : State) (x : TimeSrc) : State :=
  (s.setQual x { s.qual x with run := 0, ok := false, bad := 0 }).selectSrc

/-- An instant moved by d ns. -/
def moved (d : Int) (t : Nat) : Nat := ((t : Int) + d).toNat

/-- Intervals in progress keep their length over a step of station time by d ns: the slot, the budget window, the live deadlines,
the retransmissions and the time to a retired key's end (R107, R213, R217, R230, R327).
(DEDUCED, log entry 50.) -/
def State.moveInstants (s : State) (d : Int) : State :=
  { s with
    sdl.slotAt := s.sdl.slotAt.map (moved d), pgl.winAt := moved d s.pgl.winAt
    ptr.goose := s.ptr.goose.map (fun e => (e.1, { e.2 with deadline := moved d e.2.deadline }))
    ptr.goosePub := s.ptr.goosePub.map (fun e => (e.1, { e.2 with due := e.2.due.map (moved d) }))
    org.slots := s.org.slots.map (fun e => (e.1, { e.2 with retireAt := e.2.retireAt.map (moved d) })) }

/-- Station time is stepped by d ns: FLT_STA.TIME_STEP, and TSTEP for what is left of the slot and the N slots that follow
(R96, R97, R207).
(DEDUCED, log entry 50.) -/
def State.timeStep (s : State) (d : Int) : State :=
  let s := s.moveInstants d
  let s := ({ s with sdl.time := ((s.sdl.time : Int) + d).toNat, sdl.slew := 0, sdl.step := none, sdl.dated := true
                     sdl.tstep := s.slotsPerCycle + 1 }).sdlEvent 12
  if s.ptr.svPub.isEmpty then s else s.svPubRestart

/-- A twin in step without the TIME role: its station time follows the leader's (R378). -/
def State.timeFollower (s : State) : Bool := s.cln.st == .inStep && !s.flag pCln Reg.Cln.ROLE_STA 0

/-- An offset (station time minus source) of the source in use: above 1 ms from a newly qualified source it is a
step at the next slot boundary, at once where no slot runs; otherwise it is slewed; LOCKED after 16 corrections
within ±100 ns (R90, R96). A time follower's own sources only qualify (R378). -/
def State.correct (s : State) (off : Int) : State :=
  let run := if off.natAbs ≤ 100 then s.sdl.lockRun + 1 else 0
  let lock (s : State) : State :=
    let s := if s.sdl.state = .locking ∧ 16 ≤ run then ({ s with sdl.state := .locked }).sdlStatus else s
    if s.sdl.state = .locked then { s with sdl.ref10mUsed := s.sdl.ref10mUsed || !s.pwr.ref10mLost } else s
  if s.timeFollower then lock { s with sdl.lockRun := run }
  else if s.sdl.state = .locking ∧ off.natAbs > 1000000 then
    if s.enabled pSdl then { s with sdl.step := some (-off) } else s.timeStep (-off)
  else lock { s with sdl.slew := -off, sdl.lockRun := run, sdl.dated := true }

/-- The synchronisation state of R98: 2 global, 1 local, 0 none. -/
def State.syncState (s : State) : Nat :=
  match s.sdl.state with
  | .free => 0
  | .locking => 2
  | .locked => 2
  | .holdExpired => 1
  | .holdover =>
    match s.sdl.lastSrc with
    | .ptp => if s.sdl.gmClass = 6 ∨ s.sdl.gmClass = 7 then 2 else 1
    | .none => 1
    | _ => 2

/-- The clockClass the device announces as grandmaster (R91): 6 when LOCKED to PPS/IRIG, 7 in HOLDOVER, 52 in
HOLD_EXPIRED, otherwise 248. -/
def State.clockClass (s : State) : Nat :=
  match s.sdl.state with
  | .locked => if s.sdl.src = .pps ∨ s.sdl.src = .pps2 then 6 else 248
  | .holdover => 7
  | .holdExpired => 52
  | _ => 248

/-! AOUT balls -/

/-- The page that holds compare group g: 0 none, 1 SDL, 2 PRM, 3 FLY (R113, R139). -/
def State.groupOwner (s : State) (g : Nat) : Nat :=
  if s.flag pSdl Reg.Hdr.CLAIM g then 1
  else if s.flag pPrm Reg.Hdr.CLAIM g || (List.range 16).any (fun c => s.flag (pPrc c) Reg.Hdr.CLAIM g) then 2
  else if (List.range 16).any (fun c => s.flag (pFly c) Reg.Hdr.CLAIM g) then 3
  else 0

/-- The AOUT_SAFE field of a ball (R83). -/
def State.safeCode (s : State) (b : Nat) : Nat :=
  s.fld pLdg (Reg.Ldg.AOUT_SAFE (b / 16)) (2 * (b % 16) + 1) (2 * (b % 16))

/-- The level on a ball. -/
def State.ball (s : State) (b : Nat) : Level := nth s.ldg.aout b .z

/-- The level on a ball changed. -/
def State.setBall (s : State) (b : Nat) (l : Level) : State := { s with ldg.aout := setNth s.ldg.aout b l }

/-- A ball of AOUT28–31 claimed for its alternate (R100). -/
def State.ballAlt (s : State) (b : Nat) : Bool := decide (28 ≤ b) && s.flag pSdl Reg.Hdr.CLAIM (20 + (b - 28))

/-- The ball drives its compare-unit level: AOUT_OE is 1, the Sundial is enabled, the ball is claimed for output
where R100 asks it, and no Lodge hold is in force (R117, R74, R431). -/
def State.ballDriven (s : State) (b : Nat) : Bool :=
  s.flag pSdl Reg.Sdl.AOUT_OE b && s.enabled pSdl &&
  (decide (b < 28) || s.flag pSdl Reg.Hdr.CLAIM (16 + (b - 28))) && !s.blv.halted &&
  !(s.ldg.errBoot && !s.boot.entered)

/-- The safe level of a ball, given the level in force (R83). -/
def safeLevel (code : Nat) (now : Level) : Level :=
  match code with
  | 0 => .z
  | 1 => .low
  | 2 => .high
  | _ => match now with
    | .alt => .z
    | l => l

/-- The level a ball has where nothing new drives it: a driven ball keeps its level, one claimed for its alternate
is given over, another is at its safe level; with VDDIO33 low all are high-impedance (R45, R77, R100, R117).
(DESIGN CHOICE, log entry 163.) -/
def State.ballNow (s : State) (b : Nat) : Level :=
  if s.pwr.low.contains .vddio33 then .z
  else if s.ballAlt b then .alt
  else if s.ballDriven b then (match s.ball b with | .alt => .z | l => l)
  else safeLevel (s.safeCode b) (s.ball b)

/-- The level seen at a ball: AOUT30 as alternate copies PPS_OUT, and AOUT31 shows a 10 MHz square wave of station time; AOUT28
and AOUT29 as alternates are inputs (R99). -/
def State.ballSeen (s : State) (b : Nat) : Level :=
  match s.ball b with
  | .alt =>
    if b = 30 then (if s.sdl.ppsOut then .high else .low)
    else if b = 31 then (if s.sdl.time % 100 < 50 then .high else .low)
    else .z
  | l => l

/-- All balls take the level that holds for them. -/
def State.refreshBalls (s : State) : State :=
  { s with ldg.aout := (List.range 32).map s.ballNow }

/-! Compare units -/

/-- The armed action of a unit. -/
def State.armed (s : State) (n : Nat) : Option Armed := (s.sdl.cmp.find? (fun c => c.1 = n)).map (·.2)

/-- The armed action of a unit replaced; CMPn_CFG.ARMED follows (R139). -/
def State.setArmed (s : State) (n : Nat) (a : Option Armed) : State :=
  let rest := s.sdl.cmp.filter (fun c => c.1 ≠ n)
  let s := s.setFlag pSdl (Reg.Sdl.CMP_CFG n) 8 a.isSome
  match a with
  | none => { s with sdl.cmp := rest }
  | some a => { s with sdl.cmp := (n, a) :: rest }

/-- A unit's action is cancelled: the unit is free, reports cancelled, and its requester hears of it (R105, R116,
R305). -/
def State.cancelUnit (s : State) (n : Nat) : State :=
  match s.armed n with
  | none => s
  | some a =>
    let s := (s.setArmed n none).setFlag pSdl (Reg.Sdl.CMP_CFG n) 9 true
    match a.entry with
    | none => s
    | some (e, j) => s.noteOutcome e (16 + j)

/-- Every unit of a list is cancelled where a test on its action holds. -/
def State.cancelUnits (s : State) (sel : Armed → Bool) : State :=
  (s.sdl.cmp.map (·.1)).foldl (fun s n =>
    match s.armed n with
    | some a => if sel a then s.cancelUnit n else s
    | none => s) s

/-- The station-time instant at which the angle reaches a 64-bit target (R115). -/
def State.angleDue (s : State) (tgt : Nat) : Nat :=
  let d := (tgt + 2 ^ 64 - s.sdl.ang) % 2 ^ 64
  let rate := s.sdl.freq * 65536
  if rate = 0 then s.sdl.time
  else s.sdl.time + (d * 1000000000 - s.sdl.angRem + rate - 1) / rate

/-- The target tests of R115: the instant of an action, or none where it is AOUT_LATE. -/
def State.targetDue (s : State) (time now : Bool) (hi lo : Nat) : Option (Option Nat × Nat) :=
  if now then some (none, s.sdl.time)
  else if time then
    let t := hi * 1000000000 + lo
    let d := (t + 2 ^ 32 * 1000000000 - s.sdl.time % (2 ^ 32 * 1000000000)) % (2 ^ 32 * 1000000000)
    if 20000 ≤ d ∧ d ≤ 2000000000 then some (none, s.sdl.time + d) else none
  else
    let tgt := hi * 2 ^ 32 + lo
    let d := (tgt + 2 ^ 64 - s.sdl.ang) % 2 ^ 64
    if !s.enabled pSdl || decide (s.sdl.freq = 0) || decide (d > 64 * 2 ^ 32) then none
    else
      let due := s.angleDue tgt
      if s.sdl.time + 20000 ≤ due then some (some tgt, due) else none

/-- Unit n is armed with an action. -/
def State.armUnit (s : State) (n : Nat) (t : Option Nat × Nat) (level pulse : Nat) (entry : Option (Nat × Nat)) :
    State :=
  let b := s.fld pSdl (Reg.Sdl.CMP_CFG n) 4 0
  (s.setFlag pSdl (Reg.Sdl.CMP_CFG n) 9 false).setArmed n
    (some ⟨t.1, t.2, level, pulse, false, s.ball b, entry⟩)

/-- A unit SDL holds that serves an AOUT ball (R113, R114). -/
def State.unitServes (s : State) (n b : Nat) : Bool :=
  s.groupOwner (n / 4) == 1 && s.flag pSdl (Reg.Sdl.CMP_CFG n) 5 &&
  decide (s.fld pSdl (Reg.Sdl.CMP_CFG n) 4 0 = b)

/-- An AOUT request of a channel's run: refused AOUT_LATE, then AOUT_BUSY, or taken by the lowest-numbered free
unit serving the ball (R114, R115, R305). Answers whether it armed. -/
def State.requestAout (s : State) (b level pulse : Nat) (time now : Bool) (hi lo : Nat) (entry : Option (Nat × Nat)) :
    Bool × State :=
  match s.targetDue time now hi lo with
  | none => (false, s.sdlEvent 10)
  | some t =>
    match (List.range 64).find? (fun n => s.unitServes n b && (s.armed n).isNone) with
    | none => (false, s.sdlEvent 11)
    | some n => (true, s.armUnit n t level pulse entry)

/-- An accepted CMPn_ACT write (R114, R115, R139, R140). -/
def State.cmpAct (s : State) (n : Nat) (v : Word) : State :=
  if bitAt v 31 then
    match s.armed n with
    | some _ => s.cancelUnit n
    | none =>
      match s.targetDue (bitAt v 29) (bitAt v 30) (s.reg pSdl (Reg.Sdl.CMP_TGT_HI n)).toNat
          (s.reg pSdl (Reg.Sdl.CMP_TGT_LO n)).toNat with
      | none => s.sdlEvent 10
      | some t =>
        if !s.flag pSdl (Reg.Sdl.CMP_CFG n) 5 then s.sdlEvent 11
        else (s.setReg pSdl (Reg.Sdl.CMP_ACT n) (v &&& 0x6003FFFF)).armUnit n t (bits v 1 0) (bits v 17 2) none
  else if (s.armed n).isSome then s.sdlEvent 11
  else s.setReg pSdl (Reg.Sdl.CMP_ACT n) (v &&& 0x6003FFFF)

/-- CMPn_TGT_LO or CMPn_TGT_HI written (R140). -/
def State.cmpTgt (s : State) (n o : Nat) (v : Word) : State :=
  if (s.armed n).isSome then s.sdlEvent 11 else s.setReg pSdl o v

/-- CMPn_CFG written: BALL, AOUT_EN where SDL holds the group, CANCELLED cleared by 1 (R139). -/
def State.cmpCfg (s : State) (n : Nat) (v : Word) : State :=
  let o := Reg.Sdl.CMP_CFG n
  let s := (s.setFld pSdl o 4 0 (bits v 4 0)).setFlag pSdl o 5 (bitAt v 5)
  if bitAt v 9 then s.setFlag pSdl o 9 false else s

/-- The level an action's first edge drives (R116). -/
def edgeLevel (level : Nat) (now : Level) : Level :=
  match level with
  | 0 => .low
  | 1 => .high
  | 2 => match now with
    | .high => .low
    | _ => .high
  | _ => .z

/-- First edges on a ball at an instant.
(DEDUCED, log entry 52.) -/
def State.edgeAt (s : State) (b t : Nat) : Option EdgeTick := s.sdl.edges.find? (fun e => e.ball = b ∧ e.time = t)

/-- A compare unit can change the level of a ball. -/
def State.drivable (s : State) (b : Nat) : Bool := s.ballDriven b && !s.pwr.low.contains .vddio33

/-- A ball driven by a compare unit takes a level.
(DEDUCED, log entry 52.) -/
def State.driveBall (s : State) (b : Nat) (l : Level) : State := if s.drivable b then s.setBall b l else s

/-- The level after the first edges of the units below n, in ascending unit order (R116). -/
def EdgeTick.levelTo (e : EdgeTick) (n : Nat) : Level :=
  (List.range n).foldl (fun l m => match e.units.find? (fun u => u.1 = m) with
    | some u => edgeLevel u.2 l
    | none => l) e.base

/-- The placed units of a tick take the levels before their edges as the levels that their return edges restore. -/
def State.setPriors (s : State) (e : EdgeTick) : State :=
  { s with sdl.cmp := s.sdl.cmp.map (fun c =>
      if c.2.placed && e.units.any (fun u => u.1 == c.1) then (c.1, { c.2 with prior := e.levelTo c.1 }) else c) }

/-- The first edge of unit n at its instant: of several in one tick the levels are applied in ascending unit order, in
whichever order the edges are reported (R116).
(DEDUCED, log entry 52.) -/
def State.firstEdge (s : State) (n : Nat) : State :=
  match s.armed n with
  | none => s
  | some a =>
    if a.placed || (a.angle.isSome && !s.enabled pSdl) then s
    else
      let s := s.advanceTo a.due
      let b := s.fld pSdl (Reg.Sdl.CMP_CFG n) 4 0
      let e := (s.edgeAt b s.sdl.time).getD ⟨b, s.sdl.time, s.ball b, []⟩
      let e := { e with units := (n, a.level) :: e.units }
      let a := { a with placed := true, prior := s.ball b, due := s.sdl.time }
      let s := s.setArmed n (if a.pulse = 0 then none else some a)
      if s.drivable b then
        ({ s with sdl.edges := e :: s.sdl.edges.filter (fun x => x.ball ≠ b) }.setPriors e).setBall b (e.levelTo 64)
      else s

/-- The return edge of unit n: the prior level comes back, unless a first edge falls on the same tick (R116). -/
def State.returnEdge (s : State) (n : Nat) : State :=
  match s.armed n with
  | none => s
  | some a =>
    if !a.placed then s
    else
      let s := s.advanceTo (a.due + 1000 * a.pulse)
      let b := s.fld pSdl (Reg.Sdl.CMP_CFG n) 4 0
      let s := if (s.edgeAt b s.sdl.time).isSome then s else s.driveBall b a.prior
      s.setArmed n none

/-- An angle target is converted to station time again (R115). -/
def State.reconvert (s : State) (n : Nat) : State :=
  match s.armed n with
  | none => s
  | some a => match a.angle with
    | none => s
    | some tgt => if a.placed then s else s.setArmed n (some { a with due := s.angleDue tgt })

/-- Every unit's conversion at a slot boundary. -/
def State.reconvertAll (s : State) : State := (s.sdl.cmp.map (·.1)).foldl (fun s n => s.reconvert n) s

/-! Grid angle and slots -/

/-- The estimate meets the ACQUIRE condition for a cycle (R103). -/
def RefEst.good (amin : Nat) (e : RefEst) : Bool :=
  decide (amin ≤ e.rms) && decide (e.badRun ≤ 8) && decide (40 * 65536 ≤ e.freq) && decide (e.freq ≤ 70 * 65536)

/-- The estimate loses a locked channel (R103). -/
def RefEst.bad (amin : Nat) (e : RefEst) : Bool :=
  decide (e.rms < amin) || decide (8 < e.badRun) || decide (e.freq < 35 * 65536) || decide (75 * 65536 < e.freq)

/-- One cycle of a reference, in the parts in which its progress is counted: frequency in Q16.16 Hz times ns. -/
def cycleParts : Nat := 65536 * 1000000000

/-- A channel's transition at a slot boundary, `len` ns after the last one (R103). Within one cycle of the entry to ACQUIRE
the window of the estimate still reaches before it, and a bad estimate is not counted against the channel.
(DESIGN CHOICE, log entry 53.) -/
def RefChan.atSlot (len amin : Nat) (e : RefEst) (c : RefChan) : RefChan :=
  match c.st with
  | .idle => c
  | .lost => ⟨.acquire, 0, 0⟩
  | .acquire =>
    let p := c.good + e.freq * len
    if e.good amin then (if 4 * cycleParts ≤ p then ⟨.locked, 0, 0⟩ else ⟨.acquire, p, 0⟩)
    else if c.good < cycleParts then ⟨.acquire, p, 0⟩ else ⟨.acquire, 0, 0⟩
  | .locked => if e.bad amin then ⟨.lost, 0, 0⟩ else ⟨.locked, 0, c.lockedFor + e.freq * len⟩

/-- The mean of differences, each taken as a signed turn fraction about the first. -/
def meanDiff (ds : List Nat) : Nat :=
  match ds with
  | [] => 0
  | d0 :: _ =>
    let rel := fun (d : Nat) => (((d + 2 ^ 32 - d0 + 2 ^ 31) % 2 ^ 32 : Nat) : Int) - 2 ^ 31
    let sum : Int := ds.foldl (fun a d => a + rel d) 0
    (((d0 : Int) + sum / ds.length) % 2 ^ 32).toNat

/-- An angle step to a new ANGLE: CYCLE counts on where it is below the old, units armed with an angle target and
not placed are cancelled, ANGLE_STEP is set and the slot realigns (R105). -/
def State.angleStep (s : State) (target : Nat) : State :=
  let old := s.sdl.ang % 2 ^ 32
  let cyc := s.sdl.ang / 2 ^ 32 + (if target % 2 ^ 32 < old then 1 else 0)
  let s := { s with sdl.ang := (cyc * 2 ^ 32 + target % 2 ^ 32) % 2 ^ 64, sdl.angRem := 0, sdl.realign := true }
  (s.cancelUnits (fun a => a.angle.isSome && !a.placed)).sdlEvent 5

/-- The rate at which the angle advances, which FREQ reports (R106, R132). -/
def State.setFreq (s : State) (f : Nat) : State :=
  { (s.setReg pSdl Reg.Sdl.FREQ (BitVec.ofNat 32 f)) with sdl.freq := f }

/-- The angle source becomes FREE, at FNOM exactly (R105). -/
def State.angleFree (s : State) : State :=
  ({ s with sdl.angSrc := .free, sdl.chanOfs := 0, sdl.slewFor := 0 }.setFreq (s.fnomHz * 65536)).sdlEvent 2

/-- The source in use is gone: with a learned offset the other channel carries the angle on without a step; with no
channel left the angle runs free at FNOM (R104, R105). -/
def State.angleLoss (s : State) : State :=
  let d := s.sdl
  let priOk := d.pri.st == .locked
  let secOk := d.sec.st == .locked
  match d.angSrc with
  | .free => s
  | .primary =>
    if priOk then s
    else if secOk then
      if d.learned then { s with sdl.angSrc := .secondary, sdl.chanOfs := (d.chanOfs + 2 ^ 32 - d.ofs) % 2 ^ 32 } else s
    else s.angleFree
  | .secondary =>
    if secOk then s
    else if priOk then
      if d.learned then { s with sdl.angSrc := .primary, sdl.chanOfs := (d.chanOfs + d.ofs) % 2 ^ 32 } else s
    else s.angleFree

/-- A turn fraction as a signed number of 2⁻³² turns. -/
def signedTurn (d : Nat) : Int := (BitVec.ofNat 32 d).toInt

/-- The angle follows a channel's fundamental with its offsets (R101, R104): the rate is the frequency estimate and what
absorbs the difference, within two cycles and without a step (R106).
(DESIGN CHOICE, log entry 53.) -/
def State.track (s : State) (e : RefEst) : State :=
  let n := s.slotsPerCycle
  let d := signedTurn (e.angle + s.sdl.chanOfs + s.sdl.angOfs + 2 ^ 32 - s.sdl.ang % 2 ^ 32)
  let m := if s.sdl.slewFor = 0 then 2 * n else s.sdl.slewFor
  let rate : Int := e.freq + d * e.freq * n / (2 ^ 32 * m)
  { s with sdl.slewFor := m - 1 }.setFreq rate.toNat

/-- A move to a channel with a step (R105). -/
def State.angleTo (s : State) (x : AngleSrc) (e : RefEst) : State :=
  let s := { s with sdl.angSrc := x, sdl.chanOfs := 0, sdl.slewFor := 0 }.setFreq e.freq
  s.angleStep (e.angle + s.sdl.angOfs)

/-- The angle source at a slot boundary: a move to a channel that has locked, a return to PRIMARY after 16 cycles,
and the rate of the channel in use (R104, R105, R106).
(DEDUCED, log entry 48.) -/
def State.angleSource (s : State) (pri sec : RefEst) : State :=
  let s := s.angleLoss
  let d := s.sdl
  let priOk := d.pri.st == .locked
  let secOk := d.sec.st == .locked
  match d.angSrc with
  | .free => if priOk then s.angleTo .primary pri else if secOk then s.angleTo .secondary sec else s
  | .primary => if priOk then s.track pri else if secOk then s.angleTo .secondary sec else s
  | .secondary =>
    if !secOk then (if priOk then s.angleTo .primary pri else s)
    else if priOk && s.flag pSdl Reg.Sdl.TRK_CFG 17 && decide (16 * cycleParts ≤ d.pri.lockedFor) then
      if d.learned then { s with sdl.angSrc := .primary, sdl.chanOfs := (d.chanOfs + d.ofs) % 2 ^ 32 }.track pri
      else s.angleTo .primary pri
    else s.track sec

/-- The learned offset at a slot boundary: the mean over one cycle of boundaries with both channels LOCKED (R104). -/
def State.learnOffset (s : State) (pri sec : RefEst) : State :=
  if s.sdl.pri.st = .locked ∧ s.sdl.sec.st = .locked then
    let n := s.slotsPerCycle
    let run := (((sec.angle + 2 ^ 32 - pri.angle % 2 ^ 32) % 2 ^ 32) :: s.sdl.ofsRun).take n
    { s with sdl.ofsRun := run, sdl.learned := s.sdl.learned || decide (n ≤ run.length), sdl.ofs := meanDiff run }
  else { s with sdl.ofsRun := [], sdl.learned := false }

/-- The channels' transitions at a slot boundary, with their lost events (R103, R119). -/
def State.refChannels (s : State) (len : Nat) (pri sec : RefEst) : State :=
  let amin := s.fld pSdl Reg.Sdl.TRK_CFG 15 0
  let p := s.sdl.pri.atSlot len amin pri
  let q := s.sdl.sec.atSlot len amin sec
  let lp := s.sdl.pri.st == .locked && p.st == .lost
  let lq := s.sdl.sec.st == .locked && q.st == .lost
  let s := { s with sdl.pri := p, sdl.sec := q }
  let s := if lp then s.sdlEvent 0 else s
  if lq then s.sdlEvent 1 else s

/-- ANG_OFS written since the last boundary moves the angle by the difference, as a step (R131). -/
def State.angleOffset (s : State) : State :=
  let o := (s.reg pSdl Reg.Sdl.ANG_OFS).toNat
  if o = s.sdl.angOfs then s
  else
    let d := (o + 2 ^ 32 - s.sdl.angOfs) % 2 ^ 32
    ({ s with sdl.angOfs := o }).angleStep (s.sdl.ang + d)

/-- FHYS in hundredths of a Hz, 0 acting as 1 (R124). -/
def State.fhys (s : State) : Nat := max 1 (s.fld pSdl Reg.Sdl.FNOM_CFG 15 8)

/-- The slot mode from a boundary on (R108, R109): entry, exit and REALIGN slots are logged. -/
def State.nextMode (s : State) : State :=
  let f := s.sdl.freq * 100
  let hi := s.fmaxHz * 100
  let old := s.sdl.mode
  let free := s.sdl.angSrc == .free
  let stay := match old with
    | .clampHi => !free && decide ((hi - s.fhys) * 65536 < f)
    | .clampLo => !free && decide (f < (4000 + s.fhys) * 65536)
    | _ => false
  let leaving := (old == .clampHi || old == .clampLo) && !stay
  let m : SlotMode :=
    if s.sdl.realign || leaving then .realign
    else if stay then old
    else if free then .angle
    else if hi * 65536 < f then .clampHi
    else if f < 4000 * 65536 then .clampLo
    else .angle
  let s := if (old == .clampHi) != (m == .clampHi) then s.sdlEvent 3 else s
  let s := if (old == .clampLo) != (m == .clampLo) then s.sdlEvent 4 else s
  let s := if m == .realign then s.sdlEvent 14 else s
  { s with sdl.mode := m, sdl.realign := false }

/-- The first angle boundary at or after t ns from C_k, as ns from C_k (R107).
(DEDUCED, log entry 48.) -/
def State.boundaryAfter (s : State) (t : Nat) : Nat :=
  let w := 2 ^ 32 / s.slotsPerCycle
  let c0 := s.sdl.slotAt.getD s.sdl.time
  -- the angle at C_k, from the angle now
  let back := angleAdv s.sdl.freq (s.sdl.time - c0)
  let a := s.sdl.ang * 1000000000 + s.sdl.angRem - back
  let at_ := a + angleAdv s.sdl.freq t
  let unit := w * 1000000000
  let rest := (unit - at_ % unit) % unit
  let rate := s.sdl.freq * 65536
  if rate = 0 then t + s.l40 * 2 else t + (rest + rate - 1) / rate

/-- The length of the slot in progress by its mode (R108). -/
def State.slotLength (s : State) : Nat :=
  match s.sdl.mode with
  | .clampHi => s.lMin
  | .clampLo => s.l40
  | .angle => min (s.boundaryAfter s.lMin) s.l40
  | .realign => min (s.boundaryAfter s.lMin) (s.lMin + s.l40)

/-- C_(k+1), when a slot runs. -/
def State.nextSlotAt (s : State) : Nat :=
  match s.sdl.slotAt with
  | none => s.sdl.time
  | some c => c + s.slotLength

/-- SLOT_CNT takes a value, in the register too. -/
def State.setSlotCnt (s : State) (n : Nat) : State :=
  { (s.setReg pSdl Reg.Sdl.SLOT_CNT (BitVec.ofNat 32 n)) with sdl.slotCnt := n % 2 ^ 32 }

/-- The Sundial's part of a slot start at C_k = the time now: pending time step, channels, angle source, mode,
SLOT_CNT, SLOT_LEN and, at the first slot start after the Pergola enable, BOOT_TIME (R69, R96, R103 to R110, R86). -/
def State.sdlSlotStart (s : State) (pri sec : RefEst) : State :=
  let len := match s.sdl.slotAt with
    | none => 0
    | some c => s.sdl.time - c
  let s := match s.sdl.step with
    | some d => { s.timeStep d with sdl.tstep := s.slotsPerCycle }
    | none => { s with sdl.tstep := s.sdl.tstep - 1 }
  let s := s.refChannels len pri sec
  let s := s.angleSource pri sec
  let s := (s.learnOffset pri sec).angleOffset
  let s := s.nextMode
  let s := s.setSlotCnt (s.sdl.slotCnt + 1)
  let s := if s.sdl.slotAt.isSome then s.setReg pSdl Reg.Sdl.SLOT_LEN (BitVec.ofNat 32 (len % 2 ^ 20)) else s
  let s := if s.flag pLdg Reg.Ldg.BOOT_TIME 31 || !s.pglOn then s
    else (s.setReg pLdg Reg.Ldg.BOOT_TIME (BitVec.ofNat 32 ((s.now - s.boot.t0) / 1000 % 2 ^ 24 + 2 ^ 31))).setFld pLdg
      Reg.Ldg.BOOT_STA 3 0 13
  ({ s with sdl.slotAt := some s.sdl.time }).reconvertAll.sdlStatus

/-- A channel follows its enable: IDLE while disabled, ACQUIRE once both are enabled (R103). -/
def State.refEnable (s : State) : State :=
  let on := s.enabled pSdl
  let f := fun (o : Nat) (c : RefChan) =>
    if on && s.flag pSdl o 16 then (if c.st == .idle then ⟨.acquire, 0, 0⟩ else c) else RefChan.reset
  ({ s with sdl.pri := f Reg.Sdl.REF_PRI s.sdl.pri, sdl.sec := f Reg.Sdl.REF_SEC s.sdl.sec }).angleLoss.sdlStatus

/-- The Sundial is enabled: angle 0 in FREE at FNOM, channels to ACQUIRE (R542, R103). The first slot starts with
it. -/
def State.sdlEnable (s : State) : State :=
  let s := s.setFlag pSdl Reg.Hdr.CTL 0 true
  let s := { s with sdl.ang := 0, sdl.angRem := 0, sdl.angSrc := .free, sdl.slewFor := 0
                    sdl.mode := .angle, sdl.realign := false, sdl.slotAt := none, sdl.ofsRun := []
                    sdl.learned := false, sdl.chanOfs := 0
                    sdl.angOfs := (s.reg pSdl Reg.Sdl.ANG_OFS).toNat }.setFreq (s.fnomHz * 65536)
  s.refEnable.refreshBalls

/-- The Sundial is disabled: the angle stops, the channels go to IDLE, the balls go back to the Lodge (R542,
R117).
(DEDUCED, log entry 153.) -/
def State.sdlDisable (s : State) : State :=
  let s := s.setFlag pSdl Reg.Hdr.CTL 0 false
  let s := { s.setFreq 0 with
    sdl.angSrc := .free, sdl.slotAt := none, sdl.learned := false, sdl.ofsRun := []
    sdl.pri := RefChan.reset, sdl.sec := RefChan.reset }
  s.sdlStatus.refreshBalls

/-- Every unit is disarmed (R117); CANCELLED is for a CANCEL, an angle step and a block reset alone (R116).
(DEDUCED, log entry 153.) -/
def State.disarmAll (s : State) : State := s.sdl.cmp.foldl (fun s c => s.setArmed c.1 none) s

/-- The balls go to their AOUT_SAFE levels whatever drives them; one claimed for its alternate is outside AOUT_SAFE
(R75, R100, R117). -/
def State.ballsSafe (s : State) : State :=
  { s with ldg.aout := (List.range 32).map (fun b =>
      if s.pwr.low.contains .vddio33 then .z
      else if s.ballAlt b then s.ball b
      else safeLevel (s.safeCode b) (s.ball b)) }

end Sys2Proof.Machine
end

