-- ==== Sys2Proof/Machine/TimeSources.lean ====
section
/-!
DEFINITION. What disciplines station time: PTP with its best master clock algorithm, PPS edges, IRIG-B frames,
holdover, the setting by SET_CMD, and the PPS output (R89 to R98, R166).
-/
namespace Sys2Proof.Machine

/-! PTP -/

/-- The cluster page of an Ethernet port and the port's place in it (R143, R188). -/
def portPage (port : Nat) : Nat := pPrc (port / 16)

/-- A PORT_CFG field. -/
def State.portCfg (s : State) (port hi lo : Nat) : Nat := s.fld (portPage port) (Reg.Prc.PORT_CFG (port % 16)) hi lo

/-- The port's STATE: 0 DISABLED, 1 ENABLED, 2 TEST. -/
def State.portState (s : State) (port : Nat) : Nat := s.portCfg port 1 0

/-- LN_MODE.MODE of a lane (R178). -/
def State.laneMode (s : State) (n : Nat) : Nat := s.fld (pLne n) Reg.Lne.LN_MODE 2 0

/-- The ports a lane carries, by its mode; a 100GBASE-R group has the port of its first lane (R143). -/
def lanePorts (mode n : Nat) : List Nat :=
  if mode = 0 ∨ mode = 7 then []
  else if mode = 3 then [4 * n, 4 * n + 1, 4 * n + 2, 4 * n + 3]
  else if mode = 6 then [16 * (n / 4)]
  else [4 * n]

/-- A per-port register of a cluster page (R188). -/
def State.portReg (s : State) (port off : Nat) : Word := s.reg (portPage port) (0x100 + 0x40 * (port % 16) + off)

/-- A per-port register replaced. -/
def State.setPortReg (s : State) (port off : Nat) (w : Word) : State :=
  s.setReg (portPage port) (0x100 + 0x40 * (port % 16) + off) w

/-- The lane plan gives a port number a function (R143). -/
def State.portExists (s : State) (port : Nat) : Bool :=
  decide (port < 256) && (lanePorts (s.laneMode (port / 4)) (port / 4)).contains port

/-- A fence on an item is in force (R429). -/
def State.fencedItem (s : State) (kind item : Nat) : Bool :=
  s.blv.fences.any (fun f => decide (bits f.target 14 12 = kind) && decide (bits f.target 28 16 = item))

/-- A port's PORT_STA.LINK (R188). -/
def State.portLink (s : State) (port : Nat) : Bool := bitAt (s.portReg port 4) 0

/-- A lane in loopback carries no port traffic (R179). -/
def State.laneLooped (s : State) (n : Nat) : Bool := decide (s.fld (pLne n) Reg.Lne.LN_LPBK 1 0 ≠ 0)

/-- The lanes a port uses (R143). -/
def State.lanesOf (s : State) (port : Nat) : List Nat :=
  if s.laneMode (port / 4) = 6 then (List.range 4).map (4 * (port / 16) + ·) else [port / 4]

/-- A port carries traffic: it exists, its cluster and the fabric are enabled, it is ENABLED or in TEST, linked, not
fenced and not in loopback. -/
def State.portUp (s : State) (port : Nat) : Bool :=
  s.portExists port && s.enabled (portPage port) && decide (s.portState port ≠ 0) && s.portLink port &&
  !s.fencedItem 4 port && !(s.lanesOf port).any s.laneLooped

/-- ROLE of PTP_CFG: 0 off, 1 ordinary, 2 boundary, 3 transparent only. -/
def State.ptpRole (s : State) : Nat := s.fld pSdl Reg.Sdl.PTP_CFG 1 0

/-- The port's portState as PORT_STA shows it. -/
def State.ptpState (s : State) (port : Nat) : Nat := s.fld (portPage port) (Reg.Prc.PORT_STA (port % 16)) 7 4

/-- The portState written. -/
def State.setPtpState (s : State) (port v : Nat) : State :=
  s.setFld (portPage port) (Reg.Prc.PORT_STA (port % 16)) 7 4 v

/-- A port that can run PTP: it exists, has PTP_EN, is ENABLED and not in TEST, and is not in loopback (R143, R166, R179). -/
def State.ptpAble (s : State) (port : Nat) : Bool :=
  s.portExists port && s.portCfg port 6 6 == 1 && s.portState port == 1 && !(s.lanesOf port).any s.laneLooped

/-- A port of the PTP engine: of an ordinary clock the lowest-numbered able port alone (R91, R122). -/
def State.ptpPort (s : State) (port : Nat) : Bool :=
  s.ptpAble port && (decide (s.ptpRole ≠ 1) || !(List.range port).any s.ptpAble)

/-- The device's own data set D0 (R91). -/
def State.ownSet (s : State) : PtpSet :=
  { prio1 := s.fld pSdl Reg.Sdl.PTP_CFG 23 16, clockClass := s.clockClass, accuracy := 0xFE, variance := 0xFFFF
    prio2 := s.fld pSdl Reg.Sdl.PTP_CFG 31 24, identity := s.clockIdentity, steps := 0, sender := s.clockIdentity
    utc := none }

/-- Lexicographic order. -/
def lexLt : List Nat → List Nat → Bool
  | a :: as, b :: bs => if a < b then true else if b < a then false else lexLt as bs
  | _, _ => false

/-- Data set a is better than b by the default algorithm: of one grandmaster by the path, of two by their data. -/
def PtpSet.better (a b : PtpSet) : Bool :=
  if a.identity = b.identity then lexLt [a.steps, a.sender] [b.steps, b.sender]
  else lexLt [a.prio1, a.clockClass, a.accuracy, a.variance, a.prio2, a.identity]
    [b.prio1, b.clockClass, b.accuracy, b.variance, b.prio2, b.identity]

/-- Of two data sets of one grandmaster, b is better than m by topology alone: the paths are equally long, or m's is one
longer and its receiver, this clock, stands above its sender. -/
def PtpSet.byTopology (own : Nat) (b m : PtpSet) : Bool :=
  b.identity == m.identity && (decide (b.steps = m.steps) || (decide (b.steps + 1 = m.steps) && decide (m.sender < own)))

/-- The best data set received on any port, and its port; of two alike, that of the lower port. -/
def ebest : List (Nat × PtpSet) → Option (Nat × PtpSet)
  | [] => none
  | e :: es => match ebest es with
    | none => some e
    | some f => if f.2.better e.2 || (!e.2.better f.2 && decide (f.1 < e.1)) then some f else some e

/-- A twin whose outputs are withheld (R369, R384).
(DEDUCED, log entry 114.) -/
def State.withheld (s : State) : Bool :=
  match s.cln.st with
  | .off => s.cln.detached
  | .wait => true
  | .withdrawn => true
  | .attachId => !s.cln.donor
  | .attachXfer => !s.cln.donor
  | _ => false

/-- The portState that the default algorithm recommends for a port: 9 SLAVE, 6 MASTER, 7 PASSIVE, 4 LISTENING.
A twin whose outputs are withheld runs slave-only (R369).
(DEDUCED, log entry 175.) -/
def State.recommend (s : State) (port : Nat) : Nat :=
  let own := s.ownSet
  let mine := (s.sdl.erbest.find? (fun e => e.1 = port)).map (·.2)
  let master := if s.flag pSdl Reg.Sdl.PTP_CFG 3 || s.withheld then 4 else 6
  match ebest s.sdl.erbest with
  | none => master
  | some (bp, b) =>
    if own.clockClass ≤ 127 then
      match mine with
      | none => master
      | some m => if own.better m then master else 7
    else if own.better b then master
    else if bp = port then 9
    else match mine with
      | none => master
      | some m => if own.better m then master else if b.byTopology own.identity m then 7 else master

/-- The PTP source goes where no port is in SLAVE state (R89). -/
def State.ptpNoSlave (s : State) : State :=
  let s := s.setFlag pSdl Reg.Sdl.PTP_STA 24 false
  if s.sdl.ptp = SrcQual.reset then s else (s.setQual .ptp SrcQual.reset).selectSrc

/-- In step without the PTP role: the peer that holds it sets the port states (R381).
(DEDUCED, log entry 176.) -/
def State.ptpFollower (s : State) : Bool := s.cln.st == .inStep && !s.flag pCln Reg.Cln.ROLE_STA 2

/-- Every PTP port takes the state recommended for it, any other with one DISABLED; PTP_STA follows the slave port (R127, R166). A
twin without the PTP role keeps the states its PTP ports have (R381).
(DEDUCED, log entries 49, 176.) -/
def State.bmca (s : State) : State :=
  let on := decide (s.ptpRole = 1) || decide (s.ptpRole = 2)
  let s := (List.range 256).foldl (fun s p =>
    if on && s.ptpPort p then (if s.ptpFollower then s else s.setPtpState p (s.recommend p))
    else if s.ptpState p = 0 then s else s.setPtpState p 3) s
  match (List.range 256).find? (fun p => on && s.ptpPort p && s.ptpState p == 9) with
  | some p => (s.setFld pSdl Reg.Sdl.PTP_STA 23 16 p).setFlag pSdl Reg.Sdl.PTP_STA 24 true
  | none => s.ptpNoSlave

/-- An offset from master in 16 bits, saturating at ±32,767 (R127). -/
def offset16 (off : Int) : Nat :=
  let v := if off > 32767 then 32767 else if off < -32767 then -32767 else off
  (v % 65536).toNat

/-- A source that has just come into use, or is in use, corrects station time; another only qualifies. -/
def State.discipline (s : State) (x : TimeSrc) (off : Int) : State :=
  let s := s.selectSrc
  if s.sdl.src = x then s.correct off else s

/-- A timestamp with RX_ADJ or TX_ADJ of a port, in ps (R165, R188). -/
def State.adjusted (s : State) (port hi lo : Nat) : Nat :=
  ((s.sdl.time : Int) + (BitVec.ofNat 16 (bits (s.portReg port 8) hi lo)).toInt / 1000).toNat

/-- A Sync from the master on the slave port (R89, R90): 16 consecutive intervals whose offset holds within ±100 ns
qualify PTP. Where station time does not yet follow PTP, an interval counts by the change of the offset. -/
def State.ptpSync (s : State) (port masterNs : Nat) : State :=
  let off : Int := (s.adjusted port 15 0 : Int) - masterNs
  let s := s.setFld pSdl Reg.Sdl.PTP_STA 15 0 (offset16 off)
  let q := s.sdl.ptp
  let run := match q.off with
    | none => 0
    | some o => if (if s.sdl.src = .ptp then off else off - o).natAbs ≤ 100 then q.run + 1 else 0
  let s := { s with sdl.ptp := { q with run := min 16 run, ok := q.ok || decide (16 ≤ run), off := some off } }
  if s.sdl.ptp.ok then s.discipline .ptp off else s

/-- The data set that an Announce of this clock carries: the grandmaster's, one step on, where a port is in SLAVE state,
otherwise its own.
(DEDUCED, log entry 175.) -/
def State.announced (s : State) : PtpSet :=
  let port := s.fld pSdl Reg.Sdl.PTP_STA 23 16
  match s.flag pSdl Reg.Sdl.PTP_STA 24, s.sdl.erbest.find? (fun e => e.1 = port) with
  | true, some e => { e.2 with steps := e.2.steps + 1 }
  | _, _ => s.ownSet

/-- A station time as a PTP timestamp: 6 octets of seconds and 4 of nanoseconds (R88).
(PRESUMED, log entry 174.) -/
def ptpStamp (t : Nat) : List Byte := natOctetsBE 6 (secOf t) ++ natOctetsBE 4 (nsOf t)

/-- A sourcePortIdentity: clockIdentity and portNumber, the Ethernet port number plus one. -/
def State.portIdentity (s : State) (port : Nat) : List Byte := natOctetsBE 8 s.clockIdentity ++ natOctetsBE 2 (port + 1)

/-- A PTP message in its Ethernet frame without FCS: kind 0 Announce, 1 Sync, 2 Pdelay_Req, 3 Follow_Up, 4 Pdelay_Resp, 5
Pdelay_Resp_Follow_Up; destination by the mechanism, EtherType 0x88F7, the common header and the body (R91).
(PRESUMED, log entry 174.) -/
def State.ptpFrame (s : State) (port kind seq : Nat) (two : Bool) (body : List Byte) : List Byte :=
  let typ := nth [0xB, 0x0, 0x2, 0x8, 0x3, 0xA] kind 0
  let ctl := nth [5, 0, 5, 2, 5, 5] kind 5
  let peer := decide (kind = 2) || decide (4 ≤ kind)
  let dest : List Byte := if peer then [0x01, 0x80, 0xC2, 0x00, 0x00, 0x0E] else [0x01, 0x1B, 0x19, 0x00, 0x00, 0x00]
  let period : Nat := if kind = 0 ∨ kind = 1 ∨ kind = 2 ∨ kind = 3 then 0 else 0x7F
  let flags := (if two then 0x0200 else 0) + 8 + (if kind = 0 then 4 else 0)
  dest ++ natOctetsBE 6 s.pairMac ++ [0x88, 0xF7, BitVec.ofNat 8 typ, 0x12] ++ natOctetsBE 2 (34 + body.length) ++
    natOctetsBE 1 (s.fld pSdl Reg.Sdl.PTP_CFG 15 8) ++ [0] ++ natOctetsBE 2 flags ++ zeros 8 ++ zeros 4 ++ s.portIdentity port ++
    natOctetsBE 2 seq ++ natOctetsBE 1 ctl ++ natOctetsBE 1 period ++ body

/-- The body of an Announce.
(PRESUMED, log entry 174.) -/
def State.announceBody (s : State) : List Byte :=
  let d := s.announced
  let source := if d.identity = s.clockIdentity ∧ (s.sdl.src = .pps ∨ s.sdl.src = .pps2) then 0x20 else if d.steps = 0 then 0xA0 else 0x40
  zeros 10 ++ natOctetsBE 2 (s.fld pSdl Reg.Sdl.UTC_OFS 15 0) ++ [0] ++ natOctetsBE 1 d.prio1 ++ natOctetsBE 1 d.clockClass ++
    natOctetsBE 1 d.accuracy ++ natOctetsBE 2 d.variance ++ natOctetsBE 1 d.prio2 ++ natOctetsBE 8 d.identity ++ natOctetsBE 2 d.steps ++
    natOctetsBE 1 source

/-- The next sequenceId of a kind of message on a port, counted. -/
def State.ptpSeqNext (s : State) (port kind : Nat) : Nat × State :=
  let k := port * 8 + kind
  let n := smGet (fun _ => 0) s.sdl.ptpSeq k
  (n, { s with sdl.ptpSeq := smSet (fun _ => 0) s.sdl.ptpSeq k ((n + 1) % 65536) })

/-- A PTP message leaves; an event message is timestamped, with TX_ADJ (R165). -/
def State.ptpSend (s : State) (port kind seq : Nat) (two : Bool) (body : List Byte) : State :=
  let s := s.emit (.ptp port kind (s.ptpFrame port kind seq two body))
  if kind = 1 ∨ kind = 2 ∨ kind = 4 then { s with prm.txStamp := some (port, s.adjusted port 31 16) } else s

/-- ONE_STEP of PTP_CFG. -/
def State.oneStep (s : State) : Bool := s.flag pSdl Reg.Sdl.PTP_CFG 4

/-- A Pdelay_Req is answered: in one message, its residence in the correctionField, or with a Follow_Up (R91). -/
def State.ptpAnswer (s : State) (port source seq : Nat) : State :=
  let who := natOctetsBE 10 source
  let rx := s.adjusted port 15 0
  if s.oneStep then s.ptpSend port 4 seq false (zeros 10 ++ who)
  else
    let s := s.ptpSend port 4 seq true (ptpStamp rx ++ who)
    s.ptpSend port 5 seq false (ptpStamp (s.adjusted port 31 16) ++ who)

/-- The port takes part in PTP now: it is a PTP port, carries traffic, and the engine is on. -/
def State.ptpLive (s : State) (port : Nat) : Bool := s.ptpPort port && s.portUp port && s.ptpRole != 0

/-- A received PTP message of a domain on a port (R91, R92).
(DEDUCED, log entry 49.) -/
def State.ptpMessage (s : State) (port domain : Nat) (m : PtpMsg) : State :=
  if !s.ptpLive port then s
  else if domain ≠ s.fld pSdl Reg.Sdl.PTP_CFG 15 8 then s.countFld pSdl Reg.Sdl.PTP_STA 31 25 1
  else match m with
    | .unsupported => s.countFld pSdl Reg.Sdl.PTP_STA 31 25 1
    | .pdelay ns =>
      s.setReg (portPage port) (Reg.Prc.PDELAY (port % 16)) (BitVec.ofNat 32 (ns % 2 ^ 24 + 2 ^ 31))
    | .pdelayReq source seq => s.ptpAnswer port source seq
    | .announce d =>
      if s.ptpRole = 3 then s
      else
        let s := { s with sdl.erbest := (port, d) :: s.sdl.erbest.filter (fun e => e.1 ≠ port) }
        let s := s.bmca
        if s.ptpState port = 9 then
          let s := { s with sdl.gmClass := d.clockClass, sdl.gmId := d.identity }
          match d.utc with
          | some u => s.setFld pSdl Reg.Sdl.UTC_OFS 15 0 u
          | none => s
        else s
    | .sync identity t =>
      if s.ptpState port = 9 ∧ (s.sdl.erbest.find? (fun e => e.1 = port)).any (fun e => e.2.identity = identity) then
        s.ptpSync port t
      else s

/-- A PTP message is due on a port: Announce (0) and Sync (1) on a MASTER port, Pdelay_Req (2) on every PTP port; a
two-step Sync is followed by its Follow_Up (R91). -/
def State.ptpTransmit (s : State) (port kind : Nat) : State :=
  if !s.ptpLive port || (decide (kind ≠ 2) && decide (s.ptpState port ≠ 6)) then s
  else
    let (seq, s) := s.ptpSeqNext port kind
    if kind = 0 then s.ptpSend port 0 seq false s.announceBody
    else if kind = 2 then s.ptpSend port 2 seq false (zeros 20)
    else
      let t := s.adjusted port 31 16
      if s.oneStep then s.ptpSend port 1 seq false (ptpStamp t)
      else (s.ptpSend port 1 seq true (zeros 10)).ptpSend port 3 seq false (ptpStamp t)

/-- The announce receipt timeout, or 3 s without Sync (R90): the parent is forgotten in the first case, and the PTP
source is lost in both. -/
def State.ptpTimeout (s : State) (announce : Bool) : State :=
  let s := if announce then
      let port := s.fld pSdl Reg.Sdl.PTP_STA 23 16
      ({ s with sdl.erbest := s.sdl.erbest.filter (fun e => e.1 ≠ port) }).bmca
    else s
  (s.setQual .ptp { s.sdl.ptp with off := none }).loseSrc .ptp

/-! PPS and IRIG -/

/-- The source of a PPS input: PPS_IN, or PPS_IN2 on AOUT28. -/
def ppsSrc (second : Bool) : TimeSrc := if second then .pps2 else .pps

/-- A signed offset from the nearest whole second. -/
def fromSecond (t : Nat) : Int :=
  let r := t % 1000000000
  if r ≤ 500000000 then r else (r : Int) - 1000000000

/-- A PPS edge (R89, R90): one that did not come 1 s ± 1 µs after the last, or that follows an edge without its frame, breaks
the run; where the source is in use its phase is corrected. -/
def State.ppsEdge (s : State) (x : TimeSrc) : State :=
  if !s.srcEnabled x then s
  else
    let q := s.qual x
    let spaced := match q.lastEdge with
      | none => false
      | some t => decide (999999000 ≤ s.now - t) && decide (s.now - t ≤ 1000001000)
    let s := s.setQual x { q with lastEdge := some s.now, matched := false, run := if spaced && q.matched then q.run else 0 }
    if s.sdl.src = x then s.correct (fromSecond s.sdl.time) else s

/-- A year of the Gregorian calendar has a leap day. -/
def leapYear (y : Nat) : Bool := (y % 4 == 0 && y % 100 != 0) || y % 400 == 0

/-- Days from 1970-01-01 to the first day of a year. -/
def daysTo (y : Nat) : Nat := (List.range (y - 1970)).foldl (fun d i => d + (if leapYear (1970 + i) then 366 else 365)) 0

/-- The year of a count of days from 1970-01-01, searched over the years given. -/
def yearOf : Nat → Nat → Nat → Nat
  | 0, y, _ => y
  | n + 1, y, d =>
    let len := if leapYear y then 366 else 365
    if d < len then y else yearOf n (y + 1) (d - len)

/-- The UTC year of station time. -/
def State.utcYear (s : State) : Nat :=
  yearOf 400 1970 ((secOf s.sdl.time - s.fld pSdl Reg.Sdl.UTC_OFS 15 0) / 86400)

/-- A frame is valid (R94): it decoded; without a year of its own it needs a date; honouring IEEE C37.118.1, its time
quality is at most 4. -/
def State.irigValid (s : State) (f : IrigFrame) : Bool :=
  f.valid && (decide (4 ≤ f.code) || s.sdl.dated) &&
  (!s.flag pSdl Reg.Sdl.PIN_ALT 0 || decide (f.quality ≤ 4))

/-- The TAI second a frame names: UTC with the local offset removed, and UTC_OFS added (R94). -/
def State.irigSecs (s : State) (f : IrigFrame) : Nat :=
  let y := if 4 ≤ f.code then f.year else s.utcYear
  let ofs : Int := if s.flag pSdl Reg.Sdl.PIN_ALT 0 then f.halfHours * 1800 else 0
  ((daysTo y * 86400 + f.secs + s.fld pSdl Reg.Sdl.UTC_OFS 15 0 : Nat) - ofs : Int).toNat

/-- An IRIG-B frame is matched to its PPS edge (R89, R90, R94): three matched edges 1 s ± 1 µs apart qualify the
source; three invalid frames in a row lose it. A valid frame with no edge left to match changes nothing else. -/
def State.irigFrame (s : State) (x : TimeSrc) (f : IrigFrame) : State :=
  if !s.srcEnabled x then s
  else
    let q := s.qual x
    if !s.irigValid f then
      let s := (s.sdlEvent 9).setQual x { q with run := 0, bad := q.bad + 1 }
      if 3 ≤ q.bad + 1 then s.loseSrc x else s
    else
      let s := if s.flag pSdl Reg.Sdl.PIN_ALT 0 then s.setFld pSdl Reg.Sdl.UTC_OFS 17 16 f.leap else s
      match q.lastEdge, q.matched with
      | some t, false =>
        let off : Int := (s.sdl.time : Int) - (s.irigSecs f * 1000000000 + (s.now - t) : Nat)
        let run := q.run + 1
        let s := s.setQual x { q with matched := true, run := min 3 run, ok := q.ok || decide (3 ≤ run), bad := 0 }
        let s := s.selectSrc
        if s.sdl.src = x ∧ (s.sdl.lockRun = 0 ∨ 500000000 < off.natAbs) then s.correct off else s
      | _, _ => s.setQual x { q with bad := 0 }

/-- No PPS edge for 2 s: FLT_STA bit [8], and the source is lost (R90, R119). -/
def State.ppsLoss (s : State) (x : TimeSrc) : State :=
  if !s.srcEnabled x then s
  else ((s.sdlEvent 8).setQual x { s.qual x with lastEdge := none, matched := false }).loseSrc x

/-! Holdover, setting, PPS_OUT -/

/-- HOLDOVER has lasted MAX_S seconds (R90, R128). -/
def State.holdExpire (s : State) : State :=
  if s.sdl.state = .holdover then
    let s := s.tick (s.sdl.holdAt + s.fld pSdl Reg.Sdl.HOLD_CFG 31 16 * 1000000000 - s.now)
    (({ s with sdl.state := .holdExpired }).sdlEvent 13).sdlStatus
  else s

/-- A reference channel has had no sample for 2 ms (R103). -/
def State.refTimeout (s : State) (second : Bool) : State :=
  let c := if second then s.sdl.sec else s.sdl.pri
  if c.st ≠ .locked then s
  else
    let s := if second then { s with sdl.sec := ⟨.lost, 0, 0⟩ } else { s with sdl.pri := ⟨.lost, 0, 0⟩ }
    (s.sdlEvent (if second then 1 else 0)).angleLoss.sdlStatus

/-- The station time that SET_S_LO, SET_S_HI and SET_NS name, in ns. -/
def State.setTime (s : State) : Nat :=
  (s.reg pSdl Reg.Sdl.SET_S_LO).toNat * 1000000000 +
  s.fld pSdl Reg.Sdl.SET_S_HI 15 0 * 2 ^ 32 * 1000000000 + s.fld pSdl Reg.Sdl.SET_NS 29 0

/-- SET_CMD is refused while the Pergola is enabled in LOCKING, LOCKED or HOLDOVER (R97). -/
def State.setRefused (s : State) : Bool :=
  s.pglOn && (s.sdl.state == .locking || s.sdl.state == .locked || s.sdl.state == .holdover)

/-- An accepted SET_CMD (R97): at the next 1 µs tick station time is stepped to the values set.
(DEDUCED, log entry 51.) -/
def State.setCmd (s : State) : State :=
  let s := s.advanceTo (s.sdl.time / 1000 * 1000 + 1000)
  s.timeStep ((s.setTime : Int) - s.sdl.time)

/-- PPS_OUT is driven: in every state but FREE, and there with PPS_FREE (R95). -/
def State.ppsDriven (s : State) : Bool := s.sdl.state != .free || s.flag pSdl Reg.Sdl.PIN_ALT 1

/-- The leap second that UTC_OFS.LEAP announces takes effect at the end of the UTC day: TAI_UTC changes, LEAP is done (R126).
(DEDUCED, log entry 173.) -/
def State.leapSecond (s : State) : State :=
  let ofs := s.fld pSdl Reg.Sdl.UTC_OFS 15 0
  let utc := secOf s.sdl.time - ofs
  match s.fld pSdl Reg.Sdl.UTC_OFS 17 16 with
  | 1 => if utc % 86400 = 1 then s.setReg pSdl Reg.Sdl.UTC_OFS (BitVec.ofNat 32 ((ofs + 1) % 65536)) else s
  | 2 => if utc % 86400 = 86399 then s.setReg pSdl Reg.Sdl.UTC_OFS (BitVec.ofNat 32 ((ofs + 65535) % 65536)) else s
  | _ => s

/-- PPS_OUT rises at the next whole TAI second, with which the UTC day may end (R95, R126). -/
def State.ppsRise (s : State) : State :=
  let s := (s.advanceTo ((s.sdl.time + 999999999) / 1000000000 * 1000000000)).leapSecond
  if s.ppsDriven then { s with sdl.ppsOut := true } else s

/-- The high time of PPS_OUT in ns: PPS_W ms, 0 giving 10 µs (R95, R135). -/
def State.ppsWidth (s : State) : Nat :=
  let w := s.fld pSdl Reg.Sdl.PIN_ALT 15 8
  if w = 0 then 10000 else w * 1000000

/-- PPS_OUT falls PPS_W after it rose (R95). -/
def State.ppsFall (s : State) : State :=
  if s.sdl.ppsOut then
    { s.advanceTo (secOf s.sdl.time * 1000000000 + s.ppsWidth) with sdl.ppsOut := false }
  else s

/-! The event log and the latched reads -/

/-- A read of EVT: the oldest entry, removed (R138).
(DEDUCED, log entry 150.) -/
def State.evtRead (s : State) : Word × State :=
  match s.sdl.evt with
  | [] => (0, s)
  | e :: es => (BitVec.ofNat 32 (e.code % 16 + 16 + b2n e.lost * 128 + e.slot % 2 ^ 24 * 256), { s with sdl.evt := es })

/-- A read of TIME_S_LO latches station time (R125). -/
def State.timeRead (s : State) : Word × State :=
  (BitVec.ofNat 32 (secOf s.sdl.time % 2 ^ 32), { s with sdl.timeLatch := s.sdl.time })

/-- A read of ANGLE latches the angle and its instant (R133). -/
def State.angleRead (s : State) : Word × State :=
  (BitVec.ofNat 32 (s.sdl.ang % 2 ^ 32), { s with sdl.angLatch := s.sdl.ang, sdl.angLatchNs := nsOf s.sdl.time })

end Sys2Proof.Machine
end

