-- ==== Sys2Proof/Machine/Reset.lean ====
section
/-!
DEFINITION. The device-wide actions: zeroise (R334, R350, R386), HALT_ENGINE (R431), and the device and power-on
resets with the state each reaches (R61 to R64, R78, R437, R540).
-/
namespace Sys2Proof.Machine

/-! Zeroise -/

/-- The key store's internal requests end with the keys they serve (R334). -/
def State.dropKeyRequests (s : State) : State :=
  let s := { s with arb.waiting := s.arb.waiting.filter (fun r => r != ArbReq.qKA && r != ArbReq.transportLoad) }
  match s.arb.cur with
  | some (.req .qKA) => s.arbNext
  | some (.req .transportLoad) => s.arbNext
  | _ => s

/-- Message kinds on the Colonnade session (R365, R375, R378, R379, R385, R386, R500). -/
abbrev msgAttach : Nat := 1
abbrev msgState : Nat := 2
abbrev msgDigest : Nat := 3
abbrev msgForward : Nat := 4
abbrev msgSlotRecord : Nat := 5
abbrev msgSequence : Nat := 6
abbrev msgKey : Nat := 7
abbrev msgZeroise : Nat := 8
abbrev msgProxy : Nat := 9
abbrev msgProxyAnswer : Nat := 10
abbrev msgFenceLift : Nat := 11
abbrev msgRoles : Nat := 12
/-- A frame that the LEAD holder is to number (R379), and an HSR frame in transit (R366). -/
abbrev msgNumber : Nat := 13
abbrev msgTransit : Nat := 14

/-- A zeroise (R334): the Orangery, the well and the Arbour are cleared, a tag check in progress is stopped, and the
peer is told where ZPROP asks it (R386).
(DESIGN CHOICE, log entry 204.) -/
def State.zeroise (s : State) (tellPeer : Bool) : State :=
  let s := match s.org.keyCmd, s.cln.keyWait with
    | none, some op => s.keyEnd op keyZeroised
    | _, _ => s
  let s := { s with cln.keyWait := none }.orgZeroise.arbZeroise.dropKeyRequests
  let s := { s with ptr.tagWait := s.ptr.tagWait.map (fun t => { t with stopped := true }) }
  if tellPeer && s.cln.session && s.flag pCln Reg.Cln.CLN_CFG 1 then s.emit (.twinMsg msgZeroise []) else s

/-! HALT_ENGINE -/

/-- The run in progress ends without effect and nothing more is dispatched (R431). -/
def State.stopRuns (s : State) : State :=
  { s with pgl.run := none, pgl.due := [], pgl.open5 := false, engP := Engine.reset }

/-- HALT_ENGINE (R431): no further bundle of Ndear-P, the promise ends, every unit is disarmed, the balls go to
their safe levels, and no publication is built or handed over. -/
def State.haltEngine (s : State) : State :=
  if s.blv.halted then s
  else
    let s := s.stopRuns
    let s := { s with blv.halted := true, ptr.built := [] }
    let s := (s.setFlag pPgl Reg.Hdr.CTL 0 false).setFld pPgl Reg.Hdr.STA 10 8 0
    s.disarmAll.ballsSafe

/-! Resets -/

/-- Registers that a device reset does not reach: the Lodge-held ones, the kept registers of the BLV page, the HDG page
in the always-on domain, the KSK page in the field domain and the held fields of PWR_STA (R59, R61, R78, R437, R538). LOCK is cleared everywhere (R16).
(DEDUCED, log entry 47.) -/
def keptByReset (k : Nat) : Bool :=
  let p := k / 0x1000
  let o := k % 0x1000
  (decide (p = pSys) && decide (o = Reg.Sys.PWR_STA)) ||
  (decide (p = pLdg) && (decide (o = Reg.Ldg.RST_CAUSE) || decide (o = Reg.Ldg.AOUT_SAFE 0) ||
    decide (o = Reg.Ldg.AOUT_SAFE 1))) ||
  (decide (p = pBlv) && (decide (o = Reg.Blv.BLV_CFG) || decide (o = Reg.Blv.RCT_COR) || decide (o = Reg.Blv.RCT_UNC) ||
    decide (o = Reg.Blv.RCT_FAT) || decide (o = Reg.Blv.HIST_IDX) || decide (o = Reg.Blv.HIST_CNT) ||
    (decide (0x100 ≤ o) && decide (o < 0x140)))) ||
  ((decide (p = pHdg) || decide (p = pKsk)) && decide (o ≠ Reg.Hdr.LOCK))

/-- Of these, the registers that a loss of VDDIO18 does not reach either: those the well holds (R454 to R456), and while a field powers the
field domain those of the KSK page (R477). -/
def keptByWell (field : Bool) (k : Nat) : Bool :=
  let p := k / 0x1000
  let o := k % 0x1000
  decide (p = pHdg) && ((decide (0x040 ≤ o) && decide (o ≤ 0x05C)) || decide (o = Reg.Hdg.LIGHT_CFG) ||
    decide (o = Reg.Hdg.TEMP_CFG) || decide (o = Reg.Hdg.GLITCH_CFG)) || (field && decide (p = pKsk))

/-- The on-die memories after a reset: every SRAM cleared, the MRAM arrays kept (R61, R69).
(DEDUCED, log entry 47.) -/
def Memories.afterReset (m : Memories) : Memories :=
  { Memories.reset with
    mram := m.mram, kiosk := m.kiosk
    marks := m.marks.filter (fun e => let r := e.1 / 2 ^ 22
      (decide (5 ≤ r) && decide (r ≤ 8)) || decide (r = rgKiosk)) }

/-- The Lodge leaves a ball that its alternate had high-impedance while the main domain is in reset (R100). -/
def State.alternatesOff (s : State) : State :=
  { s with ldg.aout := s.ldg.aout.map (fun l => match l with | .alt => .z | l => l) }

/-- The main domain in reset: its registers, logic and SRAM at their reset values; what the always-on domain, the well,
the MRAM, the OTP row, the field domain and the environment hold is kept (R61).
(DESIGN CHOICE, log entry 162.) -/
def State.mainReset (s : State) : State :=
  let s := s.nvmCut.ballsSafe.alternatesOff
  { State.reset with
    regs := smKeep s.regs keptByReset
    now := s.now, freeCtr := s.freeCtr, out := s.out, kfd := s.kfd, pwr := { s.pwr with avsSilent := false, avsAsked := false }
    ldg := { s.ldg with phase := .held, t4 := false, errFatal := false, errBoot := false }
    boot := { Boot.reset with t0 := s.boot.t0 }
    gate := { Gate.reset with kept := match s.ldg.phase with
                                      | .running => s.gate.cur
                                      | .held => s.gate.kept }
    blv := { Belvedere.reset with hist := s.blv.hist, lostNext := s.blv.lostNext,
                                    incoming := s.blv.incoming.map (fun r => { r with old := true }) }
    hdg := s.hdg, well := s.well, mem := s.mem.afterReset, otp := s.otp
    ksk := s.ksk
    psh := { Shed.reset with inserted := s.psh.inserted }
    hif := { s.hif with up := false, xfer := none, dma := none }
    pending := s.pending }

/-- RST_CAUSE records a trigger (R63, R79). -/
def State.cause (s : State) (bit : Nat) : State := s.setFlag pLdg Reg.Ldg.RST_CAUSE bit true

/-- RST_CAUSE bits (R79). -/
abbrev causeBor : Nat := 1
abbrev causePin : Nat := 2
abbrev causeWdg : Nat := 3
abbrev causeLive : Nat := 4
abbrev causeBlv : Nat := 5
abbrev causeSw : Nat := 6
abbrev causeClk : Nat := 7
abbrev causeHdg : Nat := 8

/-- A device reset for a cause (R64); one that arrives while a reset is held is only recorded (R63). -/
def State.deviceReset (s : State) (bit : Nat) : State :=
  let s := s.cause bit
  match s.ldg.phase with
  | .held => s
  | .running => s.mainReset

/-- A reset with power-on reach that keeps the Lodge-held state: a brown-out (R44, R61). -/
def State.brownOutReset (s : State) : State := (s.cause causeBor).mainReset

/-- A loss of VDDIO18 clears all Lodge-held state too; RST_CAUSE then reads POR alone (R540). -/
def State.lodgeLoss (s : State) : State :=
  let m := s.mainReset
  { m with
    regs := smKeep m.regs (keptByWell m.ksk.field)
    ldg := { Lodge.reset with phase := .held, t4 := false, rstNLow := m.ldg.rstNLow
                              aout := List.replicate 32 .z }
    blv := Belvedere.reset
    gate := Gate.reset
    hdg := { Hedge.reset with active := m.hdg.active } }

/-- The held reset is released where nothing holds it: RST_N high, SYSCLK present, every supply in range and 20 µs
passed (R64). The boot sequence counts from here, and a ball that its alternate had is at its AOUT_SAFE level (R77). -/
def State.releaseReset (s : State) : State :=
  if s.ldg.t4 && !s.ldg.rstNLow && !s.pwr.sysclkLost && s.pwr.low.isEmpty && !s.pwr.vddio18Lost then
    match s.ldg.phase with
    | .running => s
    | .held =>
      ({ s with ldg.phase := .running, ldg.errLive := false, ldg.coreStopped := false, ldg.pglStopped := false
                ldg.fabStopped := false, boot.t0 := s.now }).refreshBalls.ftnStart
  else s

end Sys2Proof.Machine
end

