-- ==== Sys2Proof/Machine/Hedge.lean ====
section
/-!
DEFINITION. The Hedge: its sources and their reactions, shadow events, and backup operation (R440 to R457).
-/
namespace Sys2Proof.Machine

/-! Sources -/

/-- A source is powered off by fuse (R448). -/
def State.hdgOff (s : State) (i : Nat) : Bool :=
  let d := s.hdgDisable
  d.testBit i || (decide (i = 2) && (d.testBit 0 || d.testBit 1))

/-- A source's zeroise is forced by fuse (R447, R448). -/
def State.hdgForced (s : State) (i : Nat) : Bool := s.hdgForce.testBit i && !s.hdgOff i

/-- Sources that can act in backup (R440). -/
def hdgBackup (i : Nat) : Bool := i == 0 || i == 3 || i == 5 || i == 6

/-- The offset of SRC_CFG_s (R455). -/
def srcCfgOff (i : Nat) : Nat := 0x040 + 4 * i

/-- SRC_CFG_s as it reads and acts (R447, R448, R455). -/
def State.srcCfg (s : State) (i : Nat) : Word :=
  if s.hdgOff i then 0
  else
    let w := s.reg pHdg (srcCfgOff i)
    let w := if hdgBackup i then w else putBits w 5 5 0
    if s.hdgForced i then w ||| 0x9 else w

/-- The source is enabled. -/
def State.hdgEnabled (s : State) (i : Nat) : Bool := bitAt (s.srcCfg i) 0

/-- The page a raise fences, if any (R445, R455). -/
def State.hdgPage (s : State) (i : Nat) : Option Nat :=
  let p := bits (s.srcCfg i) 27 16
  if !bitAt (s.srcCfg i) 2 then none
  else if p ≠ 0xFFF then some p
  else if i = 7 then some (s.fld pHdg Reg.Hdg.SHD_LOG 11 0)
  else none

/-- A source is raised (R445, R447): a forced zeroise is performed at once; the report carries the other reactions. -/
def State.hdgRaise (s : State) (i : Nat) : State :=
  let c := s.srcCfg i
  let forced := s.hdgForced i
  let page := s.hdgPage i
  let want := (if page.isSome then rctFence else 0) + (if bitAt c 3 && !forced then rctZeroise else 0) +
    (if bitAt c 4 then rctReset else 0)
  let s := if forced then s.zeroise true else s
  let s := s.faultWith pHdg i 0 0 want page (bitAt c 4)
  if bitAt c 1 then (s.irq 1).emit (.msix 3) else s

/-- REF_HEDGE suppresses a source's raise while it stimulates it (R526). -/
def State.hdgSuppressed (s : State) (i : Nat) : Bool := s.hdg.suppressed.contains i

/-- Sources 0 and 1 agree, or the window of source 2 starts (R441). -/
def State.lightPair (s : State) (i : Nat) : State :=
  if !s.hdgEnabled 0 || !s.hdgEnabled 1 then s
  else match s.hdg.lightWait with
    | none => { s with hdg.lightWait := some i }
    | some j => if j = i then s else { s with hdg.lightWait := none }

/-- The condition of a source is present: it shows ACTIVE, and raises its source once (R444).
(DEDUCED, log entry 130.) -/
def State.hdgCondition (s : State) (i : Nat) : State :=
  if s.hdgOff i || s.hdgSuppressed i then s
  else
    let s := if s.hdg.active.contains i then s else { s with hdg.active := i :: s.hdg.active }
    if s.hdg.raised.contains i || !s.hdgEnabled i then s
    else
      let s := ({ s with hdg.raised := i :: s.hdg.raised }).hdgRaise i
      if i = 0 ∨ i = 1 then s.lightPair i else s

/-- The condition of a source has been absent long enough for it to be raised again (R444).
(DEDUCED, log entry 130.) -/
def State.hdgAbsent (s : State) (i : Nat) : State :=
  { s with hdg.active := s.hdg.active.filter (fun j => j ≠ i), hdg.raised := s.hdg.raised.filter (fun j => j ≠ i) }

/-- The window of source 2 has ended with one light source raised alone (R441). -/
def State.lightDisagree (s : State) : State :=
  match s.hdg.lightWait with
  | none => s
  | some _ =>
    let s := { s with hdg.lightWait := none }
    if s.hdgEnabled 2 && s.hdgEnabled 0 && s.hdgEnabled 1 && !s.hdgSuppressed 2 then s.hdgRaise 2 else s

/-- STA.BLK of the HDG page (R454). -/
def State.hdgSta (s : State) : Nat :=
  (List.range 8).foldl (fun w i => w + b2n (s.hdg.active.contains i) * 2 ^ (8 + i) + b2n (s.hdgOff i) * 2 ^ (16 + i) +
    b2n (s.hdgForce.testBit i) * 2 ^ (24 + i)) 0

/-! Shadow events -/

/-- A shadow event (R19, R449, R457): logged, counted, and source 7 is raised. -/
def State.shadowEvent (s : State) (page off case : Nat) : State :=
  let s := if case = 1 ∨ case = 3 ∨ case = 4 then s.accMark accPair else s
  let s := s.setReg pHdg Reg.Hdg.SHD_LOG (BitVec.ofNat 32 (page % 4096 + off / 4 % 2048 * 2 ^ 12 + case % 8 * 2 ^ 24))
  let s := s.countFld pHdg Reg.Hdg.SHD_CNT 15 0 1
  if s.hdgOff 7 || !s.hdgEnabled 7 || s.hdgSuppressed 7 then s else s.hdgRaise 7

/-- The continuous comparison finds a shadowed register that differs from its inverse: case 5, once per mismatch
(R449). -/
def State.shadowMismatch (s : State) (page off : Nat) : State :=
  let k := regKey page off
  if s.hdg.mismatch.contains k then s
  else
    let s := { s with hdg.mismatch := k :: s.hdg.mismatch }
    let s := if s.hdg.active.contains 7 then s else { s with hdg.active := 7 :: s.hdg.active }
    s.shadowEvent page off 5

/-- A valid pair rewrites a register: its mismatch is over (R449). -/
def State.mismatchOver (s : State) (k : Nat) : State :=
  let m := s.hdg.mismatch.filter (fun j => j ≠ k)
  let s := { s with hdg.mismatch := m }
  if m.isEmpty then { s with hdg.active := s.hdg.active.filter (fun j => j ≠ 7) } else s

/-! Backup -/

/-- The well runs from VBAT: VDDIO18 is absent (R450). -/
def State.onBackup (s : State) : Bool := s.well.onVbat

/-- The changeover to VBAT: STA_LOSS is latched where station time has been set, and the tick counter starts (R450); with VBAT
below 2.2 V nothing holds the well (R47). -/
def State.changeover (s : State) : State :=
  if !s.pwr.vbatOk then { s with well := { Well.reset with pattern := false, onVbat := true } }
  else
    { s with well.onVbat := true, well.ticks := 0
             well.staLoss := if s.sdl.state = .free then none else some s.sdl.time }

/-- A source of a set acts in backup: EN and BK_EN, not powered off (R448, R455). -/
def State.backupOn (s : State) (i : Nat) : Bool :=
  hdgBackup i && bitAt (s.srcCfg i) 0 && bitAt (s.srcCfg i) 5

/-- A backup alarm from sources of a mask at a tick count: BBR and IMP_NONCE are cleared, and a record is written where
one is free (R451, R452).
(DEDUCED, log entry 131.) -/
def State.backupAlarm (s : State) (mask ticks : Nat) : State :=
  let m := (List.range 8).foldl (fun m i => m + b2n (mask.testBit i && s.backupOn i && !s.hdg.raised.contains i) * 2 ^ i) 0
  if !s.onBackup || m = 0 then s
  else
    let s := { s with hdg.raised := (List.range 8).filter (fun i => m.testBit i || s.hdg.raised.contains i)
                      well.bbr := none, well.impNonce := none, well.zeroised := true, well.ticks := ticks }
    if s.well.records.length < 8 then
      { s with well.records := s.well.records ++ [AlarmRec.mk m ticks s.well.staLoss.isSome] }
    else { s with well.overflow := satAdd 255 s.well.overflow 1 }

/-- The backup sample of the well sensor, in 1/8 °C, at a tick count (R443); by it sources 5 and 6 count as absent later (R444).
(DEDUCED, log entry 131.) -/
def State.backupTemp (s : State) (t : Int) (ticks : Nat) : State :=
  let th := s.reg pHdg Reg.Hdg.TEMP_CFG
  let hi := (BitVec.ofNat 12 (bits th 11 0)).toInt
  let lo := (BitVec.ofNat 12 (bits th 27 16)).toInt
  let s := if s.onBackup then { s with pwr.temps := [t] } else s
  s.backupAlarm ((if hi ≤ t then 2 ^ 5 else 0) + (if t ≤ lo then 2 ^ 6 else 0)) ticks

/-- Each backup record enters the history as cause 0x33, KIND 0 of the HDG page, with its own time; the records are then
cleared and counted in BK_STA (R425, R452). -/
def State.copyRecords (s : State) : State :=
  let n := s.well.records.length
  let es := s.well.records.map (fun r =>
    Hist.mk 2 0x33 (originOf pHdg 0 0) r.mask false
      (match s.well.staLoss with
        | some t => if r.staValid then t + r.ticks * 1000000000 / 32768 else 0
        | none => 0)
      s.now s.now 1 0 0 false false)
  let s := s.setReg pHdg Reg.Hdg.BK_STA (BitVec.ofNat 32 (n + s.well.overflow * 16))
  { s with blv.hist := (es.reverse ++ s.blv.hist).take 64, well.records := [], well.overflow := 0 }

/-- The check of the well after step 2 of R69 (R453): an invalid pattern clears every well content, loads the reset
values of the held registers, and sets HDG FLT_STA bit [8]. -/
def State.wellCheck (s : State) : State :=
  if s.well.pattern then s
  else
    let s := { s with well := { Well.reset with pattern := true }, regs := smKeep s.regs (fun k => !keptByWell false k) }
    s.showWell.fault pHdg 8

end Sys2Proof.Machine
end

