-- ==== Sys2Proof/Machine/Supply.lean ====
section
/-!
DEFINITION. Supplies, reference clocks, AVS and the thermal sensors (R37 to R60, R540).
-/
namespace Sys2Proof.Machine

/-- A supply's place in PWR_STA and its BOR_SRC code less one (R44, R59). -/
def Supply.code : Supply → Nat
  | .vdd => 0 | .vdds => 1 | .vddh => 2 | .vddio18 => 3 | .vddio33 => 4 | .vmram => 5

/-- The live bits of PWR_STA (R59). -/
def State.pwrLive (s : State) : Nat :=
  [Supply.vdd, .vdds, .vddh, .vddio18, .vddio33, .vmram].foldl (fun w x =>
    w + b2n (!s.pwr.low.contains x && !(x == .vddio18 && s.pwr.vddio18Lost)) * 2 ^ x.code) 0 +
  b2n s.pwr.vbatOk * 64 + b2n s.pwr.cdVioOk * 128

/-- A supply falls below its threshold: no new MRAM erase or program starts (R44); without VDDIO33 the balls are
high-impedance (R45). -/
def State.supplyDip (s : State) (x : Supply) : State :=
  if s.pwr.low.contains x then s
  else
    let s := { s with pwr.low := x :: s.pwr.low, nvm.dip := true }
    if x = .vddio33 then s.refreshBalls else s

/-- The dip ends within 1 µs: MRAM operations resume (R44). A lost VDDIO18 comes back by a power-up alone. -/
def State.supplyBack (s : State) (x : Supply) : State :=
  if !s.pwr.low.contains x || (x == .vddio18 && s.pwr.vddio18Lost) then s
  else
    let low := s.pwr.low.filter (fun y => y ≠ x)
    let s := { s with pwr.low := low, nvm.dip := !low.isEmpty }
    let s := if x = .vddio33 then s.refreshBalls else s
    if low.isEmpty then s.nvmDipped.nvmResume else s

/-- A supply has stayed below its threshold for 1 µs: a reset with power-on reach, and BOR_SRC names the supply (R44). After a loss
of VDDIO18 the Lodge holds nothing that could record it (R540). -/
def State.brownOut (s : State) (x : Supply) : State :=
  if !s.pwr.low.contains x || s.pwr.vddio18Lost then s
  else (s.setFld pSys Reg.Sys.PWR_STA 15 12 (x.code + 1)).brownOutReset

/-- VDDIO18 is lost: the well changes over to VBAT and every Lodge-held state is cleared (R450, R540). -/
def State.vddio18Loss (s : State) : State :=
  if s.pwr.vddio18Lost then s
  else
    let low := if s.pwr.low.contains .vddio18 then s.pwr.low else .vddio18 :: s.pwr.low
    ({ s.changeover with pwr.low := low, pwr.vddio18Lost := true, hdg.raised := [] }).lodgeLoss

/-- Every supply has reached its range (R41, R42): the internal power-on reset is released; SEQ_ERR records an order
other than that of R41. VBAT, CD_VIO and the reference clocks are in range with them. The balls go to their safe levels (R77),
and the boot counts from RST_N.
(DESIGN CHOICE, log entry 177.) -/
def State.powerUp (s : State) (inOrder : Bool) : State :=
  if s.pwr.low.isEmpty && !s.pwr.vddio18Lost then s
  else
    let s := if inOrder then s else s.setFlag pSys Reg.Sys.PWR_STA 16 true
    let s := { s with pwr.low := [], pwr.vddio18Lost := false, well.onVbat := false, nvm.dip := false, ldg.t4 := true
                      pwr.vbatOk := true, pwr.cdVioOk := true, pwr.refALost := false, pwr.refBLost := false
                      hdg.raised := [], hdg.active := [] }
    s.refreshBalls.releaseReset

/-- VBAT falls below 2.2 V; where it is the only supply the well's contents are not held (R47, R453). -/
def State.vbatLoss (s : State) : State :=
  let s := { s with pwr.vbatOk := false }
  if s.onBackup then { s with well := { Well.reset with pattern := false, onVbat := true } } else s

/-- CD_VIO leaves the range CD_VSEL selects while the slot is powered (R60). -/
def State.cdVioOut (s : State) : State :=
  let s := { s with pwr.cdVioOk := false }
  if s.psh.pwrEn then s.fault pSys 5 else s

/-! Reference clocks -/

/-- The lanes a reference clock serves: REFCLK_A lanes 0–31, REFCLK_B lanes 32–63 (R49). -/
def refLanes (b : Bool) : List Nat := (List.range 32).map (fun n => if b then n + 32 else n)

/-- A lane's link status, SIG_DET, CDR_LOCK, BLK_LOCK, LINK and FEC_ALIGN, taken away (R176). -/
def State.laneDown (s : State) (n : Nat) : State := s.setFld (pLne n) Reg.Hdr.STA 12 9 0

/-- A port's LINK and SPEED cleared (R188). -/
def State.portDown (s : State) (port : Nat) : State :=
  s.setFld (portPage port) (Reg.Prc.PORT_STA (port % 16)) 3 0 0

/-- A lane loses its link: LNE FLT_STA bit [1] where it had one, and its ports go down (R177).
(DEDUCED, log entry 54.) -/
def State.laneLost (s : State) (n : Nat) : State :=
  let had := s.flag (pLne n) Reg.Hdr.STA 11
  let s := (lanePorts (s.laneMode n) n).foldl (fun s p => s.portDown p) (s.laneDown n)
  if had then s.fault (pLne n) 1 else s

/-- REFCLK_A or REFCLK_B is lost: the lanes it serves (R50, R60, R177). -/
def State.refLanesLost (s : State) (b : Bool) : State :=
  let s := if b then { s with pwr.refBLost := true } else { s with pwr.refALost := true }
  let s := s.fault pSys (if b then 3 else 2)
  (refLanes b).foldl (fun s n =>
    if s.laneMode n = 0 then s else (s.laneLost n).fault (pLne n) 2) s

/-- SYSCLK is lost (R50): ERR_N, the safe levels, and a device reset held until it has recovered. The Belvedere hears of
cause 0x34 (R421). -/
def State.sysclkLoss (s : State) : State :=
  if s.pwr.sysclkLost || s.pwr.vddio18Lost then s
  else
    let s := { s with pwr.sysclkLost := true }
    let s := s.reportCode pLdg 0 0 0x34 3 0 false
    let s := s.deviceReset causeClk
    { s with ldg.errLive := true }

/-- SYSCLK has run for 4,096 cycles: the held reset is released, and SYS FLT_STA bit [4] is set (R50, R60). -/
def State.sysclkBack (s : State) : State :=
  if !s.pwr.sysclkLost then s
  else
    let s := ({ s with pwr.sysclkLost := false, ldg.t4 := true }).releaseReset
    s.fault pSys 4

/-- REF10M lost: the Sundial leaves it as holdover source (R50, R119). -/
def State.ref10mLoss (s : State) : State :=
  if s.pwr.ref10mLost then s else ({ s with pwr.ref10mLost := true }).sdlEvent 7

/-- REF10M is present again (R90). -/
def State.ref10mBack (s : State) : State := { s with pwr.ref10mLost := false }

/-! AVS -/

/-- A setpoint no more than 10 mV from the last one and within 720 to 800 mV (R38, R39).
(DEDUCED, log entry 45.) -/
def avsStep (last mv : Nat) : Nat := max 720 (min 800 (min (last + 10) (max (last - 10) mv)))

/-- A request for a setpoint is sent (R39, R58). -/
def State.avsSend (s : State) (mv : Nat) : State :=
  let mv := avsStep (s.fld pSys Reg.Sys.AVS_STA 9 0) mv
  { (s.setFld pSys Reg.Sys.AVS_STA 9 0 mv).emit (.avs mv) with pwr.avsAsked := true }

/-- An AVSBus request, acknowledged (R39, R58): the setpoint is sent unless the first request went unanswered.
(DEDUCED, log entry 45.) -/
def State.avsRequest (s : State) (mv : Nat) : State :=
  if s.pwr.avsSilent then s
  else ((s.avsSend mv).setFlag pSys Reg.Sys.AVS_STA 16 true).setFlag pSys Reg.Sys.AVS_STA 17 false

/-- The regulator does not answer a request (R39, R58, R60): AVS_ERR. Where it was the first since the reset the board has none:
VDD_REQ 800 mV and no further request until the next device reset.
(DEDUCED, log entry 45.) -/
def State.avsNoAck (s : State) : State :=
  if s.pwr.avsSilent then s
  else
    let first := !s.pwr.avsAsked
    let (mv, s) := s.drawNat
    let s := s.avsSend mv
    let s := if first then { s.setFld pSys Reg.Sys.AVS_STA 9 0 800 with pwr.avsSilent := true } else s
    ((s.setFlag pSys Reg.Sys.AVS_STA 16 false).setFlag pSys Reg.Sys.AVS_STA 17 true).fault pSys 1

/-! Thermal sensors -/

/-- A 12-bit temperature as a signed number of 1/8 °C (R56). -/
def temp12 (v : Nat) : Int := (BitVec.ofNat 12 v).toInt

/-- The hottest reading and its sensor.
(DESIGN CHOICE, log entry 161.) -/
def hottest : List Int → Nat → Option (Nat × Int)
  | [], _ => none
  | t :: ts, i => match hottest ts (i + 1) with
    | none => some (i, t)
    | some (j, u) => if t < u then some (j, u) else some (i, t)

/-- Sources 5 and 6 count as absent once every reading is 5 °C inside their threshold (R444). -/
def State.tempInside (s : State) (i : Nat) : Bool :=
  if i = 5 then s.pwr.temps.all (fun u => decide (u + 40 ≤ temp12 (s.fld pHdg Reg.Hdg.TEMP_CFG 11 0)))
  else if i = 6 then s.pwr.temps.all (fun u => decide (temp12 (s.fld pHdg Reg.Hdg.TEMP_CFG 27 16) + 40 ≤ u))
  else true

/-- Source 5 or 6 no longer shows ACTIVE once its condition is absent; it may raise again only after `hdgAbsent` (R444). -/
def State.tempGone (s : State) (i : Nat) : State :=
  if s.tempInside i then { s with hdg.active := s.hdg.active.filter (fun j => j ≠ i) } else s

/-- The eight sensors are converted (R55 to R57): TEMP_MAX, THERM_N with SYS FLT_STA bit [0], and Hedge sources 5 and 6
(R440). -/
def State.tempConversion (s : State) (ts : List Int) : State :=
  match hottest ts 0 with
  | none => s
  | some (i, t) =>
    let s := { s with pwr.temps := ts }
    let s := s.setReg pSys Reg.Sys.TEMP_MAX (BitVec.ofNat 32 ((BitVec.ofInt 12 t).toNat + i * 2 ^ 12 + 2 ^ 31))
    let al := temp12 (s.fld pSys Reg.Sys.THERM_CFG 11 0)
    let cl := temp12 (s.fld pSys Reg.Sys.THERM_CFG 27 16)
    let s := if s.pwr.thermLow then (if (if cl < al then t < cl else t < al) then { s with pwr.thermLow := false } else s)
      else if al ≤ t then ({ s with pwr.thermLow := true }).fault pSys 0 else s
    let s := if ts.any (fun u => decide (temp12 (s.fld pHdg Reg.Hdg.TEMP_CFG 11 0) ≤ u)) then s.hdgCondition 5 else s.tempGone 5
    if ts.any (fun u => decide (u ≤ temp12 (s.fld pHdg Reg.Hdg.TEMP_CFG 27 16))) then s.hdgCondition 6 else s.tempGone 6

end Sys2Proof.Machine
end

