-- ==== Sys2Proof/Machine/Lanes.lean ====
section
/-!
DEFINITION. The main lanes and their ports: the lane plan and its checks (R141 to R145), lane and port status (R176, R177,
R188), and which ports carry traffic.
-/
namespace Sys2Proof.Machine

/-- The FLY page of a port, and a per-port register of it (R191). -/
def flyPage (port : Nat) : Nat := pFly (port / 16)
def State.flyReg (s : State) (port off : Nat) : Word := s.reg (flyPage port) (0x100 + 0x40 * (port % 16) + off)

/-- The FEC choices of R141, by LN_MODE.MODE; a lane set to another runs without FEC.
(DEDUCED, log entry 55.) -/
def fecOk (mode fec : Nat) : Bool :=
  decide (fec = 0) || (decide (fec = 1) && (mode == 4 || mode == 5)) || (decide (fec = 2) && (mode == 5 || mode == 6))

/-- LN_MODE.FEC of a lane. -/
def State.laneFec (s : State) (n : Nat) : Nat := s.fld (pLne n) Reg.Lne.LN_MODE 5 4

/-- The lanes of group g that break a rule of R142.
(DEDUCED, log entry 55.) -/
def State.badLanes (s : State) (g : Nat) : List Nat :=
  let lanes := (List.range 4).map (4 * g + ·)
  let member := lanes.any (fun n => s.laneMode n == 6)
  let rs := lanes.filter (fun n => s.laneMode n == 5 && s.laneFec n == 2)
  lanes.filter (fun n =>
    (member && (s.laneMode n != 6 || s.laneFec n != s.laneFec (4 * g))) ||
    (rs.drop 2).contains n)

/-- The check of a cluster enable: FLT_STA bit [4] of each offending lane, and whether it passes (R142). -/
def State.clusterCheck (s : State) (g : Nat) : Bool × State :=
  let bad := s.badLanes g
  (bad.isEmpty, bad.foldl (fun s n => s.fault (pLne n) 4) s)

/-- A compare group is claimed by another page than p (R113). -/
def State.groupElsewhere (s : State) (p g : Nat) : Bool :=
  (decide (p ≠ pSdl) && s.flag pSdl Reg.Hdr.CLAIM g) || (decide (p ≠ pPrm) && s.flag pPrm Reg.Hdr.CLAIM g) ||
  (List.range 16).any (fun c => decide (p ≠ pFly c) && s.flag (pFly c) Reg.Hdr.CLAIM g)

/-- The port is in TEST (R169). -/
def State.inTest (s : State) (port : Nat) : Bool := decide (s.portState port = 2)

/-- A frame dropped on a port: DROP_CNT (R146, R188). -/
def State.dropOn (s : State) (port : Nat) : State :=
  s.countFld (portPage port) (Reg.Prc.PORT_STA (port % 16)) 31 16 1

/-- A port's MAC rate in Mbit/s, by PORT_STA.SPEED (R188). -/
def speedMbit (speed : Nat) : Nat :=
  if speed = 1 then 10 else if speed = 2 then 100 else if speed = 3 then 1000 else if speed = 4 then 10000
  else if speed = 5 then 25000 else if speed = 6 then 100000 else 0

/-- A port's current rate in Mbit/s. -/
def State.portRate (s : State) (port : Nat) : Nat := speedMbit (bits (s.portReg port 4) 3 1)

/-- The MAC rate in Mbit/s that the enable check takes for a port: the lane mode's, 1,000 for SGMII and QSGMII (R141, R543).
(DEDUCED, log entries 56, 182.) -/
def State.planRate (s : State) (port : Nat) : Nat :=
  let m := s.laneMode (port / 4)
  if 1 ≤ m ∧ m ≤ 3 then 1000 else if m = 4 then 10000 else if m = 5 then 25000 else if m = 6 then 100000 else 0

/-- The SPEED code that a lane mode fixes; SGMII and QSGMII take it from in-band status (R141, R145).
(DEDUCED, log entry 56.) -/
def modeSpeed (mode : Nat) : Option Nat :=
  if mode = 1 then some 3 else if mode = 4 then some 4 else if mode = 5 then some 5 else if mode = 6 then some 6
  else none

/-- LINK and SPEED of a port take values; a fenced port reads LINK 0 (R188, R429). -/
def State.setPortLink (s : State) (port : Nat) (link : Bool) (speed : Nat) : State :=
  let up := link && !s.fencedItem 4 port
  s.setFld (portPage port) (Reg.Prc.PORT_STA (port % 16)) 3 0 (if up then 1 + 2 * speed else 0)

/-- A lane reports its link (R176). -/
def State.laneLinked (s : State) (n : Nat) : Bool := s.flag (pLne n) Reg.Hdr.STA 11

/-- The ports of a lane follow its link, where the lane mode alone decides (R176, R188). -/
def State.portsFollow (s : State) (n : Nat) : State :=
  let m := s.laneMode n
  match modeSpeed m with
  | some sp =>
    let up := if m = 6 then (List.range 4).all (fun i => s.laneLinked (n / 4 * 4 + i)) else s.laneLinked n
    (lanePorts m n).foldl (fun s p => s.setPortLink p up sp) s
  | none => if s.laneLinked n then s else (lanePorts m n).foldl (fun s p => s.portDown p) s

/-- The reference clock of a lane is present (R142, R50). -/
def State.laneClocked (s : State) (n : Nat) : Bool := !(if n < 32 then s.pwr.refALost else s.pwr.refBLost)

/-- A lane's signal, CDR lock, block lock, link and FEC alignment take the values seen; FEC codewords since the last
report are counted (R176, R177, R181). A lane that is disabled, in a disabled cluster or without its reference clock shows
none of them.
(DEDUCED, log entry 54.) -/
def State.laneSignal (s : State) (n : Nat) (sig cdr blk link fec : Bool) (corr uncorr : Nat) : State :=
  let use := decide (s.laneMode n ≠ 0) && s.enabled (pPrc (n / 4))
  let live := use && s.laneClocked n
  let had := s.flag (pLne n) Reg.Hdr.STA 8
  let linked := s.laneLinked n
  let v := b2n sig + 2 * b2n cdr + 4 * b2n blk + 8 * b2n link + 16 * b2n (fec || s.laneFec n == 0 || !fecOk (s.laneMode n) (s.laneFec n))
  let s := s.setFld (pLne n) Reg.Hdr.STA 12 8 (if live then v else 0)
  let s := if use && had && !(live && sig) then s.fault (pLne n) 0 else s
  let s := if linked && !(live && link) then s.fault (pLne n) 1 else s
  let s := (s.countFld (pLne n) Reg.Lne.LN_ERR 15 0 corr).countFld (pLne n) Reg.Lne.LN_ERR 31 16 uncorr
  let s := if uncorr = 0 then s else s.fault (pLne n) 3
  s.portsFollow n

/-- The in-band status of an SGMII or QSGMII port changes its speed or link; a QSGMII port runs at 1 Gbit/s (R141,
R145). -/
def State.phyStatus (s : State) (port : Nat) (link : Bool) (speed : Nat) : State :=
  let m := s.laneMode (port / 4)
  if (m = 2 ∨ m = 3) ∧ s.portExists port ∧ s.enabled (portPage port) then
    s.setPortLink port (link && s.laneLinked (port / 4)) (if m = 3 then 3 else speed)
  else s

/-- A cluster is disabled: its lanes and ports lose their link. -/
def State.clusterOff (s : State) (g : Nat) : State :=
  (List.range 4).foldl (fun s i =>
    let n := 4 * g + i
    ((s.setFld (pLne n) Reg.Hdr.STA 12 8 0).portsFollow n)) s

end Sys2Proof.Machine
end

