-- ==== Sys2Proof/Machine/Walker.lean ====
section
/-!
DEFINITION. The frame-format walker of the Parterre (R192 to R197): the choice of a format slot, the steps, and the
records a walk delivers.
-/
namespace Sys2Proof.Machine

/-- A walk in progress: cursor, V0–V3, ends of the open constructs (innermost first), and the fields emitted. -/
structure Walk where
  cursor : Nat
  v : List Word
  ends : List Nat
  appid : Nat
  sim : Bool
  tag : Option (List Byte)
  keyId : Option Nat
  iv : List Byte
  covStart : Nat
  covEnd : Nat
  svid : List Byte
  gocbRef : List Byte
  datSet : List Byte
  confRev : Nat
  smpCnt : Nat
  smpSynch : Nat
  stNum : Nat
  sqNum : Nat
  tal : Nat
  ndsCom : Bool
  nds : Nat
  values : List (Nat × Word)
  quals : List (Nat × Word)
  entries : List (Nat × Word)
  /-- SV records closed by ASDU_END, in order. -/
  records : List SvRecord
  deriving DecidableEq, Repr

/-- The walk at step 0: the cursor on the first octet of the destination address (R193). -/
def Walk.start : Walk :=
  { cursor := 0, v := [0, 0, 0, 0], ends := [], appid := 0, sim := false, tag := none, keyId := none, iv := []
    covStart := 0, covEnd := 0, svid := [], gocbRef := [], datSet := [], confRev := 0, smpCnt := 0, smpSynch := 0
    stNum := 0, sqNum := 0, tal := 0, ndsCom := false, nds := 0, values := [], quals := [], entries := []
    records := [] }

/-- How a walk ends: accepted with its kind, rejected at a step with its cause, or stopped by a poisoned step. -/
inductive WalkEnd where
  | accept (kind : Nat)
  | reject (step cause : Nat)
  | poisoned
  deriving DecidableEq, Repr

/-- What one step does: the walk goes on at a step, ends, or is rejected with a cause (R195, R196). -/
inductive WalkNext where
  | go (step : Nat) (w : Walk)
  | done (kind : Nat)
  | bad (cause : Nat)

/-- Causes of R196. -/
abbrev fmtBounds : Nat := 0xF0
abbrev fmtSteps : Nat := 0xF1
abbrev fmtDepth : Nat := 0xF2
abbrev fmtBad : Nat := 0xF3
abbrev fmtBranch : Nat := 0xF4

/-- The end of the innermost open construct, or of the frame. -/
def Walk.limit (w : Walk) (f : List Byte) : Nat :=
  match w.ends with
  | e :: _ => min e f.length
  | [] => f.length

/-- n octets at offset a, where they lie inside. -/
def Walk.octets (w : Walk) (f : List Byte) (a n : Nat) : Option (List Byte) :=
  if a + n ≤ w.limit f then some ((f.drop a).take n) else none

/-- The BER tag at offset a, of one or two octets, and the offset after it. -/
def Walk.berTag (w : Walk) (f : List Byte) (a : Nat) : Option (Nat × Nat) :=
  match w.octets f a 1 with
  | none => none
  | some b =>
    let t := beNat b
    if t % 32 ≠ 31 then some (t, a + 1)
    else match w.octets f a 2 with
      | none => none
      | some b2 => if beNat b2 % 256 < 128 then some (beNat b2, a + 2) else none

/-- The BER definite length at offset a, of one to five octets, and the offset after it. -/
def Walk.berLen (w : Walk) (f : List Byte) (a : Nat) : Option (Nat × Nat) :=
  match w.octets f a 1 with
  | none => none
  | some b =>
    let l := beNat b
    if l < 128 then some (l, a + 1)
    else if l = 128 ∨ 132 < l then none
    else match w.octets f (a + 1) (l - 128) with
      | none => none
      | some bs => some (beNat bs, a + 1 + (l - 128))

/-- The TLV at offset a: its tag, and the offsets of its content and of its end. -/
def Walk.tlv (w : Walk) (f : List Byte) (a : Nat) : Option (Nat × Nat × Nat) :=
  match w.berTag f a with
  | none => none
  | some (t, b) => match w.berLen f b with
    | none => none
    | some (l, c) => some (t, c, c + l)

/-- The first TLV from offset a on that carries the tag; `none` inside where none is found, `none` outside where
the walk would read beyond the construct. -/
def Walk.findTag (w : Walk) (f : List Byte) (tag : Nat) : Nat → Nat → Option (Option (Nat × Nat))
  | 0, _ => some none
  | fuel + 1, a =>
    if w.limit f ≤ a then some none
    else match w.tlv f a with
      | none => none
      | some (t, c, e) => if t = tag then some (some (c, e)) else w.findTag f tag fuel e

/-- A branch to NEXT (R194). -/
def branchTo (next : Nat) (w : Walk) : WalkNext := if next < 64 then .go next w else .bad fmtBranch

/-- A construct is opened, the ninth refused (R196). -/
def Walk.descend (w : Walk) (c e pc : Nat) : WalkNext :=
  if 8 ≤ w.ends.length then .bad fmtDepth else .go (pc + 1) { w with cursor := c, ends := e :: w.ends }

/-- The record that ASDU_END closes (R197). -/
def Walk.close (w : Walk) : Walk :=
  let r : SvRecord := ⟨w.appid, w.svid, w.confRev, w.smpCnt, w.smpSynch, w.sim, w.values, w.quals⟩
  { w with records := w.records ++ [r], svid := [], confRev := 0, smpCnt := 0, smpSynch := 0, values := [], quals := [] }

/-- A field with an index emitted from octets (R197); a code outside the list has no effect. -/
def Walk.emit (w : Walk) (code idx : Nat) (bs : List Byte) : Walk :=
  let v := beNat bs
  let n := v % 2 ^ 32
  let word : Word := BitVec.ofNat 32 v
  if code = 0x01 then { w with appid := v % 2 ^ 16 }
  else if code = 0x02 then { w with svid := bs }
  else if code = 0x03 then { w with gocbRef := bs }
  else if code = 0x04 then { w with datSet := bs }
  else if code = 0x06 then { w with confRev := n }
  else if code = 0x07 then { w with smpCnt := n }
  else if code = 0x08 then { w with smpSynch := n }
  else if code = 0x0A then { w with sim := decide (v ≠ 0) }
  else if code = 0x0B then { w with stNum := n }
  else if code = 0x0C then { w with sqNum := n }
  else if code = 0x0D then { w with tal := n }
  else if code = 0x0E then { w with ndsCom := decide (v ≠ 0) }
  else if code = 0x0F then { w with nds := n }
  else if code = 0x10 then { w with values := (idx, word) :: w.values.filter (fun e => e.1 ≠ idx) }
  else if code = 0x11 then { w with quals := (idx, word) :: w.quals.filter (fun e => e.1 ≠ idx) }
  else if code = 0x12 then
    { w with entries := (idx, BitVec.ofNat 32 (beNat (bs.take 4))) :: w.entries.filter (fun e => e.1 ≠ idx) }
  else if code = 0x13 then w.close
  else if code = 0x14 then { w with tag := some bs }
  else if code = 0x15 then { w with keyId := some n }
  else if code = 0x16 then { w with covStart := v }
  else if code = 0x17 then { w with covEnd := v }
  else if code = 0x18 then { w with iv := bs }
  else w

/-- An ID field of more than 129 octets rejects the walk (R197). -/
def emitOk (code : Nat) (bs : List Byte) : Bool := !(decide (2 ≤ code) && decide (code ≤ 5)) || decide (bs.length ≤ 129)

/-- EMIT of a field, the cursor moved to `cur`.
(DEDUCED, log entry 65.) -/
def Walk.emitAt (w : Walk) (pc arg cur : Nat) (bs : List Byte) : WalkNext :=
  let code := arg / 256
  if emitOk code bs then .go (pc + 1) ({ w with cursor := cur }.emit code (arg % 256) bs) else .bad fmtBounds

/-- One step of a walk (R194, R195).
(DEDUCED, log entry 65.) -/
def Walk.step (w : Walk) (f : List Byte) (pc inst : Nat) : WalkNext :=
  let op := inst >>> 61
  let wid := inst >>> 59 % 4 + 1
  let reg := inst >>> 57 % 4
  let mode := inst >>> 55 % 4
  let next := inst >>> 48 % 128
  let arg := inst >>> 32 % 65536
  let imm := inst % 2 ^ 32
  let vr := nth w.v reg 0
  let put (x : Nat) (w : Walk) : Walk := { w with v := setNth w.v reg (BitVec.ofNat 32 x) }
  if op = 0 then .done (arg % 4)
  else if op = 1 then
    if mode ≤ 1 then match w.octets f (w.cursor + arg) wid with
      | none => .bad fmtBounds
      | some bs => .go (pc + 1) (put (beNat bs) (if mode = 1 then { w with cursor := w.cursor + arg + wid } else w))
    else match (if mode = 2 then w.berLen f w.cursor else w.berTag f w.cursor) with
      | none => .bad fmtBounds
      | some (x, c) => .go (pc + 1) (put x { w with cursor := c })
  else if op = 2 then
    let x := vr.toNat % 256 ^ wid
    let taken := if mode = 0 then decide (x ≠ imm) else if mode = 1 then decide (x = imm)
      else if mode = 2 then decide (imm ≤ x) else true
    if taken then branchTo next w else .go (pc + 1) w
  else if op = 3 then
    if mode = 0 then .go (pc + 1) { w with cursor := w.cursor + arg }
    else if mode = 1 then .go (pc + 1) { w with cursor := w.cursor + vr.toNat + arg }
    else if mode = 2 then match w.tlv f w.cursor with
      | none => .bad fmtBounds
      | some (_, _, e) => .go (pc + 1) { w with cursor := e }
    else match w.ends with
      | [] => .go (pc + 1) { w with cursor := f.length }
      | e :: es => .go (pc + 1) { w with cursor := e, ends := es }
  else if op = 4 then
    if mode = 2 then match w.findTag f arg (f.length + 1) w.cursor with
      | none => .bad fmtBounds
      | some none => branchTo next w
      | some (some (c, e)) => w.descend c e pc
    else
      let miss (w : Walk) : WalkNext := if mode = 1 then .go (pc + 1) (put 0 w) else branchTo next w
      match w.tlv f w.cursor with
        | none => .bad fmtBounds
        | some (t, c, e) =>
          if t = arg then (if mode = 1 then put 1 w else w).descend c e pc else miss w
  else if op = 5 then
    if mode = 0 then match w.octets f w.cursor wid with
      | none => .bad fmtBounds
      | some bs => w.emitAt pc arg (w.cursor + wid) bs
    else if mode = 1 then w.emitAt pc arg w.cursor (natOctetsBE wid (vr.toNat % 256 ^ wid))
    else if mode = 2 then match w.tlv f w.cursor with
      | none => .bad fmtBounds
      | some (_, c, e) => match w.octets f c (e - c) with
        | none => .bad fmtBounds
        | some bs => w.emitAt pc arg e bs
    else w.emitAt pc arg w.cursor (natOctetsBE 4 w.cursor)
  else if op = 6 then .bad (imm % 256)
  else .bad fmtBad

/-- The octet offset of a format step in the table memory (R194, R293). -/
def stepOffset (slot step : Nat) : Nat := 0x7C0000 + slot * 512 + step * 8

/-- The walk of a frame against a slot, from a step on, over at most `fuel` steps (R195, R196). A poisoned step stops it
(R417). -/
def State.walkFrom (s : State) (f : List Byte) (slot : Nat) : Nat → Nat → Walk → WalkEnd × Walk × State
  | 0, pc, w => (.reject pc fmtSteps, w, s)
  | fuel + 1, pc, w =>
    if 64 ≤ pc then (.reject 63 fmtBranch, w, s)
    else
      let (bs, p, s) := s.readMem rgTable (stepOffset slot pc) 8
      if p then (.poisoned, w, s.poisonRead rgTable (stepOffset slot pc) 8 true)
      else match w.step f pc (leNat bs) with
        | .go pc' w' => s.walkFrom f slot fuel pc' w'
        | .done k => (.accept k, w, s)
        | .bad c => (.reject pc c, w, s)

/-- The EtherType after any 802.1Q tag, and the offset after it (R193). -/
def etherType (f : List Byte) : Nat × Nat :=
  let t := beNat ((f.drop 12).take 2)
  if t = 0x8100 then (beNat ((f.drop 16).take 2), 18) else (t, 14)

/-- The UDP destination port of an IPv4 or IPv6 frame whose IP header starts at offset a (R193). -/
def udpPort (f : List Byte) (etype a : Nat) : Option Nat :=
  if etype = 0x0800 then
    if nth f (a + 9) 0 = 17 then some (beNat ((f.drop (a + (nth f a 0).toNat % 16 * 4 + 2)).take 2)) else none
  else if nth f (a + 6) 0 = 17 then some (beNat ((f.drop (a + 42)).take 2)) else none

/-- A format slot fits a frame (R193). -/
def State.slotFits (s : State) (f : List Byte) (n : Nat) : Bool :=
  let m := s.reg pPtr0 (Reg.Ptr0.FMT_MATCH n)
  let (et, a) := etherType f
  decide (bits m 15 0 ≠ 0) && decide (bits m 15 0 = et) &&
    (if et = 0x0800 ∨ et = 0x86DD then match udpPort f et a with
      | none => false
      | some p => decide (bits m 31 16 = 0) || decide (bits m 31 16 = p)
     else true)

/-- The lowest-numbered slot that fits a frame (R193). -/
def State.formatSlot (s : State) (f : List Byte) : Option Nat := (List.range 32).find? (s.slotFits f)

/-- A walk of a frame against a slot. -/
def State.walk (s : State) (f : List Byte) (slot : Nat) : WalkEnd × Walk × State := s.walkFrom f slot 512 0 Walk.start

/-- The SV records of an accepted walk, with the frame's header fields (R197). -/
def Walk.svRecords (w : Walk) : List SvRecord := w.records.map (fun r => { r with appid := w.appid, sim := w.sim })

/-- The GOOSE record of an accepted walk. -/
def Walk.gooseRecord (w : Walk) : GooseRecord :=
  ⟨w.appid, w.gocbRef, w.datSet, w.confRev, w.stNum, w.sqNum, w.tal, w.ndsCom, w.nds, w.sim, w.entries⟩

/-- The security fields of an accepted walk, and the octets they cover (R200).
(PRESUMED, log entry 70.) -/
def Walk.security (w : Walk) (f : List Byte) : WalkedTag :=
  ⟨w.tag, w.keyId, w.iv, (f.drop w.covStart).take (w.covEnd - w.covStart)⟩

/-- The offset of the payload of a UDP frame to port 102, where the session header of a routable frame starts (R192). -/
def sessionAt (f : List Byte) : Option Nat :=
  let (et, a) := etherType f
  match udpPort f et a with
  | some 102 =>
    if et = 0x0800 then some (a + (nth f a 0).toNat % 16 * 4 + 8) else if et = 0x86DD then some (a + 48) else none
  | _ => none

/-- The offset of the payload that a session header precedes: payload type, simulation, APPID, length and APDU. -/
def payloadAt (f : List Byte) (u : Nat) : Nat := u + 6 + (nth f (u + 1) 0).toNat

/-- The offset of a frame's SV APDU: on EtherType 0x88BA, or in a routable frame. -/
def apduAt (f : List Byte) : Option Nat :=
  let (et, a) := etherType f
  if et = 0x88BA then some (a + 8) else (sessionAt f).map (fun u => payloadAt f u + 6)

/-- The noASDU of an SV APDU (savPdu 0x60, noASDU 0x80) (R202). -/
def noAsdu (f : List Byte) : Option Nat :=
  match apduAt f with
  | none => none
  | some o => match Walk.start.tlv f o with
    | some (0x60, c, _) => match Walk.start.tlv f c with
      | some (0x80, c', e') => some (beNat ((f.drop c').take (e' - c')))
      | _ => none
    | _ => none

/-! Subscription entries -/

/-- Word w of SV subscription i (R226). -/
def State.svCfg (s : State) (i w : Nat) : Word := smGet (fun _ => 0) s.ptr.cfg1 (i * 32 + w)
/-- Word w of GOOSE subscription i (R227); word 6 to 9 bytes reset to 0xFF. -/
def gooseDflt (k : Nat) : Word := if 6 ≤ k % 32 ∧ k % 32 ≤ 9 then 0xFFFFFFFF else 0
def State.gooseCfg (s : State) (i w : Nat) : Word := smGet gooseDflt s.ptr.cfg2 (i * 32 + w)

/-- The octets of an ID field: ID_LEN in [7:0], ID_OFS in [24:8], in the ID store (R225, R293). -/
def State.idOctets (s : State) (field : Word) : List Byte :=
  s.peekMem rgTable (0x700000 + 8 * bits field 24 8) (bits field 7 0)

/-- Indices of the SV entries configured, ascending. -/
def State.svEntries (s : State) : List Nat :=
  (s.ptr.cfg1.filter (fun e => decide (e.1 % 32 = 0) && bitAt e.2 0)).map (fun e => e.1 / 32)
/-- Indices of the GOOSE entries configured, ascending. -/
def State.gooseEntries (s : State) : List Nat :=
  (s.ptr.cfg2.filter (fun e => decide (e.1 % 32 = 0) && bitAt e.2 0)).map (fun e => e.1 / 32)

/-- SV entries enabled for a format slot and APPID (R202). -/
def State.svByApp (s : State) (slot appid : Nat) : List Nat :=
  s.svEntries.filter (fun i =>
    decide (bits (s.svCfg i 0) 5 1 = slot) && decide (bits (s.svCfg i 0) 31 16 = appid))
/-- GOOSE entries enabled for a format slot and APPID (R211). -/
def State.gooseByApp (s : State) (slot appid : Nat) : List Nat :=
  s.gooseEntries.filter (fun i =>
    decide (bits (s.gooseCfg i 0) 5 1 = slot) && decide (bits (s.gooseCfg i 0) 31 16 = appid))

/-- The SV entry a record matches (R202). -/
def State.svMatch (s : State) (slot : Nat) (r : SvRecord) : Option Nat :=
  (s.svByApp slot r.appid).find? (fun i => s.idOctets (s.svCfg i 6) = r.svid)
/-- The GOOSE entry a record matches on gocbRef (R211). -/
def State.gooseMatch (s : State) (slot : Nat) (r : GooseRecord) : Option Nat :=
  (s.gooseByApp slot r.appid).find? (fun i => s.idOctets (s.gooseCfg i 4) = r.gocbRef)

/-- AUTH of an SV or GOOSE entry (R226, R227). -/
def State.svAuth (s : State) (i : Nat) : Bool := bitAt (s.svCfg i 1) 21
def State.gooseAuth (s : State) (i : Nat) : Bool := bitAt (s.gooseCfg i 2) 8

/-- A frame whose records match a subscription that carries an IEC 62351-6 tag (R159): the walk leaves no trace. -/
def State.authSubscribed (s : State) (f : List Byte) : Bool :=
  match s.formatSlot f with
  | none => false
  | some slot => match s.walk f slot with
    | (.accept 0, w, _) => w.svRecords.any (fun r => match s.svMatch slot r with
      | some i => s.svAuth i
      | none => false)
    | (.accept 1, w, _) => match s.gooseMatch slot w.gooseRecord with
      | some i => s.gooseAuth i
      | none => false
    | _ => false

end Sys2Proof.Machine
end

