-- ==== Sys2Proof/Machine/Folly.lean ====
section
/-!
DEFINITION. Folly, the per-port link fault injection (R169 to R174, R191).
-/
namespace Sys2Proof.Machine

/-- The AUX quarter q's holder: 0 none, 1 the PRM fabric page, 2 the FLY page of `page`, 3 another FLY page (R167,
R168). -/
def State.quarterOwner (s : State) (q page : Nat) : Nat :=
  if s.flag pPrm Reg.Hdr.CLAIM (16 + q) then 1
  else if s.flag page Reg.Hdr.CLAIM (16 + q) then 2
  else if (List.range 16).any (fun c => s.flag (pFly c) Reg.Hdr.CLAIM (16 + q)) then 3
  else 0

/-- The program of a port. -/
def State.follyRun (s : State) (port : Nat) : Option FollyRun := (s.prm.folly.find? (fun e => e.1 = port)).map (·.2)

/-- The program of a port replaced. -/
def State.setFolly (s : State) (port : Nat) (r : Option FollyRun) : State :=
  let rest := s.prm.folly.filter (fun e => e.1 ≠ port)
  match r with
  | none => { s with prm.folly := rest }
  | some r => { s with prm.folly := (port, r) :: rest }

/-- One step of the shift register, x³² + x²² + x² + x + 1 in Galois form (R172). -/
def lfsrStep (x : Word) : Word := (x >>> 1) ^^^ (if x.getLsbD 0 then 0x80200003 else 0)

/-- n steps. -/
def lfsrSteps : Nat → Word → Word
  | 0, x => x
  | n + 1, x => lfsrSteps n (lfsrStep x)

/-- The shift register of a port, 1 where nothing has loaded it. -/
def State.lfsr (s : State) (port : Nat) : Word := smGet (fun _ => 1) s.prm.lfsr port
def State.setLfsr (s : State) (port : Nat) (x : Word) : State :=
  { s with prm.lfsr := smSet (fun _ => 1) s.prm.lfsr port x }

/-- The shift registers of a FLY page's ports after its reset: loaded from FLY_SEED's reset value, 1 (R172, R191). -/
def State.lfsrReset (s : State) (g : Nat) : State := { s with prm.lfsr := smKeep s.prm.lfsr (fun k => k / 16 ≠ g) }

/-- FLY_SEED written: the register is loaded, a seed of 0 acting as 1 (R172). -/
def State.follySeed (s : State) (port : Nat) (v : Word) : State := s.setLfsr port (if v = 0 then 1 else v)

/-- n is a multiple of N, and N is not 0. -/
def everyNth (n m : Nat) : Bool := decide (m ≠ 0) && decide (n % m = 0)

/-- A frame with FCS, its FCS recomputed. -/
def withFcs (body : List Byte) : List Byte := body ++ natOctets 4 (crc32 body)
def refreshFcs (f : List Byte) : List Byte := withFcs (f.take (f.length - 4))
/-- A frame's FCS is good. -/
def fcsGood (f : List Byte) : Bool := decide (4 ≤ f.length) && decide (refreshFcs f = f)

/-- Octets OFFSET to OFFSET + 3 combined with MASK, the first with MASK[31:24] (R171). -/
def corrupt (f : List Byte) (off : Nat) (mask : Word) : List Byte :=
  (wordOctetsBE mask).zipIdx.foldl (fun f e => setNth f (off + e.2) (nth f (off + e.2) 0 ^^^ e.1)) f

/-- Octets a program holds. -/
def FollyRun.load (r : FollyRun) : Nat :=
  (r.held.map (fun h => h.octets.length)).foldl (· + ·) 0 + (r.delayed.map (fun h => h.octets.length)).foldl (· + ·) 0

/-- A frame that does not fit the hold buffer: dropped and counted in FULL_DROP (R173). -/
def State.follyFull (s : State) (port : Nat) : State :=
  let o := Reg.Fly.FLY_CNT (port % 16)
  (s.countFld (flyPage port) o 31 24 1).faultItem (flyPage port) 0 4 port 0

/-- A frame reaches the delay stage: it passes at once, or is held for DELAY ns, at least the 100 ns ahead that a unit
takes (R171, R173). Answers what leaves. -/
def State.follyDelay (s : State) (port : Nat) (f : List Byte) (ts : Nat) : List (List Byte × Nat) × State :=
  match s.follyRun port with
  | none => ([(f, ts)], s)
  | some r =>
    if !bitAt (s.flyReg port 0) 8 then ([(f, ts)], s)
    else if 65536 < r.load + f.length then ([], s.follyFull port)
    else
      let due := s.now + max 100 (bits (s.flyReg port 0x18) 19 0)
      ([], s.setFolly port (some { r with delayed := r.delayed ++ [FollyDelayed.mk f ts s.now due] }))

/-- Frames that have waited for enough others leave the reorder stage, the rest wait on (R171). -/
def State.follyRelease (s : State) (port : Nat) : List (List Byte × Nat) × State :=
  match s.follyRun port with
  | none => ([], s)
  | some r =>
    let held := r.held.map (fun h => { h with left := h.left - 1 })
    let out := held.filter (fun h => h.left = 0)
    let s := s.setFolly port (some { r with held := held.filter (fun h => h.left ≠ 0) })
    out.foldl (fun (a : List (List Byte × Nat) × State) h =>
      let (o, s) := a.2.follyDelay port h.octets (h.ts + (a.2.now - h.heldAt))
      (a.1 ++ o, s)) ([], s)

/-- A frame passes the reorder stage, and those that waited for it follow.
(DEDUCED, log entry 58.) -/
def State.follyPassed (s : State) (port : Nat) (f : List Byte) (ts : Nat) : List (List Byte × Nat) × State :=
  let (a, s) := s.follyDelay port f ts
  let (b, s) := s.follyRelease port
  (a ++ b, s)

/-- The reorder stage: every Kth frame is held for M further ones (R171). -/
def State.follyReorder (s : State) (port n : Nat) (f : List Byte) (ts : Nat) : List (List Byte × Nat) × State :=
  match s.follyRun port with
  | none => ([(f, ts)], s)
  | some r =>
    let w := s.flyReg port 0x14
    if bitAt (s.flyReg port 0) 7 && everyNth n (bits w 15 0) then
      if 65536 < r.load + f.length then ([], s.follyFull port)
      else ([], s.setFolly port (some { r with held := r.held ++ [FollyHeld.mk f ts s.now (bits w 23 16)] }))
    else s.follyPassed port f ts

/-- A program takes a frame, FCS included, in its direction: the frames that leave at once with their timestamps
(R170, R171). A frame it does not match passes by. -/
def State.folly (s : State) (port : Nat) (tx : Bool) (f : List Byte) (ts : Nat) : List (List Byte × Nat) × State :=
  let c := s.flyReg port 0
  match s.follyRun port with
  | none => ([(f, ts)], s)
  | some r =>
    if bitAt c 1 != tx || !s.inTest port || !s.enabled (flyPage port) || (bitAt c 9 && decide ((etherType f).1 ≠ bits c 31 16)) then
      ([(f, ts)], s)
    else
      let n := r.n + 1
      let s := s.setFolly port (some { r with n := n })
      let x := lfsrSteps 16 (s.lfsr port)
      let s := s.setLfsr port x
      let p := bits (s.flyReg port 4) 15 0
      let dropped := bitAt c 2 && (if bitAt c 3 then decide (bits x 15 0 < p) else everyNth n p)
      let corr := bitAt c 4 && everyNth n (bits (s.flyReg port 8) 31 16)
      let dup := bitAt c 6 && everyNth n (bits (s.flyReg port 0x10) 15 0)
      let reord := bitAt c 7 && everyNth n (bits (s.flyReg port 0x14) 15 0)
      let acted := dropped || corr || dup || reord || bitAt c 8
      let s := if acted then s.countFld (flyPage port) (Reg.Fly.FLY_CNT (port % 16)) 23 0 1 else s
      if dropped then ([], s)
      else
        let f' := if corr then corrupt f (bits (s.flyReg port 8) 13 0) (s.flyReg port 0xC) else f
        let f' := if corr && bitAt c 5 then refreshFcs f' else f'
        let (a, s) := s.follyReorder port n f' ts
        let (b, s) := if dup then s.follyPassed port f' ts else ([], s)
        (a ++ b, s)

/-- The oldest frame held for reorder is released 1 ms after it was held (R171). -/
def State.follyTimeout (s : State) (port : Nat) : List (List Byte × Nat) × State :=
  match s.follyRun port with
  | none => ([], s)
  | some r => match r.held with
    | [] => ([], s)
    | h :: hs =>
      let s := s.tick (h.heldAt + 1000000 - s.now)
      (s.setFolly port (some { r with held := hs })).follyDelay port h.octets (h.ts + (s.now - h.heldAt))

/-- The first frame of the delay stage is released at its instant (R171). -/
def State.follyDue (s : State) (port : Nat) : List (List Byte × Nat) × State :=
  match s.follyRun port with
  | none => ([], s)
  | some r => match r.delayed with
    | [] => ([], s)
    | d :: ds =>
      let s := s.tick (d.due - s.now)
      ([(d.octets, d.ts + (s.now - d.heldAt))], s.setFolly port (some { r with delayed := ds }))

/-- A setting of RUN with register value v is refused (R173). -/
def State.follyRefused (s : State) (port : Nat) (v : Word) : Bool :=
  let w := s.flyReg port 0x14
  !s.inTest port ||
  (bitAt v 7 && (decide (bits w 23 16 = 0) || decide (bits w 15 0 ≤ bits w 23 16))) ||
  decide (s.quarterOwner (bits v 11 10) (flyPage port) ≠ 2) ||
  (bitAt v 8 && !s.flag (flyPage port) Reg.Hdr.CLAIM (bits (s.flyReg port 0x18) 25 20 / 4))

/-- The program of a port stops: held frames are dropped and counted, RUN reads 0 (R174). -/
def State.follyStop (s : State) (port : Nat) : State :=
  let o := Reg.Fly.FLY_CTL (port % 16)
  match s.follyRun port with
  | none => s.setFlag (flyPage port) o 0 false
  | some r =>
    let n := r.held.length + r.delayed.length
    let s := s.countFld (portPage port) (Reg.Prc.PORT_STA (port % 16)) 31 16 n
    (s.setFolly port none).setFlag (flyPage port) o 0 false

/-- FLY_CTL of a port written while no program runs: its fields are taken, and RUN starts the program or is refused, with
CLAIM_CONFLICT where the quarter or the delay's compare group is another page's (R17, R113, R173).
(DEDUCED, log entry 58.) -/
def State.follyCtl (s : State) (by_ : Port) (port : Nat) (v : Word) : State :=
  let o := Reg.Fly.FLY_CTL (port % 16)
  let v := v &&& 0xFFFF0FFF
  let s := s.setReg (flyPage port) o (v &&& 0xFFFFFFFE)
  if !bitAt v 0 then s
  else if s.follyRefused port v then
    let q := s.quarterOwner (bits v 11 10) (flyPage port)
    let g := bitAt v 8 && s.groupElsewhere (flyPage port) (bits (s.flyReg port 0x18) 25 20 / 4)
    let s := if g = true ∨ q = 1 ∨ q = 3 then s.gthLog logClaim (some by_) (flyPage port) o else s
    s.faultItem (flyPage port) 1 4 port 0
  else (s.setFolly port (some ⟨0, [], []⟩)).setFlag (flyPage port) o 0 true

/-- The programs of a cluster's ports stop: its FLY page is reset. -/
def State.follyStopAll (s : State) (g : Nat) : State := (List.range 16).foldl (fun s i => s.follyStop (16 * g + i)) s

end Sys2Proof.Machine
end

