-- ==== Sys2Proof/Machine/Macsec.lean ====
section
/-!
DEFINITION. MACsec (R162 to R164, R190, R329): protection and verification of frames by IEEE 802.1AE, whose formats the
manual names and does not restate.
-/
namespace Sys2Proof.Machine

/-- A MACsec association: port, direction (1 receive), secure channel and SA. -/
structure MsAssoc where
  port : Nat
  dir : Nat
  sc : Nat
  sa : Nat
  deriving DecidableEq, Repr

/-- The key of a word of an association; words 4 and 5 are the channel's (R190). -/
def MsAssoc.key (a : MsAssoc) (word : Nat) : Nat :=
  (((a.port * 2 + a.dir) * 4 + a.sc) * 2 + (if word = 4 ∨ word = 5 then 0 else a.sa)) * 8 + word

/-- A word of an association. -/
def State.msWord (s : State) (a : MsAssoc) (word : Nat) : Word := smGet (fun _ => 0) s.prm.ms (a.key word)
/-- A word of an association replaced. -/
def State.setMsWord (s : State) (a : MsAssoc) (word : Nat) (v : Word) : State :=
  { s with prm.ms := smSet (fun _ => 0) s.prm.ms (a.key word) v }

/-- Association EN (R190). -/
def State.msOn (s : State) (a : MsAssoc) : Bool := bitAt (s.msWord a 0) 31
/-- SUITE is an XPN one. -/
def State.msXpn (s : State) (a : MsAssoc) : Bool := bitAt (s.msWord a 0) 14
/-- The association's AN. -/
def State.msAn (s : State) (a : MsAssoc) : Nat := bits (s.msWord a 0) 16 15
/-- The association's SCI, 8 octets. -/
def State.msSci (s : State) (a : MsAssoc) : List Byte := wordOctetsBE (s.msWord a 4) ++ wordOctetsBE (s.msWord a 5)

/-- Frames dropped or failed on an association: word 7 counts (R190). -/
def State.msFailed (s : State) (a : MsAssoc) : State :=
  s.setMsWord a 7 (BitVec.ofNat 32 (satAdd (2 ^ 32 - 1) (s.msWord a 7).toNat 1))

/-- The SAK of an association: CUR of its slot, an AES key of the suite's size with MACSEC; one of another TYPE or USAGE
also sets ORG FLT_STA bit [6] (R163, R329). -/
def State.msKey (s : State) (a : MsAssoc) : Option (List Byte) × State :=
  let n := bits (s.msWord a 0) 12 0
  match (s.slot n).cur with
  | none => (none, s)
  | some k =>
    if k.typ = (if bitAt (s.msWord a 0) 13 then 2 else 1) ∧ k.usage.testBit useMacsec then (some k.key, s)
    else (none, s.faultItem pOrg 6 6 n 0)

/-- The confidentiality offset of a port; none for integrity only (R188). -/
def State.msOffset (s : State) (port : Nat) : Option Nat :=
  match s.portCfg port 5 4 with
  | 0 => some 0
  | 1 => some 30
  | 2 => some 50
  | _ => none

/-- The GCM IV of a packet number (802.1AE): SCI and PN, or SSCI and PN combined with the salt. The receive side's SSCI is
not among the words of R190; word 3 of the association gives it on the transmit side.
(DESIGN CHOICE, log entries 16, 17.) -/
def State.msIv (s : State) (a : MsAssoc) (sci : List Byte) (pn : Nat) : List Byte :=
  if s.msXpn a then
    let ssci := if a.dir = 0 then s.msWord a 3 else Config.macsecSsci (a.key 3)
    let salt := wordOctetsBE (s.msWord a 6) ++ natOctetsBE 8 (Config.macsecSalt (a.key 6)).toNat
    xorOctets (wordOctetsBE ssci ++ natOctetsBE 8 pn) salt
  else sci ++ natOctetsBE 4 pn

/-- The next packet number of a transmit association, or the lowest acceptable one of a receive association. -/
def State.msPn (s : State) (a : MsAssoc) : Nat :=
  (s.msWord a 1).toNat + (if s.msXpn a then 2 ^ 32 * (s.msWord a 2).toNat else 0)

/-- That number replaced. -/
def State.setMsPn (s : State) (a : MsAssoc) (pn : Nat) : State :=
  let s := s.setMsWord a 1 (BitVec.ofNat 32 pn)
  if s.msXpn a then s.setMsWord a 2 (BitVec.ofNat 32 (pn / 2 ^ 32)) else s

/-- The part of a packet number that MS_PN_TH is held against (R163). -/
def State.msHigh (s : State) (a : MsAssoc) (pn : Nat) : Nat := if s.msXpn a then pn / 2 ^ 32 else pn

/-- A transmit association uses a packet number: the threshold and the stop before a wrap are noted (R163, R504). -/
def State.msAdvance (s : State) (a : MsAssoc) (pn : Nat) : State :=
  let last := if s.msXpn a then 2 ^ 64 - 1 else 2 ^ 32 - 1
  let th := (s.portReg a.port 0x24).toNat
  let s := s.setMsPn a ((pn + 1) % (last + 1))
  let s := if s.msHigh a pn ≤ th ∧ th < s.msHigh a (pn + 1) then (s.faultItem pPrm 5 4 a.port 0).irq 8 else s
  if pn = last then s.faultItem pPrm 6 4 a.port 0 else s

/-- The transmit association in use: the first enabled one that has a packet number left, else the first enabled. -/
def State.msTxAssoc (s : State) (port : Nat) : Option MsAssoc :=
  let on := ([0, 1].map (MsAssoc.mk port 0 0)).filter s.msOn
  match on.find? (fun a => s.msPn a ≠ 0) with
  | some a => some a
  | none => on.head?

/-- The user data split into the part in clear and the part to be encrypted. -/
def msSplit (off : Option Nat) (data : List Byte) : List Byte × List Byte :=
  match off with
  | none => (data, [])
  | some n => (data.take n, data.drop n)

/-- A frame without FCS protected for a port, or dropped and counted (R163, R164). EtherType 0x888E passes uncontrolled
(R162). -/
def State.msProtect (s : State) (port : Nat) (f : List Byte) : Option (List Byte) × State :=
  if s.portCfg port 2 2 = 0 ∨ beNat ((f.drop 12).take 2) = 0x888E then (some f, s)
  else match s.msTxAssoc port with
    | none => (none, s.dropOn port)
    | some a =>
      let pn := s.msPn a
      let (key, s) := s.msKey a
      match key with
      | none => (none, s.msFailed a)
      | some k =>
        if pn = 0 then (none, s.msFailed a)
        else
          let off := s.msOffset port
          let data := f.drop 12
          let tci := 0x20 + (if off.isSome then 0x0C else 0) + s.msAn a
          let sl := if data.length < 48 then data.length else 0
          let tag := [0x88, 0xE5] ++ natOctetsBE 1 tci ++ natOctetsBE 1 sl ++ natOctetsBE 4 (pn % 2 ^ 32) ++ s.msSci a
          let iv := s.msIv a (s.msSci a) pn
          let (clear, secret) := msSplit off data
          let ct := aesCtr k iv 2 secret
          let head := f.take 12 ++ tag ++ clear
          (some (head ++ ct ++ gcmTag k iv head ct), s.msAdvance a pn)

/-- The SCI a SecTAG names: explicit, or of the source address as an end station (802.1AE). -/
def secTagSci (f : List Byte) : List Byte :=
  if (nth f 14 0).getLsbD 5 then (f.drop 20).take 8 else (f.drop 6).take 6 ++ [0, 1]

/-- The receive association of a frame: the channel whose SCI the frame names, and its enabled association with the
frame's AN. A frame without an SCI, not from an end station, is matched on the AN alone. -/
def State.msRxAssoc (s : State) (port : Nat) (f : List Byte) : Option MsAssoc :=
  let tci := nth f 14 0
  let all := ([0, 1, 2, 3].flatMap (fun sc => [0, 1].map (MsAssoc.mk port 1 sc))).filter
    (fun a => s.msOn a && decide (s.msAn a = tci.toNat % 4))
  all.find? (fun a => (!tci.getLsbD 5 && !tci.getLsbD 6) || s.msSci a = secTagSci f)

/-- The 64-bit packet number of a received 32-bit one, next to the lowest acceptable one (802.1AE). -/
def recoverPn (lowest pn : Nat) : Nat :=
  let hi := lowest / 2 ^ 32
  if pn < 2 ^ 31 ∧ 2 ^ 31 ≤ lowest % 2 ^ 32 then (hi + 1) * 2 ^ 32 + pn else hi * 2 ^ 32 + pn

/-- A received frame, without FCS, at the SecY of a port: what goes on, with whether it was verified; a frame dropped is
counted (R162, R164). A frame for an association whose slot has no key goes no further, Check or not (R34, R335).
(DEDUCED, log entry 187.) -/
def State.msVerify (s : State) (port : Nat) (f : List Byte) : Option (List Byte × Bool) × State :=
  let strict := decide (s.portCfg port 3 3 = 1)
  if s.portCfg port 2 2 = 0 ∨ beNat ((f.drop 12).take 2) = 0x888E then (some (f, true), s)
  else if beNat ((f.drop 12).take 2) ≠ 0x88E5 then
    if strict then (none, s.dropOn port) else (some (f, false), s)
  else
    let tci := nth f 14 0
    let hlen := if tci.getLsbD 5 then 28 else 20
    let body := (f.drop hlen).take (f.length - hlen - 16)
    let icv := f.drop (f.length - 16)
    let plain := f.take 12 ++ body
    -- what Check does with a frame that fails: it goes on unless its user data were changed
    let fail (s : State) : Option (List Byte × Bool) × State :=
      if strict || tci.getLsbD 2 then (none, s) else (some (plain, false), s)
    if f.length < hlen + 16 ∨ tci.getLsbD 7 then (none, s.dropOn port)
    else match s.msRxAssoc port f with
      | none => fail (s.dropOn port)
      | some a =>
        let pn32 := beNat ((f.drop 16).take 4)
        let lowest := s.msPn a
        let pn := if s.msXpn a then recoverPn lowest pn32 else pn32
        let (key, s) := s.msKey a
        match key with
        | none => (none, s.msFailed a)
        | some k =>
          let iv := s.msIv a (if tci.getLsbD 5 then (f.drop 20).take 8 else s.msSci a) pn
          let off := if tci.getLsbD 3 then s.msOffset port else none
          let (clear, ct) := msSplit off body
          let head := f.take hlen ++ clear
          if pn < lowest then (none, s.msFailed a)
          else if gcmTag k iv head ct ≠ icv then fail (s.msFailed a)
          else
            let win := (s.msWord a 3).toNat
            let s := s.setMsPn a (max lowest (pn + 1 - win))
            (some (f.take 12 ++ clear ++ aesCtr k iv 2 ct, true), s)

/-- The associations a word belongs to: its own, words 4 and 5 to both of the channel (R190). -/
def MsAssoc.sharers (a : MsAssoc) (word : Nat) : List MsAssoc :=
  if word = 4 ∨ word = 5 then [{ a with sa := 0 }, { a with sa := 1 }] else [a]

/-- MS_DATA written: words 0 to 6 of an association whose EN is 1 are kept, but for a write that clears EN; word 7 is
read-only (R190). -/
def State.msWrite (s : State) (a : MsAssoc) (word : Nat) (v : Word) : State :=
  if word = 7 then s
  else if (a.sharers word).any s.msOn && !(decide (word = 0) && !bitAt v 31) then s
  else s.setMsWord a word (if word = 0 then v &&& 0x8001FFFF else v)

/-- MS_DATA read; word 7 is cleared by the read. -/
def State.msRead (s : State) (a : MsAssoc) (word : Nat) : Word × State :=
  (s.msWord a word, if word = 7 then s.setMsWord a 7 0 else s)

end Sys2Proof.Machine
end

