-- ==== Sys2Proof/Machine/Prp.lean ====
section
/-!
DEFINITION. PRP, HSR and the RedBox (R156 to R161, R185, R187, R379): pair enable, trailers and tags, sequence numbers,
the duplicate tables and supervision frames. The frame formats are those of IEC 62439-3, which the manual names.
-/
namespace Sys2Proof.Machine

/-! Pairs -/

/-- PAIR_CFG_n and PAIR_ILK_n. -/
def State.pairCfg (s : State) (n : Nat) : Word := s.reg pPrm (Reg.Prm.PAIR_CFG n)
def State.pairIlk (s : State) (n : Nat) : Word := s.reg pPrm (Reg.Prm.PAIR_ILK n)

/-- Pair n is enabled. -/
def State.pairOn (s : State) (n : Nat) : Bool := bitAt (s.pairCfg n) 31
/-- The member ports on this device: A alone where the pair is split (R157). -/
def pairMembers (w : Word) : List Nat := if bitAt w 18 then [bits w 7 0] else [bits w 7 0, bits w 15 8]
def State.pairPorts (s : State) (n : Nat) : List Nat := pairMembers (s.pairCfg n)
/-- MODE is HSR. -/
def State.pairHsr (s : State) (n : Nat) : Bool := decide (bits (s.pairCfg n) 17 16 ≠ 0)
/-- The enabled pairs. -/
def State.pairsOn (s : State) : List Nat := (List.range 32).filter s.pairOn
/-- The enabled pair a port is a member of. -/
def State.pairOf (s : State) (port : Nat) : Option Nat := s.pairsOn.find? (fun n => (s.pairPorts n).contains port)
/-- The enabled pair whose interlink a port is. -/
def State.ilkOf (s : State) (port : Nat) : Option Nat :=
  s.pairsOn.find? (fun n => decide (bits (s.pairIlk n) 9 8 ≠ 0) && decide (bits (s.pairIlk n) 7 0 = port))

/-- Octets that queued frames take of a region, the two copies of a numbered frame one buffer (R160). -/
def heldIn (h : Home) : List QFrame → List (Nat × Nat × Nat) → Nat
  | [], _ => 0
  | q :: qs, seen =>
    if q.home ≠ h then heldIn h qs seen
    else match q.buf with
      | none => q.octets.length + heldIn h qs seen
      | some b => if seen.contains b then heldIn h qs seen else q.octets.length + heldIn h qs (b :: seen)

/-- Octets of the queued frames in a region. -/
def State.bufferUsed (s : State) (h : Home) : Nat := heldIn h (s.prm.queues.flatMap (·.2)) []

/-- Free frame pool in octets: 27 MiB less the duplicate tables and the frames it holds (R167).
(DEDUCED, log entry 184.) -/
def State.poolFree (s : State) : Nat := 27 * 1048576 - 262144 * s.pairsOn.length - s.bufferUsed .pool
/-- Free publication reserve in octets (R151, R167). -/
def State.reserveFree (s : State) : Nat := 1048576 - s.bufferUsed .reserve

/-- The copy of a numbered frame already holds its buffer in a region. -/
def State.bufferHeld (s : State) (h : Home) (b : Option (Nat × Nat × Nat)) : Bool :=
  b.isSome && (s.prm.queues.flatMap (·.2)).any (fun q => decide (q.home = h) && decide (q.buf = b))

/-- Room for n octets in a region: free there, or the buffer of the copy already queued (R160, R167). -/
def State.bufferRoom (s : State) (h : Home) (b : Option (Nat × Nat × Nat)) (n : Nat) : Bool :=
  s.bufferHeld h b ||
  (match h with
   | .pool => decide (n ≤ s.poolFree)
   | .reserve => decide (n ≤ s.reserveFree)
   | .dup p => decide (s.bufferUsed (.dup p) + n ≤ 131072))

/-- A pair needs a duplicate buffer: its two ports here differ in lane mode (R160). -/
def State.needsDup (s : State) (w : Word) : Bool :=
  match pairMembers w with
  | [a, b] => s.laneMode (a / 4) != s.laneMode (b / 4)
  | _ => false

/-- The member whose copies the duplicate buffer of a pair holds: the one of lower MAC rate, of two equal ones member B.
(DEDUCED, log entry 182.) -/
def State.slowMember (s : State) (w : Word) : Nat :=
  if s.planRate (bits w 7 0) < s.planRate (bits w 15 8) then bits w 7 0 else bits w 15 8

/-- The region that holds the copy of a numbered frame for a port of pair n, others taking `other` (R160). -/
def State.copyHome (s : State) (n port : Nat) (other : Home) : Home :=
  if s.needsDup (s.pairCfg n) && s.slowMember (s.pairCfg n) == port then .dup n else other

/-- Enabled pairs that use quarter q (R160). -/
def State.quarterPairs (s : State) (q : Nat) : Nat :=
  (s.pairsOn.filter (fun n => s.needsDup (s.pairCfg n) && decide (bits (s.pairCfg n) 21 20 = q))).length

/-- A quarter is held by a FLY page. -/
def State.quarterFolly (s : State) (q : Nat) : Bool :=
  (List.range 16).any (fun c => s.flag (pFly c) Reg.Hdr.CLAIM (16 + q))

/-- The cause for which the enable of a pair with configuration w is refused, 0 for none (R161, R185). -/
def State.pairRefusal (s : State) (n : Nat) (w : Word) : Nat :=
  let ports := pairMembers w
  let q := bits w 21 20
  if ports.any (fun p => !s.portExists p || s.portState p != 1) ||
      ports.any (fun p => (s.pairsOn.filter (· ≠ n)).any (fun m => (s.pairPorts m).contains p)) then 1
  else if s.poolFree < 262144 then 2
  else if s.needsDup w && bitAt w 19 && s.quarterFolly q then 3
  else if s.needsDup w && (!bitAt w 19 || !s.flag pPrm Reg.Hdr.CLAIM (16 + q) || decide (8 ≤ s.quarterPairs q)) then 4
  else if bits w 17 16 ≠ 0 && ports.any (fun p => decide (s.portCfg p 2 2 = 1)) then 5
  else 0

/-- PAIR_CFG written with EN = 1 to a pair that is not enabled (R157, R161): the fields are taken, and the pair is enabled
or refused. -/
def State.pairEnable (s : State) (by_ : Port) (n : Nat) (v : Word) : State :=
  let o := Reg.Prm.PAIR_CFG n
  let s := s.setReg pPrm o (v &&& 0x003FFFFF)
  let c := s.pairRefusal n v
  if c = 0 then
    let s := s.setFlag pPrm o 31 true
    { s with prm.dup := (n, []) :: s.prm.dup.filter (fun e => e.1 ≠ n) }
  else
    let s := s.setReg pPrm Reg.Prm.PAIR_ERR (BitVec.ofNat 32 (n + c * 256))
    let s := if c = 3 then s.gthLog logClaim (some by_) pPrm o else s
    s.fault pPrm 3

/-- A pair is disabled: its table is freed (R157, R187). -/
def State.pairDisable (s : State) (n : Nat) : State :=
  let s := s.setFlag pPrm (Reg.Prm.PAIR_CFG n) 31 false
  { s with prm.dup := s.prm.dup.filter (fun e => e.1 ≠ n) }

/-! Trailers and tags -/

/-- The length and type field of a frame, after any 802.1Q tag: the offset of its first octet. -/
def typeOffset (f : List Byte) : Nat := (etherType f).2 - 2

/-- The source address of a frame. -/
def srcMac (f : List Byte) : Nat := beNat ((f.drop 6).take 6)
/-- The destination address of a frame. -/
def dstMac (f : List Byte) : Nat := beNat (f.take 6)

/-- A valid PRP trailer: its sequence number, LAN identifier and the frame without it. -/
def rctOf (f : List Byte) : Option (Nat × Nat × List Byte) :=
  let n := f.length
  let t := f.drop (n - 6)
  let lan := beNat ((t.drop 2).take 2) / 4096
  if 20 ≤ n ∧ t.drop 4 = [0x88, 0xFB] ∧ (lan = 0xA ∨ lan = 0xB) ∧
      beNat ((t.drop 2).take 2) % 4096 = n - (typeOffset f + 2) then
    some (beNat (t.take 2), lan, f.take (n - 6))
  else none

/-- A valid HSR tag: its sequence number, path identifier and the frame without it. -/
def hsrOf (f : List Byte) : Option (Nat × Nat × List Byte) :=
  let o := typeOffset f
  if beNat ((f.drop o).take 2) = 0x892F ∧ o + 8 ≤ f.length then
    some (beNat ((f.drop (o + 4)).take 2), beNat ((f.drop (o + 2)).take 2) / 4096, f.take o ++ f.drop (o + 6))
  else none

/-- A frame filled up to 60 octets. -/
def pad60 (f : List Byte) : List Byte := f ++ zeros (60 - f.length)

/-- A PRP trailer added: LAN identifier 0xA or 0xB. -/
def addRct (f : List Byte) (seq lan : Nat) : List Byte :=
  let f := pad60 f
  f ++ natOctetsBE 2 seq ++ natOctetsBE 2 (lan * 4096 + (f.length + 6 - (typeOffset f + 2)) % 4096) ++ [0x88, 0xFB]

/-- An HSR tag added, with its path identifier. -/
def addHsr (f : List Byte) (seq path : Nat) : List Byte :=
  let f := pad60 f
  let o := typeOffset f
  f.take o ++ [0x89, 0x2F] ++ natOctetsBE 2 (path * 4096 + (f.length + 6 - (o + 2)) % 4096) ++ natOctetsBE 2 seq ++
    f.drop o

/-! Sequence numbers -/

/-- This twin numbers frames that one twin alone originates: the LEAD holder, or a device that is not in step (R379). -/
def State.numbersAlone (s : State) : Bool :=
  !decide (s.cln.st = .inStep) || s.flag pCln Reg.Cln.ROLE_STA 1

/-- The next number of a source of the device on a pair; its counter advances (R160). -/
def State.takeSeq (s : State) (mac pair : Nat) : Nat × State :=
  let v := ((s.prm.seqs.find? (fun c => c.mac = mac ∧ c.pair = pair)).map (·.seq)).getD 0
  let rest := s.prm.seqs.filter (fun c => !(c.mac == mac && c.pair == pair))
  (v, { s with prm.seqs := ⟨mac, pair, (v + 1) % 65536⟩ :: rest })

/-- A free index of the proxy table. -/
def State.proxyFree (s : State) : Option Nat :=
  (List.range 512).find? (fun i => !s.prm.proxy.any (fun e => e.1 = i))

/-- The next number of a proxied SAN, which enters the proxy table where there is room (R160); none where it is full. -/
def State.proxySeq (s : State) (mac vid pair : Nat) : Option Nat × State :=
  match s.prm.proxy.find? (fun e => e.2.mac = mac ∧ e.2.pair = pair) with
  | some (i, e) =>
    (some e.seq, { s with prm.proxy := s.prm.proxy.map (fun x =>
      if x.1 = i then (i, { e with seq := (e.seq + 1) % 65536 }) else x) })
  | none => match s.proxyFree with
    | none => (none, s)
    | some i => (some 0, { s with prm.proxy := s.prm.proxy ++ [(i, ProxyEntry.mk mac vid pair 1)] })

/-- The copies of a numbered frame on a pair's ports (R160, R379): PRP trailers of LAN A and LAN B, or HSR tags with path
identifiers 0 and 1, or with that of the interlink they came by. On a split pair twin A has LAN A and twin B LAN B. -/
def State.pairCopies (s : State) (n : Nat) (f : List Byte) (seq : Nat) (path : Option Nat) : List (Nat × List Byte) :=
  let w := s.pairCfg n
  (pairMembers w).zipIdx.map (fun e =>
    let b := if bitAt w 18 then b2n s.twinB else e.2
    (e.1, if s.pairHsr n then addHsr f seq (path.getD b) else addRct f seq (0xA + b)))

/-! Duplicate discard -/

/-- The duplicate table of a pair. -/
def State.dupTable (s : State) (n : Nat) : List DupEntry := ((s.prm.dup.find? (fun e => e.1 = n)).map (·.2)).getD []
def State.setDupTable (s : State) (n : Nat) (t : List DupEntry) : State :=
  { s with prm.dup := (n, t) :: s.prm.dup.filter (fun e => e.1 ≠ n) }

/-- The entry of a source and number younger than FORGET_MS (R158). -/
def State.dupEntry (s : State) (n mac seq : Nat) : Option DupEntry :=
  (s.dupTable n).find? (fun e => e.mac = mac ∧ e.seq = seq ∧
    s.now - e.born < 1000000 * s.fld pPrm Reg.Prm.DD_AGE 11 0)

/-- A frame accepted enters the table; the oldest entry is evicted where it is full (R158). -/
def State.dupEnter (s : State) (n mac seq seen : Nat) : State :=
  let t := (s.dupTable n).filter (fun e => !(e.mac == mac && e.seq == seq))
  let (t, full) := if 65536 ≤ t.length then (t.drop 1, true) else (t, false)
  let s := s.setDupTable n (t ++ [⟨mac, seq, s.now, seen⟩])
  if full then s.fault pPrm 2 else s

/-- A copy has come on a member: the entry notes it. -/
def State.dupSeen (s : State) (n mac seq member : Nat) : State :=
  s.setDupTable n ((s.dupTable n).map (fun e =>
    if e.mac = mac ∧ e.seq = seq then { e with seen := e.seen ||| 2 ^ member } else e))

/-! Supervision frames -/

/-- A supervision frame's destination starts with 01-15-4E-00-01 and its EtherType is that of PRP supervision, perhaps
inside an HSR tag. -/
def isSupervision (f : List Byte) : Bool := decide (f.take 5 = [0x01, 0x15, 0x4E, 0x00, 0x01])

/-- A supervision frame from an address of the device, for itself or for a proxied SAN (R156). -/
def supervisionFrame (own mac sup : Nat) (hsr : Bool) : List Byte :=
  let node := natOctetsBE 1 (if hsr then 23 else 20) ++ [6] ++ natOctetsBE 6 mac
  let box := if mac = own then [] else [30, 6] ++ natOctetsBE 6 own
  pad60 ([0x01, 0x15, 0x4E, 0x00, 0x01, 0x00] ++ natOctetsBE 6 own ++ [0x88, 0xFB, 0x00, 0x01] ++ natOctetsBE 2 sup ++
    node ++ box ++ [0, 0])

/-- The addresses a pair's supervision speaks for: its own and its SANs (R156). -/
def State.supervised (s : State) (n : Nat) : List Nat :=
  s.pairMac :: (s.prm.proxy.filter (fun e => e.2.pair = n)).map (fun e => e.2.mac)

end Sys2Proof.Machine
end

