-- ==== Sys2Proof/Machine/Switching.lean ====
section
/-!
DEFINITION. The receive path and the switch (R146 to R151, R156 to R159, R165, R166): MAC checks, VLANs, the forwarding
database, PRP/HSR reception, the parse pipelines and the egress queues.
-/
namespace Sys2Proof.Machine

/-! Queues -/

/-- An egress queue of a port: class 0 to 7, or 8 the publication queue (R151). -/
def State.queue (s : State) (port cls : Nat) : List QFrame :=
  ((s.prm.queues.find? (fun e => e.1 = port * 16 + cls)).map (·.2)).getD []

/-- An egress queue replaced. -/
def State.setQueue (s : State) (port cls : Nat) (q : List QFrame) : State :=
  let rest := s.prm.queues.filter (fun e => e.1 ≠ port * 16 + cls)
  { s with prm.queues := if q.isEmpty then rest else (port * 16 + cls, q) :: rest }

/-- A switched frame joins a queue, or finds the frame pool full: dropped and counted against its ingress port (R167). A
copy that finds its pair's duplicate buffer full is dropped and counted on its egress port.
(DESIGN CHOICE, log entry 183.) -/
def State.enqueue (s : State) (ingress : Option Nat) (port cls : Nat) (q : QFrame) : State :=
  if s.bufferRoom q.home q.buf q.octets.length then s.setQueue port cls (s.queue port cls ++ [q])
  else match q.home with
    | .dup _ => s.dropOn port
    | _ => (match ingress with | some p => s.dropOn p | none => s).fault pPrm 0

/-! VLANs and the forwarding database -/

/-- A VLAN entry without members (R186). -/
def VlanEntry.none : VlanEntry := ⟨0, 0, false⟩
/-- The VLAN table entry of a VID. -/
def State.vlan (s : State) (vid : Nat) : VlanEntry := smGet (fun _ => VlanEntry.none) s.prm.vlan vid

/-- The priority field of a tag: PCP above DEI. -/
def priOf (pcp : Nat) : Nat := pcp * 2

/-- A frame on one of the 4,094 VLANs; none on VID 0xFFF, or on 0 (R149).
(DEDUCED, log entry 186.) -/
def onVlan (vid pri : Nat) (bare : List Byte) : Option (Nat × Nat × List Byte) :=
  if 1 ≤ vid ∧ vid ≤ 4094 then some (vid, pri, bare) else none

/-- VID, priority (PCP and DEI) and the frame without its C-VLAN tag, for a frame from a port; untagged and priority-tagged
frames take PVID, and untagged ones DEF_PCP; none where TAG_ONLY drops them or the VID is no VLAN (R149).
(DEDUCED, log entry 186.) -/
def State.classify (s : State) (port : Nat) (f : List Byte) : Option (Nat × Nat × List Byte) :=
  let tagOnly := decide (s.portCfg port 23 23 = 1)
  let pvid := s.portCfg port 19 8
  if beNat ((f.drop 12).take 2) = 0x8100 then
    let tci := beNat ((f.drop 14).take 2)
    let vid := tci % 4096
    let bare := f.take 12 ++ f.drop 16
    if vid = 0 then (if tagOnly then none else onVlan pvid (tci / 4096) bare) else onVlan vid (tci / 4096) bare
  else if tagOnly then none else onVlan pvid (priOf (s.portCfg port 22 20)) f

/-- A C-VLAN tag put in. -/
def addTag (vid pri : Nat) (f : List Byte) : List Byte :=
  f.take 12 ++ [0x81, 0x00] ++ natOctetsBE 2 (pri % 16 * 4096 + vid % 4096) ++ f.drop 12

/-- The forwarding database entry of an address and VLAN. -/
def State.fdbFind (s : State) (mac vid : Nat) : Option FdbEntry :=
  (s.prm.fdb.find? (fun e => e.2.mac = mac ∧ e.2.vid = vid)).map (·.2)

/-- A free index of the database. -/
def State.fdbFree (s : State) : Option Nat :=
  if 65536 ≤ s.prm.fdb.length then none
  else (List.range (s.prm.fdb.length + 1)).find? (fun i => !s.prm.fdb.any (fun e => e.1 = i))

/-- A source address is learned or refreshed where the VLAN learns; a static entry stays, and a full table learns nothing
(R150). -/
def State.learn (s : State) (mac vid port : Nat) : State :=
  if !(s.vlan vid).learn || mac.testBit 40 then s
  else match s.prm.fdb.find? (fun e => e.2.mac = mac ∧ e.2.vid = vid) with
    | some (i, e) =>
      if e.static then s
      else { s with prm.fdb := s.prm.fdb.map (fun x => if x.1 = i then (i, { e with port := port, born := s.now }) else x) }
    | none => match s.fdbFree with
      | none => s
      | some i => { s with prm.fdb := s.prm.fdb ++ [(i, ⟨mac, vid, port, false, false, 0, s.now⟩)] }

/-- The ports a frame goes to: the database's, or all of the VLAN's (R150). -/
def State.egressOf (s : State) (mac vid : Nat) : List Nat :=
  let members := (s.vlan vid).members
  if members = 0 then []
  else
    let map := match s.fdbFind mac vid with
      | some e => if e.mcast then e.ports else 2 ^ e.port
      | none => 2 ^ 256 - 1
    (List.range 256).filter (fun p => members.testBit p && map.testBit p)

/-! Forwarding -/

/-- What switching knows of a frame: where it came from, when, and the number and path of its trailer or tag. -/
structure Ingress where
  port : Nat
  rx : Nat
  badFcs : Bool
  pair : Option Nat
  tag : Option (Nat × Nat)
  deriving DecidableEq, Repr

/-- Whether a frame with a bad FCS had already started on an egress port: cut-through applied (R148). -/
def State.cutThrough (s : State) (ingress egress : Nat) : Bool :=
  s.flag pPrm Reg.Prm.FAB_CFG 14 && decide (s.portRate egress ≤ s.portRate ingress) &&
  decide (s.portCfg ingress 2 2 = 0) && decide (s.portCfg egress 2 2 = 0) && !s.inTest egress &&
  (s.pairOf egress).isNone && (s.pairOf ingress).isNone

/-- A copy leaves towards one port, tagged or not as the VLAN says (R149). -/
def State.copyTo (s : State) (i : Ingress) (pri : Nat) (egress : Nat) (f : List Byte) : State :=
  if i.badFcs && !s.cutThrough i.port egress then s
  else s.enqueue (some i.port) egress (pri / 2) ⟨f, .pool, none, false, i.badFcs, i.rx⟩

/-- The numbered copies of a frame join the queues of a pair's ports that are up, from one buffer or the slower port's copy
from the duplicate buffer (R160). -/
def State.copiesOut (s : State) (ingress : Option Nat) (rx n pri seq : Nat) (path : Option Nat) (f : List Byte) : State :=
  (s.pairCopies n f seq path).foldl (fun s e =>
    if s.portUp e.1 then
      s.enqueue ingress e.1 (pri / 2) ⟨e.2, s.copyHome n e.1 .pool, some (n, srcMac f, seq), false, false, rx⟩
    else s) s

/-- The untagged or tagged form of a frame on a port. -/
def State.formOn (s : State) (vid pri egress : Nat) (f : List Byte) : List Byte :=
  if (s.vlan vid).untagged.testBit egress then f else addTag vid pri f

/-- The number under which a frame of another source goes onto a pair: an interlink PRP frame keeps its own, another is
proxied (R157, R160); on a twin in step the LEAD holder numbers (R379). -/
def State.pairNumber (s : State) (i : Ingress) (n mac vid : Nat) : Option (Nat × Option Nat) × State :=
  match i.tag, decide (s.ilkOf i.port = some n) with
  | some (seq, lan), true => (some (seq, some (2 * bits (s.pairIlk n) 14 12 + lan % 2)), s)
  | _, _ => match s.proxySeq mac vid n with
    | (some q, s) => (some (q, none), s)
    | (none, s) => (none, s)

/-- A frame goes onto an enabled pair: both copies under one number, from one buffer (R160). A source for which the proxy
table has no room leaves without a trailer on PRP and is not sent on HSR. On a split pair a frame that one twin alone
originates is numbered by the LEAD holder and sent to the peer with its number (R379). -/
def State.toPair (s : State) (i : Ingress) (n vid pri : Nat) (f : List Byte) : State :=
  let a := bits (s.pairCfg n) 7 0
  let g := s.formOn vid pri a f
  if bitAt (s.pairCfg n) 18 && !s.numbersAlone then s.emit (.twinMsg msgNumber (natOctetsBE 1 n ++ g))
  else match s.pairNumber i n (srcMac f) vid with
  | (some (seq, path), s) =>
    let s := if bitAt (s.pairCfg n) 18 && decide (s.cln.st = .inStep) then
      s.emit (.twinMsg msgForward (natOctetsBE 1 n ++ natOctetsBE 2 seq ++ g)) else s
    s.copiesOut (some i.port) i.rx n pri seq path g
  | (none, s) =>
    if s.pairHsr n then s else ((s.pairPorts n).filter s.portUp).foldl (fun s p => s.copyTo i pri p g) s

/-- A frame goes to one egress port that is no pair member; a PRP interlink gets a trailer with the ring's number (R157). -/
def State.toPort (s : State) (i : Ingress) (vid pri egress : Nat) (f : List Byte) : State :=
  let g := s.formOn vid pri egress f
  match s.ilkOf egress, i.tag with
  | some n, some (seq, path) =>
    if bits (s.pairIlk n) 9 8 = 2 then
      if path / 2 = bits (s.pairIlk n) 14 12 ∧ path ≠ 0 then s
      else s.copyTo i pri egress (addRct g seq (0xA + b2n (Config.interlinkLanB n)))
    else s.copyTo i pri egress g
  | _, _ => s.copyTo i pri egress g

/-- A frame is forwarded as the database directs, never back to where it came from; a pair counts as one way, whichever
member the database names (R150, R157). A frame with a bad FCS is not cut through to a pair (R148). -/
def State.forward (s : State) (i : Ingress) (vid pri : Nat) (f : List Byte) : State :=
  let ports := s.egressOf (dstMac f) vid
  let pairs := s.pairsOn.filter (fun n => decide (i.pair ≠ some n) && (s.pairPorts n).any ports.contains)
  let single := ports.filter (fun p => p != i.port && s.portUp p && (s.pairOf p).isNone)
  let s := single.foldl (fun s p => s.toPort i vid pri p f) s
  if i.badFcs then s else pairs.foldl (fun s n => s.toPair i n vid pri f) s

/-- Addresses 01-80-C2-00-00-00 to -0F, which no bridge forwards (IEEE 802.1Q). -/
def linkLocal (mac : Nat) : Bool := decide (mac / 16 = 0x0180C200000)

/-- A frame addressed to the device on the management VLAN, or to a group there (R149). -/
def State.forDevice (s : State) (vid mac : Nat) : Bool :=
  let m := s.fld pPrm Reg.Prm.FAB_CFG 27 16
  decide (m ≠ 0) && decide (vid = m) && (decide (mac = s.mgmtMac) || mac.testBit 40)

/-- The link delay of the ingress port added to a PTP Sync that a transparent clock forwards (R91, R166). -/
def State.transparent (s : State) : Bool := s.ptpRole == 3 || (s.ptpRole ≠ 0 && s.flag pSdl Reg.Sdl.PTP_CFG 2)

/-- correctionField of a PTP Sync increased by ns; other frames unchanged (R166). -/
def addCorrection (f : List Byte) (ns : Nat) : List Byte :=
  let (et, a) := etherType f
  if et = 0x88F7 ∧ (nth f a 0).toNat % 16 = 0 then
    f.take (a + 8) ++ natOctetsBE 8 ((beNat ((f.drop (a + 8)).take 8) + ns * 65536) % 2 ^ 64) ++ f.drop (a + 16)
  else f

/-- A frame past PRP/HSR handling is switched: classified, learned, handed to Ndear-C where it is for the device, and
forwarded (R149, R150). Only an enabled fabric forwards. -/
def State.switch (s : State) (i : Ingress) (f : List Byte) : State :=
  match s.classify i.port f with
  | none => s.dropOn i.port
  | some (vid, pri, bare) =>
    let dst := dstMac bare
    let s := s.learn (srcMac bare) vid i.port
    let s := if s.forDevice vid dst then s.emit (.toCore f) else s
    if !s.enabled pPrm || linkLocal dst || decide (dst = s.mgmtMac) || decide (dst = s.pairMac) then s
    else
      let d := s.portReg i.port 0xC
      let bare := if s.transparent && s.portCfg i.port 6 6 == 1 && bitAt d 31 then addCorrection bare (bits d 23 0) else bare
      s.forward i vid pri bare

/-! Reception -/

/-- A frame reaches its parse pipeline (R146). -/
def State.toParse (s : State) (p : ParseIn) : State :=
  if p.port / 16 < 8 then { s with prm.pipe0 := s.prm.pipe0 ++ [p] } else { s with prm.pipe1 := s.prm.pipe1 ++ [p] }

/-- The frame and its switching at once. -/
def State.accept (s : State) (i : Ingress) (f : List Byte) (dup : Option (Nat × Nat × Nat)) : State :=
  (s.toParse ⟨i.port, f, i.rx, dup, none, false⟩).switch i f

/-- The member number of a port in a pair. -/
def State.memberNo (s : State) (n port : Nat) : Nat := if bits (s.pairCfg n) 7 0 = port then 0 else 1

/-- A frame with a trailer or tag on pair n: discarded as a duplicate, or accepted and entered. A frame that matches an
authenticated subscription waits for its tag check, both copies going on; one that failed MACsec is not entered (R158,
R159).
(DEDUCED, log entries 59, 185.) -/
def State.pairAccept (s : State) (i : Ingress) (n : Nat) (verified : Bool) (seq : Nat) (f : List Byte) : State :=
  let mac := srcMac f
  let m := s.memberNo n i.port
  if verified && s.authSubscribed f then s.accept i f (some (n, mac, seq))
  else match s.dupEntry n mac seq with
    | some _ => s.dupSeen n mac seq m
    | none => (if verified then s.dupEnter n mac seq (2 ^ m) else s).accept i f none

/-- A source of the device's own on a pair: itself or a SAN it proxies there (R156). -/
def State.ownSource (s : State) (n mac : Nat) : Bool :=
  decide (mac = s.pairMac) || decide (mac = s.mgmtMac) || s.prm.proxy.any (fun e => e.2.mac == mac && e.2.pair == n)

/-- An HSR frame goes on around the ring: in mode H unless a copy came from the same direction before, in mode X unless
any copy came before. A split pair's other ring port is on the twin (R156, R157, R366).
(DEDUCED, log entry 59.) -/
def State.ringForward (s : State) (i : Ingress) (n seq : Nat) (tagged bare : List Byte) : State :=
  let m := s.memberNo n i.port
  let mac := srcMac bare
  let stop := match s.dupEntry n mac seq with
    | none => false
    | some e => bits (s.pairCfg n) 17 16 = 2 || e.seen.testBit m
  let pri := (match s.classify i.port bare with | some (_, p, _) => p | none => 0)
  if stop || decide (dstMac bare = s.pairMac) || decide (dstMac bare = s.mgmtMac) then s
  else if bitAt (s.pairCfg n) 18 then s.emit (.twinMsg msgTransit (natOctetsBE 1 n ++ tagged))
  else
    (((s.pairPorts n).filter (fun p => p != i.port && s.portUp p))).foldl
      (fun s p => s.enqueue (some i.port) p (pri / 2) ⟨tagged, .pool, none, false, false, i.rx⟩) s

/-- A received supervision frame is handed to Ndear-C (R156). -/
def State.supervisionUp (s : State) (f : List Byte) : State := if isSupervision f then s.emit (.toCore f) else s

/-- A supervision frame with a trailer or tag: a duplicate is discarded, another enters the table where it was verified and
goes to Ndear-C (R156, R158, R159). -/
def State.supervisionIn (s : State) (n mac seq member : Nat) (verified : Bool) (f : List Byte) : State :=
  match s.dupEntry n mac seq with
  | some _ => s.dupSeen n mac seq member
  | none => (if verified then s.dupEnter n mac seq (2 ^ member) else s).emit (.toCore f)

/-- A frame, verified or passed by Check, without FCS, at PRP/HSR handling (R147, R156 to R159).
(DEDUCED, log entry 185.) -/
def State.redundancy (s : State) (i : Ingress) (verified : Bool) (f : List Byte) : State :=
  match s.pairOf i.port with
  | none => match s.ilkOf i.port, rctOf f with
    | some n, some (seq, lan, b) =>
      if bits (s.pairIlk n) 9 8 = 2 then (s.supervisionUp b).accept { i with tag := some (seq, lan) } b none
      else (s.supervisionUp f).accept i f none
    | _, _ => (s.supervisionUp f).accept i f none
  | some n =>
    let i := { i with pair := some n }
    if s.pairHsr n then match hsrOf f with
      | none => if isSupervision f then s.emit (.toCore f) else s.accept i f none
      | some (seq, path, b) =>
        if s.ownSource n (srcMac b) then s
        else
          let s := s.ringForward i n seq f b
          let i := { i with tag := some (seq, path) }
          if isSupervision b then s.supervisionIn n (srcMac b) seq (s.memberNo n i.port) verified b
          else s.pairAccept i n verified seq b
    else match rctOf f with
      | none => if isSupervision f then s.emit (.toCore f) else s.accept i f none
      | some (seq, lan, b) =>
        if isSupervision b then s.supervisionIn n (srcMac b) seq (s.memberNo n i.port) verified b
        else s.pairAccept { i with tag := some (seq, lan) } n verified seq b

/-- A frame with FCS at the MAC of a port (R146 to R148): the length and FCS checks, then MACsec, then the rest. -/
def State.macReceive (s : State) (port : Nat) (f : List Byte) (ts : Nat) : State :=
  let good := fcsGood f
  let fits := decide (64 ≤ f.length) && decide (f.length ≤ s.fld pPrm Reg.Prm.FAB_CFG 13 0)
  let body := f.take (f.length - 4)
  let i : Ingress := ⟨port, ts, !good, none, none⟩
  if !fits then s.dropOn port
  else if !good then
    let s := s.dropOn port
    if s.flag pPrm Reg.Prm.FAB_CFG 14 && (s.ilkOf port).isNone && (s.pairOf port).isNone && s.portCfg port 2 2 = 0 then
      (match s.classify port body with
       | none => s
       | some (vid, pri, bare) =>
         if !s.enabled pPrm || linkLocal (dstMac bare) then s else s.forward i vid pri bare)
    else s
  else match s.msVerify port body with
    | (none, s) => s
    | (some (b, ok), s) =>
      if beNat ((b.drop 12).take 2) = 0x888E then s.emit (.toCore b) else s.redundancy i ok b

/-- A receive timestamp: the instant of the first bit, taken `lead` ns ago, with RX_ADJ (R165, R188). -/
def State.rxStamp (s : State) (port lead : Nat) : Nat :=
  let adj := (BitVec.ofNat 16 (bits (s.portReg port 8) 15 0)).toInt
  (((s.sdl.time - lead : Nat) : Int) + adj / 1000).toNat

/-- Frames that leave Folly in the receive direction reach the MAC. -/
def State.macAll (s : State) (port : Nat) (fs : List (List Byte × Nat)) : State :=
  fs.foldl (fun s e => s.macReceive port e.1 e.2) s

/-- A frame, FCS included, whose last bit arrives at a port; its first bit was timestamped `lead` ns ago (R147). -/
def State.frameReceived (s : State) (port : Nat) (f : List Byte) (lead : Nat) : State :=
  if !s.portUp port then s
  else
    let (out, s) := s.folly port false f (s.rxStamp port lead)
    s.macAll port out

end Sys2Proof.Machine
end

