-- ==== Sys2Proof/Machine/Transmit.lean ====
section
/-!
DEFINITION. The transmit side of the Promenade: time-aware gates (R153 to R155, R189), the choice of the next frame (R151,
R152), publication frames, supervision, the tables (R186), and the port and lane registers with rules of their own (R144,
R169, R178 to R180, R187).
-/
namespace Sys2Proof.Machine

/-! Gates -/

/-- A gate list entry: list 0 admin, 1 oper (R189). -/
def gclKey (port list entry : Nat) : Nat := (port * 2 + list) * 128 + entry
def GateEntry.none : GateEntry := ⟨0, 0⟩
def State.gcl (s : State) (port list entry : Nat) : GateEntry :=
  smGet (fun _ => GateEntry.none) s.prm.gcl (gclKey port list entry)
def State.setGcl (s : State) (port list entry : Nat) (g : GateEntry) : State :=
  { s with prm.gcl := smSet (fun _ => GateEntry.none) s.prm.gcl (gclKey port list entry) g }

/-- GCL_CTL of a port, and its fields. -/
def State.gclCtl (s : State) (port : Nat) : Word := s.portReg port 0x10
def State.gateEn (s : State) (port : Nat) : Bool := bitAt (s.gclCtl port) 0
def State.adminLen (s : State) (port : Nat) : Nat := bits (s.gclCtl port) 15 8
def State.operLen (s : State) (port : Nat) : Nat := bits (s.gclCtl port) 23 16
def State.gclPending (s : State) (port : Nat) : Bool := bitAt (s.gclCtl port) 30

/-- The oper list in progress. -/
def State.gateRun (s : State) (port : Nat) : Option GateRun := (s.prm.gates.find? (fun e => e.1 = port)).map (·.2)
def State.setGate (s : State) (port : Nat) (g : Option GateRun) : State :=
  let rest := s.prm.gates.filter (fun e => e.1 ≠ port)
  match g with
  | none => { s with prm.gates := rest }
  | some g => { s with prm.gates := (port, g) :: rest }

/-- The gate states in force: GCL_INIT while GATE_EN is 0 or no oper list has started (R155). -/
def State.gateMask (s : State) (port : Nat) : Nat :=
  match s.gateEn port, s.gateRun port with
  | true, some g => if g.started then g.gates else bits (s.portReg port 0x20) 7 0
  | _, _ => bits (s.portReg port 0x20) 7 0

/-- The admin base time in ns, its seconds those of the present modulo 2³² (R188). -/
def State.adminBase (s : State) (port : Nat) : Nat :=
  (secOf s.sdl.time / 2 ^ 32 * 2 ^ 32 + (s.portReg port 0x18).toNat) * 1000000000 + bits (s.portReg port 0x1C) 29 0

/-- The admin cycle time. -/
def State.adminCycle (s : State) (port : Nat) : Nat := bits (s.portReg port 0x14) 27 0

/-- A unit serves another port already (R154); a port that the lane plan leaves unused uses none (R143). -/
def State.gateUnitTaken (s : State) (port unit : Nat) : Bool :=
  (List.range 256).any (fun p => p != port && s.portExists p && s.gateEn p && decide (bits (s.gclCtl p) 7 2 = unit))

/-- A unit may serve a port's gate list: PRM holds its group, and it serves no other port (R154).
(DESIGN CHOICE, log entry 179.) -/
def State.gateUnitOk (s : State) (port unit : Nat) : Bool :=
  s.flag pPrm Reg.Hdr.CLAIM (unit / 4) && !s.gateUnitTaken port unit

/-- A configuration change is refused (R155). -/
def State.gclRefused (s : State) (port : Nat) : Bool :=
  let n := s.adminLen port
  let ivs := (List.range n).map (fun e => (s.gcl port 0 e).interval)
  decide (n = 0) || decide (128 < n) || ivs.contains 0 || !s.gateUnitOk port (bits (s.gclCtl port) 7 2) ||
  (bitAt (s.gclCtl port) 1 && decide (s.lMin < ivs.foldl (· + ·) 0))

/-- A change is refused: FLT_STA bit [4] of the fabric page, oper unchanged (R155). -/
def State.changeRefused (s : State) (port : Nat) : State :=
  (s.setPortReg port 0x10 (s.gclCtl port &&& 0xBFFFFFFF)).faultItem pPrm 4 4 port 0

/-- CONFIG_CHANGE written as 1 (R155).
(DESIGN CHOICE, log entry 181.) -/
def State.configChange (s : State) (port : Nat) : State :=
  if s.gclRefused port then s.faultItem pPrm 4 4 port 0
  else s.setPortReg port 0x10 (s.gclCtl port ||| 0x40000000)

/-- GCL_CTL written: its own fields, and a change where it asks one. An enable or a change that needs a group of another
page is refused with CLAIM_CONFLICT (R17, R113). GATE_EN stays 0 where the unit may not serve the port, and an oper list
that GATE_EN = 0 stopped waits for its next cycle start.
(DESIGN CHOICE, log entries 179, 180.) -/
def State.gclCtlWrite (s : State) (by_ : Port) (port : Nat) (v : Word) : State :=
  let unit := bits v 7 2
  let s := if (bitAt v 0 || bitAt v 31) && s.groupElsewhere pPrm (unit / 4) then
      s.gthLog logClaim (some by_) (portPage port) (0x110 + 0x40 * (port % 16)) else s
  let keep := if s.gateUnitOk port unit then 0x0000FFFF else 0x0000FFFE
  let s := s.setPortReg port 0x10 ((s.gclCtl port &&& 0xFFFF0000) ||| (v &&& keep))
  let s := if s.gateEn port then s
    else s.setGate port ((s.gateRun port).map (fun g => { g with started := false, held := true }))
  if bitAt v 31 then s.configChange port else s

/-- The admin list, cycle and base become oper (R155).
(DESIGN CHOICE, log entry 181.) -/
def State.adminToOper (s : State) (port : Nat) : State :=
  let n := s.adminLen port
  let s := (List.range n).foldl (fun s e => s.setGcl port 1 e (s.gcl port 0 e)) s
  s.setPortReg port 0x10 (putBits (s.gclCtl port &&& 0xBFFFFFFF) 23 16 n)

/-- The first instant base + n × cycle at or after t; the base itself where the cycle is 0 (R154). -/
def cycleFrom (base cycle t : Nat) : Nat :=
  if t ≤ base ∨ cycle = 0 then base else base + (t - base + cycle - 1) / cycle * cycle

/-- The start of a cycle with the oper list. -/
def State.startCycle (s : State) (port cycle base at_ : Nat) (sel : Bool) : State :=
  let e := s.gcl port 1 0
  s.setGate port (some ⟨e.gates, 0, e.interval, false, cycle, base, at_, sel, true⟩)

/-- The next cycle start of the oper list: the slot start where its BASE_SEL is 1 (R154). -/
def State.operStart (s : State) (port : Nat) : Option Nat :=
  match s.gateRun port with
  | none => none
  | some g =>
    if g.baseSel then s.sdl.slotAt.filter (fun c => decide (g.startAt < c) || !g.started)
    else if g.cycleNs = 0 then none
    else some (if g.started then g.startAt + g.cycleNs else cycleFrom g.base g.cycleNs s.sdl.time)

/-- The oper list starts its next cycle (R154). -/
def State.gateRestart (s : State) (port : Nat) : State :=
  match s.gateRun port, s.operStart port with
  | some g, some t => (s.advanceTo t).startCycle port g.cycleNs g.base t g.baseSel
  | _, _ => s

/-- The pending admin list takes over at a cycle start (R155). An ADMIN_LEN that has become invalid since the change was
accepted refuses it here. -/
def State.takeAdmin (s : State) (port cycle t : Nat) (sel : Bool) : State :=
  if 1 ≤ s.adminLen port ∧ s.adminLen port ≤ 128 then
    ((s.advanceTo t).adminToOper port).startCycle port cycle (s.adminBase port) t sel
  else (s.changeRefused port).gateRestart port

/-- A gate cycle starts on a port (R154, R155): at the slot start where BASE_SEL is 1, otherwise at the next instant of
the base and cycle; a pending admin list takes over at its first cycle start. -/
def State.gateCycle (s : State) (port : Nat) : State :=
  if !s.gateEn port then s
  else if !s.gclPending port then s.gateRestart port
  else if bitAt (s.gclCtl port) 1 then
    match s.sdl.slotAt with
    | none => s.gateRestart port
    | some c => if c < s.adminBase port then s.gateRestart port else s.takeAdmin port 0 c true
  else
    let t := cycleFrom (s.adminBase port) (s.adminCycle port) s.sdl.time
    if (s.operStart port).any (fun c => decide (c < t)) then s.gateRestart port
    else s.takeAdmin port (s.adminCycle port) t false

/-- The interval of the entry in force ends: the next entry's states apply; after the last one its states hold (R153,
R154). -/
def State.gateExpiry (s : State) (port : Nat) : State :=
  match s.gateRun port with
  | none => s
  | some g =>
    if g.held || !s.gateEn port then s
    else
      let s := s.advanceTo (g.startAt + g.till)
      if g.entry + 1 < s.operLen port then
        let e := s.gcl port 1 (g.entry + 1)
        s.setGate port (some { g with gates := e.gates, entry := g.entry + 1, till := g.till + e.interval })
      else s.setGate port (some { g with held := true })

/-- Ns until the gate of a class closes, counted over n entries of a list from entry e on, `left` ns from now being its
start and `lim` ns from now the end of the cycle; none where it stays open till then. -/
def State.closesAfter (s : State) (port list n cls : Nat) (lim : Option Nat) : Nat → Nat → Nat → Option Nat
  | 0, _, _ => none
  | fuel + 1, e, left =>
    if n ≤ e || lim.any (fun l => decide (l ≤ left)) then none
    else
      let g := s.gcl port list e
      if g.gates.testBit cls then s.closesAfter port list n cls lim fuel (e + 1) (left + g.interval) else some left

/-- The cycle start at which a pending change takes over (R154, R155). -/
def State.changeStart (s : State) (port : Nat) : Option Nat :=
  if !s.gclPending port then none
  else if bitAt (s.gclCtl port) 1 then some (cycleFrom s.nextSlotAt s.slotLength (s.adminBase port))
  else some (cycleFrom (s.adminBase port) (s.adminCycle port) s.sdl.time)

/-- Ns until the running oper list closes the gate of a class: in what is left of this cycle, or in the next one. -/
def State.operCloses (s : State) (port cls : Nat) (g : GateRun) : Option Nat :=
  let now := s.sdl.time
  let len := s.operLen port
  let next := if g.baseSel then some (s.nextSlotAt - now) else (s.operStart port).map (· - now)
  let rest := if g.held then none else s.closesAfter port 1 len cls next 128 (g.entry + 1) (g.startAt + g.till - now)
  match rest, next with
  | some t, _ => some t
  | none, none => none
  | none, some n => s.closesAfter port 1 len cls (some (n + (if g.baseSel then s.slotLength else g.cycleNs))) 128 0 n

/-- Ns until the open gate of a class closes, by the oper list or by a pending list that takes over first (R153). -/
def State.gateCloses (s : State) (port cls : Nat) : Option Nat :=
  if !s.gateEn port then none
  else
    let oper := (s.gateRun port).bind (s.operCloses port cls)
    match s.changeStart port with
    | none => oper
    | some c =>
      let c := c - s.sdl.time
      if oper.any (fun t => decide (t < c)) then oper else s.closesAfter port 0 (s.adminLen port) cls none 128 0 c

/-- Ns that n octets with their preamble take at a port's rate (R152).
(DEDUCED, log entry 57.) -/
def State.lineTime (s : State) (port n : Nat) : Nat :=
  let r := s.portRate port
  if r = 0 then 0 else (n + 8) * 8000 / r

/-- A frame of a class may start: its gate is open, and the frame will end before the gate closes (R153). -/
def State.mayStart (s : State) (port cls : Nat) (q : QFrame) : Bool :=
  (s.gateMask port).testBit cls &&
  match s.gateCloses port cls with
  | none => true
  | some t =>
    let n := (pad60 q.octets).length + 4 + (if s.portCfg port 2 2 = 1 then 32 else 0)
    decide (s.lineTime port n ≤ t)

/-! Transmission -/

/-- The queue whose first frame starts next: the publication queue, then classes 7 to 0 as the gates allow (R151). -/
def State.nextQueue (s : State) (port : Nat) : Option Nat :=
  [8, 7, 6, 5, 4, 3, 2, 1, 0].find? (fun c =>
    match s.queue port c with
    | [] => false
    | q :: _ => decide (c = 8) || s.mayStart port c q)

/-- Frames that leave Folly in the transmit direction go onto the line. -/
def State.lineAll (s : State) (port : Nat) (fs : List (List Byte × Nat)) : State :=
  fs.foldl (fun s e => s.emit (.frame port e.1)) s

/-- A port starts its next frame (R147, R151, R166): residence time, MACsec, FCS, Folly, the line. -/
def State.frameTransmit (s : State) (port : Nat) : State :=
  if !s.portUp port then s
  else match s.nextQueue port with
    | none => s
    | some c => match s.queue port c with
      | [] => s
      | q :: rest =>
        let s := s.setQueue port c rest
        let t := s.adjusted port 31 16
        let f := if s.transparent && s.portCfg port 6 6 == 1 && decide (q.rx ≠ 0) then addCorrection q.octets (t - q.rx) else q.octets
        match s.msProtect port (pad60 f) with
        | (none, s) => s
        | (some g, s) =>
          let s := if q.stamp then { s with prm.txStamp := some (port, t) } else s
          let line := withFcs g
          let line := if q.badFcs then line.take g.length ++ (line.drop g.length).map (~~~ ·) else line
          let (out, s) := s.folly port true line t
          s.lineAll port out

/-- A held or delayed frame leaves Folly: to the MAC, or onto the line (R171). -/
def State.follyOut (s : State) (port : Nat) (fs : List (List Byte × Nat)) : State :=
  if bitAt (s.flyReg port 0) 1 then s.lineAll port fs else s.macAll port fs

/-- A publication frame joins a port's publication queue: it draws on the reserve, then on the pool, or is dropped
(R151). A numbered copy shares its buffer with the other one, or lies in the duplicate buffer of its pair (R160). -/
def State.pubEnqueue (s : State) (port : Nat) (pair : Option Nat) (buf : Option (Nat × Nat × Nat)) (f : List Byte) : State :=
  let homes := [Home.reserve, .pool].map (fun h => (pair.map (fun n => s.copyHome n port h)).getD h)
  if !s.portUp port then s
  else match homes.find? (fun h => s.bufferRoom h buf f.length) with
    | some h => s.setQueue port 8 (s.queue port 8 ++ [⟨f, h, buf, false, false, 0⟩])
    | none => (s.dropOn port).faultItem pPrm 1 4 port 0

/-- The supervision frames of a pair, one for itself and one for each SAN, numbered and queued on both ports (R156, R160,
R379). -/
def State.supervisionTx (s : State) (n : Nat) : State :=
  if !s.pairOn n || !s.enabled pPrm || !s.numbersAlone || s.withheld then s
  else
    let own := s.pairMac
    (s.supervised n).foldl (fun s mac =>
      let (sup, s) := s.takeSeq (2 ^ 48 + mac) n
      let (seq, s) := s.takeSeq own n
      let f := supervisionFrame own mac sup (s.pairHsr n)
      let s := if bitAt (s.pairCfg n) 18 && decide (s.cln.st = .inStep) then
        s.emit (.twinMsg msgForward (natOctetsBE 1 n ++ natOctetsBE 2 seq ++ f)) else s
      s.copiesOut none 0 n 0 seq none f) s

/-! Tables -/

/-- TBL_DATA registers loaded, the rest cleared (R186). -/
def State.setTblData (s : State) (ws : List Word) : State :=
  s.setRegs pPrm (Reg.Prm.TBL_DATA 0) 4 ((ws ++ List.replicate 17 0).take 17)
def State.tblData (s : State) (i : Nat) : Word := s.reg pPrm (Reg.Prm.TBL_DATA i)

/-- A port map as eight words, and back. -/
def mapWords (m : Nat) : List Word := (List.range 8).map (fun i => BitVec.ofNat 32 (m >>> (32 * i)))
def State.dataMap (s : State) (first : Nat) : Nat :=
  (List.range 8).foldl (fun m i => m + (s.tblData (first + i)).toNat * 2 ^ (32 * i)) 0

/-- Address and VLAN as DATA0 and DATA1. -/
def keyWords (mac vid : Nat) : List Word := [BitVec.ofNat 32 mac, BitVec.ofNat 32 (mac / 2 ^ 32 + vid % 4096 * 65536)]
def State.dataMac (s : State) : Nat := (s.tblData 0).toNat + bits (s.tblData 1) 15 0 * 2 ^ 32
def State.dataVid (s : State) : Nat := bits (s.tblData 1) 27 16

/-- An FDB entry in TBL_DATA. -/
def FdbEntry.words (e : FdbEntry) : List Word :=
  keyWords e.mac e.vid ++ [BitVec.ofNat 32 (e.port % 256 + 256 * b2n e.static + 512 * b2n e.mcast)] ++
    (if e.mcast then mapWords e.ports else List.replicate 8 0)
/-- A proxy entry in TBL_DATA. -/
def ProxyEntry.words (e : ProxyEntry) : List Word :=
  keyWords e.mac e.vid ++ [BitVec.ofNat 32 (e.pair % 32 + e.seq % 65536 * 65536)]
/-- A VLAN entry in TBL_DATA. -/
def VlanEntry.words (e : VlanEntry) : List Word := mapWords e.members ++ mapWords e.untagged ++ [BitVec.ofNat 32 (b2n e.learn)]

/-- TBL_CMD op 0: the entry into TBL_DATA, zeros where there is none (R186). -/
def State.tblRead (s : State) (table index : Nat) : State :=
  s.setTblData (
    if table = 0 then (if index < 4096 then (s.vlan index).words else [])
    else if table = 1 then match s.prm.fdb.find? (fun e => e.1 = index) with
      | some (_, e) => e.words
      | none => []
    else if table = 2 then match s.prm.proxy.find? (fun e => e.1 = index) with
      | some (_, e) => e.words
      | none => []
    else [])

/-- The entry at an FDB index is STATIC. -/
def State.fdbStatic (s : State) (index : Nat) : Bool := s.prm.fdb.any (fun e => e.1 == index && e.2.static)

/-- A change of the tables that the configuration owns: from CORE, before the Pergola was first enabled (R186). -/
def State.tblOpen (s : State) (by_ : Port) : Bool := by_ == .core && !s.pgl.everEnabled

/-- A change of a VLAN entry or a STATIC FDB entry. -/
def State.tblGuarded (s : State) (table index : Nat) (writing : Bool) : Bool :=
  table == 0 || (table == 1 && (s.fdbStatic index || (writing && bitAt (s.tblData 2) 8)))

/-- TBL_CMD op 1: TBL_DATA into the entry (R186). -/
def State.tblWrite (s : State) (by_ : Port) (table index : Nat) : State :=
  if s.tblGuarded table index true && !s.tblOpen by_ then s.ruleRefusal by_ pPrm Reg.Prm.TBL_CMD
  else if table = 0 then
    if index < 4096 then
      { s with prm.vlan := smSet (fun _ => VlanEntry.none) s.prm.vlan index
                 ⟨s.dataMap 0, s.dataMap 8, bitAt (s.tblData 16) 0⟩ }
    else s
  else if table = 1 then
    let w := s.tblData 2
    let e : FdbEntry := ⟨s.dataMac, s.dataVid, bits w 7 0, bitAt w 8, bitAt w 9, (if bitAt w 9 then s.dataMap 3 else 0), s.now⟩
    { s with prm.fdb := s.prm.fdb.filter (fun x => x.1 ≠ index) ++ [(index, e)] }
  else if table = 2 then
    if index < 512 then
      let seq := ((s.prm.proxy.find? (fun e => e.1 = index)).map (fun e => e.2.seq)).getD 0
      { s with prm.proxy := s.prm.proxy.filter (fun x => x.1 ≠ index) ++
                 [(index, ProxyEntry.mk s.dataMac s.dataVid (bits (s.tblData 2) 4 0) seq)] }
    else s
  else s

/-- TBL_CMD op 2: the entry removed (R186). -/
def State.tblDelete (s : State) (by_ : Port) (table index : Nat) : State :=
  if s.tblGuarded table index false && !s.tblOpen by_ then s.ruleRefusal by_ pPrm Reg.Prm.TBL_CMD
  else if table = 0 then { s with prm.vlan := smSet (fun _ => VlanEntry.none) s.prm.vlan index VlanEntry.none }
  else if table = 1 then { s with prm.fdb := s.prm.fdb.filter (fun x => x.1 ≠ index) }
  else if table = 2 then { s with prm.proxy := s.prm.proxy.filter (fun x => x.1 ≠ index) }
  else s

/-- TBL_CMD op 3: the entry whose address and VLAN stand in TBL_DATA, zeros where there is none; a VLAN entry has no key
in TBL_DATA and is not searched (R186). -/
def State.tblSearch (s : State) (table : Nat) : State :=
  if table = 1 then s.setTblData (match s.fdbFind s.dataMac s.dataVid with
    | some e => e.words
    | none => [])
  else if table = 2 then s.setTblData (match s.prm.proxy.find? (fun e => e.2.mac = s.dataMac ∧ e.2.vid = s.dataVid) with
    | some (_, e) => e.words
    | none => [])
  else s

/-- A dynamic entry ages out AGE_S seconds after it was learned or refreshed (R150, R184). -/
def State.fdbAgeOut (s : State) (index : Nat) : State :=
  let age := s.fld pPrm Reg.Prm.FDB_AGE 15 0
  match s.prm.fdb.find? (fun e => e.1 = index) with
  | none => s
  | some (_, e) =>
    if e.static || decide (age = 0) then s
    else
      let s := s.tick (e.born + age * 1000000000 - s.now)
      { s with prm.fdb := s.prm.fdb.filter (fun x => x.1 ≠ index) }

/-! Port and lane registers -/

/-- PORT_CFG of a port written from a Gatehouse port (R169, R174, R188): STATE 3 keeps STATE, a move into or out of TEST
is for HOST and MAINT, and a member of an enabled pair cannot enter TEST. -/
def State.portCfgWrite (s : State) (by_ : Port) (port : Nat) (v : Word) : State :=
  if !s.portExists port then s
  else
    let page := portPage port
    let o := Reg.Prc.PORT_CFG (port % 16)
    let old := s.portState port
    let new := if bits v 1 0 = 3 then old else bits v 1 0
    let test := decide (old ≠ new) && (decide (old = 2) || decide (new = 2))
    let denied := test && !(by_ == .host || by_ == .maint)
    let member := !denied && decide (old ≠ 2) && decide (new = 2) && (s.pairOf port).isSome
    let st := if denied || member then old else new
    let locked := s.flag page Reg.Hdr.LOCK 0
    let rest := if locked then s.reg page o &&& 0x00FFFFFC else v &&& 0x00FFFFFC
    let s := s.setReg page o (rest ||| BitVec.ofNat 32 st)
    let s := if denied then s.authRefusal by_ page o else if member then s.refuseWrite by_ page o else s
    let s := if old = 2 ∧ st ≠ 2 then s.follyStop port else s
    s.bmca

/-- PAIR_CFG_n written (R161, R187). -/
def State.pairCfgWrite (s : State) (by_ : Port) (n : Nat) (v : Word) : State :=
  let o := Reg.Prm.PAIR_CFG n
  if s.pairOn n then (if bitAt v 31 then s else s.pairDisable n)
  else
    let cur := s.pairCfg n
    let v := if bits v 17 16 = 3 then putBits v 17 16 (bits cur 17 16) else v
    let v := if s.flag pPrm Reg.Hdr.LOCK 0 then (cur &&& 0x7FFFFFFF) ||| (v &&& 0x80000000) else v
    if bitAt v 31 then s.pairEnable by_ n v else s.setReg pPrm o (v &&& 0x003FFFFF)

/-- LN_MODE of a lane written: only while its cluster is disabled, and the page not locked; MODE 7 and FEC 3 keep their
fields (R144, R178). -/
def State.lnModeWrite (s : State) (n : Nat) (v : Word) : State :=
  if s.enabled (pPrc (n / 4)) then s.fault (pLne n) 4
  else if s.flag (pLne n) Reg.Hdr.LOCK 0 then s
  else
    let v := if bits v 2 0 = 7 then putBits v 2 0 (s.laneMode n) else v
    let v := if bits v 5 4 = 3 then putBits v 5 4 (s.laneFec n) else v
    (s.setReg (pLne n) Reg.Lne.LN_MODE (v &&& 0x377)).bmca

/-- GCL_DATA written: the addressed admin entry, then ENTRY advances (R189). -/
def State.gclDataWrite (s : State) (g : Nat) (v : Word) : State :=
  let a := s.reg (pPrc g) Reg.Prc.GCL_ADDR
  let s := if bitAt a 12 then s else s.setGcl (16 * g + bits a 3 0) 0 (bits a 10 4) ⟨bits v 7 0, bits v 31 8⟩
  s.setFld (pPrc g) Reg.Prc.GCL_ADDR 10 4 (bits a 10 4 + 1)

/-- GCL_DATA read: the addressed entry, then ENTRY advances. -/
def State.gclDataRead (s : State) (g : Nat) : Word × State :=
  let a := s.reg (pPrc g) Reg.Prc.GCL_ADDR
  let e := s.gcl (16 * g + bits a 3 0) (b2n (bitAt a 12)) (bits a 10 4)
  (BitVec.ofNat 32 (e.gates % 256 + e.interval * 256), s.setFld (pPrc g) Reg.Prc.GCL_ADDR 10 4 (bits a 10 4 + 1))

/-- The association MS_ADDR names (R190). -/
def State.msAddr (s : State) (g : Nat) : MsAssoc × Nat :=
  let a := s.reg (pPrc g) Reg.Prc.MS_ADDR
  (⟨16 * g + bits a 3 0, bits a 4 4, if bitAt a 4 then bits a 6 5 else 0, bits a 7 7⟩, bits a 10 8)

end Sys2Proof.Machine
end

