-- ==== Sys2Proof/Machine/Streams.lean ====
section
/-!
DEFINITION. SV and GOOSE subscription: the checks, tags, windows, staging, slot heads and slot copies of the Parterre
(R199 to R215, R222 to R227), and the digest records of a twin that exchanges them (R373 to R376).
-/
namespace Sys2Proof.Machine

/-! The stores -/

/-- D of R204 by the profile in effect. -/
def State.winDepth (s : State) : Nat := if s.fld pSys Reg.Sys.PRF 9 8 = 0 then 512 else 256

/-- The sample-store offset of position p of quantity q of stream i (R204). -/
def State.sampleOfs (s : State) (i q p : Nat) : Nat := ((i * 8 + q) * s.winDepth + p) * 4
/-- The table-memory offset of the flag word of position p of stream i (R207, R293). -/
def State.flagOfs (s : State) (i p : Nat) : Nat := (i * s.winDepth + p) * 2

/-- The flag word of the position that index n has. -/
def State.flagOf (s : State) (i n : Nat) : Nat := leNat (s.peekMem rgTable (s.flagOfs i (n % s.winDepth)) 2)
/-- The flag word of index n replaced. -/
def State.setFlagOf (s : State) (i n v : Nat) : State := s.writeMem rgTable (s.flagOfs i (n % s.winDepth)) (natOctets 2 v)

/-- Flags of R207 above the QBAD bits. -/
abbrev fMiss : Nat := 0x0100
abbrev fLate : Nat := 0x0200
abbrev fDup : Nat := 0x0400
abbrev fTagf : Nat := 0x0800
abbrev fSim : Nat := 0x1000
abbrev fSync : Nat := 0x2000
abbrev fStep : Nat := 0x4000
abbrev fChg : Nat := 0x8000

/-! Status and exceptions -/

/-- A stream with nothing received. -/
def SvStream.fresh : SvStream :=
  { head := none, fixed := none, live := false, lost := false, cfgErr := false, simSeen := false, missCnt := 0, oowCnt := 0
    tagfCnt := 0, dupCnt := 0, quals := [], newest := 0, tagf := [] }
def State.stream (s : State) (i : Nat) : SvStream := ((s.ptr.sv.find? (fun e => e.1 = i)).map (·.2)).getD SvStream.fresh
def State.setStream (s : State) (i : Nat) (x : SvStream) : State :=
  { s with ptr.sv := (i, x) :: s.ptr.sv.filter (fun e => e.1 ≠ i) }

/-- A block with nothing received. -/
def GooseCopy.fresh : GooseCopy := ⟨List.replicate 16 0, false, false, 0⟩
def GooseBlock.fresh : GooseBlock :=
  { recvd := false, live := .fresh, slot := .fresh, stNum := 0, sqNum := 0, deadline := 0, simSeen := false, replayCnt := 0
    tagfCnt := 0, repeats := 0, slotRecvd := false, slotSeen := false }
def State.block (s : State) (i : Nat) : GooseBlock :=
  ((s.ptr.goose.find? (fun e => e.1 = i)).map (·.2)).getD GooseBlock.fresh
def State.setBlock (s : State) (i : Nat) (x : GooseBlock) : State :=
  { s with ptr.goose := (i, x) :: s.ptr.goose.filter (fun e => e.1 ≠ i) }

/-- Exception codes of R215. -/
abbrev excOow : Nat := 1
abbrev excDup : Nat := 2
abbrev excConfig : Nat := 3
abbrev excSmpCnt : Nat := 4
abbrev excTagf : Nat := 5
abbrev excKeyId : Nat := 6
abbrev excReplay : Nat := 7
abbrev excFull : Nat := 8
abbrev excSim : Nat := 9
abbrev excLost : Nat := 10
abbrev excStale : Nat := 11
abbrev excId : Nat := 12

/-- The FLT_STA bit an exception sets, where it sets one (R222). -/
def excBit (code : Nat) : Option Nat :=
  if code = excTagf ∨ code = excKeyId then some 0 else if code = excOow ∨ code = excFull then some 1
  else if code = excConfig ∨ code = excId then some 2 else if code = excLost ∨ code = excStale then some 3
  else if code = excReplay then some 4 else none

/-- A 64-entry log takes an exception; a full one loses its oldest and says so (R215, R224).
(DEDUCED, log entry 66.) -/
def logExc (log : List ExcEntry) (code index slot : Nat) : List ExcEntry :=
  if log.length < 64 then log ++ [⟨code, false, index, slot⟩] else log.drop 1 ++ [⟨code, true, index, slot⟩]

/-- An exception of SV stream i (R215, R222). -/
def State.svExc (s : State) (code i : Nat) : State :=
  let s := { s with ptr.exc1 := logExc s.ptr.exc1 code i (s.slotCnt % 2048) }
  match excBit code with
  | some b => s.faultItem pPtr1 b 2 i 0
  | none => s
/-- An exception of GOOSE block i. -/
def State.gooseExc (s : State) (code i : Nat) : State :=
  let s := { s with ptr.exc2 := logExc s.ptr.exc2 code i (s.slotCnt % 2048) }
  match excBit code with
  | some b => s.faultItem pPtr2 b 3 i 0
  | none => s

/-- The word EXC reads (R224). -/
def ExcEntry.word (e : ExcEntry) : Word :=
  BitVec.ofNat 32 (e.code + b2n e.lost * 2 ^ 7 + e.index % 8192 * 2 ^ 8 + e.slot % 2048 * 2 ^ 21)

/-- A read of EXC on page 1 or 2: the oldest entry is removed (R224).
(DEDUCED, log entry 150.) -/
def State.excRead (s : State) (page : Nat) : Word × State :=
  if page = pPtr1 then match s.ptr.exc1 with
    | [] => (0, s)
    | e :: es => (e.word, { s with ptr.exc1 := es })
  else match s.ptr.exc2 with
    | [] => (0, s)
    | e :: es => (e.word, { s with ptr.exc2 := es })

/-! The window of a stream -/

/-- NQ + 1 of stream i. -/
def State.svQty (s : State) (i : Nat) : Nat := bits (s.svCfg i 0) 12 10 + 1
/-- RATE, W, RSV, LATE_US and MAX_AGE_US of stream i (R226). -/
def State.svRate (s : State) (i : Nat) : Nat := bits (s.svCfg i 1) 16 0
def State.svWrap (s : State) (i : Nat) : Nat := wrapOf (bits (s.svCfg i 1) 18 17)
def State.svRsv (s : State) (i : Nat) : Nat := bits (s.svCfg i 3) 23 16
def State.svLate (s : State) (i : Nat) : Nat := bits (s.svCfg i 4) 15 0
def State.svMaxAge (s : State) (i : Nat) : Nat := bits (s.svCfg i 5) 23 0

/-- Index n is set MISS with value 0 (R204). -/
def State.svMiss (s : State) (i n : Nat) : State :=
  let s := (List.range (s.svQty i)).foldl (fun s q =>
    s.writeMem rgSample (s.sampleOfs i q (n % s.winDepth)) (zeros 4)) s
  s.setFlagOf i n fMiss

/-- The indices after h up to n are set MISS, a gap of D or more setting every position; they are counted (R204,
R226). -/
def State.svMissTo (s : State) (i h n : Nat) : State :=
  let d := s.winDepth
  let k := min (n - h) d
  let s := (List.range k).foldl (fun s j => s.svMiss i (n - j)) s
  let x := s.stream i
  s.setStream i { x with missCnt := satAdd 0xFFFF x.missCnt k }

/-- Before the first placement every position is MISS and is not counted.
(DEDUCED, log entry 61.) -/
def State.svMissAll (s : State) (i : Nat) : State :=
  let d := s.winDepth
  let s := (List.range (s.svQty i)).foldl (fun s q => s.writeMem rgSample (s.sampleOfs i q 0) (zeros (4 * d))) s
  s.writeMem rgTable (s.flagOfs i 0) ((List.replicate d [0x00, 0x01]).flatten)

/-- The flag word of a sample being placed (R207). -/
def State.svFlags (s : State) (x : Staged) : Nat :=
  let st := s.stream x.stream
  let qs := (List.range (s.svQty x.stream)).map (fun q => ((x.quals.find? (fun e => e.1 = q)).map (·.2)).getD 0)
  let bad := (List.range qs.length).foldl (fun a q => a + b2n (decide (bits (nth qs q 0) 1 0 ≠ 0)) * 2 ^ q) 0
  let late := x.late || (match st.head with | some h => decide (x.n < h) | none => false)
  bad + b2n late * fLate + b2n x.sim * fSim + b2n x.sync * fSync + b2n (decide (0 < s.sdl.tstep)) * fStep +
    b2n (!st.quals.isEmpty && decide (st.quals ≠ qs)) * fChg

/-- A sample's values, flag word and quality words go to its position; the stream is live (R204, R207, R209). -/
def State.svPut (s : State) (x : Staged) : State :=
  let i := x.stream
  let d := s.winDepth
  let f := s.svFlags x
  let s := match (s.stream i).head with
    | none => s.svMissAll i
    | some h => if h + 1 < x.n then s.svMissTo i h (x.n - 1) else s
  let s := (List.range (s.svQty i)).foldl (fun s q =>
    s.writeWord rgSample (s.sampleOfs i q (x.n % d)) (((x.values.find? (fun e => e.1 = q)).map (·.2)).getD 0)) s
  let s := s.setFlagOf i x.n f
  let st := s.stream i
  let qs := (List.range (s.svQty i)).map (fun q => ((x.quals.find? (fun e => e.1 = q)).map (·.2)).getD 0)
  s.setStream i { st with
    head := some (max x.n (st.head.getD 0)), newest := max x.n st.newest, live := true, lost := false, quals := qs }

/-- A sample is written to the window: below it, it is OOW; onto a held sample, it is DUP (R205). -/
def State.svWrite (s : State) (x : Staged) : State :=
  let i := x.stream
  let st := s.stream i
  match st.head with
  | none => s.svPut x
  | some h =>
    if x.n + s.winDepth ≤ h then (s.setStream i { st with oowCnt := satAdd 0xFFFF st.oowCnt 1 }).svExc excOow i
    else if x.n ≤ h ∧ (s.flagOf i x.n).testBit 8 = false then
      ((s.setFlagOf i x.n (s.flagOf i x.n ||| fDup)).setStream i { st with dupCnt := satAdd 0xFFFF st.dupCnt 1 }).svExc
        excDup i
    else s.svPut x

/-- The staging buffer of 2,048 records has room (R215). -/
def State.stageRoom (s : State) : Bool := decide (s.ptr.staged.length + s.ptr.stagedLate.length < 2048)

/-- A sample that the full staging buffer discards (R215). -/
def State.stageFull (s : State) (i : Nat) : State :=
  ({ s with ptr.stageDrop := satAdd 0xFFFF s.ptr.stageDrop 1 }).svExc excFull i

/-- A sample that arrives in a slot: written at once when H_k < n ≤ H_k + RSV or while no slot runs, staged otherwise,
discarded where the staging buffer is full (R205, R215). -/
def State.svArrive (s : State) (x : Staged) : State :=
  let st := s.stream x.stream
  let atOnce := match st.fixed with
    | none => true
    | some h => s.sdl.slotAt.isNone || (decide (h < x.n) && decide (x.n ≤ h + s.svRsv x.stream))
  if atOnce then s.svWrite x
  else if s.stageRoom then { s with ptr.staged := s.ptr.staged ++ [x] } else s.stageFull x.stream

/-- The largest n with t(n) ≤ a + 50 µs whose smpCnt is the record's (R203). -/
def sampleIndex (a rate r smpCnt : Nat) : Nat :=
  let m := (a + 50000) * rate / 1000000000
  m - (m + (r - smpCnt % r)) % r

/-- A stream places nothing: its entry is disabled or fenced (R429). -/
def State.svShut (s : State) (i : Nat) : Bool := !bitAt (s.svCfg i 0) 0 || s.fencedItem 2 i
def State.gooseShut (s : State) (i : Nat) : Bool := !bitAt (s.gooseCfg i 0) 0 || s.fencedItem 3 i

/-- The simulation rule of R208, for a subscription that has or has not seen a simulated record: whether the record is
taken, and SIM_SEEN after it. -/
def State.simRule (s : State) (seen sim : Bool) : Bool × Bool :=
  if !s.flag pPtr1 Reg.Ptr1.STRM_CFG 0 then (!sim, seen)
  else (sim || !seen, seen || sim)

/-- smpSynch as 0 none, 1 local, 2 global (R207). -/
def synchOf (v : Nat) : Nat := if v = 1 then 1 else if v = 2 ∨ (5 ≤ v ∧ v ≤ 254) then 2 else 0

/-- A checked and authenticated SV record is placed under its receive timestamp and placement instant (R203 to R208).
(DEDUCED, log entry 62.) -/
def State.svLand (s : State) (i : Nat) (r : SvRecord) (a placed : Nat) : State :=
  if s.svShut i then s
  else
    let rate := s.svRate i
    let n := sampleIndex a rate (rate / s.svWrap i) r.smpCnt
    let age : Int := (a * rate : Nat) - (n * 1000000000 : Nat)
    let st := s.stream i
    let (take, seen) := s.simRule st.simSeen r.sim
    let st := { st with simSeen := seen }
    if !take then (s.setStream i st).svExc excSim i
    else
      let s := s.setStream i st
      if (s.svMaxAge i * 1000 * rate : Nat) < age then
        (s.setStream i { st with oowCnt := satAdd 0xFFFF st.oowCnt 1 }).svExc excOow i
      else
        let x : Staged :=
          { stream := i, n := n, late := decide ((s.svLate i * 1000 * rate : Nat) < age), placed := placed
            values := r.values, quals := r.quals, sim := r.sim
            sync := decide (synchOf r.smpSynch < bits (s.svCfg i 1) 20 19) }
        if s.ptr.fixWait && decide (s.sdl.slotAt.getD 0 ≤ placed) then
          if s.stageRoom then { s with ptr.stagedLate := s.ptr.stagedLate ++ [x] } else s.stageFull i
        else s.svArrive x

/-! GOOSE state -/

/-- The member words of a record (R214). -/
def State.gooseMembers (s : State) (i : Nat) (r : GooseRecord) : List Word :=
  (List.range 16).map (fun m =>
    let b := bits (s.gooseCfg i (6 + m / 4)) (8 * (m % 4) + 7) (8 * (m % 4))
    if b = 0xFF ∨ bits (s.gooseCfg i 0) 14 10 ≤ m then 0
    else ((r.entries.find? (fun e => e.1 = b)).map (·.2)).getD 0)

/-- An authenticated GOOSE record meets the held stNum and sqNum (R212, R213).
(DEDUCED, log entry 205.) -/
def State.gooseApply (s : State) (i : Nat) (r : GooseRecord) (placed : Nat) : State :=
  let b := s.block i
  let ds := (r.stNum + 2 ^ 32 - b.stNum) % 2 ^ 32
  let dq := (r.sqNum + 2 ^ 32 - b.sqNum) % 2 ^ 32
  let b' := { b with sqNum := r.sqNum, deadline := placed + max r.tal 1 * 1000000, live.cfgErr := false }
  if !b.recvd || b.live.stale || (decide (1 ≤ ds) && decide (ds < 2 ^ 31)) then
    s.setBlock i { b' with recvd := true, stNum := r.stNum, live.members := s.gooseMembers i r, live.stale := false
                           live.chg := satAdd 255 b.live.chg 1 }
  else if ds = 0 then
    if 1 ≤ dq ∧ dq < 2 ^ 31 then s.setBlock i b' else s.setBlock i { b with repeats := satAdd 0xFFFF b.repeats 1 }
  else (s.setBlock i { b with replayCnt := satAdd 0xFFFF b.replayCnt 1 }).gooseExc excReplay i

/-- A GOOSE record meets the simulation rule, then the held state (R208, R212). -/
def State.gooseTake (s : State) (i : Nat) (r : GooseRecord) (placed : Nat) : State :=
  let b := s.block i
  let (take, seen) := s.simRule b.simSeen r.sim
  let s := s.setBlock i { b with simSeen := seen }
  if take then s.gooseApply i r placed else s.gooseExc excSim i

/-- A checked and authenticated GOOSE record is placed (R208, R212 to R214). -/
def State.gooseLand (s : State) (i : Nat) (r : GooseRecord) (placed : Nat) : State :=
  if s.gooseShut i then s
  else if s.ptr.fixWait && decide (s.sdl.slotAt.getD 0 ≤ placed) then
    { s with ptr.gooseLate := s.ptr.gooseLate ++ [(i, r, placed)] }
  else s.gooseTake i r placed

/-- A change of a block's live copy alone, at or after C_k: its slot copy, where that still waits, does not see it (R214). -/
def State.gooseNote (s : State) (i : Nat) (stale : Bool) : State :=
  if s.ptr.fixWait then { s with ptr.gooseNotes := s.ptr.gooseNotes ++ [(i, stale)] }
  else
    let b := s.block i
    s.setBlock i (if stale then { b with live.stale := true } else { b with live.cfgErr := true })

/-- A block becomes STALE: its members keep their values (R213). -/
def State.gooseStale (s : State) (i : Nat) : State :=
  let b := s.block i
  if b.recvd && !b.live.stale && !s.ptr.gooseNotes.contains (i, true) then (s.gooseNote i true).gooseExc excStale i else s

/-- The live deadline of a block is reached with no record (R213). -/
def State.gooseTimeout (s : State) (i : Nat) : State :=
  let b := s.block i
  if !b.recvd || b.live.stale || !bitAt (s.gooseCfg i 0) 0 then s else (s.advanceTo b.deadline).gooseStale i

/-- What was noted while the slot copies waited takes effect: STALE where no record has put the deadline off since. -/
def State.notesDone (s : State) : State :=
  let notes := s.ptr.gooseNotes
  { s with ptr.gooseNotes := [] } |> notes.foldl (fun s e =>
    if e.2 && decide (s.sdl.time < (s.block e.1).deadline) then s else s.gooseNote e.1 e.2)

/-! The DFT unit of the reference channels -/

/-- A sample that the DFT unit may use: present, valid, and not simulated unless TRK_CFG.SIM_OK (R102). -/
def State.refUsable (s : State) (i q n : Nat) : Bool :=
  let f := s.flagOf i n
  !f.testBit 8 && !f.testBit q && (!f.testBit 12 || s.flag pSdl Reg.Sdl.TRK_CFG 16)

/-- The longest run of samples that may not be used. -/
def longestBad : Nat → List (Int × Bool) → Nat
  | _, [] => 0
  | run, (_, ok) :: xs => if ok then longestBad 0 xs else max (run + 1) (longestBad (run + 1) xs)

/-- The samples of a reference channel from the head that the input set last fixed, newest first: two nominal cycles as far
as the window reaches (R102, R112). -/
def State.refWindow (s : State) (i q head : Nat) : List (Int × Bool) :=
  (List.range (min (2 * (s.svRate i / s.fnomHz)) s.winDepth)).map (fun j =>
    let n := head - j
    ((BitVec.ofNat 32 (leNat (s.peekMem rgSample (s.sampleOfs i q (n % s.winDepth)) 4))).toInt, s.refUsable i q n))

/-- The estimates for a reference channel at a boundary at C_k (R102): from the samples of the quantity of the stream that
REF_x names. A rate of fewer than 32 samples per nominal cycle gives none that may be used.
(DESIGN CHOICE, log entry 53.) -/
def State.refEst (s : State) (cfg : Word) (ck : Nat) : RefEst :=
  let i := bits cfg 12 0
  let q := bits cfg 15 13
  let rate := s.svRate i
  let per := rate / s.fnomHz
  match (s.stream i).fixed, bitAt cfg 16 with
  | some h, true =>
    if per < 32 ∨ s.svQty i ≤ q then ⟨0, 9, 0, 0⟩
    else
      let w := s.refWindow i q h
      let (rms, freq, angle) := Config.dft rate (ck - h * 1000000000 / rate) w
      ⟨rms, longestBad 0 (w.take per), freq, angle⟩
  | _, _ => ⟨0, 9, 0, 0⟩

/-! Slot starts -/

/-- A stream at a slot start at C_k: the time rule, the fixed head, LOST, and TAGF on the positions still missing (R200,
R205, R206, R209). With nothing placed since the enable the time rule alone gives the first head, every position MISS.
(DEDUCED, log entry 61.) -/
def State.svHead (s : State) (ck i : Nat) : State :=
  let st := s.stream i
  let m := (ck - s.svLate i * 1000) * s.svRate i / 1000000000
  match st.head with
  | none => (s.svMissAll i).setStream i { st with head := some m, newest := m, fixed := some m }
  | some h =>
    let s := if st.lost || decide (m ≤ h) then s
      else
        let s := s.svMissTo i h m
        let st := s.stream i
        let lost := decide (16 ≤ m - st.newest)
        let s := s.setStream i { st with head := some m, lost := lost, live := st.live && !lost }
        if lost then s.svExc excLost i else s
    let st := s.stream i
    let hk := st.head.getD h
    let s := (st.tagf.filter (fun n => decide (n ≤ hk))).foldl (fun s n =>
      if hk < n + s.winDepth ∧ (s.flagOf i n).testBit 8 then s.setFlagOf i n (s.flagOf i n ||| fTagf) else s) s
    s.setStream i { st with fixed := some hk, tagf := st.tagf.filter (fun n => decide (hk < n)) }

/-- A block's live copy becomes its slot copy (R214); `judge` is set where STALE is judged at C_k from the agreed
deadlines. -/
def State.gooseCopy (s : State) (ck : Nat) (judge : Bool) (i : Nat) : State :=
  let s := if judge && decide ((s.block i).deadline ≤ ck) then s.gooseStale i else s
  let b := s.block i
  s.setBlock i { b with slot := b.live, slotRecvd := b.recvd, slotSeen := b.simSeen, live.chg := 0 }

/-- Heads and slot copies are fixed for the slot that started at C_k: staged samples first, then the heads, then what
was placed at or after C_k (R205, R214). -/
def State.fixInputs (s : State) (ck : Nat) (judge : Bool) : State :=
  let staged := s.ptr.staged
  let s := { s with ptr.staged := [], ptr.fixWait := false }
  let s := staged.foldl (fun s x => if s.svShut x.stream then s else s.svWrite x) s
  let s := s.svEntries.foldl (fun s i => s.svHead ck i) s
  let s := s.gooseEntries.foldl (fun s i => s.gooseCopy ck judge i) s
  let late := s.ptr.stagedLate
  let glate := s.ptr.gooseLate
  let s := { s with ptr.stagedLate := [], ptr.gooseLate := [] }
  let s := late.foldl (fun s x => if s.svShut x.stream then s else s.svArrive x) s
  (glate.foldl (fun s e => s.gooseTake e.1 e.2.1 e.2.2) s).notesDone

/-- The Colonnade session exchanges digests: ATTACH_XFER from C_s on, or IN_STEP (R205, R372). -/
def State.exchanging (s : State) : Bool :=
  s.cln.session && ((s.cln.st == .attachXfer && s.cln.attach.isNone) || s.cln.st == .inStep)

/-- The Parterre at a slot start: at once on a single device, at C_k + 5 µs on a twin exchanging digests (R205). -/
def State.ptrSlotStart (s : State) : State :=
  let ck := s.sdl.slotAt.getD s.sdl.time
  if s.exchanging then { s with ptr.fixWait := true } else s.fixInputs ck false

/-- C_k + 5 µs on a twin exchanging digests (R377). -/
def State.slotInputFix (s : State) : State :=
  match s.ptr.fixWait, s.sdl.slotAt with
  | true, some ck => (s.advanceTo (ck + 5000)).fixInputs ck true
  | _, _ => s

/-! Digest records -/

/-- The octets of a digest record (R373). -/
def DigestRec.octets (d : DigestRec) : List Byte :=
  d.digest ++ natOctetsBE 4 (secOf d.rx) ++ natOctetsBE 4 (nsOf d.rx) ++ natOctetsBE 2 (d.sub + b2n d.goose * 2 ^ 13) ++
    natOctetsBE 2 (d.placed - d.rx) ++ natOctetsBE 4 d.key

/-- The digest of a frame's covered octets under the session's keys (R373). -/
def State.digestOf (s : State) (f : List Byte) : List Byte :=
  aesEnc (nth s.cln.keys 1 []) (ghash ((nth s.cln.keys 2 []).take 16) (pad16 f))

/-- Two records name one frame (R374). -/
def DigestRec.same (a b : DigestRec) : Bool := a.goose == b.goose && a.sub == b.sub && a.key == b.key

/-- A match of differing digests is a mismatch (R374). -/
def State.digestCompare (s : State) (a b : DigestRec) : State :=
  if a.digest = b.digest then s else (s.countFld pCln Reg.Cln.CNT_MIS 15 0 1).fault pCln 4

/-- The agreed receive timestamp and placement instant of a match: the earlier placement's, a tie going to twin A
(R374). -/
def State.agreedOf (s : State) (own peer : DigestRec) : Nat × Nat :=
  if peer.placed < own.placed ∨ (peer.placed = own.placed ∧ s.twinB) then (peer.rx, peer.placed) else (own.rx, own.placed)

/-- A frame about to be placed on a twin exchanging digests: its record leaves, is matched with one the peer has sent, and
the agreed values are answered (R373, R374). -/
def State.digestSend (s : State) (goose : Bool) (sub key count a placed : Nat) (f : List Byte) : (Nat × Nat) × State :=
  if !s.exchanging then ((a, placed), s)
  else
    let own : DigestRec := { goose := goose, sub := sub, key := key, rx := a, placed := placed
                             digest := s.digestOf f, frame := f, count := count, matched := false, forwarded := false }
    let recent (d : DigestRec) : Bool := decide (placed ≤ d.placed + 20000)
    let s := s.emit (.twinMsg msgDigest own.octets)
    match s.cln.peerRecs.find? (fun d => d.same own && recent d) with
    | some p =>
      let v := s.agreedOf own p
      let s := s.digestCompare own p
      (v, { s with cln.records := s.cln.records.filter recent ++ [{ own with rx := v.1, placed := v.2, matched := true }]
                   cln.peerRecs := s.cln.peerRecs.filter (fun d => !d.same own && recent d) })
    | none => ((a, placed), { s with cln.records := s.cln.records.filter recent ++ [own]
                                     cln.peerRecs := s.cln.peerRecs.filter recent })

/-- The key of a GOOSE record in a digest: stNum and sqNum, 16 bits each (R373). -/
def gooseKey (stNum sqNum : Nat) : Nat := stNum % 65536 * 65536 + sqNum % 65536

/-- SUB and KEY of a frame's first record (R373). -/
def State.digestKey (s : State) (a : Nat) : Matched → Bool × Nat × Nat
  | .sv i r => (false, i, sampleIndex a (s.svRate i) (s.svRate i / s.svWrap i) r.smpCnt % 2 ^ 32)
  | .goose i r => (true, i, gooseKey r.stNum r.sqNum)

/-- A record is placed. -/
def State.landOne (s : State) (a placed : Nat) : Matched → State
  | .sv i r => s.svLand i r a placed
  | .goose i r => s.gooseLand i r placed

/-- The peer has forwarded this frame and it has been placed: an own copy that comes later adds nothing (R374, R375). -/
def State.placedByPeer (s : State) (goose : Bool) (sub key : Nat) : Bool :=
  s.exchanging && s.cln.records.any (fun r => r.frame.isEmpty && r.goose == goose && r.sub == sub && r.key == key &&
    decide (s.sdl.time ≤ r.placed + 20000))

/-- The records of a frame are placed: under the sender's values where it was forwarded, else under this twin's own or the
agreed ones (R374, R375). -/
def State.land (s : State) (ms : List Matched) (a : Nat) (agreed : Option Nat) (f : List Byte) : State :=
  match ms with
  | [] => s
  | m :: _ =>
    match agreed with
    | some t => ms.foldl (fun s m => s.landOne a t m) s
    | none =>
      let (g, sub, key) := s.digestKey a m
      if s.placedByPeer g sub key then s
      else
        let n := (ms.filter (fun m => match m with | .sv i _ => !g && i == sub | .goose _ _ => false)).length
        let ((a', t), s) := s.digestSend g sub key n a s.sdl.time f
        ms.foldl (fun s m => s.landOne a' t m) s

/-! The walk of a frame, and its checks -/

/-- An ID field read through the decoder of its memory: its octets, and whether a word is poisoned (R417, R419). -/
def State.idRead (s : State) (field : Word) : List Byte × Bool × State :=
  let a := 0x700000 + 8 * bits field 24 8
  let (bs, p, s) := s.readMem rgTable a (bits field 7 0)
  (bs, p, if p then s.poisonRead rgTable a (bits field 7 0) true else s)

/-- The entry among the candidates whose ID is the record's; a poisoned ID ends the search without one (R202, R211).
(DEDUCED, log entry 64.) -/
def State.idMatch (s : State) (field : Nat → Word) (id : List Byte) : List Nat → Option (Option Nat) × State
  | [] => (some none, s)
  | i :: is =>
    match s.idRead (field i) with
    | (_, true, s) => (none, s)
    | (bs, false, s) => if bs = id then (some (some i), s) else s.idMatch field id is

/-- The checks of R202 on a matched SV record.
(DEDUCED, log entry 62.) -/
def State.svCheck (s : State) (i : Nat) (r : SvRecord) (asduOk : Bool) : Bool × State :=
  let q := s.svQty i
  let bad := decide (r.confRev ≠ (s.svCfg i 2).toNat) || decide (r.values.length < q) || !asduOk
  let s := s.setStream i { s.stream i with cfgErr := bad }
  if bad then (false, s.svExc excConfig i)
  else if s.svRate i / s.svWrap i ≤ r.smpCnt then (false, s.svExc excSmpCnt i)
  else (true, s)

/-- The checks of R211 on a matched GOOSE record; a poisoned datSet discards it. -/
def State.gooseCheck (s : State) (i : Nat) (r : GooseRecord) : Bool × State :=
  let (ds, p, s) := s.idRead (s.gooseCfg i 5)
  if p then (false, s)
  else if ds ≠ r.datSet ∨ r.confRev ≠ (s.gooseCfg i 1).toNat ∨ r.ndsCom = true ∨ r.nEntries ≠ bits (s.gooseCfg i 2) 7 0 then
    (false, (s.gooseNote i false).gooseExc excConfig i)
  else (true, s)

/-- The entry an SV record matches: none raises ID where the APPID is known (R202). -/
def State.svFind (s : State) (slot : Nat) (r : SvRecord) : Option Nat × State :=
  let cs := s.svByApp slot r.appid
  match s.idMatch (fun i => s.svCfg i 6) r.svid cs with
  | (some (some i), s) => (some i, s)
  | (some none, s) => (none, match cs with | c :: _ => s.svExc excId c | [] => s)
  | (none, s) => (none, s)
/-- The entry a GOOSE record matches (R211). -/
def State.gooseFind (s : State) (slot : Nat) (r : GooseRecord) : Option Nat × State :=
  let cs := s.gooseByApp slot r.appid
  match s.idMatch (fun i => s.gooseCfg i 4) r.gocbRef cs with
  | (some (some i), s) => (some i, s)
  | (some none, s) => (none, match cs with | c :: _ => s.gooseExc excId c | [] => s)
  | (none, s) => (none, s)

/-- What is gathered over a frame's records: the ingest classes matched, and the records that passed their checks. -/
abbrev Gathered := List Nat × List Matched

/-- The records of an accepted SV walk. -/
def State.gatherSv (s : State) (slot : Nat) (asduOk : Bool) : List SvRecord → Gathered → Gathered × State
  | [], g => (g, s)
  | r :: rs, (cs, ms) =>
    match s.svFind slot r with
    | (none, s) => s.gatherSv slot asduOk rs (cs, ms)
    | (some i, s) =>
      let c := bits (s.svCfg i 0) 9 6
      let cs := if cs.contains c then cs else cs ++ [c]
      match s.svCheck i r asduOk with
      | (false, s) => s.gatherSv slot asduOk rs (cs, ms)
      | (true, s) => s.gatherSv slot asduOk rs (cs, ms ++ [.sv i r])

/-- The record of an accepted GOOSE walk. -/
def State.gatherGoose (s : State) (slot : Nat) (r : GooseRecord) : Gathered × State :=
  match s.gooseFind slot r with
  | (none, s) => (([], []), s)
  | (some i, s) => match s.gooseCheck i r with
    | (false, s) => (([bits (s.gooseCfg i 0) 9 6], []), s)
    | (true, s) => (([bits (s.gooseCfg i 0) 9 6], [.goose i r]), s)

/-- The record asks for a tag; the authentication fields of its entry: key slot, AES-GMAC, tag octets, queue class (R200,
R226, R227, R231). -/
def State.wantsTag (s : State) : Matched → Bool
  | .sv i _ => s.svAuth i
  | .goose i _ => s.gooseAuth i
def tagOctets (taglen : Nat) : Nat := if taglen = 0 then 8 else if taglen = 1 then 10 else if taglen = 2 then 16 else 32
def State.authOf (s : State) : Matched → Nat × Bool × Nat × Nat
  | .sv i _ => (bits (s.svCfg i 3) 12 0, bitAt (s.svCfg i 1) 22, tagOctets (bits (s.svCfg i 1) 25 23),
      s.fld pPgl (Reg.Pgl.ICLS (bits (s.svCfg i 0) 9 6)) 19 16)
  | .goose i _ => (bits (s.gooseCfg i 3) 12 0, bitAt (s.gooseCfg i 2) 9, tagOctets (bits (s.gooseCfg i 2) 12 10),
      s.fld pPgl (Reg.Pgl.ICLS (bits (s.gooseCfg i 0) 9 6)) 19 16)

/-- The walker takes frames: the Pergola or the walker page is enabled (R11, R528).
(DEDUCED, log entry 60.) -/
def State.walking (s : State) : Bool := s.enabled pPtr0 || s.pglOn

/-- A walk that ends without records (R196, R222, R223). -/
def State.walkRejected (s : State) (slot step cause : Nat) : State :=
  ((s.countFld pPtr0 Reg.Ptr0.WALK_CNT 15 0 1).setReg pPtr0 Reg.Ptr0.WALK_ERR
    (BitVec.ofNat 32 (slot + step * 2 ^ 5 + cause * 2 ^ 16))).fault pPtr0 0

/-- A frame longer than FWD_LEN of its ingest class on a twin exchanging digests (R376). -/
def State.tooLong (s : State) (c : Nat) (f : List Byte) : Bool :=
  s.exchanging && decide (s.fld pCln (Reg.Cln.FWD_LEN c) 13 0 < f.length)

/-- The frame is charged to the ingest classes it matched: whether it is within budget (R229). -/
def State.chargeIngest (s : State) (cs : List Nat) : Bool × State :=
  cs.foldl (fun x c => let (ok, s) := x.2.chargeWork (0x10 + c) 1; (x.1 && ok, s)) (true, s)

/-- Units of 16 octets an operation costs its class: AES by octets, SHA-256 four for each 64 octets of message and padding
(R229, R237). -/
def tagUnits (aes : Bool) (n : Nat) : Nat := if aes then (n + 16 + 15) / 16 else (n + 9 + 63) / 64 * 4

/-- A core takes the check of a record's tag: the queue class is charged, where a tag and a key of the entry's kind are there to
be checked (R229, R331, R332). -/
def State.tagCharge (s : State) (t : WalkedTag) (m : Matched) : State :=
  let (slot, aes, n, cls) := s.authOf m
  match t.tag, keyById (s.slot slot) (t.keyId.getD 0) with
  | some tag, some k =>
    if tag.length = n ∧ aes = isAes k.typ ∧ k.usage.testBit useVerify = true then
      (s.chargeWork (0x20 + cls) (tagUnits aes t.cover.length)).2
    else s
  | _, _ => s

/-- What a frame's records do once checked: those that ask for a tag wait for its check, the others are placed (R199 to
R202). `unsealed` is the key slot under which an encrypted frame has verified.
(DEDUCED, log entry 189.) -/
def State.takeRecords (s : State) (p : ParseIn) (sec : WalkedTag) (unsealed : Option Nat) (g : Gathered) : State :=
  let asks (m : Matched) : Bool := s.wantsTag m && decide (unsealed ≠ some (s.authOf m).1)
  if g.1.any (fun c => s.tooLong c p.octets) then (s.countFld pCln Reg.Cln.CNT_MIS 31 16 1).fault pCln 7
  else
    let auth := if p.agreed.isSome then [] else g.2.filter asks
    let open_ := if p.agreed.isSome then g.2 else g.2.filter (fun m => !asks m)
    let s := s.land open_ p.ts p.agreed p.octets
    if auth.isEmpty then s
    else
      let s := auth.foldl (fun s m => s.tagCharge sec m) s
      { s with ptr.tagWait := s.ptr.tagWait ++ [
      { stopped := false, recs := auth, tag := sec, ts := p.ts, frame := p.octets, dup := p.dup, agreed := p.agreed }] }

/-- An encrypted routable frame, u being the offset of its session header: its key identifier, IV, header, ciphertext and tag
(R192). -/
def sealedParts (f : List Byte) (u : Nat) : Nat × List Byte × List Byte × List Byte × List Byte :=
  let o := payloadAt f u
  let n := beNat ((f.drop (o - 4)).take 4)
  (beNat ((f.drop (u + 22)).take 4), (f.drop (u + 27)).take 12, (f.drop u).take (o - u), (f.drop o).take n,
   (f.drop (o + n + 2)).take (nth f (o + n + 1) 0).toNat)

/-- The frame's payload is encrypted: the encryption algorithm of its session header is not none. -/
def isSealed (f : List Byte) : Bool :=
  match sessionAt f with
  | some u => decide (nth f (u + 20) 0 ≠ 0)
  | none => false

/-- The entries of a format slot that ask for a tag under AES, as records of no content. -/
def State.sealedEntries (s : State) (slot : Nat) : List Matched :=
  (s.svEntries.filter (fun i => decide (bits (s.svCfg i 0) 5 1 = slot))).map
      (fun i => Matched.sv i ⟨0, [], 0, 0, 0, false, [], []⟩) ++
    (s.gooseEntries.filter (fun i => decide (bits (s.gooseCfg i 0) 5 1 = slot))).map
      (fun i => Matched.goose i ⟨0, [], [], 0, 0, 0, 0, false, 0, false, []⟩) |>.filter (fun m => s.wantsTag m && (s.authOf m).2.1)

/-- An exception of the entry that stands for a frame which could not be opened. -/
def State.sealedExc (s : State) (code : Nat) : List Matched → State
  | [] => s
  | .sv i _ :: _ => let st := s.stream i; (s.setStream i { st with tagfCnt := satAdd 0xFFFF st.tagfCnt 1 }).svExc code i
  | .goose i _ :: _ => let b := s.block i; (s.setBlock i { b with tagfCnt := satAdd 0xFFFF b.tagfCnt 1 }).gooseExc code i

/-- An encrypted routable frame is opened under the key that its identifier selects among those of the entries bound to its format
slot; its payload is decrypted only where the tag verifies (R192, R200, R329, R333). Answers the key slot and the plain frame.
(DEDUCED, log entry 188.) -/
def State.unseal (s : State) (f : List Byte) (slot : Nat) : Option (Nat × List Byte) × State :=
  match sessionAt f with
  | none => (none, s)
  | some u =>
    let (id, iv, head, ct, tag) := sealedParts f u
    let es := s.sealedEntries slot
    match es.find? (fun m => (keyById (s.slot (s.authOf m).1) id).isSome) with
    | none => (none, s.sealedExc excKeyId es)
    | some m =>
      let k := (s.authOf m).1
      match keyById (s.slot k) id with
      | none => (none, s)
      | some key =>
        if !isAes key.typ || !key.usage.testBit useVerify then (none, (s.faultItem pOrg 6 6 k 0).sealedExc excKeyId [m])
        else
          let (_, s) := s.chargeWork (0x20 + (s.authOf m).2.2.2) ((ct.length + 31) / 16)
          if tag ≠ (gcmTag key.key iv head ct).take 16 then (none, s.sealedExc excTagf [m])
          else (some (k, f.take (payloadAt f u) ++ aesCtr key.key iv 2 ct ++ f.drop (payloadAt f u + ct.length)), s)

/-- The ingest classes and records of an accepted walk; a frame of more than 16 ASDUs is one the device does not support (R192). -/
def State.gather (s : State) (f : List Byte) (slot kind : Nat) (w : Walk) : Gathered × State :=
  if kind = 0 then
    let rs := w.svRecords
    let ok := decide (rs.length ≤ 16) && (match noAsdu f with | some n => n == rs.length | none => true)
    s.gatherSv slot ok rs ([], [])
  else s.gatherGoose slot w.gooseRecord

/-- A frame walked against a format slot, matched and checked; beyond its ingest class budget it goes behind the frames that are
within theirs (R193 to R202, R211). -/
def State.walkSlot (s : State) (second : Bool) (p : ParseIn) (slot : Nat) (unsealed : Option Nat) : State :=
  match s.walk p.octets slot with
  | (.poisoned, _, s) => s
  | (.reject step cause, _, s) => s.walkRejected slot step cause
  | (.accept kind, w, s) =>
    if 2 ≤ kind then s
    else
      let (g, s') := s.gather p.octets slot kind w
      let (ok, s') := if p.late then (true, s') else s'.chargeIngest g.1
      if ok then s'.takeRecords p (w.security p.octets) unsealed g
      else
        let s := (s.chargeIngest g.1).2
        if second then { s with prm.pipe1 := s.prm.pipe1 ++ [{ p with late := true }] }
        else { s with prm.pipe0 := s.prm.pipe0 ++ [{ p with late := true }] }

/-- A frame is walked against its format slot, an encrypted one once opened (R193 to R202). -/
def State.walkFrame (s : State) (second : Bool) (p : ParseIn) : State :=
  match s.formatSlot p.octets with
  | none => s
  | some slot =>
    if isSealed p.octets then match s.unseal p.octets slot with
      | (none, s) => s
      | (some (k, f), s) => s.walkSlot second { p with octets := f } slot (some k)
    else s.walkSlot second p slot none

/-- The frame a pipeline takes next: the first within its budget, else the first (R201). -/
def nextIn (q : List ParseIn) : Option ParseIn := (q.find? (fun p => !p.late)).or q.head?

/-- The next frame of a parse pipeline is walked, dt ns later (R146, R195). -/
def State.frameWalk (s : State) (second : Bool) (dt : Nat) : State :=
  let s := s.tick dt
  match nextIn (if second then s.prm.pipe1 else s.prm.pipe0) with
  | none => s
  | some p =>
    let s := if second then { s with prm.pipe1 := s.prm.pipe1.erase p } else { s with prm.pipe0 := s.prm.pipe0.erase p }
    if s.walking then s.byFlit pPrm (fun s => s.walkFrame second p) else s

/-! Tag checks -/

/-- How a tag check ends. -/
inductive TagEnd where
  | ok | tagf | keyId
  deriving DecidableEq, Repr

/-- The tag of octets under a key, cut to n octets (R192). -/
def tagOver (aes : Bool) (key iv cover : List Byte) (n : Nat) : List Byte :=
  if aes then (gcmTag key iv cover []).take n else (hmac key cover).take n

/-- The check of a frame's tag under one record's entry (R200, R329). A key of the wrong TYPE or USAGE counts as none.
(DEDUCED, log entry 189.) -/
def State.tagCheck (s : State) (w : TagWait) (m : Matched) : TagEnd × State :=
  let (slot, aes, n, _) := s.authOf m
  match w.tag.tag with
  | none => (.tagf, s)
  | some t =>
    if w.stopped || decide (t.length ≠ n) then (.tagf, s)
    else match keyById (s.slot slot) (w.tag.keyId.getD 0) with
      | none => (.keyId, s)
      | some k =>
        if (aes != isAes k.typ) || !k.usage.testBit useVerify then (.keyId, s.faultItem pOrg 6 6 slot 0)
        else
          (if t = tagOver aes k.key w.tag.iv w.tag.cover n then .ok else .tagf, s)

/-- A record whose frame failed: counted and logged; the SV position it would have filled is noted (R200).
(DEDUCED, log entry 63.) -/
def State.tagFailed (s : State) (a : Nat) (e : TagEnd) (m : Matched) : State :=
  let code := if e = .keyId then excKeyId else excTagf
  match m with
  | .sv i r =>
    let st := s.stream i
    let n := sampleIndex a (s.svRate i) (s.svRate i / s.svWrap i) r.smpCnt
    (s.setStream i { st with tagfCnt := satAdd 0xFFFF st.tagfCnt 1
                             tagf := if st.tagf.contains n then st.tagf else n :: st.tagf }).svExc code i
  | .goose i _ =>
    let b := s.block i
    (s.setBlock i { b with tagfCnt := satAdd 0xFFFF b.tagfCnt 1 }).gooseExc code i

/-- Each record of a waiting frame is checked under its own entry; those that pass are gathered.
(DEDUCED, log entry 63.) -/
def State.checkRecs (s : State) (w : TagWait) : List Matched → List Matched → List Matched × State
  | [], ok => (ok, s)
  | m :: ms, ok =>
    match s.tagCheck w m with
    | (.ok, s) => s.checkRecs w ms (ok ++ [m])
    | (e, s) => (s.tagFailed w.ts e m).checkRecs w ms ok

/-- A waiting frame's tag check ends dt ns later: a copy already entered is a duplicate; one that passes is entered and
placed (R159, R200). -/
def State.tagDone (s : State) (n dt : Nat) : State :=
  let s := s.tick dt
  match s.ptr.tagWait[n]? with
  | none => s
  | some w =>
    let s := { s with ptr.tagWait := s.ptr.tagWait.eraseIdx n }
    match s.checkRecs w w.recs [] with
    | ([], s) => s
    | (ok, s) =>
      match w.dup with
      | none => s.land ok w.ts w.agreed w.frame
      | some (pair, mac, seq) =>
        if (s.dupEntry pair mac seq).isSome then s
        else (s.dupEnter pair mac seq 0).land ok w.ts w.agreed w.frame

/-! Registers of pages 0 to 2 -/

/-- SHA-256 of the format slots: 64 steps of 8 octets and the FMT_MATCH word of each (R198). -/
def State.fmtDigest (s : State) : List Byte :=
  sha256 ((List.range 32).flatMap (fun n =>
    s.peekMem rgTable (stepOffset n 0) 512 ++ wordOctets (s.reg pPtr0 (Reg.Ptr0.FMT_MATCH n))))

/-- Format steps, FMT_MATCH and the ID store take writes (R198, R224). -/
def State.fmtOpen (s : State) : Bool := !s.flag pPtr0 Reg.Hdr.LOCK 0 && !s.ptr.everEnabled

/-- A refused write of format memory sets PTR FLT_STA bit [1] (R198, R222). -/
def State.fmtRefuse (s : State) (by_ : Port) (off : Nat) : State := (s.ruleRefusal by_ pPtr0 off).fault pPtr0 1

/-- FMT_DATA_HI written: the step is stored and STEP advances (R198, R223).
(DEDUCED, log entry 149.) -/
def State.fmtDataHi (s : State) (by_ : Port) (v : Word) : State :=
  if by_ != .core || !s.fmtOpen then s.fmtRefuse by_ Reg.Ptr0.FMT_DATA_HI
  else
    let a := s.reg pPtr0 Reg.Ptr0.FMT_ADDR
    let s := s.setReg pPtr0 Reg.Ptr0.FMT_DATA_HI v
    let s := s.writeMem rgTable (stepOffset (bits a 10 6 % 32) (bits a 5 0))
      (wordOctets (s.reg pPtr0 Reg.Ptr0.FMT_DATA_LO) ++ wordOctets v)
    s.setFld pPtr0 Reg.Ptr0.FMT_ADDR 5 0 (bits a 5 0 + 1)

/-- FMT_MATCH_n written (R198). -/
def State.fmtMatch (s : State) (by_ : Port) (n : Nat) (v : Word) : State :=
  if by_ != .core || !s.fmtOpen then s.fmtRefuse by_ (Reg.Ptr0.FMT_MATCH n) else s.setReg pPtr0 (Reg.Ptr0.FMT_MATCH n) v

/-- LOCK of page 0 set: FMT_DIGEST is computed (R198). -/
def State.fmtLock (s : State) : State := s.setOctetRegs pPtr0 (Reg.Ptr0.FMT_DIGEST 0) s.fmtDigest

/-- ID_DATA_HI written: the unit is stored, inside 768 KiB, and UNIT advances (R225).
(DEDUCED, log entry 149.) -/
def State.idDataHi (s : State) (v : Word) : State :=
  let u := s.fld pPtr1 Reg.Ptr1.ID_ADDR 16 0
  let s := s.setReg pPtr1 Reg.Ptr1.ID_DATA_HI v
  let s := if u < 0x18000 then s.writeMem rgTable (0x700000 + 8 * u)
    (wordOctets (s.reg pPtr1 Reg.Ptr1.ID_DATA_LO) ++ wordOctets v) else s
  s.setFld pPtr1 Reg.Ptr1.ID_ADDR 16 0 (u + 1)

/-- STRM_CFG written: setting SIM_MODE starts the rule of R208 anew. -/
def State.strmCfg (s : State) (v : Word) : State :=
  let s := if bitAt v 0 && !s.flag pPtr1 Reg.Ptr1.STRM_CFG 0 then
    { s with ptr.sv := s.ptr.sv.map (fun e => (e.1, { e.2 with simSeen := false }))
             ptr.goose := s.ptr.goose.map (fun e => (e.1, { e.2 with simSeen := false })) } else s
  s.setFlag pPtr1 Reg.Ptr1.STRM_CFG 0 (bitAt v 0)

/-- Writable bits of the configuration words of an SV entry (R226). -/
def svMask (w : Nat) : Word :=
  match w with
  | 0 => 0xFFFF1FFF | 1 => 0x03FFFFFF | 2 => 0xFFFFFFFF | 3 => 0x00FF1FFF | 4 => 0x0000FFFF | 5 => 0x00FFFFFF
  | 6 => 0x01FFFFFF | _ => 0
/-- Writable bits of the configuration words of a GOOSE entry (R227). -/
def gooseMask (w : Nat) : Word :=
  match w with
  | 0 => 0xFFFF7FFF | 1 => 0xFFFFFFFF | 2 => 0x00001FFF | 3 => 0x00001FFF | 4 => 0x01FFFFFF | 5 => 0x01FFFFFF
  | 6 => 0xFFFFFFFF | 7 => 0xFFFFFFFF | 8 => 0xFFFFFFFF | 9 => 0xFFFFFFFF | _ => 0

/-- A configuration word may take v: from CORE, before the first Pergola enable, or as a word 0 that only clears EN (R224,
R236). -/
def State.entryOpen (s : State) (by_ : Port) (w : Nat) (old v : Word) : Bool :=
  by_ == .core && (!s.ptr.everEnabled || (decide (w = 0) && decide (v = old &&& ~~~ 1)))

/-- DATA of page 1 written (R224, R226): enabling an entry starts its status afresh. -/
def State.svData (s : State) (by_ : Port) (v : Word) : State :=
  let i := s.fld pPtr1 Reg.Ptr1.ADDR 13 0
  let w := s.fld pPtr1 Reg.Ptr1.ADDR 20 16
  let v := v &&& svMask w
  if 8192 ≤ i ∨ 7 ≤ w then s
  else if !s.entryOpen by_ w (s.svCfg i w) v then s.ruleRefusal by_ pPtr1 Reg.Ptr1.DATA
  else
    let s := if w = 0 ∧ bitAt v 0 ∧ ¬ bitAt (s.svCfg i 0) 0 then { s with ptr.sv := s.ptr.sv.filter (fun e => e.1 ≠ i) } else s
    { s with ptr.cfg1 := smSet (fun _ => 0) s.ptr.cfg1 (i * 32 + w) v }

/-- DATA of page 2 written (R224, R227). -/
def State.gooseData (s : State) (by_ : Port) (v : Word) : State :=
  let i := s.fld pPtr2 Reg.Ptr2.ADDR 13 0
  let w := s.fld pPtr2 Reg.Ptr2.ADDR 20 16
  let v := v &&& gooseMask w
  if 8192 ≤ i ∨ 10 ≤ w then s
  else if !s.entryOpen by_ w (s.gooseCfg i w) v then s.ruleRefusal by_ pPtr2 Reg.Ptr2.DATA
  else
    let s := if w = 0 ∧ bitAt v 0 ∧ ¬ bitAt (s.gooseCfg i 0) 0 then
      { s with ptr.goose := s.ptr.goose.filter (fun e => e.1 ≠ i) } else s
    { s with ptr.cfg2 := smSet gooseDflt s.ptr.cfg2 (i * 32 + w) v }

/-- DATA of page 1 read (R226); counters are cleared by read (R224). -/
def State.svDataRead (s : State) : Word × State :=
  let i := s.fld pPtr1 Reg.Ptr1.ADDR 13 0
  let w := s.fld pPtr1 Reg.Ptr1.ADDR 20 16
  let st := s.stream i
  let hk := st.fixed.getD 0
  if 8192 ≤ i then (0, s)
  else if w < 7 then (s.svCfg i w, s)
  else if w = 7 then (BitVec.ofNat 32 hk, s)
  else if w = 8 then (BitVec.ofNat 32 (hk / 2 ^ 32), s)
  else if w = 9 then
    (BitVec.ofNat 32 (b2n (st.live && !st.lost) + b2n st.lost * 2 + b2n st.cfgErr * 4 + b2n st.simSeen * 8), s)
  else if w = 10 then (BitVec.ofNat 32 (st.missCnt + st.oowCnt * 65536), s.setStream i { st with missCnt := 0, oowCnt := 0 })
  else if w = 11 then (BitVec.ofNat 32 (st.tagfCnt + st.dupCnt * 65536), s.setStream i { st with tagfCnt := 0, dupCnt := 0 })
  else if w ≤ 19 then (nth st.quals (w - 12) 0, s)
  else (0, s)

/-- The status flags of a copy of a GOOSE block. -/
def GooseCopy.flags (c : GooseCopy) (live seen : Bool) : Nat :=
  b2n live + b2n c.stale * 2 + b2n c.cfgErr * 4 + b2n seen * 8

/-- DATA of page 2 read (R227). -/
def State.gooseDataRead (s : State) : Word × State :=
  let i := s.fld pPtr2 Reg.Ptr2.ADDR 13 0
  let w := s.fld pPtr2 Reg.Ptr2.ADDR 20 16
  let b := s.block i
  if 8192 ≤ i then (0, s)
  else if w < 10 then (s.gooseCfg i w, s)
  else if w = 10 then (BitVec.ofNat 32 (b.live.flags b.recvd b.simSeen + b.slot.chg * 256), s)
  else if w = 11 then (BitVec.ofNat 32 b.stNum, s)
  else if w = 12 then (BitVec.ofNat 32 b.sqNum, s)
  else if w = 13 then
    (BitVec.ofNat 32 (b.replayCnt + b.tagfCnt * 65536), s.setBlock i { b with replayCnt := 0, tagfCnt := 0 })
  else (0, s)

/-- STG_STA read: records staged, and the discards, cleared by read (R225, R224). -/
def State.stgRead (s : State) : Word × State :=
  (BitVec.ofNat 32 ((s.ptr.staged.length + s.ptr.stagedLate.length) % 4096 + s.ptr.stageDrop * 65536),
   { s with ptr.stageDrop := 0 })

end Sys2Proof.Machine
end

