-- ==== Sys2Proof/Machine/Publish.lean ====
section
/-!
DEFINITION. Publication: the fixed forms of the PUB entries, GOOSE evaluation and retransmission, SV frames, their tags,
and their hand-over to the Promenade (R216 to R221, R228, R247, R303, R330, R335).
-/
namespace Sys2Proof.Machine

/-! Output words -/

/-- An output word that no run has committed. -/
def OutWord.fresh : OutWord := { value := 0, typ := 0, never := true, commit := 0, quality := 0 }
def State.outWord (s : State) (w : Nat) : OutWord := smGet (fun _ => OutWord.fresh) s.pav.ow w
def State.setOutWord (s : State) (w : Nat) (o : OutWord) : State :=
  { s with pav.ow := smSet (fun _ => OutWord.fresh) s.pav.ow w o }

/-- The owner of an output word: the lowest entry, enabled at acceptance, whose range holds it (R298). -/
def State.ownerOf (s : State) (w : Nat) : Option Nat :=
  (s.pgl.owners.find? (fun o => decide (o.1 ≤ w) && decide (w < o.1 + o.2.1))).map (·.2.2)

/-- The status of a schedule entry (R252). -/
def EntryStat.fresh : EntryStat := ⟨0, 0, false, false, 0⟩
def State.entryStat (s : State) (e : Nat) : EntryStat :=
  ((s.pgl.stat.find? (fun x => x.1 = e)).map (·.2)).getD EntryStat.fresh
def State.setEntryStat (s : State) (e : Nat) (x : EntryStat) : State :=
  { s with pgl.stat := (e, x) :: s.pgl.stat.filter (fun y => y.1 ≠ e) }

/-- The stale mark of a word: that of its owner's last run (R247, R302). -/
def State.wordStale (s : State) (w : Nat) : Bool := match s.ownerOf w with
  | some e => (s.entryStat e).stale
  | none => false

/-- The committed value of a word: one that nobody owns reads as never committed (R298). -/
def State.committed (s : State) (w : Nat) : Word := if (s.ownerOf w).isSome then (s.outWord w).value else 0

abbrev typSvbuf : Nat := 6

/-- A committed SV OUTPUT sample of index n in a word's buffer (R304). -/
def State.outSample (s : State) (w n : Nat) : Option OutSample :=
  match s.ptr.outBuf.find? (fun e => e.1 = w * 64 + n % 64) with
  | some (_, o) => if o.n = n % 2 ^ 32 then some o else none
  | none => none

/-! BER and the member encodings -/

/-- A BER definite length. -/
def berLength (n : Nat) : List Byte :=
  if n < 128 then natOctets 1 n else if n < 256 then 0x81 :: natOctets 1 n else 0x82 :: natOctetsBE 2 n
/-- A TLV. -/
def tlv (tag : Byte) (c : List Byte) : List Byte := tag :: berLength c.length ++ c
/-- Leading zero octets dropped while the number stays non-negative in two's complement. -/
def trimUnsigned : List Byte → List Byte
  | a :: b :: r => if a = 0 ∧ b.msb = false then trimUnsigned (b :: r) else a :: b :: r
  | r => r
/-- The shortest two's-complement form of an unsigned number below 2³². -/
def berUnsigned (n : Nat) : List Byte := trimUnsigned (natOctetsBE 5 n)
/-- Octets that only repeat the sign dropped. -/
def trimSigned : List Byte → List Byte
  | a :: b :: r =>
    if (a = 0 ∧ b.msb = false) ∨ (a = 0xFF ∧ b.msb = true) then trimSigned (b :: r) else a :: b :: r
  | r => r

/-- The data-set entry of a member (R303). -/
def memberOctets (typ : Nat) (v : Word) : List Byte :=
  if typ = 0 then [0x83, 0x01, if v = 0 then 0x00 else 0x01]
  else if typ = 1 then tlv 0x85 (trimSigned (wordOctetsBE v))
  else if typ = 2 then tlv 0x86 (berUnsigned v.toNat)
  else if typ = 3 then [0x87, 0x05, 0x08] ++ wordOctetsBE v
  else if typ = 4 then [0x84, 0x02, 0x06] ++ natOctets 1 (bits v 1 0 * 64)
  else if typ = 5 then
    let b := (List.range 13).foldl (fun a i => a + b2n (bitAt v i) * 2 ^ (15 - i)) 0
    [0x84, 0x03, 0x03] ++ natOctetsBE 2 b
  else []

/-- A UtcTime: UTC seconds, a 24-bit fraction and the quality octet (IEC 61850-8-1).
(DESIGN CHOICE, log entry 22.) -/
def State.utcTime (s : State) (t : Nat) : List Byte :=
  natOctetsBE 4 (secOf t - s.fld pSdl Reg.Sdl.UTC_OFS 15 0) ++ natOctetsBE 3 (nsOf t * 2 ^ 24 / 1000000000) ++
    [Config.timeQuality s.syncState]

/-- A GOOSE APDU (IEC 61850-8-1): timeAllowedToLive, stNum, sqNum and confRev as unsigned integers, goID where it has a
length.
(DEDUCED, log entry 75.) -/
def gooseApdu (ref ds goid : List Byte) (tal st sq conf : Nat) (utc : List Byte) (sim : Bool) (ms : List (List Byte)) :
    List Byte :=
  tlv 0x61 (tlv 0x80 ref ++ tlv 0x81 (berUnsigned tal) ++ tlv 0x82 ds ++ (if goid.isEmpty then [] else tlv 0x83 goid) ++
    tlv 0x84 utc ++ tlv 0x85 (berUnsigned st) ++ tlv 0x86 (berUnsigned sq) ++
    tlv 0x87 [if sim then 0xFF else 0x00] ++ tlv 0x88 (berUnsigned conf) ++ tlv 0x89 [0x00] ++
    tlv 0x8A (berUnsigned ms.length) ++ tlv 0xAB ms.flatten)

/-- One ASDU: its smpCnt, and value and quality of each quantity. -/
structure Asdu where
  smpCnt : Nat
  data : List (Word × Word)

/-- An SV APDU (IEC 61850-9-2), with gmIdentity in every ASDU (R220). -/
def svApdu (id ds : List Byte) (conf synch gm : Nat) (as : List Asdu) : List Byte :=
  tlv 0x60 (tlv 0x80 (natOctets 1 as.length) ++ tlv 0xA2 ((as.map (fun a =>
    tlv 0x30 (tlv 0x80 id ++ (if ds.isEmpty then [] else tlv 0x81 ds) ++ tlv 0x82 (natOctetsBE 2 a.smpCnt) ++
      tlv 0x83 (natOctetsBE 4 conf) ++ tlv 0x85 (natOctets 1 synch) ++
      tlv 0x87 (a.data.flatMap (fun d => wordOctetsBE d.1 ++ wordOctetsBE d.2)) ++ tlv 0x89 (natOctetsBE 8 gm)))).flatten))

/-! Frames -/

/-- What a frame is tagged or encrypted with (R192, R221, R335): AES, whether the payload is encrypted, tag octets, key
identifier, IV, and the key, none where the slot holds none. -/
structure PubSec where
  aes : Bool
  enc : Bool
  tagLen : Nat
  keyId : Nat
  iv : List Byte
  key : Option (List Byte)

/-- The tag over octets, zeros without a key (R335). -/
def PubSec.tag (p : PubSec) (cover : List Byte) : List Byte :=
  match p.key with
  | none => zeros p.tagLen
  | some k => tagOver p.aes k p.iv cover p.tagLen

/-- The key identifier a frame carries. -/
def PubSec.id (p : PubSec) : List Byte := natOctetsBE 4 (if p.key.isSome then p.keyId else 0)

/-- The octets of an IEC 62351-6 extension before its tag's content.
(PRESUMED, log entry 70.) -/
def PubSec.extHead (p : PubSec) : List Byte :=
  let inner := tlv 0x80 p.id ++ (if p.aes then tlv 0x81 p.iv else []) ++ [0x82] ++ berLength p.tagLen
  [0xA0] ++ berLength (inner.length + p.tagLen) ++ inner

/-- The sum of 16-bit words of octets, as the internet checksum takes it. -/
def inetSum (bs : List Byte) : Nat :=
  let n := (chunks 2 bs).foldl (fun a w => a + beNat (w ++ zeros (2 - w.length))) 0
  let n := n % 65536 + n / 65536
  65535 - (n % 65536 + n / 65536)

/-- The session protocol data unit of a routable form (IEC TR 61850-90-5): MAC-only over all that precedes the
signature, or AES-GCM with the header authenticated and the payload encrypted.
(PRESUMED, log entry 71.) -/
def spdu (sv : Bool) (appid : Nat) (sim : Bool) (number : Nat) (sec : PubSec) (apdu : List Byte) : List Byte :=
  let body := [if sv then 0x82 else 0x81, if sim then 0x01 else 0x00] ++ natOctetsBE 2 appid ++ natOctetsBE 2 apdu.length ++ apdu
  let algs : List Byte := [if sec.enc then 0x01 else 0x00, if sec.enc then 0x00 else if sec.aes then 0x04 else 0x01]
  let ivs := if sec.aes then natOctets 1 12 ++ sec.iv else [0x00]
  let common := natOctetsBE 4 number ++ [0x00, 0x02] ++ zeros 6 ++ algs ++ sec.id ++ ivs
  let head := [if sv then 0xA2 else 0xA1] ++ natOctets 1 (common.length + 6) ++ [0x80] ++ natOctets 1 (common.length + 4) ++
    natOctetsBE 4 (common.length + 4 + body.length + 2 + sec.tagLen) ++ common ++ natOctetsBE 4 body.length
  let sign := [0x85] ++ natOctets 1 sec.tagLen
  if sec.enc then match sec.key with
    | none => head ++ zeros body.length ++ sign ++ zeros sec.tagLen
    | some k =>
      let ct := aesCtr k sec.iv 2 body
      head ++ ct ++ sign ++ (gcmTag k sec.iv head ct).take sec.tagLen
  else head ++ body ++ sign ++ sec.tag (head ++ body ++ sign)

/-- A routable frame's payload in UDP port 102 and IPv4 or IPv6.
(DESIGN CHOICE, log entry 23; PRESUMED, log entry 71.) -/
def State.ipFrame (s : State) (sv : Bool) (i : Nat) (v6 : Bool) (p : List Byte) : List Byte × List Byte :=
  let w (k : Nat) : Word := s.pubCfg sv i k
  let hops := natOctets 1 (bits (w 21) 7 0)
  let tos := bits (w 21) 13 8 * 4
  let udp (sum : Nat) : List Byte := natOctetsBE 2 102 ++ natOctetsBE 2 102 ++ natOctetsBE 2 (8 + p.length) ++ natOctetsBE 2 sum ++ p
  if v6 then
    let dst := (wordOctetsBE (w 17)) ++ (wordOctetsBE (w 18)) ++ (wordOctetsBE (w 19)) ++ (wordOctetsBE (w 20))
    let src := natOctetsBE 16 Config.ownIpv6.toNat
    let sum := inetSum (src ++ dst ++ natOctetsBE 4 (8 + p.length) ++ natOctetsBE 4 17 ++ udp 0)
    ([0x33, 0x33] ++ wordOctetsBE (w 20),
     natOctetsBE 4 (6 * 2 ^ 28 + tos * 2 ^ 20) ++ natOctetsBE 2 (8 + p.length) ++ [17] ++ hops ++ src ++ dst ++
       udp (if sum = 0 then 65535 else sum))
  else
    let dst := wordOctetsBE (w 17)
    let src := natOctetsBE 4 Config.ownIpv4.toNat
    let head (sum : Nat) : List Byte := [0x45] ++ natOctets 1 tos ++ natOctetsBE 2 (28 + p.length) ++ [0, 0, 0x40, 0] ++ hops ++ [17] ++
      natOctetsBE 2 sum ++ src ++ dst
    ([0x01, 0x00, 0x5E] ++ natOctetsBE 3 ((w 17).toNat % 2 ^ 23), head (inetSum (head 0)) ++ udp 0)

/-- A publication frame without FCS, in the form of its entry, with or without the simulation indication (R192, R216,
R228). -/
def State.pubFrame (s : State) (sv : Bool) (i number : Nat) (sec : PubSec) (sim : Bool) (apdu : List Byte) : List Byte :=
  let w0 := s.pubCfg sv i 0
  let w4 := s.pubCfg sv i 4
  let form := bits w0 3 1
  let appid := bits w0 31 16
  let tag := if bitAt w4 31 then [] else [0x81, 0x00] ++ natOctetsBE 2 (bits w4 30 28 * 2 ^ 13 + bits w4 27 16)
  let src := natOctetsBE 6 s.pairMac
  if form ≤ 1 then
    let ext := if form = 1 then sec.extHead else []
    let extLen := if form = 1 then ext.length + sec.tagLen else 0
    let head := natOctetsBE 2 appid ++ natOctetsBE 2 (8 + apdu.length) ++ natOctetsBE 2 (b2n sim * 2 ^ 15 + extLen) ++ [0, 0]
    let cover := head ++ apdu ++ ext
    [0x01, 0x0C, 0xCD, if sv then 0x04 else 0x01] ++ natOctetsBE 2 (bits (s.pubCfg sv i 16) 15 0) ++ src ++ tag ++
      [0x88, if sv then 0xBA else 0xB8] ++ cover ++ (if form = 1 then sec.tag cover else [])
  else
    let (dst, ip) := s.ipFrame sv i (form == 3) (spdu sv appid sim number sec apdu)
    dst ++ src ++ tag ++ (if form = 3 then [0x86, 0xDD] else [0x08, 0x00]) ++ ip

/-- An enabled entry is tagged or encrypted. -/
def State.pubTagged (s : State) (sv : Bool) (i : Nat) : Bool := decide (bits (s.pubCfg sv i 0) 3 1 ≠ 0)
/-- AES serves the entry: GMAC, or encryption by TAGLEN 0b111 in a routable form (R228). -/
def State.pubEnc (s : State) (sv : Bool) (i : Nat) : Bool :=
  decide (2 ≤ bits (s.pubCfg sv i 0) 3 1) && decide (bits (s.pubCfg sv i 2) 16 14 = 7)
def State.pubAes (s : State) (sv : Bool) (i : Nat) : Bool := bitAt (s.pubCfg sv i 2) 13 || s.pubEnc sv i
/-- Octets of the tag a publication asks for (R192, R210).
(DEDUCED, log entry 69.) -/
def State.pubTagLen (s : State) (sv : Bool) (i : Nat) : Nat :=
  if !s.pubTagged sv i then 0 else if s.pubEnc sv i then 16 else tagOctets (bits (s.pubCfg sv i 2) 16 14)

/-- The IV of a publication (R330). -/
def pubIv (sv : Bool) (i counter : Nat) : List Byte :=
  natOctetsBE 2 (b2n sv * 2 ^ 15 + i % 1024) ++ natOctetsBE 8 counter ++ [0x00, 0x00]

/-- The security of a frame at build: the key of its slot's CUR where TYPE and USAGE fit, charged to PUB_QCLASS; without
one PTR3 FLT_STA bit [1] is set (R221, R229, R329, R335). -/
def State.pubSec (s : State) (sv : Bool) (i counter : Nat) : PubSec × State :=
  let aes := s.pubAes sv i
  let base : PubSec := { aes := aes, enc := s.pubEnc sv i, tagLen := s.pubTagLen sv i, keyId := 0
                         iv := pubIv sv i counter, key := none }
  if !s.pubTagged sv i then (base, s)
  else
    let n := bits (s.pubCfg sv i 2) 12 0
    match (s.slot n).cur with
    | none => (base, s.fault pPtr3 1)
    | some k =>
      if (aes != isAes k.typ) || !k.usage.testBit useGenerate then (base, (s.faultItem pOrg 6 6 n 0).fault pPtr3 1)
      else ({ base with keyId := k.keyId, key := some k.key }, s)

/-- The crypto charge of a tag over a frame of n octets (R229, R237). -/
def State.pubCharge (s : State) (p : PubSec) (n : Nat) : State :=
  if p.key.isNone then s else (s.chargeWork (0x20 + s.fld pPgl Reg.Pgl.PUB_QCLASS 3 0) (tagUnits p.aes n)).2

/-- A built frame waits for its hand-over, with the copy for ports in TEST that ask for simulation (R175). -/
def State.pubBuilt (s : State) (sv : Bool) (i st sq counter number : Nat) (apdu : Bool → List Byte) : State :=
  let (sec, s) := s.pubSec sv i counter
  let f := s.pubFrame sv i number sec false (apdu false)
  let s := s.pubCharge sec f.length
  { s with ptr.built := s.ptr.built ++ [
      { sv := sv, index := i, stNum := st, sqNum := sq, octets := f
        simOctets := s.pubFrame sv i number sec true (apdu true), made := s.sdl.time }] }

/-! GOOSE -/

/-- Members of a GOOSE publication and the word each names. -/
def State.pubMembers (s : State) (i : Nat) : Nat := bits (s.pubCfg false i 0) 8 4
def State.pubSrc (s : State) (i m : Nat) : Nat :=
  bits (s.pubCfg false i (8 + m / 2)) (16 * (m % 2) + 15) (16 * (m % 2))

/-- What is kept of a GOOSE publication that runs (R217).
(DEDUCED, log entry 72.) -/
def State.goosePub (s : State) (i : Nat) : GoosePub :=
  ((s.ptr.goosePub.find? (fun e => e.1 = i)).map (·.2)).getD ⟨0, 0, none, 0, none, none, 0⟩
def State.setGoosePub (s : State) (i : Nat) (p : GoosePub) : State :=
  { s with ptr.goosePub := (i, p) :: s.ptr.goosePub.filter (fun e => e.1 ≠ i) }

/-- The interval in µs after the frame of count c: RT0_US doubling, at most RT_MAX_MS (R217). -/
def State.rtInterval (s : State) (i c : Nat) : Nat :=
  min (bits (s.pubCfg false i 3) 15 0 * 2 ^ c) (bits (s.pubCfg false i 3) 31 16 * 1000)

/-- stNum and sqNum count on, wrapping from 0xFFFF_FFFF to 1 (R217). -/
def nextNum (n : Nat) : Nat := if n = 0xFFFFFFFF then 1 else n + 1

/-- The current state of a GOOSE publication is built as a frame (R217). -/
def State.gooseBuild (s : State) (i : Nat) : State :=
  let p := s.goosePub i
  let id (w : Nat) : List Byte := s.idOctets (s.pubCfg false i w)
  let ms := (List.range (s.pubMembers i)).map (fun m => memberOctets (s.outWord (s.pubSrc i m)).typ (nth (p.last.getD []) m 0))
  let tal := (2 * s.rtInterval i p.count + 999) / 1000
  s.pubBuilt false i p.stNum p.sqNum (p.stNum * 2 ^ 32 + p.sqNum) p.sqNum
    (fun sim => gooseApdu (id 5) (id 6) (id 7) tal p.stNum p.sqNum (s.pubCfg false i 1).toNat (s.utcTime p.time) sim ms)

/-- The members at an evaluation: a stale word's member keeps the value last published, an open one where nothing has been
published since the acceptance (R247).
(DESIGN CHOICE, log entry 190.) -/
def State.evalMembers (s : State) (i : Nat) : List Word :=
  (List.range (s.pubMembers i)).map (fun m =>
    let w := s.pubSrc i m
    match (s.goosePub i).last with
    | some l => if s.wordStale w then nth l m 0 else s.committed w
    | none => if s.wordStale w then Config.unpublished i m else s.committed w)

/-- Every member word of a publication is stale. -/
def State.allStale (s : State) (i : Nat) : Bool := (List.range (s.pubMembers i)).all (fun m => s.wordStale (s.pubSrc i m))

/-- A GOOSE publication is evaluated: a member that differs from the last state published makes a new state, which cancels
the retransmissions of the old (R217). Stale words alone make none (R247).
(DESIGN CHOICE, log entry 190.) -/
def State.gooseEval (s : State) (i : Nat) : State :=
  let p := { s.goosePub i with waits := none }
  let ms := s.evalMembers i
  if s.blv.halted || !s.pubOn false i || decide (4 ≤ bits (s.pubCfg false i 0) 3 1) then s.setGoosePub i p
  else if p.last = some ms || s.allStale i then s.setGoosePub i p
  else
    (s.setGoosePub i { p with stNum := nextNum p.stNum, sqNum := 0, last := some ms, count := 0, due := none
                              time := s.sdl.time }).gooseBuild i

/-- The publications whose evaluation still waits. -/
def State.pubWaiting (s : State) : List Nat := (s.ptr.goosePub.filter (fun e => e.2.waits.isSome)).map (·.1)

/-- In any case at C_(k+1), what has not been evaluated is (R217). -/
def State.evalRest (s : State) : State := s.pubWaiting.foldl (fun s i => s.gooseEval i) s

/-- A run of entry e has ended: publications that waited for it alone are evaluated (R217).
(DEDUCED, log entry 78.) -/
def State.evalAfter (s : State) (e : Nat) : State :=
  s.pubWaiting.foldl (fun s i =>
    let p := s.goosePub i
    match p.waits with
    | none => s
    | some l =>
      if !l.contains e then s
      else if l.filter (fun x => x ≠ e) = [] then s.gooseEval i
      else s.setGoosePub i { p with waits := some (l.filter (fun x => x ≠ e)) }) s

/-- At a slot start every publication with an owner due in the slot waits for those owners (R217).
(DEDUCED, log entry 78.) -/
def State.evalArm (s : State) (due : List Nat) : State :=
  (s.ptr.goosePub.map (·.1)).foldl (fun s i =>
    let owners := ((List.range (s.pubMembers i)).filterMap (fun m => s.ownerOf (s.pubSrc i m))).filter due.contains
    s.setGoosePub i { s.goosePub i with waits := if owners.isEmpty then none else some owners }) s

/-- A retransmission falls due: the frame is built with sqNum + 1 (R217).
(DEDUCED, log entry 72.) -/
def State.gooseRetransmit (s : State) (i : Nat) : State :=
  let p := s.goosePub i
  match p.due with
  | none => s
  | some t =>
    if s.blv.halted || !s.pubOn false i then s
    else
      let s := s.advanceTo t
      let c := p.count + 1
      (s.setGoosePub i { p with sqNum := nextNum p.sqNum, count := c, due := some (t + s.rtInterval i c * 1000) }).gooseBuild i

/-! SV -/

def State.svPub (s : State) (i : Nat) : Option SvPub := (s.ptr.svPub.find? (fun e => e.1 = i)).map (·.2)
def State.setSvPub (s : State) (i : Nat) (p : SvPub) : State :=
  { s with ptr.svPub := (i, p) :: s.ptr.svPub.filter (fun e => e.1 ≠ i) }

/-- The indices a program or WINDOW source sees of stream i: H_k − V + 1 to H_k (R206).
(DEDUCED, log entry 73.) -/
def State.visible (s : State) (i n : Nat) : Bool :=
  match (s.stream i).fixed with
  | none => false
  | some h => decide (n ≤ h) && decide (h < n + (s.winDepth - s.svRsv i))

/-- The sample of a quantity at index n where it is visible, placed and not poisoned. -/
def State.windowSample (s : State) (i q n : Nat) : Option Word × State :=
  if !s.visible i n || (s.flagOf i n).testBit 8 then (none, s)
  else match s.readWord rgSample (s.sampleOfs i q (n % s.winDepth)) with
    | (_, true, s) => (none, s.poisonRead rgSample (s.sampleOfs i q (n % s.winDepth)) 4 false)
    | (w, false, s) => (some w, s)

/-- A quantity of an SV publication at index n: value, quality word, and whether the sample is present (R219). -/
def State.pubSample (s : State) (i q n : Nat) : (Word × Word × Bool) × State :=
  let w := s.pubCfg true i (8 + q)
  let src := bits w 16 4
  if bitAt w 0 then match s.outSample src n with
    | some o => ((o.value, o.quality, true), s)
    | none => ((0, 0x41, false), s)
  else
    let qw := nth (s.stream src).quals (bits w 3 1) 0
    match s.windowSample src (bits w 3 1) n with
    | (some v, s) => ((v, qw, true), s)
    | (none, s) => ((0, (qw &&& ~~~ 3) ||| 0x41, false), s)

/-- The quantities of one sample. -/
def State.pubQtys (s : State) (i n : Nat) : Nat → List (Word × Word × Bool) × State
  | 0 => ([], s)
  | q + 1 =>
    let (l, s) := s.pubQtys i n q
    let (d, s) := s.pubSample i q n
    (l ++ [d], s)

/-- The samples of a frame, with whether an OUTPUT sample is missing. -/
def State.pubAsdus (s : State) (i n0 nq r : Nat) : Nat → (List Asdu × Bool) × State
  | 0 => (([], false), s)
  | k + 1 =>
    let ((l, miss), s) := s.pubAsdus i n0 nq r k
    let n := n0 + k
    let (ds, s) := s.pubQtys i n nq
    let gone := (List.range nq).any (fun q => bitAt (s.pubCfg true i (8 + q)) 0 && !(nth ds q (0, 0, true)).2.2)
    ((l ++ [⟨n % r, ds.map (fun d => (d.1, d.2.1))⟩], miss || gone), s)

/-- Frame k of an SV publication is built (R218 to R220).
(DEDUCED, log entry 73.) -/
def State.svBuild (s : State) (i k : Nat) : State :=
  match s.svPub i with
  | none => s
  | some p =>
    let nasdu := s.pubNasdu i
    let n0 := k * nasdu
    let r := max 1 (s.pubRate i / wrapOf (bits (s.pubCfg true i 3) 18 17))
    let nq := bits (s.pubCfg true i 0) 6 4 + 1
    let ((as, miss), s) := s.pubAsdus i n0 nq r nasdu
    let s := if miss then s.fault pPtr3 0 else s
    let done := k :: p.done
    let next := if k = p.next then ((List.range (done.length + 1)).map (p.next + ·)).find? (fun j => !done.contains j) |>.getD k
      else p.next
    let s := s.setSvPub i ⟨next, done.filter (fun j => decide (next < j)), (n0 + nasdu - 1) % r⟩
    let gm := if s.sdl.src = .ptp then s.sdl.gmId else 0
    let id (w : Nat) : List Byte := s.idOctets (s.pubCfg true i w)
    let synch := s.syncState
    s.pubBuilt true i 0 0 n0 n0 (fun _ => svApdu (id 5) (id 6) (s.pubCfg true i 1).toNat synch gm as)

/-- The next frame of an SV publication is built at its deadline (R218). -/
def State.svFrameBuild (s : State) (i : Nat) : State :=
  match s.svPub i with
  | none => s
  | some p =>
    if s.blv.halted || !s.pubOn true i then s else (s.advanceTo (s.svDeadline i p.next)).svBuild i p.next

/-- Every sample of frame k is present. -/
def State.svComplete (s : State) (i k : Nat) : Bool :=
  let nasdu := s.pubNasdu i
  (List.range nasdu).all (fun j => (List.range (bits (s.pubCfg true i 0) 6 4 + 1)).all (fun q =>
    (s.pubSample i q (k * nasdu + j)).1.2.2))

/-- Frames not built yet that an EARLY publication could complete: those within its sources' reach from the next on. -/
def State.svCandidates (s : State) (i : Nat) (p : SvPub) : List Nat :=
  let reach := 64 / s.pubNasdu i + s.winDepth / s.pubNasdu i + 2
  ((List.range reach).map (p.next + ·)).filter (fun k => !p.done.contains k)

/-- With EARLY = 1 a frame is built as soon as every sample of it is present (R218).
(DEDUCED, log entry 73.) -/
def State.svEarly (s : State) : State :=
  if s.blv.halted then s
  else (s.ptr.svPub.map (·.1)).foldl (fun s i =>
    if !s.pubOn true i || !bitAt (s.pubCfg true i 0) 12 then s
    else match s.svPub i with
      | none => s
      | some p => ((s.svCandidates i p).filter (s.svComplete i)).foldl (fun s k => s.svBuild i k) s) s

/-! Hand-over -/

/-- The copy of a frame for a port: with the simulation indication where the port is in TEST and asks for it (R175).
(DEDUCED, log entry 57.) -/
def State.copyFor (s : State) (f : PubFrame) (port : Nat) : List Byte :=
  if s.inTest port && s.portCfg port 7 7 = 1 then f.simOctets else f.octets

/-- A frame joins the publication queues of its port, or of both ports of its pair under one number (R160, R216). -/
def State.pubQueue (s : State) (f : PubFrame) : State :=
  let w := s.pubCfg f.sv f.index 4
  if bitAt w 13 then
    let n := bits w 12 8
    if !s.pairOn n then s
    else
      let (seq, s) := s.takeSeq s.pairMac n
      (s.pairPorts n).foldl (fun s p =>
        match (s.pairCopies n (s.copyFor f p) seq none).find? (fun e => e.1 = p) with
        | some e => s.pubEnqueue p (some n) (some (n, s.pairMac, seq)) e.2
        | none => s) s
  else s.pubEnqueue (bits w 7 0) none none (s.copyFor f (bits w 7 0))

/-- The oldest built frame is handed to the Promenade, dt ns later, in IN_STEP exactly 4 µs after it was built. The retransmissions of a state count from the hand-over
of its first frame (R217, R380); after HALT_ENGINE none is (R431). -/
def State.pubHandover (s : State) (dt : Nat) : State :=
  match s.ptr.built with
  | [] => s.tick dt
  | f :: fs =>
    let s := if s.cln.st == .inStep then s.advanceTo (f.made + 4000) else s.tick dt
    let s := { s with ptr.built := fs }
    let p := s.goosePub f.index
    let s := if !f.sv && decide (f.sqNum = 0) && decide (p.stNum = f.stNum) && p.due.isNone then
      s.setGoosePub f.index { p with due := some (s.sdl.time + s.rtInterval f.index 0 * 1000) } else s
    if s.withheld || s.blv.halted then s else s.byFlit pPtr3 (fun s => s.pubQueue f)

/-! Acceptance, and the largest frame -/

/-- Publications start with the acceptance of a configuration (R217, R218). -/
def State.pubStart (s : State) : State :=
  { s with ptr.goosePub := (s.pubEntries false).map (fun i => (i, ⟨0, 0, none, 0, none, none, 0⟩))
           ptr.svPub := (s.pubEntries true).map (fun i => (i, ⟨s.svFirstAfter i, [], 0⟩))
           ptr.built := [] }

/-- The ports a publication leaves on: those on this twin (R238). -/
def State.pubPorts (s : State) (sv : Bool) (i : Nat) : List Nat :=
  let w := s.pubCfg sv i 4
  if bitAt w 13 then s.pairPorts (bits w 12 8) else [bits w 7 0]

/-- The largest APDU an entry can build: every number at its longest (R238). -/
def State.maxApdu (s : State) (sv : Bool) (i : Nat) : List Byte :=
  let id (w : Nat) : List Byte := zeros (bits (s.pubCfg sv i w) 7 0)
  if sv then
    svApdu (id 5) (id 6) 0 0 0 (List.replicate (s.pubNasdu i) ⟨0, List.replicate (bits (s.pubCfg sv i 0) 6 4 + 1) (0, 0)⟩)
  else
    let m := 0xFFFFFFFF
    gooseApdu (id 5) (id 6) (id 7) m m m m (zeros 8) false ((List.range (s.pubMembers i)).map (fun k =>
      memberOctets (s.outWord (s.pubSrc i k)).typ 0x80000000))

/-- Lmax: the largest frame of a publication, FCS and the trailer or tag of a pair included (R238).
(DEDUCED, log entry 76.) -/
def State.pubLmax (s : State) (sv : Bool) (i : Nat) : Nat :=
  let sec : PubSec := { aes := s.pubAes sv i, enc := s.pubEnc sv i, tagLen := s.pubTagLen sv i, keyId := 0
                        iv := zeros 12, key := none }
  max 64 ((s.pubFrame sv i 0 sec false (s.maxApdu sv i)).length + 4) + (if bitAt (s.pubCfg sv i 4) 13 then 6 else 0)

/-! Registers of page 3 -/

/-- Writable bits of the configuration words of a publication entry (R228). -/
def pubMask (sv : Bool) (w : Nat) : Word :=
  if w = 0 then (if sv then 0xFFFF1FFF else 0xFFFF01FF) else if w = 1 then 0xFFFFFFFF else if w = 2 then 0x1FFFF
  else if w = 3 then (if sv then 0x7FFFF else 0xFFFFFFFF) else if w = 4 then 0xFFFF3FFF
  else if w = 5 ∨ w = 6 then 0x01FFFFFF else if w = 7 then (if sv then 0x3FFF else 0x01FFFFFF)
  else if w ≤ 15 then (if sv then 0x1FFFF else 0xFFFFFFFF) else if w = 16 then 0xFFFF
  else if w ≤ 20 then 0xFFFFFFFF else if w = 21 then 0x3FFF else 0

/-- INDEX, WORD and KIND addressed on page 3. -/
def State.pubAddr (s : State) : Bool × Nat × Nat :=
  let a := s.reg pPtr3 Reg.Ptr3.ADDR
  (bitAt a 21, bits a 13 0, bits a 20 16)

/-- DATA of page 3 written (R224, R228). An entry disabled at run time publishes nothing more. -/
def State.pubData (s : State) (by_ : Port) (v : Word) : State :=
  let (sv, i, w) := s.pubAddr
  let v := v &&& pubMask sv w
  if (if sv then 256 else 1024) ≤ i ∨ 22 ≤ w then s
  else if !s.entryOpen by_ w (s.pubCfg sv i w) v then s.ruleRefusal by_ pPtr3 Reg.Ptr3.DATA
  else
    let s := { s with ptr.cfg3 := smSet pubDflt s.ptr.cfg3 (pubKey sv i w) v }
    if w = 0 ∧ s.ptr.everEnabled then
      (if sv then { s with ptr.svPub := s.ptr.svPub.filter (fun e => e.1 ≠ i) }
       else { s with ptr.goosePub := s.ptr.goosePub.filter (fun e => e.1 ≠ i) })
    else s

/-- DATA of page 3 read (R228). -/
def State.pubDataRead (s : State) : Word × State :=
  let (sv, i, w) := s.pubAddr
  if (if sv then 256 else 1024) ≤ i then (0, s)
  else if w ≤ 21 then (s.pubCfg sv i w, s)
  else if w = 22 then
    (BitVec.ofNat 32 (if sv then ((s.svPub i).map (·.smpCnt)).getD 0 else (s.goosePub i).stNum), s)
  else if w = 23 ∧ sv = false then (BitVec.ofNat 32 (s.goosePub i).sqNum, s)
  else (0, s)

end Sys2Proof.Machine
end

