-- ==== Sys2Proof/Machine/Pavilion.lean ====
section
/-!
DEFINITION. The Pavilion: channel descriptors and contexts, what the load/store units of Ndear-P reach, the run buffer and
its commit, traps, events and disturbance capture (R293 to R317).
-/
namespace Sys2Proof.Machine

/-! Descriptors and contexts -/

/-- Word w of the channel descriptor of entry e (R316). -/
def State.chn (s : State) (e w : Nat) : Word := smGet (fun _ => 0) s.pav.desc (e * 8 + w)
/-- Word w of schedule entry e (R252). -/
def State.sch (s : State) (e w : Nat) : Word := smGet (fun _ => 0) s.pgl.sched (e * 4 + w)
/-- The enabled schedule entries, ascending. -/
def State.schEntries (s : State) : List Nat :=
  (s.pgl.sched.filter (fun x => decide (x.1 % 4 = 0) && bitAt x.2 0)).map (fun x => x.1 / 4)

/-- The first user-area word of entry e's context, its words in the user area, its data stack and its program words
(R297). -/
def State.ctxBase (s : State) (e : Nat) : Nat := 16 * bits (s.chn e 0) 15 0
def State.ctxWords (s : State) (e : Nat) : Nat := min (16 * bits (s.chn e 0) 31 16) (753664 - s.ctxBase e)
def State.dsWords (s : State) (e : Nat) : Nat := min (bits (s.chn e 1) 15 0) (s.ctxWords e)
def State.progWords (s : State) (e : Nat) : Nat := s.ctxWords e - s.dsWords e

/-- The octet offset of user-area word w in context memory, and of a save slot (R295). -/
def userOfs (w : Nat) : Nat := 0x120000 + 4 * w
def saveOfs (e : Nat) : Nat := 0x240 * e

/-- The ranges of output words of the enabled entries, ascending (R298). -/
def State.ownerRanges (s : State) : List (Nat × Nat × Nat) :=
  s.schEntries.map (fun e => (bits (s.chn e 2) 13 0, bits (s.chn e 2) 30 16, e))
/-- The owner a word would have in the configuration loaded. -/
def State.wouldOwn (s : State) (w : Nat) : Option Nat :=
  (s.ownerRanges.find? (fun o => decide (o.1 ≤ w) && decide (w < o.1 + o.2.1))).map (·.2.2)

/-- N slot starts of R311: the slots of one grid cycle. -/
abbrev State.trapWindow (s : State) : Nat := s.slotsPerCycle

/-! Loads -/

/-- What a load/store unit answers at issue: values for r and r2 and any poisoned word, or the ADDR trap with the operand
that failed (R272, R299). -/
inductive WinRes where
  | load (r : Word) (r2 : Option Word) (poison : Option PoisonAt)
  | store (op : StoreOp)
  | addr (tval : Word)

/-- A load of one memory word. -/
def State.loadWord (s : State) (rg ofs : Nat) : WinRes × State :=
  match s.readWord rg ofs with
  | (w, p, s) => (.load w none (if p then some (s.poisonIn rg ofs 4) else none), s)

/-- lw: a window sample and its flag word, or the slot head (R300). -/
def State.winLw (s : State) (o t : Word) : WinRes × State :=
  let i := bits o 12 0
  let q := bits o 15 13
  if bits o 31 18 ≠ 0 ∨ (4096 ≤ i ∧ !s.focusStreams) then (.addr o, s)
  else
    let st := s.stream i
    let dis := !bitAt (s.svCfg i 0) 0
    let lost := b2n st.lost * 2 ^ 17
    if bitAt o 17 then
      (.load (BitVec.ofNat 32 (st.fixed.getD 0))
        (some (BitVec.ofNat 32 (lost + b2n dis * 2 ^ 18 + b2n (st.live && !st.lost) * 2 ^ 19))) none, s)
    else if dis then (.load 0 (some 0x00050100) none, s)
    else
      let n? := match st.fixed with
        | none => none
        | some h =>
          let v := s.winDepth - s.svRsv i
          if bitAt o 16 then
            let back := (h + 2 ^ 32 - t.toNat) % 2 ^ 32
            if back < v ∧ back ≤ h then some (h - back) else none
          else if t.toNat < v ∧ t.toNat ≤ h then some (h - t.toNat) else none
      match n? with
      | none => (.load 0 (some (BitVec.ofNat 32 (0x10100 + lost))) none, s)
      | some n =>
        let d := s.winDepth
        let (v, p, s) := s.readWord rgSample (s.sampleOfs i q (n % d))
        let (fl, p2, s) := s.readMem rgTable (s.flagOfs i (n % d)) 2
        let poison := if p then some (s.poisonIn rgSample (s.sampleOfs i q (n % d)) 4)
          else if p2 then some (s.poisonIn rgTable (s.flagOfs i (n % d)) 2) else none
        (.load v (some (BitVec.ofNat 32 (leNat fl + lost))) poison, s)

/-- lc: a program word of the entry's context (R299). -/
def State.winLc (s : State) (e : Nat) (o t : Word) : WinRes × State :=
  let w := (o + t).toNat
  if s.progWords e ≤ w then (.addr (o + t), s) else s.loadWord rgCtx (userOfs (s.ctxBase e + w))

/-- lt: a constant, or a word of the slot record (R307). -/
def State.winLt (s : State) (e : Nat) (o t : Word) : WinRes × State :=
  let w := (o + t).toNat
  if w ≤ 0xFFBF then s.loadWord rgTable (0x6C0100 + 4 * w)
  else if w < 0xFFF0 ∨ 0xFFFF < w then (.addr (o + t), s)
  else if w ≤ 0xFFF7 then (.load (nth s.pav.slotRec (w - 0xFFF0) 0) none none, s)
  else if w = 0xFFF8 then (.load (BitVec.ofNat 32 (s.chan e).outcomeK) none none, s)
  else if w = 0xFFF9 then (.load (BitVec.ofNat 32 (s.chan e).lastK) none none, s)
  else (.load 0 none none, s)

/-- lg: a member of a GOOSE slot copy, and the block's status (R301). -/
def State.winLg (s : State) (o t : Word) : WinRes × State :=
  let i := o.toNat
  let m := t.toNat
  if 8192 ≤ i ∨ 16 ≤ m then (.addr (if 8192 ≤ i then o else t), s)
  else if !bitAt (s.gooseCfg i 0) 0 then (.load 0 (some 0x00030000) none, s)
  else
    let b := s.block i
    let empty := decide (bits (s.gooseCfg i (6 + m / 4)) (8 * (m % 4) + 7) (8 * (m % 4)) = 0xFF) ||
      decide (bits (s.gooseCfg i 0) 14 10 ≤ m)
    (.load (if empty then 0 else nth b.slot.members m 0)
      (some (BitVec.ofNat 32 (b.slot.flags b.slotRecvd b.slotSeen + b.slot.chg * 256 + b2n empty * 65536))) none, s)

/-- AGE of an output word: slot starts since its last commit; open where there was none (R302).
(DESIGN CHOICE, log entry 21.) -/
def State.wordAge (s : State) (w : Nat) : Nat :=
  let o := s.outWord w
  if o.never then (Config.neverAge w).toNat else min 65535 (s.pav.starts - o.commit)

/-- The status of an output word, in the order STALE, NEVER, AGE. -/
def State.wordStatus (s : State) (w : Nat) : Bool × Bool × Nat :=
  match s.ownerOf w with
  | none => (false, true, (Config.neverAge w).toNat)
  | some _ => (s.wordStale w, (s.outWord w).never, s.wordAge w)

/-- lo: an output word: what this run stored, else the committed value; r2 its status (R302). -/
def State.winLo (s : State) (o t : Word) : WinRes × State :=
  let w := (o + t).toNat
  if 16384 ≤ w then (.addr (o + t), s)
  else
    let own : Option Word := match s.pgl.run with
      | some r => (r.words.find? (fun e => e.1 = w)).map (fun e => e.2)
      | none => none
    let (st, nv, age) := s.wordStatus w
    (.load (own.getD (s.committed w)) (some (BitVec.ofNat 32 (b2n st + b2n nv * 2 + age * 65536))) none, s)

/-- A value saturated to 32 bits signed. -/
def sat32 (x : Int) : Word :=
  if x > 2147483647 then 0x7FFFFFFF else if x < -2147483648 then 0x80000000 else BitVec.ofInt 32 x

/-- The product of a segment, formed in 64 bits; one that needs more is open (R308).
(DESIGN CHOICE, log entry 14.) -/
def curveProd (dy dx : Int) : Int :=
  let p := dy * dx
  if -9223372036854775808 ≤ p ∧ p ≤ 9223372036854775807 then p else (Config.curveProduct dy dx).toInt

/-- A curve on a segment (R308). -/
def curveSeg (x x0 y0 x1 y1 : Int) : Word :=
  if x1 ≤ x0 then sat32 y1 else sat32 (y0 + (curveProd (y1 - y0) (x - x0)).tdiv (x1 - x0))

/-- The poison that a read of table memory met. -/
def State.tablePoison (s : State) (p : Bool) (ofs n : Nat) : Option PoisonAt := if p then some (s.poisonIn rgTable ofs n) else none

/-- A point of a curve, x and y. -/
abbrev Point := Int × Int

/-- Point i of a curve, with its word where that is poisoned.
(DEDUCED, log entry 94.) -/
def State.curvePoint (s : State) (c i : Nat) : Point × Option PoisonAt × State :=
  let ofs := 0x600000 + 0x800 * c + 8 * i
  match s.readMem rgTable ofs 8 with
  | (bs, p, s) => (((leWord bs).toInt, (leWord (bs.drop 4)).toInt), s.tablePoison p ofs 8, s)

/-- The largest i ≤ k with x_i ≤ x, looked for from k down, and the first poisoned word met.
(DEDUCED, log entries 94, 193.) -/
def State.curveFind (s : State) (c : Nat) (x : Int) : Nat → Nat × Option PoisonAt × State
  | 0 => (0, none, s)
  | k + 1 =>
    let (pt, p, s) := s.curvePoint c (k + 1)
    if pt.1 ≤ x then (k + 1, p, s)
    else
      let (i, q, s) := s.curveFind c x k
      (i, p.or q, s)

/-- Segment i of a curve at x (R308). -/
def State.curveAt (s : State) (c : Nat) (x : Int) (i : Nat) : Word × Option PoisonAt × State :=
  let (a, p, s) := s.curvePoint c i
  let (b, q, s) := s.curvePoint c (i + 1)
  (curveSeg x a.1 a.2 b.1 b.2, p.or q, s)

/-- A curve whose header is h at x (R308). -/
def State.curveEval (s : State) (c : Nat) (h : Word) (x : Int) : Word × Option PoisonAt × State :=
  let n := bits h 8 0
  let (lo, p, s) := s.curvePoint c 0
  let (hi, q, s) := s.curvePoint c (n - 1)
  let ends := p.or q
  if x < lo.1 ∧ bitAt h 9 = false then (sat32 lo.2, ends, s)
  else if lo.1 ≤ x ∧ hi.1 ≤ x ∧ bitAt h 10 = false then (sat32 hi.2, ends, s)
  else
    let (i, q, s) := if x < lo.1 then (0, none, s) else if hi.1 ≤ x then (n - 2, none, s) else s.curveFind c x (n - 2)
    let (r, p, s) := s.curveAt c x i
    (r, ends.or (q.or p), s)

/-- crv: a piecewise-linear curve (R308). A poisoned word it reads raises POISON with the result (R272).
(DEDUCED, log entry 193.) -/
def State.winCrv (s : State) (o t : Word) : WinRes × State :=
  let c := o.toNat
  if 64 ≤ c then (.addr o, s)
  else match s.readWord rgTable (0x6C0000 + 4 * c) with
    | (_, true, s) => (.load 0 none (s.tablePoison true (0x6C0000 + 4 * c) 4), s)
    | (h, false, s) =>
      if !bitAt h 31 || decide (bits h 8 0 < 2) then (.addr o, s)
      else
        let (r, p, s) := s.curveEval c h t.toInt
        (.load r none p, s)

/-- fsm: a state-machine step (R309). -/
def State.winFsm (s : State) (o t : Word) : WinRes × State :=
  let m := o.toNat
  if 32 ≤ m then (.addr o, s)
  else if bits t 31 12 ≠ 0 then (.addr t, s)
  else
    let ofs := 0x620000 + 0x4000 * m + 4 * (16 * bits t 7 0 + bits t 11 8)
    let (w, p, s) := s.readWord rgTable ofs
    (.load (BitVec.ofNat 32 (bits w 7 0)) (some (BitVec.ofNat 32 (bits w 31 8))) (s.tablePoison p ofs 4), s)

/-! Stores -/

/-- The stores of this run, with those of this cycle. -/
def State.runStores (s : State) : List Nat × Nat × Nat :=
  let d := s.engP.defer.map (·.2)
  let ws := d.filterMap (fun x => match x with | .out w _ => some w | _ => none)
  let ss := (d.filter (fun x => match x with | .sample _ _ _ => true | _ => false)).length
  let as := (d.filter (fun x => match x with | .aout _ => true | _ => false)).length
  match s.pgl.run with
  | none => (ws, ss, as)
  | some r => ((ws ++ r.words.map (·.1)).eraseDups, ss + r.samples.length, as + r.reqs.length)

/-- sc: a program word (R299). -/
def State.winSc (s : State) (e : Nat) (o d t : Word) : WinRes :=
  let w := (o + t).toNat
  if s.progWords e ≤ w then .addr (o + t) else .store (.ctx (s.ctxBase e + w) d)

/-- so: an output word of the entry's own, not SVBUF, 256 distinct words at most (R299, R302). -/
def State.winSo (s : State) (e : Nat) (o t : Word) : WinRes :=
  let w := o.toNat
  let (ws, _, _) := s.runStores
  if s.ownerOf w ≠ some e ∨ (s.outWord w).typ = typSvbuf ∨ (256 ≤ ws.length ∧ !ws.contains w) then .addr o
  else .store (.out w t)

/-- ss: an SV OUTPUT sample, 1,024 at most (R299, R302, R304). -/
def State.winSs (s : State) (e : Nat) (o d t : Word) : WinRes :=
  let w := o.toNat
  if s.ownerOf w ≠ some e ∨ (s.outWord w).typ ≠ typSvbuf ∨ 1024 ≤ s.runStores.2.1 then .addr o
  else .store (.sample w t d)

/-- sq: the quality word (R299, R304). -/
def State.winSq (s : State) (e : Nat) (o t : Word) : WinRes :=
  let w := o.toNat
  if s.ownerOf w ≠ some e ∨ (s.outWord w).typ ≠ typSvbuf then .addr o else .store (.qual w t)

/-- sa: an AOUT request, 8 at most, for a ball of AOUT_MASK (R299, R305). -/
def State.winSa (s : State) (e : Nat) (o d t : Word) : WinRes :=
  if bits o 31 25 ≠ 0 ∨ !bitAt (s.chn e 3) (bits o 4 0) ∨ 8 ≤ s.runStores.2.2 then .addr o
  else .store (.aout ⟨o, d, t⟩)

/-- se: an event word (R299, R306). -/
def State.winSe (o t : Word) : WinRes := if bits o 31 12 ≠ 0 then .addr o else .store (.event ⟨o, t⟩)

/-- A store takes effect: context memory at once, the rest in the run buffer; an event beyond 16 is discarded and counted
(R302, R306). -/
def State.applyStore (s : State) (op : StoreOp) : State :=
  match op with
  | .ctx w v => s.writeWord rgCtx (userOfs w) v
  | _ => match s.pgl.run with
    | none => s
    | some r =>
      match op with
      | .ctx _ _ => s
      | .out w v => { s with pgl.run := some { r with words := (w, v) :: r.words.filter (fun e => e.1 ≠ w) } }
      | .sample w n v => { s with pgl.run := some { r with samples := r.samples ++ [(w, n.toNat, v)] } }
      | .qual w v => { s with pgl.run := some { r with quals := (w, v) :: r.quals.filter (fun e => e.1 ≠ w) } }
      | .aout q => { s with pgl.run := some { r with reqs := r.reqs ++ [q] } }
      | .event q =>
        if r.events.length < 16 then { s with pgl.run := some { r with events := r.events ++ [q] } }
        else
          let c := s.chan r.entry
          (s.setChan r.entry { c with evtDrop := satAdd 0xFFFF c.evtDrop 1 }).faultItem pPav 3 1 r.entry 0

/-! Commit -/

/-- A publication has built the frame of a word's sample of index n, given by its low 32 bits (R304). -/
def State.sampleBuilt (s : State) (w n : Nat) : Bool :=
  s.ptr.svPub.any (fun e =>
    let i := e.1
    let nasdu := s.pubNasdu i
    let first := e.2.next * nasdu
    let d := (n + 2 ^ 32 - first % 2 ^ 32) % 2 ^ 32
    s.pubOn true i &&
    (List.range (bits (s.pubCfg true i 0) 6 4 + 1)).any (fun q =>
      bitAt (s.pubCfg true i (8 + q)) 0 && decide (bits (s.pubCfg true i (8 + q)) 16 4 = w)) &&
    (decide (2 ^ 31 ≤ d) || e.2.done.contains ((first + d) / nasdu)))

/-- A committed sample takes its position, or is discarded where its frame is built (R304). -/
def State.commitSample (s : State) (e : Nat) (w n : Nat) (v q : Word) : State :=
  if s.sampleBuilt w n then
    let c := s.chan e
    (s.setChan e { c with svsDrop := satAdd 0xFFFF c.svsDrop 1 }).faultItem pPav 5 1 e 0
  else
    let k := w * 64 + n % 64
    { s with ptr.outBuf := (k, OutSample.mk n v q) :: s.ptr.outBuf.filter (fun x => x.1 ≠ k) }

/-- An AOUT request of a completed run is released (R305): armed, refused, or held back with the twin's outputs (R369). -/
def State.releaseAout (s : State) (e j : Nat) (q : AoutReq) : State :=
  if s.withheld then s
  else
    let c := q.ctl
    match s.requestAout (bits c 4 0) (bits c 6 5) (bits c 22 7) (bitAt c 23) (bitAt c 24) q.hi.toNat q.lo.toNat (some (e, j)) with
    | (true, s) => s.noteOutcome e j
    | (false, s) => (s.noteOutcome e (8 + j)).faultItem pPav 6 1 e 0

/-- The run buffer of a completed run is committed in issue order, and its AOUT requests are released (R302, R304,
R305). -/
def State.commitRun (s : State) (r : Run) : State :=
  let s := r.words.reverse.foldl (fun s x =>
    s.setOutWord x.1 { s.outWord x.1 with value := x.2, never := false, commit := s.pav.starts }) s
  let s := r.quals.foldl (fun s x => s.setOutWord x.1 { s.outWord x.1 with quality := x.2 }) s
  let s := r.samples.foldl (fun s x =>
    (s.commitSample r.entry x.1 x.2.1 x.2.2 (s.outWord x.1).quality).setOutWord x.1
      { s.outWord x.1 with never := false, commit := s.pav.starts }) s
  (r.reqs.zipIdx).foldl (fun s q => s.releaseAout r.entry q.2 q.1) s

/-! Disturbance capture -/

/-- Word w of capture definition d (R317). -/
def State.capDef (s : State) (d w : Nat) : Word := smGet (fun _ => 0) s.pav.capDef (d * 32 + w)
/-- The record buffer in control SRAM, and its length. -/
def State.capBase (s : State) : Nat := (s.reg pPav Reg.Pav.CAP_BUF_BASE).toNat / 4096 * 4096
def State.capLen (s : State) : Nat := min 1048576 (s.fld pPav Reg.Pav.CAP_BUF_LEN 20 0 / 4096 * 4096)

/-- Octets written into the ring, wrapping at its end (R312). -/
def State.capPut (s : State) (ofs : Nat) (bs : List Byte) : State :=
  let n := s.capLen
  if n = 0 then s
  else
    let o := ofs % n
    let first := bs.take (n - o)
    let s := s.csramWrite (s.capBase + o) first
    if first.length < bs.length then s.csramWrite s.capBase (bs.drop first.length) else s

/-- CAP_STA.ACTIVE and STA.CAP_ACTIVE follow the captures (R314, R315). -/
def State.showCaps (s : State) : State :=
  let m := (List.range 8).foldl (fun a d => a + b2n (s.pav.caps.any (fun c => c.dfn = d)) * 2 ^ d) 0
  (s.setFld pPav Reg.Pav.CAP_STA 7 0 m).setFlag pPav Reg.Hdr.STA 8 (decide (m ≠ 0))

/-- A capture's header (R312). -/
def capHeader (c0 entry event slot sec ns len : Nat) (heads : List Nat) : List Byte :=
  ([c0, entry + event * 65536, slot, sec, ns, len] ++ heads ++ List.replicate (18 - heads.length) 0).flatMap
    (fun v => wordOctets (BitVec.ofNat 32 v))

/-- An event with RECORD triggers its definition: refused while it captures, with CAP_EN or EN clear, or without room for
the whole record (R313).
(DEDUCED, log entry 68.) -/
def State.capTrigger (s : State) (e : RingEvt) (d : Nat) : State :=
  let w0 := s.capDef d 0
  let w1 := s.capDef d 1
  let ns := bits w1 3 0 + 1
  let pre := min 512 (bits w0 9 0)
  let len := 96 + (pre + bits w0 31 16) * ns * 36
  let wr := s.fld pPav Reg.Pav.CAP_WR 20 0
  let n := s.capLen
  let used := if n = 0 then 0 else (wr + n - s.fld pPav Reg.Pav.CAP_FREE 20 0 % n) % n
  if s.pav.caps.any (fun c => c.dfn = d) || !s.flag pPav Reg.Pav.PAV_CFG 0 || !bitAt w1 31 || decide (n ≤ used + len) ||
      !inCsram s.capBase n then
    (s.countFld pPav Reg.Pav.CAP_STA 31 16 1).faultItem pPav 4 1 e.entry 0
  else
    let streams := (List.range ns).map (fun i => bits (s.capDef d (2 + i)) 12 0)
    let heads := streams.map (fun i => (s.stream i).fixed)
    let c0 := d + b2n e.stale * 8 + (ns - 1) * 256
    let s := s.setFld pPav Reg.Pav.CAP_WR 20 0 ((wr + len) % n)
    let s := s.capPut wr (capHeader c0 e.entry e.event e.slot (secOf e.time % 2 ^ 32) (nsOf e.time) len
      (heads.map (fun h => h.getD 0)))
    ({ s with pav.caps := s.pav.caps ++ [Capture.mk d wr len pre streams heads heads s.pav.starts
      (List.range ((pre + bits w0 31 16) * ns)) c0] }).showCaps

/-- Block b of a capture: its stream's position, its step, and its index H_k − PRE + 1 + step, where there is one (R313). -/
def Capture.pos (c : Capture) (b : Nat) : Nat := b % c.streams.length
def Capture.step (c : Capture) (b : Nat) : Nat := b / c.streams.length
def Capture.index (c : Capture) (b : Nat) : Option Nat :=
  match nth c.heads (c.pos b) none with
  | some h => if c.pre ≤ h + 1 + c.step b then some (h + 1 + c.step b - c.pre) else none
  | none => none
/-- The steps of a record. -/
def Capture.steps (c : Capture) : Nat := (c.len - 96) / 36 / c.streams.length

/-- An index is visible at a head. -/
def seenAt (h n : Option Nat) : Bool :=
  match h, n with
  | some h, some n => decide (n ≤ h)
  | _, _ => false

/-- Block b may be copied: pre-trigger from the next slot on, post-trigger once its index is visible (R313).
(DEDUCED, log entry 68.) -/
def State.capReady (s : State) (c : Capture) (b : Nat) : Bool :=
  if c.step b < c.pre then decide (c.start < s.pav.starts)
  else seenAt (s.stream (nth c.streams (c.pos b) 0)).fixed (c.index b)

/-- Block b has become ready with the slot that has just started. -/
def State.capFresh (s : State) (c : Capture) (b : Nat) : Bool :=
  s.capReady c b && (if c.step b < c.pre then decide (c.start + 1 = s.pav.starts)
    else !seenAt (nth c.vis (c.pos b) none) (c.index b))

def missBlock : List Byte := zeros 32 ++ natOctets 2 fMiss ++ zeros 2

/-- Eight values and a flag word read from the window; of a position overwritten since, a MISS block, which is told (R312, R313).
(DEDUCED, log entries 68, 192.) -/
def State.capBlock (s : State) (i : Nat) (n : Option Nat) : List Byte × Bool × State :=
  match n, (s.stream i).head with
  | some n, some h =>
    let d := s.winDepth
    if n + d ≤ h then (missBlock, true, s)
    else
      let (vs, p, s) := (List.range 8).foldl (fun (a : List Byte × Bool × State) q =>
        match a.2.2.readMem rgSample (a.2.2.sampleOfs i q (n % d)) 4 with
        | (bs, x, s) => (a.1 ++ bs, a.2.1 || x, if x then s.poisonRead rgSample (s.sampleOfs i q (n % d)) 4 false else s)) (([] : List Byte), false, s)
      if p then (missBlock, false, s)
      else (vs ++ natOctets 2 (s.flagOf i n) ++ zeros 2, false, s)
  | _, _ => (missBlock, false, s)

/-- A capture replaced, its header word 0 rewritten. -/
def State.setCap (s : State) (c : Capture) : State :=
  let s := s.capPut c.base (wordOctets (BitVec.ofNat 32 c.head0))
  { s with pav.caps := s.pav.caps.map (fun x => if x.dfn = c.dfn then c else x) }

/-- Block b of a capture is copied, within the CCP page's background budget. OVERRUN is for a pre-trigger position that a later
placement overwrote (R312, R313). -/
def State.capBlockCopy (s : State) (c : Capture) (b : Nat) : State :=
  match s.background pCcp 2 with
  | (false, s) => s
  | (true, s) =>
    let (bs, gone, s) := s.capBlock (nth c.streams (c.pos b) 0) (c.index b)
    let head := if gone && decide (c.step b < c.pre) then c.head0 ||| 16 else c.head0
    (s.capPut (c.base + 96 + b * 36) bs).setCap { c with left := c.left.erase b, head0 := head }

/-- The capture that a definition has in progress. -/
def State.capOf (s : State) (d : Nat) : Option Capture := s.pav.caps.find? (fun c => c.dfn = d)

/-- The capture engine copies the next block of definition d that may be copied (R312, R313). -/
def State.capCopy (s : State) (d : Nat) : State :=
  match s.capOf d with
  | none => s
  | some c => match c.left.find? (s.capReady c) with
    | some b => s.capBlockCopy c b
    | none => s

/-- A stream of a capture is done: its last index visible, or the stream LOST or disabled. -/
def State.capStreamDone (s : State) (c : Capture) (j : Nat) : Bool :=
  let i := nth c.streams j 0
  let st := s.stream i
  st.lost || !bitAt (s.svCfg i 0) 0 || (match nth c.heads j none with
    | some h => seenAt st.fixed (some (h + c.steps - c.pre))
    | none => true)

/-- A capture at the heads of a slot: one all of whose streams are done copies what has just become ready and is COMPLETE, the
blocks not taken being MISS; another remembers the heads (R313).
(DEDUCED, log entry 192.) -/
def State.capJudge (s : State) (c : Capture) : State :=
  if (List.range c.streams.length).all (s.capStreamDone c) then
    let s := (c.left.filter (s.capFresh c)).foldl (fun s b =>
      match s.capOf c.dfn with
      | some c => s.capBlockCopy c b
      | none => s) s
    match s.capOf c.dfn with
    | none => s
    | some c =>
      let s := c.left.foldl (fun s b => s.capPut (c.base + 96 + b * 36) missBlock) s
      let s := s.capPut c.base (wordOctets (BitVec.ofNat 32 (c.head0 ||| 32)))
      ({ s with pav.caps := s.pav.caps.filter (fun x => x.dfn ≠ c.dfn) }).showCaps
  else s.setCap { c with vis := c.streams.map (fun i => (s.stream i).fixed) }

/-- Captures once the heads of a slot are fixed (R313). -/
def State.capSlotStart (s : State) : State := s.pav.caps.foldl (fun s c => s.capJudge c) s

/-- The inputs of a twin's slot are fixed at C_k + 5 µs, with what waits for them (R313, R377). -/
def State.lateInputs (s : State) : State := if s.ptr.fixWait then s.slotInputFix.capSlotStart.svEarly else s

/-! Stall cycles -/

/-- Control work meets the engine while the runs of a slot last. -/
def State.engineBusy (s : State) : Bool := s.pgl.run.isSome || !s.pgl.due.isEmpty

/-- Stall cycles of a slot at most (R239). -/
def State.stallLimit (s : State) : Nat := if s.focusLatency then 1600 else 1500

/-- The slot's stall cycles are used up: control requests wait until its last run has ended (R239).
(DEDUCED, log entry 80.) -/
def State.ctlHeld (s : State) : Bool := s.engineBusy && decide (s.stallLimit ≤ s.pgl.stall)

/-- A control request costs a stall cycle (R239).
(DEDUCED, log entry 80.) -/
def State.stallOne (s : State) : State :=
  if s.engineBusy && decide (s.pgl.stall < s.stallLimit) then { s with pgl.stall := s.pgl.stall + 1 } else s

/-- A control request has begun to wait: PGL FLT_STA bit [7], once a slot (R239). -/
def State.stallHeld (s : State) : State :=
  if s.pgl.stall = s.stallLimit then { s with pgl.stall := s.stallLimit + 1 }.fault pPgl 7 else s

/-! Events and traps -/

/-- An event enters the ring, or is discarded where it is full (R306). -/
def State.eventIn (s : State) (entry : Nat) (stale : Bool) (q : EvtReq) : State :=
  let e : RingEvt := { event := bits q.code 7 0, entry := entry, stale := stale, lost := s.pav.evqLost, record := bitAt q.code 8
                       value := q.value, slot := (nth s.pav.slotRec 0 0).toNat, time := s.sdl.slotAt.getD s.sdl.time }
  let s := if 1024 ≤ s.pav.evq.length then
      ({ (s.countFld pPav Reg.Pav.EVQ_STA 31 16 1) with pav.evqLost := true }).fault pPav 2
    else { s with pav.evq := s.pav.evq ++ [e], pav.evqLost := false }
  if e.record then s.capTrigger e (bits q.code 11 9) else s

/-- An event word is handed over, at the cost of a stall cycle; one beyond the limit waits, and so do those after it (R239, R306).
(DEDUCED, log entry 80.) -/
def State.handOver (s : State) (entry : Nat) (stale : Bool) (q : EvtReq) : State :=
  if s.ctlHeld || !s.pav.ctlWait.isEmpty then { s.stallHeld with pav.ctlWait := s.pav.ctlWait ++ [.event entry stale q] }
  else s.stallOne.eventIn entry stale q

/-- The events of a run that has ended are delivered (R306). -/
def State.releaseEvents (s : State) (r : Run) (stale : Bool) : State :=
  r.events.foldl (fun s q => s.handOver r.entry stale q) s

/-- EVQ0 read: the oldest event leaves the ring and EVQ1–EVQ4 are latched (R315). -/
def State.evqRead (s : State) : Word × State :=
  match s.pav.evq with
  | [] => (0, { s with pav.evqLatch := [0, 0, 0, 0] })
  | e :: es =>
    (BitVec.ofNat 32 (e.event + e.entry * 2 ^ 8 + b2n e.stale * 2 ^ 19 + b2n e.lost * 2 ^ 20 + b2n e.record * 2 ^ 21 + 2 ^ 31),
     { s with pav.evq := es, pav.evqLatch := [e.value, BitVec.ofNat 32 e.slot, BitVec.ofNat 32 (secOf e.time),
                                              BitVec.ofNat 32 (nsOf e.time)] })

/-- A trap code of R286. -/
abbrev trPoison : Nat := 0x0B

/-- A trap of a run: the log, channel word 4 and PAV FLT_STA bit [0]; the report of a POISON trap names the memory, which also reports
POISON_USED (R417). The eighth counted
trap within N slot starts fences the channel (R310, R311). Answers whether the channel is to be fenced.
(DEDUCED, log entries 67, 82, 83.) -/
def State.trapNote (s : State) (t : TrapEntry) (poison : Option PoisonAt) : Bool × State :=
  let full := decide (32 ≤ s.pav.traps.length)
  let s := { s with pav.traps := (if full then s.pav.traps.drop 1 else s.pav.traps) ++ [{ t with lost := full }] }
  let c := s.chan t.entry
  let now := s.pav.starts
  let counted := decide (t.code ≠ trPoison)
  let traps := (if counted then now :: c.traps else c.traps).filter (fun a => decide (now < a + s.trapWindow))
  let fence := counted && decide (8 ≤ traps.length) && !c.trapFenced
  let s := s.setChan t.entry { c with lastCode := t.code, traps := traps.take 15, trapCnt := satAdd 0xFFFF c.trapCnt 1
                                      trapFenced := c.trapFenced || fence }
  let s := match poison with
    | some p =>
      let s := (s.poisonUsed p false).setFlag pPav Reg.Hdr.FLT_STA 0 true
      s.report { page := p.page, kind := p.kind, item := p.item, cause := 0, cls := faultClass pPav 0, addr := p.addr, inj := s.poisonInj p
                 masked := s.flag pPav Reg.Hdr.FLT_MSK 0, want := 0, fencePage := none, hdgReset := false }
    | none => s.faultItem pPav 0 1 t.entry 0
  (fence, s)

/-- TRAP_LOG0 read: the oldest trap leaves and TRAP_LOG1–3 are latched (R315). -/
def State.trapRead (s : State) : Word × State :=
  match s.pav.traps with
  | [] => (0, { s with pav.trapLatch := [0, 0, 0] })
  | t :: ts =>
    (BitVec.ofNat 32 (t.code + b2n t.multi * 2 ^ 8 + b2n t.preempt * 2 ^ 9 + b2n t.lost * 2 ^ 10 + t.entry * 2 ^ 11),
     { s with pav.traps := ts, pav.trapLatch := [BitVec.ofNat 32 (t.bundle + t.mslot * 2 ^ 20), BitVec.ofNat 32 t.slot, t.tval] })

/-! Slot starts and registers -/

/-- The slot record of R307 at C_k. -/
def State.makeSlotRec (s : State) : List Word :=
  let d := s.sdl
  let ck := d.slotAt.getD d.time
  [BitVec.ofNat 32 d.slotCnt, BitVec.ofNat 32 (secOf ck), BitVec.ofNat 32 (nsOf ck), BitVec.ofNat 32 d.ang,
   BitVec.ofNat 32 (d.ang / 2 ^ 32), BitVec.ofNat 32 d.freq, s.reg pSdl Reg.Sdl.SLOT_LEN,
   BitVec.ofNat 32 (d.state.code + d.angSrc.code * 8 + d.mode.code * 32 + s.syncState * 128)]

/-- The Pavilion at a slot start: the slot record, AGE, and each channel's outcomes as its runs of the slot will read them
(R307). -/
def State.pavSlotStart (s : State) : State :=
  let s := { s with pav.starts := s.pav.starts + 1, pav.slotRec := s.makeSlotRec }
  { s with pav.chan := s.pav.chan.map (fun e => (e.1, { e.2 with outcomeK := e.2.outcome, lastK := e.2.last })) }

/-- Table memory, descriptors, TYPE and context memory take writes (R294). -/
def State.pavOpen (s : State) (by_ : Port) : Bool := by_ == .core && !s.flag pPav Reg.Hdr.LOCK 0 && !s.ptr.everEnabled

/-- SHA-256 of the five regions of R294 in ascending offset. -/
def State.tblDigest (s : State) : List Byte :=
  sha256 (s.peekMem rgTable 0x400000 0x200000 ++ s.peekMem rgTable 0x600000 0x20000 ++ s.peekMem rgTable 0x620000 0x80000 ++
    s.peekMem rgTable 0x6C0000 0x100 ++ s.peekMem rgTable 0x6C0100 0x3FF00)
/-- LOCK of the PAV page set: TBL_DIGEST is computed (R294). -/
def State.tblLock (s : State) : State := s.setOctetRegs pPav (Reg.Pav.TBL_DIGEST 0) s.tblDigest

/-- An offset of the table memory lies in one of the five regions that take writes (R294). -/
def tableOpen (a : Nat) : Bool :=
  (decide (0x400000 ≤ a) && decide (a < 0x6A0000)) || (decide (0x6C0000 ≤ a) && decide (a < 0x700000))
/-- An offset of the output-word store or the event ring, which read 0 (R294). -/
def tableHidden (a : Nat) : Bool :=
  (decide (0x6A0000 ≤ a) && decide (a < 0x6C0000)) || (decide (0x7C4000 ≤ a) && decide (a < 0x7CC000))

/-- Octets stored to the table memory by a port (R294): outside the five regions they are discarded. -/
def State.tableStore (s : State) (by_ : Port) (a : Nat) (bs : List Byte) : State :=
  if tableOpen a && s.pavOpen by_ then s.writeMem rgTable a bs else s.ruleRefusal by_ pPav 0

/-- CHN_DATA written (R294, R316). -/
def State.chnData (s : State) (by_ : Port) (v : Word) : State :=
  let e := s.fld pPav Reg.Pav.CHN_ADDR 10 0
  let w := s.fld pPav Reg.Pav.CHN_ADDR 18 16
  let m : Word := match w with
    | 0 => 0xFFFFFFFF | 1 => 0xFFFF | 2 => 0x7FFF3FFF | 3 => 0xFFFFFFFF | _ => 0
  if 4 ≤ w then s
  else if !s.pavOpen by_ then s.ruleRefusal by_ pPav Reg.Pav.CHN_DATA
  else { s with pav.desc := smSet (fun _ => 0) s.pav.desc (e * 8 + w) (v &&& m) }

/-- CHN_DATA read (R316). -/
def State.chnRead (s : State) : Word × State :=
  let e := s.fld pPav Reg.Pav.CHN_ADDR 10 0
  let w := s.fld pPav Reg.Pav.CHN_ADDR 18 16
  let c := s.chan e
  if w < 4 then (s.chn e w, s)
  else if w = 4 then
    let win := (c.traps.filter (fun a => decide (s.pav.starts < a + s.trapWindow))).length
    (BitVec.ofNat 32 (c.lastCode + min 15 win * 2 ^ 8 + b2n c.trapFenced * 2 ^ 12 + c.trapCnt * 2 ^ 16),
     s.setChan e { c with trapCnt := 0 })
  else if w = 5 then (BitVec.ofNat 32 (c.evtDrop + c.svsDrop * 65536), s.setChan e { c with evtDrop := 0, svsDrop := 0 })
  else (0, s)

/-- OW_META written: TYPE (R294, R315). -/
def State.owMeta (s : State) (by_ : Port) (v : Word) : State :=
  let w := s.fld pPav Reg.Pav.OW_ADDR 13 0
  if !s.pavOpen by_ then s.ruleRefusal by_ pPav Reg.Pav.OW_META
  else s.setOutWord w { s.outWord w with typ := bits v 2 0 }
/-- OW_META and OW_VAL as they read (R315); AGE of a word with no commit reads its reset value.
(DESIGN CHOICE, log entry 21.) -/
def State.owMetaRead (s : State) : Word :=
  let w := s.fld pPav Reg.Pav.OW_ADDR 13 0
  let (st, nv, age) := s.wordStatus w
  BitVec.ofNat 32 ((s.outWord w).typ + b2n st * 2 ^ 8 + b2n nv * 2 ^ 9 + (if nv then 0 else age) * 65536)
def State.owValRead (s : State) : Word := s.committed (s.fld pPav Reg.Pav.OW_ADDR 13 0)

/-- CTX_DATA written or read: WORD advances (R295, R315). -/
def State.ctxAdvance (s : State) : State :=
  s.setFld pPav Reg.Pav.CTX_ADDR 19 0 (s.fld pPav Reg.Pav.CTX_ADDR 19 0 + 1)
def State.ctxWrite (s : State) (by_ : Port) (v : Word) : State :=
  if !s.pavOpen by_ then s.ruleRefusal by_ pPav Reg.Pav.CTX_DATA
  else (s.writeWord rgCtx (4 * s.fld pPav Reg.Pav.CTX_ADDR 19 0) v).ctxAdvance
def State.ctxRead (s : State) : Word × State :=
  match s.readWord rgCtx (4 * s.fld pPav Reg.Pav.CTX_ADDR 19 0) with
  | (w, p, s) =>
    let s := if p then s.poisonRead rgCtx (4 * s.fld pPav Reg.Pav.CTX_ADDR 19 0) 4 false else s
    (if p then 0 else w, s.ctxAdvance)

/-- A control request that waited is performed (R239). -/
def State.ctlPerform (s : State) : CtlReq → State
  | .event e stale q => s.eventIn e stale q
  | .ctx => s.ctxRead.2.emit (.value s.ctxRead.1)

/-- The last run of the slot has ended: what waited for it goes on, oldest first (R239).
(DEDUCED, log entry 80.) -/
def State.ctlServe (s : State) : State :=
  if s.engineBusy then s else s.pav.ctlWait.foldl (fun s q => s.ctlPerform q) { s with pav.ctlWait := [] }

/-- CAP_DATA written: discarded while EN or ACTIVE is 1, but for a word 1 that only clears EN (R317). -/
def State.capData (s : State) (v : Word) : State :=
  let d := s.fld pPav Reg.Pav.CAP_ADDR 2 0
  let w := s.fld pPav Reg.Pav.CAP_ADDR 12 8
  let m : Word := if w = 0 then 0xFFFF03FF else if w = 1 then 0x8000000F else if w ≤ 17 then 0x1FFF else 0
  let old := s.capDef d 1
  let busy := bitAt old 31 || s.pav.caps.any (fun c => c.dfn = d)
  let v := v &&& m
  if 18 ≤ w ∨ (busy ∧ ¬ (w = 1 ∧ bitAt old 31 ∧ v = putBits old 31 31 0)) then s
  else { s with pav.capDef := smSet (fun _ => 0) s.pav.capDef (d * 32 + w) v }
def State.capDataRead (s : State) : Word := s.capDef (s.fld pPav Reg.Pav.CAP_ADDR 2 0) (s.fld pPav Reg.Pav.CAP_ADDR 12 8)

end Sys2Proof.Machine
end

