-- ==== Sys2Proof/Machine/Admission.lean ====
section
/-!
DEFINITION. The enable check of the Pergola: the figures of R237, the conditions of R240 in their order, and the checks of
the PTR pages (R210, R227, R228, R237 to R240, R543).
-/
namespace Sys2Proof.Machine

/-! Figures of the profile selected -/

/-- PRF_SEL, the profile the check is made for (R20, R22). -/
def State.prfSel (s : State) : Nat := s.fld pSys Reg.Sys.PRF 1 0
/-- f_e in MHz, N, D and the program maximum of R23. -/
def State.admMHz (s : State) : Nat := if s.prfSel = 1 then 1600 else 1500
def State.admN (s : State) : Nat := if s.prfSel = 1 then 128 else 64
def State.admDepth (s : State) : Nat := if s.prfSel = 0 then 512 else 256
def State.admPrograms (s : State) : Nat := if s.prfSel = 1 then 1024 else 2048
/-- F, the SDL_FMAX value in Hz. -/
def State.admF (s : State) : Nat := s.fld pSdl Reg.Sdl.SDL_FMAX 6 0
/-- E, A and L_min_ns (R237). -/
def State.admE (s : State) : Nat := s.admMHz * 1000000 / (s.admF * s.admN)
def State.admA (s : State) : Nat := 15 * s.admE / 16
def State.admLmin (s : State) : Nat := 1000000000 / (s.admF * s.admN)
/-- (E − A) / f_e in ns, rounded down. -/
def State.admGuard (s : State) : Nat := (s.admE - s.admA) * 1000 / s.admMHz

/-! Engine -/

/-- PERIOD, PHASE and BUDGET of schedule word 0 (R252). -/
def schPeriod (w : Word) : Nat := bits w 3 1
def schPhase (w : Word) : Nat := bits w 9 4
def schBudget (w : Word) : Nat := bits w 28 10
/-- The entry of a word is due when the slot count is n (R234). -/
def schDue (w : Word) (n : Nat) : Bool := decide (n % 2 ^ schPeriod w = schPhase w)

/-- S_r of R237. -/
def State.residueSum (s : State) (r : Nat) : Nat :=
  s.schEntries.foldl (fun a e => if schDue (s.sch e 0) r then a + schBudget (s.sch e 0) + 48 else a) 0

/-- The largest S_r and the lowest residue that has it. -/
def State.admPeak (s : State) : Nat × Nat :=
  (List.range 64).foldl (fun (a : Nat × Nat) r => if a.1 < s.residueSum r then (s.residueSum r, r) else a) (s.residueSum 0, 0)

/-! Crypto -/

/-- C: the crypto capacity of the cores in service, in units per µs (R430). -/
def State.cryptoRate (s : State) : Nat :=
  let a := ((List.range 24).filter (fun c => !s.coreOut c)).length
  let n := ((List.range 16).filter (fun c => !s.coreOut (c + 32))).length
  min (1250 * a) (2500 * n)

/-- The Ethernet ports with a function and MACSEC_EN = 1, and the sum of their rates in Mbit/s. -/
def State.macsecRate (s : State) : Nat :=
  (List.range 256).foldl (fun a p => if s.portExists p && s.portCfg p 2 2 = 1 then a + s.planRate p else a) 0

/-- The crypto capacity of a window, in units (R237). -/
def State.cryptoCap (s : State) : Nat := 15 * (s.cryptoRate * 128 - 2 * s.macsecRate) * s.admLmin / (16000 * 128)

/-- Σ QCLS_n.UNITS, Σ ICLS_n.FRAMES and Σ BCLS_n.UNITS. -/
def State.sumQcls (s : State) : Nat := (List.range 16).foldl (fun a n => a + s.fld pPgl (Reg.Pgl.QCLS n) 23 0) 0
def State.sumIcls (s : State) : Nat := (List.range 16).foldl (fun a n => a + s.fld pPgl (Reg.Pgl.ICLS n) 15 0) 0
def State.sumBcls (s : State) : Nat := (List.range 8).foldl (fun a n => a + s.fld pPgl (Reg.Pgl.BCLS n) 13 0) 0

/-! Publication -/

/-- n_j of R238. -/
def State.pubCount (s : State) (sv : Bool) (i : Nat) : Nat :=
  if sv then
    let d := 40 * s.admN * s.pubNasdu i
    (s.pubRate i + d - 1) / d + 1
  else 1

/-- The enabled publications. -/
def State.allPubs (s : State) : List (Bool × Nat) :=
  (s.pubEntries false).map (fun i => (false, i)) ++ (s.pubEntries true).map (fun i => (true, i))

/-- The port-load condition of R238 for port p: the octet times of the longest wait, against 14 µs. -/
def State.portLoadOk (s : State) (p : Nat) : Bool :=
  let m := if s.portCfg p 2 2 = 1 then 32 else 0
  let js := s.allPubs.filter (fun j => (s.pubPorts j.1 j.2).contains p)
  let x := s.fld pPrm Reg.Prm.FAB_CFG 13 0 + 20 + m +
    js.foldl (fun a j => a + s.pubCount j.1 j.2 * (s.pubLmax j.1 j.2 + 20 + m)) 0
  js.isEmpty || decide (8 * x ≤ 14 * s.planRate p)

/-- The lowest port that fails R238. -/
def State.badPort (s : State) : Option Nat := (List.range 256).find? (fun p => !s.portLoadOk p)

/-- The publication-tag units of a window (R237). -/
def State.pubTagUnits (s : State) : Nat :=
  s.allPubs.foldl (fun a j =>
    let l := s.pubLmax j.1 j.2
    if s.pubAes j.1 j.2 && (s.pubTagged j.1 j.2 || s.pubEnc j.1 j.2) then a + s.pubCount j.1 j.2 * ((l + 16 + 15) / 16)
    else if s.pubTagged j.1 j.2 then a + s.pubCount j.1 j.2 * (4 * ((l + 9 + 63) / 64))
    else a) 0
/-- They fit the class named in PUB_QCLASS. -/
def State.pubTagOk (s : State) : Bool :=
  decide (s.pubTagUnits ≤ s.fld pPgl (Reg.Pgl.QCLS (s.fld pPgl Reg.Pgl.PUB_QCLASS 3 0)) 23 0)

/-! The PTR pages -/

/-- The MAC and TAGLEN pairs of R192: HMAC-SHA256 with 80, 128 or 256 bits, AES-GMAC with 64 or 128.
(DEDUCED, log entry 69.) -/
def macPairOk (gmac : Bool) (taglen : Nat) : Bool :=
  if gmac then decide (taglen = 0) || decide (taglen = 2) else decide (1 ≤ taglen) && decide (taglen ≤ 3)

/-- WRAP divides RATE (R210). -/
def rateOk (rate wrap : Nat) : Bool := decide (wrap ≠ 3) && decide (rate % wrapOf wrap = 0) && decide (rate ≠ 0)

/-- An enabled SV entry keeps the limits of R210. -/
def State.svEntryOk (s : State) (i : Nat) : Bool :=
  let w1 := s.svCfg i 1
  let rate := bits w1 16 0
  let wrap := bits w1 18 17
  let rsv := s.svRsv i
  let d := s.admDepth
  let n40 := 40 * s.admN
  rateOk rate wrap && decide (rate ≤ 96000) && decide (rate / wrapOf wrap ≤ 65536) &&
    decide ((rate + n40 - 1) / n40 + 1 ≤ rsv) && decide (rsv ≤ d / 2) &&
    decide (s.svMaxAge i * rate ≤ (d - rsv) * 1000000) && macPairOk (bitAt w1 22) (bits w1 25 23) &&
    (decide (i < 4096) || decide (s.prfSel = 2)) &&
    decide (s.fld pPtr0 (Reg.Ptr0.FMT_MATCH (bits (s.svCfg i 0) 5 1)) 15 0 ≠ 0)

/-- An enabled GOOSE entry passes R227. -/
def State.gooseEntryOk (s : State) (i : Nat) : Bool :=
  let w2 := s.gooseCfg i 2
  decide (bits (s.gooseCfg i 0) 14 10 ≤ 16) && macPairOk (bitAt w2 9) (bits w2 12 10)

/-- A GOOSE member names a word that an enabled entry owns and whose TYPE it can carry (R228, R303). -/
def State.memberOk (s : State) (w : Nat) : Bool :=
  decide (w < 16384) && (s.wouldOwn w).isSome && decide ((s.outWord w).typ < 6)

/-- A source of an SV quantity is inside the configuration (R228, R303). -/
def State.sourceOk (s : State) (w : Word) : Bool :=
  let n := bits w 16 4
  if bitAt w 0 then decide (n < 8192) && (s.wouldOwn n).isSome && decide ((s.outWord n).typ = typSvbuf)
  else bitAt (s.svCfg n 0) 0 && decide (bits w 3 1 < s.svQty n)

/-- An enabled publication passes R228. -/
def State.pubEntryOk (s : State) (sv : Bool) (i : Nat) : Bool :=
  let w0 := s.pubCfg sv i 0
  let w2 := s.pubCfg sv i 2
  let w3 := s.pubCfg sv i 3
  let form := bits w0 3 1
  decide (form ≤ 3) && (s.pubPorts sv i).all s.portExists &&
    (macPairOk (bitAt w2 13) (bits w2 16 14) || (decide (2 ≤ form) && decide (bits w2 16 14 = 7))) &&
    (if sv then
      decide (1 ≤ bits w0 11 7) && decide (bits w0 11 7 ≤ 16) && rateOk (bits w3 16 0) (bits w3 18 17) &&
        (List.range (bits w0 6 4 + 1)).all (fun q => s.sourceOk (s.pubCfg sv i (8 + q)))
     else
      decide (s.pubMembers i ≤ 16) && decide (100 ≤ bits w3 15 0) && decide (bits w3 15 0 ≤ bits w3 31 16 * 1000) &&
        (List.range (s.pubMembers i)).all (fun m => s.memberOk (s.pubSrc i m)))

/-- The PTR pages whose check fails (R240). -/
def State.badPtrPages (s : State) : List Nat :=
  (if s.svEntries.all s.svEntryOk then [] else [1]) ++ (if s.gooseEntries.all s.gooseEntryOk then [] else [2]) ++
    (if s.allPubs.all (fun j => s.pubEntryOk j.1 j.2) then [] else [3])

/-! The check -/

/-- An enabled schedule entry is one that the engine can run (R240). -/
def State.entryOk (s : State) (e : Nat) : Bool :=
  let w := s.sch e 0
  decide (schPeriod w ≤ 6) && decide (schPhase w < 2 ^ schPeriod w) && decide (1 ≤ schBudget w) &&
    decide (schBudget w ≤ s.admA)

/-- The causes of R240 up to COUNT, in the order of the table, as cause and DETAIL. -/
def State.causeBefore (s : State) : Option (Nat × Nat) :=
  match s.boot.accepted with
  | none => some (1, 0)
  | some p =>
    if p.profile ≠ s.prfSel then some (2, p.profile)
    else if !s.fmaxOk s.admF then some (15, s.admF)
    else if s.admE - s.admA < 6 * s.admMHz then some (3, s.admGuard)
    else if !s.enabled pSdl then some (4, 0)
    else if !s.flag pPtr0 Reg.Hdr.LOCK 0 then some (5, 0)
    else match s.badPtrPages with
      | p :: _ => some (6, p)
      | [] =>
        match s.schEntries.find? (fun e => !s.entryOk e) with
        | some e => some (7, e)
        | none => if s.admPrograms < s.schEntries.length then some (8, s.schEntries.length) else none

/-- The causes from ENGINE on. -/
def State.causeAfter (s : State) : Option (Nat × Nat) :=
  match (List.range 64).find? (fun r => decide (s.admA < s.residueSum r)) with
  | some r => some (9, r)
  | none =>
    if s.cryptoCap < s.sumQcls then some (10, 0)
    else if s.admLmin / 5 < s.sumIcls then some (11, 0)
    else if 8192 < s.sumBcls then some (12, 0)
    else match s.badPort with
      | some p => some (13, p)
      | none => if s.pubTagOk then none else some (14, 0)

/-- The figures of a check that reaches cause 9 (R240, R251). -/
def State.admFigures (s : State) : State :=
  let (sum, r) := s.admPeak
  let s := s.setFld pPgl Reg.Pgl.ADM_A 18 0 s.admA
  let s := s.setReg pPgl Reg.Pgl.ADM_PEAK (BitVec.ofNat 32 (min sum 0xFFFFFF + r * 2 ^ 24))
  let s := s.setFld pPgl Reg.Pgl.ADM_GUARD 15 0 s.admGuard
  let s := s.setFld pPgl Reg.Pgl.CAP_CRY 23 0 s.cryptoCap
  s.setFld pPgl Reg.Pgl.CAP_ING 15 0 (s.admLmin / 5)

/-- The refusal: EN stays 0, EN_ERR holds cause and detail, FLT_STA bit [1] is set (R240). -/
def State.enableRefused (s : State) (c : Nat × Nat) : State :=
  let s := (s.setFlag pPgl Reg.Hdr.CTL 0 false).setFlag pPgl Reg.Hdr.STA 8 false
  (s.setReg pPgl Reg.Pgl.EN_ERR (BitVec.ofNat 32 (c.1 + c.2 % 65536 * 256))).fault pPgl 1

/-- Every output word never committed (R302). -/
def State.neverAll (s : State) : Sparse OutWord :=
  (s.pav.ow.map (fun (e : Nat × OutWord) => (e.1, { e.2 with never := true, commit := 0 }))).filter
    (fun (e : Nat × OutWord) => decide (e.2 ≠ OutWord.fresh))

/-- No channel has run since acceptance (R307). -/
def State.chansFresh (s : State) : List (Nat × Chan) :=
  s.pav.chan.map (fun (e : Nat × Chan) => (e.1, { e.2 with last := 0, lastK := 0 }))

/-- BOOT_STA.STAGE goes from one step of R69 to the next; a later enable leaves it (R85). -/
def State.stageUp (s : State) (done next : Nat) : State :=
  if s.fld pLdg Reg.Ldg.BOOT_STA 3 0 = done then s.setFld pLdg Reg.Ldg.BOOT_STA 3 0 next else s

/-- The configuration is accepted: EN reads 1, PRF_ACT takes PRF_SEL, output words start as never committed, registers and
publications of the new configuration start afresh, and the addresses in force are latched (R21, R25, R218, R240, R274, R302,
R388). A profile that changes empties the
windows, whose depth it sets. -/
def State.enableAccepted (s : State) : State :=
  let changed := decide (s.fld pSys Reg.Sys.PRF 9 8 ≠ s.prfSel)
  let s := s.setFld pSys Reg.Sys.PRF 9 8 s.prfSel
  let s := if changed then { s with ptr.sv := [], ptr.staged := [] } else s
  let s := ((s.setFlag pPgl Reg.Hdr.CTL 0 true).setFld pPgl Reg.Hdr.STA 10 8 2).setReg pPgl Reg.Pgl.EN_ERR 0
  let s := { s with
    pgl.everEnabled := true, ptr.everEnabled := true, pgl.owners := s.ownerRanges, pgl.clearing := []
    pav.ow := s.neverAll
    pav.chan := s.chansFresh
    cln.latchMac := if s.flag pCln Reg.Cln.ESTATE 16 then some (s.fld pCln Reg.Cln.ESTATE 15 0) else none
    cln.latchValid := true }
  (s.stageUp 11 12).pubStart

/-- PGL CTL.EN written 1 (R240): step 11 of R69 has ended and the check starts, unless HALT_ENGINE or a fence of the page forbids it (R429, R431). -/
def State.pglEnable (s : State) (by_ : Port) : State :=
  if s.blv.halted || s.fencedPage pPgl then s.refuseWrite by_ pPgl Reg.Hdr.CTL
  else if s.pglOn || s.flag pPgl Reg.Hdr.STA 8 then s
  else (s.setFlag pPgl Reg.Hdr.STA 8 true).stageUp 10 11

/-- The check ends, dt ns later (R240). -/
def State.enableCheck (s : State) (dt : Nat) : State :=
  if !s.flag pPgl Reg.Hdr.STA 8 then s
  else
    let s := s.tick dt
    match s.causeBefore with
    | some c =>
      let s := if c.1 = 6 then s.badPtrPages.foldl (fun s p => s.fault (pPtr0 + p) 5) s else s
      s.enableRefused c
    | none =>
      let s := s.admFigures
      match s.causeAfter with
      | some c => s.enableRefused c
      | none => s.enableAccepted

/-- PGL CTL.EN written 0 (R241): the promise ends at the next slot start. -/
def State.pglDisable (s : State) : State :=
  if s.pglOn then (s.setFlag pPgl Reg.Hdr.CTL 0 false).setFlag pPgl Reg.Hdr.STA 10 true else s

/-! The schedule table and the log -/

/-- Writable bits of a schedule word. -/
def schMask (w : Nat) : Word := if w = 0 then 0x1FFFFFFF else if w = 1 then 0xFFFFF else 0

/-- SCH_DATA written (R236, R252). A word-0 write that only clears EN is accepted at any time and takes effect at the next
slot start.
(DEDUCED, log entry 77.) -/
def State.schData (s : State) (by_ : Port) (v : Word) : State :=
  let e := s.fld pPgl Reg.Pgl.SCH_ADDR 10 0
  let w := s.fld pPgl Reg.Pgl.SCH_ADDR 17 16
  let old := s.sch e w
  let v := v &&& schMask w
  if 2 ≤ w then s
  else if by_ != .core then s.authRefusal by_ pPgl Reg.Pgl.SCH_DATA
  else if !s.pgl.everEnabled then { s with pgl.sched := smSet (fun _ => 0) s.pgl.sched (e * 4 + w) v }
  else if w = 0 ∧ v = putBits old 0 0 0 then
    (if bitAt old 0 && !s.pgl.clearing.contains e then { s with pgl.clearing := s.pgl.clearing ++ [e] } else s)
  else s.refuseWrite by_ pPgl Reg.Pgl.SCH_DATA

/-- SCH_DATA read: word 2's overrun count is cleared by it (R252).
(DEDUCED, log entry 77.) -/
def State.schRead (s : State) : Word × State :=
  let e := s.fld pPgl Reg.Pgl.SCH_ADDR 10 0
  let w := s.fld pPgl Reg.Pgl.SCH_ADDR 17 16
  let x := s.entryStat e
  if w = 0 then (if s.pgl.clearing.contains e then putBits (s.sch e 0) 0 0 0 else s.sch e 0, s)
  else if w = 1 then (s.sch e 1, s)
  else if w = 2 then
    (BitVec.ofNat 32 (x.ovrCnt + x.consec * 2 ^ 16 + b2n x.fenced * 2 ^ 24 + b2n x.stale * 2 ^ 25),
     s.setEntryStat e { x with ovrCnt := 0 })
  else (BitVec.ofNat 32 x.lastUsed, s)

/-- Kinds of OVR_LOG (R251). -/
abbrev ovrOverrun : Nat := 1
abbrev ovrFence : Nat := 2
abbrev ovrSkip : Nat := 3

/-- An entry of OVR_LOG, which holds 64 (R251).
(DEDUCED, log entry 67.) -/
def State.ovrLog (s : State) (e kind : Nat) : State :=
  let full := decide (64 ≤ s.pgl.log.length)
  { s with pgl.log := (if full then s.pgl.log.drop 1 else s.pgl.log) ++ [OvrEntry.mk e kind full (s.slotCnt % 2 ^ 18)] }

/-- OVR_LOG read: the oldest entry leaves (R251). -/
def State.ovrRead (s : State) : Word × State :=
  match s.pgl.log with
  | [] => (0, s)
  | x :: xs =>
    (BitVec.ofNat 32 (x.entry + x.kind * 2 ^ 11 + b2n x.lost * 2 ^ 13 + x.slot * 2 ^ 14), { s with pgl.log := xs })

end Sys2Proof.Machine
end

