-- ==== Sys2Proof/Machine/Pergola.lean ====
section
/-!
DEFINITION. The Pergola inside a slot: due entries, dispatch and the switch, the ways a run ends, overruns, fences of
channels, and the end of a slot (R234, R235, R241 to R248, R251, R295, R296).
-/
namespace Sys2Proof.Machine

/-! The switch -/

/-- Register n of file f, at 32f + n. -/
def Engine.reg (g : Engine) (i : Nat) : Word := smGet (fun _ => 0) g.rf i
def Engine.setReg (g : Engine) (i : Nat) (v : Word) : Engine := { g with rf := smSet (fun _ => 0) g.rf i v }

/-- The register files and guards of a run go to its save slot (R295, R296). -/
def State.saveRegs (s : State) (e : Nat) : State :=
  s.writeMem rgCtx (saveOfs e)
    ((List.range 128).flatMap (fun i => wordOctets (s.engP.reg i)) ++ wordOctets (BitVec.ofNat 32 (s.engP.guards % 256 / 2 * 2)))

/-- The engine at the start of a run of entry e: the state of R274, registers and guards from the save slot, the data stack
of R296. Answers whether the save slot is poisoned.
(DEDUCED, log entry 81.) -/
def State.loadRegs (s : State) (e : Nat) : Bool × State :=
  match s.readMem rgCtx (saveOfs e) 516 with
  | (bs, p, s) =>
    let rf := (List.range 128).foldl (fun m i => smSet (fun _ => 0) m i (leWord (bs.drop (4 * i)))) ([] : Sparse Word)
    (p, { s with engP := { Engine.reset with
      pc := bits (s.sch e 1) 19 0, rf := rf, guards := (leWord (bs.drop 512)).toNat % 256 / 2 * 2
      dsBase := s.ctxBase e + s.progWords e, dsLimit := s.ctxBase e + s.ctxWords e } })

/-! The ends of a run -/

/-- A run leaves the engine: its registers are saved, its charge counted (R251, R252, R296, R307). -/
def State.closeRun (s : State) (r : Run) (last : Nat) (stale : Bool) : State :=
  let s := s.saveRegs r.entry
  let s := s.setEntryStat r.entry { s.entryStat r.entry with lastUsed := r.charged, stale := stale }
  let s := s.setChan r.entry { s.chan r.entry with last := last }
  { s with pgl.run := none, pgl.used := s.pgl.used + r.charged, engP := Engine.reset }

/-- A donor sends the 64-octet units of context memory and the output words that a run wrote, each with the SLOT_CNT of its
version (R372): kind, unit or word, SLOT_CNT, content. -/
def State.sendRun (s : State) (r : Run) : State :=
  if s.cln.st == .attachXfer && s.cln.donor then
    let e := r.entry
    let units := (List.range 9).map (fun j => saveOfs e / 64 + j) ++
      (List.range ((s.ctxWords e + 15) / 16)).map (fun j => (userOfs (s.ctxBase e)) / 64 + j)
    let s := units.foldl (fun s u => s.emit (.twinMsg msgState
      (2 :: natOctets 4 u ++ natOctets 4 s.slotCnt ++ s.peekMem rgCtx (64 * u) 64))) s
    (r.words.map (·.1)).eraseDups.foldl (fun s w => s.emit (.twinMsg msgState
      (3 :: natOctets 4 w ++ natOctets 4 s.slotCnt ++ wordOctets (s.outWord w).value))) s
  else s

/-- A run completes (R247, R248, R302). -/
def State.completeRun (s : State) (r : Run) : State :=
  let s := ((s.commitRun r).closeRun r 1 false).sendRun r
  let s := s.setEntryStat r.entry { s.entryStat r.entry with consec := 0 }
  ((s.releaseEvents r false).evalAfter r.entry).svEarly.ctlServe

/-- A run ends in any other way: its run buffer goes, its words are stale, its events come marked (R247, R302, R306). -/
def State.failRun (s : State) (r : Run) (last : Nat) : State :=
  ((((s.closeRun r last true).sendRun { r with words := [] }).releaseEvents r true).evalAfter r.entry).ctlServe

/-- An overrun of entry e, and the fence that OVR_FENCE asks for (R248).
(DEDUCED, log entry 79.) -/
def State.overrun (s : State) (e : Nat) : State :=
  let s := (s.faultItem pPgl 0 1 e 0).ovrLog e ovrOverrun
  let x := s.entryStat e
  let n := satAdd 255 x.consec 1
  let s := s.setEntryStat e { x with ovrCnt := satAdd 0xFFFF x.ovrCnt 1, consec := n }
  let f := s.fld pPgl Reg.Pgl.PGL_CFG 7 0
  if f ≠ 0 ∧ f ≤ n ∧ !x.fenced then s.faultItem pPgl 2 1 e rctFence else s

/-- A run is pre-empted at its budget (R243, R248). -/
def State.preemptRun (s : State) (r : Run) : State := (s.overrun r.entry).failRun r 2

/-- A run is trapped (R288, R310, R311); `pre` where it reached its budget in the same cycle (R244). -/
def State.trapRun (s : State) (r : Run) (t : TrapEntry) (poison : Option PoisonAt) (pre : Bool) : State :=
  let (fence, s) := s.trapNote { t with preempt := pre } poison
  let s := if pre then s.overrun r.entry else s
  let s := s.failRun r (3 + t.code * 256)
  if fence then s.faultItem pPav 1 1 r.entry rctFence else s

/-- A run in progress ends as pre-empted without an overrun: at HALT_ENGINE (R431) and at C_(k+1) (R246).
(DEDUCED, log entry 102.) -/
def State.cutRun (s : State) : State := match s.pgl.run with
  | some r => s.failRun r 2
  | none => s

/-- HALT_ENGINE with a run in progress (R431).
(DEDUCED, log entry 102.) -/
def State.haltRun (s : State) : State := s.cutRun.haltEngine.ctlServe

/-! Dispatch -/

/-- A joiner taking state dispatches nothing (R372).
(DEDUCED, log entry 191.) -/
def State.joining (s : State) : Bool := s.cln.st == .attachXfer && !s.cln.donor

/-- The run of the lowest due entry is dispatched after its switch (R235, R296). A poisoned save slot ends it as a POISON
trap before any bundle.
(DEDUCED, log entry 81.) -/
def State.dispatchNext (s : State) : State :=
  if s.joining then s
  else match s.pgl.run, s.pgl.due with
  | none, e :: rest =>
    let r : Run := { entry := e, charged := 0, budget := schBudget (s.sch e 0), words := [], samples := [], quals := []
                     reqs := [], events := [] }
    let s := { s with pgl.due := rest, pgl.run := some r, pgl.runs := s.pgl.runs + 1, pgl.used := s.pgl.used + 48 }
    let c := s.chan e
    let s := s.setChan e { c with outcome := 0 }
    match s.loadRegs e with
    | (true, s) =>
      s.trapRun r { code := trPoison, multi := false, preempt := false, lost := false, entry := e, bundle := s.engP.pc
                    mslot := 0, slot := s.slotCnt, tval := 0 } (some (s.poisonIn rgCtx (saveOfs e) 516)) false
    | (false, s) => s
  | _, _ => s

/-- The first dispatch of a slot, at C_k + 5 µs (R235, R242). -/
def State.firstDispatch (s : State) : State :=
  match s.sdl.slotAt with
  | none => s
  | some ck =>
    if s.pgl.open5 then s
    else
      let s := (s.advanceTo (ck + 5000)).lateInputs
      ({ s with pgl.open5 := true }).dispatchNext

/-- A later dispatch, after the end of the previous run (R235). -/
def State.runDispatch (s : State) : State := if s.pgl.open5 then s.dispatchNext else s

/-- The run in progress may issue no further bundle within its budget: it is spent, or a non-interruptible repeat needs more
cycles than remain (R243, R284). -/
def State.budgetSpent (s : State) (r : Run) : Bool :=
  decide (r.budget ≤ r.charged) || (match s.engP.rep with
    | some q => !q.soft && decide (q.k = 0) && decide (r.budget - r.charged < q.n)
    | none => false)

/-- The pre-emption of R243, where the run has reached it. -/
def State.budgetPreempt (s : State) : State :=
  match s.pgl.run with
  | some r => if s.budgetSpent r then s.preemptRun r else s
  | none => s

/-! Slot boundaries -/

/-- A due entry is not run in its slot: its words are stale (R246, R247).
(DEDUCED, log entry 79.) -/
def State.noRun (s : State) (e : Nat) : State :=
  (s.setEntryStat e { s.entryStat e with stale := true }).setChan e { s.chan e with last := 2 }

/-- The end of slot k at C_(k+1): a run that still holds the engine is cut, due entries not started are skipped, what was
not evaluated is, and SLOT_USE shows the slot (R217, R246, R251). -/
def State.pglSlotEnd (s : State) : State :=
  let s := s.budgetPreempt
  let held := s.pgl.run.isSome || !s.pgl.due.isEmpty
  let s := s.cutRun
  let s := s.pgl.due.foldl (fun s e => ((s.noRun e).ovrLog e ovrSkip).evalAfter e) s
  let s := if held then s.fault pPgl 3 else s
  let s := { s with pgl.due := [], pgl.open5 := false }.evalRest.ctlServe
  s.setReg pPgl Reg.Pgl.SLOT_USE (BitVec.ofNat 32 (s.pgl.used % 2 ^ 19 + s.pgl.runs % 2 ^ 12 * 2 ^ 20))

/-- Entries whose EN was cleared at run time leave the schedule, their words stale from then on (R236).
(DEDUCED, log entry 77.) -/
def State.applyClearing (s : State) : State :=
  let s := s.pgl.clearing.foldl (fun s e =>
    (s.setEntryStat e { s.entryStat e with stale := true }).setChan e { s.chan e with last := 2 }) s
  { s with pgl.sched := s.pgl.clearing.foldl (fun m e => smSet (fun _ => 0) m (e * 4) (putBits (s.sch e 0) 0 0 0)) s.pgl.sched
           pgl.clearing := [] }

/-- The entries due at slot count n, and the publications that wait for them; fenced ones are stale (R234, R235, R247).
(DEDUCED, log entry 78.) -/
def State.pglPlan (s : State) (n : Nat) : State :=
  if !s.pglOn || s.joining then s
  else
    let all := s.schEntries.filter (fun e => schDue (s.sch e 0) n)
    let fenced := all.filter (fun e => (s.entryStat e).fenced)
    let due := all.filter (fun e => !(s.entryStat e).fenced)
    let s := fenced.foldl (fun s e => s.noRun e) s
    let s := { s with pgl.due := due }.evalArm all
    fenced.foldl (fun s e => s.evalAfter e) s

/-- The Pergola at C_k (R234, R235, R241): a pending disable ends the promise, and the entries due are found. -/
def State.pglSlotStart (s : State) : State :=
  let s := { s with pgl.used := 0, pgl.runs := 0, pgl.stall := 0 }
  let s := if s.flag pPgl Reg.Hdr.STA 10 then { s.setFld pPgl Reg.Hdr.STA 10 9 0 with cln.latchValid := false } else s
  s.applyClearing.pglPlan s.slotCnt

/-- A window restart inside a slot, L_min of station time after the last one (R230). -/
def State.windowRestart (s : State) : State :=
  if s.sdl.slotAt.isSome && decide (s.pgl.winAt + s.lMin < s.nextSlotAt) then (s.advanceTo (s.pgl.winAt + s.lMin)).restartWindow
  else s

/-! Fences of channels -/

/-- A channel is fenced (R251, R429); a fence by traps shows in its descriptor too (R311). -/
def State.fenceChannel (s : State) (e : Nat) (byTraps : Bool) : State :=
  let s := (s.setEntryStat e { s.entryStat e with fenced := true }).ovrLog e ovrFence
  if byTraps then s.setChan e { s.chan e with trapFenced := true } else s

/-- The fence of a channel is lifted (R433). -/
def State.unfenceChannel (s : State) (e : Nat) : State :=
  (s.setEntryStat e { s.entryStat e with fenced := false, consec := 0 }).setChan e { s.chan e with trapFenced := false, traps := [] }

end Sys2Proof.Machine
end

