-- ==== Sys2Proof/Machine/Units.lean ====
section
/-!
DEFINITION. The arithmetic of the Ndear function units by trigger offset: ALU, MAC, FMA, CORDIC, DIV and bounds check
(R267 to R271, R285). Nothing here reads the state.
-/
namespace Sys2Proof.Machine

/-- 1 or 0. -/
def flagWord (b : Bool) : Word := if b then 1 else 0

/-! ALU -/

/-- An ALU operation (R267). -/
def aluOp (op : Nat) (o t : Word) : Word :=
  let n := bits t 4 0
  match op with
  | 0x02 => o + t
  | 0x03 => o - t
  | 0x04 => sat32 (o.toInt + t.toInt)
  | 0x05 => sat32 (o.toInt - t.toInt)
  | 0x06 => o &&& t
  | 0x07 => o ||| t
  | 0x08 => o ^^^ t
  | 0x09 => o &&& ~~~ t
  | 0x0A => o <<< n
  | 0x0B => o >>> n
  | 0x0C => o.sshiftRight n
  | 0x0D => if o.toInt ≤ t.toInt then o else t
  | 0x0E => if o.toInt ≤ t.toInt then t else o
  | 0x0F => if o.toNat ≤ t.toNat then o else t
  | 0x10 => if o.toNat ≤ t.toNat then t else o
  | 0x11 => flagWord (decide (o = t))
  | 0x12 => flagWord (decide (o ≠ t))
  | 0x13 => flagWord (decide (o.toInt < t.toInt))
  | 0x14 => flagWord (decide (o.toNat < t.toNat))
  | 0x15 => flagWord (decide (t.toInt ≤ o.toInt))
  | 0x16 => flagWord (decide (t.toNat ≤ o.toNat))
  | 0x17 => sat32 (if t.toInt < 0 then -t.toInt else t.toInt)
  | _ => t

/-! MAC -/

/-- A value saturated to 64 bits signed, and whether it was. -/
def sat64 (x : Int) : Int × Bool :=
  if x > 9223372036854775807 then (9223372036854775807, true)
  else if x < -9223372036854775808 then (-9223372036854775808, true) else (x, false)

/-- Rounding to Q1.31: 2³⁰ is added, then an arithmetic shift by 31, then saturation (R268). -/
def roundQ31 (x : Int) : Word × Bool :=
  let q := (x + 1073741824).fdiv 2147483648
  (sat32 q, decide (q > 2147483647) || decide (q < -2147483648))

/-- A MAC operation on accumulator A with its sticky flag: A, the sticky flag, r and whether r was saturated (R268). -/
def macOp (op : Nat) (a : Int) (sticky : Bool) (o t : Word) : Int × Bool × Word × Bool :=
  let p := o.toInt * t.toInt
  match op with
  | 0x02 =>
    let (a', x) := sat64 (a + p)
    let (r, y) := roundQ31 a'
    (a', sticky || x, r, y)
  | 0x03 => (a, sticky, BitVec.ofInt 32 p, false)
  | 0x04 => (a, sticky, BitVec.ofInt 32 (p.fdiv 4294967296), false)
  | 0x05 =>
    let (r, y) := roundQ31 p
    (a, sticky, r, y)
  | 0x06 =>
    let (a', x) := sat64 (a + p)
    (a', sticky || x, BitVec.ofInt 32 a', false)
  | 0x07 => (0, false, 0, false)
  | 0x08 => (t.toInt * 2147483648, false, t, false)
  | _ => (a, sticky, BitVec.ofInt 32 (a.fdiv 4294967296), false)

/-! FMA: IEEE 754 binary32 -/

/-- A binary32 operand with subnormals taken as zero (R269). -/
inductive Fl where
  | nan (signalling : Bool)
  | inf (neg : Bool)
  /-- (−1)^neg × m × 2^e; m = 0 is a zero of that sign. -/
  | fin (neg : Bool) (m : Nat) (e : Int)
  deriving DecidableEq, Repr

def flOf (w : Word) : Fl :=
  let neg := bitAt w 31
  let ex := bits w 30 23
  let fr := bits w 22 0
  if ex = 255 then (if fr = 0 then .inf neg else .nan (!bitAt w 22))
  else if ex = 0 then .fin neg 0 0
  else .fin neg (fr + 8388608) ((ex : Int) - 150)

/-- The canonical NaN, an infinity and a zero. -/
abbrev qNaN : Word := 0x7FC00000
def infWord (neg : Bool) : Word := if neg then 0xFF800000 else 0x7F800000
def zeroWord (neg : Bool) : Word := if neg then 0x80000000 else 0

/-- n / 2^k rounded to the nearest integer, ties to even, and whether that was inexact. -/
def shiftEven (n k : Nat) : Nat × Bool :=
  let q := n / 2 ^ k
  let r := n % 2 ^ k
  let h := 2 ^ k / 2
  (if k ≠ 0 ∧ (h < r ∨ (r = h ∧ q % 2 = 1)) then q + 1 else q, decide (r ≠ 0))

/-- (−1)^neg × m × 2^e as binary32 with its flags: overflow 2, flushed 4, inexact 8. Tininess is judged after rounding as if
the exponent were unbounded (R269). -/
def roundFl (neg : Bool) (m : Nat) (e : Int) : Word × Nat :=
  if m = 0 then (zeroWord neg, 0)
  else
    let len := m.log2 + 1
    let (q, x) : Nat × Bool := if 24 < len then shiftEven m (len - 24) else (m * 2 ^ (24 - len), false)
    let e1 : Int := e + ((len : Int) - 24)
    let (q, e1) : Nat × Int := if q = 16777216 then (8388608, e1 + 1) else (q, e1)
    let be : Int := e1 + 150
    if be > 254 then (infWord neg, 2 + 8)
    else if be < 1 then (zeroWord neg, 4 + 8)
    else (BitVec.ofNat 32 ((if neg then 2 ^ 31 else 0) + be.toNat * 2 ^ 23 + (q - 8388608)), if x then 8 else 0)

/-- An exact signed value v × 2^e as binary32; `zneg` is the sign of an exact zero. -/
def roundInt (v e : Int) (zneg : Bool) : Word × Nat :=
  if v = 0 then (zeroWord zneg, 0) else roundFl (decide (v < 0)) v.natAbs e

def Fl.isNan : Fl → Bool
  | .nan _ => true
  | _ => false
def Fl.isSignal : Fl → Bool
  | .nan b => b
  | _ => false
def Fl.neg : Fl → Fl
  | .nan b => .nan b
  | .inf n => .inf (!n)
  | .fin n m e => .fin (!n) m e

/-- The signed value of a finite operand at exponent e, which is not above its own. -/
def finAt (n : Bool) (m : Nat) (e0 e : Int) : Int :=
  let v : Int := m * 2 ^ (e0 - e).toNat
  if n then -v else v

/-- x + y, each finite, as an exact sum rounded once; an exact zero sum is −0 only where both are −0. -/
def addFin (nx : Bool) (mx : Nat) (ex : Int) (ny : Bool) (my : Nat) (ey : Int) : Word × Nat :=
  if mx = 0 ∧ my = 0 then (zeroWord (nx && ny), 0)
  else if mx = 0 then roundFl ny my ey
  else if my = 0 then roundFl nx mx ex
  else
    let e := min ex ey
    roundInt (finAt nx mx ex e + finAt ny my ey e) e false

/-- x + y on operands that are no NaN. -/
def addFl : Fl → Fl → Word × Nat
  | .inf a, .inf b => if a = b then (infWord a, 0) else (qNaN, 1)
  | .inf a, _ => (infWord a, 0)
  | _, .inf b => (infWord b, 0)
  | .fin nx mx ex, .fin ny my ey => addFin nx mx ex ny my ey
  | _, _ => (qNaN, 0)

/-- x × y + z, with one rounding (R269). The product of an infinity and a zero with a NaN addend leaves the invalid flag
open: IEEE 754 lets each implementation choose.
(DESIGN CHOICE, log entry 15.) -/
def fmaFl (x y z : Fl) : Word × Nat :=
  if x.isNan || y.isNan then (qNaN, b2n (x.isSignal || y.isSignal || z.isSignal))
  else
    let infZero := match x, y with
      | .inf _, .fin _ 0 _ => true
      | .fin _ 0 _, .inf _ => true
      | _, _ => false
    if infZero then (qNaN, if z.isNan && !z.isSignal then b2n Config.fmaNanInvalid else 1)
    else if z.isNan then (qNaN, b2n z.isSignal)
    else match x, y with
      | .fin nx mx ex, .fin ny my ey => addFl (.fin (nx != ny) (mx * my) (ex + ey)) z
      | .inf nx, .inf ny => addFl (.inf (nx != ny)) z
      | .inf nx, .fin ny _ _ => addFl (.inf (nx != ny)) z
      | .fin nx _ _, .inf ny => addFl (.inf (nx != ny)) z
      | _, _ => (qNaN, 0)

/-- An operand as its own result, subnormals flushed. -/
def Fl.word : Fl → Word
  | .nan _ => qNaN
  | .inf n => infWord n
  | .fin n m e => (roundFl n m e).1

/-- x < y, on operands that are no NaN. -/
def ltFl : Fl → Fl → Bool
  | .inf a, .inf b => a && !b
  | .inf a, _ => a
  | _, .inf b => !b
  | .fin nx mx ex, .fin ny my ey =>
    let e := min ex ey
    decide (finAt nx mx ex e < finAt ny my ey e)
  | _, _ => false

/-- A minimum or maximum: a NaN gives the other operand, −0 is below +0 (R269).
(DEDUCED, log entry 87.) -/
def minMaxFl (max : Bool) (x y : Fl) : Word × Nat :=
  let f := b2n (x.isSignal || y.isSignal)
  if x.isNan then (y.word, f)
  else if y.isNan then (x.word, f)
  else
    let below := match x, y with
      | .fin nx 0 _, .fin _ 0 _ => nx
      | _, _ => ltFl x y
    ((if below = max then y else x).word, 0)

/-- A finite operand times 2^k as an integer: nearest even, saturating to 32 bits signed, with R269's flags. -/
def toIntFl (k : Int) : Fl → Word × Nat
  | .nan _ => (0, 1)
  | .inf n => (if n then 0x80000000 else 0x7FFFFFFF, 1)
  | .fin n m e =>
    let s := e + k
    let (q, x) : Nat × Bool := if s < 0 then shiftEven m (-s).toNat else (m * 2 ^ s.toNat, false)
    let v : Int := if n then -q else q
    let w := sat32 v
    if w.toInt = v then (w, if x then 8 else 0) else (w, 1)

/-- An FMA operation: r and f (R269). -/
def fmaOp (op : Nat) (o o2 t : Word) : Word × Nat :=
  let x := flOf o
  let y := flOf t
  match op with
  | 0x02 => fmaFl x (flOf o2) y
  | 0x03 => if x.isNan || y.isNan then (qNaN, b2n (x.isSignal || y.isSignal)) else addFl x y
  | 0x04 => if x.isNan || y.isNan then (qNaN, b2n (x.isSignal || y.isSignal)) else addFl x y.neg
  | 0x05 =>
    if x.isNan || y.isNan then (qNaN, b2n (x.isSignal || y.isSignal))
    else match x, y with
      | .inf _, .fin _ 0 _ => (qNaN, 1)
      | .fin _ 0 _, .inf _ => (qNaN, 1)
      | .inf a, .inf b => (infWord (a != b), 0)
      | .inf a, .fin b _ _ => (infWord (a != b), 0)
      | .fin a _ _, .inf b => (infWord (a != b), 0)
      | .fin a ma ea, .fin b mb eb => roundFl (a != b) (ma * mb) (ea + eb)
      | _, _ => (qNaN, 0)
  | 0x06 => minMaxFl false x y
  | 0x07 => minMaxFl true x y
  | 0x08 => ((match y with | .fin _ m e => Fl.fin false m e | .inf _ => .inf false | z => z).word, 0)
  | 0x09 => roundInt t.toInt 0 false
  | 0x0A => roundInt t.toInt (-31) false
  | 0x0B => toIntFl 31 y
  | 0x0C => toIntFl 0 y
  | 0x0D => (flagWord (!x.isNan && !y.isNan && ltFl x y), 0)
  | _ => (flagWord (!x.isNan && !y.isNan && !ltFl x y && !ltFl y x), 0)

/-! CORDIC -/

/-- The integer square root of n < 4^k, by its binary digits. -/
def isqrtAux (n : Nat) : Nat → Nat → Nat
  | 0, r => r
  | k + 1, r => if (r + 2 ^ k) * (r + 2 ^ k) ≤ n then isqrtAux n k (r + 2 ^ k) else isqrtAux n k r

/-- The scale of the working vectors. -/
abbrev corScale : Nat := 2 ^ 96

/-- The cosine and sine of 2^−k turn, k from 2 on, by halving (scale 2⁹⁶). -/
def halfTurns : Nat → Nat × Nat → List (Nat × Nat)
  | 0, _ => []
  | n + 1, (c, s) =>
    let c' := isqrtAux ((corScale + c) * corScale / 2) 97 0
    (c, s) :: halfTurns n (c', s * corScale / (2 * c'))

/-- (x, y) turned by angle a in units of 2⁻³² turn, exact but for the working scale. -/
def turnVec (a : Nat) (x y : Int) : Int × Int :=
  let v0 : Int × Int := (x * corScale, y * corScale)
  let v1 : Int × Int := if a.testBit 31 then (-v0.1, -v0.2) else v0
  ((halfTurns 31 (0, corScale)).zipIdx).foldl (fun v e =>
    if a.testBit (30 - e.2) then
      let c : Int := e.1.1
      let s : Int := e.1.2
      ((v.1 * c - v.2 * s).fdiv corScale, (v.1 * s + v.2 * c).fdiv corScale)
    else v) v1

/-- The n leading bits of the angle of (x, y) in turns, by doubling it n times. -/
def angleBits : Nat → Int → Int → Nat → Nat
  | 0, _, _, a => a
  | n + 1, x, y, a =>
    let hi := decide (y < 0) || (decide (y = 0) && decide (x < 0))
    let x' := x * x - y * y
    let y' := 2 * x * y
    let l := Nat.log2 (x'.natAbs + y'.natAbs)
    let k := l - 200
    angleBits n (x'.fdiv (2 ^ k)) (y'.fdiv (2 ^ k)) (2 * a + b2n hi)

/-- A result within ±n units of the exact value num / den: which one is open (R270). -/
def within (n : Nat) (num : Int) (den : Nat) (dev : Nat) : Int :=
  let base := num.fdiv den
  if num = base * den then base - n + (dev % (2 * n + 1) : Nat) else base - n + 1 + (dev % (2 * n) : Nat)

/-- A CORDIC operation: r, r2 and f (R270).
(DESIGN CHOICE, log entry 13.) -/
def corOp (op : Nat) (o o2 t : Word) : Word × Word × Nat :=
  let dev (i : Nat) : Nat := Config.cordicError (op * 2 + i) o o2 t
  let pair (v : Int × Int) (den : Nat) : Word × Word × Nat :=
    let a := within 8 v.1 den (dev 0)
    let b := within 8 v.2 den (dev 1)
    (sat32 a, sat32 b, b2n (decide ((sat32 a).toInt ≠ a) || decide ((sat32 b).toInt ≠ b)))
  match op with
  | 0x02 => pair (turnVec t.toNat 2147483648 0) corScale
  | 0x03 =>
    let x := t.toInt
    let y := o.toInt
    if x = 0 ∧ y = 0 then (0, 0, 0)
    else
      let a := angleBits 64 x y 0
      let m := isqrtAux ((x * x + y * y).toNat * 2 ^ 64) 66 0
      let r2 := within 8 m (2 ^ 32) (dev 1)
      (BitVec.ofInt 32 (within 64 a (2 ^ 32) (dev 0)), sat32 r2, b2n (decide ((sat32 r2).toInt ≠ r2)))
  | _ => pair (turnVec t.toNat o.toInt o2.toInt) corScale

/-! DIV -/

/-- A DIV operation: r, r2 and f (R271).
(DEDUCED, log entry 88.) -/
def divOp (op : Nat) (o t : Word) : Word × Word × Nat :=
  match op with
  | 0x03 => if t = 0 then (0xFFFFFFFF, o, 1) else (o / t, o % t, 0)
  | _ =>
    let a := o.toInt
    let b := t.toInt
    if b = 0 then (if a < 0 then 0x80000000 else 0x7FFFFFFF, o, 1)
    else if op = 0x02 then
      if a = -2147483648 ∧ b = -1 then (0x7FFFFFFF, 0, 2)
      else (BitVec.ofInt 32 (a.tdiv b), BitVec.ofInt 32 (a.tmod b), 0)
    else if b.natAbs ≤ a.natAbs then (if decide (a < 0) != decide (b < 0) then 0x80000000 else 0x7FFFFFFF, 0, 2)
    else (BitVec.ofInt 32 ((a * 2147483648).tdiv b), 0, 0)

/-! Bounds check -/

/-- A bounds check: r and f, or the trap (R285). -/
def bndOp (op : Nat) (lo hi t : Word) : Option (Word × Nat) :=
  match op with
  | 0x02 => if t.toInt < lo.toInt ∨ hi.toInt < t.toInt then none else some (t, 0)
  | 0x03 => if t.toNat < lo.toNat ∨ hi.toNat < t.toNat then none else some (t, 0)
  | _ =>
    let r := if hi.toInt < lo.toInt ∨ t.toInt < lo.toInt then lo else if hi.toInt < t.toInt then hi else t
    some (r, b2n (decide (r ≠ t)))

end Sys2Proof.Machine
end

