-- ==== Sys2Proof/Machine/Ndear.lean ====
section
/-!
DEFINITION. The Ndear cores: ports, bundles and moves, triggers and landing results, transfers, stacks and repeats, and the
issue of a bundle on Ndear-P (R254 to R274, R278 to R288, R299).
-/
namespace Sys2Proof.Machine

/-! Engines -/

def State.eng (s : State) : Cpu → Engine
  | .pav => s.engP
  | .core => s.engC
def State.setEng (s : State) (c : Cpu) (g : Engine) : State := match c with
  | .pav => { s with engP := g }
  | .core => { s with engC := g }

/-- Instances of a unit kind (R265, R275). -/
def nRf (c : Cpu) : Nat := if c = .pav then 4 else 2
def nAlu (c : Cpu) : Nat := if c = .pav then 4 else 2
def nMac (c : Cpu) : Nat := if c = .pav then 8 else 1
def nFma (c : Cpu) : Nat := if c = .pav then 4 else 0
def nCor (c : Cpu) : Nat := if c = .pav then 2 else 0
def nDiv (c : Cpu) : Nat := if c = .pav then 2 else 1
def nLs (c : Cpu) : Nat := if c = .pav then 2 else 1

/-- First ports of the units. -/
def aluPort (u : Nat) : Nat := 0x100 + 0x20 * u
def macPort (u : Nat) : Nat := 0x180 + 0x20 * u
def fmaPort (u : Nat) : Nat := 0x280 + 0x20 * u
def corPort (u : Nat) : Nat := 0x300 + 0x20 * u
def divPort (u : Nat) : Nat := 0x340 + 0x20 * u
def lsPort (u : Nat) : Nat := 0x380 + 0x20 * u

/-- A port lies in the blocks of n units from `base` on, at an offset that f accepts. -/
def inUnits (p base n : Nat) (f : Nat → Bool) : Bool := decide (base ≤ p) && decide (p < base + 32 * n) && f (p % 32)

/-- The system ports (R277). -/
def sysPort (p : Nat) : Bool := decide (0x40 ≤ p) && decide (p ≤ 0x4F)
def sysWritable (p : Nat) : Bool := [0x40, 0x41, 0x42, 0x45, 0x46, 0x47, 0x48, 0x4B, 0x4C, 0x4D, 0x4E].contains p

/-- Offsets r, r2 and f. -/
def rf2 (k : Nat) : Bool := decide (0x1D ≤ k)
def rf1 (k : Nat) : Bool := decide (0x1E ≤ k)
/-- Offsets o, and triggers 2 to n; and with o2 or d. -/
def trig1 (n k : Nat) : Bool := decide (k = 0) || (decide (2 ≤ k) && decide (k ≤ n))
def trig2 (n k : Nat) : Bool := decide (k ≤ n)

/-- A port that a move may read (R265, R266, R275). -/
def srcOk (c : Cpu) (p : Nat) : Bool :=
  decide (p ≤ 8) || (c == .pav && decide (0x10 ≤ p) && decide (p ≤ 0x12)) || p == 0x1B || p == 0x1C || p == 0x3E || p == 0x3F ||
    (c == .core && sysPort p) || (decide (0x80 ≤ p) && decide (p < 0x80 + 32 * nRf c)) || inUnits p 0x100 (nAlu c) rf1 ||
    inUnits p 0x180 (nMac c) rf1 || inUnits p 0x280 (nFma c) rf1 || inUnits p 0x300 (nCor c) rf2 ||
    inUnits p 0x340 (nDiv c) rf2 || inUnits p 0x380 (nLs c) (if c = .pav then rf2 else rf1)

/-- A port that a move may write. -/
def dstOk (c : Cpu) (p : Nat) : Bool :=
  decide (p ≤ 7) || p == 0x09 || p == 0x0A || (decide (0x18 ≤ p) && decide (p ≤ 0x1A)) || (decide (0x20 ≤ p) && decide (p ≤ 0x24)) ||
    p == 0x26 || (c == .pav && p == 0x25) || (c == .core && (p == 0x27 || p == 0x28)) || (decide (0x30 ≤ p) && decide (p ≤ 0x34)) ||
    (c == .core && sysWritable p) || (decide (0x80 ≤ p) && decide (p < 0x80 + 32 * nRf c)) || inUnits p 0x100 (nAlu c) (trig1 0x18) ||
    inUnits p 0x180 (nMac c) (trig1 9) || inUnits p 0x280 (nFma c) (trig2 0xE) || inUnits p 0x300 (nCor c) (trig2 4) ||
    inUnits p 0x340 (nDiv c) (trig1 4) || inUnits p 0x380 (nLs c) (trig2 (if c = .pav then 0xE else 0xA))

/-- The unit a trigger port belongs to (R262). -/
def triggerUnit (p : Nat) : Option Nat :=
  if p = 9 ∨ p = 0xA then some 9
  else if 0x18 ≤ p ∧ p ≤ 0x1A then some 0x18
  else if 0x20 ≤ p ∧ p ≤ 0x28 then some 0x20
  else if 0x32 ≤ p ∧ p ≤ 0x34 then some 0x30
  else if 0x100 ≤ p ∧ 2 ≤ p % 32 ∧ p % 32 ≤ 0x1C then some (p / 32 * 32) else none

/-- A control transfer of R279, and a control or repeat port of R283. -/
def isTransfer (p : Nat) : Bool := (decide (0x20 ≤ p) && decide (p ≤ 0x24)) || p == 0x27
def isCtlRep (p : Nat) : Bool := (decide (0x20 ≤ p) && decide (p ≤ 0x28)) || p == 0x09 || p == 0x0A

/-! Moves -/

/-- The slots of a bundle that are moves, each with its literal (R261). -/
def bundleSlots : Nat → List Word → List (Nat × Word × Option Word)
  | _, [] => []
  | i, [w] => [(i, w, none)]
  | i, w :: l :: ws =>
    if bits w 27 26 = 2 then (i, w, some l) :: bundleSlots (i + 2) ws else (i, w, none) :: bundleSlots (i + 1) (l :: ws)

/-- A guard is true (R260). -/
def Engine.guardTrue (g : Engine) (w : Word) : Bool :=
  let n := bits w 30 28
  if n = 0 then !bitAt w 31 else g.guards.testBit n != bitAt w 31

/-- A slot as a move, or its ENC trap (R259, R261). -/
def moveOf (x : Nat × Word × Option Word) : Move ⊕ TrapAt :=
  let (i, w, l) := x
  let enc : Move ⊕ TrapAt := .inr ⟨1, i, w, none⟩
  let d := bits w 9 0
  match bits w 27 26 with
  | 0 => if bits w 25 20 ≠ 0 then enc else .inl ⟨i, some (bits w 19 10), 0, d⟩
  | 1 => .inl ⟨i, none, (BitVec.ofNat 16 (bits w 25 10)).signExtend 32, d⟩
  | 2 => match l with
    | some v => if bits w 25 10 ≠ 0 then enc else .inl ⟨i, none, v, d⟩
    | none => enc
  | _ => enc

/-- The value of a source port other than a system port (R260, R264, R273, R282, R283). -/
def State.readPort (s : State) (c : Cpu) (p : Nat) : Word :=
  let g := s.eng c
  if p = 0 then 0
  else if p ≤ 7 then flagWord (g.guards.testBit p)
  else if p = 8 then (match g.rep with | some q => BitVec.ofNat 32 q.k | none => 0)
  else if p = 0x10 then nth s.pav.slotRec 0 0
  else if p = 0x11 then (match s.pgl.run with | some r => BitVec.ofNat 32 r.entry | none => 0)
  else if p = 0x12 then (match s.pgl.run with | some r => BitVec.ofNat 32 r.charged | none => 0)
  else if p = 0x1C then BitVec.ofNat 32 g.depth
  else if 0x80 ≤ p ∧ p < 0x100 then g.reg (p - 0x80)
  else smGet (fun _ => 0) g.res p

/-- A move to a port that is no trigger and no system port (R255, R260). -/
def State.writePort (s : State) (c : Cpu) (p : Nat) (v : Word) : State :=
  let g := s.eng c
  if p = 0 then s
  else if p ≤ 7 then
    s.setEng c { g with guards := (if g.guards.testBit p then g.guards - 2 ^ p else g.guards) + (if v = 0 then 0 else 2 ^ p) }
  else if 0x80 ≤ p ∧ p < 0x100 then s.setEng c (g.setReg (p - 0x80) v)
  else s.setEng c { g with opnd := smSet (fun _ => 0) g.opnd p v }

/-- An operand latch. -/
def State.opnd (s : State) (c : Cpu) (p : Nat) : Word := smGet (fun _ => 0) (s.eng c).opnd p

/-! Triggers -/

/-- Results that land in ports after a latency (R256). -/
def State.fly (s : State) (c : Cpu) (lat : Nat) (ws : List (Nat × Word)) (poison : Option PoisonAt) : State :=
  let g := s.eng c
  s.setEng c { g with flight := g.flight ++ [Landing.mk (g.cycle + lat - 1) ws poison] }

def State.aluTrig (s : State) (c : Cpu) (u op : Nat) (t : Word) : State :=
  let b := aluPort u
  s.fly c 1 [(b + 0x1E, aluOp op (s.opnd c b) t), (b + 0x1F, 0)] none

/-- Accumulator of a MAC unit, and its sticky flag. -/
def Engine.accOf (g : Engine) (u : Nat) : Int := ((g.acc.find? (fun (e : Nat × Int) => e.1 = u)).map (·.2)).getD 0

def State.macTrig (s : State) (c : Cpu) (u op : Nat) (t : Word) : State :=
  let b := macPort u
  let g := s.eng c
  let (a, st, r, sat) := macOp op (g.accOf u) (g.sticky.contains u) (s.opnd c b) t
  let rest := g.sticky.filter (· ≠ u)
  let s := s.setEng c { g with acc := (u, a) :: g.acc.filter (fun (e : Nat × Int) => e.1 ≠ u), sticky := if st then u :: rest else rest }
  s.fly c 3 [(b + 0x1E, r), (b + 0x1F, BitVec.ofNat 32 (b2n st + b2n sat * 2))] none

def State.fmaTrig (s : State) (c : Cpu) (u op : Nat) (t : Word) : State :=
  let b := fmaPort u
  let (r, f) := fmaOp op (s.opnd c b) (s.opnd c (b + 1)) t
  s.fly c 4 [(b + 0x1E, r), (b + 0x1F, BitVec.ofNat 32 f)] none

def State.corTrig (s : State) (c : Cpu) (u op : Nat) (t : Word) : State :=
  let b := corPort u
  let (r, r2, f) := corOp op (s.opnd c b) (s.opnd c (b + 1)) t
  s.fly c 12 [(b + 0x1E, r), (b + 0x1D, r2), (b + 0x1F, BitVec.ofNat 32 f)] none

def State.divTrig (s : State) (c : Cpu) (u op : Nat) (t : Word) : State :=
  let b := divPort u
  let (r, r2, f) := divOp op (s.opnd c b) t
  s.fly c 18 [(b + 0x1E, r), (b + 0x1D, r2), (b + 0x1F, BitVec.ofNat 32 f)] none

/-- bnd: its result, or the BOUNDS trap (R285). -/
def State.bndTrig (s : State) (c : Cpu) (slot op : Nat) (t : Word) : List TrapAt × State :=
  match bndOp op (s.opnd c 0x30) (s.opnd c 0x31) t with
  | some (r, f) => ([], s.fly c 1 [(0x3E, r), (0x3F, BitVec.ofNat 32 f)] none)
  | none => ([⟨5, slot, t, none⟩], s)

/-- What win0 or win1 answers to an operation (R299). -/
def State.winRes (s : State) (e op : Nat) (o d t : Word) : WinRes × State :=
  match op with
  | 0x02 => s.winLw o t
  | 0x03 => s.winLc e o t
  | 0x04 => s.winLt e o t
  | 0x05 => s.winLg o t
  | 0x06 => s.winLo o t
  | 0x07 => s.winCrv o t
  | 0x08 => s.winFsm o t
  | 0x09 => (s.winSc e o d t, s)
  | 0x0A => (s.winSo e o t, s)
  | 0x0B => (s.winSs e o d t, s)
  | 0x0C => (s.winSq e o t, s)
  | 0x0D => (s.winSa e o d t, s)
  | _ => (State.winSe o t, s)

/-- Latencies of the loads (R272). -/
def winLat (op : Nat) : Nat :=
  if op = 2 then 4 else if op = 7 then 6 else if op = 8 then 5 else 3

/-- win0 and win1: a load in flight, a store held to the end of the cycle, or the ADDR trap (R272).
(DEDUCED, log entry 86.) -/
def State.winTrig (s : State) (u slot op : Nat) (t : Word) : List TrapAt × State :=
  let b := lsPort u
  let e := (s.pgl.run.map (·.entry)).getD 0
  match s.winRes e op (s.opnd .pav b) (s.opnd .pav (b + 1)) t with
  | (.load r r2 p, s) =>
    ([], s.fly .pav (winLat op) ((match r2 with | some x => [(b + 0x1D, x)] | none => []) ++ [(b + 0x1E, r), (b + 0x1F, 0)]) p)
  | (.store x, s) => ([], { s with engP.defer := s.engP.defer ++ [(u, x)] })
  | (.addr tv, s) => ([⟨0xA, slot, tv, none⟩], s)

/-- The data stack of a core: the word at depth i, as region and octet offset (R282). -/
def State.dsPlace (s : State) (c : Cpu) (i : Nat) : Option (Nat × Nat) :=
  match c with
  | .pav => some (rgCtx, userOfs (s.engP.dsBase + i))
  | .core =>
    let a := (s.engC.dsb.toNat / 4 * 4 + 4 * i) % 2 ^ 32
    if inCsram a 4 then some (rgCsram, a - 0x20000000) else none
/-- The stack is at its limit. -/
def State.dsFull (s : State) (c : Cpu) : Bool :=
  match c with
  | .pav => decide (s.engP.dsLimit ≤ s.engP.dsBase + s.engP.depth)
  | .core => decide (s.engC.dsl.toNat / 4 * 4 < s.engC.dsb.toNat / 4 * 4 + 4 * s.engC.depth + 4)

/-- A stack read on its way to stk.r; the value of a poisoned one is open (R417).
(DEDUCED, log entry 89.) -/
def State.dsLoad (s : State) (c : Cpu) (i : Nat) : State :=
  match s.dsPlace c i with
  | none => s.fly c 2 [(0x1B, 0)] none
  | some (rg, a) => match s.readWord rg a with
    | (w, false, s) => s.fly c 2 [(0x1B, w)] none
    | (_, true, s) => s.drawWord.2.fly c 2 [(0x1B, s.drawWord.1)] (some (s.poisonIn rg a 4))

/-- stk (R282). -/
def State.stkTrig (s : State) (c : Cpu) (slot op : Nat) (t : Word) : List TrapAt × State :=
  let g := s.eng c
  match op with
  | 0x18 =>
    if s.dsFull c then ([⟨8, slot, t, none⟩], s)
    else
      let s := match c, s.dsPlace c g.depth with
        | .pav, _ => { s with engP.defer := s.engP.defer ++ [(2, StoreOp.ctx (g.dsBase + g.depth) t)] }
        | .core, some (rg, a) => s.writeWord rg a t
        | .core, none => s
      ([], s.setEng c { s.eng c with depth := g.depth + 1 })
  | 0x19 =>
    if g.depth = 0 then ([⟨9, slot, t, none⟩], s)
    else ([], (s.setEng c { g with depth := g.depth - 1 }).dsLoad c (g.depth - 1))
  | _ =>
    if g.depth ≤ t.toNat then ([⟨9, slot, t, none⟩], s) else ([], s.dsLoad c (g.depth - 1 - t.toNat))

/-- Entries of the return stack (R281). -/
def rsDepth (c : Cpu) : Nat := if c = .pav then 16 else 32
/-- Octets, or bundle indices, from one bundle to the next. -/
def bundleStep (c : Cpu) : Nat := if c = .pav then 1 else 8

/-- A transfer to a target, after two delay bundles (R278). -/
def State.transfer (s : State) (c : Cpu) (target : Nat) (eret : Bool) : State :=
  s.setEng c { s.eng c with xfer := some (Xfer.mk target 3 eret) }

/-- The control unit but for ctl.end, ctl.eret and ctl.wfi (R278, R279, R281); `pend` where a transfer was pending at issue. -/
def State.ctlTrig (s : State) (c : Cpu) (pend : Bool) (slot op : Nat) (t : Word) : List TrapAt × State :=
  let g := s.eng c
  let rel : Nat := (g.pc + bundleStep c * t.toNat) % 2 ^ 32
  let ret := (g.pc + 3 * bundleStep c) % 2 ^ 32
  let deep : Bool := decide (rsDepth c ≤ g.rs.length)
  let push (s : State) : State := s.setEng c { s.eng c with rs := ret :: g.rs }
  if isTransfer op && pend then ([⟨1, slot, t, none⟩], s)
  else match op with
  | 0x20 => ([], s.transfer c t.toNat false)
  | 0x21 => ([], s.transfer c rel false)
  | 0x22 => if deep then ([⟨6, slot, t, none⟩], s) else ([], (push s).transfer c t.toNat false)
  | 0x23 => if deep then ([⟨6, slot, t, none⟩], s) else ([], (push s).transfer c rel false)
  | 0x24 => match g.rs with
    | [] => ([⟨7, slot, t, none⟩], s)
    | a :: rs => ([], (s.setEng c { g with rs := rs }).transfer c a false)
  | _ => ([⟨0xE, slot, t, none⟩], s.setEng c { g with xfer := none })

/-- rep.t and rep.tn (R283). -/
def State.repTrig (s : State) (c : Cpu) (pend : Bool) (slot op : Nat) (t : Word) : List TrapAt × State :=
  let g := s.eng c
  let soft := decide (op = 9)
  if (if soft then 65535 else 256) < t.toNat ∨ pend = true then ([⟨4, slot, t, none⟩], s)
  else ([], s.setEng c { g with nextRep := some (Repeat.mk t.toNat 0 soft) })

/-- A trigger of a unit both targets have. -/
def State.unitTrig (s : State) (c : Cpu) (pend : Bool) (slot p : Nat) (t : Word) : List TrapAt × State :=
  let off := p % 32
  if p = 9 ∨ p = 0xA then s.repTrig c pend slot p t
  else if 0x18 ≤ p ∧ p ≤ 0x1A then s.stkTrig c slot p t
  else if 0x20 ≤ p ∧ p ≤ 0x28 then s.ctlTrig c pend slot p t
  else if 0x32 ≤ p ∧ p ≤ 0x34 then s.bndTrig c slot (p - 0x30) t
  else if 0x100 ≤ p ∧ p < 0x180 then ([], s.aluTrig c ((p - 0x100) / 32) off t)
  else if 0x180 ≤ p ∧ p < 0x280 then ([], s.macTrig c ((p - 0x180) / 32) off t)
  else if 0x280 ≤ p ∧ p < 0x300 then ([], s.fmaTrig c ((p - 0x280) / 32) off t)
  else if 0x300 ≤ p ∧ p < 0x340 then ([], s.corTrig c ((p - 0x300) / 32) off t)
  else if 0x340 ≤ p ∧ p < 0x380 then ([], s.divTrig c ((p - 0x340) / 32) off t)
  else ([], s)

/-! The checks of a bundle -/

/-- PORT of a move (R266).
(DEDUCED, log entry 86.) -/
def portTrap (c : Cpu) (m : Move) : List TrapAt :=
  (match m.src with | some p => if srcOk c p then [] else [⟨2, m.slot, BitVec.ofNat 32 p, none⟩] | none => []) ++
    (if dstOk c m.dst then [] else [⟨2, m.slot, BitVec.ofNat 32 m.dst, none⟩])

/-- A register of file f that a list of ports names, once each. -/
def fileRegs (f : Nat) (ps : List Nat) : List Nat := (ps.filter (fun p => decide (p / 32 = 4 + f) && decide (0x80 ≤ p))).eraseDups

/-- A move conflicts with those before it in the bundle (R262): one destination, triggers of one unit, or, on Ndear-P, too many
registers of one file. -/
def conflicts (c : Cpu) (before : List Move) (m : Move) : Bool :=
  (decide (m.dst ≠ 0) && before.any (fun b => b.dst = m.dst)) ||
    (match triggerUnit m.dst with
      | some u => before.any (fun b => triggerUnit b.dst = some u)
      | none => false) ||
    (c == .pav && (List.range 4).any (fun f =>
      let rs := fileRegs f ((before ++ [m]).filterMap (·.src))
      let ws := fileRegs f ((before ++ [m]).map (·.dst))
      decide (8 < rs.length) || decide (4 < ws.length)))

/-- CONFLICT of a bundle: at the first move that conflicts.
(DEDUCED, log entries 84, 86.) -/
def conflictTrap (c : Cpu) : List Move → List Move → List TrapAt
  | _, [] => []
  | before, m :: ms => if conflicts c before m then [⟨3, m.slot, BitVec.ofNat 32 m.dst, none⟩] else conflictTrap c (before ++ [m]) ms

/-- REP of a bundle that is repeated, or that holds a transfer and a repeat move (R283). -/
def repTrap (repeated : Bool) (ms : List Move) : List TrapAt :=
  let bad := if repeated then ms.find? (fun m => isCtlRep m.dst)
    else if ms.any (fun m => isTransfer m.dst) then ms.find? (fun m => decide (m.dst = 9) || decide (m.dst = 0xA)) else none
  match bad with
  | some m => [⟨4, m.slot, BitVec.ofNat 32 m.dst, none⟩]
  | none => []

/-- After traps by code: BOUNDS, POISON, BREAK. The others are issue traps. -/
def afterCode (n : Nat) : Bool := decide (n = 5) || decide (n = 0xB) || decide (n = 0xE)

/-- The trap recorded of those of one cycle: the lowest code, with MULTI where there are several (R287).
(DEDUCED, log entries 85, 194.) -/
def worstTrap : List TrapAt → Option (TrapAt × Bool)
  | [] => none
  | t :: ts =>
    some (ts.foldl (fun (a : TrapAt) b => if b.code < a.code then b else a) t, !ts.isEmpty)

/-! The end of a cycle -/

/-- Result ports are written. -/
def Engine.setRes (g : Engine) (ws : List (Nat × Word)) : Engine :=
  { g with res := ws.foldl (fun m w => smSet (fun _ => 0) m w.1 w.2) g.res }

/-- POISON of a load that lands poisoned data (R272). -/
def poisonTrap (p : Option PoisonAt) : List TrapAt :=
  (p.map (fun p => TrapAt.mk 0xB 0 (BitVec.ofNat 32 (32 * p.addr)) (some p))).toList

/-- The unit whose ports a result goes to. -/
def Landing.unit (l : Landing) : Nat := (l.writes.map (·.1)).headD 0 / 32

/-- Of the results of one unit, in the order of their triggers, the last one (R256). -/
def lastLandings : List Landing → List Landing
  | [] => []
  | l :: ls => if ls.any (fun x => x.unit = l.unit) then lastLandings ls else l :: lastLandings ls

/-- Results due land in their ports, of one unit only the last triggered (R256); a poisoned load raises POISON (R272).
(DEDUCED, log entry 82.) -/
def Engine.land (g : Engine) : Engine × List TrapAt :=
  let now := g.flight.filter (fun l => decide (l.due ≤ g.cycle))
  ({ g.setRes ((lastLandings now).flatMap (·.writes)) with flight := g.flight.filter (fun l => decide (g.cycle < l.due)) },
   now.flatMap (fun l => poisonTrap l.poison))

/-- The engine moves on by one issue cycle: repeat, transfer and bundle address (R278, R283). -/
def Engine.advance (g : Engine) (c : Cpu) : Engine :=
  let next := (g.pc + bundleStep c) % 2 ^ 32
  let (pc, rep) : Nat × Option Repeat := match g.rep with
    | some q => if q.k + 1 < q.n then (g.pc, some { q with k := q.k + 1 }) else (next, none)
    | none => (next, none)
  let g := { g with cycle := g.cycle + 1, pc := pc, rep := match g.nextRep with | some q => some q | none => rep, nextRep := none }
  match g.xfer with
  | some x => { g with xfer := some { x with left := x.left - 1 } }
  | none => g

/-- A transfer whose delay bundles have issued is taken (R278); ctl.eret is the control core's.
(DEDUCED, log entry 93.) -/
def Engine.takeXfer (g : Engine) : Engine :=
  match g.xfer with
  | some x => if x.left = 0 && !x.eret then { g with pc := x.target, xfer := none } else g
  | none => g

/-- The stores of the cycle take effect, win0 before win1 (R272). -/
def State.applyDefers (s : State) : State :=
  let d := s.engP.defer
  let s := { s with engP.defer := [] }
  let s := (d.filter (fun x => decide (x.1 ≠ 1))).foldl (fun s x => s.applyStore x.2) s
  (d.filter (fun x => decide (x.1 = 1))).foldl (fun s x => s.applyStore x.2) s

/-- An issue cycle of Ndear-P ends: stores, landings, the charge, then the run's end by a trap or by ctl.end (R229, R244,
R254, R256, R272, R280, R288). -/
def State.endCycleP (s : State) (ended : Bool) (traps : List TrapAt) : State :=
  match s.pgl.run with
  | none => s
  | some _ =>
    let pc := s.engP.pc
    let s := s.applyDefers
    let (g, ps) := s.engP.land
    let s := { s with engP := g.advance .pav }
    match s.pgl.run with
    | none => s
    | some r =>
      let r := { r with charged := r.charged + 1 }
      let s := { s with pgl.run := some r }
      match worstTrap (traps ++ ps) with
      | some (t, multi) =>
        s.trapRun r { code := t.code, multi := multi, preempt := false, lost := false, entry := r.entry, bundle := pc % 2 ^ 20
                      mslot := t.slot, slot := s.slotCnt, tval := t.tval }
          t.poison (decide (r.budget ≤ r.charged))
      | none => if ended then s.completeRun r else s

/-! A bundle of Ndear-P -/

/-- The moves of a bundle whose guards are true, and the ENC traps among them (R259 to R261). -/
def Engine.performed (g : Engine) (ws : List Word) : List Move × List TrapAt :=
  (((bundleSlots 0 ws).filter (fun x => g.guardTrue x.2.1)).map moveOf).foldl
    (fun (a : List Move × List TrapAt) x => match x with
      | .inl m => (a.1 ++ [m], a.2)
      | .inr t => (a.1, a.2 ++ [t])) ([], [])

/-- A trigger on Ndear-P; ctl.end ends the run with the cycle. -/
def State.trigP (s : State) (pend : Bool) (slot p : Nat) (t : Word) : List TrapAt × State :=
  if 0x380 ≤ p then s.winTrig ((p - 0x380) / 32) slot (p % 32) t
  else if p = 0x25 then ([], s)
  else s.unitTrig .pav pend slot p t

/-- The triggers of a bundle in slot order, with the traps they raise. `gather` where the bundle has failed a check of its form: then
only traps are sought, and no trigger is seen by another but for the counts of stores (R263, R299). -/
def runTriggers (trig : State → Nat → Nat → Word → List TrapAt × State) (gather : Bool) (vs : List (Move × Word)) (s : State) :
    List TrapAt × State :=
  (vs.filter (fun v => (triggerUnit v.1.dst).isSome)).foldl
    (fun (a : List TrapAt × State) v => match trig a.2 v.1.slot v.1.dst v.2 with
      | (ts, s) => (a.1 ++ ts, if gather && decide (v.1.dst < 0x380) then a.2 else s)) ([], s)

/-- Moves with their values, operand and register ports first, then the triggers in slot order (R255). -/
def State.performP (s : State) (gather : Bool) (vs : List (Move × Word)) : List TrapAt × State :=
  let pend := s.engP.xfer.isSome
  let s := (vs.filter (fun v => (triggerUnit v.1.dst).isNone)).foldl (fun s v => s.writePort .pav v.1.dst v.2) s
  runTriggers (fun s => s.trigP pend) gather vs s

/-- The words of the bundle at address b of the code region, or the trap of a bundle that cannot be fetched or is poisoned
(R258, R278, R294, R417).
(DEDUCED, log entry 90.) -/
def State.fetchP (s : State) (b : Nat) : (List Word ⊕ TrapAt) × State :=
  if 0x8000 ≤ b then (.inr ⟨0xC, 0, BitVec.ofNat 32 b, none⟩, s)
  else match s.readMem rgTable (0x400000 + 64 * b) 64 with
    | (bs, p, s) =>
      if p then (.inr ⟨0xB, 0, BitVec.ofNat 32 b, some (s.poisonIn rgTable (0x400000 + 64 * b) 64)⟩, s)
      else (.inl ((List.range 16).map (fun i => leWord (bs.drop (4 * i)))), s)

/-- A bundle issues on Ndear-P, where the run may issue one (R243, R254, R263).
(DEDUCED, log entries 91, 194.) -/
def State.issueP (s : State) : State :=
  match s.pgl.run with
  | none => s
  | some r =>
    let s := { s with engP := s.engP.takeXfer }
    if s.budgetSpent r then s
    else if (match s.engP.rep with | some q => decide (q.n = 0) | none => false) then s.endCycleP false []
    else match s.fetchP s.engP.pc with
      | (.inr t, s) => s.endCycleP false [t]
      | (.inl ws, s) =>
        let (ms, enc) := s.engP.performed ws
        let checks := enc ++ ms.flatMap (portTrap .pav) ++ conflictTrap .pav [] ms ++ repTrap s.engP.rep.isSome ms
        let ports := ms.filter (fun m => (portTrap .pav m).isEmpty)
        let vs := ports.map (fun m => (m, match m.src with | some p => s.readPort .pav p | none => m.imm))
        let (ts, s') := s.performP (!checks.isEmpty) vs
        let issue := checks ++ ts.filter (fun t => !afterCode t.code)
        if issue.isEmpty then s'.endCycleP (ms.any (fun m => decide (m.dst = 0x25))) (ts.filter (fun t => afterCode t.code))
        else s.endCycleP false issue

end Sys2Proof.Machine
end

