-- ==== Sys2Proof/Machine/Colonnade.lean ====
section
/-!
DEFINITION. The Colonnade: certificates, the enable check, pair states, attach and state transfer, input agreement, time and
slot records, roles and takeover, keys in a pair (R363 to R391).
-/
namespace Sys2Proof.Machine

/-! State, roles, log -/

/-- PAIR_STATE as STA encodes it (R389). -/
def PairState.code : PairState → Nat
  | .off => 0 | .wait => 1 | .attachId => 2 | .attachXfer => 3 | .inStep => 4 | .solo => 5 | .withdrawn => 6

/-- The pair state and DONOR; a change raises the interrupt and vector 5 (R389, R504, R508), and the PTP ports follow whether
outputs are withheld (R369). -/
def State.setPair (s : State) (st : PairState) (donor : Bool) : State :=
  let changed := s.cln.st != st
  let s := { s with cln.st := st, cln.donor := donor }
  let s := (s.setFld pCln Reg.Hdr.STA 10 8 st.code).setFlag pCln Reg.Hdr.STA 11 donor
  if changed then ((s.irq 9).emit (.msix 5)).bmca else s

/-- ROLE_STA: roles held and roles the peer reported, [0] TIME, [1] LEAD, [2] PTP, [3] KEY, [4] CARD (R381, R390). -/
def State.setRoles (s : State) (own peer : Nat) : State :=
  (s.setFld pCln Reg.Cln.ROLE_STA 4 0 own).setFld pCln Reg.Cln.ROLE_STA 12 8 peer
def State.ownRoles (s : State) : Nat := s.fld pCln Reg.Cln.ROLE_STA 4 0
def State.hasRole (s : State) (i : Nat) : Bool := s.flag pCln Reg.Cln.ROLE_STA i

/-- An entry of TAKE_LOG (R390). -/
def State.takeLog (s : State) (event us : Nat) : State :=
  let full := decide (16 ≤ s.cln.takes.length)
  { s with cln.takes := (if full then s.cln.takes.drop 1 else s.cln.takes) ++ [TakeEntry.mk event full us (s.slotCnt % 65536)] }

/-- TAKE_LOG read: the oldest entry leaves (R390). -/
def State.takeRead (s : State) : Word × State :=
  match s.cln.takes with
  | [] => (0, s)
  | x :: xs =>
    (BitVec.ofNat 32 (x.event + b2n x.lost * 8 + x.us % 4096 * 16 + x.slot * 65536), { s with cln.takes := xs })

/-! Certificates -/

/-- Fields of an identity certificate (R368). -/
def certDevice (c : List Byte) : List Byte := (c.drop 8).take 16
def certEstate (c : List Byte) : Nat := leNat ((c.drop 0x18).take 2)
def certTwin (c : List Byte) : Nat := ((c.drop 0x1A).headD 0).toNat
def certQid (c : List Byte) : List Byte := (c.drop 0x20).take 64
def certSigner (c : List Byte) : List Byte := (c.drop 0x60).take 64

/-- The checks of R368 that hold of any certificate: MAGIC and VER, the owner key hash of SIGNER, and SIG. -/
def State.certSigned (s : State) (c : List Byte) : Bool :=
  decide (c.length = 224) && c.take 8 == ascii "BNLI" ++ [1, 0, 0, 0] && sha256 (certSigner c) == s.ownerHash &&
    ecdsaVerify (certSigner c) (sha256 (c.take 0xA0)) (c.drop 0xA0)

/-- The certificate at CERT_ADDR, an address of the MRAM; empty where the address is none or a word is poisoned. -/
def State.ownCert (s : State) : List Byte × State :=
  let a := (s.reg pCln Reg.Cln.CERT_ADDR).toNat
  if inMram a 224 then match s.mramData (a - 0x10000000) 224 with
    | (bs, p, s) => if p then ([], s.poisonRead (mramRegion (a - 0x10000000)) (a - 0x10000000) 224 false) else (bs, s)
  else ([], s)

/-- The check of the own certificate; ESTATE follows it (R368, R388).
(DEDUCED, log entry 113.) -/
def State.checkCert (s : State) : (Bool × List Byte) × State :=
  let (c, s) := s.ownCert
  let ok := s.certSigned c && certDevice c == s.deviceId && certTwin c == b2n s.twinB
  ((ok, c), s.setReg pCln Reg.Cln.ESTATE (if ok then BitVec.ofNat 32 (certEstate c + 65536) else 0))

/-- CERT_ADDR written: the verification is asked of the Arbour (R388). -/
def State.certAddr (s : State) (v : Word) : State := (s.setReg pCln Reg.Cln.CERT_ADDR v).arbRequest .certCheck

/-- The verification that the Arbour works on ends (R388).
(DEDUCED, log entry 113.) -/
def State.certDone (s : State) : State :=
  match s.arb.cur with
  | some (.req .certCheck) => if s.arb.phase = .timed then s.checkCert.2.arbNext else s
  | _ => s

/-! Sides -/

/-- The lanes of a side (R364). -/
def sideLanes (side : Nat) : List Nat := (List.range 4).map (fun i => 4 * side + i)

/-- A side's links and heartbeat appear or go (R390, R391). -/
def State.sideUp (s : State) (side : Nat) (up : Bool) : State :=
  let s := (s.setFlag pCln Reg.Cln.SIDE_STA side up).setFlag pCln Reg.Cln.SIDE_STA (side + 2) up
  (sideLanes side).foldl (fun s l =>
    if up then s.setFld pCln (Reg.Cln.CL_STA l) 3 0 15 else s.setFlag pCln (Reg.Cln.CL_STA l) 3 false) s

/-- A side carries the peer's heartbeat. -/
def State.sideHb (s : State) (side : Nat) : Bool := s.flag pCln Reg.Cln.SIDE_STA (side + 2)
def State.anyHb (s : State) : Bool := s.sideHb 0 || s.sideHb 1

/-- A side can come up: its reference is present and none of its lanes is in loopback (R364, R391). -/
def State.sideAble (s : State) (side : Nat) : Bool :=
  !s.pwr.refBLost && (sideLanes side).all (fun l => decide (s.fld pCln (Reg.Cln.CL_LPBK l) 1 0 = 0))

/-! Enabling -/

/-- The sum of R367 cause 3. -/
def State.agreeSum (s : State) : Nat :=
  (List.range 16).foldl (fun a n =>
    a + s.fld pPgl (Reg.Pgl.ICLS n) 15 0 * (s.fld pCln (Reg.Cln.FWD_LEN n) 13 0 + 48)) 0

/-- The largest sum of R367 cause 4 over the residues. -/
def State.dirtyPeak (s : State) : Nat :=
  (List.range 64).foldl (fun m r => max m (s.schEntries.foldl (fun a e =>
    if schDue (s.sch e 0) r then a + 64 * (bits (s.chn e 0) 31 16 + 9 + (bits (s.chn e 2) 30 16 + 7) / 8) else a) 0)) 0

/-- The sum of R367 cause 5, in Mbit/s. -/
def State.transitSum (s : State) : Nat :=
  (s.pairsOn.filter (fun n => s.pairHsr n && bitAt (s.pairCfg n) 18)).foldl (fun a n =>
    (s.pairPorts n).foldl (fun a p => a + s.planRate p) a) 0

/-- CLN CTL.EN written 1 (R367): with PAIR_EN set the conditions are tested in order, and WAIT begins or the enable is refused.
A page that is fenced is not enabled (R429).
(DEDUCED, log entry 113.) -/
def State.clnEnable (s : State) (by_ : Port) : State :=
  if s.fencedPage pCln then s.refuseWrite by_ pCln Reg.Hdr.CTL
  else if s.enabled pCln || !s.flag pCln Reg.Cln.CLN_CFG 0 then s
  else
    let ((ok, c), s) := s.checkCert
    let certOk := ok && certQid c == s.octetRegs pArb (Reg.Arb.ID_PUB 0) 16 && s.cln.latchMac.isSome
    let s := s.setFld pCln Reg.Cln.CAP_FWD 23 0 (min s.agreeSum 0xFFFFFF)
    let s := s.setFld pCln Reg.Cln.CAP_DIRTY 23 0 (min s.dirtyPeak 0xFFFFFF)
    let cause := if !certOk then 1 else if !s.flag pPgl Reg.Hdr.STA 9 then 2
      else if 5 * s.lMin < s.agreeSum then 3 else if 2 * s.lMin < s.dirtyPeak then 4
      else if 20000 < s.transitSum then 5 else 0
    let s := s.setReg pCln Reg.Cln.CLN_ERR (BitVec.ofNat 32 cause)
    if cause ≠ 0 then s.fault pCln 3
    else ({ (s.setFlag pCln Reg.Hdr.CTL 0 true) with cln.detached := false }).setPair .wait false

/-! Keys in a pair -/

/-- Key commands are replicated (R385). -/
def State.pairKeys (s : State) : Bool := s.cln.st == .inStep && s.cln.session

/-- The state key of the session. -/
def State.stateKey (s : State) : List Byte := nth s.cln.keys 3 []

/-- A key position as it is wrapped: the plaintext of R323. -/
def keyPlain (slot : Nat) (k : KeyPos) : List Byte :=
  [BitVec.ofNat 8 k.typ, BitVec.ofNat 8 k.usage] ++ natOctets 2 slot ++ natOctets 4 k.keyId ++ natOctets 8 k.notAfter ++ k.key

/-- A position leaves for the peer, wrapped under the state key (R385). -/
def State.sendPosition (s : State) (slot : Nat) (nxt : Bool) : State :=
  match (if nxt then (s.slot slot).nxt else (s.slot slot).cur) with
  | some k => s.emit (.twinMsg msgKey (2 :: natOctets 2 slot ++ [BitVec.ofNat 8 (b2n nxt)] ++ kwpWrap s.stateKey (keyPlain slot k)))
  | none => s
/-- The swap instant of a slot leaves for the peer. -/
def State.sendSwapAt (s : State) (slot : Nat) : State :=
  match (s.slot slot).swapAt with
  | some t => s.emit (.twinMsg msgKey (3 :: natOctets 2 slot ++ natOctets 6 t))
  | none => s

/-- BUSY of KEY_CMD. -/
def State.keyBusy (s : State) (b : Bool) : State := (s.setFlag pOrg Reg.Org.KEY_CMD 31 b).setFlag pOrg Reg.Hdr.STA 9 b

/-- A command of this twin runs here: if it ends OK, what it did is sent to the peer and it waits for the peer's
acknowledgement with KEY_RES as it was (R385).
(DEDUCED, log entry 118.) -/
def State.keyPair (s : State) (op slot : Nat) (nxt both : Bool) (f : State → State) : State :=
  let r := s.reg pOrg Reg.Org.KEY_RES
  let s := f s
  if s.org.keyCmd.isSome || s.reg pOrg Reg.Org.KEY_RES ≠ BitVec.ofNat 32 keyOk then s
  else
    let s := if op = 1 then s.sendPosition slot nxt else if op = 2 then s.sendSwapAt slot
      else s.emit (.twinMsg msgKey (4 :: natOctets 2 slot ++ [BitVec.ofNat 8 (b2n nxt), BitVec.ofNat 8 (b2n both)]))
    ({ s with cln.keyWait := some op }.setReg pOrg Reg.Org.KEY_RES r).keyBusy true

/-- KEY_CMD accepted. In a pair the KEY holder runs LOAD, SWAP_AT and ERASE in the order it receives them, and the other twin
asks it for its turn (R385).
(DEDUCED, log entry 105.) -/
def State.keyCmdWrite (s : State) (v : Word) : State :=
  let op := bits v 2 0
  let slot := bits v 28 16
  if s.pairKeys && decide (1 ≤ op) && decide (op ≤ 3) then
    if s.hasRole 3 then s.keyPair op slot (bitAt v 3) (bitAt v 4) (fun s => s.keyCommand v)
    else
      let s := { s with org.keyCmd := some ⟨op, b2n (bitAt v 3), bitAt v 4, slot, [], [], []⟩, cln.keyWait := some op }
      (s.emit (.twinMsg msgKey (0 :: wordOctets v))).keyBusy true
  else s.keyCommand v

/-- The command that waits for its turn runs. -/
def State.keyTurn (s : State) (k : KeyCmd) : State :=
  let s := ({ s with org.keyCmd := none, cln.keyWait := none }).keyBusy false
  let v := BitVec.ofNat 32 (k.op + k.pos * 8 + b2n k.both * 16 + k.slot * 65536)
  if s.pairKeys then s.keyPair k.op k.slot (k.pos == 1) k.both (fun s => s.keyCommand v) else s.keyCommand v

/-- The Arbour's part of a transport LOAD ends, in a pair or alone (R324, R385).
(DEDUCED, log entry 105.) -/
def State.keyTransport (s : State) : State :=
  match s.org.keyCmd, s.pairKeys with
  | some k, true => s.keyPair 1 k.slot (k.pos == 1) false (fun s => s.transportDone)
  | _, _ => s.transportDone

/-- The session is over: a command that waits for the peer ends here alone (R383).
(DEDUCED, log entry 118.) -/
def State.keyLocal (s : State) : State :=
  let s := { s with cln.session := false }
  match s.cln.keyWait, s.org.keyCmd with
  | some _, some k => s.keyTurn k
  | some op, none => ({ s with cln.keyWait := none }).keyEnd op keyOk
  | none, _ => s

/-- A wrapped position goes into this twin's Orangery (R372, R385). -/
def State.takePosition (s : State) (slot : Nat) (nxt : Bool) (wrapped : List Byte) : State :=
  match (kwpUnwrap s.stateKey wrapped).bind (fun p => blobPos s p nxt slot) with
  | none => s
  | some k =>
    let ks := s.slot slot
    if nxt then s.setSlot slot { ks with nxt := some k, retired := false, retireAt := none }
    else s.setSlot slot { ks with cur := some k }

/-- A key-replication message (R385).
(DEDUCED, log entry 118.) -/
def State.keyMessage (s : State) (m : KeyMsg) : State :=
  let ack (s : State) : State := s.emit (.twinMsg msgKey [5])
  if !s.pairKeys then s
  else match m with
  | .request _ _ _ _ _ => if s.hasRole 3 then s.emit (.twinMsg msgKey [1]) else s
  | .grant => match s.cln.keyWait, s.org.keyCmd with
    | some _, some k => s.keyTurn k
    | _, _ => s
  | .position slot nxt w => ack (s.takePosition slot nxt w)
  | .swapAt slot t => ack (s.setSlot slot { s.slot slot with swapAt := some t })
  | .erase slot nxt both =>
    let k := s.slot slot
    let k := if both || !nxt then { k with cur := none } else k
    let k := if both || nxt then { k with nxt := none, retired := false, retireAt := none } else k
    ack (s.setSlot slot k)
  | .ack => match s.cln.keyWait, s.org.keyCmd with
    | some op, none => ({ s with cln.keyWait := none }).keyEnd op keyOk
    | _, _ => s

/-- KEYSYNC on the KEY holder: every position it holds goes to the peer (R385).
(DEDUCED, log entry 118.) -/
def State.keySync (s : State) : State :=
  if s.pairKeys && s.hasRole 3 then
    s.usedSlots.foldl (fun s n => ((s.sendPosition n false).sendPosition n true).sendSwapAt n) s
  else s

/-! Sessions -/

/-- The session ends: its keys go, and with them everything exchanged under it (R370). -/
def State.clearSession (s : State) : State :=
  { s with cln.keys := [], cln.session := false, cln.attach := none, cln.records := [], cln.peerRecs := [], cln.unitVer := []
           cln.heads0 := [], cln.bulkDone := false, cln.leaving := false, cln.handing := false, cln.adopt := none
           cln.peerRec := none, cln.seqSnap := [], cln.takeSeq := [] }

/-- An attach ends before IN_STEP: what it asked for is dropped, and each twin returns where R369 says. -/
def State.attachEnd (s : State) (joiner : PairState) : State :=
  let donor := s.cln.donor
  let s := { s.clearSession with arb.waiting := s.arb.waiting.filter (fun r => r != ArbReq.attach)
                                 arb.eph := setNth s.arb.eph 0 none
                                 ftn.waiting := s.ftn.waiting.filter (fun r => r != FtnReq.attach) }
  let s := match s.arb.cur with
    | some (.req .attach) => s.arbNext
    | _ => s.arbStatus
  if donor then (s.setRoles 31 0).setPair .solo false else s.setPair joiner false

/-- The state that a refused joiner returns to. -/
def State.attachBack (s : State) : PairState := (s.cln.attach.map (·.back)).getD .wait

/-- An attach is refused with a cause (R371).
(DEDUCED, log entries 119, 201.) -/
def State.attachRefuse (s : State) (cause : Nat) : State :=
  ((s.setReg pCln Reg.Cln.CLN_ERR (BitVec.ofNat 32 cause)).fault pCln 3).attachEnd s.attachBack

/-! Attach -/

/-- Who donates: the twin in SOLO or IN_STEP, twin A where both are alike (R369). -/
def PeerState.rank : PeerState → Nat
  | .withdrawn => 0 | .waiting => 1 | .active => 2
def State.pairRank (s : State) : Nat :=
  match s.cln.st with
  | .solo => 2 | .inStep => 2 | .withdrawn => 0 | _ => 1
def State.donates (s : State) : Bool :=
  decide (s.cln.peer.rank < s.pairRank) || (decide (s.cln.peer.rank = s.pairRank) && !s.twinB)

/-- ATTACH_ID begins: the nonce is drawn and KEYGEN asked for (R369, R370). -/
def State.attachStart (s : State) : State :=
  if s.anyHb && (s.cln.st == .wait || s.cln.st == .solo || s.cln.st == .withdrawn) then
    let back : PairState := if s.cln.st == .withdrawn then .withdrawn else .wait
    let d := s.donates
    let s := { s with cln.attach := some (AttachRun.mk [] [] false false [] [] [] back) }
    let s := s.setPair .attachId d
    if s.ftn.st = .failed then s.attachRefuse 10 else (s.ftnAsk .attach).arbRequest .attach
  else s

/-- A twin's heartbeat appears on a side, with its measured delay (R365, R369).
(DESIGN CHOICE, log entry 115.) -/
def State.heartbeat (s : State) (side : Nat) (peer : PeerState) (delay : Nat) : State :=
  if !s.sideAble side then s
  else
    let s := { (s.sideUp side true) with cln.peer := peer }
    (s.setFld pCln Reg.Cln.SIDE_STA 27 16 delay).attachStart

/-- A refused attach is tried again, after 1 s or at CLN_CMD ATTACH; one that the peer has left unfinished is given up first
(R369).
(DEDUCED, log entry 119.) -/
def State.attachRetry (s : State) : State :=
  let s := if s.cln.st == .attachId then s.attachEnd s.attachBack else s
  s.attachStart

/-- WAIT has lasted WAIT_MS without a heartbeat: SOLO, with every role (R369). -/
def State.waitTimeout (s : State) : State :=
  if s.cln.st == .wait && !s.anyHb then (s.setRoles 31 0).setPair .solo false else s

/-- Step 4 of R370, once the peer's step 2 is checked and the own one has left: the statement over
SHA-256("BNL-CA" ‖ N_peer ‖ Q_E,own ‖ Q_E,peer), signed. -/
def State.attachProof (s : State) : State :=
  match s.cln.attach with
  | none => s
  | some a =>
    if !a.sent || a.attested || a.peerCert.isEmpty then s
    else
      let st := s.attestStatement (sha256 (ascii "BNL-CA" ++ a.peerNonce ++ a.qE ++ a.peerQE))
      let (r, s) := s.ftnDraw 80
      let sig := ecdsaSign (s.arb.dID.getD 1) (scalarOf (r.take 48)) (sha256 st)
      ({ s with cln.attach := some { a with attested := true } }).emit (.twinMsg msgAttach (st ++ sig))

/-- Step 2: the certificate, Q_E and N leave once both are made. -/
def State.attachHello (s : State) : State :=
  match s.cln.attach with
  | none => s
  | some a =>
    if a.sent || a.nonce.isEmpty || a.qE.isEmpty then s
    else
      let (c, s) := s.ownCert
      (({ s with cln.attach := some { a with sent := true } }).emit (.twinMsg msgAttach (c ++ a.qE ++ a.nonce))).attachProof

/-- The Fountain serves the nonce. -/
def State.attachNonce (s : State) : State :=
  match s.cln.attach with
  | none => s
  | some a =>
    let (n, s) := s.ftnDraw 32
    ({ s with cln.attach := some { a with nonce := n } }).attachHello

/-- KEYGEN into E0 ends. -/
def State.attachKeygen (s : State) : State :=
  match s.arb.cur with
  | some (.req .attach) =>
    if s.arb.phase ≠ .timed then s
    else
      let k := scalarOf (s.arb.rnd.take 48)
      let s := ({ s with arb.eph := setNth s.arb.eph 0 (some k) }).arbNext
      match s.cln.attach with
      | none => s
      | some a => ({ s with cln.attach := some { a with qE := pointOctets (ecMul k p256G) } }).attachHello
  | _ => s

/-- The Fountain fails while step 2 draws from it (R357, R371). -/
def State.attachNoRandom (s : State) : State :=
  match s.cln.st, s.cln.attach with
  | .attachId, some a => if a.nonce.isEmpty || a.qE.isEmpty then s.attachRefuse 10 else s
  | _, _ => s

/-- Step 5: the session keys (R370). -/
def State.sessionKeys (s : State) (a : AttachRun) : List (List Byte) :=
  let z := ecdh ((nth s.arb.eph 0 none).getD 1) (pointOf a.peerQE)
  let own := s.deviceId
  let peer := certDevice a.peerCert
  let k := hmac z (ascii "BNL-CS" ++ (if s.twinB then peer ++ own else own ++ peer))
  [hmac k (ascii "LINK"), hmac k (ascii "DG"), hmac k (ascii "DH"), hmac k (ascii "ST")]

/-- The peer's statement and signature hold (step 4). -/
def proofOk (a : AttachRun) (st sig : List Byte) : Bool :=
  decide (st.length = 128) && st.take 8 == ascii "BNLA" ++ [1, 0, 0, 0] &&
    (st.drop 8).take 16 == certDevice a.peerCert &&
    st.drop 96 == sha256 (ascii "BNL-CA" ++ a.nonce ++ a.peerQE ++ a.qE) &&
    ecdsaVerify (certQid a.peerCert) (sha256 st) sig

/-- An attach message arrives (R370, R371). A joiner that enters ATTACH_XFER gives up its run and what is due: it dispatches nothing
and records nothing there (R34, R372).
(DEDUCED, log entry 191.) -/
def State.attachMessage (s : State) (m : AttachMsg) : State :=
  match s.cln.st, s.cln.attach with
  | .attachId, some a =>
    match m with
    | .hello c q n =>
      if !a.peerCert.isEmpty then s
      else if !s.certSigned c || !onCurve (pointOf q).1 (pointOf q).2 || decide (q.length ≠ 64) || decide (n.length ≠ 32) then
        s.attachRefuse 6
      else if certEstate c ≠ s.fld pCln Reg.Cln.ESTATE 15 0 then s.attachRefuse 7
      else if certTwin c = b2n s.twinB then s.attachRefuse 8
      else ({ s with cln.attach := some { a with peerCert := c, peerQE := q, peerNonce := n } }).attachProof
    | .proof st sig =>
      if !a.attested || s.cln.session then s
      else if !proofOk a st sig then s.attachRefuse 6
      else if (st.drop 64).take 32 ≠ s.octetRegs pLdg (Reg.Ldg.CFG_HASH 0) 8 then s.attachRefuse 9
      else
        let keys := s.sessionKeys a
        let s := ({ s with cln.keys := keys, cln.session := true, arb.eph := setNth s.arb.eph 0 none }).arbStatus
        s.emit (.twinMsg msgAttach (s.octetRegs pPtr0 (Reg.Ptr0.FMT_DIGEST 0) 8 ++ s.octetRegs pPav (Reg.Pav.TBL_DIGEST 0) 8 ++
          [BitVec.ofNat 8 (s.fld pSys Reg.Sys.PRF 9 8), BitVec.ofNat 8 (s.fld pSdl Reg.Sdl.SDL_FMAX 6 0)] ++
          wordOctets (s.reg pSdl Reg.Sdl.FNOM_CFG)))
    | .items fmt tbl prf fmax fnom =>
      if !s.cln.session then s
      else if fmt = s.octetRegs pPtr0 (Reg.Ptr0.FMT_DIGEST 0) 8 ∧ tbl = s.octetRegs pPav (Reg.Pav.TBL_DIGEST 0) 8 ∧
          prf = s.fld pSys Reg.Sys.PRF 9 8 ∧ fmax = s.fld pSdl Reg.Sdl.SDL_FMAX 6 0 ∧
          fnom = (s.reg pSdl Reg.Sdl.FNOM_CFG).toNat then
        let s := if s.cln.donor then s else { s with pgl.due := [], pgl.run := none, engP := Engine.reset }.ctlServe
        (s.setOctetRegs pCln (Reg.Cln.PEER_ID 0) (certDevice a.peerCert)).setPair .attachXfer s.cln.donor
      else s.attachRefuse 9
  | _, _ => s

/-! State transfer -/

/-- A 32-bit count a is not older than b. -/
def notOlder (a b : Nat) : Bool := decide ((a + 2 ^ 32 - b % 2 ^ 32) % 2 ^ 32 < 2 ^ 31)

/-- A version that is not older than the one held is taken (R372). -/
def State.newerUnit (s : State) (key ver : Nat) : Bool :=
  let v := smGet (fun _ => 0) s.cln.unitVer key
  decide (v = 0) || notOlder ver (v - 1)
def State.noteUnit (s : State) (key ver : Nat) : State :=
  { s with cln.unitVer := smSet (fun _ => 0) s.cln.unitVer key (ver % 2 ^ 32 + 1) }

/-- A window position from the donor: one that the joiner has placed from agreed input keeps the joiner's copy (R372). -/
def State.takeWindow (s : State) (i n : Nat) (values : List Word) (flags : Nat) : State :=
  let st := s.stream i
  let h := st.head.getD 0
  let h0 := match (s.cln.heads0.find? (fun e => e.1 = i)) with
    | some e => e.2
    | none => 0
  let mine := st.head.isSome && decide (n ≤ h) && decide (h0 < n) && !(s.flagOf i n).testBit 8
  if mine || (st.head.isSome && decide (n + s.winDepth ≤ h)) then s
  else
    let s := if st.head.isNone then s.svMissAll i else s
    let s := if st.head.isSome then
      (List.range (min (n - h - 1) s.winDepth)).foldl (fun s j => s.svMiss i (n - 1 - j)) s else s
    let s := (List.range (s.svQty i)).foldl (fun s q =>
      s.writeWord rgSample (s.sampleOfs i q (n % s.winDepth)) (nth values q 0)) s
    let s := s.setFlagOf i n (flags % 65536)
    s.setStream i { st with head := some (max n h), newest := max n st.newest, live := true, lost := false }

/-- A GOOSE live copy from the donor, unless the joiner has accepted a newer record. -/
def State.takeGoose (s : State) (i st sq deadline : Nat) (members : List Word) (stale cfgErr : Bool) : State :=
  let b := s.block i
  if b.recvd && !(notOlder st b.stNum && (decide (st ≠ b.stNum) || notOlder sq b.sqNum)) then s
  else s.setBlock i { b with
    recvd := true, stNum := st, sqNum := sq, deadline := deadline
    live := { b.live with members := (members ++ List.replicate 16 0).take 16, stale := stale, cfgErr := cfgErr } }

/-- An output word from the donor, with STALE, NEVER and AGE. -/
def State.takeOut (s : State) (w : Nat) (value : Word) (stale never : Bool) (age : Nat) : State :=
  let s := s.setOutWord w { s.outWord w with value := value, never := never, commit := s.pav.starts - age }
  match s.ownerOf w with
  | some e => s.setEntryStat e { s.entryStat e with stale := stale }
  | none => s

/-- A counter of the donor (R160, R372). -/
def State.setSeq (s : State) (mac pair seq : Nat) : State :=
  { s with prm.seqs := SeqCtr.mk mac pair (seq % 65536) :: s.prm.seqs.filter (fun c => !(c.mac == mac && c.pair == pair)) }

/-- The donor's Sundial: the joiner takes its rate, its SLOT_CNT and its angle, carried on from the donor's C_k (R110,
R372).
(DEDUCED, log entry 116.) -/
def State.takeSundial (s : State) (slotCnt angle freq : Nat) (rec_ : List Word) : State :=
  let ck := (nth rec_ 1 0).toNat * 1000000000 + (nth rec_ 2 0).toNat
  let n := angleAdv freq (s.sdl.time - ck)
  ({ s with sdl.ang := (angle + n / 1000000000) % 2 ^ 64, sdl.angRem := n % 1000000000 }.setFreq freq).setSlotCnt slotCnt

/-- A unit of the state transfer arrives (R372).
(DEDUCED, log entry 116.) -/
def State.stateTransfer (s : State) (x : XferItem) : State :=
  if s.cln.st ≠ .attachXfer ∨ s.cln.attach.isSome then s
  else match x with
  | .complete => { s with cln.bulkDone := true }
  | x => if s.cln.donor then s else match x with
    | .window i n vs f => s.takeWindow i n vs f
    | .goose i st sq d ms stale cfg => s.takeGoose i st sq d ms stale cfg
    | .ctx u ver bs =>
      if s.newerUnit u ver then s.byFlit pCln (fun s => (s.writeMem rgCtx (64 * u) (bs.take 64)).noteUnit u ver) else s
    | .outWord w ver v stale never age =>
      if s.newerUnit (2 ^ 20 + w) ver then (s.takeOut w v stale never age).noteUnit (2 ^ 20 + w) ver else s
    | .goosePub i st sq last c due =>
      s.setGoosePub i { s.goosePub i with stNum := st, sqNum := sq, last := last, count := c, due := due }
    | .svPub i next c => match s.svPub i with
      | some p => s.setSvPub i { p with next := next, done := [], smpCnt := c }
      | none => s
    | .seqCtr mac pair seq => s.setSeq mac pair seq
    | .proxyEntry i mac vid pair seq =>
      { s with prm.proxy := s.prm.proxy.filter (fun e => e.1 ≠ i) ++ [(i, ProxyEntry.mk mac vid pair seq)] }
    | .sundial c a f r => s.takeSundial c a f r
    | .key slot nxt w swap =>
      let s := s.takePosition slot nxt w
      if swap.isSome then s.setSlot slot { s.slot slot with swapAt := swap } else s
    | .complete => s

/-! Input agreement -/

/-- LATE of an index under an agreed timestamp: what its age says, or what its place below the head said already (R207,
R374). -/
def State.lateOf (s : State) (i n a : Nat) : Bool :=
  decide ((s.svLate i * 1000 * s.svRate i : Nat) < ((a * s.svRate i : Nat) : Int) - (n * 1000000000 : Nat))

/-- The indices a record's samples have: KEY holds the first one modulo 2³². -/
def State.recIndices (s : State) (r : DigestRec) : List Nat :=
  let m := (r.rx + 50000) * s.svRate r.sub / 1000000000
  let n := m - (m + (2 ^ 32 - r.key)) % 2 ^ 32
  (List.range r.count).map (fun j => n + j)

/-- The flags, staged samples and deadlines of a frame placed here take the agreed values; a sample or record that the agreed
instant brings before C_k joins the input set (R374).
(DEDUCED, log entry 117.) -/
def State.rederive (s : State) (own : DigestRec) (a placed : Nat) : State :=
  let ck := s.sdl.slotAt.getD 0
  if own.goose then
    let b := s.block own.sub
    let mine (e : Nat × GooseRecord × Nat) : Bool := e.1 == own.sub && gooseKey e.2.1.stNum e.2.1.sqNum == own.key
    let late := s.ptr.gooseLate.filter (fun e => mine e && decide (placed < ck))
    let rest := (s.ptr.gooseLate.filter (fun e => !(mine e && decide (placed < ck)))).map (fun e =>
      if mine e then (e.1, e.2.1, placed) else e)
    let s := { s with ptr.gooseLate := rest }
    let s := if b.recvd && gooseKey b.stNum b.sqNum == own.key then
      s.setBlock own.sub { b with deadline := b.deadline + placed - own.placed } else s
    late.foldl (fun s e => s.gooseTake e.1 e.2.1 placed) s
  else
    let ns := s.recIndices own
    let hit (x : Staged) : Bool := x.stream == own.sub && ns.contains x.n
    let fix (x : Staged) : Staged := if hit x then { x with late := s.lateOf own.sub x.n a, placed := placed } else x
    let now_ := (s.ptr.stagedLate.filter (fun x => hit x && decide (placed < ck))).map fix
    let rest := (s.ptr.stagedLate.filter (fun x => !(hit x && decide (placed < ck)))).map fix
    let s := { s with ptr.staged := s.ptr.staged.map fix, ptr.stagedLate := rest }
    let h := (s.stream own.sub).head
    let s := ns.foldl (fun s n =>
      let f := s.flagOf own.sub n
      if (match h with | some h => decide (n ≤ h) && decide (h < n + s.winDepth) | none => false) && !f.testBit 8 then
        let below := f.testBit 9 && !s.lateOf own.sub n own.rx
        s.setFlagOf own.sub n (f - b2n (f.testBit 9) * fLate + b2n (below || s.lateOf own.sub n a) * fLate)
      else s) s
    now_.foldl (fun s x => s.svArrive x) s

/-- A digest record arrives: it is matched with a frame placed here in the last 20 µs, or kept (R374). Where the digests
differ, the twin whose copy has the agreed values sends that copy.
(DEDUCED, log entry 117.) -/
def State.digestReceived (s : State) (d : PeerDigest) : State :=
  if !s.exchanging then s
  else
    let p : DigestRec := { goose := d.goose, sub := d.sub, key := d.key, rx := d.rx, placed := d.placed, digest := d.digest
                           frame := [], count := 0, matched := false, forwarded := false }
    match s.cln.records.find? (fun r => r.same p && !r.matched && decide (s.sdl.time ≤ r.placed + 20000)) with
    | none => { s with cln.peerRecs := s.cln.peerRecs.filter (fun r => decide (s.sdl.time ≤ r.placed + 20000)) ++ [p] }
    | some own =>
      let v := s.agreedOf own p
      let mine := decide (v = (own.rx, own.placed))
      let s := s.digestCompare own p
      let s := { s with cln.records := s.cln.records.map (fun r =>
        if r.same own then { r with matched := true, rx := v.1, placed := v.2 } else r) }
      let s := if mine && decide (own.digest ≠ p.digest) then
        s.emit (.twinMsg msgForward (own.octets.drop 16 ++ own.frame)) else s
      if mine then s else s.rederive own v.1 v.2

/-- A frame placed here has had no matching record for 2 µs: it is forwarded with its agreed values (R375). -/
def State.forwardTimeout (s : State) : State :=
  if !s.exchanging then s
  else match s.cln.records.find? (fun r => !r.matched && !r.forwarded && !r.frame.isEmpty) with
  | none => s
  | some r =>
    let s := s.advanceTo (r.placed + 2000)
    let s := { s with cln.records := s.cln.records.map (fun (x : DigestRec) => if x.same r then { x with forwarded := true } else x) }
    (s.emit (.twinMsg msgForward (r.octets.drop 16 ++ r.frame))).countFld pCln Reg.Cln.CNT_FWD 15 0 1

/-- The content this twin holds of a frame gives way to the copy with the agreed values (R374). -/
def State.makeRoom (s : State) (r : DigestRec) : State :=
  if r.goose then s.setBlock r.sub { s.block r.sub with recvd := false }
  else (s.recIndices r).foldl (fun s n =>
    if (s.flagOf r.sub n).testBit 8 then s else s.setFlagOf r.sub n fMiss) s

/-- A frame arrives on a pair's local ports with its number (R366, R379). -/
def State.pairOut (s : State) (n seq : Nat) (f : List Byte) : State :=
  let pri := match s.classify (bits (s.pairCfg n) 7 0) f with | some (_, p, _) => p | none => 0
  s.copiesOut none 0 n pri seq none f

/-- A frame arrives over the Colonnade (R366, R375, R379). -/
def State.forwarded (s : State) (x : FwdFrame) : State :=
  if !s.cln.session then s
  else match x with
  | .agreed goose sub key rx placed octets =>
    if !s.exchanging then s
    else
      let rec_ : DigestRec := { goose := goose, sub := sub, key := key, rx := rx, placed := placed, digest := s.digestOf octets
                                frame := [], count := 0, matched := true, forwarded := true }
      let walkIt (s : State) : State :=
        ({ s with cln.records := s.cln.records ++ [rec_] }).walkFrame false
          { port := 0, octets := octets, ts := rx, dup := none, agreed := some placed, late := false }
      match s.cln.records.find? (fun r => r.same rec_ && decide (s.sdl.time ≤ r.placed + 20000)) with
      | some own =>
        if own.digest = rec_.digest ∨ own.frame.isEmpty then s
        else walkIt ({ (s.makeRoom own) with cln.records := s.cln.records.filter (fun r => !r.same rec_) })
      | none => walkIt (s.countFld pCln Reg.Cln.CNT_FWD 31 16 1)
  | .numbered pair seq octets =>
    let s := if srcMac octets = s.pairMac then s.setSeq s.pairMac pair (seq + 1)
      else { s with prm.proxy := s.prm.proxy.map (fun e =>
        if e.2.mac = srcMac octets ∧ e.2.pair = pair then (e.1, { e.2 with seq := (seq + 1) % 65536 }) else e) }
    s.pairOut pair seq octets
  | .toNumber pair vid octets =>
    if !s.hasRole 1 then s
    else match s.proxySeq (srcMac octets) vid pair with
      | (none, s) => s
      | (some seq, s) =>
        (s.emit (.twinMsg msgForward (natOctetsBE 1 pair ++ natOctetsBE 2 seq ++ octets))).pairOut pair seq octets
  | .transit pair octets =>
    (s.pairPorts pair).foldl (fun s p =>
      if s.portUp p then s.enqueue none p 0 ⟨octets, .pool, none, false, false, 0⟩ else s) s

/-! Time and slot records -/

/-- The measured offset, peer minus own; the follower slews towards the leader (R378, R390). -/
def State.timeOffset (s : State) (ofs : Int) : State :=
  let s := s.setReg pCln Reg.Cln.TIME_OFS (BitVec.ofNat 32 (offset16 ofs))
  if s.timeFollower then { s with sdl.slew := ofs } else s

/-- The offset has been beyond ±200 ns for 1 ms (R378). -/
def State.timeAlarm (s : State) (ofs : Int) : State :=
  if s.cln.st == .inStep && decide (200 < ofs.natAbs) then (s.timeOffset ofs).fault pCln 8 else s

/-- Every role comes to this twin as the other leaves (R381 to R384).
(DEDUCED, log entry 201.) -/
def State.aloneNow (s : State) : State := ((s.keyLocal.clearSession).setRoles 31 0).setPair .solo false

/-- The peer's slot record arrives, with the roles it holds, those it hands over, whether it leaves, and the offset measured
(R378, R381, R384).
(DEDUCED, log entry 121.) -/
def State.slotRecord (s : State) (rec_ : List Word) (roles handed : Nat) (leaving : Bool) (ofs : Int) : State :=
  if !s.exchanging then s
  else
    let s := s.timeOffset ofs
    if leaving && s.cln.st == .inStep then s.aloneNow.takeLog 6 0
    else
      let had := s.hasRole 2
      let s := { (s.setRoles (s.ownRoles ||| handed % 32) (roles % 32)) with cln.peerRec := some rec_ }
      if !had && s.hasRole 2 then s.bmca else s

/-- C_k + 2 µs: a peer record that differs is a split. Both twins use the leader's record, the follower plans the slot by the
leader's count and adopts count and angle at the next boundary (R110, R378).
(DEDUCED, log entry 122.) -/
def State.recordSplit (s : State) : State :=
  match s.cln.peerRec, s.sdl.slotAt with
  | some r, some ck =>
    if s.cln.st ≠ .inStep ∨ r = s.pav.slotRec then s
    else
      let s := (((s.advanceTo (ck + 2000)).fault pCln 6).takeLog 7 0)
      if s.hasRole 0 then s
      else
        let own := (nth s.pav.slotRec 3 0).toNat + (nth s.pav.slotRec 4 0).toNat * 2 ^ 32
        let ang := (nth r 3 0).toNat + (nth r 4 0).toNat * 2 ^ 32
        let cnt := (nth r 0 0).toNat
        let s := { s with pav.slotRec := r, cln.adopt := some (cnt, (ang + 2 ^ 64 - own) % 2 ^ 64) }
        s.pglPlan cnt
  | _, _ => s

/-- The peer's counters as of the slot start arrive: where one differs from the own, the LEAD holder's are taken from the next
slot (R379). -/
def State.sequenceCheck (s : State) (cs : List (Nat × Nat × Nat)) : State :=
  if s.cln.st ≠ .inStep then s
  else
    let own (c : Nat × Nat × Nat) : Nat :=
      match s.cln.seqSnap.find? (fun (x : Nat × Nat × Nat) => x.1 = c.1 ∧ x.2.1 = c.2.1) with
      | some x => x.2.2
      | none => 0
    let bad := cs.filter (fun c => own c ≠ c.2.2)
    if bad.isEmpty then s
    else
      let s := (s.fault pCln 5).takeLog 7 0
      if s.hasRole 1 then s
      else { s with cln.takeSeq := bad.map (fun c => (c.1, c.2.1, (c.2.2 + 65536 - own c % 65536) % 65536)) }

/-! Losses -/

/-- A local cause of R382: REFCLK_B lost, CLN fenced, a CLN block reset in progress. -/
def State.localCause (s : State) : Bool :=
  s.pwr.refBLost || s.fencedPage pCln || s.flag pCln Reg.Hdr.STA 2

/-- A twin withdraws: outputs withheld, compare units disarmed, balls safe, roles released (R382).
(DEDUCED, log entry 125.) -/
def State.withdraw (s : State) : State :=
  let s := (s.fault pCln 2).keyLocal.clearSession
  let s := s.disarmAll.ballsSafe
  ((s.setRoles 0 0).setPair .withdrawn false).takeLog 4 0

/-- The peer is lost on both sides; `us` is the time until the last role was taken (R369, R382, R383).
(DEDUCED, log entries 125, 202.) -/
def State.peerLoss (s : State) (us : Nat) : State :=
  let seen := s.anyHb || s.cln.session
  let s := (s.sideUp 0 false).sideUp 1 false
  let s := if seen && s.cln.st != .off then s.fault pCln 0 else s
  match s.cln.st with
  | .inStep => if s.localCause then s.withdraw else s.aloneNow.takeLog 1 us
  | .attachId => s.attachEnd s.attachBack
  | .attachXfer => s.attachEnd .wait
  | _ => s

/-- A side is lost (R382): with the other still up, transit moves to it and no role moves; a transfer under attach ends
(R369). A twin that has lost both with a local cause withdraws.
(DEDUCED, log entry 119.) -/
def State.sideLoss (s : State) (side : Nat) : State :=
  let was := s.sideHb side || s.flag pCln Reg.Cln.SIDE_STA side
  let s := s.sideUp side false
  if s.cln.st == .off || !was then s
  else
    let s := (s.fault pCln 1).takeLog (2 + side) 0
    match s.cln.st with
    | .attachXfer => s.attachEnd .wait
    | .inStep => if !s.anyHb && s.localCause then s.withdraw else s
    | _ => s

/-- A side carries heartbeats again (R382). -/
def State.sideRecovery (s : State) (side : Nat) : State := if s.sideAble side then s.sideUp side true else s

/-! Leaving -/

/-- The slot record of this slot leaves, with the roles held, those handed over, and whether this twin leaves (R378, R381,
R384); the sequence check follows (R379). -/
def State.sendRecord (s : State) (handed : Nat) (leaving : Bool) : State :=
  let s := s.emit (.twinMsg msgSlotRecord (s.pav.slotRec.flatMap wordOctets ++
    [BitVec.ofNat 8 s.ownRoles, BitVec.ofNat 8 handed, BitVec.ofNat 8 (b2n leaving)]))
  let snap := s.prm.seqs.map (fun c => (c.mac, c.pair, c.seq))
  ({ s with cln.seqSnap := snap, cln.peerRec := none }).emit (.twinMsg msgSequence
    (snap.flatMap (fun (c : Nat × Nat × Nat) => natOctetsBE 7 c.1 ++ natOctetsBE 1 c.2.1 ++ natOctetsBE 2 c.2.2)))

/-- CTL.EN of CLN goes to 0: OFF, without a session (R369).
(DEDUCED, log entry 114.) -/
def State.clnOff (s : State) : State :=
  let s := (s.setFlag pCln Reg.Hdr.CTL 0 false).keyLocal
  (({ s with cln.donor := false }).attachEnd .off).setRoles 0 0

/-- The announced detach at a slot start: every role goes to the peer, outputs are withheld, OFF (R384). -/
def State.detachNow (s : State) : State :=
  let r := s.ownRoles
  let s := (s.setRoles 0 31).sendRecord r true
  { (s.clnOff.takeLog 6 0) with cln.detached := true }

/-- CLN_CMD DETACH, and what acts as it: at the next slot start in IN_STEP, at once otherwise (R384). -/
def State.detach (s : State) : State :=
  if s.cln.st == .inStep then { s with cln.leaving := true }
  else if s.cln.st == .off then s else { s.clnOff with cln.detached := true }

/-- CLN CTL.EN written 0. -/
def State.clnDisable (s : State) : State :=
  if s.cln.st == .inStep then { s with cln.leaving := true } else if s.enabled pCln then s.clnOff else s

/-- CLN_CMD HAND_ROLES (R384). -/
def State.handRoles (s : State) : State := if s.cln.st == .inStep then { s with cln.handing := true } else s

/-- An accepted write of CLN_CMD (R390). -/
def State.clnCommand (s : State) (v : Word) : State :=
  match bits v 2 0 with
  | 1 => s.attachRetry
  | 2 => s.detach
  | 3 => s.handRoles
  | 4 => s.keySync
  | _ => s

/-- A CLN block reset: a twin in step withdraws, the session goes, and the Colonnade is OFF with outputs withheld (R370,
R382). The addresses in force stay latched (R388). -/
def State.clnReset (s : State) : State :=
  let inPair := s.cln.st != .off
  let s := if s.cln.st == .inStep then s.withdraw else if inPair then s.clnOff else s
  { s with cln := { Colonnade.reset with latchMac := s.cln.latchMac, latchValid := s.cln.latchValid
                                         detached := inPair || s.cln.detached } }

/-! Slot starts -/

/-- The follower of a split adopts the leader's count and angle before the slot start (R105, R378).
(DEDUCED, log entry 120.) -/
def State.clnAdopt (s : State) : State :=
  match s.cln.adopt with
  | none => s
  | some (cnt, d) =>
    let s := ({ s with cln.adopt := none }).setSlotCnt cnt
    if d % 2 ^ 32 = 0 then s else s.angleStep (s.sdl.ang + d)

/-- The LEAD holder's counters are taken (R379).
(DEDUCED, log entry 120.) -/
def State.applySeq (s : State) : State :=
  let ds := s.cln.takeSeq
  let s := { s with cln.takeSeq := [] }
  ds.foldl (fun s d =>
    let v := ((s.prm.seqs.find? (fun c => c.mac = d.1 ∧ c.pair = d.2.1)).map (·.seq)).getD 0
    s.setSeq d.1 d.2.1 (v + d.2.2)) s

/-- IN_STEP begins: the donor keeps its roles (R372, R381). -/
def State.enterStep (s : State) : State :=
  let d := s.cln.donor
  let s := { s with cln.bulkDone := false, cln.unitVer := [], cln.heads0 := [], cln.peer := .active }
  ((if d then s.setRoles 31 0 else s.setRoles 0 31).setPair .inStep d).takeLog 5 0

/-- The Colonnade at a slot start, before the Pergola plans the slot: C_s of a transfer, entry into IN_STEP, counters, hand-over
and detach, and what each twin sends (R370, R372, R378, R379, R384). -/
def State.clnSlotStart (s : State) : State :=
  match s.cln.st with
  | .attachXfer =>
    if s.cln.attach.isSome then
      let heads := s.ptr.sv.filterMap (fun e => e.2.head.map (fun h => (e.1, h)))
      let s := { s with cln.attach := none, cln.heads0 := heads }
      if s.cln.donor then (s.emit (.twinMsg msgState [0])).sendRecord 0 false else s
    else
      let s := if s.cln.bulkDone then s.enterStep else s
      let s := if s.cln.donor then s.emit (.twinMsg msgState (1 :: natOctets 4 s.slotCnt ++ natOctets 8 s.sdl.ang ++
        natOctets 4 s.sdl.freq ++ s.pav.slotRec.flatMap wordOctets)) else s
      s.sendRecord 0 false
  | .inStep =>
    let s := s.applySeq
    if s.cln.leaving then s.detachNow
    else if s.cln.handing then
      let r := s.ownRoles
      (({ s with cln.handing := false }).setRoles 0 (s.fld pCln Reg.Cln.ROLE_STA 12 8 ||| r)).sendRecord r false
    else s.sendRecord 0 false
  | _ => s

end Sys2Proof.Machine
end

