-- ==== Sys2Proof/Machine/Shed.lean ====
section
/-!
DEFINITION. The Potting Shed: card start-up, transfers, the transaction journal and its recovery, sleep and removal (R458 to
R476).
-/
namespace Sys2Proof.Machine

/-! The journal -/

/-- Entry j of the journal, an offset in the MRAM (R464). -/
def jBase (j : Nat) : Nat := 0xFBF000 + 0x11000 * j
/-- Octets of the MRAM as they stand. -/
def State.jOctets (s : State) (off n : Nat) : List Byte := s.peekMem (mramRegion off) off n

/-- An entry's state: 0 FREE, 1 OPEN, 2 DATA_SENT, 3 BUSY, 4 DONE (R465). -/
def State.jState (s : State) (j : Nat) : Nat :=
  let b := (s.jOctets (jBase j) 1).headD 0
  if b = 0xFF ∨ s.jOctets (jBase j + 0x20) 4 ≠ ascii "BNLJ" then 0
  else if b.getLsbD 3 = false then 4 else if b.getLsbD 2 = false then 3 else if b.getLsbD 1 = false then 2
  else if b.getLsbD 0 = false then 1 else 0
/-- An entry is pending (R465). -/
def State.jPending (s : State) (j : Nat) : Bool := decide (1 ≤ s.jState j) && decide (s.jState j ≤ 3)
def State.jAny (s : State) : Bool := (List.range 3).any s.jPending

/-- Fields of an entry's header.
(DEDUCED, log entry 126.) -/
def State.jSeq (s : State) (j : Nat) : Nat := leNat (s.jOctets (jBase j + 0x24) 4)
def State.jCount (s : State) (j : Nat) : Nat := leNat (s.jOctets (jBase j + 0x28) 2)
def State.jHash (s : State) (j : Nat) : List Byte := s.jOctets (jBase j + 0x40) 32
def State.jLba (s : State) (j i : Nat) : Nat := leNat (s.jOctets (jBase j + 0x60 + 4 * i) 4)
/-- Old content of list entry i. -/
def State.jOld (s : State) (j i : Nat) : List Byte := s.jOctets (jBase j + 0x1000 + 512 * i) 512

/-- The entry that a write takes, and its SEQ: the one after the entry with the highest SEQ (R465, R466). -/
def State.jNext (s : State) : Nat × Nat :=
  let used := (List.range 3).filter (fun j => decide (s.jState j ≠ 0))
  match used with
  | [] => (0, 1)
  | j :: js =>
    let top := js.foldl (fun a b => if s.jSeq a < s.jSeq b then b else a) j
    ((top + 1) % 3, (s.jSeq top + 1) % 2 ^ 32)

/-- The 17 sectors of an entry are erased. -/
def State.jErased (s : State) (j : Nat) : Bool :=
  !s.mem.mram.any (fun (e : Nat × Byte) => decide (jBase j ≤ e.1) && decide (e.1 < jBase j + 0x11000))

/-- The word that programs bits of STATE to 0. -/
def jBits (bs : List Nat) : List Byte :=
  BitVec.ofNat 8 (0xFF - bs.foldl (fun a b => a + 2 ^ b) 0) :: List.replicate 31 0xFF

/-- Octets 0x020 to 0x25F of a header: MAGIC, SEQ, COUNT, card hash and LBA list. -/
def jHeader (seq : Nat) (hash : List Byte) (lbas : List Nat) : List Byte :=
  ascii "BNLJ" ++ natOctets 4 seq ++ natOctets 2 lbas.length ++ List.replicate 22 0xFF ++ hash ++
    lbas.flatMap (natOctets 4) ++ List.replicate (512 - 4 * lbas.length) 0xFF

/-! Status -/

/-- STATE as STA encodes it (R475). -/
def CardState.code : CardState → Nat
  | .empty => 0 | .debounce => 1 | .powerUp => 2 | .ident => 3 | .recover => 4 | .ready => 5 | .xfer => 6 | .sleepClk => 7
  | .sleepOff => 8 | .failed => 9

/-- STATE, CARD_IN, UHS and JPEND. -/
def State.pshShow (s : State) : State :=
  let s := (s.setFld pPsh Reg.Hdr.STA 11 8 s.psh.st.code).setFlag pPsh Reg.Hdr.STA 12 s.psh.inserted
  (s.setFlag pPsh Reg.Hdr.STA 13 s.psh.vsel).setFlag pPsh Reg.Hdr.STA 14 s.jAny

def State.pshState (s : State) (st : CardState) : State := { s with psh.st := st }.pshShow

/-- A command is in progress. -/
def State.pshBusy (s : State) : Bool := s.flag pPsh Reg.Psh.PSH_CMD 31

/-- A command ends with its result (R476, R504). -/
def State.pshEnd (s : State) (res : Nat) : State :=
  ((s.setFld pPsh Reg.Psh.PSH_RES 7 0 res).setFlag pPsh Reg.Psh.PSH_CMD 31 false).irq 6

/-- PSH_RES codes (R476). -/
abbrev cdOk : Nat := 0
abbrev cdBadArg : Nat := 2
abbrev cdAddr : Nat := 3
abbrev cdRole : Nat := 4
abbrev cdPending : Nat := 5
abbrev cdRemoved : Nat := 6
abbrev cdErr : Nat := 7
abbrev cdTimeout : Nat := 8
abbrev cdRestored : Nat := 9
abbrev cdRecoverFail : Nat := 0xA
abbrev cdState : Nat := 0xB
abbrev cdRefused : Nat := 0xC

/-- JRNL_STA (R476).
(DEDUCED, log entry 126.) -/
def State.jrnlSta (s : State) (entry found : Nat) (restored other : Bool) (seq : Nat) : State :=
  s.setReg pPsh Reg.Psh.JRNL_STA
    (BitVec.ofNat 32 (entry + found * 4 + b2n restored * 32 + b2n other * 64 + seq % 65536 * 65536))

/-- The card registers read 0 while EMPTY; of JRNL_STA, OTHER_CARD, ENTRY and SEQ stay while an entry is pending (R476).
(DEDUCED, log entry 210.) -/
def State.clearCard (s : State) : State :=
  let s := s.setRegs pPsh Reg.Psh.CARD_INFO 4 (List.replicate 13 0)
  let j := s.reg pPsh Reg.Psh.JRNL_STA
  s.setReg pPsh Reg.Psh.JRNL_STA (if s.jAny then j &&& 0xFFFF0043 else 0)

/-- The slot unpowered: CD_PWR_EN and CD_VSEL low (R459). -/
def State.slotOff (s : State) : State := { s with psh.pwrEn := false, psh.vsel := false, psh.job := none, psh.held := false }

/-- A journal operation in progress is given up after its unit (R467). -/
def State.jCut (s : State) : State :=
  let s := { s with nvm.jwait := none }
  match s.nvm.run with
  | some r => if r.journal then { s.nvmCut with nvm.jwait := none }.nvmQuiet else s
  | none => s

/-! Start-up -/

/-- A command goes to the card. -/
def State.cardCmd (s : State) (cmd arg : Nat) (octets : List Byte) : State := s.emit (.card cmd arg octets)

/-- Block i of n listed ones follows, and is followed by, the next LBA in its list. -/
def runJoins (lba : Nat → Nat) (i : Nat) : Bool := decide (0 < i) && decide (lba i = lba (i - 1) + 1)
def runGoes (lba : Nat → Nat) (n i : Nat) : Bool := decide (i + 1 < n) && runJoins lba (i + 1)
/-- The command under which block i of n listed ones is written: CMD25 for consecutive LBAs, CMD24 otherwise (R466). -/
def writeCmd (lba : Nat → Nat) (n i : Nat) : Nat := if runJoins lba i || runGoes lba n i then 25 else 24
/-- CMD12 ends the blocks moved under one command (R466).
(DEDUCED, log entry 208.) -/
def State.stopAfter (s : State) (last : Bool) : State := if last then s.cardCmd 12 0 [] else s

/-- The LBA of listed block i of the write in progress, and how many it has. -/
def State.wLba (s : State) (i : Nat) : Nat := nth s.psh.lbas i 0

/-- The command that moves the next block of the job: CMD18 for the blocks of a READ of more than one, CMD17 for one block,
CMD25 or CMD24 for a block written (R462, R466, R468). A block of a CMD18 or CMD25 in progress is emitted under that command. -/
def State.blockCmd (s : State) : State :=
  match s.psh.job with
  | some (.read lba _ count done) => s.cardCmd (if count = 1 then 17 else 18) (lba + done) []
  | some (.boot lba _ got) => s.cardCmd 17 (lba + got.length / 512) []
  | some (.write 4 _ buf done) => s.cardCmd (writeCmd s.wLba s.psh.lbas.length done) (s.wLba done) (s.peekMem rgCsram (buf - 0x20000000 + 512 * done) 512)
  | some (.write _ _ _ done) => s.cardCmd 17 (s.wLba done) []
  | some (.restore _ j done _) => s.cardCmd (writeCmd (s.jLba j) (s.jCount j) done) (s.jLba j done) (s.jOld j done)
  | _ => s

/-- The next block of the job is charged 16 units and starts, or is held (R229, R233, R462). -/
def State.blockStart (s : State) : State :=
  match s.background pPsh 16 with
  | (true, s) => ({ s with psh.held := false }).blockCmd
  | (false, s) => { s with psh.held := true }

/-- A held block asks again at the restart of a budget window (R229). -/
def State.cardResume (s : State) : State := if s.psh.held then s.blockStart else s

/-- A job moves to its next block. -/
def State.nextBlock (s : State) (j : CardJob) : State := ({ s with psh.job := some j }).blockStart

/-- Step n of a start-up begins to wait. -/
def State.startStep (s : State) (step tries mode : Nat) (r : Bool) : State :=
  { s with psh.job := some (CardJob.start step tries mode r) }

/-- Step 1 of R461.
(DEDUCED, log entry 210.) -/
def State.cardStart (s : State) (retry33 : Bool) : State :=
  (({ s with psh.pwrEn := true, psh.vsel := false }).startStep 1 0 0 retry33).pshState .powerUp

/-- The start-up ends without a card to use: the slot is off, FAILED (R458, R461). -/
def State.cardRefuse (s : State) (res : Nat) : State :=
  let s := ((s.slotOff.fault pPsh 1).pshState .failed)
  if s.pshBusy then s.pshEnd res else s.setFld pPsh Reg.Psh.PSH_RES 7 0 res

/-- S18R is asked for (R461 step 3). -/
def State.wants18 (s : State) (retry33 : Bool) : Bool := !retry33 && decide (2 ≤ s.fld pPsh Reg.Psh.PSH_CFG 2 0)
def State.acmd41 (s : State) (retry33 : Bool) : State :=
  (s.cardCmd 55 0 []).cardCmd 41 (2 ^ 30 + 2 ^ 28 + b2n (s.wants18 retry33) * 2 ^ 24 + 0xFF8000) []

/-- MAX_MODE, 6 and 7 acting as 5. -/
def State.maxMode (s : State) : Nat := min 5 (s.fld pPsh Reg.Psh.PSH_CFG 2 0)

/-- The highest mode the card offers at or below MAX_MODE for its signalling (R461 step 6). -/
def State.pickMode (s : State) (mask : Nat) : Nat :=
  let low := if s.psh.vsel then 2 else 0
  let high := if s.psh.vsel then s.maxMode else min 1 s.maxMode
  (List.range 6).foldl (fun a m => if low ≤ m ∧ m ≤ high ∧ mask.testBit m then m else a) low

/-- CMD19 is due in a mode (R461 step 7). -/
def State.tunes (s : State) (mode : Nat) : Bool := decide (mode = 5) || (decide (mode = 4) && s.flag pPsh Reg.Psh.PSH_CFG 4)

/-- A block of a restore leaves for the card, or the restore waits for the card's busy (R468). -/
def State.restoreNext (s : State) (j done : Nat) (startup : Bool) : State :=
  if done < s.jCount j then
    s.nextBlock (.restore 4 j done startup)
  else { s with psh.job := some (CardJob.restore 5 j done startup) }

/-- Step 9: READY (R461); a WAKE ends here. -/
def State.cardReady (s : State) : State :=
  let s := ({ s with psh.job := none, psh.held := false }).pshState .ready
  if s.pshBusy then s.pshEnd cdOk else s

/-- Step 8, from entry j on: pending entries of this card are restored one after another; one of another card is noted (R468,
R469). -/
def State.recoverFrom (s : State) : Nat → State
  | 0 => s.cardReady
  | n + 1 =>
    let j := 2 - n
    if !s.jPending j then s.recoverFrom n
    else if s.jHash j = s.octetRegs pPsh (Reg.Psh.CARD_HASH 0) 8 then (s.pshState .recover).restoreNext j 0 true
    else (s.jrnlSta j 0 false true (s.jSeq j)).recoverFrom n

/-- Step 8: the identity hash (R461); OTHER_CARD is judged anew (R469). -/
def State.cardHash (s : State) : State :=
  let s := s.setOctetRegs pPsh (Reg.Psh.CARD_HASH 0) (sha256 (s.psh.cid ++ s.psh.csd))
  (s.setFlag pPsh Reg.Psh.JRNL_STA 6 false).recoverFrom 3

/-- Step 7 for a mode: tuning where the mode asks for it. -/
def State.cardTune (s : State) (mode : Nat) (retry33 : Bool) : State :=
  let s := s.setFld pPsh Reg.Psh.CARD_INFO 2 0 mode
  if s.tunes mode then (s.startStep 7 0 mode retry33).cardCmd 19 0 [] else s.cardHash

/-- A CSD of version 2.0, and its C_SIZE. -/
def csdV2 (csd : List Byte) : Bool := decide (beNat csd / 2 ^ 126 = 1)
def csdSize (csd : List Byte) : Nat := beNat csd / 2 ^ 48 % 2 ^ 22

/-- The voltage switch failed: the slot goes off and starts again at 3.3 V (R461). -/
def State.cardFallback (s : State) : State := (s.slotOff.fault pPsh 6).startStep 0 0 0 true

/-- An answer in a start-up (R461). -/
def State.startAnswer (s : State) (step tries mode : Nat) (r : Bool) (a : CardAnswer) : State :=
  match step, a with
  | 2, .echo arg => if arg = 0x1AA then (s.startStep 3 1 0 r).acmd41 r else s.cardRefuse cdRefused
  | 2, .error => s.cardRefuse cdRefused
  | 3, .ocr false _ _ => if 100 ≤ tries then s.cardRefuse cdTimeout else s.startStep 13 tries 0 r
  | 3, .ocr true ccs s18a =>
    if !ccs then s.cardRefuse cdRefused
    else if s18a && s.wants18 r then (s.startStep 4 0 0 r).cardCmd 11 0 []
    else ((s.startStep 5 0 0 r).pshState .ident).cardCmd 2 0 []
  | 4, .accepted => ({ s with psh.vsel := true }).startStep 14 0 0 r
  | 4, .error => s.cardFallback
  | 24, .accepted => ((s.startStep 5 0 0 r).pshState .ident).cardCmd 2 0 []
  | 24, .error => s.cardFallback
  | 5, .ident cid csd =>
    if !csdV2 csd then s.cardRefuse cdRefused
    else
      let s := { s with psh.cid := cid, psh.csd := csd }
      let s := (s.setFld pPsh Reg.Psh.CARD_INFO 29 8 (csdSize csd)).setOctetRegs pPsh (Reg.Psh.CARD_CID 0) cid
      (((s.cardCmd 7 0 []).cardCmd 6 2 []).startStep 6 0 0 r)
  | 6, .modes mask =>
    let m := s.pickMode mask
    ((s.setFlag pPsh Reg.Psh.CARD_INFO 3 true).cardCmd 6 (0x80FFFFF0 + m) []).cardTune m r
  | 7, .tuned ok => if ok then s.cardHash else s.cardTune (mode - 1) r
  | 7, .error => s.cardTune (mode - 1) r
  | 70, .tuned ok => if ok then s.cardReady else
    let s := s.setFld pPsh Reg.Psh.CARD_INFO 2 0 (mode - 1)
    if s.tunes (mode - 1) then (s.startStep 70 0 (mode - 1) r).cardCmd 19 0 [] else s.cardReady
  | _, .error => s.cardRefuse cdRefused
  | _, _ => s

/-- A wait of a start-up elapses, or a command of it has no answer within its limit (R461). -/
def State.startTimeout (s : State) (step tries mode : Nat) (r : Bool) : State :=
  match step with
  | 0 => s.cardStart r
  | 1 => ((s.startStep 2 0 0 r).cardCmd 0 0 []).cardCmd 8 0x1AA []
  | 2 => s.cardRefuse cdRefused
  | 13 => (s.startStep 3 (tries + 1) 0 r).acmd41 r
  | 14 => s.startStep 24 0 0 r
  | 4 => s.cardFallback
  | 24 => s.cardFallback
  | 7 => s.cardTune (mode - 1) r
  | 70 => s.startAnswer 70 tries mode r (.tuned false)
  | _ => s.cardRefuse cdTimeout

/-- CTL.EN written 1: refused while Ndear-C fetches from bank 3 or has its vectors there (R465). A card in the slot is
started.
(DEDUCED, log entry 124.) -/
def State.pshEnable (s : State) : State :=
  if s.enabled pPsh then s
  else if bankOf s.engC.pc = some 3 ∨ bankOf s.engC.tvec.toNat = some 3 then s.fault pPsh 5
  else
    let s := s.setFlag pPsh Reg.Hdr.CTL 0 true
    if s.psh.inserted && s.psh.st == .empty then s.cardStart false else s

/-- The Potting Shed stops: its command ends, the slot is off.
(DEDUCED, log entry 124.) -/
def State.pshStop (s : State) : State :=
  let s := if s.pshBusy then s.pshEnd cdRemoved else s
  ((s.jCut.slotOff.clearCard).pshState .empty)
def State.pshDisable (s : State) : State := (s.setFlag pPsh Reg.Hdr.CTL 0 false).pshStop

/-- Insertion is declared (R460, R461, R508).
(DESIGN CHOICE, log entry 218.) -/
def State.cardInsertion (s : State) : State :=
  let s := (({ s with psh.inserted := true }).irq 6).emit (.msix 6)
  if s.enabled pPsh then s.cardStart false else s.pshShow

/-- A command, or a restore at start-up, ends because the card is gone (R460). -/
def State.cardGone (s : State) : State :=
  let s := { s.jCut with psh.job := none, psh.held := false }
  if s.pshBusy then s.pshEnd cdRemoved else s

/-- Removal is declared (R460). -/
def State.cardRemoval (s : State) : State :=
  let ran := s.pshBusy || s.psh.st == .xfer || s.psh.st == .recover
  let s := s.cardGone.slotOff
  let s := if ran then s.fault pPsh 0 else s
  ((({ s with psh.inserted := false }).clearCard.pshState .empty).irq 6).emit (.msix 6)

/-! Transfers -/

/-- The next block of a READ is asked for.
(DEDUCED, log entry 208.) -/
def State.readNext (s : State) (lba buf count done : Nat) : State :=
  if done < count then
    s.nextBlock (.read lba buf count done)
  else (({ s with psh.job := none, psh.held := false }).pshState .ready).pshEnd cdOk

/-- Blocks of a write transaction. -/
def State.wCount (s : State) : Nat := s.psh.lbas.length
def State.wJob (s : State) (step j buf done : Nat) : State := { s with psh.job := some (CardJob.write step j buf done) }

/-- A write transaction moves to a step, with its first act (R466). -/
def State.writeStep (s : State) (step j buf : Nat) : State :=
  let s := s.wJob step j buf 0
  match step with
  | 1 => s.nvmJournal 1 (jBase j) 17 []
  | 2 => ({ s with psh.old := [] }).blockStart
  | 31 => s.nvmJournal 2 (jBase j + 0x20) 18
      (jHeader (s.jNext).2 (s.octetRegs pPsh (Reg.Psh.CARD_HASH 0) 8) s.psh.lbas)
  | 32 => s.nvmJournal 2 (jBase j + 0x1000) (16 * s.wCount) s.psh.old
  | 33 => s.nvmJournal 2 (jBase j) 1 (jBits [0])
  | 4 => s.blockStart
  | 41 => s.nvmJournal 2 (jBase j) 1 (jBits [1])
  | 51 => s.cardCmd 13 0 []
  | 52 => s.nvmJournal 2 (jBase j) 1 (jBits [2])
  | 6 => s.blockStart
  | 61 => s.nvmJournal 2 (jBase j) 1 (jBits [3])
  | _ => s

/-- A write ends OK (R466). -/
def State.writeDone (s : State) : State := (({ s with psh.job := none, psh.held := false }).pshState .ready).pshEnd cdOk

/-- A restore ends: the entry is DONE and RESTORED, JRNL_STA names it as it was found, FLT_STA bit [3] (R467, R468). -/
def State.restoreDone (s : State) (j found : Nat) (startup : Bool) : State :=
  let s := (s.jrnlSta j found true (s.flag pPsh Reg.Psh.JRNL_STA 6) (s.jSeq j)).fault pPsh 3
  if startup then s.recoverFrom (2 - j) else (({ s with psh.job := none, psh.held := false }).pshState .ready).pshEnd cdRestored

/-- A restore fails with the card present: the entry stays pending (R467, R468). -/
def State.restoreFailed (s : State) (j : Nat) (startup : Bool) : State :=
  let s := s.fault pPsh 4
  if startup then s.recoverFrom (2 - j) else (({ s with psh.job := none, psh.held := false }).pshState .ready).pshEnd cdRecoverFail

/-- An error in a command, with the card present or CD_DET_N high (R460, R467): before an entry is OPEN the card is unchanged;
from then on its old content is written back. -/
def State.cardError (s : State) (res : Nat) (detHigh : Bool) : State :=
  match s.psh.job with
  | some (.start step tries mode r) =>
    if res = cdTimeout then s.startTimeout step tries mode r else s.startAnswer step tries mode r .error
  | none => s
  | some job =>
    if detHigh then s.cardGone
    else
      let s := s.fault pPsh 2
      match job with
      | .write step j _ _ =>
        if step = 4 ∨ step = 5 ∨ step = 51 ∨ step = 6 then (s.pshState .recover).restoreNext j 0 false
        else (({ s with psh.job := none, psh.held := false }).pshState .ready).pshEnd res
      | .restore _ j _ startup => s.restoreFailed j startup
      | .boot _ _ _ => ({ s with psh.job := none, psh.held := false }).pshState .ready
      | _ => (({ s with psh.job := none, psh.held := false }).pshState .ready).pshEnd res

/-- Something has been asked of the card that it has still to answer, or to finish: nothing while the next block is held (R229), nor
while the MRAM works on the journal (R466).
(DEDUCED, log entry 209.) -/
def State.cardAsked (s : State) : Bool :=
  !s.psh.held && match s.psh.job with
    | none => false
    | some (.write step _ _ _) => step == 2 || step == 4 || step == 5 || step == 51 || step == 6
    | some (.restore step _ _ _) => step == 4 || step == 5 || step == 51
    | some _ => true

/-- The card answers; `detHigh` is CD_DET_N where the answer is an error (R460 to R468).
(DEDUCED, log entry 209.) -/
def State.cardAnswer (s : State) (a : CardAnswer) (detHigh : Bool) : State :=
  if !s.cardAsked then s
  else match s.psh.job with
  | none => s
  | some (.start step tries mode r) => s.startAnswer step tries mode r a
  | some (.read lba buf count done) =>
    match a with
    | .block bs =>
      let s := s.byFlit pPsh (fun s => s.writeMem rgCsram (buf - 0x20000000 + 512 * done) ((bs ++ zeros 512).take 512))
      ((s.setFld pPsh Reg.Psh.PSH_RES 15 8 (done + 1)).stopAfter (count ≠ 1 && done + 1 = count)).readNext lba buf count (done + 1)
    | .error => s.cardError cdErr detHigh
    | _ => s
  | some (.boot lba count got) =>
    match a with
    | .block bs =>
      let got := got ++ (bs ++ zeros 512).take 512
      if got.length < 512 * count then s.nextBlock (.boot lba count got)
      else { s with psh.job := some (CardJob.boot lba count got) }
    | .error => s.cardError cdErr detHigh
    | _ => s
  | some (.write step j buf done) =>
    match step, a with
    | 2, .block bs =>
      let s := { s with psh.old := s.psh.old ++ (bs ++ zeros 512).take 512 }
      if done + 1 < s.wCount then s.nextBlock (.write 2 j buf (done + 1)) else s.writeStep 31 j buf
    | 4, .crc true =>
      let s := s.setFld pPsh Reg.Psh.PSH_RES 15 8 (done + 1)
      let s := s.stopAfter (runJoins s.wLba done && !runGoes s.wLba s.wCount done)
      if done + 1 < s.wCount then s.nextBlock (.write 4 j buf (done + 1)) else s.writeStep 41 j buf
    | 51, .status true => s.writeStep 52 j buf
    | 6, .block bs =>
      if bs ≠ s.peekMem rgCsram (buf - 0x20000000 + 512 * done) 512 then s.cardError cdErr false
      else if done + 1 < s.wCount then s.nextBlock (.write 6 j buf (done + 1))
      else s.writeStep 61 j buf
    | _, .crc false => s.cardError cdErr detHigh
    | _, .status false => s.cardError cdErr detHigh
    | _, .error => s.cardError cdErr detHigh
    | _, _ => s
  | some (.restore step j done startup) =>
    match step, a with
    | 4, .crc true =>
      (s.stopAfter (runJoins (s.jLba j) done && !runGoes (s.jLba j) (s.jCount j) done)).restoreNext j (done + 1) startup
    | 51, .status true =>
      ({ s with psh.job := some (CardJob.restore 61 j done startup) }).nvmJournal 2 (jBase j) 1 (jBits [3, 4])
    | _, .crc false => s.cardError cdErr detHigh
    | _, .status false => s.cardError cdErr detHigh
    | _, .error => s.cardError cdErr detHigh
    | _, _ => s

/-- DAT0 is released after the card's busy (R466). -/
def State.cardReleased (s : State) : State :=
  match s.psh.job with
  | some (.write 5 j buf _) => s.writeStep 51 j buf
  | some (.restore 5 j done startup) => ({ s with psh.job := some (CardJob.restore 51 j done startup) }).cardCmd 13 0 []
  | _ => s

/-- The busy has lasted beyond 500 ms (R467). -/
def State.cardBusyTimeout (s : State) (detHigh : Bool) : State :=
  match s.psh.job with
  | some (.write 5 _ _ _) => s.cardError cdErr detHigh
  | some (.restore 5 _ _ _) => s.cardError cdErr detHigh
  | _ => s

/-- No answer within its limit, or a wait of start-up elapses (R461). -/
def State.cardTimeout (s : State) (detHigh : Bool) : State := if s.cardAsked then s.cardError cdTimeout detHigh else s

/-- The journal operation that a step waited for has been performed (R466, R468). -/
def State.journalDone (s : State) : State :=
  match s.psh.job with
  | some (.write 1 j buf _) => s.writeStep 2 j buf
  | some (.write 31 j buf _) => s.writeStep 32 j buf
  | some (.write 32 j buf _) => s.writeStep 33 j buf
  | some (.write 33 j buf _) => s.pshShow.writeStep 4 j buf
  | some (.write 41 j buf _) => s.writeStep 5 j buf
  | some (.write 52 j buf _) => s.writeStep (if s.flag pPsh Reg.Psh.PSH_CFG 3 then 6 else 61) j buf
  | some (.write 61 _ _ _) => s.writeDone
  | _ => s

/-- A unit of the NVM controller completes: a journal operation that ends lets its step go on, and one that waits starts
(R399, R464, R466). -/
def State.nvmUnit (s : State) : State :=
  let journal := match s.nvm.run with | some r => r.journal && r.unitOn | none => false
  let found := match s.psh.job with | some (.restore 61 j _ _) => s.jState j | _ => 0
  let s := s.nvmUnitDone
  match s.nvm.run with
  | some _ => s
  | none =>
    if journal then match s.psh.job with
      | some (.restore 61 j _ startup) => s.restoreDone j found startup
      | _ => s.journalDone
    else match s.nvm.jwait with
      | some r => ({ s with nvm.jwait := none }).nvmJournal r.op r.off r.count r.data
      | none => s

/-! Commands -/

/-- An address of n octets that PSH_CMD takes: in control SRAM and 32-octet aligned (R462). -/
def cardAddrOk (a n : Nat) : Bool := inCsram a n && decide (a % 32 = 0)
/-- Blocks of the card. -/
def State.cardBlocks (s : State) : Nat := (s.fld pPsh Reg.Psh.CARD_INFO 29 8 + 1) * 1024

/-- READ (R462). -/
def State.cardRead (s : State) (count : Nat) : State :=
  let lba := (s.reg pPsh Reg.Psh.PSH_LBA).toNat
  let buf := (s.reg pPsh Reg.Psh.PSH_BUF).toNat
  if s.psh.st ≠ .ready then s.pshEnd cdState
  else if count = 0 ∨ 128 < count ∨ s.cardBlocks < lba + count then s.pshEnd cdBadArg
  else if !cardAddrOk buf (512 * count) then s.pshEnd cdAddr
  else (s.pshState .xfer).readNext lba buf count 0

/-- WRITE (R462, R463, R466). -/
def State.cardWrite (s : State) (count : Nat) : State :=
  let list := (s.reg pPsh Reg.Psh.PSH_LIST).toNat
  let buf := (s.reg pPsh Reg.Psh.PSH_BUF).toNat
  let paired := s.cln.st == .attachId || s.cln.st == .attachXfer || s.cln.st == .inStep
  if s.psh.st ≠ .ready then s.pshEnd cdState
  else if paired && !s.hasRole 4 then s.pshEnd cdRole
  else if count = 0 ∨ 128 < count then s.pshEnd cdBadArg
  else if !cardAddrOk list (4 * count) || !cardAddrOk buf (512 * count) then s.pshEnd cdAddr
  else
    let (bs, p, s) := s.readMem rgCsram (list - 0x20000000) (4 * count)
    let lbas := (chunks 4 bs).map leNat
    if p then (s.poisonRead rgCsram (list - 0x20000000) (4 * count) false).pshEnd cdBadArg
    else if lbas.any (fun l => decide (s.cardBlocks ≤ l)) || decide (lbas.eraseDups.length ≠ lbas.length) then s.pshEnd cdBadArg
    else if s.jAny then s.pshEnd cdPending
    else
      let s := ({ s with psh.lbas := lbas }).pshState .xfer
      let (j, _) := s.jNext
      s.writeStep (if s.jErased j then 2 else 1) j buf

/-- SLEEP_CLK, SLEEP_OFF and WAKE (R470). -/
def State.cardSleep (s : State) (off : Bool) : State :=
  if s.psh.st ≠ .ready then s.pshEnd cdState
  else if off then (s.slotOff.pshState .sleepOff).pshEnd cdOk else (s.pshState .sleepClk).pshEnd cdOk
def State.cardWake (s : State) : State :=
  let mode := s.fld pPsh Reg.Psh.CARD_INFO 2 0
  match s.psh.st with
  | .sleepClk => if mode = 5 then (s.startStep 70 0 5 false).cardCmd 19 0 [] else s.cardReady
  | .sleepOff => s.cardStart false
  | _ => s.pshEnd cdState

/-- DISCARD from CORE: every pending entry is DONE and DISCARDED, and the Gatehouse notes it (R469).
(DEDUCED, log entry 126.) -/
def State.cardDiscard (s : State) (by_ : Port) : State :=
  if by_ != .core then s.pshEnd cdState
  else
    let s := (List.range 3).foldl (fun s j => if s.jPending j then s.mramProgram (jBase j) (jBits [3, 5]) else s) s
    (((s.setFlag pPsh Reg.Psh.JRNL_STA 6 false).gthLog logNotice none pPsh Reg.Psh.PSH_CMD).pshShow).pshEnd cdOk

/-- PSH_CMD written by CORE or BOOT (R462).
(DEDUCED, log entry 124.) -/
def State.pshCommand (s : State) (by_ : Port) (v : Word) : State :=
  if bits v 23 16 ≠ 0x5D ∨ s.pshBusy then s.refuseWrite by_ pPsh Reg.Psh.PSH_CMD
  else
    let count := bits v 15 8
    let s := (s.setFlag pPsh Reg.Psh.PSH_CMD 31 true).setFld pPsh Reg.Psh.PSH_RES 15 8 0
    match bits v 2 0 with
    | 1 => s.cardRead count
    | 2 => s.cardWrite count
    | 3 => s.cardSleep false
    | 4 => s.cardSleep true
    | 5 => s.cardWake
    | 6 => s.cardDiscard by_
    | _ => s.pshEnd cdState

end Sys2Proof.Machine
end

