-- ==== Sys2Proof/Machine/Kiosk.lean ====
section
/-!
DEFINITION. The Kiosk tag (chapter 17): field domain, tag states, inventory and tree walk, records with their two-copy
commit, password and AES authentication, and the commands of KSK_CMD. Register access from the tag stands with the
Gatehouse's access operations.
-/
namespace Sys2Proof.Machine

/-! Field domain -/

/-- VDDIO18 is in range (R477). -/
def State.mainUp (s : State) : Bool := !s.pwr.vddio18Lost

/-- Cause n of the KSK page: without the main domain the FLT_STA bit alone is set (R494). -/
def State.kskFault (s : State) (n : Nat) : State :=
  if s.mainUp then s.fault pKsk n else s.setFlag pKsk Reg.Hdr.FLT_STA n true

/-- Octets for a handle or a nonce: from the Fountain where BOOT_STA.FTN_RDY is 1, otherwise from the ring oscillator
(R482, R487). -/
def State.kskDraw (s : State) (n : Nat) : List Byte × State :=
  if s.mainUp && s.flag pLdg Reg.Ldg.BOOT_STA 10 then s.ftnDraw n else s.drawOctets n

/-- The UID: MC, then octets 10 to 15 of DEVICE_ID (R480).
(DESIGN CHOICE, log entry 24.) -/
def State.uid (s : State) : List Byte := Config.manufacturerCode :: (s.deviceId.drop 10).take 6

/-- UID CLn with its BCC, 5 octets (R484). -/
def State.uidCl (s : State) (level : Nat) : List Byte :=
  let u := s.uid
  let c := if level = 1 then (0x88 : Byte) :: u.take 3 else u.drop 3
  c ++ [c.foldl (· ^^^ ·) 0]

/-- A reader's field appears; it interrupts Ndear-C where KFD_IRQ asks (R479, R508).
(DEDUCED, log entry 134.) -/
def State.fieldAppear (s : State) (strong : Bool) : State :=
  if s.ksk.field then { s with ksk.strong := strong }
  else
    let s := { s with kfd := true, ksk.field := true, ksk.strong := strong, ksk.st := .idle }
    if s.mainUp && s.flag pKsk Reg.Ksk.KSK_CFG 3 then (s.irq 2).emit (.msix 4) else s

/-- The security sub-state and the session it holds end. -/
def State.tagOpen (s : State) : State := { s with ksk.auth := .open, ksk.ks := none, ksk.ctr := 0, ksk.nb := none }

/-- The field collapses: the protocol controller is reset to POWER_OFF, staging buffer and session state go (R478). Without
VDDIO18 the domain loses its supply, and with it the KSK registers and the 100 ms of R486.
(DEDUCED, log entries 134, 211.) -/
def State.fieldCollapse (s : State) : State :=
  if !s.ksk.field then s
  else
    let s := s.tagOpen
    let s := { s with kfd := false, ksk.field := false, ksk.strong := false, ksk.st := .powerOff, ksk.star := false
                      ksk.level := 1, ksk.handle := 0, ksk.slotCtr := 0, ksk.staging := [], ksk.holdoff := s.ksk.holdoff && s.mainUp }
    if s.mainUp then s else s.clearPage pKsk (fun _ => false)

/-- A word write can be supported (R478). -/
def State.canWriteTag (s : State) : Bool := s.mainUp || s.ksk.strong

/-! Tag states -/

/-- A frame not valid in READY or ACTIVE: IDLE, or HALT in the star states (R481).
(DEDUCED, log entry 132.) -/
def State.tagInvalid (s : State) : State :=
  let s := s.tagOpen
  { s with ksk.st := if s.ksk.star then .halt else .idle, ksk.star := false, ksk.level := 1 }

/-- A frame that is no command of the state it meets: READY and ACTIVE are left, INVENTORY and HALT ignore it, IDLE stays
(R481, R482).
(DEDUCED, log entry 132.) -/
def State.tagStray (s : State) : State :=
  match s.ksk.st with
  | .ready => s.tagInvalid
  | .active => s.tagInvalid
  | _ => s

/-- READY at cascade level 1. -/
def State.tagReady (s : State) (star : Bool) : State :=
  { s with ksk.st := .ready, ksk.star := star, ksk.level := 1 }

/-- ATQA 0x0048 (R480), low octet first. -/
abbrev atqa : List Byte := [0x48, 0x00]

/-- REQA, or WUPA (R481). -/
def State.tagRequest (s : State) (wupa : Bool) : State :=
  match s.ksk.st with
  | .idle => (s.tagReady false).emit (.tag atqa)
  | .halt => if wupa then (s.tagReady true).emit (.tag atqa) else s
  | _ => s.tagStray

/-- The bits of n octets from bit k on, with the bits below k of a split octet zero. -/
def fromBit (bs : List Byte) (k : Nat) : List Byte :=
  match bs.drop (k / 8) with
  | [] => []
  | b :: rest => (b >>> (k % 8)) <<< (k % 8) :: rest

/-- The first k bits of two runs of octets agree. -/
def sameBits (a b : List Byte) (k : Nat) : Bool := decide (leNat a % 2 ^ k = leNat b % 2 ^ k)

/-- ANTICOLLISION at a cascade level with k valid bits (R484): the remaining bits of UID CLn and the BCC.
(DEDUCED, log entry 132.) -/
def State.tagAnticollision (s : State) (level k : Nat) (uid : List Byte) : State :=
  match s.ksk.st with
  | .ready =>
    let c := s.uidCl s.ksk.level
    if level = s.ksk.level ∧ sameBits c uid k = true then s.emit (.tag (fromBit c k)) else s.tagInvalid
  | _ => s.tagStray

/-- SELECT with UID CLn and BCC (R481, R480): SAK 0x04 at level 1; at level 2 SAK 0x00 and ACTIVE, OPEN. -/
def State.tagSelect (s : State) (level : Nat) (uid : List Byte) (crcOk : Bool) : State :=
  match s.ksk.st with
  | .ready =>
    if level = s.ksk.level ∧ uid = s.uidCl level ∧ crcOk = true then
      if level = 1 then { s with ksk.level := 2 }.emit (.tag [0x04])
      else
        let s := s.tagOpen.countFld pKsk Reg.Ksk.KSK_CNT 23 8 1
        { s with ksk.st := .active }.emit (.tag [0x00])
    else s.tagInvalid
  | _ => s.tagStray

/-! Answers -/

/-- Result octets of R485. -/
abbrev rcOk : Byte := 0x00
abbrev rcBadArg : Byte := 0xE0
abbrev rcCrc : Byte := 0xE1
abbrev rcNotPermitted : Byte := 0xE2
abbrev rcLowField : Byte := 0xE4
abbrev rcNoMain : Byte := 0xE5
abbrev rcStale : Byte := 0xE6
abbrev rcAuth : Byte := 0xE7
abbrev rcMac : Byte := 0xE8

/-- The MAC of a frame under the session key and the counter (R488).
(DEDUCED, log entry 133.) -/
def State.tagMac (s : State) (frame : List Byte) : List Byte :=
  (cmac (s.ksk.ks.getD []) (natOctets 2 s.ksk.ctr ++ frame)).take 8

/-- An answer: in SECURED_AES it ends with its MAC, and the counter moves on (R485, R488).
(DEDUCED, log entry 133.) -/
def State.tagAnswer (s : State) (bs : List Byte) : State :=
  match s.ksk.auth with
  | .aes => { s with ksk.ctr := (s.ksk.ctr + 1) % 65536 }.emit (.tag (bs ++ s.tagMac bs))
  | _ => s.emit (.tag bs)

/-- An answer that is a result other than OK.
(DEDUCED, log entry 133.) -/
def State.tagRefuse (s : State) (rc : Byte) : State := s.tagAnswer [rc]

/-- A frame of R485's table meets the tag: outside ACTIVE it is a stray frame; a CRC_A failure is answered and otherwise
ignored; in SECURED_AES its MAC is checked and the counter moves on, a failure returns the tag to OPEN (R485, R488). -/
def State.tagCommand (s : State) (crcOk : Bool) (frame mac : List Byte) (f : State → State) : State :=
  match s.ksk.st with
  | .active =>
    if !crcOk then s.tagRefuse rcCrc
    else match s.ksk.auth with
      | .aes =>
        if mac = s.tagMac frame then f { s with ksk.ctr := (s.ksk.ctr + 1) % 65536 }
        else (s.tagOpen.kskFault 4).tagRefuse rcMac
      | _ => f s
  | _ => s.tagStray

/-- HLTA (R481): HALT, without an answer. -/
def State.tagHalt (s : State) (crcOk : Bool) (mac : List Byte) : State :=
  s.tagCommand crcOk [0x50, 0x00] mac (fun s =>
    let s := s.tagOpen
    { s with ksk.st := .halt, ksk.star := false, ksk.level := 1 })

/-! Inventory -/

/-- A tag answers its handle in its slot (R482). -/
def State.tagSlotAnswer (s : State) : State :=
  if s.ksk.handle % 16 = s.ksk.slotCtr then s.emit (.tag (natOctets 2 s.ksk.handle)) else s

/-- An inventory frame met in ACTIVE with a failing CRC_A is answered (R485); elsewhere it is a stray frame. -/
def State.tagInvStray (s : State) (crcOk : Bool) : State :=
  if s.ksk.st == .active && !crcOk then s.tagRefuse rcCrc else s.tagStray

/-- INV_BEGIN (R482). -/
def State.invBegin (s : State) (haltToo crcOk : Bool) : State :=
  let ok := crcOk && (s.ksk.st == .idle || s.ksk.st == .inventory || (s.ksk.st == .halt && haltToo))
  if ok then
    let (h, s) := s.kskDraw 2
    { s with ksk.st := .inventory, ksk.star := false, ksk.handle := leNat h, ksk.slotCtr := 0 }.tagSlotAnswer
  else s.tagInvStray crcOk

/-- INV_NEXT (R482): past slot 15 nothing is answered. -/
def State.invNext (s : State) (crcOk : Bool) : State :=
  if s.ksk.st == .inventory then
    if crcOk then { s with ksk.slotCtr := min 16 (s.ksk.slotCtr + 1) }.tagSlotAnswer else s
  else s.tagInvStray crcOk

/-- INV_ACK with a handle (R482). -/
def State.invAck (s : State) (handle : Nat) (crcOk : Bool) : State :=
  if s.ksk.st == .inventory then
    if crcOk ∧ s.ksk.handle % 16 = s.ksk.slotCtr ∧ handle = s.ksk.handle then
      (s.tagReady false).emit (.tag s.uid)
    else s
  else s.tagInvStray crcOk

/-- INV_TREE (R482). -/
def State.invTree (s : State) (crcOk : Bool) : State :=
  if s.ksk.st == .inventory then
    if crcOk ∧ s.ksk.handle % 16 = s.ksk.slotCtr then s.tagReady false else s
  else s.tagInvStray crcOk

/-! Records -/

/-- The octets of each record (R490). -/
def recLen (r : Nat) : Nat := if r = 1 then 32 else if r = 3 then 128 else 64

/-- The MRAM offset of a copy (R490). -/
def copyAt (r : Nat) (b : Bool) : Nat := 0x200 * r + 0x100 * b2n b

/-- The commit word (R490). -/
def commitWord : List Byte := natOctets 4 0xC3A55A3C ++ zeros 28

/-- The header word of a copy (R490). -/
def copyHeader (r seq : Nat) (data : List Byte) : List Byte :=
  natOctets 2 seq ++ [BitVec.ofNat 8 r, BitVec.ofNat 8 (recLen r)] ++ natOctets 4 (crc32 data) ++ List.replicate 24 0xFF

/-- A copy as read: its SEQ and data where it is valid (R490). -/
def State.readCopy (s : State) (r : Nat) (b : Bool) : Option (Nat × List Byte) × State :=
  let n := recLen r
  let (bs, bad, s) := s.readMem rgKiosk (copyAt r b) (32 + n + 32)
  let data := (bs.drop 32).take n
  let ok := !bad && decide ((bs.drop (32 + n)).take 32 = commitWord) && decide ((bs.getD 2 0).toNat = r) &&
    decide ((bs.getD 3 0).toNat = n) && decide (leNat ((bs.drop 4).take 4) = crc32 data)
  (if ok then some (leNat (bs.take 2), data) else none, if bad then s.poisonRead rgKiosk (copyAt r b) (32 + n + 32) false else s)

/-- Copy A is the newer of two valid copies (R490). -/
def newerA (a b : Nat) : Bool := let d := (a + 65536 - b % 65536) % 65536; decide (1 ≤ d) && decide (d ≤ 32767)

/-- The newer valid copy of a record, and which copy that is; an invalid copy beside a valid one is reported (R490).
(DEDUCED, log entry 137.) -/
def State.readRecord (s : State) (r : Nat) : Option (Bool × Nat × List Byte) × State :=
  let (a, s) := s.readCopy r false
  let (b, s) := s.readCopy r true
  match a, b with
  | some (x, dx), some (y, dy) => (some (if newerA x y then (false, x, dx) else (true, y, dy)), s)
  | some (x, dx), none => (some (false, x, dx), s.kskFault 0)
  | none, some (y, dy) => (some (true, y, dy), s.kskFault 0)
  | none, none => (none, s)

/-- The SEQ a record reads.
(DESIGN CHOICE, log entry 25.) -/
def recSeq (r : Nat) : Option (Bool × Nat × List Byte) → Nat
  | some (_, q, _) => q
  | none => (Config.emptySeq r).toNat

/-- The word writes of steps 2 to 4 of R491 on copy b, in order: address and octets.
(DEDUCED, log entry 137.) -/
def copyWrites (r : Nat) (b : Bool) (seq : Nat) (data : List Byte) : List (Nat × List Byte) :=
  let base := copyAt r b
  let words := chunks 32 (copyHeader r seq data ++ data)
  [(base + 32 + recLen r, zeros 32)] ++ words.zipIdx.map (fun (w : List Byte × Nat) => (base + 32 * w.2, w.1)) ++
    [(base + 32 + recLen r, commitWord)]

/-- Steps 2 to 4 of R491: the first n word writes, or all; the other copy than the newer valid one is written. Answers the
new SEQ.
(DEDUCED, log entry 137.) -/
def State.writeRecord (s : State) (r : Nat) (cur : Option (Bool × Nat × List Byte)) (data : List Byte)
    (n : Option Nat) : Nat × State :=
  let t := match cur with | some (b, _, _) => !b | none => false
  let seq := (recSeq r cur + 1) % 65536
  let ws := copyWrites r t seq data
  let ws := match n with | some k => ws.take k | none => ws
  (seq, ws.foldl (fun s (w : Nat × List Byte) => s.writeMem rgKiosk w.1 w.2) s)

/-- The STATUS octet of READ_REC (R485). -/
def State.tagStatus (s : State) (valid : Bool) : Byte :=
  BitVec.ofNat 8 (b2n valid + 2 * b2n s.mainUp + 4 * b2n (s.mainUp && s.errN) + 8 * b2n (s.ksk.auth != .open))

/-- READ_REC of 16 octets (R485). -/
def State.tagReadRec (s : State) (r ofs : Nat) (crcOk : Bool) (mac : List Byte) : State :=
  s.tagCommand crcOk [0x3C, BitVec.ofNat 8 r, BitVec.ofNat 8 ofs] mac (fun s =>
    if 5 ≤ r ∨ recLen r ≤ 16 * ofs then s.tagRefuse rcBadArg
    else
      let (c, s) := s.readRecord r
      let data := match c with | some (_, _, d) => (d.drop (16 * ofs)).take 16 | none => zeros 16
      s.tagAnswer ([rcOk] ++ natOctets 2 (recSeq r c) ++ [s.tagStatus c.isSome] ++ data))

/-- NOTE_STAGE of 16 octets (R485).
(DEDUCED, log entry 136.) -/
def State.noteStage (s : State) (ofs : Nat) (data : List Byte) (crcOk : Bool) (mac : List Byte) : State :=
  s.tagCommand crcOk ([0x6A, BitVec.ofNat 8 ofs] ++ data) mac (fun s =>
    if s.ksk.auth == .open then s.tagRefuse rcNotPermitted
    else if 4 ≤ ofs then s.tagRefuse rcBadArg
    else { s with ksk.staging := smPut s.ksk.staging ofs data }.tagAnswer [rcOk])

/-- The staged note; a unit that was never staged holds what the buffer held, which nothing states.
(DEDUCED, log entry 136.) -/
def State.stagedNote (s : State) : List Byte × State :=
  [0, 1, 2, 3].foldl (fun (acc : List Byte × State) i =>
    let (d, s) := acc.2.drawOctets 16
    match acc.2.ksk.staging.find? (fun (e : Nat × List Byte) => e.1 == i) with
    | some e => (acc.1 ++ e.2, acc.2)
    | none => (acc.1 ++ d, s)) ([], s)

/-- NOTE_COMMIT (R491). The field may collapse after the first n word writes, and no answer is then sent (R478).
(DEDUCED, log entry 136.) -/
def State.noteCommit (s : State) (seq : Nat) (cut : Option Nat) (crcOk : Bool) (mac : List Byte) : State :=
  s.tagCommand crcOk ([0x6C] ++ natOctets 2 seq) mac (fun s =>
    if s.ksk.auth == .open then s.tagRefuse rcNotPermitted
    else
      let (c, s) := s.readRecord 4
      if seq ≠ recSeq 4 c then s.tagRefuse rcStale
      else if !s.canWriteTag then s.tagRefuse rcLowField
      else
        let (data, s) := s.stagedNote
        let (q, s) := s.writeRecord 4 c data cut
        match cut with
        | some _ => s.fieldCollapse
        | none => (s.kskFault 5).tagAnswer ([rcOk] ++ natOctets 2 q))

/-! Password -/

/-- A password failure (R486): the eighth in a row blocks.
(DEDUCED, log entry 135.) -/
def State.pwdFail (s : State) : State :=
  let n := min 255 (s.ksk.fails + 1)
  let s := { s with ksk.fails := n, ksk.holdoff := true }.kskFault 1
  let s := if n = 8 then { s with ksk.blocked := true }.kskFault 2 else s
  s.tagRefuse rcAuth

/-- PWD_AUTH (R486).
(DEDUCED, log entry 135.) -/
def State.pwdAuth (s : State) (pwd : List Byte) (crcOk : Bool) (mac : List Byte) : State :=
  s.tagCommand crcOk ([0x74] ++ pwd) mac (fun s =>
    if s.ksk.auth != .open then s.tagRefuse rcNotPermitted
    else if s.ksk.holdoff then s.tagRefuse rcAuth
    else if s.flag pKsk Reg.Ksk.KSK_CFG 0 && s.ksk.pwdSet && !s.ksk.blocked && decide (pwd = s.ksk.pwd) then
      { s with ksk.fails := 0, ksk.auth := .pwd, ksk.nb := none }.tagAnswer [rcOk]
    else s.pwdFail)

/-- 100 ms after a failure PWD_AUTH is compared again (R486). -/
def State.pwdHoldoffEnd (s : State) : State := { s with ksk.holdoff := false }

/-! AES authentication -/

/-- AUTH_1 (R487): NB. -/
def State.auth1 (s : State) (keyNo : Nat) (crcOk : Bool) (mac : List Byte) : State :=
  s.tagCommand crcOk [0x82, BitVec.ofNat 8 keyNo] mac (fun s =>
    if s.ksk.auth != .open || !s.flag pKsk Reg.Ksk.KSK_CFG 1 || s.ksk.key.isNone then s.tagRefuse rcNotPermitted
    else if keyNo ≠ 0 then s.tagRefuse rcBadArg
    else
      let (nb, s) := s.kskDraw 16
      { s with ksk.nb := some nb }.tagAnswer ([rcOk] ++ nb))

/-- AUTH_2 (R487): TR is checked; TT answers it, and the session key is KS with its counter at 0. -/
def State.auth2 (s : State) (na tr : List Byte) (crcOk : Bool) (mac : List Byte) : State :=
  s.tagCommand crcOk ([0x84] ++ na ++ tr) mac (fun s =>
    match s.ksk.auth, s.ksk.nb, s.ksk.key with
    | .open, some nb, some k =>
      let u := s.uid
      let s := { s with ksk.nb := none }
      if tr = cmac k ([0x01] ++ u ++ nb ++ na) then
        let s := s.tagAnswer ([rcOk] ++ cmac k ([0x02] ++ u ++ na ++ nb))
        { s with ksk.auth := .aes, ksk.ks := some (cmac k ([0x03] ++ u ++ na ++ nb)), ksk.ctr := 0 }
      else (s.kskFault 3).tagRefuse rcAuth
    | _, _, _ => s.tagRefuse rcNotPermitted)

/-! KSK_CMD -/

/-- A KSK_CMD ends with a RESULT (R495). -/
def State.kskEnd (s : State) (res : Nat) : State := s.setFld pKsk Reg.Ksk.KSK_RES 7 0 res

/-- READ_REC of R493. -/
def State.kskReadRec (s : State) (r : Nat) : State :=
  if 5 ≤ r then s.kskEnd 2
  else match s.readRecord r with
    | (none, s) => s.kskEnd 3
    | (some (_, q, d), s) =>
      ((s.setOctetRegs pKsk (Reg.Ksk.KSK_DATA 0) d).setFld pKsk Reg.Ksk.KSK_RES 31 16 q).kskEnd 0

/-- WRITE_REC of R493 and R491. -/
def State.kskWriteRec (s : State) (r : Nat) : State :=
  if 5 ≤ r then s.kskEnd 2
  else
    let (c, s) := s.readRecord r
    let data := (s.octetRegs pKsk (Reg.Ksk.KSK_DATA 0) 32).take (recLen r)
    let (q, s) := s.writeRecord r c data none
    (s.setFld pKsk Reg.Ksk.KSK_RES 31 16 q).kskEnd 0

/-- KEY_FROM_SLOT of R493: SLOT_KEY unless the CUR key is AES-128 with USAGE FW. -/
def State.kskKeyFromSlot (s : State) (slot : Nat) : State :=
  match (s.slot slot).cur with
  | some k =>
    if k.typ = 1 ∧ k.usage.testBit useFw = true then { s with ksk.key := some k.key }.kskEnd 0 else s.kskEnd 4
  | none => s.kskEnd 4

/-- KEY_CLEAR of R493.
(DEDUCED, log entry 138.) -/
def State.kskKeyClear (s : State) : State := { s with ksk.key := none }.kskEnd 0

/-- PWD_SET of R493: 0 disables. -/
def State.kskPwdSet (s : State) : State :=
  let w := s.reg pKsk (Reg.Ksk.KSK_DATA 0)
  { s with ksk.pwd := wordOctets w, ksk.pwdSet := decide (w ≠ 0), ksk.blocked := false, ksk.fails := 0 }.kskEnd 0

/-- PWD_UNBLOCK of R493. -/
def State.kskPwdUnblock (s : State) : State := { s with ksk.blocked := false, ksk.fails := 0 }.kskEnd 0

/-- A write of KSK_CMD by CORE (R493).
(DEDUCED, log entry 138.) -/
def State.kskCommand (s : State) (by_ : Port) (v : Word) : State :=
  if bits v 15 8 ≠ 0x4B then s.refuseWrite by_ pKsk Reg.Ksk.KSK_CMD
  else
    let r := bits v 5 3
    match bits v 2 0 with
    | 1 => s.kskReadRec r
    | 2 => s.kskWriteRec r
    | 3 => s.kskKeyFromSlot (bits v 28 16)
    | 4 => s.kskKeyClear
    | 5 => s.kskPwdSet
    | 6 => s.kskPwdUnblock
    | _ => s.kskEnd 2

/-- STA.BLK of the KSK page, bits [31:8] (R494). -/
def State.kskSta (s : State) : Nat :=
  256 * b2n s.ksk.field + 512 * b2n (s.ksk.st == .active) +
  1024 * (match s.ksk.auth with | .open => 0 | .pwd => 1 | .aes => 2) + 4096 * b2n s.ksk.key.isSome +
  8192 * b2n s.ksk.pwdSet + 16384 * b2n s.ksk.blocked

end Sys2Proof.Machine
end

