-- ==== Sys2Proof/Machine/SelfTest.lean ====
section
/-!
DEFINITION. The built-in self-test (chapter 19): how a test starts, what it keeps from others while it runs, and how it
ends. What a test measures is told by the command that ends it.
-/
namespace Sys2Proof.Machine

/-- Results of BST_RES (R533). -/
abbrev bstPass : Nat := 1
abbrev bstFail : Nat := 2
abbrev bstRefused : Nat := 3
abbrev bstAborted : Nat := 4
/-- Details of BST_RES. -/
abbrev bstInUse : Nat := 1
abbrev bstBadArg : Nat := 2
abbrev bstField : Nat := 3
abbrev bstReset : Nat := 4
abbrev bstFence : Nat := 5
abbrev bstActive : Nat := 6

/-- The light, supply, clock and other sources REF_HEDGE can select: bits 0, 1 and 3 to 6 (R524). -/
abbrev hedgeTestMask : Nat := 0x7B

/-- An ARG0 and COUNT in the range of a test (R524, R528). -/
def bstArgsOk (test target count : Nat) : Bool :=
  match test with
  | 1 => decide (target < 64) && decide (1 ≤ count)
  | 2 => decide (target % 256 < 64) && decide (1 ≤ count)
  | 3 => decide (target < 8) && decide (1 ≤ count)
  | 4 => decide (1 ≤ count) && decide (count ≤ 255)
  | 7 => decide (target &&& hedgeTestMask = target)
  | 8 => (decide (1 ≤ target) && decide (target ≤ 0x10) || decide (0x20 ≤ target) && decide (target ≤ 0x23)) &&
      decide (1 ≤ count) && decide (count ≤ 64)
  | _ => true

/-- The target of a test is idle (R524, R528). -/
def State.bstIdle (s : State) (test target : Nat) : Bool :=
  match test with
  | 1 => decide (s.fld (pLne target) Reg.Lne.LN_MODE 2 0 = 0)
  | 2 => decide (s.fld (pLne (target % 64)) Reg.Lne.LN_MODE 2 0 = 0)
  | 3 => !s.enabled pCln
  | 4 => !s.ksk.field
  | 8 =>
    if target ≤ 0x10 then !s.enabled (pPrc (target - 1))
    else if target = 0x20 then !s.pglOn && !s.enabled pPtr0
    else if target = 0x21 then !s.pglOn
    else if target = 0x22 then s.arb.phase == .idle
    else !s.enabled pSdl
  | _ => true

/-- The page whose block reset or fence ends a test (R530). -/
def bstPage (test target : Nat) : Option Nat :=
  match test with
  | 1 => some (pLne target)
  | 2 => some (pLne (target % 64))
  | 3 => some pCln
  | 4 => some pKsk
  | 8 =>
    if target ≤ 0x10 then some (pPrc (target - 1)) else if target = 0x20 then some pPtr0
    else if target = 0x21 then some pPav else if target = 0x22 then some pArb else some pSdl
  | _ => none

/-- The registers that hold a target's own state: an LNE page, or a Colonnade lane's CL_* registers (R530). -/
def bstSavedRegs (test target : Nat) : List Nat :=
  match test with
  | 1 => [Reg.Lne.LN_MODE, Reg.Lne.LN_LPBK, Reg.Lne.LN_TXEQ].map (regKey (pLne target))
  | 2 => [Reg.Lne.LN_MODE, Reg.Lne.LN_LPBK, Reg.Lne.LN_TXEQ].map (regKey (pLne (target % 64)))
  | 3 => [Reg.Cln.CL_TXEQ target, Reg.Cln.CL_LPBK target].map (regKey pCln)
  | _ => []

/-- The saved registers go back (R530). -/
def State.bstRestore (s : State) (b : SelfTest) : State :=
  { s with regs := b.saved.foldl (fun m (e : Nat × Word) => smSet regDflt m e.1 e.2) s.regs, hdg.suppressed := [] }

/-- BST_RES is written (R533). -/
def State.bstResult (s : State) (test res detail : Nat) : State :=
  s.setReg pBst Reg.Bst.BST_RES (BitVec.ofNat 32 (test + 16 * res + 256 * detail))

/-- The test ends with a result (R531, R532). -/
def State.bstEnd (s : State) (b : SelfTest) (res detail : Nat) : State :=
  let s := { s with bst := none }.bstResult b.test res detail
  if res = bstFail then s.fault pBst 0 else if res = bstAborted then s.fault pBst 2 else s

/-- A test ends ABORTED, its target restored unless a reset sets it (R527, R530). -/
def State.bstAbort (s : State) (detail : Nat) : State :=
  match s.bst with
  | none => s
  | some b => (if detail = bstReset then { s with hdg.suppressed := [] } else s.bstRestore b).bstEnd b bstAborted detail

/-- A block reset of a page (R530): of the running test's target. -/
def State.bstBlockReset (s : State) (p : Nat) : State :=
  match s.bst with
  | some b => if bstPage b.test b.target = some p then s.bstAbort bstReset else s
  | none => s

/-- A fence of a page (R530): of the running test's target. -/
def State.bstFenced (s : State) (p : Nat) : State :=
  match s.bst with
  | some b => if bstPage b.test b.target = some p then s.bstAbort bstFence else s
  | none => s

/-- A write that a running test keeps from its target: any register of it, but for a CTL write that starts a block reset; and
an enable of the Pergola under a test that needs it off (R530). -/
def State.bstBlocks (s : State) (p o : Nat) (v : Word) : Bool :=
  match s.bst with
  | none => false
  | some b =>
    let srst := decide (o = Reg.Hdr.CTL) && bitAt v 1
    let own := decide (bstPage b.test b.target = some p) &&
      (b.test != 3 || (decide (Reg.Cln.CL_STA b.target ≤ o) && decide (o < Reg.Cln.CL_STA b.target + 0x10)) ||
        decide (o = Reg.Hdr.CTL))
    let pgl := b.test == 8 && (b.target == 0x20 || b.target == 0x21) && decide (p = pPgl) &&
      decide (o = Reg.Hdr.CTL) && bitAt v 0
    (own || pgl) && !srst

/-- REF_HEDGE goes on with the first source from i on: burned ones are skipped, ACTIVE ones fail, the next is put under
stimulus and its raise suppressed, with source 2's beside a light detector (R526); with none left the test ends.
(DEDUCED, log entry 145.) -/
def State.bstHedge (s : State) (b : SelfTest) (i : Nat) : Nat → State
  | 0 =>
    let s := { s with hdg.suppressed := [] }
    let s := s.setReg pBst Reg.Bst.BST_MEAS (BitVec.ofNat 32 (b.failed + 256 * b.skipped))
    s.bstEnd b (if b.failed = 0 then bstPass else bstFail) (if b.active then bstActive else 0)
  | n + 1 =>
    if !b.target.testBit i then s.bstHedge b (i + 1) n
    else if s.hdgDisable.testBit i then s.bstHedge { b with skipped := b.skipped + 2 ^ i } (i + 1) n
    else if s.hdg.active.contains i then s.bstHedge { b with failed := b.failed + 2 ^ i, active := true } (i + 1) n
    else { s with bst := some { b with source := i }, hdg.suppressed := if i ≤ 1 then [i, 2] else [i] }

/-- A test starts and clears the result registers, or is refused, which changes nothing but BST_RES (R524, R528, R533).
(DEDUCED, log entry 145.) -/
def State.bstStart (s : State) (test : Nat) : State :=
  let target := s.fld pBst Reg.Bst.BST_ARG0 8 0
  let count := s.fld pBst Reg.Bst.BST_ARG1 15 0
  if !bstArgsOk test target count then (s.bstResult test bstRefused bstBadArg).fault pBst 1
  else if !s.bstIdle test target then (s.bstResult test bstRefused bstInUse).fault pBst 1
  else
    let s := s.setRegs pBst Reg.Bst.BST_RES 4 [0, 0, 0, 0, 0]
    let b : SelfTest := ⟨test, target, count, (bstSavedRegs test target).map (fun k => (k, smGet regDflt s.regs k)), 0, 0, 0, false⟩
    let s := if test = 8 then s.setReg pBst Reg.Bst.BST_EXP (Config.lbistGolden target count) else s
    if test = 7 then s.bstHedge b 0 8 else { s with bst := some b }

/-- A write of BST_CMD (R533). -/
def State.bstCommand (s : State) (by_ : Port) (v : Word) : State :=
  if bits v 15 8 ≠ 0xB5 ∨ s.bst.isSome = true then s.refuseWrite by_ pBst Reg.Bst.BST_CMD
  else if bits v 3 0 = 0 ∨ 9 ≤ bits v 3 0 then s
  else s.bstStart (bits v 3 0)

/-- A sorted insertion. -/
def insertInt (x : Int) : List Int → List Int
  | [] => [x]
  | y :: ys => if x ≤ y then x :: y :: ys else y :: insertInt x ys

/-- The median of an odd number of readings. -/
def median (xs : List Int) : Int := (xs.foldr insertInt []).getD (xs.length / 2) 0

/-- The number of bits set by a test over 8 readings. -/
def maskOf (p : Nat → Bool) : Nat := (List.range 8).foldl (fun m i => if p i then m + 2 ^ i else m) 0

/-- A test ends (R524, R526, R530): what it measured is judged, its target is restored and BST_RES written. A measurement
that is none of the running test's has no effect.
(DEDUCED, log entry 145.) -/
def State.bstComplete (s : State) (out : TestOutcome) : State :=
  match s.bst with
  | none => s
  | some b =>
    let verdict := fun (ok : Bool) => if ok then bstPass else bstFail
    match out with
    | .errors n =>
      if 1 ≤ b.test ∧ b.test ≤ 4 then
        let s := (s.bstRestore b).setReg pBst Reg.Bst.BST_ERR (BitVec.ofNat 32 (min n 0xFFFFFFFF))
        s.bstEnd b (verdict (n = 0 || (b.test == 2 && !b.target.testBit 8))) 0
      else s
    | .supplies f =>
      if b.test = 5 then
        let f := f % 256
        (s.setReg pBst Reg.Bst.BST_MEAS (BitVec.ofNat 32 f)).bstEnd b (verdict (f = 0)) 0
      else s
    | .temps ts well =>
      if b.test = 6 then
        let m := median (ts ++ [well])
        let dev := fun (x : Int) => (x - m).natAbs
        let spread := (ts ++ [well]).foldl (fun a x => max a (dev x)) 0
        let f := maskOf (fun i => decide (i < ts.length) && decide (48 < dev (ts.getD i 0)))
        (s.setReg pBst Reg.Bst.BST_MEAS (BitVec.ofNat 32 (f + 65536 * (min spread 0xFFF)))).bstEnd b
          (verdict (decide (spread ≤ 48))) 0
      else s
    | .hedge raised =>
      if b.test = 7 then
        s.bstHedge (if raised then b else { b with failed := b.failed + 2 ^ b.source }) (b.source + 1) (7 - b.source)
      else s
    | .misr sig =>
      if b.test = 8 then
        let w := BitVec.ofNat 32 sig
        (s.setReg pBst Reg.Bst.BST_SIG w).bstEnd b (verdict (w == s.reg pBst Reg.Bst.BST_EXP)) 0
      else s

/-- STA.BLK of the BST page, bits [31:8] (R532). -/
def State.bstSta (s : State) : Nat :=
  match s.bst with
  | none => 0
  | some b => 256 + 512 * b.test

end Sys2Proof.Machine
end

