-- ==== Sys2Proof/Machine/Belvedere.lean ====
section
/-!
DEFINITION. The Belvedere (chapter 14): the history queue, notification, the reactions of a step and how they exclude each
other, and the lift of fences.
-/
namespace Sys2Proof.Machine

/-! What a report asks for -/

/-- The RCT register of a class (R428). -/
def rctOff (cls : Nat) : Nat := if cls = 1 then Reg.Blv.RCT_COR else if cls = 2 then Reg.Blv.RCT_UNC else Reg.Blv.RCT_FAT

/-- RCT_n matches a page and cause (R428, R439). -/
def rctMatches (w : Word) (page cause : Nat) : Bool :=
  bitAt w 31 && decide (bits w 11 0 = page) && (bitAt w 20 || decide (bits w 19 12 = cause))

/-- The reactions that the RCT registers give a report (R428). -/
def State.rctFor (s : State) (r : Report) : Nat :=
  match (List.range 16).find? (fun n => rctMatches (s.reg pBlv (Reg.Blv.RCT n)) r.page r.cause) with
  | some n => s.fld pBlv (Reg.Blv.RCT n) 28 24
  | none => s.fld pBlv (rctOff r.cls) 4 0

/-- The reactions requested for a report (R428): a masked one asks for those of block rules alone. -/
def State.requested (s : State) (r : Report) : Nat :=
  if r.masked then r.want else s.rctFor r ||| r.want ||| (if r.cls = 3 then rctHalt else 0)

/-- The ORIGIN word of a report. -/
def Report.origin (r : Report) : Word := originOf r.page r.kind r.item

/-- What a FENCE asked for by a report fences: the page a Hedge source names, otherwise the report's origin (R429, R445). -/
def Report.target (r : Report) : Word :=
  match r.fencePage with
  | some p => originOf p 0 0
  | none => r.origin

/-- KIND and ITEM of an origin word (R420). -/
def kindOf (t : Word) : Nat := bits t 14 12
def itemOf (t : Word) : Nat := bits t 28 16
def pageOf (t : Word) : Nat := bits t 11 0

/-- A fence of this page is taken as HALT_ENGINE (R429).
(DEDUCED, log entry 128.) -/
def haltPage (p : Nat) : Bool := p == pSdl || p == pPgl || p == pPav || (decide (pPtr0 ≤ p) && decide (p ≤ pPtr3))

/-- A fence of this target is one of a channel. -/
def isChannel (t : Word) : Bool := kindOf t == 1
/-- A fence of this target is taken as HALT_ENGINE. -/
def isHaltPage (t : Word) : Bool := kindOf t == 0 && haltPage (pageOf t)
/-- A fence of this target is taken as the DEGRADE of a core. -/
def isCore (t : Word) : Bool := kindOf t == 7
/-- A fence of this target has none (R429). -/
def noTarget (t : Word) : Bool := kindOf t == 5 || kindOf t == 6

/-! The history -/

/-- The newest entry of an origin, cause and address, and its place. -/
def histFind (h : List Hist) (origin : Word) (cause addr : Nat) : Option Nat :=
  h.findIdx? (fun e => e.origin = origin && e.cause = cause && e.addr = addr)

/-- The entry a report coalesces into (R423). -/
def State.coalesces (s : State) (r : Report) : Option (Nat × Hist) :=
  match histFind s.blv.hist r.origin r.cause r.addr with
  | none => none
  | some i => match s.blv.hist[i]? with
    | some e => if e.cause ≠ 0x33 ∧ s.now ≤ e.latest + 1000000 then some (i, e) else none
    | none => none

/-- The place of the last entry of a class. -/
def lastOf (h : List Hist) (cls : Nat) : Option Nat :=
  match h.reverse.findIdx? (fun e => e.cls = cls) with
  | some j => some (h.length - 1 - j)
  | none => none

/-- The entry that a new report of a class replaces in a full queue (R424). -/
def replaced (h : List Hist) (cls : Nat) : Option Nat :=
  match lastOf h 1 with
  | some i => some i
  | none => if cls < 2 then none else match lastOf h 2 with
    | some i => some i
    | none => if cls < 3 then none else lastOf h 3

/-- A new entry for a report (R422). -/
def newHist (r : Report) (time now : Nat) (req : Nat) (lost : Bool) : Hist :=
  { cls := r.cls, cause := r.cause, origin := r.origin, addr := r.addr, inj := r.inj, time := time, first := now
    latest := now, witness := 1, req := req, taken := 0, superseded := false, lost := lost }

/-- A new report enters the history, replaces an entry or is dropped (R422, R424). -/
def State.histNew (s : State) (r : Report) (req : Nat) : State :=
  if s.blv.hist.length < 64 then
    { s with blv.hist := newHist r s.sdl.time s.now req s.blv.lostNext :: s.blv.hist, blv.lostNext := false }
  else match replaced s.blv.hist r.cls with
    | some i => ({ s with blv.hist := newHist r s.sdl.time s.now req true :: s.blv.hist.eraseIdx i, blv.lostNext := false }).fault pBlv 0
    | none => ({ s.countFld pBlv Reg.Blv.HIST_CNT 31 16 1 with blv.lostNext := true }).fault pBlv 0

/-- The interrupts of a new report (R427), and its MSI-X vector (R508). -/
def State.notify (s : State) (cls : Nat) : State :=
  let s := if cls = 1 then (if s.flag pBlv Reg.Blv.BLV_CFG 2 then s.irq 0 else s)
    else if cls = 2 then (if s.flag pBlv Reg.Blv.BLV_CFG 3 then { s with ccp.nmi := s.ccp.nmi ||| 2 } else s.irq 0)
    else { s with ccp.nmi := s.ccp.nmi ||| 4 }
  s.emit (.msix (cls - 1))

/-- A report is taken (R422 to R424, R427), a fatal one holding ERR_N from now on (R426): the reactions still to be taken for it, and the state with its entry.
(DEDUCED, log entry 129.) -/
def State.takeReport (s : State) (r : Report) : Nat × State :=
  let req := s.requested r
  if r.masked then (req, s)
  else
    let s := if r.cls = 3 then { s with ldg.errFatal := true } else s
    match s.coalesces r with
    | some (i, e) =>
      let e' := { e with witness := satAdd 65535 e.witness 1, latest := s.now, req := e.req ||| req }
      (req &&& (31 ^^^ e.taken), { s with blv.hist := setNth s.blv.hist i e' })
    | none => (req, (s.histNew r req).notify r.cls)

/-- The newest entry of an origin, cause and address shows a reaction taken, or superseded (R432). -/
def State.histMark (s : State) (origin : Word) (cause addr : Nat) (taken : Nat) (sup : Bool) : State :=
  match histFind s.blv.hist origin cause addr with
  | none => s
  | some i => match s.blv.hist[i]? with
    | none => s
    | some e => { s with blv.hist := setNth s.blv.hist i { e with taken := e.taken ||| taken, superseded := e.superseded || sup } }

/-! Reactions -/

/-- A core's bit of DEG_AES or DEG_SHA: cores 0–23 and 32–47 (R420, R437). -/
def State.setCoreOut (s : State) (c : Nat) (out : Bool) : State :=
  let s := if c < 24 then s.setFlag pBlv Reg.Blv.DEG_AES c out
    else if 32 ≤ c ∧ c < 48 then s.setFlag pBlv Reg.Blv.DEG_SHA (c - 32) out else s
  let s := s.setFld pBlv Reg.Blv.DEG_SHA 31 16 s.cryptoRate
  if s.flag pPgl Reg.Hdr.STA 9 then s.setFld pPgl Reg.Pgl.CAP_CRY 23 0 s.cryptoCap else s

/-- The crypto and publication-tag rows hold with the cores in service (R430, R237). -/
def State.cryptoHolds (s : State) : Bool := decide (s.sumQcls ≤ s.cryptoCap) && s.pubTagOk

/-- DEGRADE of a core (R430): it leaves service; where the accepted configuration no longer fits, the reaction escalates to
HALT_ENGINE. -/
def State.degrade (s : State) (c : Nat) : State :=
  let accepted := s.flag pPgl Reg.Hdr.STA 9
  let s := s.setCoreOut c true
  if accepted && !s.cryptoHolds then s.haltRun.fault pBlv 1 else s

/-- CTL.EN of a page is forced to 0, and the block stops (R429). -/
def State.forceOff (s : State) (p : Nat) : State :=
  let s := if p = pCln then (if s.cln.st == .inStep then s.withdraw else if s.enabled pCln then s.clnOff else s)
    else if p = pPsh then s.pshDisable else s
  let s := s.setFlag p Reg.Hdr.CTL 0 false
  if 0x201 ≤ p ∧ p ≤ 0x210 then s.clusterOff (p - 0x201) else s

/-- A fence of a target other than a core (R429), with the page and cause that CAUSE_PENDING tests; a target fenced before
keeps its fence.
(DEDUCED, log entry 128.) -/
def State.fenceOn (s : State) (t : Word) (page cause : Nat) : State :=
  if noTarget t || s.blv.fences.any (fun f => f.target = t) then s
  else
    let s := { s with blv.fences := ⟨t, page, cause⟩ :: s.blv.fences }
    match kindOf t with
    | 0 => (s.forceOff (pageOf t)).bstFenced (pageOf t)
    | 1 => s.fenceChannel (itemOf t) (page = pPav && cause = 1)
    | 4 => (s.portDown (itemOf t)).bstFenced (portPage (itemOf t))
    | _ => s

/-- An action taken now is remembered for the time of its bound (R432). -/
def State.remember (s : State) (act : Nat) (r : Report) (ns : Nat) : State :=
  { s with blv.recent := ⟨act, r.origin, r.cause, r.addr, s.now + ns⟩ :: s.blv.recent }

/-- A core is taken out of service on a report's behalf, by DEGRADE or by a FENCE that is taken as it (R429, R430). -/
def State.coreFence (s : State) (t : Word) (r : Report) (act : Nat) : State :=
  let rest := s.blv.fences.filter (fun f => f.target ≠ t)
  (({ s with blv.fences := Fence.mk t r.page r.cause :: rest } : State).degrade (itemOf t)).remember act r 2000

/-- What one step has to do: DEVICE_RESET, HALT_ENGINE asked for, HALT_ENGINE through a fence of its page. -/
structure Combined where
  reset : Bool
  hedge : Bool
  halt : Bool
  deriving DecidableEq, Repr

/-- The severe reactions among those of a step (R432). -/
def combine (xs : List (Report × Nat)) : Combined :=
  ⟨xs.any (fun x => x.2.testBit 4), xs.any (fun x => x.2.testBit 4 && x.1.hdgReset),
   xs.any (fun x => x.2.testBit 3)⟩

/-- What `Recent.act` says an action was: the fence of a channel, another fence, DEGRADE, HALT_ENGINE, the fence of a core. -/
abbrev actChannel : Nat := 0
abbrev actFence : Nat := 1
abbrev actDegrade : Nat := 2
abbrev actHalt : Nat := 3
abbrev actCore : Nat := 4

/-- HALT_ENGINE supersedes an action of this kind (R432). -/
def haltBeats (act : Nat) : Bool := act == actChannel || act == actDegrade || act == actCore

/-- Earlier actions that a more severe one overtakes show SUPERSEDED (R432).
(DEDUCED, log entry 129.) -/
def State.overtake (s : State) (p : Recent → Bool) : State :=
  let hit := s.blv.recent.filter (fun a => p a && (a.act == actChannel || decide (s.now ≤ a.till)))
  let s := { s with blv.recent := s.blv.recent.filter (fun a => !p a) }
  if hit.isEmpty then s
  else (hit.foldl (fun s (a : Recent) => s.histMark a.origin a.cause a.addr 0 true) s).fault pBlv 2

/-- The cores that a FENCE takes out of service in this step, or has within its bound: their DEGRADE is the same action (R432). -/
def State.coreTargets (s : State) (xs : List (Report × Nat)) : List Word :=
  xs.filterMap (fun x => if x.2.testBit 0 && isCore x.1.target then some x.1.target else none) ++
    (s.blv.recent.filter (fun a => a.act == actCore && decide (s.now ≤ a.till))).map (·.origin)

/-- The reactions of one report below DEVICE_RESET and ZEROISE, in a step whose severe reactions are known; HALT_ENGINE of the
step (`pageHalt` where it comes by the fence of a page) or one within its bound supersedes as R432 lists, and the fence of a core its
DEGRADE. Answers whether a reaction was superseded.
(DEDUCED, log entry 128.) -/
def State.react (s : State) (c : Combined) (within pageHalt : Bool) (cores : List Word) (r : Report) (act : Nat) : Bool × State :=
  let haltNow := c.halt || within || pageHalt
  let t := r.target
  let mark := fun (s : State) (b : Nat) (sup : Bool) => s.histMark r.origin r.cause r.addr b sup
  -- HALT_ENGINE
  let (sup, s) := if !act.testBit 3 then (false, s)
    else if c.reset then (true, mark s 0 true)
    else (false, (mark s rctHalt false).remember actHalt r 5000)
  -- FENCE
  let (sup, s) := if !act.testBit 0 || noTarget t then (sup, s)
    else if c.reset then (true, mark s 0 true)
    else if isHaltPage t then
      (if c.halt || within then (true, mark s 0 true) else (sup, ((mark s rctFence false).haltRun).remember actHalt r 5000))
    else if isChannel t then
      (if haltNow then (true, mark s 0 true) else (sup, ((mark s rctFence false).fenceOn t r.page r.cause).remember actChannel r 0))
    else if isCore t then
      (if haltNow then (true, mark s 0 true)
       else (sup, ((mark s rctFence false).overtake (fun a => a.act == actDegrade && a.origin == t)).coreFence t r actCore))
    else (sup, ((mark s rctFence false).fenceOn t r.page r.cause).remember actFence r 2000)
  -- DEGRADE
  if !act.testBit 1 || !isCore r.origin then (sup, s)
  else if c.reset || haltNow || cores.contains r.origin then (true, mark s 0 true)
  else (sup, (mark s rctDegrade false).coreFence r.origin r actDegrade)

/-- A report that a device reset overtook (R61, R432): its entry is kept as Lodge-held state, the reset has already done what the
reactions it asked for would do to the main domain, and a ZEROISE is still performed. -/
def State.takeOld (s : State) (r : Report) : Nat × State :=
  let req := s.requested r
  if r.masked then (req &&& rctZeroise, s)
  else
    let s := match s.coalesces r with
      | some (i, e) =>
        let e' := { e with witness := satAdd 65535 e.witness 1, latest := s.now, req := e.req ||| req }
        { s with blv.hist := setNth s.blv.hist i e' }
      | none => s.histNew r req
    let s := if req &&& rctReset = 0 then s else s.cause (if r.hdgReset then causeHdg else causeBlv)
    (req &&& rctZeroise,
     s.histMark r.origin r.cause r.addr (req &&& (31 ^^^ rctZeroise)) false)

/-- The reports that have arrived, each with the reactions still to be taken for it. -/
def State.takeReports (s : State) : List Report → List (Report × Nat) × State
  | [] => ([], s)
  | r :: rs =>
    let (a, s) := if r.old then s.takeOld r else s.takeReport r
    let (xs, s) := s.takeReports rs
    ((r, a) :: xs, s)

/-- The reaction unit's step (R432): the new reports are taken, and their reactions performed together, ZEROISE first, then
HALT_ENGINE, FENCE and DEGRADE, and DEVICE_RESET.
(DEDUCED, log entry 129.) -/
def State.reactionStep (s : State) (dt : Nat) : State :=
  let s := s.tick dt
  let rs := s.blv.incoming
  let (xs, s) := ({ s with blv.incoming := [] }).takeReports rs
  let c := combine xs
  -- ZEROISE is compatible with every reaction.
  let s := if xs.any (fun x => x.2.testBit 2) then s.zeroise true else s
  let s := xs.foldl (fun s (x : Report × Nat) =>
    if x.2.testBit 2 then s.histMark x.1.origin x.1.cause x.1.addr rctZeroise false else s) s
  let within := s.blv.recent.any (fun a => a.act == actHalt && decide (s.now ≤ a.till))
  let pageHalt := xs.any (fun x => x.2.testBit 0 && isHaltPage x.1.target)
  let cores := s.coreTargets xs
  let s := if c.reset then s.overtake (fun _ => true)
    else if c.halt || pageHalt then s.overtake (fun a => haltBeats a.act) else s
  let s := if c.halt && !c.reset then s.haltRun else s
  let (sup, s) := xs.foldl (fun (acc : Bool × State) (x : Report × Nat) =>
    let (b, s) := acc.2.react c within pageHalt cores x.1 x.2
    (acc.1 || b, s)) (false, s)
  let s := if sup then s.fault pBlv 2 else s
  let s := xs.foldl (fun s (x : Report × Nat) =>
    if x.2.testBit 4 then s.histMark x.1.origin x.1.cause x.1.addr rctReset false else s) s
  if c.reset then s.deviceReset (if c.hedge then causeHdg else causeBlv) else s

/-! Lifting a fence -/

/-- A fence is lifted (R433). -/
def State.unfence (s : State) (t : Word) : State :=
  let s := { s with blv.fences := s.blv.fences.filter (fun f => f.target ≠ t) }
  match kindOf t with
  | 1 => s.unfenceChannel (itemOf t)
  | 4 => (s.lanesOf (itemOf t)).foldl (fun s n => s.portsFollow n) s
  | 7 => s.setCoreOut (itemOf t) false
  | _ => s

/-- RESULT codes of FENCE_STA (R437). -/
abbrev liftOk : Nat := 0
abbrev liftNotFenced : Nat := 1
abbrev liftPending : Nat := 2
abbrev liftRefused : Nat := 3

/-- What an accepted FENCE_CMD answers (R433).
(DEDUCED, log entry 127.) -/
def State.liftResult (s : State) (t : Word) : Nat :=
  if s.blv.halted then liftRefused
  else match s.blv.fences.find? (fun f => f.target = t) with
    | none => liftNotFenced
    | some f => if f.cause < 0x20 ∧ s.flag f.page Reg.Hdr.FLT_STA f.cause = true then liftPending else liftOk

/-- FENCE_STA.PENDING follows the lifts that wait for a slot start (R437). -/
def State.showLift (s : State) : State := s.setFlag pBlv Reg.Blv.FENCE_STA 0 (s.blv.lift.any (fun l => l.2.isSome))

/-- A write of FENCE_CMD by CORE or HOST (R433). In IN_STEP the lift is sent to the peer with its SLOT_CNT.
(DEDUCED, log entry 127.) -/
def State.fenceCmd (s : State) (by_ : Port) (v : Word) : State :=
  if bits v 15 0 ≠ 0xF3CE then s.refuseWrite by_ pBlv Reg.Blv.FENCE_CMD
  else
    let t := s.reg pBlv Reg.Blv.FENCE_TGT
    let res := s.liftResult t
    let s := s.setFld pBlv Reg.Blv.FENCE_STA 2 1 res
    if res ≠ liftOk then s
    else if s.pglOn then
      let k := s.slotCnt + 2
      let s := { s with blv.lift := s.blv.lift ++ [(t, some k)] }.showLift
      if s.cln.st == .inStep && s.cln.session then s.emit (.twinMsg msgFenceLift (wordOctets t ++ natOctets 8 k)) else s
    else { s with blv.lift := s.blv.lift ++ [(t, none)] }

/-- The peer's command to lift a fence at a SLOT_CNT (R433). -/
def State.fenceLiftPeer (s : State) (t : Word) (k : Nat) : State :=
  if s.cln.st == .inStep && s.cln.session then { s with blv.lift := s.blv.lift ++ [(t, some k)] }.showLift else s

/-- The lifts commanded while the Pergola was disabled take effect (R433).
(DEDUCED, log entry 127.) -/
def State.fenceLiftNow (s : State) : State :=
  let due := s.blv.lift.filter (fun l => l.2.isNone)
  let s := { s with blv.lift := s.blv.lift.filter (fun l => l.2.isSome) }
  due.foldl (fun s (l : Word × Option Nat) => s.unfence l.1) s

/-- The lifts whose slot start has come take effect (R433); a channel's fence is past its bound (R432). -/
def State.fenceLiftSlot (s : State) : State :=
  let isDue := fun (l : Word × Option Nat) => match l.2 with | some k => decide (k ≤ s.slotCnt) | none => false
  let due := s.blv.lift.filter isDue
  let s := { s with blv.lift := s.blv.lift.filter (fun l => !isDue l), blv.recent := s.blv.recent.filter (fun a => a.act != 0) }
  (due.foldl (fun s (l : Word × Option Nat) => s.unfence l.1) s).showLift

/-! Registers -/

/-- A write of HIST_CLR by CORE or MAINT (R425, R437).
(DEDUCED, log entry 214.) -/
def State.histClr (s : State) (by_ : Port) (v : Word) : State :=
  if bits v 15 0 ≠ 0xC1EA then s.refuseWrite by_ pBlv Reg.Blv.HIST_CLR
  else { s.setReg pBlv Reg.Blv.HIST_CNT 0 with blv.hist := [] }

/-- HIST0 to HIST5 of an entry (R438). -/
def Hist.words (e : Hist) : List Word :=
  [BitVec.ofNat 32 (1 + 2 * e.cls + 8 * b2n e.inj + 16 * b2n e.superseded + 32 * b2n e.lost + 256 * e.cause + 65536 * e.witness),
   e.origin, BitVec.ofNat 32 e.addr, BitVec.ofNat 32 (secOf e.time), BitVec.ofNat 32 (nsOf e.time),
   BitVec.ofNat 32 (min 65535 ((e.latest - e.first) / 1000) + 65536 * e.req + 2 ^ 24 * e.taken)]

/-- A read of HIST0: the entry at HIST_IDX, HIST1 to HIST5 latched (R438). -/
def State.hist0Read (s : State) : Word × State :=
  let ws := match s.blv.hist[s.fld pBlv Reg.Blv.HIST_IDX 5 0]? with
    | some e => e.words
    | none => [0, 0, 0, 0, 0, 0]
  (ws.headD 0, { s with blv.latch := ws.drop 1 })

/-- STA.BLK of the BLV page, bits [31:8] (R436). -/
def State.blvSta (s : State) : Nat :=
  256 * b2n s.blv.halted +
  512 * b2n (decide (s.fld pBlv Reg.Blv.DEG_AES 23 0 ≠ 0) || decide (s.fld pBlv Reg.Blv.DEG_SHA 15 0 ≠ 0)) +
  1024 * b2n (errLow s) + 2048 * b2n (decide (64 ≤ s.blv.hist.length))

/-- OUTSTANDING (R437). -/
def State.outstanding (s : State) : Nat :=
  b2n (classOutstanding s 1) + 2 * b2n (classOutstanding s 2) + 4 * b2n (classOutstanding s 3 || s.ldg.errFatal) +
  256 * b2n (errLow s)

/-- A block reset of the BLV page (R437).
(DEDUCED, log entry 215.) -/
def State.blvReset (s : State) : State :=
  let s := (s.setReg pBlv Reg.Hdr.FLT_STA 0).setReg pBlv Reg.Blv.CODE_STA 0
  let s := (s.setReg pBlv Reg.Blv.FENCE_TGT 0).setReg pBlv Reg.Blv.FENCE_STA 0
  { s with blv.lift := s.blv.lift.filter (fun l => l.2.isNone), blv.latch := [0, 0, 0, 0, 0] }

end Sys2Proof.Machine
end

