-- ==== Sys2Proof/Machine/BlockCtl.lean ====
section
/-!
DEFINITION. CTL of every page (R11): enable, disable and block reset (R75, R437, R541), and the end of a block reset.
-/
namespace Sys2Proof.Machine

/-! Enable -/

/-- CTL.EN of a page that has no check of its own. -/
def State.plainEnable (s : State) (by_ : Port) (p : Nat) : State :=
  if s.fencedPage p then s.refuseWrite by_ p Reg.Hdr.CTL else s.setFlag p Reg.Hdr.CTL 0 true

/-- CTL.EN of a cluster page: the rules of R142 are checked. -/
def State.clusterEnable (s : State) (by_ : Port) (g : Nat) : State :=
  if s.fencedPage (pPrc g) then s.refuseWrite by_ (pPrc g) Reg.Hdr.CTL
  else if s.enabled (pPrc g) then s
  else match s.clusterCheck g with
    | (true, s) => s.setFlag (pPrc g) Reg.Hdr.CTL 0 true
    | (false, s) => s

/-- CTL.EN written 1 (R11). -/
def State.pageEnable (s : State) (by_ : Port) (p : Nat) : State :=
  if p = pPgl then s.pglEnable by_
  else if p = pCln then s.clnEnable by_
  else if p = pPsh then (if s.fencedPage p then s.refuseWrite by_ p Reg.Hdr.CTL else s.pshEnable)
  else if p = pSdl then
    if s.fencedPage p then s.refuseWrite by_ p Reg.Hdr.CTL else if s.enabled p then s else s.sdlEnable
  else if 0x201 ≤ p ∧ p ≤ 0x210 then s.clusterEnable by_ (p - 0x201)
  else s.plainEnable by_ p

/-- CTL.EN written 0; disabling the Pergola of a twin in IN_STEP acts as DETACH (R384). -/
def State.pageDisable (s : State) (p : Nat) : State :=
  if !s.enabled p then s
  else if p = pPgl then (if s.cln.st == .inStep then s.detach else s).pglDisable
  else if p = pCln then s.clnDisable
  else if p = pPsh then s.pshDisable
  else if p = pSdl then s.sdlDisable
  else if 0x201 ≤ p ∧ p ≤ 0x210 then (s.setFlag p Reg.Hdr.CTL 0 false).clusterOff (p - 0x201)
  else s.setFlag p Reg.Hdr.CTL 0 false

/-! Block reset -/

/-- The SRAM regions a page owns are cleared with valid check bits (R61, R75, R415). -/
def State.clearRegion (s : State) (r : Nat) : State :=
  { s with mem := { s.mem.setBytes r [] with marks := s.mem.marks.filter (fun e => e.1 / 2 ^ 22 ≠ r) } }

/-- Registers of a page that its block reset keeps: LOCK, and what R16, R405, R437, R541 and R344 name.
(DEDUCED, log entry 46.) -/
def keptByBlockReset (p o : Nat) : Bool :=
  decide (o = Reg.Hdr.LOCK) ||
  (decide (p = pSys) && decide (o = Reg.Sys.PWR_STA)) ||
  (decide (p = pLdg) && decide (0x40 ≤ o)) ||
  (decide (p = pNvm) && decide (0x80 ≤ o)) ||
  (decide (p = pBlv) && (keptByReset (regKey p o) || decide (o = Reg.Blv.DEG_AES) || decide (o = Reg.Blv.DEG_SHA))) ||
  (decide (p = pHdg) && keptByWell false (regKey p o)) ||
  (decide (p = pArb) && decide (Reg.Arb.ID_PUB 0 ≤ o) && decide (o ≤ Reg.Arb.ID_PUB 15))

/-- The registers of a page take their reset values, but for those it keeps. -/
def State.resetRegs (s : State) (p : Nat) : State := s.clearPage p (keptByBlockReset p)

/-- The Pergola's block reset: the run in progress ends, and the promise with it. -/
def State.pglReset (s : State) : State :=
  let s := s.cutRun.resetRegs pPgl
  { s with pgl := { Pergola.reset with everEnabled := s.pgl.everEnabled }, cln.latchValid := false, ptr.built := [] }.ctlServe

/-- The Pavilion's block reset. -/
def State.pavReset (s : State) : State :=
  let s := s.cutRun.resetRegs pPav
  ({ s with pav := { Pavilion.reset with starts := s.pav.starts } }.clearRegion rgCtx).clearRegion rgTable

/-- The Orangery's block reset: queued and running descriptors end ABORTED, the key store is cleared (R333). -/
def State.orgReset (s : State) : State :=
  let s := (s.endDescs (fun _ => true) dsAborted).resetRegs pOrg
  ({ s with org := Orangery.reset, cln.keyWait := none }.setFlag pLdg Reg.Ldg.BOOT_STA 12 false).showWell

/-- The Arbour's block reset (R350): d_ID and ID_PUB stay. -/
def State.arbReset (s : State) : State :=
  let id := s.flag pArb Reg.Hdr.STA 10
  let s := s.arbBlockReset.resetRegs pArb
  (s.setFlag pArb Reg.Hdr.STA 10 id).arbStatus

/-- The Fountain's block reset: STATE = RESET until it starts again (R353). -/
def State.ftnReset (s : State) : State :=
  let s := (s.resetRegs pFtn).setFlag pLdg Reg.Ldg.BOOT_STA 10 false
  { s with ftn := { Fountain.reset with waiting := s.ftn.waiting } }

/-- The Sundial's block reset: every armed unit is cancelled, and reports so after the reset (R116). -/
def State.sdlReset (s : State) : State :=
  let units := s.sdl.cmp.map (·.1)
  let s := (s.cancelUnits (fun _ => true)).resetRegs pSdl
  let s := units.foldl (fun s n => s.setFlag pSdl (Reg.Sdl.CMP_CFG n) 9 true) s
  { s with sdl := Sundial.reset }.refreshBalls

/-- The fabric's block reset: pairs, tables and queued frames go. -/
def State.fabricReset (s : State) : State :=
  let s := s.resetRegs pPrm
  { s with prm := { Promenade.reset with gcl := s.prm.gcl, gates := s.prm.gates, folly := s.prm.folly, lfsr := s.prm.lfsr } }.clearRegion
    rgPacket

/-- A cluster's block reset: its lanes and ports lose their link, its ports leave TEST, which stops their programs (R174), its gate
lists and queues go, and the best-master choice is run without its ports (R127). -/
def State.clusterReset (s : State) (g : Nat) : State :=
  let s := (s.clusterOff g).follyStopAll g
  let s := s.resetRegs (pPrc g)
  { s with prm.queues := s.prm.queues.filter (fun e => e.1 / 16 / 16 ≠ g)
           prm.gcl := smKeep s.prm.gcl (fun k => k / 128 / 2 / 16 ≠ g)
           prm.gates := s.prm.gates.filter (fun e => e.1 / 16 ≠ g) }.bmca

/-- The Kiosk's block reset: the protocol controller starts again, the held fields stay (R494). -/
def State.kskReset (s : State) : State :=
  let s := s.tagOpen.resetRegs pKsk
  { s with ksk.st := if s.ksk.field then .idle else .powerOff, ksk.star := false, ksk.level := 1, ksk.handle := 0
           ksk.slotCtr := 0, ksk.staging := [], ksk.holdoff := false }

/-- The control core's page: its running transfer ends ABORTED (R523). -/
def State.ccpReset (s : State) : State :=
  let run := s.hif.dma.isSome
  let s := { s.resetRegs pCcp with ccp := ⟨[], [], 0⟩, hif.dma := none }.clearRegion rgCsram
  if run then (s.setFld pCcp Reg.Ccp.DMA_CMD 2 1 2).fault pCcp 0 else s

/-- The host interface's block reset: its running transfer ends ABORTED. -/
def State.hifReset (s : State) : State :=
  let run := s.hif.xfer.isSome
  let s := { s.resetRegs pHif with hif.xfer := none }
  if run then (s.setFld pHif Reg.Hif.XF_CMD 2 1 2).fault pHif 1 else s

/-- The PTR pages' block resets: subscriptions, publications and what they hold. -/
def State.ptrReset (s : State) (p : Nat) : State :=
  let s := s.resetRegs p
  if p = pPtr1 then
    { s with ptr.sv := [], ptr.staged := [], ptr.stagedLate := [], ptr.exc1 := [], ptr.cfg1 := [] }.clearRegion rgSample
  else if p = pPtr2 then { s with ptr.goose := [], ptr.gooseLate := [], ptr.gooseNotes := [], ptr.exc2 := [], ptr.cfg2 := [] }
  else if p = pPtr3 then { s with ptr.goosePub := [], ptr.svPub := [], ptr.outBuf := [], ptr.built := [], ptr.cfg3 := [] }
  else s

/-- What a block reset of a page does to it.
(DEDUCED, log entry 46.) -/
def State.pageReset (s : State) (p : Nat) : State :=
  if p = pPgl then s.pglReset
  else if p = pPav then s.pavReset
  else if p = pOrg then s.orgReset
  else if p = pArb then s.arbReset
  else if p = pFtn then s.ftnReset
  else if p = pSdl then s.sdlReset
  else if p = pPrm then s.fabricReset
  else if 0x201 ≤ p ∧ p ≤ 0x210 then s.clusterReset (p - 0x201)
  else if 0x240 ≤ p ∧ p ≤ 0x24F then ((s.follyStopAll (p - 0x240)).lfsrReset (p - 0x240)).resetRegs p
  else if 0x280 ≤ p ∧ p ≤ 0x2BF then (s.resetRegs p).portsFollow (p - 0x280)
  else if pPtr0 ≤ p ∧ p ≤ pPtr3 then s.ptrReset p
  else if p = pCln then s.clnReset.resetRegs pCln
  else if p = pPsh then s.pshStop.resetRegs pPsh
  else if p = pNvm then s.nvmCut.resetRegs pNvm
  else if p = pKsk then s.kskReset
  else if p = pCcp then s.ccpReset
  else if p = pHif then s.hifReset
  else if p = pBlv then s.blvReset.resetRegs pBlv
  else if p = pHdg then { s.resetRegs pHdg with hdg.raised := [], hdg.lightWait := none }
  else if p = pGth then { s.resetRegs pGth with gate.log := [], gate.proxy := none }
  else s.resetRegs p

/-- A block reset starts (R11, R75): the page's claims go with its registers, a shadow pair pending in it is dropped without an
event (R541), a test of it ends, and RST_BUSY reads 1. -/
def State.blockReset (s : State) (p : Nat) : State :=
  let s := s.bstBlockReset p
  let s := if p = pBst then s.bstAbort bstReset else s
  let res := s.reg pBst Reg.Bst.BST_RES
  let s := { s with gate.pairs := s.gate.pairs.filter (fun q => q.page ≠ p) }.pageReset p
  let s := if p = pBst then s.setReg pBst Reg.Bst.BST_RES res else s
  (s.setFlag p Reg.Hdr.STA 2 true).refreshBalls

/-- A block reset ends: RST_BUSY clears, and the Fountain starts (R75, R353).
(DEDUCED, log entry 46.) -/
def State.blockResetEnd (s : State) (p : Nat) : State :=
  if !s.flag p Reg.Hdr.STA 2 then s
  else
    let s := s.setFlag p Reg.Hdr.STA 2 false
    if p = pFtn then s.ftnStart else s

/-! CTL -/

/-- A write of CTL (R11). -/
def State.ctlWrite (s : State) (by_ : Port) (p : Nat) (v : Word) : State :=
  if bitAt v 1 then s.blockReset p else if bitAt v 0 then s.pageEnable by_ p else s.pageDisable p

end Sys2Proof.Machine
end

