-- ==== Sys2Proof/Machine/Boot.lean ====
section
/-!
DEFINITION. The Lodge and the boot (chapter 03): watchdog, liveness, reset and zeroise requests, image and package checks, the
boot sequence with its sources and its Fountain retries, lifecycle requests (R409, R410), staging (R511) and PKG_CMD.
-/
namespace Sys2Proof.Machine

/-! Watchdog, liveness, requests -/

/-- TIMEOUT in force (R81). -/
def State.wdgTimeout (s : State) : Nat := max 328 (s.fld pLdg Reg.Ldg.WDG_CFG 27 8)

/-- ns of n ticks of the 32.768 kHz oscillator at its nominal rate.
(DEDUCED, log entry 38.) -/
def tickNs (n : Nat) : Nat := n * 1000000000 / 32768

/-- WDG_CNT: ticks since the count started (R82).
(DEDUCED, log entry 38.) -/
def State.wdgCount (s : State) : Nat :=
  if s.flag pLdg Reg.Ldg.WDG_CFG 0 then min 0xFFFFF ((s.now - s.ldg.wdgAt) * 32768 / 1000000000) else 0

/-- The count starts again from 0. -/
def State.wdgRestart (s : State) : State := { s with ldg.wdgAt := s.now }

/-- Local time reaches an instant. -/
def State.tickTo (s : State) (t : Nat) : State := s.tick (t - s.now)

/-- WDG_KICK (R82). -/
def State.wdgKick (s : State) (by_ : Port) (v : Word) : State :=
  if v = 0x0000C1A0 then s.wdgRestart else s.refuseWrite by_ pLdg Reg.Ldg.WDG_KICK

/-- A completed pair of WDG_CFG (R81): EN cannot be cleared, and setting it starts the count. -/
def State.wdgWrite (s : State) (by_ : Port) (v : Word) : State :=
  let on := s.flag pLdg Reg.Ldg.WDG_CFG 0
  if on && !bitAt v 0 then s.refuseWrite by_ pLdg Reg.Ldg.WDG_CFG
  else
    let s := s.setReg pLdg Reg.Ldg.WDG_CFG (v &&& 0x0FFFFF03)
    if on then s else if bitAt v 0 then s.wdgRestart else s

/-- Half of TIMEOUT has elapsed: the pre-timeout NMI and vector 7 (R81, R291, R508). -/
def State.wdgPre (s : State) : State :=
  if s.flag pLdg Reg.Ldg.WDG_CFG 0 && s.flag pLdg Reg.Ldg.WDG_CFG 1 then
    let s := s.tickTo (s.ldg.wdgAt + tickNs (s.wdgTimeout / 2))
    { s with ccp.nmi := s.ccp.nmi ||| 1 }.emit (.msix 7)
  else s

/-- The watchdog expires (R75, R81, R421). -/
def State.wdgExpiry (s : State) : State :=
  if s.flag pLdg Reg.Ldg.WDG_CFG 0 then
    let s := s.tickTo (s.ldg.wdgAt + tickNs s.wdgTimeout)
    (s.reportCode pLdg 0 0 0x32 3 0 false).deviceReset causeWdg
  else s

/-- A strobe is expected: PGL_LIVE only while the Pergola is enabled (R76). -/
def State.strobeExpected (s : State) : Strobe → Bool
  | .pgl => s.pglOn
  | _ => true

/-- An expected strobe has been missing for 3 µs: liveness is lost (R75, R76, R421). -/
def State.livenessLoss (s : State) (x : Strobe) : State :=
  if s.ldg.phase = .held ∨ s.strobeExpected x = false then s
  else
    let s := match x with
      | .core => { s with ldg.coreStopped := true }
      | .pgl => { s with ldg.pglStopped := true }
      | .fab => { s with ldg.fabStopped := true }
    let s := s.reportCode pLdg 0 0 0x31 3 0 false
    { s.deviceReset causeLive with ldg.errLive := true }

/-- LIVE_STA (R84): no strobe has been seen in the first microsecond of a reset release.
(DEDUCED, log entry 178.) -/
def State.liveSta (s : State) : Nat :=
  let up := s.ldg.phase == .running && decide (s.boot.t0 + 1000 ≤ s.now)
  b2n (up && !s.ldg.errLive && !s.blv.halted) + 2 * b2n (up && !s.ldg.coreStopped) +
  4 * b2n (up && (!s.ldg.pglStopped || !s.pglOn)) + 8 * b2n (up && !s.ldg.fabStopped)

/-- RST_REQ (R80). -/
def State.rstReq (s : State) (by_ : Port) (v : Word) : State :=
  if bits v 15 0 = 0xD5E7 then s.deviceReset causeSw else s.refuseWrite by_ pLdg Reg.Ldg.RST_REQ

/-- ZRQ (R80): a zeroise. -/
def State.zrq (s : State) (by_ : Port) (v : Word) : State :=
  if bits v 15 0 = 0x2E50 then s.zeroise true else s.refuseWrite by_ pLdg Reg.Ldg.ZRQ

/-! The Fountain's failures -/

/-- A health test fails (R357): every waiting request ends, the DRBG is zeroed, and the cores run unmasked. After a power-on or
device reset the boot ROM answers a failed start-up with a Fountain block reset, three times at most (R71).
(DEDUCED, log entry 112.) -/
def State.healthFail (s : State) (h : HealthFail) : State :=
  let s := ((s.hltSeen h.seen).fault pFtn h.bit).fault pFtn 5
  let s := (s.ftnSet .failed).setUnmasked true
  let s := (s.setFlag pFtn Reg.Hdr.STA 11 false).setFlag pLdg Reg.Ldg.BOOT_STA 10 false
  let s := { s with ftn.waiting := [], ftn.latch := [] }
  let s := s.arbFtnFailed.attachNoRandom
  if h = .startup ∧ s.boot.entered = false then
    if s.boot.ftnFails < 3 then ({ s with boot.ftnFails := s.boot.ftnFails + 1 }.ftnReset).ftnStart
    else s.setFld pLdg Reg.Ldg.BOOT_STA 23 16 0x30
  else s

/-- READY has not been reached 3 ms after the start (R353). -/
def State.ftnTimeout (s : State) : State := if s.ftn.st = .startup then s.healthFail .startup else s

/-- The start-up tests pass, the pool fills and the DRBG is instantiated (R353). -/
def State.ftnUp (s : State) : State := if s.ftn.st = .startup then s.ftnReady else s

/-! Images -/

/-- A field of a header: 4 octets, little-endian (R66). -/
def hdrWord (h : List Byte) (o : Nat) : Nat := leNat ((h.drop o).take 4)

/-- Error codes of R74 for a firmware image, or for a package. -/
def errHeader (fw : Bool) : Nat := if fw then 0x10 else 0x20
def errKey (fw : Bool) : Nat := if fw then 0x11 else 0x20
def errBody (fw : Bool) : Nat := if fw then 0x12 else 0x21
def errSig (fw : Bool) : Nat := if fw then 0x13 else 0x22
/-- The code of an SVN below the thermometer, or of FLAGS that the lifecycle state does not allow (R67, R74).
(DESIGN CHOICE, log entry 166.) -/
def errSvn (fw : Bool) : Nat := if fw then 0x14 else 0x20
def errFlags (fw : Bool) : Nat := if fw then 0x15 else 0x20

/-- MAGIC, HDR_VER and LENGTH are as R66 gives them. -/
def headerOk (fw : Bool) (h : List Byte) : Bool :=
  decide (h.take 4 = ascii (if fw then "BNLF" else "BNLC")) && decide (hdrWord h 4 = 1) &&
  decide (hdrWord h 0x0C % 32 = 0) && decide (hdrWord h 0x0C ≤ (if fw then 0x400000 else 0x800000))

/-- FLAGS that the lifecycle state allows (R72).
(DESIGN CHOICE, log entry 164.) -/
def State.flagsOk (s : State) (fw : Bool) (h : List Byte) : Bool :=
  let f := hdrWord h 0x1C % 4
  match s.lifecycle with
  | 0 => fw && f == 1
  | 3 => fw && f == 2
  | _ => f == 0

/-- The key hash that an image of a kind must match (R67). -/
def State.imageKeyHash (s : State) (fw : Bool) : List Byte := if fw then s.rootHash else s.ownerHash

/-- A hash field that can match: an uncorrectable once-word reads as zeros and matches nothing (R407). -/
def keyMatches (hash pub : List Byte) : Bool := hash ≠ zeros 32 && sha256 pub = hash

/-- The checks of R67 before BODY_HASH: 0, or the code of the first that fails.
(DEDUCED, log entry 40.) -/
def State.checkFront (s : State) (fw : Bool) (h : List Byte) : Nat :=
  if !headerOk fw h then errHeader fw
  else if !keyMatches (s.imageKeyHash fw) ((h.drop 0x20).take 64) then errKey fw
  else if hdrWord h 0x08 < s.svnOtp then errSvn fw
  else 0

/-- The checks of R67 after it.
(DEDUCED, log entry 40.) -/
def State.checkBack (s : State) (fw : Bool) (h : List Byte) : Nat :=
  if !ecdsaVerify ((h.drop 0x20).take 64) (sha256 (h.take 0x80)) ((h.drop 0x80).take 64) then errSig fw
  else if !s.flagsOk fw h then errFlags fw
  else 0

/-- BODY_HASH matches a body that was read without a poisoned word. -/
def bodyOk (h body : List Byte) (poisoned : Bool) : Bool := !poisoned && decide (sha256 body = (h.drop 0x60).take 32)

/-- An image in octets, header first, checked in the order of R67: 0 or its code.
(DEDUCED, log entry 40; DESIGN CHOICE, log entry 167.) -/
def State.checkImage (s : State) (fw : Bool) (img : List Byte) (poisoned : Bool) : Nat :=
  let h := img.take 0x100
  let front := s.checkFront fw h
  if front ≠ 0 then front
  else if !bodyOk h ((img.drop 0x100).take (hdrWord h 0x0C)) poisoned then errBody fw
  else s.checkBack fw h

/-- The image at an MRAM offset, read once under the execute-only descriptors in force (R404): its octets and whether its header
or its body was poisoned. A header that lies outside the MRAM, or is poisoned, reads as erased.
(DESIGN CHOICE, log entry 167.) -/
def State.mramImage (s : State) (fw : Bool) (off : Nat) : List Byte × Bool × State :=
  if 0x1000000 < off + 0x100 then (List.replicate 0x100 0xFF, false, s)
  else
    let (h, p, s) := s.mramData off 0x100
    let len := hdrWord h 0x0C
    if p then (List.replicate 0x100 0xFF, false, s.poisonRead (mramRegion off) off 0x100 false)
    else if !headerOk fw h || decide (0x1000000 < off + 0x100 + len) then (h, true, s)
    else
      let (b, q, s) := s.mramData (off + 0x100) len
      (h ++ b, q, if q then s.poisonRead (mramRegion (off + 0x100)) (off + 0x100) len false else s)

/-- A package is accepted: its profile, and CFG_HASH (R67, R86). -/
def State.acceptPackage (s : State) (h : List Byte) : State :=
  let hash := (h.drop 0x60).take 32
  { s.setOctetRegs pLdg (Reg.Ldg.CFG_HASH 0) hash with
    boot.accepted := some ⟨hdrWord h 0x1C / 256 % 4, hash⟩, ldg.errBoot := false }

/-! Boot -/

/-- A hexadecimal digit of a console line (R515). -/
def hexDigit (n : Nat) : Byte := BitVec.ofNat 8 (if n < 10 then 48 + n else 55 + n)
/-- Two of them. -/
def hexOctet (n : Nat) : List Byte := [hexDigit (n / 16 % 16), hexDigit (n % 16)]
/-- BOOT_STA.ERR (R85). -/
def State.bootErr (s : State) : Nat := s.fld pLdg Reg.Ldg.BOOT_STA 23 16
/-- A boot step is reached: STAGE and its line on the console (R85, R515).
(DEDUCED, log entry 39.) -/
def State.bootStage (s : State) (n : Nat) : State :=
  let s := s.setFld pLdg Reg.Ldg.BOOT_STA 3 0 n
  let line := ascii "BNL S" ++ hexOctet n ++ ascii " E" ++ hexOctet s.bootErr ++ [0x0D, 0x0A]
  line.foldl (fun s (b : Byte) => s.emit (.uart b)) s

/-- BOOT_STA.ERR takes a code; a code of R74 for a firmware image or a package holds ERR_N (R74). -/
def State.bootFail (s : State) (code : Nat) : State :=
  let s := s.setFld pLdg Reg.Ldg.BOOT_STA 23 16 code
  if code = 0x30 ∨ code = 0x50 then s else { s with ldg.errBoot := true }.refreshBalls

/-- A package is read and checked in this lifecycle state (R67). -/
def State.packageWanted (s : State) : Bool := s.keysPermitted

/-- Step 9 of R69 on a package in octets. -/
def State.bootPackage (s : State) (img : List Byte) (poisoned : Bool) : State :=
  if !s.packageWanted then s
  else
    let c := s.checkImage false img poisoned
    if c = 0 then s.acceptPackage (img.take 0x100) else s.bootFail c

/-- Step 10 of R69: the key-encryption key and d_ID where they can be derived, BOOT's authority ends, and Ndear-C jumps to
ENTRY (R320, R344, R498). The hold of a failed image ends; ERR_N stays for a package that was wanted and not accepted (R74).
(DEDUCED, log entry 39.) -/
def State.bootEnter (s : State) : State :=
  let s := if s.well.bbr.isSome then s.kekDerive.2 else s
  let s := match s.keysPermitted && s.flag pLdg Reg.Ldg.BOOT_STA 11, s.secret with
    | true, some ds => ({ s with arb.dID := some (scalarOf (hmac ds (ascii "BNL-ID"))) }).arbRequest .qID
    | _, _ => s
  let s := (s.narrowAll 0x100 0x100).bootStage 10
  let s := { s with gate.bootDone := true, boot.entered := true, boot.polling := false, boot.stream := none, boot.card := none
                    ldg.errBoot := s.packageWanted && s.boot.accepted.isNone
                    engC := { Engine.coreReset with pc := s.boot.entry } }
  (s.setFlag pHif Reg.Hif.HIF_BOOT_STA 0 false).refreshBalls

/-- A firmware image has been accepted (step 8 of R69): it is loaded where LOAD names control SRAM, and its entry is kept.
(DEDUCED, log entry 41.) -/
def State.bootFirmware (s : State) (h body : List Byte) : State :=
  let load := hdrWord h 0x10
  let s := if load ≠ 0 ∧ inCsram load body.length = true then s.csramWrite load body else s
  { s with boot.entry := hdrWord h 0x14 }.bootStage 8

/-- The sources of R65, in the order of BOOT_SEL's row. -/
def bootRow (sel : Nat) : List BootSrc :=
  match sel with
  | 0 => [.mram, .card, .maint, .host]
  | 1 => [.card, .maint, .host]
  | 2 => [.maint, .host]
  | _ => [.host]

/-- An image in octets from MRAM, and its package, carry the boot to ENTRY; answers false where the firmware
fails. -/
def State.bootImage (s : State) (img : List Byte) (poisoned : Bool) (pkg : State → List Byte × Bool × State) :
    Bool × State :=
  let c := s.checkImage true img poisoned
  if c ≠ 0 then (false, s.bootFail c)
  else
    let h := img.take 0x100
    let s := s.bootFirmware h ((img.drop 0x100).take (hdrWord h 0x0C))
    let (pk, q, s) := if s.packageWanted then pkg s else ([], false, s)
    (true, ((s.bootPackage pk q).bootStage 9).bootEnter)

/-- The boot ROM reads blocks of the card, after octets it already has. -/
def State.cardFetch (s : State) (c : CardBoot) (lba count : Nat) (got : List Byte) : State :=
  (({ s with boot.card := some c }).pshState .xfer).nextBlock (.boot lba count got)

/-- The directory of a started card is read: LBA 0 and LBA 1 (R472).
(DESIGN CHOICE, log entry 169.) -/
def State.cardDirectory (s : State) : State := s.cardFetch ⟨1, (0, 0), none⟩ 0 2 []

/-- The card in the slot is started by the boot ROM, which enables the Potting Shed (R461, R474); none where there is no card or
it is FAILED.
(DEDUCED, log entry 42; DESIGN CHOICE, log entries 168, 170.) -/
def State.cardBootStart (s : State) : Option State :=
  let s := s.pshEnable
  if !s.psh.inserted || s.psh.st == .failed || s.psh.st == .empty then none
  else if s.psh.st = .ready then some s.cardDirectory
  else some { s with boot.card := some ⟨0, (0, 0), none⟩ }

/-- The boot ROM tries sources in order until one gives a valid image or waits, for its card or its chunks; with none left it
polls (R65, R74).
(DEDUCED, log entry 42.) -/
def State.bootFrom (s : State) : List BootSrc → State
  | [] => { s.bootFail 0x40 with boot.polling := true, boot.stream := none, boot.card := none }
  | .mram :: rest =>
    let (img, p, s) := s.mramImage true 0
    match s.bootImage img p (fun s => s.mramImage false (hdrWord img 0x18)) with
    | (true, s) => s
    | (false, s) => s.bootFrom rest
  | .card :: rest =>
    match s.cardBootStart with
    | some s => { s with boot.polling := false }
    | none => (s.bootFail (errHeader true)).bootFrom rest
  | src :: _ =>
    { s.setFlag pHif Reg.Hif.HIF_BOOT_STA 0 true with boot.stream := some ⟨src, 0, 0, []⟩, boot.polling := false }

/-- The sources that follow one in BOOT_SEL's row.
(DEDUCED, log entry 39.) -/
def State.bootAfter (s : State) (src : BootSrc) : List BootSrc :=
  ((bootRow (s.fld pLdg Reg.Ldg.BOOT_STA 5 4)).dropWhile (fun x => x != src)).drop 1

/-- A copy of the card directory that counts: MAGIC, VER and CRC-32 (R472). -/
def dirValid (d : List Byte) : Bool :=
  decide (d.take 4 = ascii "BNLD") && decide (hdrWord d 4 = 1) &&
  decide (hdrWord d 0x10 = crc32 (d.take 0x10 ++ zeros 4 ++ d.drop 0x14))

/-- The copy in use: valid, and of two valid ones that with the higher GEN; none on a blank card (R472). -/
def cardDir (a b : List Byte) : Option (List Byte) :=
  if dirValid b && (!dirValid a || decide (hdrWord a 8 < hdrWord b 8)) then some b else if dirValid a then some a else none

/-- The first ACTIVE entry of a TYPE: its START LBA and LENGTH (R472, R474).
(DESIGN CHOICE, log entry 169.) -/
def dirEntry (typ : Nat) (d : List Byte) : Option (Nat × Nat) :=
  let entries := (List.range (min 30 (hdrWord d 0x0C))).map (fun e => (d.drop (0x20 + 16 * e)).take 16)
  (entries.find? (fun e => (nth e 0 0).toNat == typ && (nth e 1 0).getLsbD 0)).map (fun e => (hdrWord e 4, hdrWord e 8))

/-- Blocks of an image by its header. -/
def imageBlocks (h : List Byte) : Nat := (0x100 + hdrWord h 0x0C + 511) / 512

/-- Steps 9 and 10 after a boot from the card. -/
def State.cardBooted (s : State) : State := ({ s with boot.card := none }.bootStage 9).bootEnter

/-- The card gives no valid image, or no valid package: the next source of the row, or the firmware without a package (R67,
R474).
(DESIGN CHOICE, log entry 168.) -/
def State.cardBootFail (s : State) (c : CardBoot) (code : Nat) : State :=
  if c.phase < 4 then ({ s.bootFail code with boot.card := none }).bootFrom (s.bootAfter .card)
  else (s.bootFail code).cardBooted

/-- A firmware image of the card has been read: it is checked, and its package is read where one is wanted (R67, R474). -/
def State.cardFirmware (s : State) (c : CardBoot) (img : List Byte) : State :=
  let code := s.checkImage true img false
  if code ≠ 0 then s.cardBootFail c code
  else
    let s := s.bootFirmware (img.take 0x100) ((img.drop 0x100).take (hdrWord img 0x0C))
    if !s.packageWanted then s.cardBooted
    else match c.pkg with
      | none => (s.bootPackage [] false).cardBooted
      | some a => s.cardFetch ⟨4, a, none⟩ a.1 1 []

/-- What the boot ROM has read of the card is complete: the next read, or the checks (R472, R474).
(DESIGN CHOICE, log entry 168.) -/
def State.cardGot (s : State) (c : CardBoot) (got : List Byte) : State :=
  let fw := decide (c.phase < 4)
  let whole (s : State) : State := if fw then s.cardFirmware c got else (s.bootPackage got false).cardBooted
  if c.phase = 1 then
    match cardDir (got.take 512) (got.drop 512) with
    | none => s.cardBootFail c (errHeader true)
    | some d => match dirEntry 1 d with
      | none => s.cardBootFail c (errHeader true)
      | some a => s.cardFetch ⟨2, a, dirEntry 2 d⟩ a.1 1 []
  else if c.phase = 3 ∨ c.phase = 5 then whole s
  else
    let front := s.checkFront fw (got.take 0x100)
    if front ≠ 0 then s.cardBootFail c front
    else if c.area.2 < imageBlocks got then s.cardBootFail c (errHeader fw)
    else if imageBlocks got ≤ 1 then whole s
    else s.cardFetch { c with phase := c.phase + 1 } c.area.1 (imageBlocks got) got

/-- The boot ROM's view of the card after an event of the Potting Shed: the start-up or a read has ended, or goes on (R474). -/
def State.bootCard (s : State) : State :=
  match s.boot.card, s.psh.job with
  | none, _ => s
  | some c, some (.boot _ count got) =>
    if got.length < 512 * count then s
    else (({ s with psh.job := none }).pshState .ready).cardGot c got
  | some _, some _ => s
  | some c, none =>
    if c.phase = 0 ∧ s.psh.st = .ready then s.cardDirectory
    else s.cardBootFail c (if c.phase % 2 = 1 ∧ c.phase ≠ 1 then errBody (c.phase < 4) else errHeader (c.phase < 4))

/-- Every uncorrectable once-word that step 2 of R69 finds (R407, R421). -/
def State.otpReports (s : State) : State :=
  s.otp.bad.foldl (fun s (o : Nat) =>
    let s := s.setFlag pNvm Reg.Hdr.FLT_STA 7 true
    s.report { page := pNvm, kind := 5, item := 11, cause := 7, cls := faultClass pNvm 7, addr := o / 32, inj := false
               masked := s.flag pNvm Reg.Hdr.FLT_MSK 7, want := 0, fencePage := none, hdgReset := false }) s

/-! Lifecycle requests -/

/-- The MRAM offset of the request sector (R409). -/
abbrev reqSector : Nat := 0xFFF000

/-- The hash that the signing key of a request must have (R410). -/
def State.reqKeyHash (s : State) (kind target : Nat) : List Byte :=
  if kind = 2 ∨ (kind = 1 ∧ target = 1) then s.rootHash else s.ownerHash

/-- The change a request names is allowed (R73, R410). -/
def State.reqAllowed (s : State) (kind target : Nat) : Bool :=
  match kind, s.lifecycle with
  | 1, 0 => target == 1
  | 1, 1 => target == 3 || target == 7
  | 1, 2 => target == 7
  | 2, _ => decide (s.svnOtp < target) && decide (target ≤ 64)
  | 3, 1 => true
  | 3, 2 => true
  | _, _ => false

/-- The fields a request does not carry are zero (R409). -/
def reqZeros (r : List Byte) (kind target : Nat) : Bool :=
  let z := fun o n => decide ((r.drop o).take n = zeros n)
  let prov := kind == 1 && target == 1
  z 0x48 56 && (prov || (z 0x20 32 && z 0x100 1024)) && (prov || kind == 3 || z 0x40 8) && (kind != 3 || z 0x0C 4)

/-- A request is valid (R410). -/
def State.reqValid (s : State) (r : List Byte) : Bool :=
  let kind := hdrWord r 0x08
  let target := hdrWord r 0x0C
  let pub := (r.drop 0x80).take 64
  decide (hdrWord r 0x04 = 1) && reqZeros r kind target && decide ((r.drop 0x10).take 16 = s.deviceId) &&
  keyMatches (s.reqKeyHash kind target) pub &&
  ecdsaVerify pub (sha256 (r.take 0xC0 ++ (r.drop 0x100).take 1024)) ((r.drop 0xC0).take 64) && s.reqAllowed kind target

/-- Antifuses burned: bits only change from 0 to 1 (R408). -/
def State.burn (s : State) (off : Nat) (bs : List Byte) : State :=
  { s with otp.row := memWrite zeroOctet s.otp.row off (List.zipWith (· ||| ·) (s.otpRaw off bs.length) bs) }

/-- A once-word field burned, with its check bits: its words are sound again (R407, R408). -/
def State.burnOnce (s : State) (off : Nat) (bs : List Byte) : State :=
  let s := s.burn off bs
  { s with otp.bad := s.otp.bad.filter (fun o => !(decide (off ≤ o) && decide (o < off + bs.length))) }

/-- A tripled field burned in its three copies. -/
def State.burnThree (s : State) (off : Nat) (bs : List Byte) : State := s.burn off (bs ++ bs ++ bs)

/-- A valid request is burned, in the order of R410; DS comes from the Fountain. -/
def State.reqBurn (s : State) (r : List Byte) : State :=
  let kind := hdrWord r 0x08
  let target := hdrWord r 0x0C
  let hedge := fun (s : State) => (s.burnThree 0x0C0 ((r.drop 0x40).take 4)).burnThree 0x0D0 ((r.drop 0x44).take 4)
  if kind = 1 ∧ target = 1 then
    let s := hedge ((s.burnOnce 0x040 ((r.drop 0x20).take 32)).burnOnce 0x100 ((r.drop 0x100).take 1024))
    let (ds, s) := s.ftnDraw 32
    (s.burnOnce 0x060 ds).burnThree 0x080 [1]
  else if kind = 1 then s.burnThree 0x080 [BitVec.ofNat 8 target]
  else if kind = 2 then s.burnThree 0x090 (natOctets 8 (2 ^ target - 1))
  else hedge s

/-- The request sector is read after step 6 of R69 (R410). A burned request erases the sector and resets the device: answers
true.
(DEDUCED, log entry 44.) -/
def State.lifecycleRequest (s : State) : Bool × State :=
  let (r, p, s) := s.readMem (mramRegion reqSector) reqSector 0x500
  if p then (false, s.poisonRead (mramRegion reqSector) reqSector 0x500 false)
  else if r.take 4 ≠ ascii "BNLR" then (false, s)
  else if s.reqValid r then
    if hdrWord r 0x08 = 1 ∧ hdrWord r 0x0C = 1 ∧ s.ftn.st ≠ .ready then (false, s)
    else (true, ((s.reqBurn r).mramErase reqSector 4096).deviceReset causeSw)
  else (false, (s.mramErase reqSector 4096).bootFail 0x50)

/-! The sequence -/

/-- Step 6 of R69 and the re-key of R71: a start-up still in progress ends READY, or fails for good after its three block
resets; one that has failed for good stays so.
(DEDUCED, log entry 44.) -/
def State.bootFountain (s : State) (ok : Bool) : State :=
  let s :=
    if s.ftn.st = .ready ∨ (s.ftn.st = .failed ∧ 3 ≤ s.boot.ftnFails) then s
    else if ok then (if s.ftn.st = .startup then s else s.ftnReset.ftnStart).ftnReady
    else ({ s with boot.ftnFails := 3 }.ftnStart).healthFail .startup
  if s.ftn.waiting.contains FtnReq.rekey then { s with ftn.waiting := s.ftn.waiting.filter (fun r => r != FtnReq.rekey) }.rekeyMasks
  else s

/-- The boot sequence of R69, dt ns long: straps and OTP (steps 1 to 3), the well's check and records (R425, R453), the
watchdog, the Fountain, the first AVSBus request, a lifecycle request, and the sources of the row. `ftnOk` tells how a Fountain
start-up still in progress ends, `avsOk` whether a regulator answers the request.
(DEDUCED, log entry 39; DESIGN CHOICE, log entry 165.) -/
def State.bootSequence (s : State) (sel : Nat) (twin ftnOk avsOk : Bool) (dt : Nat) : State :=
  if s.ldg.phase = .held ∨ s.boot.entered = true ∨ s.boot.polling = true ∨ s.boot.stream ≠ none ∨ s.boot.card ≠ none then s
  else
    let s := s.tick dt
    let s := (s.setFld pLdg Reg.Ldg.BOOT_STA 5 4 sel).setFlag pLdg Reg.Ldg.BOOT_STA 6 twin
    let s := s.otpReports.wellCheck.copyRecords
    let s := if s.lifecycle = 3 then { s with well.bbr := none, well.impNonce := none } else s
    let s := s.showWell.bootStage 4
    let s := (s.setReg pLdg Reg.Ldg.WDG_CFG 0x00400001).wdgRestart.bootStage 5
    let s := (s.bootFountain ftnOk).bootStage 6
    let (mv, s) := s.drawNat
    let s := (if avsOk then s.avsRequest mv else s.avsNoAck).bootStage 7
    match s.lifecycleRequest with
    | (true, s) => s
    | (false, s) => s.bootFrom (bootRow sel)

/-- The poll, dt ns after the last attempt or READY and never before 100 ms (R65, R511): a source whose chunk has not come by then
has failed; after the last one all are tried again.
(DEDUCED, log entry 42.) -/
def State.bootPoll (s : State) (dt : Nat) : State :=
  if s.ldg.phase = .held ∨ s.boot.entered = true then s
  else match s.boot.stream with
    | some b =>
      let s := s.tick (max 100000000 dt)
      let s := (s.setFlag pHif Reg.Hif.HIF_BOOT_STA 0 false).fault pHif 2
      ({ s.bootFail (errHeader (b.kind = 0)) with boot.stream := none }).bootFrom (s.bootAfter b.src)
    | none =>
      if s.boot.polling then (s.tick (max 100000000 dt)).bootFrom (bootRow (s.fld pLdg Reg.Ldg.BOOT_STA 5 4)) else s

/-! Staging -/

/-- The streaming source fails with a code: the next source of the row is taken (R511).
(DEDUCED, log entries 42, 43.) -/
def State.streamFail (s : State) (src : BootSrc) (code : Nat) : State :=
  let s := (s.setFlag pHif Reg.Hif.HIF_BOOT_STA 0 false).fault pHif 2
  ({ s.bootFail code with boot.stream := none }).bootFrom (s.bootAfter src)

/-- A chunk handed over by the doorbell (R511): the first of a KIND has its header checked, every one is programmed, and at
LAST BODY_HASH is checked; after the package, or the firmware where no package is wanted, the boot goes on at step 10.
(DEDUCED, log entry 43.) -/
def State.bootChunk (s : State) (b : BootStream) (v : Word) : State :=
  let len := bits v 16 0
  let fw := b.kind == 0
  let s := s.setFlag pHif Reg.Hif.HIF_BOOT_DB 31 false
  if len = 0 ∨ len % 32 ≠ 0 ∨ 65536 < len ∨ bits v 17 17 ≠ b.kind then s.streamFail b.src (errHeader fw)
  else
    let (bs, p, s) := s.readMem rgCsram 0x100000 len
    let s := if p then s.poisonRead rgCsram 0x100000 len false else s
    let got := b.got ++ bs
    let h := got.take 0x100
    let c := if b.got.isEmpty then (let f := s.checkFront fw h; if f ≠ 0 then f else s.checkBack fw h) else 0
    let base := b.base
    let c := if c = 0 ∧ (p = true ∨ 0x1000000 < base + got.length) then errHeader fw else c
    if c ≠ 0 then
      if fw then s.streamFail b.src c else ((s.bootFail c).bootStage 9).bootEnter
    else
      let s := s.mramStart (base + b.got.length) bs false
      let s := { s with boot.stream := some { b with got := got } }
      if !bitAt v 18 then s
      else
        let body := (got.drop 0x100).take (hdrWord h 0x0C)
        if fw then
          if bodyOk h body false then
            let s := s.bootFirmware h body
            if s.packageWanted then { s with boot.stream := some ⟨b.src, 1, hdrWord h 0x18, []⟩ } else (s.bootStage 9).bootEnter
          else s.streamFail b.src (errBody true)
        else
          let s := if bodyOk h body false then s.acceptPackage h else s.bootFail (errBody false)
          (s.bootStage 9).bootEnter

/-- HIF_BOOT_DB written by the source (R511, R522). -/
def State.bootDoorbell (s : State) (by_ : Port) (v : Word) : State :=
  match s.boot.stream with
  | some b =>
    if (by_ = .host ∧ b.src = .host) ∨ (by_ = .maint ∧ b.src = .maint) then
      let s := s.setReg pHif Reg.Hif.HIF_BOOT_DB (v &&& 0x8007FFFF)
      if bitAt v 31 then s.bootChunk b v else s
    else s.refuseWrite by_ pHif Reg.Hif.HIF_BOOT_DB
  | none => s.refuseWrite by_ pHif Reg.Hif.HIF_BOOT_DB

/-! PKG_CMD -/

/-- RESULT codes of PKG_CMD (R87). -/
abbrev pkgOk : Nat := 0
abbrev pkgAlready : Nat := 1
abbrev pkgLifecycle : Nat := 2
abbrev pkgRange : Nat := 3

/-- PKG_CMD ends. -/
def State.pkgEnd (s : State) (res : Nat) : State :=
  (s.setFlag pLdg Reg.Ldg.PKG_CMD 31 false).setFld pLdg Reg.Ldg.PKG_CMD 23 16 res

/-- A write of PKG_CMD by CORE (R87). -/
def State.pkgCmd (s : State) (by_ : Port) (v : Word) : State :=
  if bits v 15 0 ≠ 0xC0F6 ∨ s.flag pLdg Reg.Ldg.PKG_CMD 31 = true then s.refuseWrite by_ pLdg Reg.Ldg.PKG_CMD
  else
    let off := s.fld pLdg Reg.Ldg.PKG_ADDR 23 0
    if s.boot.accepted.isSome then s.pkgEnd pkgAlready
    else if !s.keysPermitted then s.pkgEnd pkgLifecycle
    else if off % 32 ≠ 0 ∨ 0x1000000 < off + 0x100 then s.pkgEnd pkgRange
    else ({ s with boot.pkgOff := off }.setFlag pLdg Reg.Ldg.PKG_CMD 31 true).arbRequest .package

/-- The acceptance ends (R87): the checks of R67 on the package at PKG_ADDR as the command found it. -/
def State.pkgDone (s : State) : State :=
  match s.arb.cur with
  | some (.req .package) =>
    let off := s.boot.pkgOff
    let (img, p, s) := s.mramImage false off
    let h := img.take 0x100
    let c := if headerOk false h ∧ 0x1000000 < off + 0x100 + hdrWord h 0x0C then pkgRange else s.checkImage false img p
    let s := if c = 0 then (s.acceptPackage h).setFld pLdg Reg.Ldg.BOOT_STA 23 16 0 else s
    (s.pkgEnd c).arbNext
  | _ => s

end Sys2Proof.Machine
end

