-- ==== Sys2Proof/Machine/Host.lean ====
section
/-!
DEFINITION. The Gatehouse's own registers, the control core's page, the PCIe endpoint with its transfers and windows, and the
Fountain's service of waiting requests (chapters 11 and 18).
-/
namespace Sys2Proof.Machine

/-! Gatehouse -/

/-- GTH_NARROW (R498). -/
def State.gthNarrow (s : State) (v : Word) : State :=
  let w := BitVec.ofNat 9 (bits v 8 0)
  let r := BitVec.ofNat 9 (bits v 24 16)
  if bitAt v 31 then s.narrowAll w r else s.narrow w r (s.fld pGth Reg.Gth.GTH_IDX 7 0)

/-- A mask pair as GTH_CUR and GTH_OTP show it (R520). -/
def Masks.word (m : Masks) : Word := BitVec.ofNat 32 (m.wr.toNat + 65536 * m.rd.toNat)

/-- A log entry as GTH_LOG shows it (R520). -/
def GthEntry.word (e : GthEntry) : Word :=
  BitVec.ofNat 32 (e.kind + 8 * b2n e.lost + 16 * e.port + 256 * e.page + 2 ^ 20 * e.offset)

/-- A read of GTH_LOG removes the oldest entry; an empty log reads 0 (R520). -/
def State.gthLogRead (s : State) : Word × State :=
  match s.gate.log with
  | [] => (0, s)
  | e :: rest => (e.word, { s with gate.log := rest })

/-- STA.BLK of the GTH page, bits [31:8] (R519). -/
def State.gthSta (s : State) : Nat :=
  256 * b2n s.dbg.unlocked + 512 * b2n s.gate.bootDone + 1024 * b2n (!s.gate.log.isEmpty)

/-! The Fountain serves -/

/-- The DRBG serves the next waiting request, or with none waiting a masking refill of 1,024 bits (R355, R356). -/
def State.ftnServe (s : State) : State :=
  if s.ftn.st ≠ .ready then s
  else match nextRequest s.ftn.waiting with
    | none => (s.ftnDraw 128).2
    | some r =>
      let s := { s with ftn.waiting := s.ftn.waiting.erase r }
      match r with
      | .rekey => s.rekeyMasks
      | .arbour => match s.arb.cur with
        | some o =>
          let (bs, s) := s.ftnDraw o.draw
          { s with arb.rnd := bs }
        | none => s
      | .attach => s.attachNonce

/-! The control core's page -/

/-- A comparator disagreement (1) or a parity error (2) of Ndear-C (R502): the output is blocked, CORE_LIVE stops, and cause
0x30 is reported. -/
def State.lockstep (s : State) (kind : Nat) : State :=
  if s.ldg.phase = .held then s
  else { s.reportCode pCcp 0 0 0x30 3 kind false with ldg.coreStopped := true }

/-- CCP_MASK.REKEY (R503).
(DEDUCED, log entry 111.) -/
def State.rekeyWrite (s : State) (by_ : Port) (v : Word) : State :=
  if !bitAt v 31 then s
  else if s.ftn.st = .ready then s.ftnAsk .rekey else s.refuseWrite by_ pCcp Reg.Ccp.CCP_MASK

/-- UART_TX written: the octet is queued, or discarded when the FIFO is full (R523). -/
def State.uartTx (s : State) (v : Word) : State :=
  if s.ccp.txq.length < 16 then { s with ccp.txq := s.ccp.txq ++ [BitVec.ofNat 8 (bits v 7 0)] } else s

/-- The console has sent its oldest octet (R515). -/
def State.uartSent (s : State) : State :=
  match s.ccp.txq with
  | [] => s
  | b :: rest => { s with ccp.txq := rest }.emit (.uart b)

/-- An octet arrives on UART_RX; one that finds the FIFO full is lost (R515, R523). -/
def State.uartRx (s : State) (b : Byte) : State :=
  if s.ccp.rxq.length < 16 then { s with ccp.rxq := s.ccp.rxq ++ [b] }
  else (s.setFlag pCcp Reg.Ccp.UART_RX 9 true).fault pCcp 1

/-- A read of UART_RX removes the oldest octet (R523). -/
def State.uartRxRead (s : State) : Word × State :=
  let ovr := 512 * b2n (s.flag pCcp Reg.Ccp.UART_RX 9)
  match s.ccp.rxq with
  | [] => (BitVec.ofNat 32 ovr, s)
  | b :: rest => (BitVec.ofNat 32 (b.toNat + 256 + ovr), { s with ccp.rxq := rest })

/-! Transfers -/

/-- The area of the Ndear-C map that a CCP transfer may touch a region in (R523). -/
def dmaArea (a n : Nat) : Option Nat :=
  if inCsram a n then some rgCsram
  else if 0x30000000 ≤ a ∧ a + n ≤ 0x34000000 then some rgSample
  else if 0x34000000 ≤ a ∧ a + n ≤ 0x36000000 then some rgPacket
  else none

/-- Up to n units of 32 octets that a page's background class admits now (R229, R233). -/
def State.admitUnits (s : State) (page : Nat) : Nat → Nat × State
  | 0 => (0, s)
  | n + 1 => match s.background page 1 with
    | (true, s) => let (k, s) := s.admitUnits page n; (k + 1, s)
    | (false, s) => (0, s)

/-- A unit of 32 octets of a CCP transfer: a poisoned one is discarded (R417); a store to the sample store is not performed
(R505). -/
def State.dmaUnit (s : State) (src dst : Nat) : State :=
  let (bs, p, s) := s.dataAt src 32
  if p then s.poisonData src 32
  else match dmaArea dst 32 with
    | some 4 => s.writeMem rgCsram (dst - 0x20000000) bs
    | some 1 => s.writeMem rgPacket (dst - 0x34000000) bs
    | _ => s

/-- n units of a CCP transfer, from octet `ofs` on.
(DEDUCED, log entry 142.) -/
def State.dmaUnits (s : State) (src dst ofs : Nat) : Nat → State
  | 0 => s
  | n + 1 => (s.dmaUnit (src + ofs) (dst + ofs)).dmaUnits src dst (ofs + 32) n

/-- A CCP transfer ends (R504, R523). -/
def State.dmaEnd (s : State) (res : Nat) : State :=
  let s := (s.setFld pCcp Reg.Ccp.DMA_CMD 2 1 res).setFlag pCcp Reg.Ccp.DMA_CMD 31 false
  { s with hif.dma := none }.irq 12

/-- DMA_CMD written (R523): a store into the sample-store window is logged once as a refused write (R505). -/
def State.dmaCmd (s : State) (by_ : Port) (v : Word) : State :=
  if !bitAt v 0 then s
  else if s.hif.dma.isSome then s.refuseWrite by_ pCcp Reg.Ccp.DMA_CMD
  else
    let src := (s.reg pCcp Reg.Ccp.DMA_SRC).toNat
    let dst := (s.reg pCcp Reg.Ccp.DMA_DST).toNat
    let len := s.fld pCcp Reg.Ccp.DMA_LEN 21 0
    let ok := decide (src % 32 = 0) && decide (dst % 32 = 0) && decide (len % 32 = 0) && decide (len ≤ 0x200000) &&
      (dmaArea src len).isSome && (dmaArea dst len).isSome
    if !ok then s.dmaEnd 1
    else
      let s := (s.setFlag pCcp Reg.Ccp.DMA_CMD 31 true).setFld pCcp Reg.Ccp.DMA_CMD 2 1 0
      let s := if dmaArea dst len = some rgSample then s.gthLog logRefused (some .core) 0 0 else s
      { s with hif.dma := some ⟨src, dst, len, 0⟩ }

/-- The CCP transfer moves what its class admits, and ends when all is moved (R232, R523).
(DEDUCED, log entry 142.) -/
def State.dmaDone (s : State) : State :=
  match s.hif.dma with
  | none => s
  | some t =>
    let (n, s) := s.admitUnits pCcp ((t.len - t.moved) / 32)
    let s := s.dmaUnits t.src t.dst t.moved n
    if t.len ≤ t.moved + 32 * n then s.dmaEnd 0 else { s with hif.dma := some { t with moved := t.moved + 32 * n } }

/-- A HIF transfer ends (R504, R508, R510). -/
def State.xfEnd (s : State) (res : Nat) : State :=
  let s := (s.setFld pHif Reg.Hif.XF_CMD 2 1 res).setFlag pHif Reg.Hif.XF_CMD 31 false
  let s := if res = 2 then s.fault pHif 1 else s
  ({ s with hif.xfer := none }.irq 15).emit (.msix 16)

/-- XF_CMD written (R510, R522). -/
def State.xfCmd (s : State) (by_ : Port) (v : Word) : State :=
  if !bitAt v 0 then s
  else if s.hif.xfer.isSome then s.refuseWrite by_ pHif Reg.Hif.XF_CMD
  else
    let src := (s.reg pHif Reg.Hif.XF_SRC).toNat
    let dst := (s.reg pHif Reg.Hif.XF_DST_LO).toNat + (s.reg pHif Reg.Hif.XF_DST_HI).toNat * 2 ^ 32
    let len := s.fld pHif Reg.Hif.XF_LEN 16 0
    if !s.flag pHif Reg.Hdr.STA 15 then s.xfEnd 1
    else if src % 4 ≠ 0 ∨ len < 4 ∨ 65536 < len ∨ len % 4 ≠ 0 ∨ inCsram src len = false then s.xfEnd 3
    else { (s.setFlag pHif Reg.Hif.XF_CMD 31 true).setFld pHif Reg.Hif.XF_CMD 2 1 0 with hif.xfer := some ⟨src, dst, len, 0⟩ }

/-- n units of a HIF transfer, from octet `ofs` on: each goes out as one posted write, a poisoned one is discarded (R417).
(DEDUCED, log entry 142.) -/
def State.xfUnits (s : State) (src dst len ofs : Nat) : Nat → State
  | 0 => s
  | n + 1 =>
    let (bs, p, s) := s.readMem rgCsram (src + ofs - 0x20000000) (min 32 (len - ofs))
    let s := if p then s.poisonRead rgCsram (src + ofs - 0x20000000) (min 32 (len - ofs)) false else s.emit (.hostWrite (dst + ofs) bs)
    s.xfUnits src dst len (ofs + 32) n

/-- The HIF transfer moves what its class admits, and ends when all is sent (R232, R510).
(DEDUCED, log entry 142.) -/
def State.xfDone (s : State) : State :=
  match s.hif.xfer with
  | none => s
  | some t =>
    let (n, s) := s.admitUnits pHif ((t.len - t.moved + 31) / 32)
    let s := s.xfUnits t.src t.dst t.len t.moved n
    if t.len ≤ t.moved + 32 * n then s.xfEnd 0 else { s with hif.xfer := some { t with moved := t.moved + 32 * n } }

/-! PCIe -/

/-- HIF_F2H_SET by CORE: bits set, each sends its vector (R508, R522). -/
def State.f2hSet (s : State) (v : Word) : State :=
  let s := s.setReg pHif Reg.Hif.HIF_F2H (s.reg pHif Reg.Hif.HIF_F2H ||| (v &&& 0xFF))
  (List.range 8).foldl (fun s i => if bitAt v i then s.emit (.msix (8 + i)) else s) s

/-- PERST_N low, a hot reset or link down (R61, R509).
(DEDUCED, log entry 144.) -/
def State.pcieReset (s : State) (perst : Bool) : State :=
  let s := if s.hif.xfer.isSome then s.xfEnd 2 else s
  let s := { s with hif.up := false, hif.perstN := !perst }
  (s.setFld pHif Reg.Hdr.STA 15 8 0).fault pHif 0

/-- The link has trained (R506, R521); the host's Bus Master Enable comes with its configuration.
(DEDUCED, log entry 144.) -/
def State.pcieUp (s : State) (speed width : Nat) (bme : Bool) : State :=
  if s.ldg.phase = .held then s
  else
    let s := { s with hif.up := true, hif.perstN := true }
    s.setFld pHif Reg.Hdr.STA 15 8 (1 + 2 * speed + 16 * width + 128 * b2n bme)

/-- The octets of a BAR2 region that the host may read, or write, now: control SRAM by HIF_WIN and the staging opening, the
sample store by HIF_WIN (R507, R511). -/
def State.bar2Csram (s : State) (off n : Nat) (write : Bool) : Bool :=
  let w := s.fld pHif Reg.Hif.HIF_WIN 1 0
  let staging := match s.boot.stream with
    | some b => b.src == .host && decide (0x100000 ≤ off) && decide (off + n ≤ 0x110000)
    | none => false
  decide (off + n ≤ 0x200000) && (w == 2 || (w == 1 && !write) || (staging && write))

/-- A malformed BAR request (R507, R521).
(DEDUCED, log entry 143.) -/
def State.bar2Bad (s : State) : State := (s.malformed .host pHif 0).fault pHif 3

/-- The words of a read of n double words that is not permitted. -/
def State.emitZeros (s : State) (n : Nat) : State := (List.range n).foldl (fun s _ => s.emit (.value 0)) s

/-- The words a completion carries. -/
def State.emitWords (s : State) (bs : List Byte) : State := (chunks 4 bs).foldl (fun s (c : List Byte) => s.emit (.value (leWord c))) s

/-- A host read of n double words through BAR2 (R507).
(DEDUCED, log entry 143.) -/
def State.bar2Read (s : State) (off n : Nat) : State :=
  if s.ldg.phase = .held ∨ s.hif.up = false then s
  else if s.bar2Csram off (4 * n) false then
    match s.readMem rgCsram off (4 * n) with
    | (bs, false, s) => s.emitWords bs
    | (_, true, s) => (s.poisonRead rgCsram off (4 * n) false).emitZeros n
  else if s.flag pHif Reg.Hif.HIF_WIN 2 && decide (0x4000000 ≤ off) && decide (off + 4 * n ≤ 0x8000000) then
    match s.sampleData (off - 0x4000000) (4 * n) with
    | (bs, false, s) => s.emitWords bs
    | (_, true, s) => (s.poisonRead rgSample (off - 0x4000000) (4 * n) false).emitZeros n
  else s.bar2Bad.emitZeros n

/-- A host write through BAR2 (R507, R511).
(DEDUCED, log entry 143.) -/
def State.bar2Write (s : State) (off : Nat) (bs : List Byte) : State :=
  if s.ldg.phase = .held ∨ s.hif.up = false then s
  else if s.bar2Csram off bs.length true then s.byFlit pHif (fun s => s.writeMem rgCsram off bs) else s.bar2Bad

end Sys2Proof.Machine
end

