-- ==== Sys2Proof/Machine/PageRead.lean ====
section
/-!
DEFINITION. What a read of a register page answers: the header every page begins with (R8 to R16), the registers that show
state held elsewhere, and those a read changes (the register tables of every chapter).
-/
namespace Sys2Proof.Machine

/-! Registers and their shadows -/

/-- The bits of a register that a write sets in the usual way: RW, and RWL while LOCK.LOCKED is 0 (R6). -/
def RegSpec.writable (r : RegSpec) (locked : Bool) : Word := r.mask .rw ||| (if locked then 0 else r.mask .rwl)

/-- A register after a write of v under the access codes of R6, shadowed fields apart. -/
def RegSpec.merge (r : RegSpec) (locked : Bool) (old v : Word) : Word :=
  let w := r.writable locked
  ((old &&& ~~~w) ||| (v &&& w)) &&& ~~~(v &&& r.mask .w1c)

/-- A register holds shadowed fields (R18). -/
def RegSpec.shadowed (r : RegSpec) : Bool := decide (r.mask .rwp ≠ 0)

/-- The register whose inverted shadow lies at offset o of page p.
(DEDUCED, log entry 213.) -/
def shadowOf (p o : Nat) : Option Nat :=
  if o < 0x800 then none
  else match specOf p (o - 0x800) with
    | some r => if r.shadowed then some (o - 0x800) else none
    | none => none

/-- LOCK.LOCKED of a page (R15). -/
def State.locked (s : State) (p : Nat) : Bool := s.flag p Reg.Hdr.LOCK 0

/-! The header -/

/-- STA[31:8] of a page (R12). -/
def State.blkSta (s : State) (b : Blk) (p : Nat) : Nat :=
  match b with
  | .gth => s.gthSta
  | .blv => s.blvSta
  | .hdg => s.hdgSta
  | .ksk => s.kskSta
  | .bst => s.bstSta
  | .org => 256 * b2n s.org.zeroising + 512 * s.fld p Reg.Hdr.STA 9 9
  | .pav => 256 * s.fld p Reg.Hdr.STA 8 8 + 512 * b2n (!s.pav.evq.isEmpty) + 1024 * s.pav.evq.length
  | .psh => 256 * s.fld p Reg.Hdr.STA 13 8 + 16384 * b2n s.jAny
  | _ => 256 * s.fld p Reg.Hdr.STA 31 8

/-- STA of a page (R12): a block accepts EN once it is out of reset. -/
def State.staWord (s : State) (b : Blk) (p : Nat) : Word :=
  let busy := s.flag p Reg.Hdr.STA 2
  BitVec.ofNat 32 (b2n (s.ldg.phase == .running && !busy) + 2 * b2n (s.fencedIn p) + 4 * b2n busy + s.blkSta b p)

/-- A header register (R8 to R16, R434, R435). -/
def State.hdrRead (s : State) (b : Blk) (n p o : Nat) : Word :=
  if o = Reg.Hdr.ID then BitVec.ofNat 32 (b.name * 256 + n % 256)
  else if o = Reg.Hdr.VER then 0x0100B000
  else if o = Reg.Hdr.STA then s.staWord b p
  else if o = Reg.Hdr.AUTH then BitVec.ofNat 32 (s.masks (indexOf p)).wr.toNat
  else s.reg p o

/-! Registers that a read changes -/

/-- A field that a read clears. -/
def State.readClear (s : State) (p o hi lo : Nat) : Word × State := (s.reg p o, s.setFld p o hi lo 0)

/-- The registers of a CLAIM-free kind whose named field a read clears, with the field. -/
def clearedByRead (b : Blk) (o : Nat) : Option (Nat × Nat) :=
  match b with
  | .gth => if o = Reg.Gth.GTH_LOG_CNT then some (15, 0) else none
  | .nvm => if o = Reg.Nvm.ECC_CNT then some (31, 0) else none
  | .hdg => if o = Reg.Hdg.SHD_CNT then some (15, 0) else none
  | .sdl => if o = Reg.Sdl.PTP_STA then some (31, 25) else none
  | .pgl => if 0x240 ≤ o ∧ o < 0x2E0 then some (15, 0) else none
  | .pav => if o = Reg.Pav.EVQ_STA then some (31, 16) else if o = Reg.Pav.CAP_STA then some (31, 16) else none
  | .ptr0 => if o = Reg.Ptr0.WALK_CNT then some (15, 0) else none
  | .cln => if o = Reg.Cln.CNT_FWD ∨ o = Reg.Cln.CNT_MIS ∨ (0x140 ≤ o ∧ o < 0x1C0 ∧ o % 16 = 12) then some (31, 0) else none
  | .ksk => if o = Reg.Ksk.KSK_CNT then some (23, 8) else none
  | .prc => if 0x100 ≤ o ∧ o % 64 = 4 then some (31, 16) else none
  | .fly => if 0x100 ≤ o ∧ o % 64 = 32 then some (31, 0) else none
  | .lne => if o = Reg.Lne.LN_ERR then some (31, 0) else none
  | _ => none

/-- A per-port register of a port that the lane plan leaves unused (R143). -/
def State.absentPort (s : State) (b : Blk) (n o : Nat) : Bool :=
  match b with
  | .prc => decide (0x100 ≤ o) && decide (o < 0x500) && !s.portExists (16 * (n - 1) + (o - 0x100) / 64)
  | .fly => decide (0x100 ≤ o) && decide (o < 0x500) && !s.portExists (16 * n + (o - 0x100) / 64)
  | _ => false

/-! The blocks -/

/-- SYS, LDG, GTH, CCP and HIF registers. -/
def State.readSysSide (s : State) (by_ : Port) (b : Blk) (p o : Nat) : Word × State :=
  match b with
  | .sys => if o = Reg.Sys.PWR_STA then (putBits (s.reg p o) 7 0 s.pwrLive, s) else (s.reg p o, s)
  | .ldg =>
    if o = Reg.Ldg.WDG_CNT then (BitVec.ofNat 32 (s.wdgCount % 2 ^ 20), s)
    else if o = Reg.Ldg.LIVE_STA then (BitVec.ofNat 32 s.liveSta, s)
    else if o = Reg.Ldg.BOOT_STA then (putBits (putBits (s.reg p o) 9 8 s.lifecycle) 30 24 s.svnOtp, s)
    else (s.reg p o, s)
  | .gth =>
    let idx := s.fld pGth Reg.Gth.GTH_IDX 7 0
    if o = Reg.Gth.GTH_CUR then ((s.masks idx).word, s)
    else if o = Reg.Gth.GTH_OTP then ((s.loadedMasks idx).word, s)
    else if o = Reg.Gth.GTH_LOG then s.gthLogRead
    else (s.reg p o, s)
  | .ccp =>
    if o = Reg.Ccp.UART_TX then
      (BitVec.ofNat 32 (256 * s.ccp.txq.length + 2 ^ 31 * b2n (decide (16 ≤ s.ccp.txq.length))), s)
    else if o = Reg.Ccp.UART_RX then s.uartRxRead
    else (s.reg p o, s)
  | .hif => if o = Reg.Hif.HIF_BOOT_STA then (putBits (s.reg p o) 15 8 s.bootErr, s) else (s.reg p o, s)
  | .ftn =>
    if o = Reg.Ftn.FTN_RES then (BitVec.ofNat 32 (s.ftnResOf by_), s)
    else if o = Reg.Ftn.HLT_STA then s.hltRead
    else if o = Reg.Ftn.FTN_OUT 0 then s.ftnOut0 by_
    else if Reg.Ftn.FTN_OUT 1 ≤ o ∧ o ≤ Reg.Ftn.FTN_OUT 7 then s.ftnOutN by_ ((o - Reg.Ftn.FTN_OUT 0) / 4)
    else (s.reg p o, s)
  | _ => (s.reg p o, s)

/-- BLV and HDG registers (R437, R438, R448, R455). -/
def State.readAlwaysOn (s : State) (b : Blk) (p o : Nat) : Word × State :=
  match b with
  | .blv =>
    if o = Reg.Blv.HIST 0 then s.hist0Read
    else if Reg.Blv.HIST 1 ≤ o ∧ o ≤ Reg.Blv.HIST 5 then (nth s.blv.latch ((o - Reg.Blv.HIST 1) / 4) 0, s)
    else if o = Reg.Blv.HIST_CNT then (putBits (s.reg p o) 6 0 s.blv.hist.length, s)
    else if o = Reg.Blv.OUTSTANDING then (BitVec.ofNat 32 s.outstanding, s)
    else (s.reg p o, s)
  | _ => if 0x040 ≤ o ∧ o ≤ 0x05C then (s.srcCfg ((o - 0x040) / 4), s) else (s.reg p o, s)

/-- SDL, PGL and PAV registers. -/
def State.readSlotSide (s : State) (b : Blk) (p o : Nat) : Word × State :=
  match b with
  | .sdl =>
    if o = Reg.Sdl.TIME_S_LO then s.timeRead
    else if o = Reg.Sdl.TIME_S_HI then (BitVec.ofNat 32 (secOf s.sdl.timeLatch / 2 ^ 32 % 65536), s)
    else if o = Reg.Sdl.TIME_NS then (BitVec.ofNat 32 (nsOf s.sdl.timeLatch), s)
    else if o = Reg.Sdl.ANGLE then s.angleRead
    else if o = Reg.Sdl.CYCLE then (BitVec.ofNat 32 (s.sdl.angLatch / 2 ^ 32), s)
    else if o = Reg.Sdl.ANG_T_NS then (BitVec.ofNat 32 s.sdl.angLatchNs, s)
    else if o = Reg.Sdl.EVT then s.evtRead
    else if 0x400 ≤ o ∧ o < 0x800 ∧ o % 16 = 0 then
      let n := (o - 0x400) / 16
      (putBits (putBits (s.reg p o) 7 6 (s.groupOwner (n / 4))) 8 8 (b2n (s.armed n).isSome), s)
    else (s.reg p o, s)
  | .pgl =>
    if o = Reg.Pgl.OVR_LOG then s.ovrRead else if o = Reg.Pgl.SCH_DATA then s.schRead else (s.reg p o, s)
  | _ =>
    if o = Reg.Pav.CHN_DATA then s.chnRead
    else if o = Reg.Pav.OW_VAL then (s.owValRead, s)
    else if o = Reg.Pav.OW_META then (s.owMetaRead, s)
    else if o = Reg.Pav.CTX_DATA then s.ctxRead
    else if o = Reg.Pav.TRAP_LOG0 then s.trapRead
    else if Reg.Pav.TRAP_LOG1 ≤ o ∧ o ≤ Reg.Pav.TRAP_LOG3 then (nth s.pav.trapLatch ((o - Reg.Pav.TRAP_LOG1) / 4) 0, s)
    else if o = Reg.Pav.EVQ0 then s.evqRead
    else if Reg.Pav.EVQ1 ≤ o ∧ o ≤ Reg.Pav.EVQ4 then (nth s.pav.evqLatch ((o - Reg.Pav.EVQ1) / 4) 0, s)
    else if o = Reg.Pav.CAP_DATA then (s.capDataRead, s)
    else (s.reg p o, s)

/-- PTR registers (R223 to R225). -/
def State.readStreams (s : State) (b : Blk) (p o : Nat) : Word × State :=
  match b with
  | .ptr0 => (s.reg p o, s)
  | .ptr1 =>
    if o = Reg.Ptr1.DATA then s.svDataRead
    else if o = Reg.Ptr1.STG_STA then s.stgRead
    else if o = Reg.Ptr1.EXC then s.excRead p
    else (s.reg p o, s)
  | .ptr2 => if o = Reg.Ptr2.DATA then s.gooseDataRead else if o = Reg.Ptr2.EXC then s.excRead p else (s.reg p o, s)
  | _ => if o = Reg.Ptr3.DATA then s.pubDataRead else (s.reg p o, s)

/-- The key slot registers of the ORG page (R337). -/
def State.readKeySlot (s : State) (o : Nat) : Word :=
  let k := s.slot (s.fld pOrg Reg.Org.SLOT_ADDR 12 0)
  let id := fun (q : Option KeyPos) => BitVec.ofNat 32 ((q.map (·.keyId)).getD 0)
  if o = Reg.Org.SLOT_INFO then slotInfo k
  else if o = Reg.Org.SLOT_CUR_KEYID then id k.cur
  else if o = Reg.Org.SLOT_NXT_KEYID then id k.nxt
  else if o = Reg.Org.SLOT_SWAP_LO then BitVec.ofNat 32 (k.swapAt.getD 0)
  else BitVec.ofNat 32 (k.swapAt.getD 0 / 2 ^ 32 % 65536)

/-- ORG, ARB, CLN, KSK, BST, PRM and cluster registers. -/
def State.readRest (s : State) (b : Blk) (n p o : Nat) : Word × State :=
  match b with
  | .org => if Reg.Org.SLOT_INFO ≤ o ∧ o ≤ Reg.Org.SLOT_SWAP_HI then (s.readKeySlot o, s) else (s.reg p o, s)
  | .arb => if o = Reg.Arb.SCR_DATA then s.scrRead else (s.reg p o, s)
  | .cln => if o = Reg.Cln.TAKE_LOG then s.takeRead else (s.reg p o, s)
  | .ksk =>
    if o = Reg.Ksk.KSK_UID 0 then (leWord s.uid, s)
    else if o = Reg.Ksk.KSK_UID 1 then (leWord (s.uid.drop 4), s)
    else (s.reg p o, s)
  | .bst => if o = Reg.Bst.BST_CMD then (BitVec.ofNat 32 (2 ^ 31 * b2n s.bst.isSome), s) else (s.reg p o, s)
  | .prm =>
    if o = Reg.Prm.POOL_STA && s.enabled pPrm then (BitVec.ofNat 32 (s.poolFree / 4096 % 8192 + 65536 * s.pairsOn.length), s) else (s.reg p o, s)
  | .prc =>
    if o = Reg.Prc.GCL_DATA then s.gclDataRead (n - 1)
    else if o = Reg.Prc.MS_DATA then s.msRead (s.msAddr (n - 1)).1 (s.msAddr (n - 1)).2
    else (s.reg p o, s)
  | _ => (s.reg p o, s)

/-- A block register, with what reading it changes. -/
def State.blockRead (s : State) (by_ : Port) (b : Blk) (n p o : Nat) : Word × State :=
  match clearedByRead b o with
  | some (hi, lo) =>
    if b = .ksk then (putBits (s.reg p o) 7 0 s.ksk.fails, s.setFld p o hi lo 0) else s.readClear p o hi lo
  | none =>
    match b with
    | .sys | .ldg | .gth | .ccp | .hif | .ftn => s.readSysSide by_ b p o
    | .blv | .hdg => s.readAlwaysOn b p o
    | .sdl | .pgl | .pav => s.readSlotSide b p o
    | .ptr0 | .ptr1 | .ptr2 | .ptr3 => s.readStreams b p o
    | .nvm | .org | .arb | .cln | .psh | .ksk | .bst | .prm | .prc | .fly | .lne => s.readRest b n p o

/-- What offset o of an existing page reads, authority apart (R5 to R18): a reserved offset reads 0. -/
def State.pageRead (s : State) (by_ : Port) (b : Blk) (n p o : Nat) : Word × State :=
  match shadowOf p o with
  | some q => let (w, s) := s.blockRead by_ b n p q; (~~~w, s)
  | none =>
    if o < 0x040 then (s.hdrRead b n p o, s)
    else match specOf p o with
      | none => (0, s)
      | some _ => if s.absentPort b n o then (0, s) else s.blockRead by_ b n p o

end Sys2Proof.Machine
end

