-- ==== Sys2Proof/Machine/PageWrite.lean ====
section
/-!
DEFINITION. What a write does at its page, authority apart: the header (R11, R15, R17, R434, R435), the registers of every
block with the rules their tables give, and what a completed shadow pair does.
-/
namespace Sys2Proof.Machine

/-! Plain writes -/

/-- A write under the access codes of R6 alone.
(DEDUCED, log entries 26, 27.) -/
def State.plainWrite (s : State) (p o : Nat) (v : Word) : State :=
  match specOf p o with
  | none => s
  | some r => s.setReg p o (r.merge (s.locked p) (s.reg p o) v)

/-- As `plainWrite`, a field keeping its value where the test fails: a value the table says is discarded.
(DEDUCED, log entry 26.) -/
def State.fieldWrite (s : State) (p o hi lo : Nat) (ok : Nat → Bool) (v : Word) : State :=
  s.plainWrite p o (if ok (bits v hi lo) then v else putBits v hi lo (s.fld p o hi lo))

/-! The header -/

/-- The resource of a CLAIM bit is held elsewhere: by another page (R113, R168), or by the other bit of its ball (R100). -/
def State.claimTaken (s : State) (b : Blk) (p i : Nat) : Bool :=
  let sdl := s.flag pSdl Reg.Hdr.CLAIM i
  let prm := s.flag pPrm Reg.Hdr.CLAIM i
  let fly := (List.range 16).any (fun c => decide (pFly c ≠ p) && s.flag (pFly c) Reg.Hdr.CLAIM i)
  match b with
  | .sdl =>
    if i < 16 then prm || fly else s.flag pSdl Reg.Hdr.CLAIM (if i < 20 then i + 4 else i - 4)
  | .prm => (decide (i < 16) && sdl) || fly
  | _ => (decide (i < 16) && sdl) || prm || fly

/-- A write of CLAIM (R17): 0 releases, 1 claims what nobody else held before the write or takes by a lower bit of it.
(DEDUCED, log entry 33.) -/
def State.claimWrite (s : State) (by_ : Port) (b : Blk) (p : Nat) (v : Word) : State :=
  let old := s
  let step := fun (x : Bool × State) (i : Nat) =>
    let (bad, s) := x
    if !b.claimMask.testBit i then x
    else if !bitAt v i then (bad, s.setFlag p Reg.Hdr.CLAIM i false)
    else if s.flag p Reg.Hdr.CLAIM i then x
    else if old.claimTaken b p i || s.claimTaken b p i then (true, s)
    else (bad, s.setFlag p Reg.Hdr.CLAIM i true)
  let (bad, s) := (List.range 24).foldl step (false, s)
  let s := if bad then s.gthLog logClaim (some by_) p Reg.Hdr.CLAIM else s
  if b = .sdl then s.selectSrc.refreshBalls else s

/-- A write of FLT_INJ (R435). -/
def State.injWrite (s : State) (by_ : Port) (b : Blk) (p : Nat) (v : Word) : State :=
  let o := Reg.Hdr.FLT_INJ
  let arm := decide (bits v 7 6 ≠ 0)
  if arm && ((!bitAt v 5 && decide (b.injUnits ≤ bits v 4 0)) || decide (19 < bits v 12 8)) then s.refuseWrite by_ p o
  else
    let s := s.setReg p o ((s.reg p o &&& 0x00030000) ||| (v &&& 0x00001FFF))
    let s := s.setFlag p o 16 arm
    if bitAt v 17 then s.setFlag p o 17 false else s

/-- A write of BGT: only NVM, PSH, HIF and CCP hold it, and only 0 and 0x30 to 0x37 are accepted (R232). -/
def State.bgtWrite (s : State) (by_ : Port) (b : Blk) (p : Nat) (v : Word) : State :=
  let c := v &&& 0x3F
  if !(b == .nvm || b == .psh || b == .hif || b == .ccp) || s.locked p then s
  else if c = 0 ∨ (0x30 ≤ c.toNat ∧ c.toNat ≤ 0x37) then s.setReg p Reg.Hdr.BGT c
  else s.refuseWrite by_ p Reg.Hdr.BGT

/-- A write of LOCK (R15): it freezes the page, and the walker's and the Pavilion's pages compute their digests (R198, R294). -/
def State.lockWrite (s : State) (b : Blk) (p : Nat) (v : Word) : State :=
  if !bitAt v 0 || s.locked p then s
  else
    let s := s.setFlag p Reg.Hdr.LOCK 0 true
    match b with
    | .ptr0 => s.fmtLock
    | .pav => s.tblLock
    | _ => s

/-- A write to the page header; ID, VER, STA and AUTH are read-only (R8). -/
def State.hdrWrite (s : State) (by_ : Port) (b : Blk) (p o : Nat) (v : Word) : State :=
  let m := BitVec.ofNat 32 b.faultMask
  if o = Reg.Hdr.CTL then s.ctlWrite by_ p v
  else if o = Reg.Hdr.FLT_STA then s.setReg p o (s.reg p o &&& ~~~v)
  else if o = Reg.Hdr.FLT_MSK then s.setReg p o (v &&& m)
  else if o = Reg.Hdr.FLT_INJ then s.injWrite by_ b p v
  else if o = Reg.Hdr.BGT then s.bgtWrite by_ b p v
  else if o = Reg.Hdr.CLAIM then s.claimWrite by_ b p v
  else if o = Reg.Hdr.LOCK then s.lockWrite b p v
  else s

/-! Ports a register accepts writes from -/

/-- The ports a register rule admits, where it names any (R87, R346, R390, R425, R433, R462, R493, R520, R522, and the ORG
and KSK register rules). -/
def portRule (b : Blk) (o : Nat) : Option (List Port) :=
  match b with
  | .ldg => if o = Reg.Ldg.PKG_CMD then some [.core] else none
  | .gth =>
    if (Reg.Gth.GTH_PROXY_ADDR ≤ o ∧ o ≤ Reg.Gth.GTH_PROXY_CMD) ∨ o = Reg.Gth.MS_F2M_SET then some [.core]
    else if o = Reg.Gth.MS_M2F_SET ∨ o = Reg.Gth.MS_F2M then some [.maint] else none
  | .hif =>
    if o = Reg.Hif.HIF_H2F_SET ∨ o = Reg.Hif.HIF_F2H then some [.host]
    else if o = Reg.Hif.HIF_H2F ∨ o = Reg.Hif.HIF_F2H_SET ∨ o = Reg.Hif.HIF_WIN ∨ Reg.Hif.XF_SRC ≤ o then some [.core]
    else none
  | .blv =>
    if o = Reg.Blv.FENCE_CMD then some [.core, .host]
    else if o = Reg.Blv.HIST_CLR then some [.core, .maint] else none
  | .org =>
    if o = Reg.Org.ORG_CFG ∨ (Reg.Org.KEY_CMD ≤ o ∧ o ≤ Reg.Org.KEY_ARG1) ∨ Reg.Org.RING_BASE 0 ≤ o then some [.core]
    else none
  | .arb =>
    if o = Reg.Arb.ARB_CMD ∨ (Reg.Arb.ARB_SRC ≤ o ∧ o ≤ Reg.Arb.SCR_DATA) then some [.core, .boot] else none
  | .cln =>
    if o = Reg.Cln.CLN_CFG ∨ o = Reg.Cln.CERT_ADDR ∨ (Reg.Cln.FWD_LEN 0 ≤ o ∧ o < Reg.Cln.CL_STA 0) then some [.core]
    else if o = Reg.Cln.CLN_CMD then some [.core, .host] else none
  | .psh => if o = Reg.Psh.PSH_CMD then some [.core, .boot] else none
  | .ksk => if o = Reg.Ksk.KSK_CMD ∨ Reg.Ksk.KSK_DATA 0 ≤ o then some [.core] else none
  | _ => none

/-- A port that a register rule does not admit (R538). -/
def State.ruledOut (b : Blk) (by_ : Port) (o : Nat) : Bool :=
  match portRule b o with
  | some ps => !ps.contains by_
  | none => false

/-! SYS, LDG, GTH, CCP, HIF, NVM -/

/-- PRF (R20, R21).
(DEDUCED, log entry 29.) -/
def State.prfWrite (s : State) (by_ : Port) (v : Word) : State :=
  if s.pglOn then s.refuseWrite by_ pSys Reg.Sys.PRF else s.fieldWrite pSys Reg.Sys.PRF 1 0 (fun x => x ≠ 3) v

/-- Bits of a doorbell register set through its SET register (R514, R522). -/
def State.setBells (s : State) (p o : Nat) (v : Word) : State := s.setReg p o (s.reg p o ||| (v &&& 0xFF))

/-- PAIR_STATE is one in which a TWIN access can be sent, and a session exists (R500). -/
def State.proxyPeer (s : State) : Bool :=
  s.cln.session && (s.cln.st == .inStep || s.cln.st == .attachXfer || s.cln.st == .solo)

/-- A write of GTH_PROXY_CMD (R500, R520): an access as NET is left for the Gatehouse to perform, one as TWIN leaves for the
peer.
(DEDUCED, log entries 30, 37.) -/
def State.proxyCmd (s : State) (by_ : Port) (v : Word) : State :=
  let o := Reg.Gth.GTH_PROXY_CMD
  let q : ProxyReq := ⟨!bitAt v 2, bitAt v 0, bitAt v 1, (s.reg pGth Reg.Gth.GTH_PROXY_ADDR).toNat,
    s.reg pGth Reg.Gth.GTH_PROXY_DATA⟩
  if s.flag pGth o 31 then s.refuseWrite by_ pGth o
  else if q.net then { s with gate.proxy := some q }
  else if s.proxyPeer then
    ({ s.setFlag pGth o 31 true with gate.proxy := some q }).emit
      (.twinMsg msgProxy (BitVec.ofNat 8 (b2n q.write + 2 * b2n q.pair) :: natOctets 4 q.addr ++ wordOctets q.value))
  else s.setFld pGth o 10 8 3

/-- LDG and GTH registers. -/
def State.writeLodge (s : State) (by_ : Port) (b : Blk) (p o : Nat) (v : Word) : State :=
  match b with
  | .ldg =>
    if o = Reg.Ldg.RST_REQ then s.rstReq by_ v
    else if o = Reg.Ldg.ZRQ then s.zrq by_ v
    else if o = Reg.Ldg.WDG_KICK then s.wdgKick by_ v
    else if o = Reg.Ldg.PKG_CMD then s.pkgCmd by_ v
    else s.plainWrite p o v
  | _ =>
    if o = Reg.Gth.GTH_NARROW then s.gthNarrow v
    else if o = Reg.Gth.GTH_PROXY_CMD then s.proxyCmd by_ v
    else if o = Reg.Gth.MS_F2M_SET then s.setBells pGth Reg.Gth.MS_F2M v
    else if o = Reg.Gth.MS_M2F_SET then s.setBells pGth Reg.Gth.MS_M2F v
    else s.plainWrite p o v

/-- CCP and HIF registers (R522, R523). -/
def State.writeHostSide (s : State) (by_ : Port) (b : Blk) (p o : Nat) (v : Word) : State :=
  match b with
  | .ccp =>
    if o = Reg.Ccp.CCP_MASK then s.rekeyWrite by_ v
    else if o = Reg.Ccp.UART_TX then s.uartTx v
    else if o = Reg.Ccp.DMA_CMD then s.dmaCmd by_ v
    else s.plainWrite p o v
  | _ =>
    if o = Reg.Hif.HIF_H2F_SET then s.setBells pHif Reg.Hif.HIF_H2F v
    else if o = Reg.Hif.HIF_F2H_SET then s.f2hSet v
    else if o = Reg.Hif.HIF_BOOT_DB then s.bootDoorbell by_ v
    else if o = Reg.Hif.XF_CMD then s.xfCmd by_ v
    else s.plainWrite p o v

/-- NVM_CMD (R396). Which word a margin read finds weak is open. -/
def State.nvmCmdWrite (s : State) (by_ : Port) (v : Word) : State :=
  if bits v 23 16 ≠ 0xE5 ∨ s.flag pNvm Reg.Nvm.NVM_CMD 31 then s.refuseWrite by_ pNvm Reg.Nvm.NVM_CMD
  else
    let (n, s) := s.drawNat
    s.nvmCommand v (if n % 2 = 0 then none else some (n / 2))

/-- NVM registers (R396, R405). -/
def State.writeNvm (s : State) (by_ : Port) (o : Nat) (v : Word) : State :=
  if o = Reg.Nvm.NVM_CMD then s.nvmCmdWrite by_ v
  else if 0x080 ≤ o ∧ o < 0x0C0 ∧ o % 8 = 0 ∧ s.locked pNvm = false ∧ bitAt v 0 ∧ s.fld pNvm (o + 4) 23 12 < bits v 23 12 then
    s.refuseWrite by_ pNvm o
  else s.plainWrite pNvm o v

/-! BLV, SDL, PGL, PAV, PTR -/

/-- BLV registers (R425, R433, R437). -/
def State.writeBlv (s : State) (by_ : Port) (o : Nat) (v : Word) : State :=
  if o = Reg.Blv.HIST_CLR then s.histClr by_ v
  else if o = Reg.Blv.FENCE_CMD then s.fenceCmd by_ v
  else s.plainWrite pBlv o v

/-- SET_CMD (R97, R137).
(DEDUCED, log entry 35.) -/
def State.setCmdWrite (s : State) (by_ : Port) (v : Word) : State :=
  if bits v 15 0 ≠ 0x71E5 ∨ s.setRefused then s.refuseWrite by_ pSdl Reg.Sdl.SET_CMD else s.setCmd

/-- A compare-unit register (R139, R140): only SDL's own groups are configured here. -/
def State.cmpWrite (s : State) (by_ : Port) (o : Nat) (v : Word) : State :=
  let n := (o - 0x400) / 16
  if s.groupOwner (n / 4) ≠ 1 then s.refuseWrite by_ pSdl o
  else if o % 16 = 0 then s.cmpCfg n v
  else if o % 16 = 12 then s.cmpAct n v
  else s.cmpTgt n o v

/-- FNOM_CFG (R124): FNOM is fixed while the Pergola is enabled; in FREE the angle advances at the FNOM written (R105). -/
def State.fnomWrite (s : State) (by_ : Port) (v : Word) : State :=
  if s.pglOn ∧ bitAt v 0 ≠ s.flag pSdl Reg.Sdl.FNOM_CFG 0 then s.refuseWrite by_ pSdl Reg.Sdl.FNOM_CFG
  else
    let s := s.plainWrite pSdl Reg.Sdl.FNOM_CFG v
    if s.enabled pSdl && s.sdl.angSrc == .free then s.setFreq (s.fnomHz * 65536) else s

/-- SDL registers.
(DEDUCED, log entry 35.) -/
def State.writeSdl (s : State) (by_ : Port) (o : Nat) (v : Word) : State :=
  if o = Reg.Sdl.SRC_CFG then (s.fieldWrite pSdl o 1 0 (fun x => x ≠ 3) v).selectSrc
  else if o = Reg.Sdl.PTP_CFG then (s.plainWrite pSdl o v).bmca
  else if o = Reg.Sdl.FNOM_CFG then s.fnomWrite by_ v
  else if o = Reg.Sdl.REF_PRI ∨ o = Reg.Sdl.REF_SEC then (s.plainWrite pSdl o v).refEnable
  else if o = Reg.Sdl.AOUT_OE then (s.plainWrite pSdl o v).refreshBalls
  else if o = Reg.Sdl.SET_CMD then s.setCmdWrite by_ v
  else if 0x400 ≤ o then s.cmpWrite by_ o v
  else s.plainWrite pSdl o v

/-- PGL registers (R236, R251, R253). -/
def State.writePgl (s : State) (by_ : Port) (o : Nat) (v : Word) : State :=
  if o = Reg.Pgl.SCH_DATA then s.schData by_ v
  else if o = Reg.Pgl.PGL_CFG ∨ o = Reg.Pgl.PUB_QCLASS ∨ (0x100 ≤ o ∧ o < 0x1A0) then
    if by_ == .core && !s.pgl.everEnabled then s.plainWrite pPgl o v else s.ruleRefusal by_ pPgl o
  else s.plainWrite pPgl o v

/-- PAV registers (R294, R315, R317). -/
def State.writePav (s : State) (by_ : Port) (o : Nat) (v : Word) : State :=
  if o = Reg.Pav.CHN_DATA then s.chnData by_ v
  else if o = Reg.Pav.OW_META then s.owMeta by_ v
  else if o = Reg.Pav.CTX_DATA then s.ctxWrite by_ v
  else if o = Reg.Pav.CAP_DATA then s.capData v
  else s.plainWrite pPav o v

/-- PTR registers (R198, R223 to R225). -/
def State.writeStreams (s : State) (by_ : Port) (b : Blk) (p o : Nat) (v : Word) : State :=
  match b with
  | .ptr0 =>
    if o = Reg.Ptr0.FMT_DATA_HI then s.fmtDataHi by_ v
    else if 0x100 ≤ o then s.fmtMatch by_ ((o - 0x100) / 4) v
    else s.plainWrite p o v
  | .ptr1 =>
    if o = Reg.Ptr1.DATA then s.svData by_ v
    else if o = Reg.Ptr1.STRM_CFG then (if s.locked p then s else s.strmCfg v)
    else if o = Reg.Ptr1.ID_DATA_HI then s.idDataHi v
    else s.plainWrite p o v
  | .ptr2 => if o = Reg.Ptr2.DATA then s.gooseData by_ v else s.plainWrite p o v
  | _ => if o = Reg.Ptr3.DATA then s.pubData by_ v else s.plainWrite p o v

/-! ORG, ARB, FTN, CLN, PSH, KSK, BST -/

/-- ORG registers (R324, R337, R338). -/
def State.writeOrg (s : State) (by_ : Port) (o : Nat) (v : Word) : State :=
  let r := (o - Reg.Org.RING_BASE 0) / 16
  if o = Reg.Org.KEY_CMD then
    (if s.flag pOrg o 31 then s.refuseWrite by_ pOrg o else s.keyCmdWrite v)
  else if o = Reg.Org.SLOT_INFO then
    let n := s.fld pOrg Reg.Org.SLOT_ADDR 12 0
    if bitAt v 16 then s.setSlot n { s.slot n with swapMiss := false } else s
  else if Reg.Org.RING_BASE 0 ≤ o then
    if o % 16 = 0 then s.ringBase r v
    else if o % 16 = 4 then s.ringCtl r v
    else if o % 16 = 8 then s.ringHead r v.toNat
    else s
  else s.plainWrite pOrg o v

/-- ARB registers (R346, R360). -/
def State.writeArb (s : State) (by_ : Port) (o : Nat) (v : Word) : State :=
  if o = Reg.Arb.ARB_CMD then
    if s.flag pArb Reg.Hdr.STA 8 ∧ bits v 4 0 ≠ 15 then s.refuseWrite by_ pArb o else s.arbCommand v
  else if o = Reg.Arb.SCR_DATA then s.scrWrite v
  else s.plainWrite pArb o v

/-- FTN registers (R356, R362). -/
def State.writeFtn (s : State) (by_ : Port) (o : Nat) (v : Word) : State :=
  if o = Reg.Ftn.FTN_CMD then
    if bits v 15 0 = 0x5EED then s.ftnReseed else s.refuseWrite by_ pFtn o
  else s.plainWrite pFtn o v

/-- The sum rule of R180: a write whose PRE + MAIN + POST exceeds 63 is discarded. -/
def State.txeqWrite (s : State) (p o : Nat) (v : Word) : State :=
  if 63 < bits v 4 0 + bits v 11 6 + bits v 20 16 then s else s.plainWrite p o v

/-- CLN registers (R390, R391): a lane in loopback is lost to its side. -/
def State.writeCln (s : State) (o : Nat) (v : Word) : State :=
  if o = Reg.Cln.CLN_CMD then s.clnCommand v
  else if o = Reg.Cln.CERT_ADDR then (if s.locked pCln then s else s.certAddr v)
  else if Reg.Cln.CL_STA 0 ≤ o ∧ o % 16 = 4 then s.txeqWrite pCln o v
  else if Reg.Cln.CL_STA 0 ≤ o ∧ o % 16 = 8 then
    let l := (o - Reg.Cln.CL_STA 0) / 16
    let s := s.fieldWrite pCln o 1 0 (fun x => x ≠ 3) v
    if s.fld pCln o 1 0 ≠ 0 ∧ s.sideHb (l / 4) then s.sideLoss (l / 4) else s
  else s.plainWrite pCln o v

/-- PSH, KSK and BST registers. -/
def State.writeCardSide (s : State) (by_ : Port) (b : Blk) (p o : Nat) (v : Word) : State :=
  match b with
  | .psh => if o = Reg.Psh.PSH_CMD then s.pshCommand by_ v else s.plainWrite p o v
  | .ksk => if o = Reg.Ksk.KSK_CMD then s.kskCommand by_ v else s.plainWrite p o v
  | _ => if o = Reg.Bst.BST_CMD then s.bstCommand by_ v else s.plainWrite p o v

/-! PRM, FLY, LNE -/

/-- TBL_CMD (R186); TABLE 3 names no table.
(DEDUCED, log entry 36.) -/
def State.tblCommand (s : State) (by_ : Port) (v : Word) : State :=
  let table := bits v 3 2
  let index := bits v 19 4
  if table = 3 then s
  else match bits v 1 0 with
    | 0 => s.tblRead table index
    | 1 => s.tblWrite by_ table index
    | 2 => s.tblDelete by_ table index
    | _ => s.tblSearch table

/-- Fabric page registers (R183 to R187). -/
def State.writePrm (s : State) (by_ : Port) (o : Nat) (v : Word) : State :=
  if o = Reg.Prm.FAB_CFG then s.fieldWrite pPrm o 13 0 (fun x => decide (64 ≤ x) && decide (x ≤ 9216)) v
  else if o = Reg.Prm.DD_AGE then s.fieldWrite pPrm o 11 0 (fun x => decide (10 ≤ x) && decide (x ≤ 4000)) v
  else if o = Reg.Prm.TBL_CMD then s.tblCommand by_ v
  else if 0x100 ≤ o ∧ o % 8 = 0 then s.pairCfgWrite by_ ((o - 0x100) / 8) v
  else s.plainWrite pPrm o v

/-- Cluster page registers of lane group g (R188 to R190). -/
def State.writePrc (s : State) (by_ : Port) (g p o : Nat) (v : Word) : State :=
  let port := 16 * g + (o - 0x100) / 64
  if o = Reg.Prc.GCL_DATA then s.gclDataWrite g v
  else if o = Reg.Prc.MS_DATA then s.msWrite (s.msAddr g).1 (s.msAddr g).2 v
  else if 0x100 ≤ o ∧ o % 64 = 0 then s.portCfgWrite by_ port v
  else if 0x100 ≤ o ∧ o % 64 = 16 then s.gclCtlWrite by_ port v
  else s.plainWrite p o v

/-- FLY page registers of lane group g (R169, R191): while RUN is 1 only a write that clears it acts. -/
def State.writeFly (s : State) (by_ : Port) (g p o : Nat) (v : Word) : State :=
  let i := (o - 0x100) / 64
  let port := 16 * g + i
  let ctl := decide (o = Reg.Fly.FLY_CTL i)
  if (s.follyRun port).isSome then (if ctl && !bitAt v 0 then (s.follyStop port).follyCtl by_ port v else s)
  else if ctl then s.follyCtl by_ port v
  else if o = Reg.Fly.FLY_SEED i then (s.plainWrite p o v).follySeed port v
  else s.plainWrite p o v

/-- Lane page registers (R144, R178 to R180). -/
def State.writeLne (s : State) (n p o : Nat) (v : Word) : State :=
  if o = Reg.Lne.LN_MODE then s.lnModeWrite n v
  else if o = Reg.Lne.LN_LPBK then (s.fieldWrite p o 1 0 (fun x => x ≠ 3) v).bmca
  else if o = Reg.Lne.LN_TXEQ then s.txeqWrite p o v
  else s.plainWrite p o v

/-! One write -/

/-- A write to a block register, its ports and the shadow protocol settled. -/
def State.blockWrite (s : State) (by_ : Port) (b : Blk) (n p o : Nat) (v : Word) : State :=
  match b with
  | .sys => if o = Reg.Sys.PRF then s.prfWrite by_ v else s.plainWrite p o v
  | .ldg | .gth => s.writeLodge by_ b p o v
  | .ccp | .hif => s.writeHostSide by_ b p o v
  | .nvm => s.writeNvm by_ o v
  | .blv => s.writeBlv by_ o v
  | .hdg => s
  | .sdl => s.writeSdl by_ o v
  | .pgl => s.writePgl by_ o v
  | .pav => s.writePav by_ o v
  | .ptr0 | .ptr1 | .ptr2 | .ptr3 => s.writeStreams by_ b p o v
  | .org => s.writeOrg by_ o v
  | .arb => s.writeArb by_ o v
  | .ftn => s.writeFtn by_ o v
  | .cln => s.writeCln o v
  | .psh | .ksk | .bst => s.writeCardSide by_ b p o v
  | .prm => s.writePrm by_ o v
  | .prc => s.writePrc by_ (n - 1) p o v
  | .fly => s.writeFly by_ n p o v
  | .lne => s.writeLne n p o v

/-- The values a completed pair may carry to a Hedge threshold register (R456). -/
def hdgInRange (o : Nat) (v : Word) : Bool :=
  if o = Reg.Hdg.LIGHT_CFG then decide (10 ≤ bits v 23 16) && decide (bits v 23 16 ≤ 255)
  else if o = Reg.Hdg.TEMP_CFG then decide (0x3E8 ≤ temp12 (bits v 11 0)) && decide (temp12 (bits v 27 16) ≤ temp12 0xEC0)
  else if o = Reg.Hdg.GLITCH_CFG then decide (5 ≤ bits v 7 0)
  else true

/-- A shadowed register takes its value. -/
def State.pairStore (s : State) (p o : Nat) (v : Word) : State :=
  match specOf p o with
  | none => s
  | some r => s.setReg p o ((s.reg p o &&& ~~~(r.mask .rwp)) ||| (v &&& r.mask .rwp))

/-- A shadow pair is complete (R18): the register takes the value, unless its own rule refuses it (R81, R111, R448, R455,
R456); a difference found in it is over (R449). -/
def State.pairDone (s : State) (by_ : Port) (b : Blk) (p o : Nat) (v : Word) : State :=
  let s := s.mismatchOver (regKey p o)
  match b with
  | .ldg => if o = Reg.Ldg.WDG_CFG then s.wdgWrite by_ v else (s.pairStore p o v).refreshBalls
  | .sdl =>
    if o = Reg.Sdl.SDL_FMAX ∧ (s.pglOn ∨ s.fmaxOk (bits v 6 0) = false) then s.refuseWrite by_ p o else s.pairStore p o v
  | .hdg =>
    if s.locked p || !hdgInRange o v then s.refuseWrite by_ p o
    else if 0x040 ≤ o ∧ o ≤ 0x05C ∧ s.hdgOff ((o - 0x040) / 4) then s
    else s.pairStore p o v
  | _ => s.pairStore p o v

end Sys2Proof.Machine
end

