-- ==== Sys2Proof/Machine/Access.lean ====
section
/-!
DEFINITION. The Gatehouse on the way to a page: malformed accesses (R5, R536), authority (R14, R497, R538, R539), block reset,
self-test and enable check (R12, R240, R530), the shadow protocol (R18, R19) and the writes it holds (R499), and what the
always-on domain serves while the main domain is in reset (R513).
-/
namespace Sys2Proof.Machine

/-! Where an address lies -/

/-- The register pages of the Ndear-C map (R505, R534). -/
def inPages (a : Nat) : Bool := decide (0x40000000 ≤ a) && decide (a < 0x41000000)
/-- Page number and offset of a register address (R534). -/
def pageNo (a : Nat) : Nat := (a - 0x40000000) / 0x1000
def pageOfs (a : Nat) : Nat := a % 0x1000

/-! The shadow protocol -/

/-- The pair pending in a page (R18). -/
def State.pairIn (s : State) (p : Nat) : Option PendingPair := s.gate.pairs.find? (fun q => decide (q.page = p))

/-- No pair is pending in a page any more. -/
def State.dropPair (s : State) (p : Nat) : State := { s with gate.pairs := s.gate.pairs.filter (fun q => decide (q.page ≠ p)) }

/-- A register whose write is the first or the second step of a pair. -/
def inProtocol (p o : Nat) : Bool :=
  (shadowOf p o).isSome || (match specOf p o with
    | some r => r.shadowed
    | none => false)

/-- The first step of a pair; it breaks off one that is pending (case 4 of R19).
(DESIGN CHOICE, log entry 159.) -/
def State.pairFirst (s : State) (by_ : Port) (p o : Nat) (v : Word) : State :=
  let s := match s.pairIn p with
    | some q => (s.dropPair p).shadowEvent p q.off 4
    | none => s
  { s with gate.pairs := ⟨p, o, v, by_⟩ :: s.gate.pairs }

/-- The second step, to the shadow of the register at o (cases 1 and 3 of R19).
(DESIGN CHOICE, log entry 160.) -/
def State.pairSecond (s : State) (by_ : Port) (b : Blk) (p o : Nat) (v : Word) : State :=
  match s.pairIn p with
  | none => s.shadowEvent p o 3
  | some q =>
    let s := s.dropPair p
    if q.off = o ∧ v = ~~~q.value then s.pairDone by_ b p o q.value else s.shadowEvent p q.off 1

/-! One access -/

/-- A write that reaches its page (R12, R18, R240, R530, R538).
(DEDUCED, log entry 30.) -/
def State.deliver (s : State) (by_ : Port) (b : Blk) (n p o : Nat) (v : Word) : State :=
  if s.flag p Reg.Hdr.STA 2 ∧ o ≠ Reg.Hdr.FLT_STA then s.accMark accLost
  else if s.bstBlocks p o v then s.refuseWrite by_ p o
  else if p = pPgl ∧ s.flag pPgl Reg.Hdr.STA 8 then s.accMark accLost
  else match shadowOf p o with
    | some q => s.pairSecond by_ b p q v
    | none =>
      if o < 0x040 then s.hdrWrite by_ b p o v
      else match specOf p o with
        | none => s.accMark accLost
        | some r =>
          if s.absentPort b n o then s.accMark accLost
          else if State.ruledOut b by_ o then s.authRefusal by_ p o
          else if r.shadowed then s.pairFirst by_ p o v
          else s.blockWrite by_ b n p o v

/-- A write waits while another port's pair is pending in the page (R499). -/
def State.waits (s : State) (by_ : Port) (p o : Nat) : Bool :=
  inProtocol p o && s.gate.pairs.any (fun q => decide (q.page = p) && decide (q.port ≠ by_))

/-- A write whose port the page admits: it waits, or it is performed. -/
def State.passOn (s : State) (by_ : Port) (b : Blk) (n p o : Nat) (v : Word) : State :=
  if s.waits by_ p o then { s with gate.held := s.gate.held ++ [⟨by_, p, o, v⟩] } else s.deliver by_ b n p o v

/-- A write on the register fabric (R14, R497, R536); a FLY page takes none but those of HOST and MAINT (R169). -/
def State.writeAt (s : State) (by_ : Port) (p o : Nat) (v : Word) : State :=
  match blkOf p with
  | none => s.malformed by_ p o
  | some (b, n) =>
    if b = .fly ∧ by_ ≠ .host ∧ by_ ≠ .maint then (s.authRefusal by_ p o).fault p 2
    else if !(s.masks (indexOf p)).writes by_ then s.authRefusal by_ p o
    else s.passOn by_ b n p o v

/-- The first held write that need not wait any more.
(DEDUCED, log entry 32.) -/
def State.freeHeld (s : State) : Option HeldWrite := s.gate.held.find? (fun h => !s.waits h.port h.page h.off)

/-- Held writes reach their page as pairs complete or expire (R499).
(DEDUCED, log entry 32.) -/
def State.releaseHeld (s : State) : Nat → State
  | 0 => s
  | k + 1 => match s.freeHeld with
    | none => s
    | some h =>
      let s := { s with gate.held := s.gate.held.erase h }
      (s.writeAt h.port h.page h.off h.value).releaseHeld k

/-- As many releases as writes are held. -/
def State.released (s : State) : State := s.releaseHeld s.gate.held.length

/-- A read on the register fabric (R14, R497, R536). -/
def State.readAt (s : State) (by_ : Port) (p o : Nat) : Word × State :=
  match blkOf p with
  | none => (0, s.malformed by_ p o)
  | some (b, n) =>
    if !(s.masks (indexOf p)).reads by_ then
      (0, (s.countFld pGth Reg.Gth.GTH_LOG_CNT 15 0 1).accMark logAuth)
    else s.pageRead by_ b n p o

/-! While the main domain is in reset -/

/-- MAINT's masks as the Lodge keeps them (R513).
(DEDUCED, log entry 31.) -/
def State.keptMasks (s : State) (idx : Nat) : Masks := smGet s.loadedMasks s.gate.kept idx

/-- A MAINT write that the always-on domain serves: a block reset (R75, R513). -/
def State.lodgeWrite (s : State) (p o : Nat) (v : Word) : State :=
  match blkOf p with
  | none => s.accMark accLost
  | some _ =>
    if o ≠ Reg.Hdr.CTL ∨ bitAt v 1 = false ∨ s.flag p Reg.Hdr.STA 2 = true then s.accMark accLost
    else if !(s.keptMasks (indexOf p)).writes .maint then s.accMark logAuth
    else s.blockReset p

/-- A MAINT read that the always-on domain serves: BLV, LDG and HDG pages (R513). -/
def State.lodgeRead (s : State) (p o : Nat) : Word × State :=
  match blkOf p with
  | none => (0, s.accMark accLost)
  | some (b, n) =>
    if !(b == .blv || b == .ldg || b == .hdg) then (0, s.accMark accLost)
    else if !(s.keptMasks (indexOf p)).reads .maint then (0, s.accMark logAuth)
    else s.pageRead .maint b n p o

/-- The register fabric completes accesses. -/
def State.fabricUp (s : State) : Bool := s.ldg.phase == .running

/-! Accesses of a port -/

/-- A 32-bit access to a register address, aligned (R5). -/
def regAddr (a : Nat) : Bool := inPages a && decide (a % 4 = 0)

/-- The RESULT that an access of GTH_PROXY leaves: AUTH, MALFORMED or OK (R520). -/
def State.proxyRes (s : State) : Nat :=
  if s.gate.acc.contains logMalformed then 2 else if s.gate.acc.contains logAuth then 1 else 0

/-- A write, or a pair, on the fabric as a port, at any address (R500). -/
def State.proxyWrite (s : State) (as_ : Port) (q : ProxyReq) : State :=
  let p := pageNo q.addr
  let o := pageOfs q.addr
  if !regAddr q.addr then s.malformed as_ p o
  else
    let s := (s.writeAt as_ p o q.value).released
    if q.pair then (s.writeAt as_ p (o + 0x800) (~~~q.value)).released else s

/-- A read on the fabric as a port, at any address (R500). -/
def State.proxyRead (s : State) (as_ : Port) (q : ProxyReq) : Word × State :=
  if regAddr q.addr then s.readAt as_ (pageNo q.addr) (pageOfs q.addr)
  else (0, s.malformed as_ (pageNo q.addr) (pageOfs q.addr))

/-- An access of GTH_PROXY as NET is performed (R500): its result goes to GTH_PROXY_DATA and RESULT.
(DEDUCED, log entry 37.) -/
def State.proxyNet (s : State) : State :=
  match s.gate.proxy with
  | none => s
  | some q =>
    if !q.net then s
    else
      let acc := s.gate.acc
      let s := { s with gate.proxy := none, gate.acc := [] }
      let s := if q.write then s.proxyWrite .net q else
        let (w, s) := s.proxyRead .net q
        s.setReg pGth Reg.Gth.GTH_PROXY_DATA w
      { s.setFld pGth Reg.Gth.GTH_PROXY_CMD 10 8 s.proxyRes with gate.acc := acc }

/-- A register write by a port, what befell it noted in `gate.acc`.
(DESIGN CHOICE, log entry 28.) -/
def State.busWrite (s : State) (by_ : Port) (a : Nat) (v : Word) : State :=
  let s := { s with gate.acc := [] }
  if !regAddr a then (if s.fabricUp then s.malformed by_ (pageNo a) (pageOfs a) else s.accMark logMalformed)
  else if !s.fabricUp then (if by_ == .maint then s.lodgeWrite (pageNo a) (pageOfs a) v else s.accMark accLost)
  else (s.writeAt by_ (pageNo a) (pageOfs a) v).released.proxyNet

/-- A register read by a port. -/
def State.busRead (s : State) (by_ : Port) (a : Nat) : Word × State :=
  let s := { s with gate.acc := [] }
  if !regAddr a then (0, if s.fabricUp then s.malformed by_ (pageNo a) (pageOfs a) else s.accMark logMalformed)
  else if !s.fabricUp then (if by_ == .maint then s.lodgeRead (pageNo a) (pageOfs a) else (0, s.accMark accLost))
  else s.readAt by_ (pageNo a) (pageOfs a)

/-- A paired write: VALUE, then INVERSE to the shadow offset of its page, as one transaction (R512); a VALUE at a shadow offset has
none. -/
def State.busPair (s : State) (by_ : Port) (a : Nat) (v inv : Word) : State :=
  let s := s.busWrite by_ a v
  let acc := s.gate.acc
  let s := if pageOfs a < 0x800 then s.busWrite by_ (a + 0x800) inv else s
  { s with gate.acc := acc ++ s.gate.acc }

/-- A read whose word goes back to its port. -/
def State.busReadOut (s : State) (by_ : Port) (a : Nat) : State :=
  let (w, s) := s.busRead by_ a
  s.emit (.value w)

/-- An access of another width or alignment (R5). -/
def State.badAccess (s : State) (by_ : Port) (a : Nat) (read : Bool) : State :=
  let s := if s.fabricUp then s.malformed by_ (pageNo a) (pageOfs a) else s
  if read then s.emit (.value 0) else s

/-- The window of R18 ends with a pair still pending in a page (case 2 of R19), and writes it held go on. -/
def State.windowExpiry (s : State) (p : Nat) : State :=
  match s.pairIn p with
  | none => s
  | some q => ((s.dropPair p).shadowEvent p q.off 2).released

/-- What befell the access: a kind logged, or one of the marks beside them. -/
def State.befell (s : State) (m : Nat) : Bool := s.gate.acc.contains m

/-- The last write was not performed: refused or discarded. -/
def State.notPerformed (s : State) : Bool := s.gate.acc.any (fun k => decide (k ≠ logNotice))

end Sys2Proof.Machine
end

