-- ==== Sys2Proof/Machine/Ports.lean ====
section
/-!
DEFINITION. The ports beside the register fabric: the peer's proxy accesses (R500), register commands of the Kiosk (R485, R489), the
maintenance SPI (R511 to R514) and the debug TAP (R516 to R518).
-/
namespace Sys2Proof.Machine

/-! The proxy and the peer -/

/-- A proxy access of the peer is performed under the TWIN masks, and answered (R500): RESULT and the word read. -/
def State.proxyReceived (s : State) (q : ProxyReq) : State :=
  if !s.cln.session then s
  else
    let s := { s with gate.acc := [] }
    if !s.fabricUp then s.emit (.twinMsg msgProxyAnswer (4 :: wordOctets 0))
    else
      let (w, s) : Word × State := if q.write then (0, s.proxyWrite .twin q) else s.proxyRead .twin q
      s.emit (.twinMsg msgProxyAnswer (BitVec.ofNat 8 s.proxyRes :: wordOctets w))

/-- The command of GTH_PROXY sent to the peer ends with a RESULT and, for a read, the word (R500). -/
def State.proxyEnd (s : State) (q : ProxyReq) (res : Nat) (w : Word) : State :=
  let s := { s with gate.proxy := none }
  let s := (s.setFlag pGth Reg.Gth.GTH_PROXY_CMD 31 false).setFld pGth Reg.Gth.GTH_PROXY_CMD 10 8 res
  if q.write then s else s.setReg pGth Reg.Gth.GTH_PROXY_DATA w

/-- The peer's answer, or its absence: TIMEOUT at 20 µs, NO_PEER where the session is gone (R500).
(DEDUCED, log entry 37.) -/
def State.proxyAnswer (s : State) (answer : Option (Nat × Word)) : State :=
  match s.gate.proxy with
  | none => s
  | some q =>
    if q.net then s
    else match answer with
      | some (res, w) => if s.cln.session then s.proxyEnd q res w else s.proxyEnd q 3 0
      | none => s.proxyEnd q (if s.cln.session then 4 else 3) 0

/-! Register commands of the Kiosk -/

/-- A register command meets the tag in SECURED_AES, with KSK_CFG.REG_EN set, and the fabric (R485, R489).
(DEDUCED, log entry 212.) -/
def State.tagRegister (s : State) (a : Nat) (f : State → State) : State :=
  if s.ksk.auth != .aes || !s.flag pKsk Reg.Ksk.KSK_CFG 2 then s.tagRefuse rcNotPermitted
  else if !s.mainUp || !s.fabricUp then s.tagRefuse rcNoMain
  else if a < 0x40000000 then s.tagRefuse rcBadArg
  else f s

/-- REG_RD (R489). -/
def State.tagRegRead (s : State) (a : Nat) (crcOk : Bool) (mac : List Byte) : State :=
  s.tagCommand crcOk (0x9A :: natOctets 4 a) mac (fun s => s.tagRegister a (fun s =>
    let (w, s) := s.busRead .kiosk a
    s.tagAnswer (rcOk :: wordOctets w)))

/-- REG_WR (R489): RESULT is 1 where the write was refused or discarded. -/
def State.tagRegWrite (s : State) (pair : Bool) (a : Nat) (v : Word) (crcOk : Bool) (mac : List Byte) : State :=
  s.tagCommand crcOk (0x9C :: BitVec.ofNat 8 (b2n pair) :: natOctets 4 a ++ wordOctets v) mac (fun s => s.tagRegister a (fun s =>
    let s := if pair then s.busPair .kiosk a v (~~~v) else s.busWrite .kiosk a v
    s.tagAnswer [rcOk, BitVec.ofNat 8 (b2n s.notPerformed)]))

/-! The maintenance SPI -/

/-- The STATUS bits of R512 that an access leaves. -/
def State.portStatus (s : State) : Nat :=
  b2n (s.befell logAuth) + 2 * b2n (s.befell logMalformed) + 4 * b2n (!s.fabricUp && s.befell accLost) + 8 * b2n (s.befell accPair)

/-- STATUS as an octet, [7:4] 0b1010. -/
def statusOctet (n : Nat) : Byte := BitVec.ofNat 8 (0xA0 + n % 16)

/-- STATUS over several accesses: a bit that any of them sets. -/
def orStatus (a b : Nat) : Nat := a ||| b

/-- A SPI write at an address: outside the register pages it is MALFORMED and reaches nothing. -/
def State.spiWord (s : State) (a : Nat) (v : Word) : Nat × State :=
  if !inPages a then (2, s)
  else
    let s := s.busWrite .maint a v
    (s.portStatus, s)

/-- A SPI WRITE frame's words, each written at ADDR + 4k. -/
def State.spiWords (s : State) (a : Nat) : List Word → Nat × State
  | [] => (0, s)
  | w :: ws =>
    let (x, s) := s.spiWord a w
    let (y, s) := s.spiWords (a + 4) ws
    (orStatus x y, s)

/-- A SPI WRITE; `cut`: the frame ends inside a further word (R512). -/
def State.spiWrite (s : State) (a : Nat) (ws : List Word) (cut : Bool) : State :=
  if s.pwr.vddio18Lost then s
  else
    let (x, s) := s.spiWords a ws
    { s with dbg.msLast := orStatus x (2 * b2n cut) }

/-- A SPI PAIRED: one paired transaction (R512). -/
def State.spiPaired (s : State) (a : Nat) (v inv : Word) (cut : Bool) : State :=
  if s.pwr.vddio18Lost then s
  else if cut || !inPages a then { s with dbg.msLast := 2 }
  else
    let s := s.busPair .maint a v inv
    { s with dbg.msLast := s.portStatus }

/-- A SPI READ's words from an address on. -/
def State.spiReadWords (s : State) (a : Nat) : Nat → Nat × List Byte × State
  | 0 => (0, [], s)
  | n + 1 =>
    let (x, w, s) : Nat × Word × State :=
      if !inPages a then (2, 0, s)
      else match s.busRead .maint a with
        | (w, s) => (s.portStatus, w, s)
    let (y, bs, s) := s.spiReadWords (a + 4) n
    (orStatus x y, wordOctetsBE w ++ bs, s)

/-- A SPI READ of n words: STATUS, then the words (R512).
(DEDUCED, log entry 139.) -/
def State.spiRead (s : State) (a n : Nat) : State :=
  if s.pwr.vddio18Lost then s
  else
    let (x, bs, s) := s.spiReadWords a n
    s.emit (.spi (statusOctet x :: bs))

/-- RDSR (R512).
(DEDUCED, log entry 139.) -/
def State.spiStatus (s : State) : State := if s.pwr.vddio18Lost then s else s.emit (.spi [statusOctet s.dbg.msLast])

/-- The boot ROM streams from MAINT.
(DEDUCED, log entry 139.) -/
def State.maintStream (s : State) : Bool :=
  match s.boot.stream with
  | some b => b.src == .maint
  | none => false

/-- STAGE (R511, R512): octets into the staging area, while the boot ROM streams from MAINT.
(DEDUCED, log entry 216.) -/
def State.spiStage (s : State) (off : Nat) (bs : List Byte) : State :=
  if s.pwr.vddio18Lost || !s.maintStream || decide (off % 32 ≠ 0) || decide (0x10000 < off + bs.length) then s
  else s.writeMem rgCsram (0x100000 + off) bs

/-- BOOTDB (R511, R512): HIF_BOOT_DB with PENDING set. -/
def State.spiBootDb (s : State) (v : Word) : State :=
  if s.pwr.vddio18Lost || !s.maintStream then s else s.bootDoorbell .maint (v ||| 0x80000000)

/-- IDENT (R512): DEVICE_ID, then VER of the GTH page. -/
def State.spiIdent (s : State) : State :=
  if s.pwr.vddio18Lost then s else s.emit (.spi (s.deviceId ++ wordOctetsBE 0x0100B000))

/-! The TAP -/

/-- IDCODE (R516), the lowest octet first.
(DEDUCED, log entry 140.) -/
def State.tapIdcode (s : State) : State :=
  if s.pwr.vddio18Lost then s else s.emit (.tap (wordOctets 0xB6400A6B))

/-- BYPASS, and every undecoded code (R516): one bit of delay over the octets shifted in. -/
def State.tapBypass (s : State) (bs : List Byte) : State :=
  if s.pwr.vddio18Lost then s else s.emit (.tap (natOctets bs.length (2 * leNat bs % 2 ^ (8 * bs.length))))

/-- UNLOCK_STA codes (R517). -/
abbrev unlLocked : Nat := 0
abbrev unlBusy : Nat := 1
abbrev unlUnlocked : Nat := 2
abbrev unlFailed : Nat := 3
abbrev unlNotReady : Nat := 4

/-- UNLOCK_CHAL (R517): a challenge with a fresh nonce.
(DEDUCED, log entry 141.) -/
def State.tapChallenge (s : State) : State :=
  if s.pwr.vddio18Lost then s
  else
    let ready := s.ftn.st == .ready
    let (n, s) := if ready then s.ftnDraw 32 else (zeros 32, s)
    let c := s.deviceId ++ [BitVec.ofNat 8 s.lifecycle] ++ zeros 15 ++ n
    let s := { s with dbg.challenge := c, dbg.chalReady := ready }
    let s := if ready then s else { s with dbg.unlockSta := unlNotReady }
    s.emit (.tap c)

/-- SHA-256 of PUBKEY equals a key that R72 permits in the lifecycle state. -/
def State.unlockKey (s : State) (pub : List Byte) : Bool :=
  let root := keyMatches s.rootHash pub
  let owner := keyMatches s.ownerHash pub
  match s.lifecycle with
  | 1 => root || owner
  | 2 => owner
  | _ => root

/-- A response fails (R517, R519). -/
def State.unlockFail (s : State) : State :=
  { s with dbg.fails := s.dbg.fails + 1, dbg.unlockSta := unlFailed, dbg.verifying := false }.fault pGth 5

/-- UNLOCK_RESP (R517): each challenge admits one response; after four failures none is taken.
(DEDUCED, log entry 141.) -/
def State.tapResponse (s : State) (resp : List Byte) : State :=
  if s.pwr.vddio18Lost || decide (4 ≤ s.dbg.fails) || !s.dbg.chalReady || s.dbg.verifying then s
  else
    let s := { s with dbg.chalReady := false, dbg.resp := resp }
    if !s.unlockKey (resp.take 64) then s.unlockFail
    else { s with dbg.verifying := true, dbg.unlockSta := unlBusy }.arbRequest .unlockVerify

/-- The verification ends (R517): the TAP unlocks, in OPERATIONAL after a zeroise, or the response fails.
(DEDUCED, log entry 141.) -/
def State.unlockVerified (s : State) : State :=
  match s.arb.cur with
  | some (.req .unlockVerify) =>
    if s.arb.phase ≠ .timed then s
    else
      let pub := s.dbg.resp.take 64
      let sig := s.dbg.resp.drop 64
      let s := s.arbNext
      if !s.dbg.verifying then s
      else if ecdsaVerify pub (sha256 (ascii "BNL-DU" ++ s.dbg.challenge)) sig then
        let s := if s.lifecycle = 2 then s.zeroise true else s
        { s with dbg.verifying := false, dbg.unlocked := true, dbg.unlockSta := unlUnlocked }
      else s.unlockFail
  | _ => s

/-- UNLOCK_STA (R517). -/
def State.tapStatus (s : State) : State :=
  if s.pwr.vddio18Lost then s else s.emit (.tap [BitVec.ofNat 8 s.dbg.unlockSta])

/-- The 72 bits of DBG_ACC as nine octets (R518). -/
def dbgAccOctets (data : Word) (addr op status : Nat) : List Byte :=
  wordOctets data ++ natOctets 4 addr ++ [BitVec.ofNat 8 (op % 4 + 4 * (0x20 + status))]

/-- A word of memory as DBG_ACC reads it: control SRAM, MRAM outside execute-only regions, the sample store (R518). -/
def State.dbgReadMem (s : State) (a : Nat) : Nat × Word × State :=
  let ok := decide (a % 4 = 0) && (inCsram a 4 || (inMram a 4 && !s.xoSector ((a - 0x10000000) / 4096)) ||
    (decide (0x30000000 ≤ a) && decide (a + 4 ≤ 0x34000000)))
  if !ok then (2, 0, s)
  else match s.dataAt a 4 with
    | (bs, false, s) => (0, leWord bs, s)
    | (_, true, s) => (0, 0, s.poisonData a 4)

/-- One access of DBG_ACC (R518): STATUS, the word read, and the state.
(DEDUCED, log entry 140.) -/
def State.dbgAccess (s : State) (op a : Nat) (v : Word) : Nat × Word × State :=
  if inPages a then
    if op = 1 then
      match s.busRead .debug a with
      | (w, s) => (s.portStatus, w, s)
    else
      let s := if op = 2 then s.busWrite .debug a v else s.busPair .debug a v (~~~v)
      (s.portStatus, 0, s)
  else if op = 1 then s.dbgReadMem a
  else if op = 2 ∧ a % 4 = 0 ∧ inCsram a 4 = true then (0, 0, s.csramWrite a (wordOctets v))
  else (2, 0, s)

/-- DBG_ACC (R518): Capture-DR shifts out the result of the access before, Update-DR makes this one; locked, the code acts as
BYPASS.
(DEDUCED, log entry 140.) -/
def State.dbgAcc (s : State) (op a : Nat) (v : Word) : State :=
  if s.pwr.vddio18Lost then s
  else if !s.dbg.unlocked then s.tapBypass (wordOctets v ++ natOctets 4 a ++ [BitVec.ofNat 8 (op % 4)])
  else
    let s := s.emit (.tap (if s.dbg.last.isEmpty then zeros 9 else s.dbg.last))
    if op % 4 = 0 then s
    else
      let (st, w, s) := s.dbgAccess (op % 4) a v
      { s with dbg.last := dbgAccOctets (if op % 4 = 1 then w else v) a op st }

end Sys2Proof.Machine
end

