-- ==== Sys2Proof/Machine/NdearC.lean ====
section
/-!
DEFINITION. Ndear-C, the control core: its system ports, loads and stores over its address map, fetch, traps, interrupts and
returns, the issue of a bundle (R275 to R278, R289 to R291, R505), and the single operations of either core as commands.
-/
namespace Sys2Proof.Machine

/-! Stores -/

/-- A store that is discarded and logged as a refused write, with the page of the block whose rule discards it: NVM for the MRAM
and the OTP row (R394), none for the rest of the address map (R505).
(DEDUCED, log entry 34.) -/
def State.storeDiscard (s : State) (page : Nat) : State := s.gthLog logRefused (some .core) page 0

/-- A completed store of Ndear-C: n octets at an address (R294, R394, R505).
(DESIGN CHOICE, log entry 95.) -/
def State.coreStore (s : State) (a n : Nat) (v : Word) : State :=
  let bs := (wordOctets v).take n
  if inCsram a n then s.byFlit pCcp (fun s => s.csramWrite a bs)
  else if 0x34000000 ≤ a ∧ a < 0x36000000 then s.byFlit pCcp (fun s => s.writeMem rgPacket (a - 0x34000000) bs)
  else if 0x36000000 ≤ a ∧ a < 0x36800000 then s.byFlit pCcp (fun s => s.tableStore .core (a - 0x36000000) bs)
  else if 0x10000000 ≤ a ∧ a < 0x12000000 then (s.fault pNvm 6).storeDiscard pNvm
  else if inPages a then (if n = 4 then s.busWrite .core a v else s.badAccess .core a false)
  else s.storeDiscard 0

/-- The oldest posted store leaves the queue and completes (R276).
(DESIGN CHOICE, log entry 95.) -/
def State.storeComplete (s : State) : State :=
  match s.engC.stores with
  | [] => s
  | x :: xs => { s with engC.stores := xs }.coreStore x.addr x.width x.value

/-- n stores complete, oldest first. -/
def State.drainN (s : State) : Nat → State
  | 0 => s
  | n + 1 => s.storeComplete.drainN n
/-- Every queued store completes.
(DESIGN CHOICE, log entry 95.) -/
def State.drain (s : State) : State := s.drainN s.engC.stores.length

/-! Loads -/

/-- An octet of the OTP row as every read returns it (R406, R407).
(DEDUCED, log entry 101.) -/
def State.otpOctet (s : State) (off : Nat) : Byte :=
  let maj := fun (base n : Nat) => nth (s.otpMajority base n) ((off - base) % n) 0
  if 0x1000 ≤ off ∨ (0x060 ≤ off ∧ off < 0x080) then 0
  else if 0x080 ≤ off ∧ off < 0x083 then maj 0x080 1
  else if 0x090 ≤ off ∧ off < 0x0A8 then maj 0x090 8
  else if 0x0C0 ≤ off ∧ off < 0x0CC then maj 0x0C0 4
  else if 0x0D0 ≤ off ∧ off < 0x0DC then maj 0x0D0 4
  else if 0x100 ≤ off ∧ off < 0x500 ∧ s.otp.bad.contains (off / 32 * 32) = true then
    nth (wordOctets (s.loadedMasks ((off - 0x100) / 4)).word) (off % 4) 0
  else nth (s.otpOnce off 1) 0 0

/-- The unit in progress on an MRAM bank completes before a load from it goes on (R401). -/
def State.bankWait (s : State) (off : Nat) : State :=
  match s.nvm.run with
  | some r => if r.unitOn && decide (r.off / 0x400000 = off / 0x400000) then s.nvmUnitDone else s
  | none => s

/-- A load of n octets at an address of the map: the word, zero-extended, and the poisoned word where it met one, the value then being
open (R417, R505).
(DEDUCED, log entry 98.) -/
def State.coreRead (s : State) (a n : Nat) : Word × Option PoisonAt × State :=
  if inPages a then
    if n = 4 then
      match s.busRead .core a with
      | (w, s) => (w, none, s)
    else (0, none, if s.fabricUp then s.malformed .core (pageNo a) (pageOfs a) else s)
  else if 0x11000000 ≤ a ∧ a < 0x12000000 then
    (leWord ((List.range n).map (fun i => s.otpOctet (a - 0x11000000 + i))), none, s)
  else if 0x36000000 ≤ a ∧ tableHidden (a - 0x36000000) = true then (0, none, s)
  else
    let s := if inMram a n then s.bankWait (a - 0x10000000) else s
    match s.dataAt a n with
    | (bs, false, s) => (leWord bs, none, s)
    | (_, true, s) => (s.drawWord.1, some (s.poisonIn (memHome a).1 (memHome a).2 n), s.drawWord.2)

/-- A load that reaches an engine memory: the table memory, or a register that reads context memory or an output word (R239). -/
def engineAccess (a : Nat) : Bool :=
  (decide (0x36000000 ≤ a) && decide (a < 0x36800000)) ||
    (inPages a && decide (pageNo a = pPav) &&
      (decide (pageOfs a = Reg.Pav.CTX_DATA) || decide (pageOfs a = Reg.Pav.OW_VAL) || decide (pageOfs a = Reg.Pav.OW_META)))

/-- Octets a load or store of lsu0 moves, by offset (R276). -/
def lsuWidth (op : Nat) : Nat :=
  if op = 2 ∨ op = 7 then 4 else if op = 3 ∨ op = 4 ∨ op = 8 then 2 else 1
/-- Offsets that load, and that store.
(DEDUCED, log entry 89.) -/
def lsuLoads (op : Nat) : Bool := decide (2 ≤ op) && decide (op ≤ 6)
def lsuStores (op : Nat) : Bool := decide (7 ≤ op) && decide (op ≤ 9)

/-- A loaded value as r takes it: lh and lb are sign-extended (R276). -/
def lsuExtend (op : Nat) (w : Word) : Word :=
  if op = 3 then (w.setWidth 16).signExtend 32 else if op = 5 then (w.setWidth 8).signExtend 32 else w

/-- What a load brings to lsu0's result ports, and the poisoned word it met (R276). -/
def State.lsuLoad (s : State) (op a : Nat) : List (Nat × Word) × Option PoisonAt × State :=
  let s := if engineAccess a then s.stallOne else s
  match s.coreRead a (lsuWidth op) with
  | (w, p, s) => ([(0x39E, lsuExtend op w), (0x39F, 0)], p, s)

/-- A load is performed, and its result lands after `lat` cycles.
(DEDUCED, log entry 96.) -/
def State.lsuPerform (s : State) (op a lat : Nat) : State :=
  match s.lsuLoad op a with
  | (ws, p, s) => s.fly .core lat ws p

/-- An address that lies in no region, or that Ndear-C may not load from after the jump to ENTRY or in TASK mode (R277, R505).
A store to the boot ROM is discarded and raises nothing.
(DEDUCED, log entry 98.) -/
def coreAddrBad (task load : Bool) (a : Nat) : Bool :=
  if a < 0x20000 then load
  else if a < 0x10000000 then true
  else if a < 0x11000000 then false
  else if a < 0x12000000 then task && decide (a < 0x11001000)
  else if a < 0x20000000 then true
  else if a < 0x20200000 then false
  else if a < 0x30000000 then true
  else if a < 0x36800000 then false
  else if a < 0x40000000 then true
  else task || decide (0x41000000 ≤ a)

/-- Issue stands still for a number of cycles that the manual leaves open.
(DESIGN CHOICE, log entry 97.) -/
def State.stallC (s : State) : State :=
  match s.drawNat with
  | (n, s) => { s with engC.stalls := s.engC.stalls + n }

/-- The long load outstanding is taken up, the stores before it completed; one to an engine memory waits beyond the limit of stall
cycles (R239, R276). -/
def State.longTake (s : State) : Option LongLoad × State :=
  match s.engC.longLoad with
  | none => (none, s)
  | some l => if engineAccess l.addr && s.ctlHeld then (none, s.stallHeld) else (some l, { s.drain with engC.longLoad := none })

/-- The long load outstanding lands with the cycle in progress.
(DEDUCED, log entry 96.) -/
def State.longLand (s : State) : State :=
  match s.longTake with
  | (none, s) => s
  | (some l, s) => s.lsuPerform l.op l.addr 1

/-- The long load outstanding lands while issue stands still: its ports alone change (R254, R276). Poisoned, it is an after trap of an
earlier bundle (R286, R287). -/
def State.longNow (s : State) : List TrapAt × State :=
  match s.longTake with
  | (none, s) => ([], s)
  | (some l, s) => match s.lsuLoad l.op l.addr with
    | (ws, p, s) => (poisonTrap p, { s with engC := s.engC.setRes ws })

/-- lsu0 (R276): a load, a posted store or a wait for the stores before.
(DEDUCED, log entry 89.) -/
def State.lsuTrig (s : State) (slot op : Nat) (t : Word) : List TrapAt × State :=
  let a := (s.opnd .core 0x380 + t).toNat
  let n := lsuWidth op
  let task := !bitAt s.engC.st 0
  let addr : List TrapAt := [⟨0xA, slot, BitVec.ofNat 32 a, none⟩]
  if op = 0xA then ([], s.drain)
  else if a % n ≠ 0 ∨ coreAddrBad task (lsuLoads op) a = true then (addr, s)
  else if lsuStores op then
    ([], { s with engC.stores := s.engC.stores ++ [PostedStore.mk a n (s.opnd .core 0x381)] })
  else if inCsram a n && s.engC.stores.all (fun x => inCsram x.addr x.width) then ([], s.drain.lsuPerform op a 2)
  else ([], { s with engC.longLoad := some (LongLoad.mk op a) })

/-! System ports -/

/-- The value of a system port (R277, R504). -/
def State.readSys (s : State) (p : Nat) : Word :=
  let g := s.engC
  match p with
  | 0x40 => g.st
  | 0x41 => g.tvec
  | 0x42 => g.epc
  | 0x43 => g.cause
  | 0x44 => g.tval
  | 0x45 => g.erep
  | 0x46 => g.exfer
  | 0x47 => g.dsb
  | 0x48 => g.dsl
  | 0x49 => BitVec.ofNat 32 (g.cycle + g.stalls)
  | 0x4A => g.cych
  | 0x4B => nth g.scr 0 0
  | 0x4C => nth g.scr 1 0
  | 0x4D => nth g.scr 2 0
  | 0x4E => nth g.scr 3 0
  | _ => s.reg pCcp Reg.Ccp.CCP_IP &&& s.reg pCcp Reg.Ccp.CCP_IE &&& 0xFFFF

/-- sys.cyc is read: sys.cych is latched (R277).
(DESIGN CHOICE, log entry 152.) -/
def State.latchCyc (s : State) : State :=
  { s with engC.cych := BitVec.ofNat 32 ((s.engC.cycle + s.engC.stalls) / 2 ^ 32) }

/-- A move to a system port (R277).
(DEDUCED, log entry 100.) -/
def State.writeSys (s : State) (p : Nat) (v : Word) : State :=
  match p with
  | 0x40 => { s with engC.st := v &&& 0xF }
  | 0x41 => { s with engC.tvec := v &&& 0xFFFFF000 }
  | 0x42 => { s with engC.epc := v }
  | 0x45 => { s with engC.erep := v &&& 0x3FFFF }
  | 0x46 => { s with engC.exfer := v &&& 0xFFFFFFFB }
  | 0x47 => { s with engC.dsb := v }
  | 0x48 => { s with engC.dsl := v }
  | 0x4B => { s with engC.scr := setNth s.engC.scr 0 v }
  | 0x4C => { s with engC.scr := setNth s.engC.scr 1 v }
  | 0x4D => { s with engC.scr := setNth s.engC.scr 2 v }
  | 0x4E => { s with engC.scr := setNth s.engC.scr 3 v }
  | _ => s

/-- PRIV of a move in TASK mode (R277). -/
def privTrap (g : Engine) (m : Move) : List TrapAt :=
  let sys := fun (p : Nat) => sysPort p && decide (p ≠ 0x49) && decide (p ≠ 0x4A)
  let src := match m.src with | some p => sys p | none => false
  if bitAt g.st 0 then []
  else if src then [⟨0xD, m.slot, BitVec.ofNat 32 (m.src.getD 0), none⟩]
  else if sys m.dst || m.dst == 0x27 || m.dst == 0x28 then [⟨0xD, m.slot, BitVec.ofNat 32 m.dst, none⟩]
  else []

/-! Traps and returns -/

/-- Entering a trap, an interrupt or an NMI (R277, R289): `next` is the bundle that would issue next.
(DEDUCED, log entry 99.) -/
def Engine.enter (g : Engine) (code slot : Nat) (multi inter : Bool) (tval : Word) : Engine :=
  let inX := g.xfer.isSome
  let cause := code + slot * 2 ^ 8 + b2n inX * 2 ^ 29 + b2n multi * 2 ^ 30 + b2n inter * 2 ^ 31
  let st := g.st
  { g with
    epc := BitVec.ofNat 32 g.pc, cause := BitVec.ofNat 32 cause, tval := tval
    exfer := match g.xfer with
      | some x => BitVec.ofNat 32 ((if x.eret then g.epc.toNat else x.target) / 8 * 8 % 2 ^ 32 + x.left % 4)
      | none => 0
    erep := match g.rep with
      | some q => BitVec.ofNat 32 ((q.n - q.k) + b2n q.soft * 2 ^ 17)
      | none => 0
    st := BitVec.ofNat 32 (1 + 4 * b2n (bitAt st 1) + 8 * b2n (bitAt st 0))
    pc := (g.tvec.toNat + 64 * code) % 2 ^ 32
    xfer := none, rep := none, nextRep := none, waiting := false }

/-- The return of R290: mode and IE come back, and the saved repeat and transfer resume.
(DEDUCED, log entry 100.) -/
def Engine.eret (g : Engine) : Engine :=
  let st := g.st
  let n := g.erep.toNat % 2 ^ 17
  { g with
    st := BitVec.ofNat 32 (b2n (bitAt st 3) + 2 * b2n (bitAt st 2) + 4 * b2n (bitAt st 2) + 8 * b2n (bitAt st 3))
    pc := g.epc.toNat
    rep := if g.erep = 0 then none else some (Repeat.mk n 0 (bitAt g.erep 17))
    xfer := if g.exfer = 0 then none else some (Xfer.mk (g.exfer.toNat / 8 * 8) (g.exfer.toNat % 4) false)
    erep := 0, exfer := 0 }

/-- A transfer of Ndear-C whose delay bundles have issued is taken (R278, R290). -/
def Engine.takeC (g : Engine) : Engine :=
  match g.xfer with
  | some x => if x.eret && decide (x.left = 0) then { g with xfer := none }.eret.takeXfer else g.takeXfer
  | none => g

/-- Issue cycle of Ndear-C ends without its bundle: an issue trap (R263, R289). -/
def State.trapIssueC (s : State) (ts : List TrapAt) : State :=
  let (g, ps) := s.engC.land
  let g := { g with cycle := g.cycle + 1 }
  match worstTrap (ts ++ ps) with
  | some (t, multi) =>
    let s := { s with engC := g.enter t.code t.slot multi false t.tval }
    match t.poison with
    | some p => s.poisonUsed p false
    | none => s
  | none => { s with engC := g }

/-- An after trap met between bundles: it is entered before the next bundle is looked at (R287, R289). -/
def State.trapLate (s : State) (ts : List TrapAt) : State :=
  match worstTrap ts with
  | some (t, multi) =>
    let s := { s with engC := s.engC.enter t.code t.slot multi false t.tval }
    match t.poison with
    | some p => s.poisonUsed p false
    | none => s
  | none => s

/-- An issue cycle of Ndear-C ends: landings, then an after trap where one arose (R256, R286, R289). -/
def State.endCycleC (s : State) (ts : List TrapAt) : State :=
  let (g, ps) := s.engC.land
  let g := g.advance .core
  match worstTrap (ts ++ ps) with
  | some (t, multi) =>
    let s := { s with engC := g.takeC.enter t.code t.slot multi false t.tval }
    match t.poison with
    | some p => s.poisonUsed p false
    | none => s
  | none => { s with engC := g }

/-- Ndear-C can issue a bundle: firmware runs, the core is neither halted, stopped nor waiting (R278, R502, R518). -/
def State.coreRuns (s : State) : Bool :=
  s.boot.entered && s.fabricUp && !s.engC.halted && !s.engC.waiting && !s.ldg.coreStopped

/-- Sources pending and enabled (R504). -/
def State.ipend (s : State) : Bool := decide (s.readSys 0x4F ≠ 0)

/-- Ndear-C may take an interrupt or an NMI here: between bundles, no transfer pending, outside a REP.tn (R291, R518). -/
def State.canInterrupt (s : State) : Bool :=
  s.boot.entered && s.fabricUp && !s.engC.halted && !s.ldg.coreStopped && s.engC.takeC.xfer.isNone &&
    (match s.engC.takeC.rep with | some q => q.soft | none => true)

/-- An interrupt is pending: issue resumes after ctl.wfi (R278). -/
def State.wfiResume (s : State) : State :=
  if s.engC.waiting && (s.ipend || decide (s.ccp.nmi ≠ 0)) then { s.stallC with engC.waiting := false } else s

/-! A bundle of Ndear-C -/

/-- The two words of the bundle at an address, or the trap of one that cannot be fetched (R258, R278, R401, R417, R505). The
content of the boot ROM is open.
(DEDUCED, log entry 90; DESIGN CHOICE, log entry 20.) -/
def State.fetchC (s : State) (a : Nat) : (List Word ⊕ TrapAt) × State :=
  let bad : List Word ⊕ TrapAt := .inr ⟨0xC, 0, BitVec.ofNat 32 a, none⟩
  let busy := match s.nvm.run with
    | some r => r.unitOn && decide (r.off / 0x400000 = (a - 0x10000000) / 0x400000)
    | none => false
  let word := fun (r : List Byte × Bool × State) => match r with
    | (bs, false, s) => ((.inl [leWord (bs.take 4), leWord (bs.drop 4)] : List Word ⊕ TrapAt), s)
    | (_, true, s) => (.inr ⟨0xB, 0, BitVec.ofNat 32 a, none⟩, s.poisonRead (memHome a).1 (memHome a).2 8 true)
  if a % 8 ≠ 0 then (bad, s)
  else if a < 0x20000 then
    (.inl [leWord ((List.range 4).map (fun i => Config.bootRom (a + i))), leWord ((List.range 4).map (fun i => Config.bootRom (a + 4 + i)))], s)
  else if inMram a 8 then (if busy then (bad, s) else word (s.readMem (mramRegion (a - 0x10000000)) (a - 0x10000000) 8))
  else if inCsram a 8 then word (s.readMem rgCsram (a - 0x20000000) 8)
  else (bad, s)

/-- The value of a source port of Ndear-C. -/
def State.readPortC (s : State) (p : Nat) : Word := if sysPort p then s.readSys p else s.readPort .core p

/-- ctl.eret (R279, R290) and ctl.wfi (R278).
(DEDUCED, log entry 100.) -/
def State.eretTrig (s : State) (pend : Bool) (slot : Nat) (t : Word) : List TrapAt × State :=
  if pend then ([⟨1, slot, t, none⟩], s) else ([], s.transfer .core 0 true)

/-- A trigger of Ndear-C. -/
def State.trigC (s : State) (pend : Bool) (slot p : Nat) (t : Word) : List TrapAt × State :=
  if 0x380 ≤ p then s.lsuTrig slot (p % 32) t
  else if p = 0x27 then s.eretTrig pend slot t
  else if p = 0x28 then ([], { s with engC.waiting := true })
  else s.unitTrig .core pend slot p t

/-- A move of Ndear-C to a port that is no trigger. -/
def State.writePortC (s : State) (p : Nat) (v : Word) : State := if sysPort p then s.writeSys p v else s.writePort .core p v

/-- The moves of a bundle, operand and register ports first, then the triggers in slot order, and system ports last: they are read
from the next bundle on (R255, R277). -/
def State.performC (s : State) (gather : Bool) (vs : List (Move × Word)) : List TrapAt × State :=
  let pend := s.engC.xfer.isSome
  let plain := vs.filter (fun v => (triggerUnit v.1.dst).isNone)
  let s := (plain.filter (fun v => !sysPort v.1.dst)).foldl (fun s v => s.writePort .core v.1.dst v.2) s
  let (ts, s) := runTriggers (fun s => s.trigC pend) gather vs s
  (ts, (plain.filter (fun v => sysPort v.1.dst)).foldl (fun s v => s.writeSys v.1.dst v.2) s)

/-- A bundle that stands still at issue: it reads lsu0.r or triggers lsu0 while a long load is outstanding, stores into a full
queue, or waits at sync for the stores before (R276). -/
def State.lsuStalls (s : State) (ms : List Move) : Bool :=
  let lsu := ms.any (fun m => decide (0x382 ≤ m.dst) && decide (m.dst ≤ 0x38A))
  let st := ms.any (fun m => decide (0x387 ≤ m.dst) && decide (m.dst ≤ 0x389))
  (s.engC.longLoad.isSome && (lsu || ms.any (fun m => decide (m.src = some 0x39E)))) ||
    (st && decide (8 ≤ s.engC.stores.length)) || (ms.any (fun m => decide (m.dst = 0x38A)) && !s.engC.stores.isEmpty)

/-- What issue waits for at lsu0 has come: the long load has landed, unless it waits itself, and of the stores as many have completed
as the bundle needs (R239, R276). -/
def State.lsuSettle (s : State) (ms : List Move) : List TrapAt × State :=
  if !s.lsuStalls ms then ([], s)
  else
    let (ts, s) := s.stallC.longNow
    (ts, if ms.any (fun m => decide (m.dst = 0x38A)) then s.drain else if 8 ≤ s.engC.stores.length then s.storeComplete else s)

/-- The moves of a bundle that passed its checks of form are performed, and the cycle ends. -/
def State.runMovesC (s : State) (ms : List Move) (checks : List TrapAt) : State :=
  let vs := ms.map (fun m => (m, match m.src with | some p => s.readPortC p | none => m.imm))
  let (ts, s') := s.performC (!checks.isEmpty) vs
  let issue := checks ++ ts.filter (fun t => !afterCode t.code)
  if !issue.isEmpty then s.trapIssueC issue
  else
    let s' := if ms.any (fun m => decide (m.src = some 0x49)) then s'.latchCyc else s'
    s'.endCycleC (ts.filter (fun t => afterCode t.code))

/-- A bundle issues on Ndear-C (R254, R263, R276). -/
def State.issueC (s : State) : State :=
  let s := { s with engC := s.engC.takeC }
  if (match s.engC.rep with | some q => decide (q.n = 0) | none => false) then s.endCycleC []
  else match s.fetchC s.engC.pc with
    | (.inr t, s) => s.trapIssueC [t]
    | (.inl ws, s) =>
      let (ms, enc) := s.engC.performed ws
      let checks := enc ++ ms.flatMap (portTrap .core) ++ conflictTrap .core [] ms ++ repTrap s.engC.rep.isSome ms ++
        ms.flatMap (privTrap s.engC)
      let ports := ms.filter (fun m => (portTrap .core m).isEmpty && (privTrap s.engC m).isEmpty)
      if !checks.isEmpty then s.runMovesC ports checks
      else
        let (late, s) := s.lsuSettle ms
        if !late.isEmpty then s.trapLate late
        else if s.lsuStalls ms then s
        else s.runMovesC ports []

/-! Cycles -/

/-- A cycle of either core ends; on Ndear-C a long load whose earlier stores have completed lands with it (R256, R276). -/
def State.endCycle (s : State) (c : Cpu) : State :=
  match c with
  | .pav => s.endCycleP false []
  | .core => if s.coreRuns then (if s.engC.stores.isEmpty then s.longLand else s).endCycleC [] else s

/-- What the cycle in progress of a core holds. -/
def State.setUse (s : State) (c : Cpu) (u : CycleUse) : State := s.setEng c { s.eng c with use := u }

/-- A cycle of single operations that has ended: the next one holds nothing yet. -/
def State.opsOver (s : State) (c : Cpu) : State := if (s.eng c).use = .ops then s.setUse c .gap else s

/-- A cycle of single operations in progress ends.
(DEDUCED, log entries 91, 195.) -/
def State.closeOps (s : State) (c : Cpu) : State := if (s.eng c).use = .ops then (s.endCycle c).opsOver c else s

/-- BUNDLE_ISSUE on either core, where it may issue; single operations before it had a cycle of their own. -/
def State.issue (s : State) (c : Cpu) : State :=
  let s := (s.closeOps c).setUse c .bundle
  match c with
  | .pav => s.issueP
  | .core => if s.coreRuns then s.issueC else s

/-- An entry between bundles once the long access in progress has ended, which a poisoned load's trap forestalls (R287, R291). -/
def State.afterLong (s : State) (entry : State → State) : State :=
  match s.longNow with
  | (late, s) => if !late.isEmpty then s.trapLate late else if s.engC.longLoad.isSome then s else entry s

/-- INTERRUPT is taken (R291): the delay bundles of a return have issued, so its IE decides (R290).
(DEDUCED, log entry 99.) -/
def State.interruptEntry (s : State) : State :=
  let s := s.closeOps .core
  if s.canInterrupt && bitAt s.engC.takeC.st 1 && s.ipend then
    { s with engC := s.engC.takeC }.afterLong (fun s =>
      if s.ipend then { s with engC := s.engC.enter 0x20 0 false true 0 } else s)
  else s

/-- NMI is taken for the first pending source, which CCP_NMI records (R291, R504).
(DEDUCED, log entry 99.) -/
def State.nmiEntry (s : State) : State :=
  match (List.range 3).find? (fun i => s.ccp.nmi.testBit i) with
  | none => s
  | some i =>
    let s := s.closeOps .core
    if s.canInterrupt then
      { s with engC := s.engC.takeC }.afterLong (fun s =>
        let s := { s with ccp.nmi := s.ccp.nmi - 2 ^ i }.setFlag pCcp Reg.Ccp.CCP_NMI i true
        { s with engC := s.engC.enter 0x21 0 false true 0 })
    else s

/-! Single operations -/

/-- The delay bundles of a transfer have issued: issue moves to its target (R278).
(DEDUCED, log entry 93.) -/
def State.transferTaken (s : State) (c : Cpu) : State :=
  match c with
  | .pav => { s with engP := s.engP.takeXfer }
  | .core => { s with engC := s.engC.takeC }

/-- A core can perform an operation now. -/
def State.coreActs (s : State) (c : Cpu) : Bool :=
  match c with
  | .pav => match s.pgl.run with
    | some r => !s.budgetSpent r
    | none => false
  | .core => s.coreRuns

/-- The operand moves of an operation, then its trigger. -/
def State.unitMoves (s : State) (c : Cpu) (ws : List (Nat × Word)) (p : Nat) (t : Word) : List TrapAt × State :=
  let s := ws.foldl (fun s w => s.writePort c w.1 w.2) s
  let pend := (s.eng c).xfer.isSome
  match c with
  | .pav => s.trigP pend 0 p t
  | .core => s.trigC pend 0 p t

/-- The traps an operation's trigger port raises by itself, or beside a repeat move of the same cycle (R283). -/
def State.unitChecks (s : State) (c : Cpu) (p : Nat) : List TrapAt :=
  let m : Move := ⟨0, none, 0, p⟩
  let rep : List TrapAt := if isTransfer p && (s.eng c).nextRep.isSome then [⟨4, 0, BitVec.ofNat 32 p, none⟩] else []
  portTrap c m ++ repTrap (s.eng c).rep.isSome [m] ++ rep ++ (if c = .core then privTrap s.engC m else [])

/-- A unit takes one trigger a cycle: a second operation of one begins the next cycle (R257). -/
def State.freeUnit (s : State) (c : Cpu) (p : Nat) : State :=
  if (s.eng c).trig.contains ((triggerUnit p).getD 0) then s.closeOps c else s

/-- An operation joins the cycle in progress. -/
def State.joinCycle (s : State) (c : Cpu) (p : Nat) : State :=
  let g := s.eng c
  s.setEng c { g with use := .ops, trig := (triggerUnit p).getD 0 :: (if g.use = .ops then g.trig else []) }

/-- A cycle ends with traps, the moves of the bundle performed or, for issue traps, not.
(DEDUCED, log entry 91.) -/
def State.endWith (s s' : State) (c : Cpu) (ended : Bool) (ts : List TrapAt) : State :=
  match c, ts.all (fun t => afterCode t.code) with
  | .pav, true => s'.endCycleP ended ts
  | .pav, false => s.endCycleP false ts
  | .core, true => s'.endCycleC ts
  | .core, false => s.trapIssueC ts

/-- One operation of a core: operand moves `ws` and the trigger of port p with t, in the bundle of the cycle in progress. Its
result is in flight until its latency has passed; a trap, or ctl.end, ends the cycle.
(DEDUCED, log entries 91, 195.) -/
def State.unitOp (s : State) (c : Cpu) (ws : List (Nat × Word)) (p : Nat) (t : Word) : State :=
  let s := s.freeUnit c p
  if !s.coreActs c then s
  else
    let s := (s.joinCycle c p).transferTaken c
    let (late, s) := if c = .core then s.lsuSettle [⟨0, none, 0, p⟩] else ([], s)
    if !late.isEmpty then (s.trapLate late).opsOver c
    else if decide (c = .core) && s.lsuStalls [⟨0, none, 0, p⟩] then s
    else
      let checks := s.unitChecks c p
      let (ts, s') := if checks.isEmpty then s.unitMoves c ws p t else (checks, s)
      if ts.isEmpty && decide (p ≠ 0x25) then s' else (s.endWith s' c (decide (p = 0x25)) ts).opsOver c

/-- Cycles in which nothing issues pass until a result lands, n at most.
(DEDUCED, log entry 92.) -/
def State.emptyCycles (s : State) (c : Cpu) : Nat → State
  | 0 => s
  | n + 1 => if s.coreActs c then (s.endCycle c).emptyCycles c n else s

/-- Cycles until the first result in flight has landed, the one in progress counted. -/
def Engine.untilLanding (g : Engine) : Nat :=
  match g.flight with
  | [] => 0
  | l :: ls => (ls.foldl (fun d x => min d x.due) l.due) + 1 - g.cycle

/-- RESULT_LAND (R256): the cycle of the single operations before it ends, and empty cycles pass until a result has landed. After a
bundle, which ends its own cycle, it has no effect.
(DEDUCED, log entry 92.) -/
def State.resultLand (s : State) (c : Cpu) : State :=
  match (s.eng c).use with
  | .bundle => s
  | .ops => (s.emptyCycles c (max 1 (s.eng c).untilLanding)).opsOver c
  | .gap => s.emptyCycles c (s.eng c).untilLanding

/-! Debug control -/

/-- DBG_CORE (R518): halt, issue one bundle, or resume; locked, the code acts as BYPASS. -/
def State.dbgCore (s : State) (op : Nat) : State :=
  if s.pwr.vddio18Lost then s
  else if !s.dbg.unlocked then s.tapBypass [BitVec.ofNat 8 op]
  else match op with
    | 1 => { s with engC.halted := true }
    | 2 =>
      let h := s.engC.halted
      { ({ s with engC.halted := false }.issue .core) with engC.halted := h }
    | 3 => { s with engC.halted := false }
    | _ => s

end Sys2Proof.Machine
end

