-- ==== Sys2Proof/Machine/Events.lean ====
section
/-!
DEFINITION. Events that several blocks share: register addresses, the reset pin, the start of a slot (R108) with everything that
falls on it, and the smaller events of the monitors and memories.
-/
namespace Sys2Proof.Machine

/-- The Ndear-C address of a register (R505, R534). -/
def regAt (p o : Nat) : Nat := 0x40000000 + 0x1000 * p + o

/-- An event of the main domain: while that is in reset nothing happens there.
(DESIGN CHOICE, log entry 8.) -/
def State.whenUp (s : State) (f : State → State) : State := if s.fabricUp then f s else s

/-- A register write by a port at page p, offset o.
(DESIGN CHOICE, log entry 28.) -/
def State.portWrite (s : State) (by_ : Port) (p o : Nat) (v : Word) : State := s.busWrite by_ (regAt p o) v
/-- A register read by a port at page p, offset o; the word goes back to it. -/
def State.portRead (s : State) (by_ : Port) (p o : Nat) : State := s.busReadOut by_ (regAt p o)
/-- A write of a word, or a read. -/
def State.portAccess (s : State) (by_ : Port) (p o : Nat) : Option Word → State
  | some v => s.portWrite by_ p o v
  | none => s.portRead by_ p o

/-- An access to CTX_DATA (R295, R315): one of Ndear-C costs a stall cycle, and beyond the limit its read waits for the last run of the
slot (R239). -/
def State.ctxAccess (s : State) (by_ : Port) (v : Option Word) : State :=
  if by_ == .core && v.isNone && s.fabricUp && (s.masks (indexOf pPav)).reads .core then
    if s.ctlHeld then { s.stallHeld with pav.ctlWait := s.pav.ctlWait ++ [.ctx] }
    else s.stallOne.portRead by_ pPav Reg.Pav.CTX_DATA
  else s.portAccess by_ pPav Reg.Pav.CTX_DATA v

/-! Command words -/

/-- TBL_CMD (R184). -/
def tblWord (op table index : Nat) : Word := BitVec.ofNat 32 (op + 4 * table + 16 * index)
/-- KEY_CMD (R337). -/
def keyWord (op : Nat) (nxt both : Bool) (slot : Nat) : Word :=
  BitVec.ofNat 32 (op + 8 * b2n nxt + 16 * b2n both + 65536 * slot)
/-- ARB_CMD (R360). -/
def arbWord (op : Nat) (masked : Bool) (ksrc esel words : Nat) : Word :=
  BitVec.ofNat 32 (op + 32 * b2n masked + 64 * ksrc + 256 * esel + 65536 * words)
/-- NVM_CMD of a VERIFY, with its key (R396, R413). -/
def verifyWord (margin : Nat) (cmpSrc : Bool) : Word := BitVec.ofNat 32 (0xE50003 + 16 * margin + 64 * b2n cmpSrc)
/-- PSH_CMD with its key (R462). -/
def cardWord (op count : Nat) : Word := BitVec.ofNat 32 (op + 256 * count + 0x5D0000)
/-- KSK_CMD with its key (R493). -/
def kskWord (op rec_ slot : Nat) : Word := BitVec.ofNat 32 (op + 8 * rec_ + 0x4B00 + 65536 * slot)
/-- GTH_NARROW (R520). -/
def narrowWord (clrW clrR : BitVec 9) (all : Bool) : Word :=
  BitVec.ofNat 32 (clrW.toNat + 65536 * clrR.toNat + 2 ^ 31 * b2n all)
/-- GTH_PROXY_CMD (R520). -/
def proxyWord (write pair twin : Bool) : Word := BitVec.ofNat 32 (b2n write + 2 * b2n pair + 4 * b2n twin)

/-! Reset -/

/-- A low pulse on RST_N has passed its filter (R62, R63). Before VDDIO18 is in range the level is only what a power-up meets
(R41, R540). -/
def State.rstLow (s : State) : State :=
  let s := { s with ldg.rstNLow := true }
  if s.pwr.vddio18Lost then s else s.deviceReset causePin

/-- RST_N goes high (R64). -/
def State.rstHigh (s : State) : State := ({ s with ldg.rstNLow := false }).releaseReset

/-- 20 µs have passed since reset was asserted (t₄ of R64). -/
def State.resetTimePassed (s : State) : State :=
  match s.ldg.phase with
  | .running => s
  | .held => ({ s with ldg.t4 := true }).releaseReset

/-- REFCLK_A or REFCLK_B is lost (R50): with REFCLK_B the Colonnade's links go too. -/
def State.refclkLoss (s : State) (b : Bool) : State :=
  let s := s.refLanesLost b
  if b then (s.sideUp 0 false).sideUp 1 false else s

/-! Slots -/

/-- The repetitions that a REP.tn in progress still has are issued before the engine is taken (R246, R284). -/
def State.finishTn (s : State) : State :=
  match s.engP.rep with
  | some q => if q.soft || decide (q.k = 0) then s else (List.range (q.n - q.k)).foldl (fun s _ => s.issueP) s
  | none => s

/-- A dip has ended within 1 µs (R44): the journal shows what was written after it. -/
def State.supplyRecovery (s : State) (x : Supply) : State :=
  if s.nvm.deferred.isEmpty then s.supplyBack x else (s.supplyBack x).pshShow

/-- Slot k + 1 starts (R108): the reference channels give their estimates (R102), the run in progress ends, keys
swap and expire, budgets restart, staged samples settle, the promise and the Colonnade turn.
(DESIGN CHOICE, log entry 9.) -/
def State.slotStart (s : State) (ref10m sysclk : Int) : State :=
  if !s.enabled pSdl then s
  else
    let s := (s.measured ref10m sysclk).finishTn
    let s := match s.sdl.slotAt with
      | some _ => s.advanceTo s.nextSlotAt
      | none => s
    let s := s.pglSlotEnd.clnAdopt
    let est (o : Nat) : RefEst := s.refEst (s.reg pSdl o) s.sdl.time
    let s := (s.sdlSlotStart (est Reg.Sdl.REF_PRI) (est Reg.Sdl.REF_SEC)).fenceLiftSlot
    let s := (s.keySlotStart s.sdl.time).restartWindow
    let s := s.ptrSlotStart.pavSlotStart
    let s := if s.ptr.fixWait then s else s.capSlotStart
    s.clnSlotStart.pglSlotStart.svEarly.cardResume

/-- While the Pergola is disabled a swap takes place within 1 µs of its instant, and a RETIRED key is zeroed when its time is up;
station time reaches t (R327). -/
def State.keyTimer (s : State) (t : Nat) : State :=
  let s := s.advanceTo t
  if s.pglOn then s else s.swapDue t

/-- RETIRE_S after the swap (R327): the retired positions whose time is up are zeroed. -/
def State.retireTimer (s : State) (t : Nat) : State :=
  let s := s.advanceTo t
  s.usedSlots.foldl (fun s n => s.retireSlot t n) s

/-! Monitors -/

/-- A condition that the Hedge monitors meet in normal operation (R440). -/
def State.hdgMeets (s : State) (i : Nat) (b : Bool) : State := if b && !s.onBackup then s.hdgCondition i else s

/-- A mesh photocurrent in nA, above the step of MESH_TH (R440, R456). -/
def State.lightMesh (s : State) (na : Nat) : State :=
  s.hdgMeets 0 (decide (50 * (s.fld pHdg Reg.Hdg.LIGHT_CFG 3 0 + 1) < na))

/-- The light cells are read: so many have lost their charge (R440, R456). -/
def State.lightCells (s : State) (n : Nat) : State :=
  s.hdgMeets 1 (decide (max 1 (s.fld pHdg Reg.Hdg.LIGHT_CFG 15 8) ≤ n))

/-- A supply has been outside its window for so many ns (R440, R442). -/
def State.supplyGlitch (s : State) (ns : Nat) : State :=
  s.hdgMeets 3 (decide (s.fld pHdg Reg.Hdg.GLITCH_CFG 7 0 ≤ ns))

/-- A condition has been absent for its time; sources 5 and 6 only once the reading is inside again (R444).
(DEDUCED, log entry 130.) -/
def State.conditionAbsent (s : State) (i : Nat) : State := if s.tempInside i then s.hdgAbsent i else s

/-! Memories -/

/-- The patrol scrubber reads a word of regions 0 to 4 and 9 in an idle cycle (R416).
(DESIGN CHOICE, log entry 148.) -/
def State.patrolRead (s : State) (r w : Nat) : State :=
  if r ≤ 4 ∨ r = 9 then (s.decodeWord r w).2 else s

/-! Folly -/

/-- Frames that leave a Folly stage on its transmit or receive side go on (R151, R171). -/
def State.follyReleased (s : State) (port : Nat) (x : List (List Byte × Nat) × State) : State :=
  if (s.follyRun port).isSome then x.2.follyOut port x.1 else s

/-! Keys, the peer and the tag -/

/-- A core finishes the descriptor it took first (R333). -/
def State.coreDone (s : State) (core : Nat) : State :=
  match s.org.jobs.find? (fun (j : CoreJob) => j.core = core) with
  | some j => s.completeDescriptor j
  | none => s

/-- A zeroise that the peer propagates (R386); it is not sent back. -/
def State.peerZeroise (s : State) : State := if s.cln.session then s.zeroise false else s

/-- A reader's field appears; a KSK_LOOP test in progress ends (R479, R527). -/
def State.fieldArrives (s : State) (strong : Bool) : State :=
  let s := match s.bst with
    | some b => if b.test = 4 then s.bstAbort bstField else s
    | none => s
  s.fieldAppear strong

end Sys2Proof.Machine
end

