-- ==== Sys2Proof/WellFormed.lean ====
section
/-!
DEFINITION. The operands that the hardware can meet: lengths of fields the protocols fix, ranges of measurements and codes. A
command outside them is no event of this device, and its meaning is the fault `illFormed`.
-/
namespace Sys2Proof
open Sys2Proof.Machine

/-- Operands of TEMP_CONVERSION (R55). -/
def tempConversionOk (temps : List Int) : Bool :=
  decide (temps.length = 8) && temps.all (fun t => decide (-2048 ≤ t) && decide (t < 2048))
/-- Operands of STATE_TRANSFER_RECEIVED (R372). -/
def stateTransferReceivedOk (item : XferItem) : Bool :=
  item.fits
/-- Operands of DIGEST_RECORD_RECEIVED (R374). -/
def digestRecordReceivedOk (d : PeerDigest) : Bool :=
  d.fits
/-- Operands of FORWARDED_FRAME_RECEIVED (R375). -/
def forwardedFrameReceivedOk (frame : FwdFrame) : Bool :=
  frame.fits
/-- Operands of SLOT_RECORD_RECEIVED (R378). -/
def slotRecordReceivedOk (rec_ : List Word) : Bool :=
  decide (rec_.length = 8)
/-- Operands of SEQUENCE_CHECK_RECEIVED (R379). -/
def sequenceCheckReceivedOk (counters : List (Nat × Nat × Nat)) : Bool :=
  counters.all (fun c => decide (c.2.1 < 32) && decide (c.2.2 < 65536))
/-- Operands of KEY_REPLICATION_RECEIVED (R385). -/
def keyReplicationReceivedOk (m : KeyMsg) : Bool :=
  m.fits
/-- Operands of BACKUP_TEMP_SAMPLE (R443). -/
def backupTempSampleOk (temp : Int) : Bool :=
  decide (-2048 ≤ temp) && decide (temp < 2048)
/-- Operands of ANTICOLLISION (R484). -/
def anticollisionOk (level : Fin 3) (uid : List Byte) : Bool :=
  decide (level ≠ 0) && decide (uid.length = 5)
/-- Operands of SELECT (R481). -/
def selectOk (level : Fin 3) (uid : List Byte) : Bool :=
  decide (level ≠ 0) && decide (uid.length = 5)
/-- Operands of NOTE_STAGE (R485). -/
def noteStageOk (data : List Byte) : Bool :=
  decide (data.length = 16)
/-- Operands of PWD_AUTH (R486). -/
def pwdAuthOk (pwd : List Byte) : Bool :=
  decide (pwd.length = 4)
/-- Operands of AUTH_2 (R487). -/
def auth2Ok (na : List Byte) (tr : List Byte) : Bool :=
  decide (na.length = 16) && decide (tr.length = 16)
/-- Operands of PROXY_ANSWER_RECEIVED (R500). -/
def proxyAnswerReceivedOk (answer : Option (Nat × Word)) : Bool :=
  answer.all (fun a => decide (a.1 < 5))
/-- Operands of UNLOCK_RESP (R517). -/
def unlockRespOk (response : List Byte) : Bool :=
  decide (response.length = 128)
/-- Operands of PCIE_LINK_UP (R521). -/
def pcieLinkUpOk (speed : Fin 5) (width : Fin 5) : Bool :=
  decide (speed ≠ 0) && decide (width = 1 ∨ width = 2 ∨ width = 4)

/-- A command the hardware can meet.
(DESIGN CHOICE, log entry 2.) -/
def Instr.wf : Instr → Bool
  | .registerWrite _ _ _ => true
  | .malformedAccess _ _ _ => true
  | .blockEnable _ _ => true
  | .blockReset _ _ => true
  | .blockResetComplete _ => true
  | .claimWrite _ _ _ => true
  | .lockWrite _ _ => true
  | .shadowPrimaryWrite _ _ _ _ => true
  | .shadowInverseWrite _ _ _ _ => true
  | .shadowWindowExpiry _ => true
  | .shadowMismatch _ _ => true
  | .prfWrite _ _ => true
  | .powerUp _ => true
  | .supplyDip _ => true
  | .supplyRecovery _ => true
  | .brownOutReset _ => true
  | .vddio18Loss => true
  | .rstNLow => true
  | .rstNRelease => true
  | .deviceResetRelease => true
  | .bootSequence _ _ _ _ _ => true
  | .bootSourcePoll _ => true
  | .bootDoorbell _ _ => true
  | .avsRequest _ => true
  | .avsNoAck => true
  | .refclkLoss _ => true
  | .sysclkLoss => true
  | .sysclkRecovery => true
  | .ref10mLoss => true
  | .tempConversion temps => tempConversionOk temps
  | .rstReqWrite _ => true
  | .zrqWrite _ => true
  | .wdgKick _ => true
  | .wdgPreTimeout => true
  | .watchdogExpiry => true
  | .livenessLoss _ => true
  | .pkgCmdWrite _ => true
  | .pkgAcceptComplete => true
  | .ptpMessageReceived _ _ _ => true
  | .ptpMessageTransmit _ _ => true
  | .ptpSourceTimeout _ => true
  | .ppsEdge _ => true
  | .irigFrame _ _ => true
  | .ppsLoss _ => true
  | .holdExpired => true
  | .setCmd _ => true
  | .ppsOutRise => true
  | .ppsOutFall => true
  | .sundialEnable _ => true
  | .sundialDisable _ => true
  | .refSampleTimeout _ => true
  | .slotStart _ _ => true
  | .swapTimer _ => true
  | .retireExpiry _ => true
  | .slotInputFix => true
  | .budgetWindowRestart => true
  | .cmpArm _ _ _ => true
  | .cmpCancel _ _ _ => true
  | .cmpReconversion _ => true
  | .cmpFirstEdge _ => true
  | .cmpReturnEdge _ => true
  | .timeSLoRead _ => true
  | .angleRead _ => true
  | .sdlEvtRead _ => true
  | .frameReceived _ _ _ => true
  | .frameTransmit _ => true
  | .laneSignalChange _ _ _ _ _ _ _ _ => true
  | .phyStatusChange _ _ _ => true
  | .gclConfigChange _ _ _ => true
  | .gateCycleStart _ => true
  | .gateEntryExpiry _ => true
  | .gclDataAccess _ _ _ => true
  | .pairEnable _ _ _ => true
  | .pairDisable _ _ _ => true
  | .supervisionTx _ => true
  | .fdbAgeOut _ => true
  | .tblRead _ _ _ => true
  | .tblWrite _ _ _ => true
  | .tblDelete _ _ _ => true
  | .tblSearch _ _ _ => true
  | .portCfgWrite _ _ _ => true
  | .follyRunStart _ _ _ => true
  | .follyRunStop _ _ _ => true
  | .follyReorderTimeout _ => true
  | .follyDelayRelease _ => true
  | .frameWalk _ _ => true
  | .tagCheckDone _ _ => true
  | .gooseStale _ => true
  | .fmtDataHiWrite _ _ => true
  | .idDataHiWrite _ _ => true
  | .excRead _ _ => true
  | .gooseRetransmit _ => true
  | .svFrameBuild _ => true
  | .pubFrameHandover _ => true
  | .pergolaEnable _ => true
  | .enableCheckComplete _ => true
  | .pergolaDisable _ => true
  | .firstDispatch => true
  | .runDispatch => true
  | .budgetPreempt => true
  | .schDataWrite _ _ => true
  | .ovrLogRead _ => true
  | .bundleIssue _ => true
  | .resultLand _ => true
  | .interruptEntry => true
  | .nmiEntry => true
  | .controlTransferTaken _ => true
  | .aluAdd _ _ _ _ => true
  | .aluSub _ _ _ _ => true
  | .aluAdds _ _ _ _ => true
  | .aluSubs _ _ _ _ => true
  | .aluAnd _ _ _ _ => true
  | .aluOr _ _ _ _ => true
  | .aluXor _ _ _ _ => true
  | .aluAndn _ _ _ _ => true
  | .aluShl _ _ _ _ => true
  | .aluShr _ _ _ _ => true
  | .aluSra _ _ _ _ => true
  | .aluMin _ _ _ _ => true
  | .aluMax _ _ _ _ => true
  | .aluMinu _ _ _ _ => true
  | .aluMaxu _ _ _ _ => true
  | .aluEq _ _ _ _ => true
  | .aluNe _ _ _ _ => true
  | .aluLt _ _ _ _ => true
  | .aluLtu _ _ _ _ => true
  | .aluGe _ _ _ _ => true
  | .aluGeu _ _ _ _ => true
  | .aluAbs _ _ _ _ => true
  | .aluPass _ _ _ _ => true
  | .macMacq _ _ _ _ => true
  | .macMul _ _ _ _ => true
  | .macMulh _ _ _ _ => true
  | .macMulq _ _ _ _ => true
  | .macMac _ _ _ _ => true
  | .macClr _ _ _ _ => true
  | .macLd _ _ _ _ => true
  | .macRdh _ _ _ _ => true
  | .fmaFma _ _ _ _ _ => true
  | .fmaFadd _ _ _ _ _ => true
  | .fmaFsub _ _ _ _ _ => true
  | .fmaFmul _ _ _ _ _ => true
  | .fmaFmin _ _ _ _ _ => true
  | .fmaFmax _ _ _ _ _ => true
  | .fmaFabs _ _ _ _ _ => true
  | .fmaItof _ _ _ _ _ => true
  | .fmaQtof _ _ _ _ _ => true
  | .fmaFtoq _ _ _ _ _ => true
  | .fmaFtoi _ _ _ _ _ => true
  | .fmaFlt _ _ _ _ _ => true
  | .fmaFeq _ _ _ _ _ => true
  | .corSincos _ _ _ _ _ => true
  | .corAtan2 _ _ _ _ _ => true
  | .corRot _ _ _ _ _ => true
  | .divDiv _ _ _ _ => true
  | .divDivu _ _ _ _ => true
  | .divDivq _ _ _ _ => true
  | .winLw _ _ _ _ => true
  | .winLc _ _ _ _ => true
  | .winLt _ _ _ _ => true
  | .winLg _ _ _ _ => true
  | .winLo _ _ _ _ => true
  | .winCrv _ _ _ _ => true
  | .winFsm _ _ _ _ => true
  | .winSc _ _ _ _ => true
  | .winSo _ _ _ _ => true
  | .winSs _ _ _ _ => true
  | .winSq _ _ _ _ => true
  | .winSa _ _ _ _ => true
  | .winSe _ _ _ _ => true
  | .lsuLw _ _ => true
  | .lsuLh _ _ => true
  | .lsuLhu _ _ => true
  | .lsuLb _ _ => true
  | .lsuLbu _ _ => true
  | .lsuSw _ _ _ => true
  | .lsuSh _ _ _ => true
  | .lsuSb _ _ _ => true
  | .lsuSync => true
  | .storeComplete => true
  | .ctlJmp _ _ => true
  | .ctlBr _ _ => true
  | .ctlCall _ _ => true
  | .ctlCallr _ _ => true
  | .ctlRet _ => true
  | .ctlEnd _ => true
  | .ctlBrk _ => true
  | .ctlEret _ => true
  | .ctlWfi _ => true
  | .wfiResume => true
  | .stkPush _ _ => true
  | .stkPop _ => true
  | .stkPeek _ _ => true
  | .repT _ _ => true
  | .repTn _ _ => true
  | .bndChk _ _ _ _ => true
  | .bndChku _ _ _ _ => true
  | .bndClp _ _ _ _ => true
  | .captureBlockCopy _ => true
  | .ctxDataAccess _ _ => true
  | .trapLogRead _ => true
  | .evqRead _ => true
  | .load _ _ _ => true
  | .transportLoadComplete => true
  | .swapAt _ _ => true
  | .erase _ _ _ _ => true
  | .exportBlob _ _ _ => true
  | .bbrGen _ => true
  | .kekDerive _ => true
  | .ringHeadWrite _ _ _ => true
  | .ringDisable _ _ _ => true
  | .coreTakeDescriptor => true
  | .descriptorComplete _ => true
  | .hash _ => true
  | .p256Verify _ => true
  | .p256Sign _ _ _ => true
  | .p256Ecdh _ _ _ => true
  | .p256Keygen _ _ _ => true
  | .attest _ => true
  | .modadd _ _ _ => true
  | .modsub _ _ _ => true
  | .modmul _ _ _ => true
  | .modexp _ _ _ => true
  | .clear _ => true
  | .abort _ => true
  | .arbTimedPhaseStart => true
  | .arbOperationComplete => true
  | .arbPreempt => true
  | .scrDataAccess _ _ => true
  | .fountainReady => true
  | .fountainStartupTimeout => true
  | .healthTestFail _ => true
  | .ftnRequestServed => true
  | .ftnOut0Read _ => true
  | .ftnReseed _ => true
  | .clnEnable _ => true
  | .peerHeartbeatSeen _ _ _ => true
  | .waitTimeout => true
  | .attachRetry => true
  | .attachMessageReceived _ => true
  | .stateTransferReceived item => stateTransferReceivedOk item
  | .digestRecordReceived d => digestRecordReceivedOk d
  | .forwardTimeout => true
  | .forwardedFrameReceived frame => forwardedFrameReceivedOk frame
  | .slotRecordReceived rec_ _ _ _ _ => slotRecordReceivedOk rec_
  | .slotRecordSplit => true
  | .sequenceCheckReceived counters => sequenceCheckReceivedOk counters
  | .timeOffsetAlarm _ => true
  | .sideLoss _ => true
  | .peerLoss _ => true
  | .attach _ => true
  | .detach _ => true
  | .handRoles _ => true
  | .keysync _ => true
  | .keyReplicationReceived m => keyReplicationReceivedOk m
  | .zeroisePropagationReceived => true
  | .certAddrWrite _ _ => true
  | .certVerifyComplete => true
  | .takeLogRead _ => true
  | .nvmErase _ => true
  | .nvmProgram _ => true
  | .nvmVerify _ _ _ => true
  | .nvmUnitDone => true
  | .nvmRunResume => true
  | .patrolScrubRead _ _ => true
  | .reactionStep _ => true
  | .fenceCmd _ => true
  | .fenceLift _ => true
  | .histClr _ => true
  | .hist0Read _ => true
  | .lightMesh _ => true
  | .lightCellRefresh _ => true
  | .lightDisagree => true
  | .supplyGlitch _ => true
  | .clockGlitch => true
  | .backupTempSample temp _ => backupTempSampleOk temp
  | .backupAlarm _ _ => true
  | .cardInsertion => true
  | .cardRemoval => true
  | .cardResponse _ _ => true
  | .cardBusyRelease => true
  | .cardBusyTimeout _ => true
  | .read _ _ => true
  | .write _ _ => true
  | .sleepClk _ => true
  | .sleepOff _ => true
  | .wake _ => true
  | .discard _ => true
  | .fieldAppear _ => true
  | .fieldCollapse => true
  | .reqa => true
  | .wupa => true
  | .anticollision level _ uid => anticollisionOk level uid
  | .select level uid _ => selectOk level uid
  | .hlta _ _ => true
  | .invalidTagFrame => true
  | .invBegin _ _ => true
  | .invNext _ => true
  | .invAck _ _ => true
  | .invTree _ => true
  | .readRec _ _ _ _ => true
  | .noteStage _ data _ _ => noteStageOk data
  | .noteCommit _ _ _ _ => true
  | .pwdAuth pwd _ _ => pwdAuthOk pwd
  | .pwdHoldoffExpiry => true
  | .auth1 _ _ _ => true
  | .auth2 na tr _ _ => auth2Ok na tr
  | .regRd _ _ _ => true
  | .regWr _ _ _ _ _ => true
  | .kskReadRec _ _ => true
  | .kskWriteRec _ _ => true
  | .keyFromSlot _ _ => true
  | .keyClear _ => true
  | .pwdSet _ => true
  | .pwdUnblock _ => true
  | .gthNarrowWrite _ _ _ _ => true
  | .proxyRead _ _ => true
  | .proxyWrite _ _ _ => true
  | .proxyAccessReceived _ _ _ _ => true
  | .proxyAnswerReceived answer => proxyAnswerReceivedOk answer
  | .gthLogRead _ => true
  | .lockstepError _ => true
  | .rekey _ => true
  | .pcieReset _ => true
  | .bar2Access _ _ _ => true
  | .hifF2hSetWrite _ _ => true
  | .hifTransferStart _ => true
  | .hifTransferDone => true
  | .dmaStart _ => true
  | .dmaDone => true
  | .uartTxWrite _ _ => true
  | .uartRxRead _ => true
  | .uartRxOctet _ => true
  | .msRead _ _ => true
  | .msWrite _ _ _ => true
  | .paired _ _ _ _ => true
  | .rdsr => true
  | .stage _ _ => true
  | .bootdb _ => true
  | .ident => true
  | .idcode => true
  | .bypass _ => true
  | .unlockChal => true
  | .unlockResp response => unlockRespOk response
  | .unlockVerifyComplete => true
  | .unlockSta => true
  | .dbgAcc _ _ _ => true
  | .dbgCore _ => true
  | .laneNear _ => true
  | .laneFar _ => true
  | .clnNear _ => true
  | .kskLoop _ => true
  | .refSupply _ => true
  | .refTemp _ => true
  | .refHedge _ => true
  | .lbist _ => true
  | .bstTestComplete _ => true
  | .ref10mRecovery => true
  | .vbatLoss => true
  | .cdVioOutOfRange => true
  | .sideRecovery _ => true
  | .hedgeConditionAbsent _ => true
  | .cardTimeout _ => true
  | .pcieLinkUp speed width _ => pcieLinkUpOk speed width
  | .uartTxOctetSent => true

end Sys2Proof
end

