-- ==== Sys2Proof/Machine/AccessCmds.lean ====
section
/-!
DEFINITION. Commands of the register fabric (chapters 01 and 20): register writes, the header's registers and the shadow protocol.
-/
namespace Sys2Proof.Machine

/-- REGISTER_WRITE (R6): A write to a register that has no row of its own takes effect according to its access code, after
the Gatehouse mask, lock and reserved-bit checks. -/
def execRegisterWrite (port : Port) (addr : Word) (value : Word) (s : State) : Host.Outcome State Fault Refusal :=
  run s (fun s => s.busWrite port addr.toNat value)

/-- MALFORMED_ACCESS (R5): A register access that is not an aligned 32-bit access reads zero or is discarded, and is logged
as malformed. -/
def execMalformedAccess (port : Port) (addr : Word) (read : Bool) (s : State) : Host.Outcome State Fault Refusal :=
  run s (fun s => s.badAccess port addr.toNat read)

/-- BLOCK_ENABLE (R11): A write of CTL.EN = 1 enables the block unless a claim conflict, fence or failed block check leaves
EN at 0. -/
def execBlockEnable (port : Port) (page : Fin 4096) (s : State) : Host.Outcome State Fault Refusal :=
  run s (fun s => s.portWrite port page Reg.Hdr.CTL 1)

/-- BLOCK_RESET (R11): A write of CTL.SRST = 1 starts a block reset, which releases the page's claims and sets RST_BUSY. -/
def execBlockReset (port : Port) (page : Fin 4096) (s : State) : Host.Outcome State Fault Refusal :=
  run s (fun s => s.portWrite port page Reg.Hdr.CTL 2)

/-- BLOCK_RESET_COMPLETE (R75): The block reset ends, forced by the Lodge after 10 us if needed, and RST_BUSY clears within
20 us of the SRST write. -/
def execBlockResetComplete (page : Fin 4096) (s : State) : Host.Outcome State Fault Refusal :=
  run s (fun s => s.blockResetEnd page)

/-- CLAIM_WRITE (R17): A write to CLAIM claims or releases shared resources under the first-claim rule, and logs
CLAIM_CONFLICT on a conflict. -/
def execClaimWrite (port : Port) (page : Fin 4096) (value : Word) (s : State) : Host.Outcome State Fault Refusal :=
  run s (fun s => s.portWrite port page Reg.Hdr.CLAIM value)

/-- LOCK_WRITE (R15): Writing LOCK.LOCKED = 1 freezes every RWL field of the page. -/
def execLockWrite (port : Port) (page : Fin 4096) (s : State) : Host.Outcome State Fault Refusal :=
  run s (fun s => s.portWrite port page Reg.Hdr.LOCK 1)

/-- SHADOW_PRIMARY_WRITE (R18): A write to an RWP register leaves a value pending, and opens the 80 ns window for its
inverse. -/
def execShadowPrimaryWrite (port : Port) (page : Fin 4096) (offset : Fin 2048) (value : Word) (s : State) : Host.Outcome State Fault Refusal :=
  run s (fun s => s.portWrite port page offset value)

/-- SHADOW_INVERSE_WRITE (R18): A write to a shadow offset completes a pending pair when it is the exact inverse, and
otherwise raises a shadow event. -/
def execShadowInverseWrite (port : Port) (page : Fin 4096) (offset : Fin 2048) (value : Word) (s : State) : Host.Outcome State Fault Refusal :=
  run s (fun s => s.portWrite port page (0x800 + offset) value)

/-- SHADOW_WINDOW_EXPIRY (R19): The window of a pending shadow pair expires, the pending value is discarded and a case-2
shadow event is raised. -/
def execShadowWindowExpiry (page : Fin 4096) (s : State) : Host.Outcome State Fault Refusal :=
  run s (fun s => s.windowExpiry page)

/-- SHADOW_MISMATCH (R449): The continuous comparison finds a shadowed register that differs from its inverse, and raises
source 7 once with case 5. -/
def execShadowMismatch (page : Fin 4096) (offset : Fin 2048) (s : State) : Host.Outcome State Fault Refusal :=
  run s (fun s => s.shadowMismatch page offset)

/-- PRF_WRITE (R21): A write to PRF_SEL sets the profile, and is discarded and logged while the Pergola is enabled. -/
def execPrfWrite (port : Port) (value : Word) (s : State) : Host.Outcome State Fault Refusal :=
  run s (fun s => s.portWrite port pSys Reg.Sys.PRF value)

end Sys2Proof.Machine
end

