-- ==== Sys2Proof/Machine/AluCommands.lean ====
section
/-!
DEFINITION. The operations of the ALUs (R267).
-/
namespace Sys2Proof.Machine

/-- ALU_ADD (R267): ALU add: r = o + t. -/
def execAluAdd (cpu : Cpu) (unit : Fin 4) (o : Word) (t : Word) (s : State) : Host.Outcome State Fault Refusal :=
  run s (fun s => s.whenUp (fun s => s.unitOp cpu [(aluPort unit, o)] (aluPort unit + 0x02) t))

/-- ALU_SUB (R267): ALU sub: r = o - t. -/
def execAluSub (cpu : Cpu) (unit : Fin 4) (o : Word) (t : Word) (s : State) : Host.Outcome State Fault Refusal :=
  run s (fun s => s.whenUp (fun s => s.unitOp cpu [(aluPort unit, o)] (aluPort unit + 0x03) t))

/-- ALU_ADDS (R267): ALU adds: saturating addition. -/
def execAluAdds (cpu : Cpu) (unit : Fin 4) (o : Word) (t : Word) (s : State) : Host.Outcome State Fault Refusal :=
  run s (fun s => s.whenUp (fun s => s.unitOp cpu [(aluPort unit, o)] (aluPort unit + 0x04) t))

/-- ALU_SUBS (R267): ALU subs: saturating subtraction. -/
def execAluSubs (cpu : Cpu) (unit : Fin 4) (o : Word) (t : Word) (s : State) : Host.Outcome State Fault Refusal :=
  run s (fun s => s.whenUp (fun s => s.unitOp cpu [(aluPort unit, o)] (aluPort unit + 0x05) t))

/-- ALU_AND (R267): ALU and. -/
def execAluAnd (cpu : Cpu) (unit : Fin 4) (o : Word) (t : Word) (s : State) : Host.Outcome State Fault Refusal :=
  run s (fun s => s.whenUp (fun s => s.unitOp cpu [(aluPort unit, o)] (aluPort unit + 0x06) t))

/-- ALU_OR (R267): ALU or. -/
def execAluOr (cpu : Cpu) (unit : Fin 4) (o : Word) (t : Word) (s : State) : Host.Outcome State Fault Refusal :=
  run s (fun s => s.whenUp (fun s => s.unitOp cpu [(aluPort unit, o)] (aluPort unit + 0x07) t))

/-- ALU_XOR (R267): ALU xor. -/
def execAluXor (cpu : Cpu) (unit : Fin 4) (o : Word) (t : Word) (s : State) : Host.Outcome State Fault Refusal :=
  run s (fun s => s.whenUp (fun s => s.unitOp cpu [(aluPort unit, o)] (aluPort unit + 0x08) t))

/-- ALU_ANDN (R267): ALU andn: o AND NOT t. -/
def execAluAndn (cpu : Cpu) (unit : Fin 4) (o : Word) (t : Word) (s : State) : Host.Outcome State Fault Refusal :=
  run s (fun s => s.whenUp (fun s => s.unitOp cpu [(aluPort unit, o)] (aluPort unit + 0x09) t))

/-- ALU_SHL (R267): ALU shl: shift left by t[4:0]. -/
def execAluShl (cpu : Cpu) (unit : Fin 4) (o : Word) (t : Word) (s : State) : Host.Outcome State Fault Refusal :=
  run s (fun s => s.whenUp (fun s => s.unitOp cpu [(aluPort unit, o)] (aluPort unit + 0x0A) t))

/-- ALU_SHR (R267): ALU shr: logical shift right. -/
def execAluShr (cpu : Cpu) (unit : Fin 4) (o : Word) (t : Word) (s : State) : Host.Outcome State Fault Refusal :=
  run s (fun s => s.whenUp (fun s => s.unitOp cpu [(aluPort unit, o)] (aluPort unit + 0x0B) t))

/-- ALU_SRA (R267): ALU sra: arithmetic shift right. -/
def execAluSra (cpu : Cpu) (unit : Fin 4) (o : Word) (t : Word) (s : State) : Host.Outcome State Fault Refusal :=
  run s (fun s => s.whenUp (fun s => s.unitOp cpu [(aluPort unit, o)] (aluPort unit + 0x0C) t))

/-- ALU_MIN (R267): ALU min: signed minimum. -/
def execAluMin (cpu : Cpu) (unit : Fin 4) (o : Word) (t : Word) (s : State) : Host.Outcome State Fault Refusal :=
  run s (fun s => s.whenUp (fun s => s.unitOp cpu [(aluPort unit, o)] (aluPort unit + 0x0D) t))

/-- ALU_MAX (R267): ALU max: signed maximum. -/
def execAluMax (cpu : Cpu) (unit : Fin 4) (o : Word) (t : Word) (s : State) : Host.Outcome State Fault Refusal :=
  run s (fun s => s.whenUp (fun s => s.unitOp cpu [(aluPort unit, o)] (aluPort unit + 0x0E) t))

/-- ALU_MINU (R267): ALU minu: unsigned minimum. -/
def execAluMinu (cpu : Cpu) (unit : Fin 4) (o : Word) (t : Word) (s : State) : Host.Outcome State Fault Refusal :=
  run s (fun s => s.whenUp (fun s => s.unitOp cpu [(aluPort unit, o)] (aluPort unit + 0x0F) t))

/-- ALU_MAXU (R267): ALU maxu: unsigned maximum. -/
def execAluMaxu (cpu : Cpu) (unit : Fin 4) (o : Word) (t : Word) (s : State) : Host.Outcome State Fault Refusal :=
  run s (fun s => s.whenUp (fun s => s.unitOp cpu [(aluPort unit, o)] (aluPort unit + 0x10) t))

/-- ALU_EQ (R267): ALU eq: 1 when o = t. -/
def execAluEq (cpu : Cpu) (unit : Fin 4) (o : Word) (t : Word) (s : State) : Host.Outcome State Fault Refusal :=
  run s (fun s => s.whenUp (fun s => s.unitOp cpu [(aluPort unit, o)] (aluPort unit + 0x11) t))

/-- ALU_NE (R267): ALU ne: 1 when o differs from t. -/
def execAluNe (cpu : Cpu) (unit : Fin 4) (o : Word) (t : Word) (s : State) : Host.Outcome State Fault Refusal :=
  run s (fun s => s.whenUp (fun s => s.unitOp cpu [(aluPort unit, o)] (aluPort unit + 0x12) t))

/-- ALU_LT (R267): ALU lt: signed less-than. -/
def execAluLt (cpu : Cpu) (unit : Fin 4) (o : Word) (t : Word) (s : State) : Host.Outcome State Fault Refusal :=
  run s (fun s => s.whenUp (fun s => s.unitOp cpu [(aluPort unit, o)] (aluPort unit + 0x13) t))

/-- ALU_LTU (R267): ALU ltu: unsigned less-than. -/
def execAluLtu (cpu : Cpu) (unit : Fin 4) (o : Word) (t : Word) (s : State) : Host.Outcome State Fault Refusal :=
  run s (fun s => s.whenUp (fun s => s.unitOp cpu [(aluPort unit, o)] (aluPort unit + 0x14) t))

/-- ALU_GE (R267): ALU ge: signed greater-or-equal. -/
def execAluGe (cpu : Cpu) (unit : Fin 4) (o : Word) (t : Word) (s : State) : Host.Outcome State Fault Refusal :=
  run s (fun s => s.whenUp (fun s => s.unitOp cpu [(aluPort unit, o)] (aluPort unit + 0x15) t))

/-- ALU_GEU (R267): ALU geu: unsigned greater-or-equal. -/
def execAluGeu (cpu : Cpu) (unit : Fin 4) (o : Word) (t : Word) (s : State) : Host.Outcome State Fault Refusal :=
  run s (fun s => s.whenUp (fun s => s.unitOp cpu [(aluPort unit, o)] (aluPort unit + 0x16) t))

/-- ALU_ABS (R267): ALU abs: saturating absolute value of t. -/
def execAluAbs (cpu : Cpu) (unit : Fin 4) (o : Word) (t : Word) (s : State) : Host.Outcome State Fault Refusal :=
  run s (fun s => s.whenUp (fun s => s.unitOp cpu [(aluPort unit, o)] (aluPort unit + 0x17) t))

/-- ALU_PASS (R267): ALU pass: r = t. -/
def execAluPass (cpu : Cpu) (unit : Fin 4) (o : Word) (t : Word) (s : State) : Host.Outcome State Fault Refusal :=
  run s (fun s => s.whenUp (fun s => s.unitOp cpu [(aluPort unit, o)] (aluPort unit + 0x18) t))

end Sys2Proof.Machine
end

