-- ==== Sys2Proof/Machine/ArbourCommands.lean ====
section
/-!
DEFINITION. Commands of the Arbour and the Fountain (chapter 11).
-/
namespace Sys2Proof.Machine

/-- HASH (R339): Arbour HASH of a message in control SRAM or MRAM. -/
def execHash (port : Port) (s : State) : Host.Outcome State Fault Refusal :=
  run s (fun s => s.portWrite port pArb Reg.Arb.ARB_CMD (arbWord 1 false 0 0 0))

/-- P256_VERIFY (R339): Arbour ECDSA P-256 verification. -/
def execP256Verify (port : Port) (s : State) : Host.Outcome State Fault Refusal :=
  run s (fun s => s.portWrite port pArb Reg.Arb.ARB_CMD (arbWord 2 false 0 0 0))

/-- P256_SIGN (R339): Arbour ECDSA P-256 signature. -/
def execP256Sign (port : Port) (ksrc : Fin 4) (esel : Fin 4) (s : State) : Host.Outcome State Fault Refusal :=
  run s (fun s => s.portWrite port pArb Reg.Arb.ARB_CMD (arbWord 3 false ksrc esel 0))

/-- P256_ECDH (R339): Arbour ECDH on P-256. -/
def execP256Ecdh (port : Port) (ksrc : Fin 4) (esel : Fin 4) (s : State) : Host.Outcome State Fault Refusal :=
  run s (fun s => s.portWrite port pArb Reg.Arb.ARB_CMD (arbWord 4 false ksrc esel 0))

/-- P256_KEYGEN (R339): Arbour P-256 key generation. -/
def execP256Keygen (port : Port) (ksrc : Fin 4) (esel : Fin 4) (s : State) : Host.Outcome State Fault Refusal :=
  run s (fun s => s.portWrite port pArb Reg.Arb.ARB_CMD (arbWord 5 false ksrc esel 0))

/-- ATTEST (R345): Arbour builds and signs an attestation statement under d_ID. -/
def execAttest (port : Port) (s : State) : Host.Outcome State Fault Refusal :=
  run s (fun s => s.portWrite port pArb Reg.Arb.ARB_CMD (arbWord 6 false 0 0 0))

/-- MODADD (R339): Arbour modular addition. -/
def execModadd (port : Port) (masked : Bool) (words : Fin 32) (s : State) : Host.Outcome State Fault Refusal :=
  run s (fun s => s.portWrite port pArb Reg.Arb.ARB_CMD (arbWord 7 masked 0 0 words))

/-- MODSUB (R339): Arbour modular subtraction. -/
def execModsub (port : Port) (masked : Bool) (words : Fin 32) (s : State) : Host.Outcome State Fault Refusal :=
  run s (fun s => s.portWrite port pArb Reg.Arb.ARB_CMD (arbWord 8 masked 0 0 words))

/-- MODMUL (R339): Arbour modular multiplication. -/
def execModmul (port : Port) (masked : Bool) (words : Fin 32) (s : State) : Host.Outcome State Fault Refusal :=
  run s (fun s => s.portWrite port pArb Reg.Arb.ARB_CMD (arbWord 9 masked 0 0 words))

/-- MODEXP (R339): Arbour modular exponentiation. -/
def execModexp (port : Port) (masked : Bool) (words : Fin 32) (s : State) : Host.Outcome State Fault Refusal :=
  run s (fun s => s.portWrite port pArb Reg.Arb.ARB_CMD (arbWord 10 masked 0 0 words))

/-- CLEAR (R349): Arbour CLEAR zeroes the whole scratch memory. -/
def execClear (port : Port) (s : State) : Host.Outcome State Fault Refusal :=
  run s (fun s => s.portWrite port pArb Reg.Arb.ARB_CMD (arbWord 14 false 0 0 0))

/-- ABORT (R350): Arbour ABORT stops the operation and zeroes scratch within 6 us. -/
def execAbort (port : Port) (s : State) : Host.Outcome State Fault Refusal :=
  run s (fun s => s.portWrite port pArb Reg.Arb.ARB_CMD (arbWord 15 false 0 0 0))

/-- ARB_TIMED_PHASE_START (R340): Once its randomness has been drawn, an Arbour operation starts its timed phase. -/
def execArbTimedPhaseStart (s : State) : Host.Outcome State Fault Refusal :=
  run s (fun s => s.whenUp (fun s => s.arbTimed))

/-- ARB_OPERATION_COMPLETE (R348): An Arbour operation ends its timed phase and writes ARB_RES and ARB_CYC, with an
interrupt. -/
def execArbOperationComplete (s : State) : Host.Outcome State Fault Refusal :=
  run s (fun s => s.whenUp (fun s => s.arbComplete))

/-- ARB_PREEMPT (R347): A key-store or attach request pre-empts a running firmware operation, which ends PREEMPTED. -/
def execArbPreempt (s : State) : Host.Outcome State Fault Refusal :=
  run s (fun s => s.whenUp (fun s => s.arbPreempt))

/-- SCR_DATA_ACCESS (R360): An access to SCR_DATA reaches a scratch word and advances SCR_ADDR. -/
def execScrDataAccess (port : Port) (write : Option Word) (s : State) : Host.Outcome State Fault Refusal :=
  run s (fun s => s.portAccess port pArb Reg.Arb.SCR_DATA write)

/-- FOUNTAIN_READY (R353): The start-up tests pass and the pool fills, the DRBG is instantiated and STATE becomes READY. -/
def execFountainReady (s : State) : Host.Outcome State Fault Refusal :=
  run s (fun s => s.whenUp (fun s => s.ftnUp))

/-- FOUNTAIN_STARTUP_TIMEOUT (R353): READY has not been reached 3 ms after start, and the Fountain enters FAILED. -/
def execFountainStartupTimeout (s : State) : Host.Outcome State Fault Refusal :=
  run s (fun s => s.whenUp (fun s => s.ftnTimeout))

/-- HEALTH_TEST_FAIL (R357): A continuous or start-up health test fails, which zeroes the DRBG and fails waiting requests. -/
def execHealthTestFail (cause : HealthFail) (s : State) : Host.Outcome State Fault Refusal :=
  run s (fun s => s.whenUp (fun s => s.healthFail cause))

/-- FTN_REQUEST_SERVED (R355): The DRBG serves the next waiting request in priority order, reseeding after 65,536 requests. -/
def execFtnRequestServed (s : State) : Host.Outcome State Fault Refusal :=
  run s (fun s => s.whenUp (fun s => s.ftnServe))

/-- FTN_OUT0_READ (R362): A read of FTN_OUT0 makes a 256-bit request and latches words 1-7 for the port. -/
def execFtnOut0Read (port : Port) (s : State) : Host.Outcome State Fault Refusal :=
  run s (fun s => s.portRead port pFtn (Reg.Ftn.FTN_OUT 0))

/-- FTN_RESEED (R356): A write of 0x5EED to FTN_CMD reseeds the DRBG from the pool. -/
def execFtnReseed (port : Port) (s : State) : Host.Outcome State Fault Refusal :=
  run s (fun s => s.portWrite port pFtn Reg.Ftn.FTN_CMD 0x5EED)

end Sys2Proof.Machine
end

