-- ==== Sys2Proof/Machine/BootingCmds.lean ====
section
/-!
DEFINITION. Commands of boot, the watchdog, liveness and package acceptance (chapter 03).
-/
namespace Sys2Proof.Machine

/-- BOOT_SEQUENCE (R69): The boot ROM samples the straps, loads OTP, verifies the firmware and the package, and jumps to
ENTRY. -/
def execBootSequence (sel : Fin 4) (twinB : Bool) (ftnOk : Bool) (avsOk : Bool) (dt : Nat) (s : State) : Host.Outcome State Fault Refusal :=
  run s (fun s => s.bootSequence sel twinB ftnOk avsOk dt)

/-- BOOT_SOURCE_POLL (R65): Every 100 ms after all sources have failed, the boot ROM polls the sources of its row again. -/
def execBootSourcePoll (dt : Nat) (s : State) : Host.Outcome State Fault Refusal :=
  run s (fun s => s.bootPoll dt)

/-- BOOT_DOORBELL (R511): A write of HIF_BOOT_DB by the source hands a staged chunk to the boot ROM, which checks, hashes
and programs it. -/
def execBootDoorbell (port : Port) (value : Word) (s : State) : Host.Outcome State Fault Refusal :=
  run s (fun s => if port = .maint then s.spiBootDb value else s.portWrite port pHif Reg.Hif.HIF_BOOT_DB value)

/-- RST_REQ_WRITE (R80): A write of key 0xD5E7 to RST_REQ starts a device reset with cause SW. -/
def execRstReqWrite (port : Port) (s : State) : Host.Outcome State Fault Refusal :=
  run s (fun s => s.portWrite port pLdg Reg.Ldg.RST_REQ 0xD5E7)

/-- ZRQ_WRITE (R80): A write of key 0x2E50 to ZRQ requests a zeroise. -/
def execZrqWrite (port : Port) (s : State) : Host.Outcome State Fault Refusal :=
  run s (fun s => s.portWrite port pLdg Reg.Ldg.ZRQ 0x2E50)

/-- WDG_KICK (R82): A write of 0x0000_C1A0 to WDG_KICK restarts the watchdog count. -/
def execWdgKick (port : Port) (s : State) : Host.Outcome State Fault Refusal :=
  run s (fun s => s.portWrite port pLdg Reg.Ldg.WDG_KICK 0x0000C1A0)

/-- WDG_PRE_TIMEOUT (R81): Half of TIMEOUT has elapsed with PRE_EN set, which raises the pre-timeout NMI. -/
def execWdgPreTimeout (s : State) : Host.Outcome State Fault Refusal :=
  run s (fun s => s.wdgPre)

/-- WATCHDOG_EXPIRY (R81): The watchdog count reaches TIMEOUT and starts a device reset with cause WDG. -/
def execWatchdogExpiry (s : State) : Host.Outcome State Fault Refusal :=
  run s (fun s => s.wdgExpiry)

/-- LIVENESS_LOSS (R76): An expected liveness strobe has been missing for 3 us, so the heartbeat gate closes, the safe
levels are set and a LIVE reset starts. -/
def execLivenessLoss (x : Strobe) (s : State) : Host.Outcome State Fault Refusal :=
  run s (fun s => s.livenessLoss x)

/-- PKG_CMD_WRITE (R87): A write of 0xC0F6 to PKG_CMD from CORE starts the acceptance of the package at PKG_ADDR. -/
def execPkgCmdWrite (port : Port) (s : State) : Host.Outcome State Fault Refusal :=
  run s (fun s => s.portWrite port pLdg Reg.Ldg.PKG_CMD 0xC0F6)

/-- PKG_ACCEPT_COMPLETE (R87): The package acceptance ends with a RESULT, and on OK it writes CFG_HASH and releases ERR_N. -/
def execPkgAcceptComplete (s : State) : Host.Outcome State Fault Refusal :=
  run s (fun s => s.pkgDone)

end Sys2Proof.Machine
end

