-- ==== Sys2Proof/Machine/CardCommands.lean ====
section
/-!
DEFINITION. Commands of the Potting Shed (chapter 16).
-/
namespace Sys2Proof.Machine

/-- CARD_INSERTION (R460): CD_DET_N has been low for 2 ms, insertion is declared and start-up begins. -/
def execCardInsertion (s : State) : Host.Outcome State Fault Refusal :=
  run s (fun s => s.whenUp (fun s => s.cardInsertion.bootCard))

/-- CARD_REMOVAL (R460): CD_DET_N has been high for 2 ms, so the slot is powered off and any command ends REMOVED. -/
def execCardRemoval (s : State) : Host.Outcome State Fault Refusal :=
  run s (fun s => s.whenUp (fun s => s.cardRemoval.bootCard))

/-- CARD_RESPONSE (R461): A card response or data block arrives and the current card operation continues. -/
def execCardResponse (answer : CardAnswer) (detHigh : Bool) (s : State) : Host.Outcome State Fault Refusal :=
  run s (fun s => s.whenUp (fun s => (s.cardAnswer answer detHigh).bootCard))

/-- CARD_BUSY_RELEASE (R466): The card releases DAT0 after its busy, and the journal entry advances. -/
def execCardBusyRelease (s : State) : Host.Outcome State Fault Refusal :=
  run s (fun s => s.whenUp (fun s => s.cardReleased.bootCard))

/-- CARD_BUSY_TIMEOUT (R467): The card busy lasts beyond 500 ms, and the old content is restored. -/
def execCardBusyTimeout (detHigh : Bool) (s : State) : Host.Outcome State Fault Refusal :=
  run s (fun s => s.whenUp (fun s => (s.cardBusyTimeout detHigh).bootCard))

/-- READ (R462): PSH_CMD READ transfers blocks from the card. -/
def execRead (port : Port) (count : Fin 256) (s : State) : Host.Outcome State Fault Refusal :=
  run s (fun s => s.portWrite port pPsh Reg.Psh.PSH_CMD (cardWord 1 count))

/-- WRITE (R466): PSH_CMD WRITE runs a journalled write transaction. -/
def execWrite (port : Port) (count : Fin 256) (s : State) : Host.Outcome State Fault Refusal :=
  run s (fun s => s.portWrite port pPsh Reg.Psh.PSH_CMD (cardWord 2 count))

/-- SLEEP_CLK (R470): PSH_CMD SLEEP_CLK stops CD_CLK. -/
def execSleepClk (port : Port) (s : State) : Host.Outcome State Fault Refusal :=
  run s (fun s => s.portWrite port pPsh Reg.Psh.PSH_CMD (cardWord 3 0))

/-- SLEEP_OFF (R470): PSH_CMD SLEEP_OFF powers the slot off. -/
def execSleepOff (port : Port) (s : State) : Host.Outcome State Fault Refusal :=
  run s (fun s => s.portWrite port pPsh Reg.Psh.PSH_CMD (cardWord 4 0))

/-- WAKE (R470): PSH_CMD WAKE restarts the clock or runs the start-up again. -/
def execWake (port : Port) (s : State) : Host.Outcome State Fault Refusal :=
  run s (fun s => s.portWrite port pPsh Reg.Psh.PSH_CMD (cardWord 5 0))

/-- DISCARD (R469): PSH_CMD DISCARD marks every pending journal entry DONE and DISCARDED. -/
def execDiscard (port : Port) (s : State) : Host.Outcome State Fault Refusal :=
  run s (fun s => s.portWrite port pPsh Reg.Psh.PSH_CMD (cardWord 6 0))

/-- CARD_TIMEOUT (R461): A card command gets no response within its limit, or a timed wait of start-up elapses (2 ms
power-up, 10 ms ACMD41 repeat, 5 ms voltage settle, PWR_OFF_MS), so start-up proceeds, refuses or ends TIMEOUT. -/
def execCardTimeout (detHigh : Bool) (s : State) : Host.Outcome State Fault Refusal :=
  run s (fun s => s.whenUp (fun s => (s.cardTimeout detHigh).bootCard))

end Sys2Proof.Machine
end

