-- ==== Sys2Proof/Machine/CoreCommands.lean ====
section
/-!
DEFINITION. Commands of the Ndear cores (chapter 08): bundles, loads and stores, control, stack, repeat and bounds.
-/
namespace Sys2Proof.Machine

/-- BUNDLE_ISSUE (R254): A bundle issues, performing its true-guarded moves after the encoding, port and conflict checks. -/
def execBundleIssue (cpu : Cpu) (s : State) : Host.Outcome State Fault Refusal :=
  run s (fun s => s.whenUp (fun s => s.issue cpu))

/-- RESULT_LAND (R256): An operation's result lands at its unit's result port at the end of cycle c + L - 1. -/
def execResultLand (cpu : Cpu) (s : State) : Host.Outcome State Fault Refusal :=
  run s (fun s => s.whenUp (fun s => s.resultLand cpu))

/-- INTERRUPT_ENTRY (R291): Between bundles, a pending enabled interrupt is taken. -/
def execInterruptEntry (s : State) : Host.Outcome State Fault Refusal :=
  run s (fun s => s.whenUp (fun s => s.interruptEntry))

/-- NMI_ENTRY (R291): Between bundles, a pending NMI is taken whatever IE holds. -/
def execNmiEntry (s : State) : Host.Outcome State Fault Refusal :=
  run s (fun s => s.whenUp (fun s => s.nmiEntry))

/-- CONTROL_TRANSFER_TAKEN (R278): After its delay bundles, a pending control transfer moves issue to its target. -/
def execControlTransferTaken (cpu : Cpu) (s : State) : Host.Outcome State Fault Refusal :=
  run s (fun s => s.whenUp (fun s => s.transferTaken cpu))

/-- LSU_LW (R276): Ndear-C word load. -/
def execLsuLw (o : Word) (t : Word) (s : State) : Host.Outcome State Fault Refusal :=
  run s (fun s => s.whenUp (fun s => s.unitOp .core [(0x380, o)] 0x382 t))

/-- LSU_LH (R276): Ndear-C sign-extended halfword load. -/
def execLsuLh (o : Word) (t : Word) (s : State) : Host.Outcome State Fault Refusal :=
  run s (fun s => s.whenUp (fun s => s.unitOp .core [(0x380, o)] 0x383 t))

/-- LSU_LHU (R276): Ndear-C zero-extended halfword load. -/
def execLsuLhu (o : Word) (t : Word) (s : State) : Host.Outcome State Fault Refusal :=
  run s (fun s => s.whenUp (fun s => s.unitOp .core [(0x380, o)] 0x384 t))

/-- LSU_LB (R276): Ndear-C sign-extended byte load. -/
def execLsuLb (o : Word) (t : Word) (s : State) : Host.Outcome State Fault Refusal :=
  run s (fun s => s.whenUp (fun s => s.unitOp .core [(0x380, o)] 0x385 t))

/-- LSU_LBU (R276): Ndear-C zero-extended byte load. -/
def execLsuLbu (o : Word) (t : Word) (s : State) : Host.Outcome State Fault Refusal :=
  run s (fun s => s.whenUp (fun s => s.unitOp .core [(0x380, o)] 0x386 t))

/-- LSU_SW (R276): Ndear-C word store, posted to the store queue. -/
def execLsuSw (o : Word) (d : Word) (t : Word) (s : State) : Host.Outcome State Fault Refusal :=
  run s (fun s => s.whenUp (fun s => s.unitOp .core [(0x380, o), (0x381, d)] 0x387 t))

/-- LSU_SH (R276): Ndear-C halfword store. -/
def execLsuSh (o : Word) (d : Word) (t : Word) (s : State) : Host.Outcome State Fault Refusal :=
  run s (fun s => s.whenUp (fun s => s.unitOp .core [(0x380, o), (0x381, d)] 0x388 t))

/-- LSU_SB (R276): Ndear-C byte store. -/
def execLsuSb (o : Word) (d : Word) (t : Word) (s : State) : Host.Outcome State Fault Refusal :=
  run s (fun s => s.whenUp (fun s => s.unitOp .core [(0x380, o), (0x381, d)] 0x389 t))

/-- LSU_SYNC (R276): Stalls issue until every earlier store has completed. -/
def execLsuSync (s : State) : Host.Outcome State Fault Refusal :=
  run s (fun s => s.whenUp (fun s => s.unitOp .core [] 0x38A 0))

/-- STORE_COMPLETE (R276): A posted Ndear-C store leaves the queue and reaches its memory or page. -/
def execStoreComplete (s : State) : Host.Outcome State Fault Refusal :=
  run s (fun s => s.whenUp (fun s => s.storeComplete))

/-- CTL_JMP (R278): Jump to a bundle address after two delay bundles. -/
def execCtlJmp (cpu : Cpu) (t : Word) (s : State) : Host.Outcome State Fault Refusal :=
  run s (fun s => s.whenUp (fun s => s.unitOp cpu [] 0x020 t))

/-- CTL_BR (R278): Relative branch. -/
def execCtlBr (cpu : Cpu) (t : Word) (s : State) : Host.Outcome State Fault Refusal :=
  run s (fun s => s.whenUp (fun s => s.unitOp cpu [] 0x021 t))

/-- CTL_CALL (R278): Pushes the return address and jumps. -/
def execCtlCall (cpu : Cpu) (t : Word) (s : State) : Host.Outcome State Fault Refusal :=
  run s (fun s => s.whenUp (fun s => s.unitOp cpu [] 0x022 t))

/-- CTL_CALLR (R278): Pushes the return address and branches relative. -/
def execCtlCallr (cpu : Cpu) (t : Word) (s : State) : Host.Outcome State Fault Refusal :=
  run s (fun s => s.whenUp (fun s => s.unitOp cpu [] 0x023 t))

/-- CTL_RET (R278): Pops the return stack and jumps there. -/
def execCtlRet (cpu : Cpu) (s : State) : Host.Outcome State Fault Refusal :=
  run s (fun s => s.whenUp (fun s => s.unitOp cpu [] 0x024 0))

/-- CTL_END (R280): The Ndear-P run completes: its run buffer is committed, requests are released and events delivered. -/
def execCtlEnd (cpu : Cpu) (s : State) : Host.Outcome State Fault Refusal :=
  run s (fun s => s.whenUp (fun s => s.unitOp cpu [] 0x025 0))

/-- CTL_BRK (R278): Raises BREAK after this bundle. -/
def execCtlBrk (cpu : Cpu) (s : State) : Host.Outcome State Fault Refusal :=
  run s (fun s => s.whenUp (fun s => s.unitOp cpu [] 0x026 0))

/-- CTL_ERET (R290): Returns from a trap, restoring the mode, repeat and transfer. -/
def execCtlEret (cpu : Cpu) (s : State) : Host.Outcome State Fault Refusal :=
  run s (fun s => s.whenUp (fun s => s.unitOp cpu [] 0x027 0))

/-- CTL_WFI (R278): Stalls issue until an interrupt is pending. -/
def execCtlWfi (cpu : Cpu) (s : State) : Host.Outcome State Fault Refusal :=
  run s (fun s => s.whenUp (fun s => s.unitOp cpu [] 0x028 0))

/-- WFI_RESUME (R278): An interrupt becomes pending, and issue resumes after wfi. -/
def execWfiResume (s : State) : Host.Outcome State Fault Refusal :=
  run s (fun s => s.whenUp (fun s => s.wfiResume))

/-- STK_PUSH (R282): Pushes a word on the data stack. -/
def execStkPush (cpu : Cpu) (t : Word) (s : State) : Host.Outcome State Fault Refusal :=
  run s (fun s => s.whenUp (fun s => s.unitOp cpu [] 0x018 t))

/-- STK_POP (R282): Pops the data stack into stk.r. -/
def execStkPop (cpu : Cpu) (s : State) : Host.Outcome State Fault Refusal :=
  run s (fun s => s.whenUp (fun s => s.unitOp cpu [] 0x019 0))

/-- STK_PEEK (R282): Reads a word below the top of the data stack. -/
def execStkPeek (cpu : Cpu) (t : Word) (s : State) : Host.Outcome State Fault Refusal :=
  run s (fun s => s.whenUp (fun s => s.unitOp cpu [] 0x01A t))

/-- REP_T (R283): Sets an interruptible repeat count for the next bundle. -/
def execRepT (cpu : Cpu) (t : Word) (s : State) : Host.Outcome State Fault Refusal :=
  run s (fun s => s.whenUp (fun s => s.unitOp cpu [] 0x009 t))

/-- REP_TN (R283): Sets a non-interruptible repeat count for the next bundle. -/
def execRepTn (cpu : Cpu) (t : Word) (s : State) : Host.Outcome State Fault Refusal :=
  run s (fun s => s.whenUp (fun s => s.unitOp cpu [] 0x00A t))

/-- BND_CHK (R285): Signed bounds check, which traps BOUNDS on failure. -/
def execBndChk (cpu : Cpu) (lo : Word) (hi : Word) (t : Word) (s : State) : Host.Outcome State Fault Refusal :=
  run s (fun s => s.whenUp (fun s => s.unitOp cpu [(0x030, lo), (0x031, hi)] 0x032 t))

/-- BND_CHKU (R285): Unsigned bounds check. -/
def execBndChku (cpu : Cpu) (lo : Word) (hi : Word) (t : Word) (s : State) : Host.Outcome State Fault Refusal :=
  run s (fun s => s.whenUp (fun s => s.unitOp cpu [(0x030, lo), (0x031, hi)] 0x033 t))

/-- BND_CLP (R285): Clamps to the limits and never traps. -/
def execBndClp (cpu : Cpu) (lo : Word) (hi : Word) (t : Word) (s : State) : Host.Outcome State Fault Refusal :=
  run s (fun s => s.whenUp (fun s => s.unitOp cpu [(0x030, lo), (0x031, hi)] 0x034 t))

end Sys2Proof.Machine
end

