-- ==== Sys2Proof/Machine/FaultCommands.lean ====
section
/-!
DEFINITION. Commands of the Belvedere and the Hedge (chapters 14 and 15).
-/
namespace Sys2Proof.Machine

/-- REACTION_STEP (R432): Every 10 ns the Belvedere takes the new reports, writes or coalesces history and takes the
combined reactions. -/
def execReactionStep (dt : Nat) (s : State) : Host.Outcome State Fault Refusal :=
  run s (fun s => s.reactionStep dt)

/-- FENCE_CMD (R433): A write of 0xF3CE to FENCE_CMD requests the lift of the fence named in FENCE_TGT. -/
def execFenceCmd (port : Port) (s : State) : Host.Outcome State Fault Refusal :=
  run s (fun s => s.portWrite port pBlv Reg.Blv.FENCE_CMD 0xF3CE)

/-- FENCE_LIFT (R433): A lift takes effect at the second slot start, or within 2 us while the Pergola is disabled. -/
def execFenceLift (peer : Option (Word × Nat)) (s : State) : Host.Outcome State Fault Refusal :=
  run s (fun s => s.whenUp (fun s => match peer with
    | some (target, slot) => s.fenceLiftPeer target slot
    | none => s.fenceLiftNow))

/-- HIST_CLR (R425): A write of 0xC1EA empties the history queue. -/
def execHistClr (port : Port) (s : State) : Host.Outcome State Fault Refusal :=
  run s (fun s => s.portWrite port pBlv Reg.Blv.HIST_CLR 0xC1EA)

/-- HIST0_READ (R438): A read of HIST0 latches the entry at HIST_IDX into HIST1-5. -/
def execHist0Read (port : Port) (s : State) : Host.Outcome State Fault Refusal :=
  run s (fun s => s.portRead port pBlv (Reg.Blv.HIST 0))

/-- LIGHT_MESH (R440): Mesh photocurrent above the threshold raises source 0. -/
def execLightMesh (nanoamps : Nat) (s : State) : Host.Outcome State Fault Refusal :=
  run s (fun s => s.lightMesh nanoamps)

/-- LIGHT_CELL_REFRESH (R440): Every 20 us the light cells are read and refreshed, raising source 1 at DECAY_TH decayed
cells. -/
def execLightCellRefresh (decayed : Fin 4097) (s : State) : Host.Outcome State Fault Refusal :=
  run s (fun s => s.lightCells decayed)

/-- LIGHT_DISAGREE (R441): The disagreement window ends with only one light source raised, and source 2 is raised. -/
def execLightDisagree (s : State) : Host.Outcome State Fault Refusal :=
  run s (fun s => s.lightDisagree)

/-- SUPPLY_GLITCH (R442): A supply has been outside its window for MIN_NS, and source 3 is raised. -/
def execSupplyGlitch (ns : Nat) (s : State) : Host.Outcome State Fault Refusal :=
  run s (fun s => s.supplyGlitch ns)

/-- CLOCK_GLITCH (R440): A short SYSCLK interval or a fast PLL period raises source 4. -/
def execClockGlitch (s : State) : Host.Outcome State Fault Refusal :=
  run s (fun s => s.hdgMeets 4 true)

/-- BACKUP_TEMP_SAMPLE (R443): Every 32,768 ticks in backup the well sensor is sampled. -/
def execBackupTempSample (temp : Int) (ticks : Nat) (s : State) : Host.Outcome State Fault Refusal :=
  runIf (backupTempSampleOk temp) s (fun s => s.backupTemp temp ticks)

/-- BACKUP_ALARM (R451): A backup source is detected, BBR is cleared and an alarm record is written. -/
def execBackupAlarm (mask : Fin 256) (ticks : Nat) (s : State) : Host.Outcome State Fault Refusal :=
  run s (fun s => s.backupAlarm mask ticks)

/-- HEDGE_CONDITION_ABSENT (R444): A Hedge source's condition has been absent for 1 ms (1 s in backup), so the source can be
raised again. -/
def execHedgeConditionAbsent (source : Fin 8) (s : State) : Host.Outcome State Fault Refusal :=
  run s (fun s => s.conditionAbsent source)

end Sys2Proof.Machine
end

