-- ==== Sys2Proof/Machine/FloatCommands.lean ====
section
/-!
DEFINITION. The operations of the FMA and CORDIC units (R269, R270).
-/
namespace Sys2Proof.Machine

/-- FMA_FMA (R269): FMA fma: o x o2 + t with one rounding. -/
def execFmaFma (cpu : Cpu) (unit : Fin 4) (o : Word) (o2 : Word) (t : Word) (s : State) : Host.Outcome State Fault Refusal :=
  run s (fun s => s.whenUp (fun s => s.unitOp cpu [(fmaPort unit, o), (fmaPort unit + 1, o2)] (fmaPort unit + 0x02) t))

/-- FMA_FADD (R269): FMA fadd. -/
def execFmaFadd (cpu : Cpu) (unit : Fin 4) (o : Word) (o2 : Word) (t : Word) (s : State) : Host.Outcome State Fault Refusal :=
  run s (fun s => s.whenUp (fun s => s.unitOp cpu [(fmaPort unit, o), (fmaPort unit + 1, o2)] (fmaPort unit + 0x03) t))

/-- FMA_FSUB (R269): FMA fsub. -/
def execFmaFsub (cpu : Cpu) (unit : Fin 4) (o : Word) (o2 : Word) (t : Word) (s : State) : Host.Outcome State Fault Refusal :=
  run s (fun s => s.whenUp (fun s => s.unitOp cpu [(fmaPort unit, o), (fmaPort unit + 1, o2)] (fmaPort unit + 0x04) t))

/-- FMA_FMUL (R269): FMA fmul. -/
def execFmaFmul (cpu : Cpu) (unit : Fin 4) (o : Word) (o2 : Word) (t : Word) (s : State) : Host.Outcome State Fault Refusal :=
  run s (fun s => s.whenUp (fun s => s.unitOp cpu [(fmaPort unit, o), (fmaPort unit + 1, o2)] (fmaPort unit + 0x05) t))

/-- FMA_FMIN (R269): FMA fmin. -/
def execFmaFmin (cpu : Cpu) (unit : Fin 4) (o : Word) (o2 : Word) (t : Word) (s : State) : Host.Outcome State Fault Refusal :=
  run s (fun s => s.whenUp (fun s => s.unitOp cpu [(fmaPort unit, o), (fmaPort unit + 1, o2)] (fmaPort unit + 0x06) t))

/-- FMA_FMAX (R269): FMA fmax. -/
def execFmaFmax (cpu : Cpu) (unit : Fin 4) (o : Word) (o2 : Word) (t : Word) (s : State) : Host.Outcome State Fault Refusal :=
  run s (fun s => s.whenUp (fun s => s.unitOp cpu [(fmaPort unit, o), (fmaPort unit + 1, o2)] (fmaPort unit + 0x07) t))

/-- FMA_FABS (R269): FMA fabs. -/
def execFmaFabs (cpu : Cpu) (unit : Fin 4) (o : Word) (o2 : Word) (t : Word) (s : State) : Host.Outcome State Fault Refusal :=
  run s (fun s => s.whenUp (fun s => s.unitOp cpu [(fmaPort unit, o), (fmaPort unit + 1, o2)] (fmaPort unit + 0x08) t))

/-- FMA_ITOF (R269): FMA itof: integer to binary32. -/
def execFmaItof (cpu : Cpu) (unit : Fin 4) (o : Word) (o2 : Word) (t : Word) (s : State) : Host.Outcome State Fault Refusal :=
  run s (fun s => s.whenUp (fun s => s.unitOp cpu [(fmaPort unit, o), (fmaPort unit + 1, o2)] (fmaPort unit + 0x09) t))

/-- FMA_QTOF (R269): FMA qtof: Q1.31 to binary32. -/
def execFmaQtof (cpu : Cpu) (unit : Fin 4) (o : Word) (o2 : Word) (t : Word) (s : State) : Host.Outcome State Fault Refusal :=
  run s (fun s => s.whenUp (fun s => s.unitOp cpu [(fmaPort unit, o), (fmaPort unit + 1, o2)] (fmaPort unit + 0x0A) t))

/-- FMA_FTOQ (R269): FMA ftoq: binary32 to saturating Q1.31. -/
def execFmaFtoq (cpu : Cpu) (unit : Fin 4) (o : Word) (o2 : Word) (t : Word) (s : State) : Host.Outcome State Fault Refusal :=
  run s (fun s => s.whenUp (fun s => s.unitOp cpu [(fmaPort unit, o), (fmaPort unit + 1, o2)] (fmaPort unit + 0x0B) t))

/-- FMA_FTOI (R269): FMA ftoi: binary32 to saturating integer. -/
def execFmaFtoi (cpu : Cpu) (unit : Fin 4) (o : Word) (o2 : Word) (t : Word) (s : State) : Host.Outcome State Fault Refusal :=
  run s (fun s => s.whenUp (fun s => s.unitOp cpu [(fmaPort unit, o), (fmaPort unit + 1, o2)] (fmaPort unit + 0x0C) t))

/-- FMA_FLT (R269): FMA flt: 1 when o < t. -/
def execFmaFlt (cpu : Cpu) (unit : Fin 4) (o : Word) (o2 : Word) (t : Word) (s : State) : Host.Outcome State Fault Refusal :=
  run s (fun s => s.whenUp (fun s => s.unitOp cpu [(fmaPort unit, o), (fmaPort unit + 1, o2)] (fmaPort unit + 0x0D) t))

/-- FMA_FEQ (R269): FMA feq: 1 when o = t. -/
def execFmaFeq (cpu : Cpu) (unit : Fin 4) (o : Word) (o2 : Word) (t : Word) (s : State) : Host.Outcome State Fault Refusal :=
  run s (fun s => s.whenUp (fun s => s.unitOp cpu [(fmaPort unit, o), (fmaPort unit + 1, o2)] (fmaPort unit + 0x0E) t))

/-- COR_SINCOS (R270): CORDIC sincos of a grid angle. -/
def execCorSincos (cpu : Cpu) (unit : Fin 2) (o : Word) (o2 : Word) (t : Word) (s : State) : Host.Outcome State Fault Refusal :=
  run s (fun s => s.whenUp (fun s => s.unitOp cpu [(corPort unit, o), (corPort unit + 1, o2)] (corPort unit + 0x02) t))

/-- COR_ATAN2 (R270): CORDIC atan2 and magnitude. -/
def execCorAtan2 (cpu : Cpu) (unit : Fin 2) (o : Word) (o2 : Word) (t : Word) (s : State) : Host.Outcome State Fault Refusal :=
  run s (fun s => s.whenUp (fun s => s.unitOp cpu [(corPort unit, o), (corPort unit + 1, o2)] (corPort unit + 0x03) t))

/-- COR_ROT (R270): CORDIC rot: rotates (x, y) by an angle. -/
def execCorRot (cpu : Cpu) (unit : Fin 2) (o : Word) (o2 : Word) (t : Word) (s : State) : Host.Outcome State Fault Refusal :=
  run s (fun s => s.whenUp (fun s => s.unitOp cpu [(corPort unit, o), (corPort unit + 1, o2)] (corPort unit + 0x04) t))

end Sys2Proof.Machine
end

