-- ==== Sys2Proof/Machine/HostCommands.lean ====
section
/-!
DEFINITION. Commands of the Gatehouse, the control core's page and the host interface (chapter 18).
-/
namespace Sys2Proof.Machine

/-- GTH_NARROW_WRITE (R498): A write of GTH_NARROW clears bits of the current masks of one or every index. -/
def execGthNarrowWrite (port : Port) (clrW : BitVec 9) (clrR : BitVec 9) (all : Bool) (s : State) : Host.Outcome State Fault Refusal :=
  run s (fun s => s.portWrite port pGth Reg.Gth.GTH_NARROW (narrowWord clrW clrR all))

/-- PROXY_READ (R500): GTH_PROXY_CMD read performs a read as NET locally or as TWIN on the peer. -/
def execProxyRead (port : Port) (twin : Bool) (s : State) : Host.Outcome State Fault Refusal :=
  run s (fun s => s.portWrite port pGth Reg.Gth.GTH_PROXY_CMD (proxyWord false false twin))

/-- PROXY_WRITE (R500): GTH_PROXY_CMD write performs a write, or a pair, as NET or TWIN. -/
def execProxyWrite (port : Port) (pair : Bool) (twin : Bool) (s : State) : Host.Outcome State Fault Refusal :=
  run s (fun s => s.portWrite port pGth Reg.Gth.GTH_PROXY_CMD (proxyWord true pair twin))

/-- PROXY_ACCESS_RECEIVED (R500): A TWIN proxy access from the peer is performed under the TWIN masks and answered. -/
def execProxyAccessReceived (write : Bool) (pair : Bool) (addr : Word) (value : Word) (s : State) : Host.Outcome State Fault Refusal :=
  run s (fun s => s.proxyReceived ⟨false, write, pair, addr.toNat, value⟩)

/-- PROXY_ANSWER_RECEIVED (R500): The peer's answer, or its absence at 20 us or on session loss, ends the proxy command. -/
def execProxyAnswerReceived (answer : Option (Nat × Word)) (s : State) : Host.Outcome State Fault Refusal :=
  runIf (proxyAnswerReceivedOk answer) s (fun s => s.whenUp (fun s => s.proxyAnswer answer))

/-- GTH_LOG_READ (R520): A read of GTH_LOG removes the oldest entry. -/
def execGthLogRead (port : Port) (s : State) : Host.Outcome State Fault Refusal :=
  run s (fun s => s.portRead port pGth Reg.Gth.GTH_LOG)

/-- LOCKSTEP_ERROR (R502): A comparator disagreement or parity error blocks the output, stops CORE_LIVE and reports fatal. -/
def execLockstepError (parity : Bool) (s : State) : Host.Outcome State Fault Refusal :=
  run s (fun s => s.whenUp (fun s => s.lockstep (if parity then 2 else 1)))

/-- REKEY (R503): A write of CCP_MASK.REKEY = 1 re-keys the bus masks from the Fountain. -/
def execRekey (port : Port) (s : State) : Host.Outcome State Fault Refusal :=
  run s (fun s => s.portWrite port pCcp Reg.Ccp.CCP_MASK 0x80000000)

/-- PCIE_RESET (R509): PERST_N, hot reset or link down resets the endpoint and aborts HIF transfers. -/
def execPcieReset (perst : Bool) (s : State) : Host.Outcome State Fault Refusal :=
  run s (fun s => s.pcieReset perst)

/-- BAR2_ACCESS (R507): A host BAR2 request reaches control SRAM or the sample store under HIF_WIN. -/
def execBar2Access (offset : Fin 0x8000000) (count : Fin 1025) (write : Option (List Byte)) (s : State) : Host.Outcome State Fault Refusal :=
  run s (fun s => match write with
    | some octets => s.bar2Write offset octets
    | none => s.bar2Read offset count)

/-- HIF_F2H_SET_WRITE (R522): A write of HIF_F2H_SET sets doorbell bits and sends their MSI-X vectors. -/
def execHifF2hSetWrite (port : Port) (value : Word) (s : State) : Host.Outcome State Fault Refusal :=
  run s (fun s => s.portWrite port pHif Reg.Hif.HIF_F2H_SET value)

/-- HIF_TRANSFER_START (R510): XF_CMD GO starts a transfer from control SRAM to the host. -/
def execHifTransferStart (port : Port) (s : State) : Host.Outcome State Fault Refusal :=
  run s (fun s => s.portWrite port pHif Reg.Hif.XF_CMD 1)

/-- HIF_TRANSFER_DONE (R510): The HIF transfer ends with its RESULT. -/
def execHifTransferDone (s : State) : Host.Outcome State Fault Refusal :=
  run s (fun s => s.whenUp (fun s => s.xfDone))

/-- DMA_START (R523): DMA_CMD GO starts a CCP transfer. -/
def execDmaStart (port : Port) (s : State) : Host.Outcome State Fault Refusal :=
  run s (fun s => s.portWrite port pCcp Reg.Ccp.DMA_CMD 1)

/-- DMA_DONE (R523): The CCP transfer ends with its RESULT. -/
def execDmaDone (s : State) : Host.Outcome State Fault Refusal :=
  run s (fun s => s.whenUp (fun s => s.dmaDone))

/-- UART_TX_WRITE (R523): A write of UART_TX queues an octet. -/
def execUartTxWrite (port : Port) (data : Byte) (s : State) : Host.Outcome State Fault Refusal :=
  run s (fun s => s.portWrite port pCcp Reg.Ccp.UART_TX (data.setWidth 32))

/-- UART_RX_READ (R523): A read of UART_RX removes the oldest octet. -/
def execUartRxRead (port : Port) (s : State) : Host.Outcome State Fault Refusal :=
  run s (fun s => s.portRead port pCcp Reg.Ccp.UART_RX)

/-- UART_RX_OCTET (R515): An octet arrives on UART_RX. -/
def execUartRxOctet (data : Byte) (s : State) : Host.Outcome State Fault Refusal :=
  run s (fun s => s.whenUp (fun s => s.uartRx data))

/-- PCIE_LINK_UP (R521): PCIe link training completes after PERST_N release, and STA.BLK.LINK_UP, SPEED and WIDTH are set. -/
def execPcieLinkUp (speed : Fin 5) (width : Fin 5) (bme : Bool) (s : State) : Host.Outcome State Fault Refusal :=
  runIf (pcieLinkUpOk speed width) s (fun s => s.pcieUp speed width bme)

/-- UART_TX_OCTET_SENT (R515): The console finishes sending one octet at 115,200 baud, so UART_TX.LEVEL falls and FULL
clears. -/
def execUartTxOctetSent (s : State) : Host.Outcome State Fault Refusal :=
  run s (fun s => s.whenUp (fun s => s.uartSent))

end Sys2Proof.Machine
end

