-- ==== Sys2Proof/Machine/KeyCommands.lean ====
section
/-!
DEFINITION. Commands of the Orangery (chapter 10): key commands, swaps, rings and cores.
-/
namespace Sys2Proof.Machine

/-- SWAP_TIMER (R327): While the Pergola is disabled, a swap takes place within 1 us of T_s. -/
def execSwapTimer (at_ : Nat) (s : State) : Host.Outcome State Fault Refusal :=
  run s (fun s => s.whenUp (fun s => s.keyTimer at_))

/-- RETIRE_EXPIRY (R327): A RETIRED key is zeroed RETIRE_S seconds after the swap. -/
def execRetireExpiry (at_ : Nat) (s : State) : Host.Outcome State Fault Refusal :=
  run s (fun s => s.whenUp (fun s => s.retireTimer at_))

/-- LOAD (R324): KEY_CMD LOAD unwraps a storage or transport blob into a slot position after its ordered checks. -/
def execLoad (port : Port) (nxt : Bool) (slot : Fin 8192) (s : State) : Host.Outcome State Fault Refusal :=
  run s (fun s => s.portWrite port pOrg Reg.Org.KEY_CMD (keyWord 1 nxt false slot))

/-- TRANSPORT_LOAD_COMPLETE (R324): A transport LOAD ends once the Arbour's ECDH has given KEK_T. -/
def execTransportLoadComplete (s : State) : Host.Outcome State Fault Refusal :=
  run s (fun s => s.whenUp (fun s => s.keyTransport))

/-- SWAP_AT (R327): KEY_CMD SWAP_AT sets a slot's swap instant. -/
def execSwapAt (port : Port) (slot : Fin 8192) (s : State) : Host.Outcome State Fault Refusal :=
  run s (fun s => s.portWrite port pOrg Reg.Org.KEY_CMD (keyWord 2 false false slot))

/-- ERASE (R328): KEY_CMD ERASE zeroes one or both positions of a slot. -/
def execErase (port : Port) (nxt : Bool) (both : Bool) (slot : Fin 8192) (s : State) : Host.Outcome State Fault Refusal :=
  run s (fun s => s.portWrite port pOrg Reg.Org.KEY_CMD (keyWord 3 nxt both slot))

/-- EXPORT (R325): KEY_CMD EXPORT writes a storage blob of one slot position. -/
def execExportBlob (port : Port) (nxt : Bool) (slot : Fin 8192) (s : State) : Host.Outcome State Fault Refusal :=
  run s (fun s => s.portWrite port pOrg Reg.Org.KEY_CMD (keyWord 4 nxt false slot))

/-- BBR_GEN (R321): KEY_CMD BBR_GEN draws 384 bits for BBR and IMP_NONCE, then derives the keys. -/
def execBbrGen (port : Port) (s : State) : Host.Outcome State Fault Refusal :=
  run s (fun s => s.portWrite port pOrg Reg.Org.KEY_CMD (keyWord 5 false false 0))

/-- KEK_DERIVE (R320): KEY_CMD KEK_DERIVE derives KEK_S and d_KA and starts the Q_KA computation. -/
def execKekDerive (port : Port) (s : State) : Host.Outcome State Fault Refusal :=
  run s (fun s => s.portWrite port pOrg Reg.Org.KEY_CMD (keyWord 6 false false 0))

/-- RING_HEAD_WRITE (R338): A write of RING_HEAD queues firmware descriptors for the cores. -/
def execRingHeadWrite (port : Port) (ring : Fin 4) (value : Word) (s : State) : Host.Outcome State Fault Refusal :=
  run s (fun s => s.portWrite port pOrg (Reg.Org.RING_HEAD ring) value)

/-- RING_DISABLE (R338): Clearing RING_CTL.EN ends its queued and running descriptors ABORTED. -/
def execRingDisable (port : Port) (ring : Fin 4) (value : Word) (s : State) : Host.Outcome State Fault Refusal :=
  run s (fun s => s.portWrite port pOrg (Reg.Org.RING_CTL ring) (value &&& 0x7FFFFFFF))

/-- CORE_TAKE_DESCRIPTOR (R331): A free AES or SHA core takes the next descriptor in priority order, charging its class. -/
def execCoreTakeDescriptor (s : State) : Host.Outcome State Fault Refusal :=
  run s (fun s => s.whenUp (fun s => s.takeDescriptor))

/-- DESCRIPTOR_COMPLETE (R333): A core finishes a descriptor, writes DST and the tag as the outcome permits, and sets word 7. -/
def execDescriptorComplete (cpu : Fin 48) (s : State) : Host.Outcome State Fault Refusal :=
  run s (fun s => s.whenUp (fun s => s.coreDone cpu))

end Sys2Proof.Machine
end

