-- ==== Sys2Proof/Machine/MacCommands.lean ====
section
/-!
DEFINITION. The operations of the MAC and divide units (R268, R271).
-/
namespace Sys2Proof.Machine

/-- MAC_MACQ (R268): MAC macq: accumulates o x t and gives A rounded to Q1.31. -/
def execMacMacq (cpu : Cpu) (unit : Fin 8) (o : Word) (t : Word) (s : State) : Host.Outcome State Fault Refusal :=
  run s (fun s => s.whenUp (fun s => s.unitOp cpu [(macPort unit, o)] (macPort unit + 0x02) t))

/-- MAC_MUL (R268): MAC mul: low 32 bits of o x t. -/
def execMacMul (cpu : Cpu) (unit : Fin 8) (o : Word) (t : Word) (s : State) : Host.Outcome State Fault Refusal :=
  run s (fun s => s.whenUp (fun s => s.unitOp cpu [(macPort unit, o)] (macPort unit + 0x03) t))

/-- MAC_MULH (R268): MAC mulh: high 32 bits of the signed product. -/
def execMacMulh (cpu : Cpu) (unit : Fin 8) (o : Word) (t : Word) (s : State) : Host.Outcome State Fault Refusal :=
  run s (fun s => s.whenUp (fun s => s.unitOp cpu [(macPort unit, o)] (macPort unit + 0x04) t))

/-- MAC_MULQ (R268): MAC mulq: product rounded to Q1.31. -/
def execMacMulq (cpu : Cpu) (unit : Fin 8) (o : Word) (t : Word) (s : State) : Host.Outcome State Fault Refusal :=
  run s (fun s => s.whenUp (fun s => s.unitOp cpu [(macPort unit, o)] (macPort unit + 0x05) t))

/-- MAC_MAC (R268): MAC mac: accumulates and gives A[31:0]. -/
def execMacMac (cpu : Cpu) (unit : Fin 8) (o : Word) (t : Word) (s : State) : Host.Outcome State Fault Refusal :=
  run s (fun s => s.whenUp (fun s => s.unitOp cpu [(macPort unit, o)] (macPort unit + 0x06) t))

/-- MAC_CLR (R268): MAC clr: clears the accumulator, r and f. -/
def execMacClr (cpu : Cpu) (unit : Fin 8) (o : Word) (t : Word) (s : State) : Host.Outcome State Fault Refusal :=
  run s (fun s => s.whenUp (fun s => s.unitOp cpu [(macPort unit, o)] (macPort unit + 0x07) t))

/-- MAC_LD (R268): MAC ld: loads A with t x 2^31. -/
def execMacLd (cpu : Cpu) (unit : Fin 8) (o : Word) (t : Word) (s : State) : Host.Outcome State Fault Refusal :=
  run s (fun s => s.whenUp (fun s => s.unitOp cpu [(macPort unit, o)] (macPort unit + 0x08) t))

/-- MAC_RDH (R268): MAC rdh: reads A[63:32]. -/
def execMacRdh (cpu : Cpu) (unit : Fin 8) (o : Word) (t : Word) (s : State) : Host.Outcome State Fault Refusal :=
  run s (fun s => s.whenUp (fun s => s.unitOp cpu [(macPort unit, o)] (macPort unit + 0x09) t))

/-- DIV_DIV (R271): DIV div: signed quotient and remainder. -/
def execDivDiv (cpu : Cpu) (unit : Fin 2) (o : Word) (t : Word) (s : State) : Host.Outcome State Fault Refusal :=
  run s (fun s => s.whenUp (fun s => s.unitOp cpu [(divPort unit, o)] (divPort unit + 0x02) t))

/-- DIV_DIVU (R271): DIV divu: unsigned quotient and remainder. -/
def execDivDivu (cpu : Cpu) (unit : Fin 2) (o : Word) (t : Word) (s : State) : Host.Outcome State Fault Refusal :=
  run s (fun s => s.whenUp (fun s => s.unitOp cpu [(divPort unit, o)] (divPort unit + 0x03) t))

/-- DIV_DIVQ (R271): DIV divq: Q1.31 quotient. -/
def execDivDivq (cpu : Cpu) (unit : Fin 2) (o : Word) (t : Word) (s : State) : Host.Outcome State Fault Refusal :=
  run s (fun s => s.whenUp (fun s => s.unitOp cpu [(divPort unit, o)] (divPort unit + 0x04) t))

end Sys2Proof.Machine
end

