-- ==== Sys2Proof/Machine/MaintCommands.lean ====
section
/-!
DEFINITION. Commands of the maintenance SPI and the debug TAP (R511 to R518).
-/
namespace Sys2Proof.Machine

/-- MS_READ (R512): SPI READ returns STATUS and successive words. -/
def execMsRead (addr : Word) (count : Nat) (s : State) : Host.Outcome State Fault Refusal :=
  run s (fun s => s.spiRead addr.toNat count)

/-- MS_WRITE (R512): SPI WRITE writes successive words. -/
def execMsWrite (addr : Word) (words : List Word) (cut : Bool) (s : State) : Host.Outcome State Fault Refusal :=
  run s (fun s => s.spiWrite addr.toNat words cut)

/-- PAIRED (R512): SPI PAIRED presents a value and its inverse as one transaction. -/
def execPaired (addr : Word) (value : Word) (inverse : Word) (cut : Bool) (s : State) : Host.Outcome State Fault Refusal :=
  run s (fun s => s.spiPaired addr.toNat value inverse cut)

/-- RDSR (R512): SPI RDSR returns the status of the last write. -/
def execRdsr (s : State) : Host.Outcome State Fault Refusal :=
  run s (fun s => s.spiStatus)

/-- STAGE (R512): SPI STAGE writes boot data into staging. -/
def execStage (offset : Fin 0x1000000) (data : List Byte) (s : State) : Host.Outcome State Fault Refusal :=
  run s (fun s => s.spiStage offset data)

/-- BOOTDB (R512): SPI BOOTDB rings the boot doorbell. -/
def execBootdb (value : Word) (s : State) : Host.Outcome State Fault Refusal :=
  run s (fun s => s.spiBootDb value)

/-- IDENT (R512): SPI IDENT returns DEVICE_ID and VER. -/
def execIdent (s : State) : Host.Outcome State Fault Refusal :=
  run s (fun s => s.spiIdent)

/-- IDCODE (R516): JTAG IDCODE shifts out 0xB640_0A6B. -/
def execIdcode (s : State) : Host.Outcome State Fault Refusal :=
  run s (fun s => s.tapIdcode)

/-- BYPASS (R516): JTAG BYPASS, or any undecoded code. -/
def execBypass (octets : List Byte) (s : State) : Host.Outcome State Fault Refusal :=
  run s (fun s => s.tapBypass octets)

/-- UNLOCK_CHAL (R517): JTAG UNLOCK_CHAL shifts out a challenge with a fresh nonce. -/
def execUnlockChal (s : State) : Host.Outcome State Fault Refusal :=
  run s (fun s => s.tapChallenge)

/-- UNLOCK_RESP (R517): JTAG UNLOCK_RESP takes a signed response for verification. -/
def execUnlockResp (response : List Byte) (s : State) : Host.Outcome State Fault Refusal :=
  runIf (unlockRespOk response) s (fun s => s.tapResponse response)

/-- UNLOCK_VERIFY_COMPLETE (R517): The response is verified, and after a zeroise in OPERATIONAL the TAP unlocks or counts a
failure. -/
def execUnlockVerifyComplete (s : State) : Host.Outcome State Fault Refusal :=
  run s (fun s => s.whenUp (fun s => s.unlockVerified))

/-- UNLOCK_STA (R517): JTAG UNLOCK_STA reads the unlock state. -/
def execUnlockSta (s : State) : Host.Outcome State Fault Refusal :=
  run s (fun s => s.tapStatus)

/-- DBG_ACC (R518): JTAG DBG_ACC makes a debug read, write or paired write at Update-DR. -/
def execDbgAcc (op : Fin 4) (addr : Word) (data : Word) (s : State) : Host.Outcome State Fault Refusal :=
  run s (fun s => s.dbgAcc op addr.toNat data)

/-- DBG_CORE (R518): JTAG DBG_CORE halts, steps or resumes Ndear-C. -/
def execDbgCore (op : Fin 4) (s : State) : Host.Outcome State Fault Refusal :=
  run s (fun s => s.dbgCore op)

end Sys2Proof.Machine
end

