-- ==== Sys2Proof/Machine/NvmCommands.lean ====
section
/-!
DEFINITION. Commands of the MRAM array and the patrol scrubber (chapters 13 and 14).
-/
namespace Sys2Proof.Machine

/-- NVM_ERASE (R397): NVM_CMD ERASE starts erasing sectors after the ordered tests. -/
def execNvmErase (port : Port) (s : State) : Host.Outcome State Fault Refusal :=
  run s (fun s => s.portWrite port pNvm Reg.Nvm.NVM_CMD 0xE50001)

/-- NVM_PROGRAM (R398): NVM_CMD PROGRAM checks every word for 0-to-1 changes and then programs the run. -/
def execNvmProgram (port : Port) (s : State) : Host.Outcome State Fault Refusal :=
  run s (fun s => s.portWrite port pNvm Reg.Nvm.NVM_CMD 0xE50002)

/-- NVM_VERIFY (R400): NVM_CMD VERIFY reads words at the normal and margin references. -/
def execNvmVerify (port : Port) (margin : Fin 4) (cmpSrc : Bool) (s : State) : Host.Outcome State Fault Refusal :=
  run s (fun s => s.portWrite port pNvm Reg.Nvm.NVM_CMD (verifyWord margin cmpSrc))

/-- NVM_UNIT_DONE (R399): An erase or program unit completes, DONE increments and the next unit starts or the run ends. -/
def execNvmUnitDone (s : State) : Host.Outcome State Fault Refusal :=
  run s (fun s => s.whenUp (fun s => s.nvmUnit.bootCard))

/-- NVM_RUN_RESUME (R402): A run held for budget resumes at the next window when its unit fits. -/
def execNvmRunResume (s : State) : Host.Outcome State Fault Refusal :=
  run s (fun s => s.whenUp (fun s => s.nvmResume))

/-- PATROL_SCRUB_READ (R416): The patrol scrubber reads and corrects a word in idle cycles. -/
def execPatrolScrubRead (region : Fin 16) (word : Nat) (s : State) : Host.Outcome State Fault Refusal :=
  run s (fun s => s.whenUp (fun s => s.patrolRead region word))

end Sys2Proof.Machine
end

