-- ==== Sys2Proof/Machine/PergolaCommands.lean ====
section
/-!
DEFINITION. Commands of the Pergola and the Pavilion (chapters 07 and 09): the promise, dispatch, captures and their logs.
-/
namespace Sys2Proof.Machine

/-- PERGOLA_ENABLE (R240): A write of PGL CTL.EN = 1 starts the enable check. -/
def execPergolaEnable (port : Port) (s : State) : Host.Outcome State Fault Refusal :=
  run s (fun s => s.portWrite port pPgl Reg.Hdr.CTL 1)

/-- ENABLE_CHECK_COMPLETE (R240): The enable check ends, and either accepts the configuration or refuses with the first
failing cause. -/
def execEnableCheckComplete (dt : Nat) (s : State) : Host.Outcome State Fault Refusal :=
  run s (fun s => s.whenUp (fun s => s.enableCheck dt))

/-- PERGOLA_DISABLE (R241): A write of PGL CTL.EN = 0 ends the promise at the next slot start. -/
def execPergolaDisable (port : Port) (s : State) : Host.Outcome State Fault Refusal :=
  run s (fun s => s.portWrite port pPgl Reg.Hdr.CTL 0)

/-- FIRST_DISPATCH (R235): At C_k + 5 us, the first switch of the slot begins for the lowest due entry. -/
def execFirstDispatch (s : State) : Host.Outcome State Fault Refusal :=
  run s (fun s => s.whenUp (fun s => s.firstDispatch))

/-- RUN_DISPATCH (R235): After the 48-cycle switch, a due entry's run starts at its entry point. -/
def execRunDispatch (s : State) : Host.Outcome State Fault Refusal :=
  run s (fun s => s.whenUp (fun s => s.runDispatch))

/-- BUDGET_PREEMPT (R243): A run's charged cycles reach BUDGET, so it is pre-empted and counted as an overrun. -/
def execBudgetPreempt (s : State) : Host.Outcome State Fault Refusal :=
  run s (fun s => s.whenUp (fun s => s.budgetPreempt))

/-- SCH_DATA_WRITE (R236): A schedule word write is accepted before the first enable; later only an EN clear is accepted, at
the next slot start. -/
def execSchDataWrite (port : Port) (value : Word) (s : State) : Host.Outcome State Fault Refusal :=
  run s (fun s => s.portWrite port pPgl Reg.Pgl.SCH_DATA value)

/-- OVR_LOG_READ (R251): A read of OVR_LOG returns and removes the oldest entry. -/
def execOvrLogRead (port : Port) (s : State) : Host.Outcome State Fault Refusal :=
  run s (fun s => s.portRead port pPgl Reg.Pgl.OVR_LOG)

/-- CAPTURE_BLOCK_COPY (R313): The capture engine copies the window blocks of a triggered record into the ring within its
background budget. -/
def execCaptureBlockCopy (dfn : Fin 8) (s : State) : Host.Outcome State Fault Refusal :=
  run s (fun s => s.whenUp (fun s => s.capCopy dfn))

/-- CTX_DATA_ACCESS (R295): An access to CTX_DATA reaches a context word, costs stall cycles and advances CTX_ADDR. -/
def execCtxDataAccess (port : Port) (write : Option Word) (s : State) : Host.Outcome State Fault Refusal :=
  run s (fun s => s.ctxAccess port write)

/-- TRAP_LOG_READ (R315): A read of TRAP_LOG0 removes the oldest trap and latches TRAP_LOG1-3. -/
def execTrapLogRead (port : Port) (s : State) : Host.Outcome State Fault Refusal :=
  run s (fun s => s.portRead port pPav Reg.Pav.TRAP_LOG0)

/-- EVQ_READ (R315): A read of EVQ0 removes the oldest event and latches EVQ1-4. -/
def execEvqRead (port : Port) (s : State) : Host.Outcome State Fault Refusal :=
  run s (fun s => s.portRead port pPav Reg.Pav.EVQ0)

end Sys2Proof.Machine
end

