-- ==== Sys2Proof/Machine/PortCommands.lean ====
section
/-!
DEFINITION. Commands of the Promenade (chapter 05): frames, lanes, gates, redundancy, tables and Folly.
-/
namespace Sys2Proof.Machine

/-- FRAME_RECEIVED (R147): A frame's last bit arrives at a lane, and it is timestamped, passes Folly, the MAC and FCS,
MACsec and PRP/HSR handling, and is switched. -/
def execFrameReceived (eport : Fin 256) (octets : List Byte) (lead : Nat) (s : State) : Host.Outcome State Fault Refusal :=
  run s (fun s => s.whenUp (fun s => s.frameReceived eport octets lead))

/-- FRAME_TRANSMIT (R151): An egress port starts the next frame from its queues, with the publication queue first, subject
to the gates. -/
def execFrameTransmit (eport : Fin 256) (s : State) : Host.Outcome State Fault Refusal :=
  run s (fun s => s.whenUp (fun s => s.frameTransmit eport))

/-- LANE_SIGNAL_CHANGE (R176): A lane gains or loses signal, CDR lock, block lock or PCS link. -/
def execLaneSignalChange (lane : Fin 64) (sig : Bool) (cdr : Bool) (blk : Bool) (link : Bool) (fec : Bool) (corr : Nat) (uncorr : Nat) (s : State) : Host.Outcome State Fault Refusal :=
  run s (fun s => s.whenUp (fun s => s.laneSignal lane sig cdr blk link fec corr uncorr))

/-- PHY_STATUS_CHANGE (R141): SGMII or QSGMII in-band status changes the port's speed or link. -/
def execPhyStatusChange (eport : Fin 256) (link : Bool) (speed : Fin 8) (s : State) : Host.Outcome State Fault Refusal :=
  run s (fun s => s.whenUp (fun s => s.phyStatus eport link speed))

/-- GCL_CONFIG_CHANGE (R155): A write of CONFIG_CHANGE requests the admin gate list, or refuses it. -/
def execGclConfigChange (port : Port) (eport : Fin 256) (value : Word) (s : State) : Host.Outcome State Fault Refusal :=
  run s (fun s => s.portWrite port (pPrc (eport / 16)) (Reg.Prc.GCL_CTL (eport % 16)) (value ||| 0x80000000))

/-- GATE_CYCLE_START (R154): A gate cycle starts on its compare unit or at C_k, and copies a pending admin list to oper. -/
def execGateCycleStart (eport : Fin 256) (s : State) : Host.Outcome State Fault Refusal :=
  run s (fun s => s.whenUp (fun s => s.gateCycle eport))

/-- GATE_ENTRY_EXPIRY (R153): A gate list entry's interval ends, and the next entry's gate states apply. -/
def execGateEntryExpiry (eport : Fin 256) (s : State) : Host.Outcome State Fault Refusal :=
  run s (fun s => s.whenUp (fun s => s.gateExpiry eport))

/-- GCL_DATA_ACCESS (R189): An access to GCL_DATA acts on the addressed entry and advances ENTRY. -/
def execGclDataAccess (port : Port) (group : Fin 16) (write : Option Word) (s : State) : Host.Outcome State Fault Refusal :=
  run s (fun s => s.portAccess port (pPrc group) Reg.Prc.GCL_DATA write)

/-- PAIR_ENABLE (R161): A PAIR_CFG write of EN = 1 enables a PRP/HSR pair, or refuses it with its PAIR_ERR cause. -/
def execPairEnable (port : Port) (pair : Fin 32) (value : Word) (s : State) : Host.Outcome State Fault Refusal :=
  run s (fun s => s.portWrite port pPrm (Reg.Prm.PAIR_CFG pair) (value ||| 0x80000000))

/-- PAIR_DISABLE (R187): A PAIR_CFG write that clears EN disables the pair and frees its table. -/
def execPairDisable (port : Port) (pair : Fin 32) (value : Word) (s : State) : Host.Outcome State Fault Refusal :=
  run s (fun s => s.portWrite port pPrm (Reg.Prm.PAIR_CFG pair) (value &&& 0x7FFFFFFF))

/-- SUPERVISION_TX (R156): Every 2 s the device sends PRP/HSR supervision frames for itself and its proxied SANs. -/
def execSupervisionTx (pair : Fin 32) (s : State) : Host.Outcome State Fault Refusal :=
  run s (fun s => s.whenUp (fun s => s.supervisionTx pair))

/-- FDB_AGE_OUT (R150): A dynamic forwarding entry ages out after AGE_S seconds. -/
def execFdbAgeOut (index : Fin 65536) (s : State) : Host.Outcome State Fault Refusal :=
  run s (fun s => s.whenUp (fun s => s.fdbAgeOut index))

/-- TBL_READ (R186): TBL_CMD op 0 reads a VLAN, FDB or proxy entry into TBL_DATA. -/
def execTblRead (port : Port) (table : Fin 3) (index : Fin 65536) (s : State) : Host.Outcome State Fault Refusal :=
  run s (fun s => s.portWrite port pPrm Reg.Prm.TBL_CMD (tblWord 0 table index))

/-- TBL_WRITE (R186): TBL_CMD op 1 writes an entry, subject to the STATIC and VLAN write rules. -/
def execTblWrite (port : Port) (table : Fin 3) (index : Fin 65536) (s : State) : Host.Outcome State Fault Refusal :=
  run s (fun s => s.portWrite port pPrm Reg.Prm.TBL_CMD (tblWord 1 table index))

/-- TBL_DELETE (R186): TBL_CMD op 2 deletes an entry. -/
def execTblDelete (port : Port) (table : Fin 3) (index : Fin 65536) (s : State) : Host.Outcome State Fault Refusal :=
  run s (fun s => s.portWrite port pPrm Reg.Prm.TBL_CMD (tblWord 2 table index))

/-- TBL_SEARCH (R186): TBL_CMD op 3 searches for the key in DATA. -/
def execTblSearch (port : Port) (table : Fin 3) (index : Fin 65536) (s : State) : Host.Outcome State Fault Refusal :=
  run s (fun s => s.portWrite port pPrm Reg.Prm.TBL_CMD (tblWord 3 table index))

/-- PORT_CFG_WRITE (R169): A PORT_CFG write sets the port fields; only HOST or MAINT may move STATE into or out of TEST. -/
def execPortCfgWrite (port : Port) (eport : Fin 256) (value : Word) (s : State) : Host.Outcome State Fault Refusal :=
  run s (fun s => s.portWrite port (pPrc (eport / 16)) (Reg.Prc.PORT_CFG (eport % 16)) value)

/-- FOLLY_RUN_START (R173): Setting FLY_CTL.RUN starts the Folly program, or refuses it. -/
def execFollyRunStart (port : Port) (eport : Fin 256) (value : Word) (s : State) : Host.Outcome State Fault Refusal :=
  run s (fun s => s.portWrite port (pFly (eport / 16)) (Reg.Fly.FLY_CTL (eport % 16)) (value ||| 1))

/-- FOLLY_RUN_STOP (R174): Clearing RUN, leaving TEST or resetting the page stops the program, and its held frames are
dropped. -/
def execFollyRunStop (port : Port) (eport : Fin 256) (value : Word) (s : State) : Host.Outcome State Fault Refusal :=
  run s (fun s => s.portWrite port (pFly (eport / 16)) (Reg.Fly.FLY_CTL (eport % 16)) (value &&& 0xFFFFFFFE))

/-- FOLLY_REORDER_TIMEOUT (R171): A frame held for reorder is released 1 ms after it was held. -/
def execFollyReorderTimeout (eport : Fin 256) (s : State) : Host.Outcome State Fault Refusal :=
  run s (fun s => s.whenUp (fun s => s.follyReleased eport (s.follyTimeout eport)))

/-- FOLLY_DELAY_RELEASE (R171): A delayed frame is released DELAY ns after it reached the stage, timed by its compare unit. -/
def execFollyDelayRelease (eport : Fin 256) (s : State) : Host.Outcome State Fault Refusal :=
  run s (fun s => s.whenUp (fun s => s.follyReleased eport (s.follyDue eport)))

end Sys2Proof.Machine
end

