-- ==== Sys2Proof/Machine/StreamCommands.lean ====
section
/-!
DEFINITION. Commands of the Parterre (chapter 06): walks, tag checks, subscriptions and publications.
-/
namespace Sys2Proof.Machine

/-- FRAME_WALK (R195): A frame in a parse pipeline is walked against the first matching format slot, and emits records. -/
def execFrameWalk (second : Bool) (dt : Nat) (s : State) : Host.Outcome State Fault Refusal :=
  run s (fun s => s.whenUp (fun s => s.frameWalk second dt))

/-- TAG_CHECK_DONE (R200): The Orangery ends the IEC 62351-6 tag check, and the record is placed or discarded as TAGF or
KEYID. -/
def execTagCheckDone (n : Nat) (dt : Nat) (s : State) : Host.Outcome State Fault Refusal :=
  run s (fun s => s.whenUp (fun s => s.tagDone n dt))

/-- GOOSE_STALE (R213): A GOOSE block reaches its live deadline without a record, and becomes STALE. -/
def execGooseStale (sub : Fin 8192) (s : State) : Host.Outcome State Fault Refusal :=
  run s (fun s => s.whenUp (fun s => s.gooseTimeout sub))

/-- FMT_DATA_HI_WRITE (R198): A write of FMT_DATA_HI stores the addressed format step and advances STEP. -/
def execFmtDataHiWrite (port : Port) (value : Word) (s : State) : Host.Outcome State Fault Refusal :=
  run s (fun s => s.portWrite port pPtr0 Reg.Ptr0.FMT_DATA_HI value)

/-- ID_DATA_HI_WRITE (R225): A write of ID_DATA_HI stores an ID-store unit and advances UNIT. -/
def execIdDataHiWrite (port : Port) (value : Word) (s : State) : Host.Outcome State Fault Refusal :=
  run s (fun s => s.portWrite port pPtr1 Reg.Ptr1.ID_DATA_HI value)

/-- EXC_READ (R224): A read of EXC returns and removes the oldest exception. -/
def execExcRead (port : Port) (goose : Bool) (s : State) : Host.Outcome State Fault Refusal :=
  run s (fun s => s.portRead port (if goose then pPtr2 else pPtr1) (if goose then Reg.Ptr2.EXC else Reg.Ptr1.EXC))

/-- GOOSE_RETRANSMIT (R217): A GOOSE retransmission falls due, and is built with sqNum + 1. -/
def execGooseRetransmit (pub : Fin 1024) (s : State) : Host.Outcome State Fault Refusal :=
  run s (fun s => s.whenUp (fun s => s.gooseRetransmit pub))

/-- SV_FRAME_BUILD (R218): An SV publication frame is built at t(n_last) + PDLY_US, or early when every sample is present. -/
def execSvFrameBuild (pub : Fin 256) (s : State) : Host.Outcome State Fault Refusal :=
  run s (fun s => s.whenUp (fun s => s.svFrameBuild pub))

/-- PUB_FRAME_HANDOVER (R380): A built and tagged publication frame is handed to the Promenade's publication queue. -/
def execPubFrameHandover (dt : Nat) (s : State) : Host.Outcome State Fault Refusal :=
  run s (fun s => s.whenUp (fun s => s.pubHandover dt))

end Sys2Proof.Machine
end

