-- ==== Sys2Proof/Machine/SuppliesCmds.lean ====
section
/-!
DEFINITION. Commands of supplies, clocks, resets and thermal sensors (chapters 02 and 03).
-/
namespace Sys2Proof.Machine

/-- POWER_UP (R41): All supplies reach their operating ranges, and the supply monitors release the internal power-on reset. -/
def execPowerUp (inOrder : Bool) (s : State) : Host.Outcome State Fault Refusal :=
  run s (fun s => s.powerUp inOrder)

/-- SUPPLY_DIP (R44): A supply falls below its brown-out threshold, and new MRAM erases and programs are stopped within 200
ns. -/
def execSupplyDip (x : Supply) (s : State) : Host.Outcome State Fault Refusal :=
  run s (fun s => s.supplyDip x)

/-- SUPPLY_RECOVERY (R44): A supply that dipped recovers within 1 us, MRAM operations resume and no reset follows. -/
def execSupplyRecovery (x : Supply) (s : State) : Host.Outcome State Fault Refusal :=
  run s (fun s => s.supplyRecovery x)

/-- BROWN_OUT_RESET (R44): A supply has stayed below its threshold for 1 us, and a reset with power-on reach records BOR_SRC. -/
def execBrownOutReset (x : Supply) (s : State) : Host.Outcome State Fault Refusal :=
  run s (fun s => s.brownOut x)

/-- VDDIO18_LOSS (R540): VDDIO18 has stayed below 1.50 V for 1 us, which clears all Lodge-held state. -/
def execVddio18Loss (s : State) : Host.Outcome State Fault Refusal :=
  run s (fun s => s.vddio18Loss)

/-- RST_N_LOW (R62): A low pulse on RST_N passes the filter, and starts and holds a device reset with cause PIN. -/
def execRstNLow (s : State) : Host.Outcome State Fault Refusal :=
  run s (fun s => s.rstLow)

/-- RST_N_RELEASE (R64): RST_N goes high, and the held reset is released. -/
def execRstNRelease (s : State) : Host.Outcome State Fault Refusal :=
  run s (fun s => s.rstHigh)

/-- DEVICE_RESET_RELEASE (R64): 20 us after the reset is asserted it is released, and the boot starts. -/
def execDeviceResetRelease (s : State) : Host.Outcome State Fault Refusal :=
  run s (fun s => s.resetTimePassed)

/-- AVS_REQUEST (R39): The device sends an AVSBus setpoint request, at least 1 ms after the previous one. -/
def execAvsRequest (mv : Fin 1024) (s : State) : Host.Outcome State Fault Refusal :=
  run s (fun s => s.whenUp (fun s => s.avsRequest mv))

/-- AVS_NO_ACK (R39): The regulator does not answer, and AVS_ERR is set with VDD_REQ at 800 mV. -/
def execAvsNoAck (s : State) : Host.Outcome State Fault Refusal :=
  run s (fun s => s.whenUp (fun s => s.avsNoAck))

/-- REFCLK_LOSS (R50): The monitor declares REFCLK_A or REFCLK_B lost, and the lanes it serves lose link. -/
def execRefclkLoss (refclkB : Bool) (s : State) : Host.Outcome State Fault Refusal :=
  run s (fun s => s.refclkLoss refclkB)

/-- SYSCLK_LOSS (R50): The Lodge declares SYSCLK lost, asserts ERR_N, sets the safe levels and holds a device reset. -/
def execSysclkLoss (s : State) : Host.Outcome State Fault Refusal :=
  run s (fun s => s.sysclkLoss)

/-- SYSCLK_RECOVERY (R50): After SYSCLK has run 4,096 cycles, the held reset is released. -/
def execSysclkRecovery (s : State) : Host.Outcome State Fault Refusal :=
  run s (fun s => s.sysclkBack)

/-- REF10M_LOSS (R50): REF10M is declared lost, and the Sundial leaves it as holdover source. -/
def execRef10mLoss (s : State) : Host.Outcome State Fault Refusal :=
  run s (fun s => s.ref10mLoss)

/-- TEMP_CONVERSION (R55): The eight sensors are converted every 100 us, which updates TEMP_MAX and THERM_N. -/
def execTempConversion (temps : List Int) (s : State) : Host.Outcome State Fault Refusal :=
  runIf (tempConversionOk temps) s (fun s => s.whenUp (fun s => s.tempConversion temps))

/-- REF10M_RECOVERY (R90): REF10M is present again after its loss, so it is once more available as the holdover source. -/
def execRef10mRecovery (s : State) : Host.Outcome State Fault Refusal :=
  run s (fun s => s.ref10mBack)

/-- VBAT_LOSS (R47): VBAT falls below 2.2 V while it is the only supply, and the battery-backed well no longer holds its
contents. -/
def execVbatLoss (s : State) : Host.Outcome State Fault Refusal :=
  run s (fun s => s.vbatLoss)

/-- CD_VIO_OUT_OF_RANGE (R60): CD_VIO leaves the range selected by CD_VSEL while the slot is powered, setting SYS FLT_STA
bit [5] and PWR_STA.CD_VIO_OK. -/
def execCdVioOutOfRange (s : State) : Host.Outcome State Fault Refusal :=
  run s (fun s => s.whenUp (fun s => s.cdVioOut))

end Sys2Proof.Machine
end

