-- ==== Sys2Proof/Machine/TagCommands.lean ====
section
/-!
DEFINITION. Commands of the Kiosk (chapter 17).
-/
namespace Sys2Proof.Machine

/-- FIELD_APPEAR (R479): A reader field appears, KFD rises and the tag enters IDLE. -/
def execFieldAppear (strong : Bool) (s : State) : Host.Outcome State Fault Refusal :=
  run s (fun s => s.fieldArrives strong)

/-- FIELD_COLLAPSE (R478): The field collapses, resetting the protocol controller to POWER_OFF. -/
def execFieldCollapse (s : State) : Host.Outcome State Fault Refusal :=
  run s (fun s => s.fieldCollapse)

/-- REQA (R481): REQA moves an IDLE tag to READY. -/
def execReqa (s : State) : Host.Outcome State Fault Refusal :=
  run s (fun s => s.tagRequest false)

/-- WUPA (R481): WUPA moves an IDLE or HALT tag to READY. -/
def execWupa (s : State) : Host.Outcome State Fault Refusal :=
  run s (fun s => s.tagRequest true)

/-- ANTICOLLISION (R484): A READY tag whose UID matches the NVB bits answers the remaining bits and BCC. -/
def execAnticollision (level : Fin 3) (k : Fin 40) (uid : List Byte) (s : State) : Host.Outcome State Fault Refusal :=
  runIf (anticollisionOk level uid) s (fun s => s.tagAnticollision level k uid)

/-- SELECT (R481): SELECT with the full UID answers the SAK, and at level 2 enters ACTIVE. -/
def execSelect (level : Fin 3) (uid : List Byte) (crcOk : Bool) (s : State) : Host.Outcome State Fault Refusal :=
  runIf (selectOk level uid) s (fun s => s.tagSelect level uid crcOk)

/-- HLTA (R481): HLTA sends the tag to HALT. -/
def execHlta (crcOk : Bool) (mac : List Byte) (s : State) : Host.Outcome State Fault Refusal :=
  run s (fun s => s.tagHalt crcOk mac)

/-- INVALID_TAG_FRAME (R481): A frame not valid in the state sends the tag to IDLE or HALT without an answer. -/
def execInvalidTagFrame (s : State) : Host.Outcome State Fault Refusal :=
  run s (fun s => s.tagStray)

/-- INV_BEGIN (R482): INV_BEGIN draws a handle and slot and starts an inventory round. -/
def execInvBegin (haltToo : Bool) (crcOk : Bool) (s : State) : Host.Outcome State Fault Refusal :=
  run s (fun s => s.invBegin haltToo crcOk)

/-- INV_NEXT (R482): INV_NEXT advances the slot counter, and the tag answers in its slot. -/
def execInvNext (crcOk : Bool) (s : State) : Host.Outcome State Fault Refusal :=
  run s (fun s => s.invNext crcOk)

/-- INV_ACK (R482): INV_ACK with the tag's handle returns its UID and moves it to READY. -/
def execInvAck (handle : Fin 65536) (crcOk : Bool) (s : State) : Host.Outcome State Fault Refusal :=
  run s (fun s => s.invAck handle crcOk)

/-- INV_TREE (R482): INV_TREE moves the tags of the slot to READY without answering. -/
def execInvTree (crcOk : Bool) (s : State) : Host.Outcome State Fault Refusal :=
  run s (fun s => s.invTree crcOk)

/-- READ_REC (R485): The tag command READ_REC returns 16 octets of the newer valid copy of a record. -/
def execReadRec (rec_ : Fin 256) (ofs : Fin 256) (crcOk : Bool) (mac : List Byte) (s : State) : Host.Outcome State Fault Refusal :=
  run s (fun s => s.tagReadRec rec_ ofs crcOk mac)

/-- NOTE_STAGE (R485): NOTE_STAGE stores 16 octets of a note in the staging buffer. -/
def execNoteStage (ofs : Fin 256) (data : List Byte) (crcOk : Bool) (mac : List Byte) (s : State) : Host.Outcome State Fault Refusal :=
  runIf (noteStageOk data) s (fun s => s.noteStage ofs data crcOk mac)

/-- NOTE_COMMIT (R491): NOTE_COMMIT writes the staged note by the two-copy commit. -/
def execNoteCommit (seq : Fin 65536) (cut : Option Nat) (crcOk : Bool) (mac : List Byte) (s : State) : Host.Outcome State Fault Refusal :=
  run s (fun s => s.noteCommit seq cut crcOk mac)

/-- PWD_AUTH (R486): PWD_AUTH checks the password and enters SECURED_PWD, or counts a failure. -/
def execPwdAuth (pwd : List Byte) (crcOk : Bool) (mac : List Byte) (s : State) : Host.Outcome State Fault Refusal :=
  runIf (pwdAuthOk pwd) s (fun s => s.pwdAuth pwd crcOk mac)

/-- PWD_HOLDOFF_EXPIRY (R486): 100 ms after a password failure, comparisons resume. -/
def execPwdHoldoffExpiry (s : State) : Host.Outcome State Fault Refusal :=
  run s (fun s => s.pwdHoldoffEnd)

/-- AUTH_1 (R487): AUTH_1 draws and returns the nonce NB. -/
def execAuth1 (keyNo : Fin 256) (crcOk : Bool) (mac : List Byte) (s : State) : Host.Outcome State Fault Refusal :=
  run s (fun s => s.auth1 keyNo crcOk mac)

/-- AUTH_2 (R487): AUTH_2 checks TR, answers TT and enters SECURED_AES. -/
def execAuth2 (na : List Byte) (tr : List Byte) (crcOk : Bool) (mac : List Byte) (s : State) : Host.Outcome State Fault Refusal :=
  runIf (auth2Ok na tr) s (fun s => s.auth2 na tr crcOk mac)

/-- REG_RD (R489): REG_RD reads a register word as the KIOSK port. -/
def execRegRd (addr : Word) (crcOk : Bool) (mac : List Byte) (s : State) : Host.Outcome State Fault Refusal :=
  run s (fun s => s.tagRegRead addr.toNat crcOk mac)

/-- REG_WR (R489): REG_WR writes a register word, or a pair, as the KIOSK port. -/
def execRegWr (pair : Bool) (addr : Word) (value : Word) (crcOk : Bool) (mac : List Byte) (s : State) : Host.Outcome State Fault Refusal :=
  run s (fun s => s.tagRegWrite pair addr.toNat value crcOk mac)

/-- KSK_READ_REC (R493): KSK_CMD READ_REC copies the newer valid copy of a record to KSK_DATA. -/
def execKskReadRec (port : Port) (rec_ : Fin 8) (s : State) : Host.Outcome State Fault Refusal :=
  run s (fun s => s.portWrite port pKsk Reg.Ksk.KSK_CMD (kskWord 1 rec_ 0))

/-- KSK_WRITE_REC (R491): KSK_CMD WRITE_REC writes a record by the two-copy commit. -/
def execKskWriteRec (port : Port) (rec_ : Fin 8) (s : State) : Host.Outcome State Fault Refusal :=
  run s (fun s => s.portWrite port pKsk Reg.Ksk.KSK_CMD (kskWord 2 rec_ 0))

/-- KEY_FROM_SLOT (R493): KSK_CMD KEY_FROM_SLOT copies an Orangery CUR key into K. -/
def execKeyFromSlot (port : Port) (slot : Fin 8192) (s : State) : Host.Outcome State Fault Refusal :=
  run s (fun s => s.portWrite port pKsk Reg.Ksk.KSK_CMD (kskWord 3 0 slot))

/-- KEY_CLEAR (R493): KSK_CMD KEY_CLEAR clears K. -/
def execKeyClear (port : Port) (s : State) : Host.Outcome State Fault Refusal :=
  run s (fun s => s.portWrite port pKsk Reg.Ksk.KSK_CMD (kskWord 4 0 0))

/-- PWD_SET (R493): KSK_CMD PWD_SET sets the password and lifts a block. -/
def execPwdSet (port : Port) (s : State) : Host.Outcome State Fault Refusal :=
  run s (fun s => s.portWrite port pKsk Reg.Ksk.KSK_CMD (kskWord 5 0 0))

/-- PWD_UNBLOCK (R493): KSK_CMD PWD_UNBLOCK lifts a block and resets the failure count. -/
def execPwdUnblock (port : Port) (s : State) : Host.Outcome State Fault Refusal :=
  run s (fun s => s.portWrite port pKsk Reg.Ksk.KSK_CMD (kskWord 6 0 0))

end Sys2Proof.Machine
end

