-- ==== Sys2Proof/Machine/TestCommands.lean ====
section
/-!
DEFINITION. Commands of the self-test (chapter 19).
-/
namespace Sys2Proof.Machine

/-- LANE_NEAR (R524): BST test LANE_NEAR runs near-end PRBS31 loopback on an idle lane. -/
def execLaneNear (port : Port) (s : State) : Host.Outcome State Fault Refusal :=
  run s (fun s => s.portWrite port pBst Reg.Bst.BST_CMD 0xB501)

/-- LANE_FAR (R524): BST test LANE_FAR runs far-end loopback on an idle lane. -/
def execLaneFar (port : Port) (s : State) : Host.Outcome State Fault Refusal :=
  run s (fun s => s.portWrite port pBst Reg.Bst.BST_CMD 0xB502)

/-- CLN_NEAR (R524): BST test CLN_NEAR loops a Colonnade lane. -/
def execClnNear (port : Port) (s : State) : Host.Outcome State Fault Refusal :=
  run s (fun s => s.portWrite port pBst Reg.Bst.BST_CMD 0xB503)

/-- KSK_LOOP (R527): BST test KSK_LOOP demodulates internal Type A frames. -/
def execKskLoop (port : Port) (s : State) : Host.Outcome State Fault Refusal :=
  run s (fun s => s.portWrite port pBst Reg.Bst.BST_CMD 0xB504)

/-- REF_SUPPLY (R524): BST test REF_SUPPLY checks the supply monitor thresholds. -/
def execRefSupply (port : Port) (s : State) : Host.Outcome State Fault Refusal :=
  run s (fun s => s.portWrite port pBst Reg.Bst.BST_CMD 0xB505)

/-- REF_TEMP (R524): BST test REF_TEMP checks the sensors against their median. -/
def execRefTemp (port : Port) (s : State) : Host.Outcome State Fault Refusal :=
  run s (fun s => s.portWrite port pBst Reg.Bst.BST_CMD 0xB506)

/-- REF_HEDGE (R526): BST test REF_HEDGE stimulates the selected detectors one at a time. -/
def execRefHedge (port : Port) (s : State) : Host.Outcome State Fault Refusal :=
  run s (fun s => s.portWrite port pBst Reg.Bst.BST_CMD 0xB507)

/-- LBIST (R528): BST test LBIST runs scan patterns on an idle target and compares the MISR. -/
def execLbist (port : Port) (s : State) : Host.Outcome State Fault Refusal :=
  run s (fun s => s.portWrite port pBst Reg.Bst.BST_CMD 0xB508)

/-- BST_TEST_COMPLETE (R530): A test ends, its target state is restored and BST_RES is written. -/
def execBstTestComplete (outcome : TestOutcome) (s : State) : Host.Outcome State Fault Refusal :=
  run s (fun s => s.whenUp (fun s => s.bstComplete outcome))

end Sys2Proof.Machine
end

