-- ==== Sys2Proof/Machine/TimeEventsCmds.lean ====
section
/-!
DEFINITION. Commands of the Sundial (chapter 04): time sources, slots, compare units and its reads.
-/
namespace Sys2Proof.Machine

/-- PTP_MESSAGE_RECEIVED (R91): A received PTP message updates the clock servo, the BMCA and the port state, or is dropped
as unsupported. -/
def execPtpMessageReceived (eport : Fin 256) (domain : Fin 256) (m : PtpMsg) (s : State) : Host.Outcome State Fault Refusal :=
  run s (fun s => s.whenUp (fun s => s.ptpMessage eport domain m))

/-- PTP_MESSAGE_TRANSMIT (R91): At each interval the device sends Announce, Sync or Pdelay_Req on its PTP ports. -/
def execPtpMessageTransmit (eport : Fin 256) (kind : Fin 3) (s : State) : Host.Outcome State Fault Refusal :=
  run s (fun s => s.whenUp (fun s => s.ptpTransmit eport kind))

/-- PTP_SOURCE_TIMEOUT (R90): The announce receipt timeout or 3 s without Sync loses the PTP source. -/
def execPtpSourceTimeout (announce : Bool) (s : State) : Host.Outcome State Fault Refusal :=
  run s (fun s => s.whenUp (fun s => s.ptpTimeout announce))

/-- PPS_EDGE (R89): A PPS_IN or PPS_IN2 rising edge is sampled for qualification and discipline. -/
def execPpsEdge (second : Bool) (s : State) : Host.Outcome State Fault Refusal :=
  run s (fun s => s.whenUp (fun s => s.ppsEdge (ppsSrc second)))

/-- IRIG_FRAME (R94): An IRIG-B frame is decoded and checked, then matched to its PPS edge. -/
def execIrigFrame (second : Bool) (frame : IrigFrame) (s : State) : Host.Outcome State Fault Refusal :=
  run s (fun s => s.whenUp (fun s => s.irigFrame (ppsSrc second) frame))

/-- PPS_LOSS (R90): No PPS edge has come for 2 s, and the PPS/IRIG source is lost. -/
def execPpsLoss (second : Bool) (s : State) : Host.Outcome State Fault Refusal :=
  run s (fun s => s.whenUp (fun s => s.ppsLoss (ppsSrc second)))

/-- HOLD_EXPIRED (R90): HOLDOVER has lasted MAX_S seconds, and station time enters HOLD_EXPIRED. -/
def execHoldExpired (s : State) : Host.Outcome State Fault Refusal :=
  run s (fun s => s.whenUp (fun s => s.holdExpire))

/-- SET_CMD (R97): A write of 0x71E5 to SET_CMD loads station time at the next 1 us tick, or is refused. -/
def execSetCmd (port : Port) (s : State) : Host.Outcome State Fault Refusal :=
  run s (fun s => s.portWrite port pSdl Reg.Sdl.SET_CMD 0x71E5)

/-- PPS_OUT_RISE (R95): PPS_OUT rises at every whole TAI second of station time. -/
def execPpsOutRise (s : State) : Host.Outcome State Fault Refusal :=
  run s (fun s => s.whenUp (fun s => s.ppsRise))

/-- PPS_OUT_FALL (R95): PPS_OUT falls after PPS_W milliseconds. -/
def execPpsOutFall (s : State) : Host.Outcome State Fault Refusal :=
  run s (fun s => s.whenUp (fun s => s.ppsFall))

/-- SUNDIAL_ENABLE (R542): Enabling the Sundial sets the angle to 0 in FREE, starts ACQUIRE and starts the first slot. -/
def execSundialEnable (port : Port) (s : State) : Host.Outcome State Fault Refusal :=
  run s (fun s => s.portWrite port pSdl Reg.Hdr.CTL 1)

/-- SUNDIAL_DISABLE (R542): Disabling the Sundial stops the angle and sends the reference channels to IDLE. -/
def execSundialDisable (port : Port) (s : State) : Host.Outcome State Fault Refusal :=
  run s (fun s => s.portWrite port pSdl Reg.Hdr.CTL 0)

/-- REF_SAMPLE_TIMEOUT (R103): A locked reference channel has had no sample for 2 ms, and goes LOST. -/
def execRefSampleTimeout (second : Bool) (s : State) : Host.Outcome State Fault Refusal :=
  run s (fun s => s.whenUp (fun s => s.refTimeout second))

/-- SLOT_START (R108): The Sundial starts slot k: SLOT_CNT increments, budget windows restart, heads and GOOSE copies are
fixed, and keys swap and expire. -/
def execSlotStart (ref10m : Int) (sysclk : Int) (s : State) : Host.Outcome State Fault Refusal :=
  run s (fun s => s.whenUp (fun s => s.slotStart ref10m sysclk))

/-- SLOT_INPUT_FIX (R377): At C_k + 5 us, a twin exchanging digests fixes H_k, the MISS flags and the GOOSE slot copies from
agreed instants. -/
def execSlotInputFix (s : State) : Host.Outcome State Fault Refusal :=
  run s (fun s => s.whenUp (fun s => s.lateInputs))

/-- BUDGET_WINDOW_RESTART (R230): Each time L_min has passed since the last restart within a slot, the ingest, crypto and
background budgets restart. -/
def execBudgetWindowRestart (s : State) : Host.Outcome State Fault Refusal :=
  run s (fun s => s.whenUp (fun s => s.windowRestart.cardResume))

/-- CMP_ARM (R114): A CMPn_ACT write with ARM_CANCEL = 1 arms unit n, or is refused as AOUT_LATE or AOUT_BUSY. -/
def execCmpArm (port : Port) (unit : Fin 64) (value : Word) (s : State) : Host.Outcome State Fault Refusal :=
  run s (fun s => s.portWrite port pSdl (Reg.Sdl.CMP_ACT unit) (value ||| 0x80000000))

/-- CMP_CANCEL (R140): A CMPn_ACT write with ARM_CANCEL = 1 while the unit is armed cancels its action. -/
def execCmpCancel (port : Port) (unit : Fin 64) (value : Word) (s : State) : Host.Outcome State Fault Refusal :=
  run s (fun s => s.portWrite port pSdl (Reg.Sdl.CMP_ACT unit) (value ||| 0x80000000))

/-- CMP_RECONVERSION (R115): 20 us before the predicted instant, an angle target is converted to station time again. -/
def execCmpReconversion (unit : Fin 64) (s : State) : Host.Outcome State Fault Refusal :=
  run s (fun s => s.whenUp (fun s => s.reconvert unit))

/-- CMP_FIRST_EDGE (R116): An armed compare unit reaches its target and drives the ball to its level. -/
def execCmpFirstEdge (unit : Fin 64) (s : State) : Host.Outcome State Fault Refusal :=
  run s (fun s => s.whenUp (fun s => s.firstEdge unit))

/-- CMP_RETURN_EDGE (R116): PULSE us after the first edge, the ball returns to its prior level and the unit becomes free. -/
def execCmpReturnEdge (unit : Fin 64) (s : State) : Host.Outcome State Fault Refusal :=
  run s (fun s => s.whenUp (fun s => s.returnEdge unit))

/-- TIME_S_LO_READ (R125): A read of TIME_S_LO latches station time into the three time registers. -/
def execTimeSLoRead (port : Port) (s : State) : Host.Outcome State Fault Refusal :=
  run s (fun s => s.portRead port pSdl Reg.Sdl.TIME_S_LO)

/-- ANGLE_READ (R133): A read of ANGLE latches ANGLE, CYCLE and ANG_T_NS. -/
def execAngleRead (port : Port) (s : State) : Host.Outcome State Fault Refusal :=
  run s (fun s => s.portRead port pSdl Reg.Sdl.ANGLE)

/-- SDL_EVT_READ (R138): A read of EVT returns and removes the oldest Sundial event. -/
def execSdlEvtRead (port : Port) (s : State) : Host.Outcome State Fault Refusal :=
  run s (fun s => s.portRead port pSdl Reg.Sdl.EVT)

end Sys2Proof.Machine
end

