-- ==== Sys2Proof/Machine/TwinCommands.lean ====
section
/-!
DEFINITION. Commands of the Colonnade (chapter 12).
-/
namespace Sys2Proof.Machine

/-- CLN_ENABLE (R367): PAIR_EN with a CLN CTL.EN write starts the Colonnade enable check, which sends the twin to WAIT or
refuses. -/
def execClnEnable (port : Port) (s : State) : Host.Outcome State Fault Refusal :=
  run s (fun s => s.portWrite port pCln Reg.Hdr.CTL 1)

/-- PEER_HEARTBEAT_SEEN (R369): A peer heartbeat appears on a side, and starts attach as joiner or donor. -/
def execPeerHeartbeatSeen (side : Fin 2) (peer : PeerState) (delay : Nat) (s : State) : Host.Outcome State Fault Refusal :=
  run s (fun s => s.whenUp (fun s => s.heartbeat side peer delay))

/-- WAIT_TIMEOUT (R369): WAIT_MS passes with no peer heartbeat, and the twin goes SOLO. -/
def execWaitTimeout (s : State) : Host.Outcome State Fault Refusal :=
  run s (fun s => s.whenUp (fun s => s.waitTimeout))

/-- ATTACH_RETRY (R369): 1 s after a refused attach, it is retried. -/
def execAttachRetry (s : State) : Host.Outcome State Fault Refusal :=
  run s (fun s => s.whenUp (fun s => s.attachRetry))

/-- ATTACH_MESSAGE_RECEIVED (R370): An attach message with a certificate, ephemeral key, nonce or attestation arrives and is
checked. -/
def execAttachMessageReceived (m : AttachMsg) (s : State) : Host.Outcome State Fault Refusal :=
  run s (fun s => s.whenUp (fun s => s.attachMessage m))

/-- STATE_TRANSFER_RECEIVED (R372): The joiner applies a bulk or delta unit of state sent by the donor. -/
def execStateTransferReceived (item : XferItem) (s : State) : Host.Outcome State Fault Refusal :=
  runIf (stateTransferReceivedOk item) s (fun s => s.whenUp (fun s => s.stateTransfer item))

/-- DIGEST_RECORD_RECEIVED (R374): A peer digest record is matched to a locally placed frame, and the agreed values are
applied. -/
def execDigestRecordReceived (d : PeerDigest) (s : State) : Host.Outcome State Fault Refusal :=
  runIf (digestRecordReceivedOk d) s (fun s => s.whenUp (fun s => s.digestReceived d))

/-- FORWARD_TIMEOUT (R375): 2 us after its own record with no match, a twin forwards the whole frame. -/
def execForwardTimeout (s : State) : Host.Outcome State Fault Refusal :=
  run s (fun s => s.whenUp (fun s => s.forwardTimeout))

/-- FORWARDED_FRAME_RECEIVED (R375): A forwarded frame is walked and placed under the sender's agreed values. -/
def execForwardedFrameReceived (frame : FwdFrame) (s : State) : Host.Outcome State Fault Refusal :=
  runIf (forwardedFrameReceivedOk frame) s (fun s => s.whenUp (fun s => s.forwarded frame))

/-- SLOT_RECORD_RECEIVED (R378): The peer's slot record arrives for comparison. -/
def execSlotRecordReceived (rec_ : List Word) (roles : Fin 32) (handed : Fin 32) (leaving : Bool) (ofs : Int) (s : State) : Host.Outcome State Fault Refusal :=
  runIf (slotRecordReceivedOk rec_) s (fun s => s.whenUp (fun s => s.slotRecord rec_ roles handed leaving ofs))

/-- SLOT_RECORD_SPLIT (R378): At C_k + 2 us the records differ, so both twins use the leader's record and the follower
adopts its count. -/
def execSlotRecordSplit (s : State) : Host.Outcome State Fault Refusal :=
  run s (fun s => s.whenUp (fun s => s.recordSplit))

/-- SEQUENCE_CHECK_RECEIVED (R379): The peer's counter check arrives, and a mismatch makes both twins take the LEAD counters. -/
def execSequenceCheckReceived (counters : List (Nat × Nat × Nat)) (s : State) : Host.Outcome State Fault Refusal :=
  runIf (sequenceCheckReceivedOk counters) s (fun s => s.whenUp (fun s => s.sequenceCheck counters))

/-- TIME_OFFSET_ALARM (R378): The offset from the time leader has exceeded 200 ns for 1 ms. -/
def execTimeOffsetAlarm (ofs : Int) (s : State) : Host.Outcome State Fault Refusal :=
  run s (fun s => s.whenUp (fun s => s.timeAlarm ofs))

/-- SIDE_LOSS (R382): No heartbeat has come on a side for 1 us, or a lane lost link, and traffic moves to the other side. -/
def execSideLoss (side : Fin 2) (s : State) : Host.Outcome State Fault Refusal :=
  run s (fun s => s.whenUp (fun s => s.sideLoss side))

/-- PEER_LOSS (R383): No heartbeat has come on either side for 1 us, and the survivor takes the roles or withdraws. -/
def execPeerLoss (us : Nat) (s : State) : Host.Outcome State Fault Refusal :=
  run s (fun s => s.whenUp (fun s => s.peerLoss us))

/-- ATTACH (R369): CLN_CMD ATTACH retries an attach at once. -/
def execAttach (port : Port) (s : State) : Host.Outcome State Fault Refusal :=
  run s (fun s => s.portWrite port pCln Reg.Cln.CLN_CMD 1)

/-- DETACH (R384): CLN_CMD DETACH hands the roles over at the next slot start and goes OFF. -/
def execDetach (port : Port) (s : State) : Host.Outcome State Fault Refusal :=
  run s (fun s => s.portWrite port pCln Reg.Cln.CLN_CMD 2)

/-- HAND_ROLES (R384): CLN_CMD HAND_ROLES moves every role to the peer at the next slot start. -/
def execHandRoles (port : Port) (s : State) : Host.Outcome State Fault Refusal :=
  run s (fun s => s.portWrite port pCln Reg.Cln.CLN_CMD 3)

/-- KEYSYNC (R385): CLN_CMD KEYSYNC copies every slot position of the KEY holder to the peer. -/
def execKeysync (port : Port) (s : State) : Host.Outcome State Fault Refusal :=
  run s (fun s => s.portWrite port pCln Reg.Cln.CLN_CMD 4)

/-- KEY_REPLICATION_RECEIVED (R385): A key command or wrapped slot position from the peer is applied. -/
def execKeyReplicationReceived (m : KeyMsg) (s : State) : Host.Outcome State Fault Refusal :=
  runIf (keyReplicationReceivedOk m) s (fun s => s.whenUp (fun s => s.keyMessage m))

/-- ZEROISE_PROPAGATION_RECEIVED (R386): A propagated zeroise from the peer is performed within 1 us. -/
def execZeroisePropagationReceived (s : State) : Host.Outcome State Fault Refusal :=
  run s (fun s => s.whenUp (fun s => s.peerZeroise))

/-- CERT_ADDR_WRITE (R388): A write of CERT_ADDR starts the verification of the certificate. -/
def execCertAddrWrite (port : Port) (value : Word) (s : State) : Host.Outcome State Fault Refusal :=
  run s (fun s => s.portWrite port pCln Reg.Cln.CERT_ADDR value)

/-- CERT_VERIFY_COMPLETE (R388): Certificate verification ends within 5 ms and sets or clears ESTATE.VALID. -/
def execCertVerifyComplete (s : State) : Host.Outcome State Fault Refusal :=
  run s (fun s => s.whenUp (fun s => s.certDone))

/-- TAKE_LOG_READ (R390): A read of TAKE_LOG removes the oldest entry. -/
def execTakeLogRead (port : Port) (s : State) : Host.Outcome State Fault Refusal :=
  run s (fun s => s.portRead port pCln Reg.Cln.TAKE_LOG)

/-- SIDE_RECOVERY (R382): A lost Colonnade side regains link and the peer heartbeat, and it is back in use for traffic sent
on both sides and for transit. -/
def execSideRecovery (side : Fin 2) (s : State) : Host.Outcome State Fault Refusal :=
  run s (fun s => s.whenUp (fun s => s.sideRecovery side))

end Sys2Proof.Machine
end

