-- ==== Sys2Proof/Machine/WindowCommands.lean ====
section
/-!
DEFINITION. The operations of the load and store units of Ndear-P (R272, R298 to R309).
-/
namespace Sys2Proof.Machine

/-- WIN_LW (R300): Window load of a sample value and its flag word, or the slot head. -/
def execWinLw (unit : Fin 2) (o : Word) (d : Word) (t : Word) (s : State) : Host.Outcome State Fault Refusal :=
  run s (fun s => s.whenUp (fun s => s.unitOp .pav [(lsPort unit, o), (lsPort unit + 1, d)] (lsPort unit + 0x02) t))

/-- WIN_LC (R299): Load of a context program word. -/
def execWinLc (unit : Fin 2) (o : Word) (d : Word) (t : Word) (s : State) : Host.Outcome State Fault Refusal :=
  run s (fun s => s.whenUp (fun s => s.unitOp .pav [(lsPort unit, o), (lsPort unit + 1, d)] (lsPort unit + 0x03) t))

/-- WIN_LT (R307): Load of a constant or slot-record word. -/
def execWinLt (unit : Fin 2) (o : Word) (d : Word) (t : Word) (s : State) : Host.Outcome State Fault Refusal :=
  run s (fun s => s.whenUp (fun s => s.unitOp .pav [(lsPort unit, o), (lsPort unit + 1, d)] (lsPort unit + 0x04) t))

/-- WIN_LG (R301): Load of a GOOSE member and its block status from the slot copy. -/
def execWinLg (unit : Fin 2) (o : Word) (d : Word) (t : Word) (s : State) : Host.Outcome State Fault Refusal :=
  run s (fun s => s.whenUp (fun s => s.unitOp .pav [(lsPort unit, o), (lsPort unit + 1, d)] (lsPort unit + 0x05) t))

/-- WIN_LO (R302): Load of an output word and its stale mark. -/
def execWinLo (unit : Fin 2) (o : Word) (d : Word) (t : Word) (s : State) : Host.Outcome State Fault Refusal :=
  run s (fun s => s.whenUp (fun s => s.unitOp .pav [(lsPort unit, o), (lsPort unit + 1, d)] (lsPort unit + 0x06) t))

/-- WIN_CRV (R308): Piecewise-linear curve evaluation. -/
def execWinCrv (unit : Fin 2) (o : Word) (d : Word) (t : Word) (s : State) : Host.Outcome State Fault Refusal :=
  run s (fun s => s.whenUp (fun s => s.unitOp .pav [(lsPort unit, o), (lsPort unit + 1, d)] (lsPort unit + 0x07) t))

/-- WIN_FSM (R309): State-machine step giving next state and action. -/
def execWinFsm (unit : Fin 2) (o : Word) (d : Word) (t : Word) (s : State) : Host.Outcome State Fault Refusal :=
  run s (fun s => s.whenUp (fun s => s.unitOp .pav [(lsPort unit, o), (lsPort unit + 1, d)] (lsPort unit + 0x08) t))

/-- WIN_SC (R299): Store of a context program word. -/
def execWinSc (unit : Fin 2) (o : Word) (d : Word) (t : Word) (s : State) : Host.Outcome State Fault Refusal :=
  run s (fun s => s.whenUp (fun s => s.unitOp .pav [(lsPort unit, o), (lsPort unit + 1, d)] (lsPort unit + 0x09) t))

/-- WIN_SO (R302): Store of an output word to the run buffer. -/
def execWinSo (unit : Fin 2) (o : Word) (d : Word) (t : Word) (s : State) : Host.Outcome State Fault Refusal :=
  run s (fun s => s.whenUp (fun s => s.unitOp .pav [(lsPort unit, o), (lsPort unit + 1, d)] (lsPort unit + 0x0A) t))

/-- WIN_SS (R304): Store of an SV OUTPUT sample to the run buffer. -/
def execWinSs (unit : Fin 2) (o : Word) (d : Word) (t : Word) (s : State) : Host.Outcome State Fault Refusal :=
  run s (fun s => s.whenUp (fun s => s.unitOp .pav [(lsPort unit, o), (lsPort unit + 1, d)] (lsPort unit + 0x0B) t))

/-- WIN_SQ (R304): Store of an SV OUTPUT quality word. -/
def execWinSq (unit : Fin 2) (o : Word) (d : Word) (t : Word) (s : State) : Host.Outcome State Fault Refusal :=
  run s (fun s => s.whenUp (fun s => s.unitOp .pav [(lsPort unit, o), (lsPort unit + 1, d)] (lsPort unit + 0x0C) t))

/-- WIN_SA (R305): Records an AOUT request for release at completion. -/
def execWinSa (unit : Fin 2) (o : Word) (d : Word) (t : Word) (s : State) : Host.Outcome State Fault Refusal :=
  run s (fun s => s.whenUp (fun s => s.unitOp .pav [(lsPort unit, o), (lsPort unit + 1, d)] (lsPort unit + 0x0D) t))

/-- WIN_SE (R306): Creates an event word, which may trigger a capture. -/
def execWinSe (unit : Fin 2) (o : Word) (d : Word) (t : Word) (s : State) : Host.Outcome State Fault Refusal :=
  run s (fun s => s.whenUp (fun s => s.unitOp .pav [(lsPort unit, o), (lsPort unit + 1, d)] (lsPort unit + 0x0E) t))

end Sys2Proof.Machine
end

