-- ==== Sys2Proof/Machine/Dispatch.lean ====
section
/-!
DEFINITION. The meaning of each command.
-/
namespace Sys2Proof.Machine

def exec (i : Instr) (s : State) : Host.Outcome State Fault Refusal :=
  match i with
  | .registerWrite port addr value => Sys2Proof.Machine.execRegisterWrite port addr value s
  | .malformedAccess port addr read => Sys2Proof.Machine.execMalformedAccess port addr read s
  | .blockEnable port page => Sys2Proof.Machine.execBlockEnable port page s
  | .blockReset port page => Sys2Proof.Machine.execBlockReset port page s
  | .blockResetComplete page => Sys2Proof.Machine.execBlockResetComplete page s
  | .claimWrite port page value => Sys2Proof.Machine.execClaimWrite port page value s
  | .lockWrite port page => Sys2Proof.Machine.execLockWrite port page s
  | .shadowPrimaryWrite port page offset value => Sys2Proof.Machine.execShadowPrimaryWrite port page offset value s
  | .shadowInverseWrite port page offset value => Sys2Proof.Machine.execShadowInverseWrite port page offset value s
  | .shadowWindowExpiry page => Sys2Proof.Machine.execShadowWindowExpiry page s
  | .shadowMismatch page offset => Sys2Proof.Machine.execShadowMismatch page offset s
  | .prfWrite port value => Sys2Proof.Machine.execPrfWrite port value s
  | .powerUp inOrder => Sys2Proof.Machine.execPowerUp inOrder s
  | .supplyDip x => Sys2Proof.Machine.execSupplyDip x s
  | .supplyRecovery x => Sys2Proof.Machine.execSupplyRecovery x s
  | .brownOutReset x => Sys2Proof.Machine.execBrownOutReset x s
  | .vddio18Loss => Sys2Proof.Machine.execVddio18Loss s
  | .rstNLow => Sys2Proof.Machine.execRstNLow s
  | .rstNRelease => Sys2Proof.Machine.execRstNRelease s
  | .deviceResetRelease => Sys2Proof.Machine.execDeviceResetRelease s
  | .bootSequence sel twinB ftnOk avsOk dt => Sys2Proof.Machine.execBootSequence sel twinB ftnOk avsOk dt s
  | .bootSourcePoll dt => Sys2Proof.Machine.execBootSourcePoll dt s
  | .bootDoorbell port value => Sys2Proof.Machine.execBootDoorbell port value s
  | .avsRequest mv => Sys2Proof.Machine.execAvsRequest mv s
  | .avsNoAck => Sys2Proof.Machine.execAvsNoAck s
  | .refclkLoss refclkB => Sys2Proof.Machine.execRefclkLoss refclkB s
  | .sysclkLoss => Sys2Proof.Machine.execSysclkLoss s
  | .sysclkRecovery => Sys2Proof.Machine.execSysclkRecovery s
  | .ref10mLoss => Sys2Proof.Machine.execRef10mLoss s
  | .tempConversion temps => Sys2Proof.Machine.execTempConversion temps s
  | .rstReqWrite port => Sys2Proof.Machine.execRstReqWrite port s
  | .zrqWrite port => Sys2Proof.Machine.execZrqWrite port s
  | .wdgKick port => Sys2Proof.Machine.execWdgKick port s
  | .wdgPreTimeout => Sys2Proof.Machine.execWdgPreTimeout s
  | .watchdogExpiry => Sys2Proof.Machine.execWatchdogExpiry s
  | .livenessLoss x => Sys2Proof.Machine.execLivenessLoss x s
  | .pkgCmdWrite port => Sys2Proof.Machine.execPkgCmdWrite port s
  | .pkgAcceptComplete => Sys2Proof.Machine.execPkgAcceptComplete s
  | .ptpMessageReceived eport domain m => Sys2Proof.Machine.execPtpMessageReceived eport domain m s
  | .ptpMessageTransmit eport kind => Sys2Proof.Machine.execPtpMessageTransmit eport kind s
  | .ptpSourceTimeout announce => Sys2Proof.Machine.execPtpSourceTimeout announce s
  | .ppsEdge second => Sys2Proof.Machine.execPpsEdge second s
  | .irigFrame second frame => Sys2Proof.Machine.execIrigFrame second frame s
  | .ppsLoss second => Sys2Proof.Machine.execPpsLoss second s
  | .holdExpired => Sys2Proof.Machine.execHoldExpired s
  | .setCmd port => Sys2Proof.Machine.execSetCmd port s
  | .ppsOutRise => Sys2Proof.Machine.execPpsOutRise s
  | .ppsOutFall => Sys2Proof.Machine.execPpsOutFall s
  | .sundialEnable port => Sys2Proof.Machine.execSundialEnable port s
  | .sundialDisable port => Sys2Proof.Machine.execSundialDisable port s
  | .refSampleTimeout second => Sys2Proof.Machine.execRefSampleTimeout second s
  | .slotStart ref10m sysclk => Sys2Proof.Machine.execSlotStart ref10m sysclk s
  | .swapTimer at_ => Sys2Proof.Machine.execSwapTimer at_ s
  | .retireExpiry at_ => Sys2Proof.Machine.execRetireExpiry at_ s
  | .slotInputFix => Sys2Proof.Machine.execSlotInputFix s
  | .budgetWindowRestart => Sys2Proof.Machine.execBudgetWindowRestart s
  | .cmpArm port unit value => Sys2Proof.Machine.execCmpArm port unit value s
  | .cmpCancel port unit value => Sys2Proof.Machine.execCmpCancel port unit value s
  | .cmpReconversion unit => Sys2Proof.Machine.execCmpReconversion unit s
  | .cmpFirstEdge unit => Sys2Proof.Machine.execCmpFirstEdge unit s
  | .cmpReturnEdge unit => Sys2Proof.Machine.execCmpReturnEdge unit s
  | .timeSLoRead port => Sys2Proof.Machine.execTimeSLoRead port s
  | .angleRead port => Sys2Proof.Machine.execAngleRead port s
  | .sdlEvtRead port => Sys2Proof.Machine.execSdlEvtRead port s
  | .frameReceived eport octets lead => Sys2Proof.Machine.execFrameReceived eport octets lead s
  | .frameTransmit eport => Sys2Proof.Machine.execFrameTransmit eport s
  | .laneSignalChange lane sig cdr blk link fec corr uncorr => Sys2Proof.Machine.execLaneSignalChange lane sig cdr blk link fec corr uncorr s
  | .phyStatusChange eport link speed => Sys2Proof.Machine.execPhyStatusChange eport link speed s
  | .gclConfigChange port eport value => Sys2Proof.Machine.execGclConfigChange port eport value s
  | .gateCycleStart eport => Sys2Proof.Machine.execGateCycleStart eport s
  | .gateEntryExpiry eport => Sys2Proof.Machine.execGateEntryExpiry eport s
  | .gclDataAccess port group write => Sys2Proof.Machine.execGclDataAccess port group write s
  | .pairEnable port pair value => Sys2Proof.Machine.execPairEnable port pair value s
  | .pairDisable port pair value => Sys2Proof.Machine.execPairDisable port pair value s
  | .supervisionTx pair => Sys2Proof.Machine.execSupervisionTx pair s
  | .fdbAgeOut index => Sys2Proof.Machine.execFdbAgeOut index s
  | .tblRead port table index => Sys2Proof.Machine.execTblRead port table index s
  | .tblWrite port table index => Sys2Proof.Machine.execTblWrite port table index s
  | .tblDelete port table index => Sys2Proof.Machine.execTblDelete port table index s
  | .tblSearch port table index => Sys2Proof.Machine.execTblSearch port table index s
  | .portCfgWrite port eport value => Sys2Proof.Machine.execPortCfgWrite port eport value s
  | .follyRunStart port eport value => Sys2Proof.Machine.execFollyRunStart port eport value s
  | .follyRunStop port eport value => Sys2Proof.Machine.execFollyRunStop port eport value s
  | .follyReorderTimeout eport => Sys2Proof.Machine.execFollyReorderTimeout eport s
  | .follyDelayRelease eport => Sys2Proof.Machine.execFollyDelayRelease eport s
  | .frameWalk second dt => Sys2Proof.Machine.execFrameWalk second dt s
  | .tagCheckDone n dt => Sys2Proof.Machine.execTagCheckDone n dt s
  | .gooseStale sub => Sys2Proof.Machine.execGooseStale sub s
  | .fmtDataHiWrite port value => Sys2Proof.Machine.execFmtDataHiWrite port value s
  | .idDataHiWrite port value => Sys2Proof.Machine.execIdDataHiWrite port value s
  | .excRead port goose => Sys2Proof.Machine.execExcRead port goose s
  | .gooseRetransmit pub => Sys2Proof.Machine.execGooseRetransmit pub s
  | .svFrameBuild pub => Sys2Proof.Machine.execSvFrameBuild pub s
  | .pubFrameHandover dt => Sys2Proof.Machine.execPubFrameHandover dt s
  | .pergolaEnable port => Sys2Proof.Machine.execPergolaEnable port s
  | .enableCheckComplete dt => Sys2Proof.Machine.execEnableCheckComplete dt s
  | .pergolaDisable port => Sys2Proof.Machine.execPergolaDisable port s
  | .firstDispatch => Sys2Proof.Machine.execFirstDispatch s
  | .runDispatch => Sys2Proof.Machine.execRunDispatch s
  | .budgetPreempt => Sys2Proof.Machine.execBudgetPreempt s
  | .schDataWrite port value => Sys2Proof.Machine.execSchDataWrite port value s
  | .ovrLogRead port => Sys2Proof.Machine.execOvrLogRead port s
  | .bundleIssue cpu => Sys2Proof.Machine.execBundleIssue cpu s
  | .resultLand cpu => Sys2Proof.Machine.execResultLand cpu s
  | .interruptEntry => Sys2Proof.Machine.execInterruptEntry s
  | .nmiEntry => Sys2Proof.Machine.execNmiEntry s
  | .controlTransferTaken cpu => Sys2Proof.Machine.execControlTransferTaken cpu s
  | .aluAdd cpu unit o t => Sys2Proof.Machine.execAluAdd cpu unit o t s
  | .aluSub cpu unit o t => Sys2Proof.Machine.execAluSub cpu unit o t s
  | .aluAdds cpu unit o t => Sys2Proof.Machine.execAluAdds cpu unit o t s
  | .aluSubs cpu unit o t => Sys2Proof.Machine.execAluSubs cpu unit o t s
  | .aluAnd cpu unit o t => Sys2Proof.Machine.execAluAnd cpu unit o t s
  | .aluOr cpu unit o t => Sys2Proof.Machine.execAluOr cpu unit o t s
  | .aluXor cpu unit o t => Sys2Proof.Machine.execAluXor cpu unit o t s
  | .aluAndn cpu unit o t => Sys2Proof.Machine.execAluAndn cpu unit o t s
  | .aluShl cpu unit o t => Sys2Proof.Machine.execAluShl cpu unit o t s
  | .aluShr cpu unit o t => Sys2Proof.Machine.execAluShr cpu unit o t s
  | .aluSra cpu unit o t => Sys2Proof.Machine.execAluSra cpu unit o t s
  | .aluMin cpu unit o t => Sys2Proof.Machine.execAluMin cpu unit o t s
  | .aluMax cpu unit o t => Sys2Proof.Machine.execAluMax cpu unit o t s
  | .aluMinu cpu unit o t => Sys2Proof.Machine.execAluMinu cpu unit o t s
  | .aluMaxu cpu unit o t => Sys2Proof.Machine.execAluMaxu cpu unit o t s
  | .aluEq cpu unit o t => Sys2Proof.Machine.execAluEq cpu unit o t s
  | .aluNe cpu unit o t => Sys2Proof.Machine.execAluNe cpu unit o t s
  | .aluLt cpu unit o t => Sys2Proof.Machine.execAluLt cpu unit o t s
  | .aluLtu cpu unit o t => Sys2Proof.Machine.execAluLtu cpu unit o t s
  | .aluGe cpu unit o t => Sys2Proof.Machine.execAluGe cpu unit o t s
  | .aluGeu cpu unit o t => Sys2Proof.Machine.execAluGeu cpu unit o t s
  | .aluAbs cpu unit o t => Sys2Proof.Machine.execAluAbs cpu unit o t s
  | .aluPass cpu unit o t => Sys2Proof.Machine.execAluPass cpu unit o t s
  | .macMacq cpu unit o t => Sys2Proof.Machine.execMacMacq cpu unit o t s
  | .macMul cpu unit o t => Sys2Proof.Machine.execMacMul cpu unit o t s
  | .macMulh cpu unit o t => Sys2Proof.Machine.execMacMulh cpu unit o t s
  | .macMulq cpu unit o t => Sys2Proof.Machine.execMacMulq cpu unit o t s
  | .macMac cpu unit o t => Sys2Proof.Machine.execMacMac cpu unit o t s
  | .macClr cpu unit o t => Sys2Proof.Machine.execMacClr cpu unit o t s
  | .macLd cpu unit o t => Sys2Proof.Machine.execMacLd cpu unit o t s
  | .macRdh cpu unit o t => Sys2Proof.Machine.execMacRdh cpu unit o t s
  | .fmaFma cpu unit o o2 t => Sys2Proof.Machine.execFmaFma cpu unit o o2 t s
  | .fmaFadd cpu unit o o2 t => Sys2Proof.Machine.execFmaFadd cpu unit o o2 t s
  | .fmaFsub cpu unit o o2 t => Sys2Proof.Machine.execFmaFsub cpu unit o o2 t s
  | .fmaFmul cpu unit o o2 t => Sys2Proof.Machine.execFmaFmul cpu unit o o2 t s
  | .fmaFmin cpu unit o o2 t => Sys2Proof.Machine.execFmaFmin cpu unit o o2 t s
  | .fmaFmax cpu unit o o2 t => Sys2Proof.Machine.execFmaFmax cpu unit o o2 t s
  | .fmaFabs cpu unit o o2 t => Sys2Proof.Machine.execFmaFabs cpu unit o o2 t s
  | .fmaItof cpu unit o o2 t => Sys2Proof.Machine.execFmaItof cpu unit o o2 t s
  | .fmaQtof cpu unit o o2 t => Sys2Proof.Machine.execFmaQtof cpu unit o o2 t s
  | .fmaFtoq cpu unit o o2 t => Sys2Proof.Machine.execFmaFtoq cpu unit o o2 t s
  | .fmaFtoi cpu unit o o2 t => Sys2Proof.Machine.execFmaFtoi cpu unit o o2 t s
  | .fmaFlt cpu unit o o2 t => Sys2Proof.Machine.execFmaFlt cpu unit o o2 t s
  | .fmaFeq cpu unit o o2 t => Sys2Proof.Machine.execFmaFeq cpu unit o o2 t s
  | .corSincos cpu unit o o2 t => Sys2Proof.Machine.execCorSincos cpu unit o o2 t s
  | .corAtan2 cpu unit o o2 t => Sys2Proof.Machine.execCorAtan2 cpu unit o o2 t s
  | .corRot cpu unit o o2 t => Sys2Proof.Machine.execCorRot cpu unit o o2 t s
  | .divDiv cpu unit o t => Sys2Proof.Machine.execDivDiv cpu unit o t s
  | .divDivu cpu unit o t => Sys2Proof.Machine.execDivDivu cpu unit o t s
  | .divDivq cpu unit o t => Sys2Proof.Machine.execDivDivq cpu unit o t s
  | .winLw unit o d t => Sys2Proof.Machine.execWinLw unit o d t s
  | .winLc unit o d t => Sys2Proof.Machine.execWinLc unit o d t s
  | .winLt unit o d t => Sys2Proof.Machine.execWinLt unit o d t s
  | .winLg unit o d t => Sys2Proof.Machine.execWinLg unit o d t s
  | .winLo unit o d t => Sys2Proof.Machine.execWinLo unit o d t s
  | .winCrv unit o d t => Sys2Proof.Machine.execWinCrv unit o d t s
  | .winFsm unit o d t => Sys2Proof.Machine.execWinFsm unit o d t s
  | .winSc unit o d t => Sys2Proof.Machine.execWinSc unit o d t s
  | .winSo unit o d t => Sys2Proof.Machine.execWinSo unit o d t s
  | .winSs unit o d t => Sys2Proof.Machine.execWinSs unit o d t s
  | .winSq unit o d t => Sys2Proof.Machine.execWinSq unit o d t s
  | .winSa unit o d t => Sys2Proof.Machine.execWinSa unit o d t s
  | .winSe unit o d t => Sys2Proof.Machine.execWinSe unit o d t s
  | .lsuLw o t => Sys2Proof.Machine.execLsuLw o t s
  | .lsuLh o t => Sys2Proof.Machine.execLsuLh o t s
  | .lsuLhu o t => Sys2Proof.Machine.execLsuLhu o t s
  | .lsuLb o t => Sys2Proof.Machine.execLsuLb o t s
  | .lsuLbu o t => Sys2Proof.Machine.execLsuLbu o t s
  | .lsuSw o d t => Sys2Proof.Machine.execLsuSw o d t s
  | .lsuSh o d t => Sys2Proof.Machine.execLsuSh o d t s
  | .lsuSb o d t => Sys2Proof.Machine.execLsuSb o d t s
  | .lsuSync => Sys2Proof.Machine.execLsuSync s
  | .storeComplete => Sys2Proof.Machine.execStoreComplete s
  | .ctlJmp cpu t => Sys2Proof.Machine.execCtlJmp cpu t s
  | .ctlBr cpu t => Sys2Proof.Machine.execCtlBr cpu t s
  | .ctlCall cpu t => Sys2Proof.Machine.execCtlCall cpu t s
  | .ctlCallr cpu t => Sys2Proof.Machine.execCtlCallr cpu t s
  | .ctlRet cpu => Sys2Proof.Machine.execCtlRet cpu s
  | .ctlEnd cpu => Sys2Proof.Machine.execCtlEnd cpu s
  | .ctlBrk cpu => Sys2Proof.Machine.execCtlBrk cpu s
  | .ctlEret cpu => Sys2Proof.Machine.execCtlEret cpu s
  | .ctlWfi cpu => Sys2Proof.Machine.execCtlWfi cpu s
  | .wfiResume => Sys2Proof.Machine.execWfiResume s
  | .stkPush cpu t => Sys2Proof.Machine.execStkPush cpu t s
  | .stkPop cpu => Sys2Proof.Machine.execStkPop cpu s
  | .stkPeek cpu t => Sys2Proof.Machine.execStkPeek cpu t s
  | .repT cpu t => Sys2Proof.Machine.execRepT cpu t s
  | .repTn cpu t => Sys2Proof.Machine.execRepTn cpu t s
  | .bndChk cpu lo hi t => Sys2Proof.Machine.execBndChk cpu lo hi t s
  | .bndChku cpu lo hi t => Sys2Proof.Machine.execBndChku cpu lo hi t s
  | .bndClp cpu lo hi t => Sys2Proof.Machine.execBndClp cpu lo hi t s
  | .captureBlockCopy dfn => Sys2Proof.Machine.execCaptureBlockCopy dfn s
  | .ctxDataAccess port write => Sys2Proof.Machine.execCtxDataAccess port write s
  | .trapLogRead port => Sys2Proof.Machine.execTrapLogRead port s
  | .evqRead port => Sys2Proof.Machine.execEvqRead port s
  | .load port nxt slot => Sys2Proof.Machine.execLoad port nxt slot s
  | .transportLoadComplete => Sys2Proof.Machine.execTransportLoadComplete s
  | .swapAt port slot => Sys2Proof.Machine.execSwapAt port slot s
  | .erase port nxt both slot => Sys2Proof.Machine.execErase port nxt both slot s
  | .exportBlob port nxt slot => Sys2Proof.Machine.execExportBlob port nxt slot s
  | .bbrGen port => Sys2Proof.Machine.execBbrGen port s
  | .kekDerive port => Sys2Proof.Machine.execKekDerive port s
  | .ringHeadWrite port ring value => Sys2Proof.Machine.execRingHeadWrite port ring value s
  | .ringDisable port ring value => Sys2Proof.Machine.execRingDisable port ring value s
  | .coreTakeDescriptor => Sys2Proof.Machine.execCoreTakeDescriptor s
  | .descriptorComplete cpu => Sys2Proof.Machine.execDescriptorComplete cpu s
  | .hash port => Sys2Proof.Machine.execHash port s
  | .p256Verify port => Sys2Proof.Machine.execP256Verify port s
  | .p256Sign port ksrc esel => Sys2Proof.Machine.execP256Sign port ksrc esel s
  | .p256Ecdh port ksrc esel => Sys2Proof.Machine.execP256Ecdh port ksrc esel s
  | .p256Keygen port ksrc esel => Sys2Proof.Machine.execP256Keygen port ksrc esel s
  | .attest port => Sys2Proof.Machine.execAttest port s
  | .modadd port masked words => Sys2Proof.Machine.execModadd port masked words s
  | .modsub port masked words => Sys2Proof.Machine.execModsub port masked words s
  | .modmul port masked words => Sys2Proof.Machine.execModmul port masked words s
  | .modexp port masked words => Sys2Proof.Machine.execModexp port masked words s
  | .clear port => Sys2Proof.Machine.execClear port s
  | .abort port => Sys2Proof.Machine.execAbort port s
  | .arbTimedPhaseStart => Sys2Proof.Machine.execArbTimedPhaseStart s
  | .arbOperationComplete => Sys2Proof.Machine.execArbOperationComplete s
  | .arbPreempt => Sys2Proof.Machine.execArbPreempt s
  | .scrDataAccess port write => Sys2Proof.Machine.execScrDataAccess port write s
  | .fountainReady => Sys2Proof.Machine.execFountainReady s
  | .fountainStartupTimeout => Sys2Proof.Machine.execFountainStartupTimeout s
  | .healthTestFail cause => Sys2Proof.Machine.execHealthTestFail cause s
  | .ftnRequestServed => Sys2Proof.Machine.execFtnRequestServed s
  | .ftnOut0Read port => Sys2Proof.Machine.execFtnOut0Read port s
  | .ftnReseed port => Sys2Proof.Machine.execFtnReseed port s
  | .clnEnable port => Sys2Proof.Machine.execClnEnable port s
  | .peerHeartbeatSeen side peer delay => Sys2Proof.Machine.execPeerHeartbeatSeen side peer delay s
  | .waitTimeout => Sys2Proof.Machine.execWaitTimeout s
  | .attachRetry => Sys2Proof.Machine.execAttachRetry s
  | .attachMessageReceived m => Sys2Proof.Machine.execAttachMessageReceived m s
  | .stateTransferReceived item => Sys2Proof.Machine.execStateTransferReceived item s
  | .digestRecordReceived d => Sys2Proof.Machine.execDigestRecordReceived d s
  | .forwardTimeout => Sys2Proof.Machine.execForwardTimeout s
  | .forwardedFrameReceived frame => Sys2Proof.Machine.execForwardedFrameReceived frame s
  | .slotRecordReceived rec_ roles handed leaving ofs => Sys2Proof.Machine.execSlotRecordReceived rec_ roles handed leaving ofs s
  | .slotRecordSplit => Sys2Proof.Machine.execSlotRecordSplit s
  | .sequenceCheckReceived counters => Sys2Proof.Machine.execSequenceCheckReceived counters s
  | .timeOffsetAlarm ofs => Sys2Proof.Machine.execTimeOffsetAlarm ofs s
  | .sideLoss side => Sys2Proof.Machine.execSideLoss side s
  | .peerLoss us => Sys2Proof.Machine.execPeerLoss us s
  | .attach port => Sys2Proof.Machine.execAttach port s
  | .detach port => Sys2Proof.Machine.execDetach port s
  | .handRoles port => Sys2Proof.Machine.execHandRoles port s
  | .keysync port => Sys2Proof.Machine.execKeysync port s
  | .keyReplicationReceived m => Sys2Proof.Machine.execKeyReplicationReceived m s
  | .zeroisePropagationReceived => Sys2Proof.Machine.execZeroisePropagationReceived s
  | .certAddrWrite port value => Sys2Proof.Machine.execCertAddrWrite port value s
  | .certVerifyComplete => Sys2Proof.Machine.execCertVerifyComplete s
  | .takeLogRead port => Sys2Proof.Machine.execTakeLogRead port s
  | .nvmErase port => Sys2Proof.Machine.execNvmErase port s
  | .nvmProgram port => Sys2Proof.Machine.execNvmProgram port s
  | .nvmVerify port margin cmpSrc => Sys2Proof.Machine.execNvmVerify port margin cmpSrc s
  | .nvmUnitDone => Sys2Proof.Machine.execNvmUnitDone s
  | .nvmRunResume => Sys2Proof.Machine.execNvmRunResume s
  | .patrolScrubRead region word => Sys2Proof.Machine.execPatrolScrubRead region word s
  | .reactionStep dt => Sys2Proof.Machine.execReactionStep dt s
  | .fenceCmd port => Sys2Proof.Machine.execFenceCmd port s
  | .fenceLift peer => Sys2Proof.Machine.execFenceLift peer s
  | .histClr port => Sys2Proof.Machine.execHistClr port s
  | .hist0Read port => Sys2Proof.Machine.execHist0Read port s
  | .lightMesh nanoamps => Sys2Proof.Machine.execLightMesh nanoamps s
  | .lightCellRefresh decayed => Sys2Proof.Machine.execLightCellRefresh decayed s
  | .lightDisagree => Sys2Proof.Machine.execLightDisagree s
  | .supplyGlitch ns => Sys2Proof.Machine.execSupplyGlitch ns s
  | .clockGlitch => Sys2Proof.Machine.execClockGlitch s
  | .backupTempSample temp ticks => Sys2Proof.Machine.execBackupTempSample temp ticks s
  | .backupAlarm mask ticks => Sys2Proof.Machine.execBackupAlarm mask ticks s
  | .cardInsertion => Sys2Proof.Machine.execCardInsertion s
  | .cardRemoval => Sys2Proof.Machine.execCardRemoval s
  | .cardResponse answer detHigh => Sys2Proof.Machine.execCardResponse answer detHigh s
  | .cardBusyRelease => Sys2Proof.Machine.execCardBusyRelease s
  | .cardBusyTimeout detHigh => Sys2Proof.Machine.execCardBusyTimeout detHigh s
  | .read port count => Sys2Proof.Machine.execRead port count s
  | .write port count => Sys2Proof.Machine.execWrite port count s
  | .sleepClk port => Sys2Proof.Machine.execSleepClk port s
  | .sleepOff port => Sys2Proof.Machine.execSleepOff port s
  | .wake port => Sys2Proof.Machine.execWake port s
  | .discard port => Sys2Proof.Machine.execDiscard port s
  | .fieldAppear strong => Sys2Proof.Machine.execFieldAppear strong s
  | .fieldCollapse => Sys2Proof.Machine.execFieldCollapse s
  | .reqa => Sys2Proof.Machine.execReqa s
  | .wupa => Sys2Proof.Machine.execWupa s
  | .anticollision level k uid => Sys2Proof.Machine.execAnticollision level k uid s
  | .select level uid crcOk => Sys2Proof.Machine.execSelect level uid crcOk s
  | .hlta crcOk mac => Sys2Proof.Machine.execHlta crcOk mac s
  | .invalidTagFrame => Sys2Proof.Machine.execInvalidTagFrame s
  | .invBegin haltToo crcOk => Sys2Proof.Machine.execInvBegin haltToo crcOk s
  | .invNext crcOk => Sys2Proof.Machine.execInvNext crcOk s
  | .invAck handle crcOk => Sys2Proof.Machine.execInvAck handle crcOk s
  | .invTree crcOk => Sys2Proof.Machine.execInvTree crcOk s
  | .readRec rec_ ofs crcOk mac => Sys2Proof.Machine.execReadRec rec_ ofs crcOk mac s
  | .noteStage ofs data crcOk mac => Sys2Proof.Machine.execNoteStage ofs data crcOk mac s
  | .noteCommit seq cut crcOk mac => Sys2Proof.Machine.execNoteCommit seq cut crcOk mac s
  | .pwdAuth pwd crcOk mac => Sys2Proof.Machine.execPwdAuth pwd crcOk mac s
  | .pwdHoldoffExpiry => Sys2Proof.Machine.execPwdHoldoffExpiry s
  | .auth1 keyNo crcOk mac => Sys2Proof.Machine.execAuth1 keyNo crcOk mac s
  | .auth2 na tr crcOk mac => Sys2Proof.Machine.execAuth2 na tr crcOk mac s
  | .regRd addr crcOk mac => Sys2Proof.Machine.execRegRd addr crcOk mac s
  | .regWr pair addr value crcOk mac => Sys2Proof.Machine.execRegWr pair addr value crcOk mac s
  | .kskReadRec port rec_ => Sys2Proof.Machine.execKskReadRec port rec_ s
  | .kskWriteRec port rec_ => Sys2Proof.Machine.execKskWriteRec port rec_ s
  | .keyFromSlot port slot => Sys2Proof.Machine.execKeyFromSlot port slot s
  | .keyClear port => Sys2Proof.Machine.execKeyClear port s
  | .pwdSet port => Sys2Proof.Machine.execPwdSet port s
  | .pwdUnblock port => Sys2Proof.Machine.execPwdUnblock port s
  | .gthNarrowWrite port clrW clrR all => Sys2Proof.Machine.execGthNarrowWrite port clrW clrR all s
  | .proxyRead port twin => Sys2Proof.Machine.execProxyRead port twin s
  | .proxyWrite port pair twin => Sys2Proof.Machine.execProxyWrite port pair twin s
  | .proxyAccessReceived write pair addr value => Sys2Proof.Machine.execProxyAccessReceived write pair addr value s
  | .proxyAnswerReceived answer => Sys2Proof.Machine.execProxyAnswerReceived answer s
  | .gthLogRead port => Sys2Proof.Machine.execGthLogRead port s
  | .lockstepError parity => Sys2Proof.Machine.execLockstepError parity s
  | .rekey port => Sys2Proof.Machine.execRekey port s
  | .pcieReset perst => Sys2Proof.Machine.execPcieReset perst s
  | .bar2Access offset count write => Sys2Proof.Machine.execBar2Access offset count write s
  | .hifF2hSetWrite port value => Sys2Proof.Machine.execHifF2hSetWrite port value s
  | .hifTransferStart port => Sys2Proof.Machine.execHifTransferStart port s
  | .hifTransferDone => Sys2Proof.Machine.execHifTransferDone s
  | .dmaStart port => Sys2Proof.Machine.execDmaStart port s
  | .dmaDone => Sys2Proof.Machine.execDmaDone s
  | .uartTxWrite port data => Sys2Proof.Machine.execUartTxWrite port data s
  | .uartRxRead port => Sys2Proof.Machine.execUartRxRead port s
  | .uartRxOctet data => Sys2Proof.Machine.execUartRxOctet data s
  | .msRead addr count => Sys2Proof.Machine.execMsRead addr count s
  | .msWrite addr words cut => Sys2Proof.Machine.execMsWrite addr words cut s
  | .paired addr value inverse cut => Sys2Proof.Machine.execPaired addr value inverse cut s
  | .rdsr => Sys2Proof.Machine.execRdsr s
  | .stage offset data => Sys2Proof.Machine.execStage offset data s
  | .bootdb value => Sys2Proof.Machine.execBootdb value s
  | .ident => Sys2Proof.Machine.execIdent s
  | .idcode => Sys2Proof.Machine.execIdcode s
  | .bypass octets => Sys2Proof.Machine.execBypass octets s
  | .unlockChal => Sys2Proof.Machine.execUnlockChal s
  | .unlockResp response => Sys2Proof.Machine.execUnlockResp response s
  | .unlockVerifyComplete => Sys2Proof.Machine.execUnlockVerifyComplete s
  | .unlockSta => Sys2Proof.Machine.execUnlockSta s
  | .dbgAcc op addr data => Sys2Proof.Machine.execDbgAcc op addr data s
  | .dbgCore op => Sys2Proof.Machine.execDbgCore op s
  | .laneNear port => Sys2Proof.Machine.execLaneNear port s
  | .laneFar port => Sys2Proof.Machine.execLaneFar port s
  | .clnNear port => Sys2Proof.Machine.execClnNear port s
  | .kskLoop port => Sys2Proof.Machine.execKskLoop port s
  | .refSupply port => Sys2Proof.Machine.execRefSupply port s
  | .refTemp port => Sys2Proof.Machine.execRefTemp port s
  | .refHedge port => Sys2Proof.Machine.execRefHedge port s
  | .lbist port => Sys2Proof.Machine.execLbist port s
  | .bstTestComplete outcome => Sys2Proof.Machine.execBstTestComplete outcome s
  | .ref10mRecovery => Sys2Proof.Machine.execRef10mRecovery s
  | .vbatLoss => Sys2Proof.Machine.execVbatLoss s
  | .cdVioOutOfRange => Sys2Proof.Machine.execCdVioOutOfRange s
  | .sideRecovery side => Sys2Proof.Machine.execSideRecovery side s
  | .hedgeConditionAbsent source => Sys2Proof.Machine.execHedgeConditionAbsent source s
  | .cardTimeout detHigh => Sys2Proof.Machine.execCardTimeout detHigh s
  | .pcieLinkUp speed width bme => Sys2Proof.Machine.execPcieLinkUp speed width bme s
  | .uartTxOctetSent => Sys2Proof.Machine.execUartTxOctetSent s

end Sys2Proof.Machine
end

