-- ==== Sys2Proof/Machine/Step.lean ====
section
/-!
DEFINITION. The step of the block: it takes the oldest waiting command; with none waiting it idles.
-/
namespace Sys2Proof.Machine

/-- The command at the front of the queue is taken out and has its effect; an empty queue leaves everything as it is.
(DESIGN CHOICE, log entry 3.) -/
def step (s : State) : Host.Outcome State Fault Refusal :=
  match s.pending with
  | [] => .next s
  | i :: rest => exec i { s with pending := rest }

/-- The command that a word of the opcode table spells is put at the front of the queue; the table gives no row any bits.
(DESIGN CHOICE, log entry 3.) -/
def State.withFetchWord (s : State) (nbits w : Nat) : State :=
  match Sys2Proof.decodeTableWord nbits w with
  | some i => { s with pending := i :: s.pending }
  | none => s

end Sys2Proof.Machine
end

