-- ==== Sys2Proof/Safety.lean ====
section
/-!
DEFINITION. The terms in which claims speak: pins that follow the state, accesses that reach their register, and what a command
leaves as it was.
-/
namespace Sys2Proof.Machine

/-- The pins and the level interrupts follow the state (R426, R504, R508, R514): ERR_N and MS_IRQ_N stand where the registers put
them, every level source that asks has its CCP_IP bit, and no MSI-X vector is out without a link. -/
abbrev State.settled (s : State) : Prop :=
  s.errN = errLow s ∧ s.msIrqN = decide (s.reg pGth Reg.Gth.MS_F2M ≠ 0) ∧
    levelIrqs s &&& s.reg pCcp Reg.Ccp.CCP_IP = levelIrqs s ∧ s.out.all (reachesWires s.hif.up) = true

/-- No access waits at the Gatehouse, no shadow pair is pending and no self-test runs; a proxy access may be with the peer. -/
abbrev State.quiet (s : State) : Prop :=
  s.gate.pairs = [] ∧ s.gate.held = [] ∧ s.gate.proxy.all (fun q => !q.net) = true ∧ s.bst = none

/-- The register rules of a page admit writes by a port at an offset (R538): FLY pages take HOST and MAINT alone (R169). -/
def portAdmits (port : Port) (p o : Nat) : Bool :=
  match blkOf p with
  | none => false
  | some (b, _) => !State.ruledOut b port o && (b != .fly || port == .host || port == .maint)

/-- A register lies at an offset of a page, outside its header, and is not shadowed. -/
def plainReg (p o : Nat) : Bool :=
  decide (p < 0x1000) && decide (0x40 ≤ o) && decide (o < 0x800) && decide (o % 4 = 0) &&
    (match specOf p o with | some r => !r.shadowed | none => false)

/-- A write by a port reaches the register at offset o of page p (R12, R14, R240, R497, R538): the main domain is up, the current
write mask and the register rules admit the port, and neither a block reset of the page nor an enable check of the Pergola is in
progress. -/
abbrev WriteReaches (s : State) (port : Port) (p o : Nat) : Prop :=
  s.fabricUp = true ∧ s.quiet ∧ (s.masks (indexOf p)).writes port = true ∧ portAdmits port p o = true ∧
    s.flag p Reg.Hdr.STA 2 = false ∧ (p = pPgl → s.flag pPgl Reg.Hdr.STA 8 = false)

/-- A read by a port reaches page p (R14, R497). -/
abbrev ReadReaches (s : State) (port : Port) (p : Nat) : Prop :=
  s.fabricUp = true ∧ (s.masks (indexOf p)).reads port = true

/-- No word of a memory is in error, and no page waits to inject an error into a memory or a flit (R415, R435). -/
abbrev State.clean (s : State) : Prop :=
  s.mem.marks = [] ∧ ∀ p ∈ [pPtr1, pPtr3, pPrm, pPav, pCcp, pArb, pOrg, pKsk, pNvm, pHif, pPsh, pCln],
    bitAt (s.reg p Reg.Hdr.FLT_INJ) 16 = false

/-- The state a command finds: nothing of it is on the wires yet. -/
def State.start (s : State) : State := { s with out := [] }

/-- The state in which an access of a port finds its register: nothing has befallen it yet. -/
def State.heard (s : State) : State := { s with out := [], gate.acc := [] }

/-- What a command leaves whose effect on the block is x: the pins and level interrupts follow x, and the queue stays. -/
def State.done (s x : State) : State := { x.settle with pending := s.pending }

/-- Where an area that a CCP transfer may touch begins in the Ndear-C map (R523). -/
def areaBase (r : Nat) : Nat := if r = rgCsram then 0x20000000 else if r = rgPacket then 0x34000000 else 0x30000000

/-- What a device reset of a running device reaches (R61): every register it does not keep reads its reset value, the engines, the time,
slot, stream, key and twin state start again and every SRAM is cleared; the MRAM, the OTP row and the well stay. -/
abbrev ResetReach (s t : State) : Prop :=
  (∀ p o : Nat, p < 0x1000 → o < 0x1000 → keptByReset (regKey p o) = false → ¬ (p = pCcp ∧ o = Reg.Ccp.CCP_IP) →
    t.reg p o = regReset p o) ∧
  (∀ p o : Nat, p < 0x1000 → o < 0x1000 → keptByReset (regKey p o) = true → ¬ (p = pLdg ∧ o = Reg.Ldg.RST_CAUSE) →
    ¬ (p = pSys ∧ o = Reg.Sys.PWR_STA) → t.reg p o = s.reg p o) ∧
  t.ldg.phase = .held ∧ t.engP = Engine.reset ∧ t.engC = Engine.coreReset ∧ t.mem.sample = [] ∧ t.mem.packet = [] ∧
  t.mem.ctx = [] ∧ t.mem.table = [] ∧ t.mem.csram = [] ∧ t.sdl = Sundial.reset ∧ t.pgl = Pergola.reset ∧
  t.pav = Pavilion.reset ∧ t.prm = Promenade.reset ∧ t.ptr = Parterre.reset ∧ t.org = Orangery.reset ∧ t.arb = Arbour.reset ∧
  t.cln = Colonnade.reset ∧ t.gate.log = [] ∧ t.gate.pairs = [] ∧ t.mem.mram = s.mem.mram ∧ t.otp = s.otp ∧ t.well = s.well ∧
  t.blv.hist = s.blv.hist

/-- Registers whose writes follow the access codes of R6 and nothing else. -/
def plainWritten (b : Blk) (o : Nat) : Bool :=
  match b with
  | .sys => o != Reg.Sys.PRF
  | .ldg => o != Reg.Ldg.RST_REQ && o != Reg.Ldg.ZRQ && o != Reg.Ldg.WDG_KICK && o != Reg.Ldg.PKG_CMD
  | .gth => o != Reg.Gth.GTH_NARROW && o != Reg.Gth.GTH_PROXY_CMD && o != Reg.Gth.MS_F2M_SET && o != Reg.Gth.MS_M2F_SET
  | .ccp => o != Reg.Ccp.CCP_MASK && o != Reg.Ccp.UART_TX && o != Reg.Ccp.DMA_CMD
  | .hif =>
    o != Reg.Hif.HIF_H2F_SET && o != Reg.Hif.HIF_F2H_SET && o != Reg.Hif.HIF_BOOT_DB && o != Reg.Hif.XF_CMD
  | .nvm => o != Reg.Nvm.NVM_CMD && decide (o < 0x080)
  | .blv => o != Reg.Blv.HIST_CLR && o != Reg.Blv.FENCE_CMD
  | .pav => o != Reg.Pav.CHN_DATA && o != Reg.Pav.OW_META && o != Reg.Pav.CTX_DATA && o != Reg.Pav.CAP_DATA
  | .ptr2 => o != Reg.Ptr2.DATA
  | .ptr3 => o != Reg.Ptr3.DATA
  | .ftn => o != Reg.Ftn.FTN_CMD
  | .psh => o != Reg.Psh.PSH_CMD
  | .ksk => o != Reg.Ksk.KSK_CMD
  | .bst => o != Reg.Bst.BST_CMD
  | _ => false

/-- x clamped to n bits signed. -/
def clampTo (n : Nat) (x : Int) : Int := max (-(2 ^ (n - 1))) (min (2 ^ (n - 1) - 1) x)

/-- Rounding to Q1.31 (R268): 2³⁰ is added, then an arithmetic shift right by 31. -/
def q31Of (x : Int) : Int := (x + 2 ^ 30) / 2 ^ 31

/-- A core can perform an operation of unit w, which has had no trigger in the cycle in progress, and no pending transfer is due
before it (R243, R254, R257, R278). -/
abbrev UnitReady (s : State) (c : Cpu) (w : Nat) : Prop :=
  s.fabricUp = true ∧ s.coreActs c = true ∧ (s.eng c).xfer.all (fun x => decide (x.left ≠ 0)) = true ∧
    ((s.eng c).use = .ops → (s.eng c).trig.contains w = false)

/-- A core whose cycle in progress holds an operation of unit w, its operand ports latched (R255, R257). -/
def Engine.joined (g : Engine) (w : Nat) (os : List (Nat × Word)) : Engine :=
  { g with
    use := .ops, trig := w :: (if g.use = .ops then g.trig else [])
    opnd := os.foldl (fun m w => smSet (fun _ => 0) m w.1 w.2) g.opnd }

/-- The same, with results that land in their ports after a latency, counted in issue cycles (R256). -/
def Engine.operates (g : Engine) (w : Nat) (os : List (Nat × Word)) (lat : Nat) (rs : List (Nat × Word)) : Engine :=
  { g.joined w os with flight := g.flight ++ [Landing.mk (g.cycle + lat - 1) rs none] }

/-- What an operation of win0 or win1 leaves: r, and r2 where it has one, in flight for its latency, f being 0 (R272). -/
def State.winLanded (s : State) (u : Nat) (o d : Word) (lat : Nat) (r : Word) (r2 : Option Word) : State :=
  s.done (s.start.setEng .pav ((s.eng .pav).operates (lsPort u) [(lsPort u, o), (lsPort u + 1, d)] lat
    ((match r2 with | some x => [(lsPort u + 0x1D, x)] | none => []) ++ [(lsPort u + 0x1E, r), (lsPort u + 0x1F, 0)])))

/-- What a store of win0 or win1 leaves: it takes effect at the end of the cycle in progress, and no result flies (R272). -/
def State.winStored (s : State) (u : Nat) (o d : Word) (x : StoreOp) : State :=
  s.done (s.start.setEng .pav { (s.eng .pav).joined (lsPort u) [(lsPort u, o), (lsPort u + 1, d)] with
    defer := (s.eng .pav).defer ++ [(u, x)] })

/-- A word of a memory as it stands. -/
def State.peekWord (s : State) (rg ofs : Nat) : Word := leWord (s.peekMem rg ofs 4)

/-- Point i of curve c (R308). -/
def State.curvePt (s : State) (c i : Nat) : Int × Int :=
  ((s.peekWord rgTable (0x600000 + 0x800 * c + 8 * i)).toInt, (s.peekWord rgTable (0x600000 + 0x800 * c + 8 * i + 4)).toInt)

/-- The tag is in ACTIVE and takes a frame: in SECURED_AES its MAC is right (R485, R488). -/
abbrev State.tagTakes (s : State) (frame mac : List Byte) : Prop :=
  s.ksk.st = .active ∧ (s.ksk.auth = .aes → mac = s.tagMac frame)

/-- What the tag sends for an answer to a frame it has taken: in SECURED_AES with the MAC under the counter, one on (R485, R488). -/
def State.tagSends (s : State) (bs : List Byte) : List Byte :=
  if s.ksk.auth = .aes then
    bs ++ (cmac (s.ksk.ks.getD []) (natOctets 2 ((s.ksk.ctr + 1) % 65536) ++ bs)).take 8
  else bs

/-- The octets the newer valid copy of a record holds, with its SEQ (R490). -/
def State.record (s : State) (r : Nat) : Option (Nat × List Byte) := (s.readRecord r).1.map (fun c => (c.2.1, c.2.2))

/-- A GOOSE block takes a record into its state: it is enabled and neither fenced nor waiting for its fixed inputs, the record is no
simulated one and none was seen, and it is the first, follows a stale block or is of a newer state (R208, R212, R213). -/
abbrev State.gooseNewer (s : State) (i : Nat) (r : GooseRecord) : Prop :=
  s.gooseShut i = false ∧ s.ptr.fixWait = false ∧ r.sim = false ∧ (s.block i).simSeen = false ∧
    ((s.block i).recvd = false ∨ (s.block i).live.stale = true ∨
      (1 ≤ (r.stNum + 2 ^ 32 - (s.block i).stNum) % 2 ^ 32 ∧ (r.stNum + 2 ^ 32 - (s.block i).stNum) % 2 ^ 32 < 2 ^ 31))

/-- The block once it has taken a record of a newer state, placed at an instant (R212 to R214). -/
def State.gooseTaken (s : State) (i : Nat) (r : GooseRecord) (placed : Nat) : GooseBlock :=
  { s.block i with
    recvd := true, stNum := r.stNum, sqNum := r.sqNum, deadline := placed + max r.tal 1 * 1000000
    live := { members := s.gooseMembers i r, stale := false, cfgErr := false, chg := min 255 ((s.block i).live.chg + 1) } }

/-- The subscription and record that a matched record is of, where it is one of GOOSE or of SV. -/
def Matched.goose? : Matched → Option (Nat × GooseRecord)
  | .goose i r => some (i, r)
  | .sv _ _ => none
def Matched.sv? : Matched → Option (Nat × SvRecord)
  | .sv i r => some (i, r)
  | .goose _ _ => none

/-- A frame has left a parse pipeline. -/
def State.unqueued (s : State) (second : Bool) (p : ParseIn) : State :=
  if second then { s with prm.pipe1 := s.prm.pipe1.erase p } else { s with prm.pipe0 := s.prm.pipe0.erase p }

/-- A stream takes a record as its sample n at once, as its newest: it is enabled and neither fenced nor waiting for its fixed inputs, the
record is no simulated one and none was seen, it is within MAX_AGE_US, and no slot runs, nothing is fixed or n is at most RSV after the
fixed head (R203 to R206, R208). -/
abbrev State.svNewer (s : State) (i : Nat) (r : SvRecord) (a n : Nat) : Prop :=
  s.svShut i = false ∧ s.ptr.fixWait = false ∧ r.sim = false ∧ (s.stream i).simSeen = false ∧
    n = sampleIndex a (s.svRate i) (s.svRate i / s.svWrap i) r.smpCnt ∧
    a * s.svRate i ≤ n * 1000000000 + s.svMaxAge i * 1000 * s.svRate i ∧
    (s.sdl.slotAt = none ∨ (s.stream i).fixed.all (fun h => decide (h < n) && decide (n ≤ h + s.svRsv i)) = true) ∧
    (s.stream i).head.all (fun h => decide (h < n)) = true

/-- What the sample leaves: the values of its quantities in the window at n, a flag word that is no MISS, and the head at n (R204, R207,
R209). -/
abbrev SvPlaced (s x : State) (i : Nat) (r : SvRecord) (n : Nat) : Prop :=
  (∀ q ∈ List.range (s.svQty i), x.peekWord rgSample (x.sampleOfs i q (n % x.winDepth)) = ((r.values.find? (fun e => e.1 = q)).map (·.2)).getD 0) ∧
    (x.flagOf i n).testBit 8 = false ∧ (x.stream i).head = some n ∧ (x.stream i).live = true ∧ (x.stream i).lost = false

/-- A joiner in ATTACH_XFER after C_s, which takes state (R372). -/
abbrev State.joins (s : State) : Prop := s.cln.st = .attachXfer ∧ s.cln.attach = none ∧ s.cln.donor = false

/-- The cause with which a message of an attach in progress is refused (R368, R370, R371): 6 an item that fails its checks, 7 the ESTATE,
8 the twin, 9 the configuration. -/
def State.refusalOf (s : State) (a : AttachRun) : AttachMsg → Option Nat
  | .hello c q n =>
    if a.peerCert ≠ [] then none
    else if s.certSigned c = false ∨ onCurve (pointOf q).1 (pointOf q).2 = false ∨ q.length ≠ 64 ∨ n.length ≠ 32 then some 6
    else if certEstate c ≠ s.fld pCln Reg.Cln.ESTATE 15 0 then some 7
    else if certTwin c = b2n s.twinB then some 8 else none
  | .proof st sig =>
    if a.attested = false ∨ s.cln.session = true then none
    else if proofOk a st sig = false then some 6
    else if (st.drop 64).take 32 ≠ s.octetRegs pLdg (Reg.Ldg.CFG_HASH 0) 8 then some 9 else none
  | .items f t p x n =>
    if s.cln.session = false then none
    else if (f, t, p, x, n) = (s.octetRegs pPtr0 (Reg.Ptr0.FMT_DIGEST 0) 8, s.octetRegs pPav (Reg.Pav.TBL_DIGEST 0) 8,
      s.fld pSys Reg.Sys.PRF 9 8, s.fld pSdl Reg.Sdl.SDL_FMAX 6 0, (s.reg pSdl Reg.Sdl.FNOM_CFG).toNat) then none else some 9

end Sys2Proof.Machine
end

