-- ==== Sys2Proof/Certificates/Slice0/Obligations.lean ====
section
/-!
DEFINITION. The statements for the provers. Each cites the rules of spec/ it follows; `State.done`, `State.heard` and the other terms
they speak in stand in Sys2Proof/Safety.lean.
-/
open Sys2Proof Sys2Proof.Machine

/-- A step runs the command at the front of the queue, and idles on an empty one. Of every state whose queue holds c in front, step is
exec of c on the state with the queue's rest; of a state with an empty queue, step answers that state (idling is the model's
choice, a block without a clock of its own: log entry 3). (R6) -/
def Obligations.StepRunsFrontCommand : Prop :=
  (∀ (s : State) (c : Instr) (rest : List Instr), s.pending = c :: rest → step s = exec c { s with pending := rest }) ∧
  (∀ s : State, s.pending = [] → step s = .next s)

/-- Every well-formed command answers a next state with the queue it found and the pins following. A command whose operands the
hardware can meet answers a next state that keeps the queue and is settled: ERR_N, MS_IRQ_N, the level interrupts of CCP_IP and
the MSI-X vectors stand as the registers and the PCIe link put them. Any other command ends in the fault illFormed (the model's
own, log entry 2). (R6, R426, R504, R508, R514) -/
def Obligations.CommandsAnswer : Prop :=
  (∀ (c : Instr) (s : State), c.wf = true → ∃ t, exec c s = .next t ∧ t.pending = s.pending ∧ t.settled) ∧
  (∀ (c : Instr) (s : State), c.wf = false → exec c s = .fault .illFormed)

/-- Pins and level interrupts follow the registers after every step. From every state in which ERR_N, MS_IRQ_N, the level-interrupt
bits of CCP_IP and the MSI-X vectors agree with the registers and the link, whatever command waits in front, a step that answers a
next state answers one in which they agree. (R426, R504, R508, R514) -/
def Obligations.StepKeepsPinsSettled : Prop :=
  ∀ s t : State, step s = .next t → s.settled → t.settled

/-- The state after reset is settled and quiet. At reset ERR_N, MS_IRQ_N and the level-interrupt bits agree with the registers, no
command waits, and nothing waits at the Gatehouse. (R426, R504, R514) -/
def Obligations.ResetIsSettled : Prop :=
  State.reset.settled ∧ State.reset.quiet ∧ State.reset.pending = []

/-- After reset every register reads the reset value of its table. After a power-on reset with loss of VDDIO18 every register of every
page reads the reset value its register table gives field by field (for instance WDG_CFG 0x4000, TEMP_CFG 0x410, SDL_FMAX 0x37;
fields for which the spec gives none read the value log entry 1 names), every AOUT ball is high-impedance, ERR_N and MS_IRQ_N are
released, and a page address that no block owns reads 0. (R61) -/
def Obligations.ResetRegisters : Prop :=
  (∀ p o : Nat, p < 0x1000 → o < 0x1000 → State.reset.reg p o = regReset p o) ∧
  State.reset.fld pLdg Reg.Ldg.WDG_CFG 27 8 = 0x4000 ∧ State.reset.fld pHdg Reg.Hdg.LIGHT_CFG 23 16 = 0x64 ∧
  State.reset.fld pHdg Reg.Hdg.TEMP_CFG 11 0 = 0x410 ∧ State.reset.fld pSdl Reg.Sdl.SDL_FMAX 6 0 = 0x37 ∧
  State.reset.ldg.aout = List.replicate 32 .z ∧ State.reset.errN = false ∧ State.reset.msIrqN = false ∧
  (∀ p o : Nat, p < 0x1000 → o < 0x1000 → blkOf p = none → State.reset.reg p o = 0)

/-- A register write acts on each bit by its access code. REGISTER_WRITE to a register with no rule of its own, by a port the fabric
admits: a bit coded RW, and one coded RWL while the page is not locked, takes the written bit; a bit coded W1C is cleared by a 1
and kept by a 0; every other bit keeps its value. No other register, and no other part of the block, changes. (R6, R15) -/
def Obligations.AccessCodesOfAWrite : Prop :=
  ∀ (s : State) (port : Port) (p o n : Nat) (b : Blk) (r : RegSpec) (v : Word),
    WriteReaches s port p o → blkOf p = some (b, n) → specOf p o = some r → plainReg p o = true → plainWritten b o = true →
    (∀ i < 32, ¬ (bitAt (r.mask .w1c) i = true ∧ (bitAt (r.mask .rw) i = true ∨ bitAt (r.mask .rwl) i = true))) →
    ∃ w, exec (.registerWrite port (BitVec.ofNat 32 (regAt p o)) v) s = .next (s.done (s.heard.setReg p o w)) ∧
      ∀ i < 32, bitAt w i =
        if bitAt (r.mask .rw) i = true ∨ (bitAt (r.mask .rwl) i = true ∧ s.locked p = false) then bitAt v i
        else if bitAt (r.mask .w1c) i = true then bitAt (s.reg p o) i && !bitAt v i
        else bitAt (s.reg p o) i

/-- A write whose mask bit is 0 is discarded and logged. REGISTER_WRITE by a port whose write-mask bit for the page is 0 leaves every
register as it was but for GTH FLT_STA and the log's level interrupt, and appends one entry of kind AUTH with the port, the page
and the offset to the Gatehouse log; nothing else of the block changes but the report to the Belvedere. (FLY pages have a rule of
their own and are excepted.) (R14, R497, R501) -/
def Obligations.WriteWithoutAuthority : Prop :=
  ∀ (s : State) (port : Port) (p o n : Nat) (b : Blk) (v : Word),
    s.fabricUp = true → s.quiet → blkOf p = some (b, n) → b ≠ .fly → o < 0x1000 → o % 4 = 0 →
    (s.masks (indexOf p)).writes port = false →
    ∃ t, exec (.registerWrite port (BitVec.ofNat 32 (regAt p o)) v) s = .next t ∧
      t.gate.log = (if 32 ≤ s.gate.log.length then s.gate.log.drop 1 else s.gate.log) ++
        [⟨1, decide (32 ≤ s.gate.log.length), port.bit, p, o / 4⟩] ∧
      t.flag pGth Reg.Hdr.FLT_STA 0 = true ∧
      (∀ q u : Nat, u < 0x1000 → ¬ (q = pGth ∧ u = Reg.Hdr.FLT_STA) → ¬ (q = pCcp ∧ u = Reg.Ccp.CCP_IP) → t.reg q u = s.reg q u) ∧
      t.mem = s.mem ∧ t.sdl = s.sdl ∧ t.org = s.org ∧ t.pgl = s.pgl ∧ t.pav = s.pav ∧ t.prm = s.prm ∧ t.ptr = s.ptr ∧
      t.nvm = s.nvm ∧ t.otp = s.otp ∧ t.arb = s.arb ∧ t.ldg = s.ldg ∧ t.well = s.well ∧ t.gate.cur = s.gate.cur

/-- An access that is not an aligned 32-bit access reads zero or is discarded, and is logged. MALFORMED_ACCESS while the fabric
completes accesses: a read answers 0, a write changes nothing; the log gains one entry of kind MALFORMED, GTH FLT_STA bit 2 is
set, and no other register changes but for the log's level interrupt. While the main domain is in reset nothing is logged. (R5,
R501, R519) -/
def Obligations.MalformedAccessIsLogged : Prop :=
  (∀ (s : State) (port : Port) (addr : Word) (read : Bool), s.fabricUp = true →
    ∃ t, exec (.malformedAccess port addr read) s = .next t ∧
      t.gate.log = (if 32 ≤ s.gate.log.length then s.gate.log.drop 1 else s.gate.log) ++
        [⟨3, decide (32 ≤ s.gate.log.length), port.bit, pageNo addr.toNat, pageOfs addr.toNat / 4⟩] ∧
      t.flag pGth Reg.Hdr.FLT_STA 2 = true ∧
      t.out = (if s.hif.up then [.msix 17] else []) ++ (if read then [.value 0] else []) ∧
      (∀ q u : Nat, u < 0x1000 → ¬ (q = pGth ∧ u = Reg.Hdr.FLT_STA) → ¬ (q = pCcp ∧ u = Reg.Ccp.CCP_IP) → t.reg q u = s.reg q u) ∧
      t.mem = s.mem) ∧
  (∀ (s : State) (port : Port) (addr : Word) (read : Bool), s.fabricUp = false →
    exec (.malformedAccess port addr read) s = .next (s.done (if read then s.start.emit (.value 0) else s.start)))

/-- CTL.EN enables, CTL.SRST resets, LOCK.LOCKED freezes. BLOCK_ENABLE of a fenced page leaves CTL.EN as it is and is logged as a
refused write. Of a page that is not fenced it sets CTL.EN: at once on a page without a check of its own; on a cluster page that
is off where no lane of it breaks R142; on the PSH page that is off where Ndear-C does not run from bank 3 and no card waits; on
the SDL, PGL and CLN pages it does what SUNDIAL_ENABLE, PERGOLA_ENABLE and CLN_ENABLE do. BLOCK_RESET of any page sets
STA.RST_BUSY and puts every register of its header that the spec does not exempt back to its reset value, and on the SYS, LDG,
KSK, HIF and CCP pages every other register of theirs too. BLOCK_RESET_COMPLETE clears RST_BUSY, and the Fountain then starts.
LOCK_WRITE to a page not locked sets LOCK.LOCKED, and computes the digest of the format and table pages; a page already locked
stays as it is. (R11, R15, R75, R142, R198, R294, R353, R429, R465) -/
def Obligations.HeaderEnableResetLock : Prop :=
  (∀ (s : State) (port : Port) (p : Fin 4096) (b : Blk) (n : Nat), WriteReaches s port p Reg.Hdr.CTL → blkOf p = some (b, n) →
    (s.fencedPage p = true → ∃ t, exec (.blockEnable port p) s = .next t ∧ t.flag p Reg.Hdr.CTL 0 = s.flag p Reg.Hdr.CTL 0 ∧
      t.gate.log = (if 32 ≤ s.gate.log.length then s.gate.log.drop 1 else s.gate.log) ++
        [⟨2, decide (32 ≤ s.gate.log.length), port.bit, p, Reg.Hdr.CTL / 4⟩]) ∧
    (s.fencedPage p = false → p.val ≠ pPgl → p.val ≠ pCln → p.val ≠ pPsh → p.val ≠ pSdl → b ≠ .prc →
      exec (.blockEnable port p) s = .next (s.done (s.heard.setFlag p Reg.Hdr.CTL 0 true))) ∧
    (s.fencedPage p = false → b = .prc → s.enabled p = false → s.badLanes (p.val - 0x201) = [] →
      exec (.blockEnable port p) s = .next (s.done (s.heard.setFlag p Reg.Hdr.CTL 0 true))) ∧
    (s.fencedPage p = false → p.val = pPsh → s.enabled p = false → bankOf s.engC.pc ≠ some 3 → bankOf s.engC.tvec.toNat ≠ some 3 →
      s.psh.inserted = false → exec (.blockEnable port p) s = .next (s.done (s.heard.setFlag p Reg.Hdr.CTL 0 true))) ∧
    (p.val = pSdl → exec (.blockEnable port p) s = exec (.sundialEnable port) s) ∧
    (p.val = pPgl → exec (.blockEnable port p) s = exec (.pergolaEnable port) s) ∧
    (p.val = pCln → exec (.blockEnable port p) s = exec (.clnEnable port) s)) ∧
  (∀ (s : State) (port : Port) (p : Fin 4096) (b : Blk) (n : Nat), WriteReaches s port p Reg.Hdr.CTL → blkOf p = some (b, n) →
    ∃ t, exec (.blockReset port p) s = .next t ∧ t.flag p Reg.Hdr.STA 2 = true ∧
      ∀ o : Nat, o < 0x1000 → o ≠ Reg.Hdr.STA → o ≠ Reg.Hdr.FLT_STA → keptByBlockReset p o = false →
        (o < 0x40 → t.reg p o = regReset p o) ∧
        (p.val = pSys ∨ p.val = pLdg ∨ p.val = pHif ∨ p.val = pCcp ∨ p.val = pKsk →
          o ≠ Reg.Ccp.DMA_CMD → o ≠ Reg.Hif.XF_CMD → (p.val = pCcp → o ≠ Reg.Ccp.CCP_IP) → t.reg p o = regReset p o)) ∧
  (∀ (s : State) (p : Fin 4096), s.flag p Reg.Hdr.STA 2 = true →
    (p.val ≠ pFtn → exec (.blockResetComplete p) s = .next (s.done (s.start.setFlag p Reg.Hdr.STA 2 false))) ∧
    (p.val = pFtn → exec (.blockResetComplete p) s = .next (s.done (s.start.setFlag p Reg.Hdr.STA 2 false).ftnStart))) ∧
  (∀ (s : State) (port : Port) (p : Fin 4096) (b : Blk) (n : Nat), WriteReaches s port p Reg.Hdr.LOCK → blkOf p = some (b, n) →
    (s.locked p = true → exec (.lockWrite port p) s = .next (s.done s.heard)) ∧
    (s.locked p = false → b ≠ .ptr0 → b ≠ .pav →
      exec (.lockWrite port p) s = .next (s.done (s.heard.setFlag p Reg.Hdr.LOCK 0 true))) ∧
    (s.locked p = false → b = .ptr0 → exec (.lockWrite port p) s =
      .next (s.done ((s.heard.setFlag p Reg.Hdr.LOCK 0 true).setOctetRegs pPtr0 (Reg.Ptr0.FMT_DIGEST 0) s.fmtDigest))) ∧
    (s.locked p = false → b = .pav → exec (.lockWrite port p) s =
      .next (s.done ((s.heard.setFlag p Reg.Hdr.LOCK 0 true).setOctetRegs pPav (Reg.Pav.TBL_DIGEST 0) s.tblDigest))))

/-- A claim takes what nobody else holds, and a conflict is logged. CLAIM_WRITE to the PRM page or a FLY page: a bit of the page's
resources written 0 is released; one written 1 is held afterwards if the page held it or neither the Sundial (compare groups), the
fabric page nor another FLY page holds it, and stays released otherwise; a CLAIM_CONFLICT entry is logged exactly where some bit
was refused. (R17, R113, R168) -/
def Obligations.FirstClaimWins : Prop :=
  ∀ (s : State) (port : Port) (p : Fin 4096) (n : Nat) (b : Blk) (v : Word), WriteReaches s port p Reg.Hdr.CLAIM →
    blkOf p = some (b, n) → b = .prm ∨ b = .fly →
    ∃ t, exec (.claimWrite port p v) s = .next t ∧
      (∀ i < 24, b.claimMask.testBit i = true →
        t.flag p Reg.Hdr.CLAIM i = (bitAt v i && (s.flag p Reg.Hdr.CLAIM i || !s.claimTaken b p i))) ∧
      (∀ i < 24, b.claimMask.testBit i = false → t.flag p Reg.Hdr.CLAIM i = s.flag p Reg.Hdr.CLAIM i) ∧
      ((∃ i < 24, b.claimMask.testBit i = true ∧ bitAt v i = true ∧ s.flag p Reg.Hdr.CLAIM i = false ∧ s.claimTaken b p i = true) →
        t.gate.log = (if 32 ≤ s.gate.log.length then s.gate.log.drop 1 else s.gate.log) ++
          [⟨4, decide (32 ≤ s.gate.log.length), port.bit, p, Reg.Hdr.CLAIM / 4⟩]) ∧
      ((∀ i < 24, b.claimMask.testBit i = true → bitAt v i = true → s.flag p Reg.Hdr.CLAIM i = true ∨ s.claimTaken b p i = false) →
        t.gate.log = s.gate.log)

/-- A shadow pair: the value pends, its exact inverse completes it, and a window that ends discards it. SHADOW_PRIMARY_WRITE of a
shadowed register leaves the value pending and the register as it was. SHADOW_INVERSE_WRITE with the exact inverse completes the
pair (said of AOUT_SAFE, which no rule of its own refuses): the register takes the pending value and nothing pends; with any other
word it raises a shadow event of case 1: SHD_LOG names the page, the offset and the case, and no register outside the HDG page and
the CCP page changes. SHADOW_WINDOW_EXPIRY drops the pair with an event of case 2. SHADOW_MISMATCH raises an event of case 5 the
first time the difference is found, and has no effect afterwards. (R18, R19, R449) -/
def Obligations.ShadowPairs : Prop :=
  (∀ (s : State) (port : Port) (p : Fin 4096) (o : Fin 2048) (v : Word) (b : Blk) (n : Nat) (r : RegSpec),
    WriteReaches s port p o → blkOf p = some (b, n) → 0x40 ≤ o.val → o.val % 4 = 0 → specOf p o = some r → r.shadowed = true →
    s.absentPort b n o = false →
    exec (.shadowPrimaryWrite port p o v) s = .next (s.done { s.heard with gate.pairs := [⟨p, o, v, port⟩] })) ∧
  (∀ (s : State) (port : Port) (p : Fin 4096) (o : Fin 2048) (v w : Word) (b : Blk) (n : Nat) (r : RegSpec),
    WriteReaches { s with gate.pairs := [] } port p o → s.gate.pairs = [⟨p, o, v, port⟩] →
    blkOf p = some (b, n) → o.val % 4 = 0 → specOf p o = some r → r.shadowed = true →
    ∃ t, exec (.shadowInverseWrite port p o w) s = .next t ∧ 
      (w = ~~~v → b = .ldg → (o.val = Reg.Ldg.AOUT_SAFE 0 ∨ o.val = Reg.Ldg.AOUT_SAFE 1) → t.gate.pairs = [] ∧ t.reg p o = v ∧
        ∀ q u : Nat, u < 0x1000 → ¬ (q = p ∧ u = o) → ¬ (q = pCcp ∧ u = Reg.Ccp.CCP_IP) → t.reg q u = s.reg q u) ∧
      (w ≠ ~~~v → s.hdgForced 7 = false → t.gate.pairs = [] ∧
        t.reg pHdg Reg.Hdg.SHD_LOG = BitVec.ofNat 32 (p + o / 4 % 2048 * 2 ^ 12 + 1 * 2 ^ 24) ∧
        ∀ q u : Nat, u < 0x1000 → q ≠ pHdg → q ≠ pCcp → t.reg q u = s.reg q u)) ∧
  (∀ (s : State) (p : Fin 4096) (q : PendingPair), s.gate.pairs = [q] → q.page = p → s.gate.held = [] → s.hdgForced 7 = false →
    ∃ t, exec (.shadowWindowExpiry p) s = .next t ∧ t.gate.pairs = [] ∧
      t.reg pHdg Reg.Hdg.SHD_LOG = BitVec.ofNat 32 (p + q.off / 4 % 2048 * 2 ^ 12 + 2 * 2 ^ 24) ∧
      t.fld pHdg Reg.Hdg.SHD_CNT 15 0 = min (s.fld pHdg Reg.Hdg.SHD_CNT 15 0 + 1) 65535) ∧
  (∀ (s : State) (p : Fin 4096) (o : Fin 2048), s.hdg.mismatch.contains (regKey p o) = false → s.hdgForced 7 = false →
    ∃ t, exec (.shadowMismatch p o) s = .next t ∧ t.hdg.mismatch = regKey p o :: s.hdg.mismatch ∧ t.hdg.active.contains 7 = true ∧
      t.reg pHdg Reg.Hdg.SHD_LOG = BitVec.ofNat 32 (p + o / 4 % 2048 * 2 ^ 12 + 5 * 2 ^ 24)) ∧
  (∀ (s : State) (p : Fin 4096) (o : Fin 2048), s.hdg.mismatch.contains (regKey p o) = true →
    exec (.shadowMismatch p o) s = .next (s.done s.start))

/-- PRF is written while the Pergola is off, and refused while it is on. PRF_WRITE while the Pergola is not enabled and the page is
not locked: PRF_SEL takes the written field, a value 3 being discarded; while the Pergola is enabled the register keeps its value
and one entry of kind REFUSED is logged. (R20, R21) -/
def Obligations.ProfileIsFixedWhileScheduled : Prop :=
  (∀ (s : State) (port : Port) (v : Word), WriteReaches s port pSys Reg.Sys.PRF → s.pglOn = false → s.locked pSys = false →
    ∃ w, exec (.prfWrite port v) s = .next (s.done (s.heard.setReg pSys Reg.Sys.PRF w)) ∧
      bits w 1 0 = if bits v 1 0 = 3 then s.fld pSys Reg.Sys.PRF 1 0 else bits v 1 0) ∧
  (∀ (s : State) (port : Port) (v : Word), WriteReaches s port pSys Reg.Sys.PRF → s.pglOn = true →
    ∃ t, exec (.prfWrite port v) s = .next t ∧ t.reg pSys Reg.Sys.PRF = s.reg pSys Reg.Sys.PRF ∧
      t.gate.log = (if 32 ≤ s.gate.log.length then s.gate.log.drop 1 else s.gate.log) ++
        [⟨2, decide (32 ≤ s.gate.log.length), port.bit, pSys, Reg.Sys.PRF / 4⟩])

/-- Each reset trigger records its cause and resets the main domain, and keeps what it must. With the main domain running and no MRAM
operation in progress, RST_N_LOW, RST_REQ_WRITE, WATCHDOG_EXPIRY with the watchdog enabled, LIVENESS_LOSS of an expected strobe,
SYSCLK_LOSS and BROWN_OUT_RESET of a supply below its threshold each set their RST_CAUSE bit (PIN 2, SW 6, WDG 3, LIVE 4, CLK 7,
BOR 1) and reset the main domain: every register the reset does not keep reads its reset value, the kept ones their value, the
engines and the time, slot, stream, key and twin state start again, every SRAM is cleared, and the MRAM, the OTP row, the well and
the fault history stay. A liveness loss and a SYSCLK loss hold ERR_N; a brown-out names its supply in BOR_SRC. While VDDIO18 is
lost a low RST_N is only noted, and a brown-out and a SYSCLK loss record nothing. (R61, R62, R63, R79, R80, R81, R75, R50, R44,
R540) -/
def Obligations.ResetTriggersReachTheMainDomain : Prop :=
  (∀ s : State, s.ldg.phase = .running → s.nvm.run = none → s.pwr.vddio18Lost = false →
    ∃ t, exec .rstNLow s = .next t ∧ ResetReach s t ∧ t.flag pLdg Reg.Ldg.RST_CAUSE 2 = true ∧ t.ldg.rstNLow = true) ∧
  (∀ s : State, s.pwr.vddio18Lost = true → exec .rstNLow s = .next (s.done { s.start with ldg.rstNLow := true }) ∧
    exec .sysclkLoss s = .next (s.done s.start) ∧ ∀ x, exec (.brownOutReset x) s = .next (s.done s.start)) ∧
  (∀ (s : State) (port : Port), WriteReaches s port pLdg Reg.Ldg.RST_REQ → s.nvm.run = none →
    ∃ t, exec (.rstReqWrite port) s = .next t ∧ ResetReach s t ∧ t.flag pLdg Reg.Ldg.RST_CAUSE 6 = true) ∧
  (∀ s : State, s.ldg.phase = .running → s.nvm.run = none → s.flag pLdg Reg.Ldg.WDG_CFG 0 = true →
    ∃ t, exec .watchdogExpiry s = .next t ∧ ResetReach s t ∧ t.flag pLdg Reg.Ldg.RST_CAUSE 3 = true) ∧
  (∀ (s : State) (x : Strobe), s.ldg.phase = .running → s.nvm.run = none → s.strobeExpected x = true →
    ∃ t, exec (.livenessLoss x) s = .next t ∧ ResetReach s t ∧ t.flag pLdg Reg.Ldg.RST_CAUSE 4 = true ∧ t.errN = true) ∧
  (∀ s : State, s.ldg.phase = .running → s.nvm.run = none → s.pwr.sysclkLost = false → s.pwr.vddio18Lost = false →
    ∃ t, exec .sysclkLoss s = .next t ∧ ResetReach s t ∧ t.flag pLdg Reg.Ldg.RST_CAUSE 7 = true ∧ t.errN = true ∧
      t.pwr.sysclkLost = true) ∧
  (∀ (s : State) (x : Supply), s.nvm.run = none → s.pwr.low.contains x = true → s.pwr.vddio18Lost = false →
    ∃ t, exec (.brownOutReset x) s = .next t ∧ ResetReach s t ∧ t.flag pLdg Reg.Ldg.RST_CAUSE 1 = true ∧
      t.fld pSys Reg.Sys.PWR_STA 15 12 = x.code + 1)

/-- A held reset is released once nothing holds it, and the Fountain starts. With the main domain held, every supply in range and
SYSCLK present: RST_N_RELEASE after the 20 us have passed, DEVICE_RESET_RELEASE with RST_N high, SYSCLK_RECOVERY with RST_N high,
and POWER_UP after a supply loss with RST_N high release it: the main domain runs, the Fountain is in STARTUP with cores unmasked,
and the boot counts from this instant. While RST_N is low DEVICE_RESET_RELEASE releases nothing. SYSCLK_RECOVERY sets SYS FLT_STA
bit 4; POWER_UP out of order sets SEQ_ERR. (R64, R41, R50, R353) -/
def Obligations.HeldResetIsReleased : Prop :=
  (∀ s : State, s.ldg.phase = .held → s.ldg.t4 = true → s.pwr.sysclkLost = false → s.pwr.low = [] → s.pwr.vddio18Lost = false →
    ∃ t, exec .rstNRelease s = .next t ∧ t.ldg.phase = .running ∧ t.ldg.rstNLow = false ∧ t.ftn.st = .startup ∧
      t.flag pFtn Reg.Hdr.STA 10 = true ∧ t.boot.t0 = s.now ∧ t.mem = s.mem ∧ t.well = s.well) ∧
  (∀ s : State, s.ldg.phase = .held → s.ldg.rstNLow = false → s.pwr.sysclkLost = false → s.pwr.low = [] → s.pwr.vddio18Lost = false →
    ∃ t, exec .deviceResetRelease s = .next t ∧ t.ldg.phase = .running ∧ t.ftn.st = .startup ∧ t.flag pFtn Reg.Hdr.STA 10 = true ∧
      t.boot.t0 = s.now ∧ t.mem = s.mem ∧ t.well = s.well) ∧
  (∀ s : State, s.ldg.phase = .held → s.ldg.rstNLow = true →
    exec .deviceResetRelease s = .next (s.done { s.start with ldg.t4 := true })) ∧
  (∀ s : State, s.pwr.sysclkLost = true → s.ldg.phase = .held → s.ldg.rstNLow = false → s.pwr.low = [] → s.pwr.vddio18Lost = false →
    ∃ t, exec .sysclkRecovery s = .next t ∧ t.pwr.sysclkLost = false ∧ t.ldg.phase = .running ∧ t.ftn.st = .startup ∧
      t.flag pSys Reg.Hdr.FLT_STA 4 = true ∧ t.mem = s.mem) ∧
  (∀ (s : State) (inOrder : Bool), s.pwr.vddio18Lost = true → s.ldg.phase = .held → s.ldg.rstNLow = false → s.pwr.sysclkLost = false →
    ∃ t, exec (.powerUp inOrder) s = .next t ∧ t.pwr.low = [] ∧ t.pwr.vddio18Lost = false ∧ t.well.onVbat = false ∧
      t.pwr.vbatOk = true ∧ t.pwr.cdVioOk = true ∧ t.pwr.refALost = false ∧ t.pwr.refBLost = false ∧
      t.ldg.phase = .running ∧ t.ftn.st = .startup ∧ (inOrder = false → t.flag pSys Reg.Sys.PWR_STA 16 = true) ∧
      (inOrder = true → t.flag pSys Reg.Sys.PWR_STA 16 = s.flag pSys Reg.Sys.PWR_STA 16) ∧ t.mem = s.mem)

/-- Dips hold the MRAM back, their end lets it go on, and a lost VDDIO18 clears what the Lodge holds. SUPPLY_DIP marks the supply low
and stops new MRAM erases and programs, and without VDDIO33 every AOUT ball is high-impedance; SUPPLY_RECOVERY of the only low
one, with no MRAM operation held, ends that, and with another still low it does not. VDDIO18_LOSS with no MRAM operation in
progress puts the main domain and the Lodge-held state at their reset values: RST_CAUSE, AOUT_SAFE and the fault history too,
while the Hedge registers the well holds keep their value, and the well counts on from VBAT; with VBAT below 2.2 V nothing holds
the well. VBAT_LOSS on backup loses the well's contents; with VDDIO18 present they stay. CD_VIO_OUT_OF_RANGE sets SYS FLT_STA bit
5 while the slot is powered. REF10M_LOSS records event 7 and sets SDL FLT_STA bit 7; REF10M_RECOVERY makes REF10M present again.
(R44, R45, R450, R540, R47, R453, R60, R90) -/
def Obligations.SupplyEvents : Prop :=
  (∀ (s : State) (x : Supply), s.pwr.low.contains x = false →
    (x ≠ .vddio33 → exec (.supplyDip x) s = .next (s.done { s.start with pwr.low := x :: s.pwr.low, nvm.dip := true })) ∧
    (x = .vddio33 → exec (.supplyDip x) s =
      .next (s.done { s.start with pwr.low := x :: s.pwr.low, nvm.dip := true, ldg.aout := List.replicate 32 .z }))) ∧
  (∀ (s : State) (x : Supply), s.pwr.low.contains x = true → (x = .vddio18 → s.pwr.vddio18Lost = false) → s.nvm.deferred = [] →
    s.pwr.low.filter (· ≠ x) ≠ [] → ∃ t, exec (.supplyRecovery x) s = .next t ∧ t.pwr.low = s.pwr.low.filter (· ≠ x) ∧ t.nvm.dip = true ∧
      t.nvm.run = s.nvm.run ∧ t.mem = s.mem) ∧
  (∀ (s : State) (x : Supply), s.pwr.low = [x] → x ≠ .vddio33 → (x = .vddio18 → s.pwr.vddio18Lost = false) → s.nvm.run = none →
    s.nvm.deferred = [] → exec (.supplyRecovery x) s = .next (s.done { s.start with pwr.low := [], nvm.dip := false })) ∧
  (∀ s : State, s.pwr.vddio18Lost = false → s.nvm.run = none → s.ksk.field = false →
    ∃ t, exec .vddio18Loss s = .next t ∧ t.pwr.vddio18Lost = true ∧ t.pwr.low.contains .vddio18 = true ∧ t.well.onVbat = true ∧
      (s.pwr.vbatOk = true → t.well = { s.well with onVbat := true, ticks := 0, staLoss := if s.sdl.state = .free then none else some s.sdl.time }) ∧
      (s.pwr.vbatOk = false → t.well.bbr = Well.reset.bbr ∧ t.well.pattern = false) ∧ t.blv.hist = [] ∧ t.ldg.phase = .held ∧
      (∀ p o : Nat, p < 0x1000 → o < 0x1000 → (keptByReset (regKey p o) && keptByWell false (regKey p o)) = false →
        ¬ (p = pCcp ∧ o = Reg.Ccp.CCP_IP) → t.reg p o = regReset p o) ∧
      (∀ i < 8, t.reg pHdg (srcCfgOff i) = s.reg pHdg (srcCfgOff i))) ∧
  (∀ s : State, s.well.onVbat = true →
    exec .vbatLoss s = .next (s.done { s.start with pwr.vbatOk := false, well := { Well.reset with pattern := false, onVbat := true } })) ∧
  (∀ s : State, s.well.onVbat = false → exec .vbatLoss s = .next (s.done { s.start with pwr.vbatOk := false })) ∧
  (∀ s : State, s.fabricUp = true → s.psh.pwrEn = true →
    exec .cdVioOutOfRange s = .next (s.done (State.fault { s.start with pwr.cdVioOk := false } pSys 5))) ∧
  (∀ s : State, s.pwr.ref10mLost = false →
    ∃ t, exec .ref10mLoss s = .next t ∧ t.pwr.ref10mLost = true ∧ t.flag pSdl Reg.Hdr.FLT_STA 7 = true ∧
      t.sdl.evt.getLast? = some ⟨7, decide (16 ≤ s.sdl.evt.length), s.sdl.slotCnt % 2 ^ 24⟩) ∧
  (∀ s : State, exec .ref10mRecovery s = .next (s.done { s.start with pwr.ref10mLost := false }))

/-- A lost reference clock takes down every lane it serves that has a mode. REFCLK_LOSS sets SYS FLT_STA bit 2 for REFCLK_A or 3 for
REFCLK_B; of every lane the clock serves whose LN_MODE.MODE is not 0, LNE FLT_STA bit 2 is set and SIG_DET, CDR_LOCK, BLK_LOCK and
LINK of STA read 0; the pages of the other lanes are unchanged. With REFCLK_B the links of the Colonnade's lanes go too. (R49,
R50, R60, R176, R177) -/
def Obligations.LostReferenceClockTakesItsLanesDown : Prop :=
  ∀ (s : State) (b : Bool), ∃ t, exec (.refclkLoss b) s = .next t ∧
    t.flag pSys Reg.Hdr.FLT_STA (if b then 3 else 2) = true ∧ (if b then t.pwr.refBLost = true else t.pwr.refALost = true) ∧
    (∀ n < 64, n ∈ refLanes b → s.laneMode n ≠ 0 →
      t.flag (pLne n) Reg.Hdr.FLT_STA 2 = true ∧ t.fld (pLne n) Reg.Hdr.STA 12 9 = 0) ∧
    (∀ n < 64, n ∉ refLanes b → ∀ o < 0x1000, t.reg (pLne n) o = s.reg (pLne n) o) ∧
    (b = true → t.fld pCln Reg.Cln.SIDE_STA 3 0 = 0 ∧ ∀ l < 4, t.flag pCln (Reg.Cln.CL_STA l) 3 = false)

/-- AVS setpoints move by 10 mV at most within 720 to 800 mV, a silent regulator ends them, and the hottest sensor shows. AVS_REQUEST,
unless the first request went unanswered, sends a setpoint of 720 to 800 mV, within 10 mV of the last one where that was in this
range, and the one asked for where it is within both; VDD_REQ shows it, AVS_ACK is set and AVS_ERR clears. AVS_NO_ACK sets AVS_ERR
and SYS FLT_STA bit 1; where it is the first request since the reset it also sets VDD_REQ to 800 mV and ends further requests, and
where it is not, requests go on. TEMP_CONVERSION with every reading strictly inside the Hedge's temperature thresholds writes the
hottest of the eight readings and its first sensor to TEMP_MAX with its valid bit, and THERM_N goes low where that reading has
reached ALARM. (R38, R39, R58, R55, R56, R57, R60) -/
def Obligations.VoltageAndTemperature : Prop :=
  (∀ (s : State) (mv : Fin 1024), s.fabricUp = true → s.pwr.avsSilent = false →
    ∃ t, exec (.avsRequest mv) s = .next t ∧ ∀ v, v = t.fld pSys Reg.Sys.AVS_STA 9 0 → t.out = [.avs v] ∧ 720 ≤ v ∧ v ≤ 800 ∧
      (720 ≤ s.fld pSys Reg.Sys.AVS_STA 9 0 → s.fld pSys Reg.Sys.AVS_STA 9 0 ≤ 800 →
        v ≤ s.fld pSys Reg.Sys.AVS_STA 9 0 + 10 ∧ s.fld pSys Reg.Sys.AVS_STA 9 0 - 10 ≤ v) ∧
      (720 ≤ mv.val → mv.val ≤ 800 → s.fld pSys Reg.Sys.AVS_STA 9 0 - 10 ≤ mv.val → mv.val ≤ s.fld pSys Reg.Sys.AVS_STA 9 0 + 10 → v = mv) ∧
      t.flag pSys Reg.Sys.AVS_STA 16 = true ∧ t.flag pSys Reg.Sys.AVS_STA 17 = false ∧
      ∀ p o : Nat, o < 0x1000 → ¬ (p = pSys ∧ o = Reg.Sys.AVS_STA) → ¬ (p = pCcp ∧ o = Reg.Ccp.CCP_IP) → t.reg p o = s.reg p o) ∧
  (∀ s : State, s.fabricUp = true → s.pwr.avsSilent = false →
    ∃ t, exec .avsNoAck s = .next t ∧ t.flag pSys Reg.Sys.AVS_STA 16 = false ∧ t.flag pSys Reg.Sys.AVS_STA 17 = true ∧
      t.flag pSys Reg.Hdr.FLT_STA 1 = true ∧ t.pwr.avsAsked = true ∧
      (s.pwr.avsAsked = false → t.fld pSys Reg.Sys.AVS_STA 9 0 = 800 ∧ t.pwr.avsSilent = true) ∧
      (s.pwr.avsAsked = true → 720 ≤ t.fld pSys Reg.Sys.AVS_STA 9 0 ∧ t.fld pSys Reg.Sys.AVS_STA 9 0 ≤ 800 ∧ t.pwr.avsSilent = false)) ∧
  (∀ (s : State) (mv : Fin 1024), s.pwr.avsSilent = true →
    exec (.avsRequest mv) s = .next (s.done s.start) ∧ exec .avsNoAck s = .next (s.done s.start)) ∧
  (∀ (s : State) (ts : List Int), s.fabricUp = true → tempConversionOk ts = true →
    (∀ x ∈ ts, x < temp12 (s.fld pHdg Reg.Hdg.TEMP_CFG 11 0) ∧ temp12 (s.fld pHdg Reg.Hdg.TEMP_CFG 27 16) < x) →
    ∃ (t : State) (i : Nat) (x : Int), exec (.tempConversion ts) s = .next t ∧ ts[i]? = some x ∧ (∀ y ∈ ts, y ≤ x) ∧
      (∀ j < i, ∀ y, ts[j]? = some y → y < x) ∧
      t.reg pSys Reg.Sys.TEMP_MAX = BitVec.ofNat 32 ((BitVec.ofInt 12 x).toNat + i * 2 ^ 12 + 2 ^ 31) ∧ t.pwr.temps = ts ∧
      (temp12 (s.fld pSys Reg.Sys.THERM_CFG 11 0) ≤ x → t.pwr.thermLow = true))

/-- The loads of win0 and win1 return window samples, context, constants, the slot record, GOOSE members, output words, curves and
transitions. In a run of entry e, with no word of memory in error and no error injected, each load lands the listed values after
its latency, f being 0: lw the head, the sample and flag word of a visible index, or zeros with OUTSIDE (and DISABLED), after 4;
lc a program word, lt a constant, a slot-record word, the outcomes or zero, lg a member and its block status, lo an output word
with its status, after 3; crv the curve after 6, held or extrapolated at its ends; fsm NEXT and ACTION after 5. Nothing else of
the block changes but the operand latches. A curve product of more than 64 bits is a free value of the model. (R272, R299, R300,
R301, R302, R307, R308, R309) -/
def Obligations.WindowLoads : Prop :=
  ∀ (s : State) (u : Fin 2) (o d t : Word) (run : Run), UnitReady s .pav (lsPort u) → s.pgl.run = some run → s.clean →
    (∀ i q lost, i = bits o 12 0 → q = bits o 15 13 → lost = b2n (s.stream i).lost * 2 ^ 17 → bits o 31 18 = 0 →
      (i < 4096 ∨ s.focusStreams = true) →
      (bitAt o 17 = true → exec (.winLw u o d t) s = .next (s.winLanded u o d 4 (BitVec.ofNat 32 ((s.stream i).fixed.getD 0))
        (some (BitVec.ofNat 32 (lost + b2n (!bitAt (s.svCfg i 0) 0) * 2 ^ 18 + b2n ((s.stream i).live && !(s.stream i).lost) * 2 ^ 19))))) ∧
      (bitAt o 17 = false → bitAt (s.svCfg i 0) 0 = false → exec (.winLw u o d t) s = .next (s.winLanded u o d 4 0 (some 0x00050100))) ∧
      (bitAt o 17 = false → bitAt (s.svCfg i 0) 0 = true → ∀ h, (s.stream i).fixed = some h →
        (∀ n < h + 1, h < n + (s.winDepth - s.svRsv i) → (if bitAt o 16 = true then n % 2 ^ 32 = t.toNat else n + t.toNat = h) →
          exec (.winLw u o d t) s = .next (s.winLanded u o d 4 (s.peekWord rgSample (s.sampleOfs i q (n % s.winDepth)))
            (some (BitVec.ofNat 32 (s.flagOf i n + lost))))) ∧
        ((∀ n < h + 1, h < n + (s.winDepth - s.svRsv i) → ¬ (if bitAt o 16 = true then n % 2 ^ 32 = t.toNat else n + t.toNat = h)) →
          exec (.winLw u o d t) s = .next (s.winLanded u o d 4 0 (some (BitVec.ofNat 32 (0x10100 + lost))))))) ∧
    (∀ w, w = (o + t).toNat →
      (w < s.progWords run.entry → exec (.winLc u o d t) s =
        .next (s.winLanded u o d 3 (s.peekWord rgCtx (userOfs (s.ctxBase run.entry + w))) none)) ∧
      (w ≤ 0xFFBF → exec (.winLt u o d t) s = .next (s.winLanded u o d 3 (s.peekWord rgTable (0x6C0100 + 4 * w)) none)) ∧
      (0xFFF0 ≤ w → w ≤ 0xFFF7 → exec (.winLt u o d t) s = .next (s.winLanded u o d 3 (nth s.pav.slotRec (w - 0xFFF0) 0) none)) ∧
      (w = 0xFFF8 → exec (.winLt u o d t) s = .next (s.winLanded u o d 3 (BitVec.ofNat 32 (s.chan run.entry).outcomeK) none)) ∧
      (w = 0xFFF9 → exec (.winLt u o d t) s = .next (s.winLanded u o d 3 (BitVec.ofNat 32 (s.chan run.entry).lastK) none)) ∧
      (0xFFFA ≤ w → w ≤ 0xFFFF → exec (.winLt u o d t) s = .next (s.winLanded u o d 3 0 none)) ∧
      (w < 16384 → ∀ v, v = ((run.words.find? (fun e => e.1 = w)).map (fun e => e.2)).getD (s.committed w) →
        exec (.winLo u o d t) s = .next (s.winLanded u o d 3 v
          (some (BitVec.ofNat 32 (b2n (s.wordStatus w).1 + b2n (s.wordStatus w).2.1 * 2 + (s.wordStatus w).2.2 * 65536)))) ∧
        (s.ownerOf w ≠ none → (s.outWord w).never = false →
          s.wordStatus w = (s.wordStale w, false, min 65535 (s.pav.starts - (s.outWord w).commit))))) ∧
    (o.toNat < 8192 → t.toNat < 16 →
      (bitAt (s.gooseCfg o.toNat 0) 0 = false → exec (.winLg u o d t) s = .next (s.winLanded u o d 3 0 (some 0x00030000))) ∧
      (bitAt (s.gooseCfg o.toNat 0) 0 = true → ∀ b empty, b = s.block o.toNat →
        empty = (decide (bits (s.gooseCfg o.toNat (6 + t.toNat / 4)) (8 * (t.toNat % 4) + 7) (8 * (t.toNat % 4)) = 0xFF) ||
          decide (bits (s.gooseCfg o.toNat 0) 14 10 ≤ t.toNat)) →
        exec (.winLg u o d t) s = .next (s.winLanded u o d 3 (if empty then 0 else nth b.slot.members t.toNat 0)
          (some (BitVec.ofNat 32 (b2n b.slotRecvd + b2n b.slot.stale * 2 + b2n b.slot.cfgErr * 4 + b2n b.slotSeen * 8 + b.slot.chg * 256 +
            b2n empty * 65536)))))) ∧
    (∀ (c : Nat) (h : Word) (n : Nat) (x : Int), c = o.toNat → h = s.peekWord rgTable (0x6C0000 + 4 * c) → n = bits h 8 0 → x = t.toInt →
      c < 64 → bitAt h 31 = true → 2 ≤ n →
      (∀ i, (x < (s.curvePt c 0).1 ∧ bitAt h 9 = true ∧ i = 0) ∨
          ((s.curvePt c 0).1 ≤ x ∧ (s.curvePt c (n - 1)).1 ≤ x ∧ bitAt h 10 = true ∧ i = n - 2) →
        exec (.winCrv u o d t) s = .next (s.winLanded u o d 6
          (curveSeg x (s.curvePt c i).1 (s.curvePt c i).2 (s.curvePt c (i + 1)).1 (s.curvePt c (i + 1)).2) none)) ∧
      (x < (s.curvePt c 0).1 → bitAt h 9 = false →
        exec (.winCrv u o d t) s = .next (s.winLanded u o d 6 (BitVec.ofInt 32 (s.curvePt c 0).2) none)) ∧
      ((s.curvePt c 0).1 ≤ x → (s.curvePt c (n - 1)).1 ≤ x → bitAt h 10 = false →
        exec (.winCrv u o d t) s = .next (s.winLanded u o d 6 (BitVec.ofInt 32 (s.curvePt c (n - 1)).2) none)) ∧
      (∀ i, i + 2 ≤ n → (s.curvePt c 0).1 ≤ x → x < (s.curvePt c (n - 1)).1 → (s.curvePt c i).1 ≤ x →
        (∀ j, i < j → j + 2 ≤ n → x < (s.curvePt c j).1) →
        exec (.winCrv u o d t) s = .next (s.winLanded u o d 6
          (curveSeg x (s.curvePt c i).1 (s.curvePt c i).2 (s.curvePt c (i + 1)).1 (s.curvePt c (i + 1)).2) none))) ∧
    (o.toNat < 32 → bits t 31 12 = 0 → ∀ w, w = s.peekWord rgTable (0x620000 + 0x4000 * o.toNat + 4 * (16 * bits t 7 0 + bits t 11 8)) →
      exec (.winFsm u o d t) s = .next (s.winLanded u o d 5 (BitVec.ofNat 32 (bits w 7 0)) (some (BitVec.ofNat 32 (bits w 31 8)))))

/-- The stores of win0 and win1 wait for the end of their cycle, within what the channel owns. In a run of entry e: sc to a program
word, so to an output word of the entry's own that is no SVBUF with room in the run buffer, ss and sq to one of its SVBUF words,
sa with a valid control word for a ball of AOUT_MASK as one of the run's first eight, and se with an event code below 4096 each
hold their store to the end of the cycle; nothing else of the block changes but the operand latches. (R272, R298, R299, R302,
R304, R305, R306) -/
def Obligations.WindowStores : Prop :=
  ∀ (s : State) (u : Fin 2) (o d t : Word) (run : Run), UnitReady s .pav (lsPort u) → s.pgl.run = some run →
    ((o + t).toNat < s.progWords run.entry →
      exec (.winSc u o d t) s = .next (s.winStored u o d (.ctx (s.ctxBase run.entry + (o + t).toNat) d))) ∧
    (s.ownerOf o.toNat = some run.entry → (s.outWord o.toNat).typ ≠ 6 →
      (s.runStores.1.length < 256 ∨ o.toNat ∈ s.runStores.1) →
      exec (.winSo u o d t) s = .next (s.winStored u o d (.out o.toNat t))) ∧
    (s.ownerOf o.toNat = some run.entry → (s.outWord o.toNat).typ = 6 →
      (s.runStores.2.1 < 1024 → exec (.winSs u o d t) s = .next (s.winStored u o d (.sample o.toNat t d))) ∧
      exec (.winSq u o d t) s = .next (s.winStored u o d (.qual o.toNat t))) ∧
    (bits o 31 25 = 0 → bitAt (s.chn run.entry 3) (bits o 4 0) = true → s.runStores.2.2 < 8 →
      exec (.winSa u o d t) s = .next (s.winStored u o d (.aout ⟨o, d, t⟩))) ∧
    (o.toNat < 4096 → exec (.winSe u o d t) s = .next (s.winStored u o d (.event ⟨o, t⟩)))

/-- An operand that R299 excludes raises ADDR, and the trap ends the run. In a run with nothing stored or landing in its cycle: each
operation of win0 and win1 whose operand R299 excludes ends the run with an ADDR trap: no run is in progress afterwards, the
newest entry of the trap log has code 0x0A, the entry, and in TVAL the operand that failed, and the committed output words are as
they were. (R288, R299, R302, R310) -/
def Obligations.WindowAddressTraps : Prop :=
  ∀ (s : State) (u : Fin 2) (o d t : Word) (run : Run), UnitReady s .pav (lsPort u) → s.pgl.run = some run → s.engP.defer = [] → s.engP.flight = [] →
    ∀ e ∈ ([
      (.winLw u o d t, decide (bits o 31 18 ≠ 0 ∨ 4096 ≤ bits o 12 0 ∧ s.focusStreams = false), o), (.winLc u o d t, decide (s.progWords run.entry ≤ (o + t).toNat), o + t),
      (.winLt u o d t, decide (0xFFC0 ≤ (o + t).toNat ∧ (o + t).toNat ≤ 0xFFEF ∨ 0xFFFF < (o + t).toNat), o + t),
      (.winLg u o d t, decide (8192 ≤ o.toNat), o), (.winLg u o d t, decide (o.toNat < 8192 ∧ 16 ≤ t.toNat), t),
      (.winLo u o d t, decide (16384 ≤ (o + t).toNat), o + t), (.winCrv u o d t, decide (64 ≤ o.toNat), o),
      (.winFsm u o d t, decide (32 ≤ o.toNat), o), (.winFsm u o d t, decide (o.toNat < 32 ∧ bits t 31 12 ≠ 0), t),
      (.winSc u o d t, decide (s.progWords run.entry ≤ (o + t).toNat), o + t),
      (.winSo u o d t, decide (s.ownerOf o.toNat ≠ some run.entry ∨ (s.outWord o.toNat).typ = 6), o),
      (.winSs u o d t, decide (s.ownerOf o.toNat ≠ some run.entry ∨ (s.outWord o.toNat).typ ≠ 6), o),
      (.winSq u o d t, decide (s.ownerOf o.toNat ≠ some run.entry ∨ (s.outWord o.toNat).typ ≠ 6), o),
      (.winSa u o d t, decide (bits o 31 25 ≠ 0 ∨ bitAt (s.chn run.entry 3) (bits o 4 0) = false), o),
      (.winSe u o d t, decide (bits o 31 12 ≠ 0), o)] : List (Instr × Bool × Word)), e.2.1 = true →
    ∃ x, exec e.1 s = .next x ∧ x.pgl.run = none ∧
      x.pav.traps.getLast?.map (fun r => (r.code, r.entry, r.tval)) = some (0x0A, run.entry, e.2.2) ∧ (∀ w, x.outWord w = s.outWord w)

/-- Bounds checks, the data stack and the repeat counts. On a core that can act: bnd.chk and bnd.chku of a value within the limits and
bnd.clp of any value land r and f after one cycle (lo where lo > hi); stk.push with room stores the word at the top (on Ndear-P
with the end of the cycle) and counts the depth up, stk.pop and stk.peek within the depth land the word after 2 cycles, pop
counting down; rep.t up to 65,535 and rep.tn up to 256, outside a repeat and with no transfer pending, set the count of the next
bundle. Nothing else of the block changes. (R281, R282, R283, R285) -/
def Obligations.BoundsStackAndRepeat : Prop :=
  ∀ (s : State) (c : Cpu) (t : Word),
    (UnitReady s c 0x30 → ∀ lo hi : Word, ∀ g : Word → Word → Engine,
      g = (fun r f => (s.eng c).operates 0x30 [(0x30, lo), (0x31, hi)] 1 [(0x3E, r), (0x3F, f)]) →
      (lo.toInt ≤ t.toInt → t.toInt ≤ hi.toInt → exec (.bndChk c lo hi t) s = .next (s.done (s.start.setEng c (g t 0)))) ∧
      (lo.toNat ≤ t.toNat → t.toNat ≤ hi.toNat → exec (.bndChku c lo hi t) s = .next (s.done (s.start.setEng c (g t 0)))) ∧
      (∀ r, r = (if hi.toInt < lo.toInt ∨ t.toInt < lo.toInt then lo else if hi.toInt < t.toInt then hi else t) →
        exec (.bndClp c lo hi t) s = .next (s.done (s.start.setEng c (g r (if r = t then 0 else 1)))))) ∧
    (UnitReady s c 0x18 → c = .pav → s.engP.dsBase + s.engP.depth < s.engP.dsLimit →
      exec (.stkPush .pav t) s = .next (s.done (s.start.setEng .pav { s.engP.joined 0x18 [] with
        defer := s.engP.defer ++ [(2, .ctx (s.engP.dsBase + s.engP.depth) t)], depth := s.engP.depth + 1 }))) ∧
    (UnitReady s c 0x18 → ∀ a : Nat, c = .core → a = s.engC.dsb.toNat / 4 * 4 + 4 * s.engC.depth → inCsram a 4 = true → a + 4 ≤ s.engC.dsl.toNat / 4 * 4 →
      s.clean →
      ∃ x, exec (.stkPush .core t) s = .next x ∧ x.engC = { s.engC.joined 0x18 [] with depth := s.engC.depth + 1 } ∧
        x.peekWord rgCsram (a - 0x20000000) = t ∧ (∀ b, b < a - 0x20000000 ∨ a - 0x20000000 + 4 ≤ b → x.peekMem rgCsram b 1 = s.peekMem rgCsram b 1) ∧
        ∀ p q : Nat, ¬ (p = pCcp ∧ q = Reg.Ccp.CCP_IP) → x.reg p q = s.reg p q) ∧
    (UnitReady s c 0x18 → ∀ rg a : Nat, s.clean → 0 < (s.eng c).depth → s.dsPlace c ((s.eng c).depth - 1) = some (rg, a) →
      exec (.stkPop c) s = .next (s.done (s.start.setEng c
        { (s.eng c).operates 0x18 [] 2 [(0x1B, s.peekWord rg a)] with depth := (s.eng c).depth - 1 }))) ∧
    (UnitReady s c 0x18 → ∀ rg a : Nat, s.clean → t.toNat < (s.eng c).depth → s.dsPlace c ((s.eng c).depth - 1 - t.toNat) = some (rg, a) →
      exec (.stkPeek c t) s = .next (s.done (s.start.setEng c ((s.eng c).operates 0x18 [] 2 [(0x1B, s.peekWord rg a)])))) ∧
    (UnitReady s c 9 → (s.eng c).rep = none → (s.eng c).xfer = none →
      (t.toNat ≤ 65535 → exec (.repT c t) s = .next (s.done (s.start.setEng c
        { (s.eng c).joined 9 [] with nextRep := some ⟨t.toNat, 0, true⟩ }))) ∧
      (t.toNat ≤ 256 → exec (.repTn c t) s = .next (s.done (s.start.setEng c
        { (s.eng c).joined 9 [] with nextRep := some ⟨t.toNat, 0, false⟩ }))))

/-- Control transfers wait two delay bundles, calls push and returns pop, and a taken transfer moves issue. With no transfer pending
and no repeat in progress or begun in the cycle: ctl.jmp, ctl.br, ctl.call, ctl.callr and ctl.ret leave a transfer to their target
pending with its delay bundles, calls pushing the address three bundles on and ret popping; ctl.eret (SYS mode) leaves the return
pending and ctl.wfi (SYS mode) stalls issue. CONTROL_TRANSFER_TAKEN of a transfer whose delay bundles have issued moves issue to
its target; of ctl.eret it restores MODE and IE, resumes at sys.epc with the repetitions of sys.erep left, and both saved
registers read 0. Nothing else of the block changes. (R278, R279, R281, R290) -/
def Obligations.ControlTransfers : Prop :=
  (∀ (s : State) (c : Cpu) (t : Word), UnitReady s c 0x20 → (s.eng c).xfer = none → (s.eng c).rep = none → (s.eng c).nextRep = none →
    ∀ (n : Nat) (rel ret : Nat) (go : Nat → Engine), n = (if c = .pav then 1 else 8) → rel = ((s.eng c).pc + n * t.toNat) % 2 ^ 32 →
      ret = ((s.eng c).pc + 3 * n) % 2 ^ 32 → go = (fun a => { (s.eng c).joined 0x20 [] with xfer := some ⟨a, 3, false⟩ }) →
      exec (.ctlJmp c t) s = .next (s.done (s.start.setEng c (go t.toNat))) ∧
      exec (.ctlBr c t) s = .next (s.done (s.start.setEng c (go rel))) ∧
      ((s.eng c).rs.length < (if c = .pav then 16 else 32) →
        exec (.ctlCall c t) s = .next (s.done (s.start.setEng c { go t.toNat with rs := ret :: (s.eng c).rs })) ∧
        exec (.ctlCallr c t) s = .next (s.done (s.start.setEng c { go rel with rs := ret :: (s.eng c).rs }))) ∧
      (∀ a rs, (s.eng c).rs = a :: rs → exec (.ctlRet c) s = .next (s.done (s.start.setEng c { go a with rs := rs }))) ∧
      (c = .core → bitAt s.engC.st 0 = true →
        exec (.ctlEret .core) s = .next (s.done (s.start.setEng .core { s.engC.joined 0x20 [] with xfer := some ⟨0, 3, true⟩ })) ∧
        exec (.ctlWfi .core) s = .next (s.done (s.start.setEng .core { s.engC.joined 0x20 [] with waiting := true })))) ∧
  (∀ (s : State) (c : Cpu) (a : Nat), s.fabricUp = true → (s.eng c).xfer = some ⟨a, 0, false⟩ →
    exec (.controlTransferTaken c) s = .next (s.done (s.start.setEng c { s.eng c with pc := a, xfer := none }))) ∧
  (∀ (s : State) (a : Nat), s.fabricUp = true → s.engC.xfer = some ⟨a, 0, true⟩ → s.engC.exfer = 0 →
    ∃ x, exec (.controlTransferTaken .core) s = .next x ∧ x.engC.pc = s.engC.epc.toNat ∧
      bitAt x.engC.st 0 = bitAt s.engC.st 3 ∧ bitAt x.engC.st 1 = bitAt s.engC.st 2 ∧ x.engC.xfer = none ∧
      x.engC.rep = (if s.engC.erep = 0 then none else some ⟨s.engC.erep.toNat % 2 ^ 17, 0, bitAt s.engC.erep 17⟩) ∧
      x.engC.erep = 0 ∧ x.engC.exfer = 0 ∧ x.engC.rf = s.engC.rf ∧ x.engC.rs = s.engC.rs)

/-- ctl.end commits the run and ctl.brk traps. CTL_END in a run with nothing deferred or in flight: the run ends, every output word it
stored has its last stored value and no other word a new one, the entry is no longer stale and its overrun streak is 0. CTL_BRK in
such a run ends it with a BREAK (0x0E) trap, its stores discarded and the entry stale; on Ndear-C it enters the trap: sys.epc the
next bundle, sys.cause 0x0E, MODE SYS, IE 0, PMODE and PIE the mode and enable before, issue at sys.tvec + 64 × 14. (R247, R278,
R280, R288, R289, R302) -/
def Obligations.RunEnds : Prop :=
  (∀ (s : State) (run : Run), UnitReady s .pav 0x20 → s.pgl.run = some run → s.engP.defer = [] → s.engP.flight = [] → s.engP.rep = none →
    (∃ x, exec (.ctlEnd .pav) s = .next x ∧ x.pgl.run = none ∧ x.engP = Engine.reset ∧
      (∀ w, (x.outWord w).value = ((run.words.find? (fun e => e.1 = w)).map (fun e => e.2)).getD (s.outWord w).value) ∧
      (x.entryStat run.entry).stale = false ∧ (x.entryStat run.entry).consec = 0 ∧
      (x.entryStat run.entry).lastUsed = run.charged + 1) ∧
    (∃ x, exec (.ctlBrk .pav) s = .next x ∧ x.pgl.run = none ∧
      x.pav.traps.getLast?.map (fun r => (r.code, r.entry)) = some (0x0E, run.entry) ∧ (∀ w, x.outWord w = s.outWord w) ∧ (x.entryStat run.entry).stale = true)) ∧
  (∀ s : State, UnitReady s .core 0x20 → s.engC.flight = [] → s.engC.rep = none →
    ∃ x, exec (.ctlBrk .core) s = .next x ∧ x.engC.epc = BitVec.ofNat 32 ((s.engC.pc + 8) % 2 ^ 32) ∧ x.engC.cause = 0x0E ∧
      x.engC.pc = (s.engC.tvec.toNat + 64 * 0x0E) % 2 ^ 32 ∧ bitAt x.engC.st 0 = true ∧ bitAt x.engC.st 1 = false ∧
      bitAt x.engC.st 2 = bitAt s.engC.st 1 ∧ bitAt x.engC.st 3 = bitAt s.engC.st 0 ∧ x.engC.xfer = none ∧ x.engC.rf = s.engC.rf ∧
      ∀ p o : Nat, ¬ (p = pCcp ∧ o = Reg.Ccp.CCP_IP) → x.reg p o = s.reg p o)

/-- INTERRUPT needs IE and a pending source, NMI only a source; both save the machine as a trap does. Where Ndear-C may be
interrupted, between bundles with no transfer pending and no long load outstanding: INTERRUPT_ENTRY with IE set and an enabled
source pending, and NMI_ENTRY with a pending source whatever IE holds, save the next bundle in sys.epc, an unfinished repeat in
sys.erep, 0 in sys.exfer and the cause with its interrupt bit; MODE is SYS, IE 0, PMODE and PIE what they were; issue goes to the
vector; the lowest NMI source is no longer pending and is named in CCP_NMI. WFI_RESUME with a source pending ends the stall of
ctl.wfi. The cause's bit 31 for an NMI too is the model's reading. (R277, R289, R291, R278) -/
def Obligations.InterruptsAreTakenBetweenBundles : Prop :=
  (∀ s : State, s.engC.use ≠ .ops → s.canInterrupt = true → s.engC.xfer = none → s.engC.longLoad = none →
    ∀ saved : State → Word → Nat → Prop, saved = (fun x cause code => x.engC.epc = BitVec.ofNat 32 s.engC.pc ∧ x.engC.cause = cause ∧
      x.engC.exfer = 0 ∧ x.engC.rep = none ∧
      x.engC.erep = (match s.engC.rep with | some q => BitVec.ofNat 32 ((q.n - q.k) + 2 ^ 17) | none => 0) ∧
      bitAt x.engC.st 0 = true ∧ bitAt x.engC.st 1 = false ∧ bitAt x.engC.st 2 = bitAt s.engC.st 1 ∧
      bitAt x.engC.st 3 = bitAt s.engC.st 0 ∧ x.engC.pc = (s.engC.tvec.toNat + 64 * code) % 2 ^ 32 ∧ x.engC.waiting = false ∧
      x.engC.rf = s.engC.rf ∧ x.mem = s.mem) →
    (bitAt s.engC.st 1 = true → s.ipend = true →
      ∃ x, exec .interruptEntry s = .next x ∧ saved x 0x80000020 0x20 ∧
        ∀ p o : Nat, ¬ (p = pCcp ∧ o = Reg.Ccp.CCP_IP) → x.reg p o = s.reg p o) ∧
    (∀ i < 3, s.ccp.nmi.testBit i = true → (∀ j < i, s.ccp.nmi.testBit j = false) →
      ∃ x, exec .nmiEntry s = .next x ∧ saved x 0x80000021 0x21 ∧ x.ccp.nmi = s.ccp.nmi - 2 ^ i ∧
        x.flag pCcp Reg.Ccp.CCP_NMI i = true)) ∧
  (∀ s : State, s.fabricUp = true → s.engC.waiting = true → (s.ipend = true ∨ s.ccp.nmi ≠ 0) →
    ∃ x, exec .wfiResume s = .next x ∧ x.engC = { s.engC with stalls := x.engC.stalls, waiting := false } ∧
      s.engC.stalls ≤ x.engC.stalls ∧ x.mem = s.mem ∧
      ∀ p o : Nat, ¬ (p = pCcp ∧ o = Reg.Ccp.CCP_IP) → x.reg p o = s.reg p o)

/-- Ndear-C loads extend as their form says, long loads wait, and stores are posted and complete in order. At an aligned address o + t
with no long load outstanding: a load from control SRAM with nothing queued lands its word, halfword or byte, sign- or zero-
extended, after 2 cycles; a load from the sample, packet or table memory becomes the long load outstanding; a store with room in
the queue is posted. LSU_SYNC with nothing queued does nothing more, and with stores to control SRAM queued it empties the queue.
STORE_COMPLETE of a store to control SRAM puts its octets there and changes no other octet, and of a word store to a register page
it is the write of that register. (R276, R505) -/
def Obligations.CoreLoadsAndStores : Prop :=
  (∀ (s : State) (o d t : Word) (a : Nat), UnitReady s .core 0x380 → s.engC.longLoad = none → a = (o + t).toNat →
    (inCsram a 4 = true → s.clean → s.engC.stores = [] → ∀ e ∈ ([
        (.lsuLw o t, 4, s.peekWord rgCsram (a - 0x20000000)),
        (.lsuLh o t, 2, (leWord (s.peekMem rgCsram (a - 0x20000000) 2)).setWidth 16 |>.signExtend 32),
        (.lsuLhu o t, 2, leWord (s.peekMem rgCsram (a - 0x20000000) 2)),
        (.lsuLb o t, 1, (leWord (s.peekMem rgCsram (a - 0x20000000) 1)).setWidth 8 |>.signExtend 32),
        (.lsuLbu o t, 1, leWord (s.peekMem rgCsram (a - 0x20000000) 1))] : List (Instr × Nat × Word)), a % e.2.1 = 0 →
      exec e.1 s = .next (s.done (s.start.setEng .core (s.engC.operates 0x380 [(0x380, o)] 2 [(0x39E, e.2.2), (0x39F, 0)])))) ∧
    (0x30000000 ≤ a → a < 0x36800000 → ∀ e ∈ ([(.lsuLw o t, 4, 2), (.lsuLh o t, 2, 3), (.lsuLhu o t, 2, 4), (.lsuLb o t, 1, 5),
        (.lsuLbu o t, 1, 6)] : List (Instr × Nat × Nat)), a % e.2.1 = 0 →
      exec e.1 s = .next (s.done (s.start.setEng .core { s.engC.joined 0x380 [(0x380, o)] with
        longLoad := some ⟨e.2.2, a⟩ }))) ∧
    ((inCsram a 4 = true ∨ 0x34000000 ≤ a ∧ a < 0x36800000) → s.engC.stores.length < 8 →
      ∀ e ∈ ([(.lsuSw o d t, 4), (.lsuSh o d t, 2), (.lsuSb o d t, 1)] : List (Instr × Nat)), a % e.2 = 0 →
      exec e.1 s = .next (s.done (s.start.setEng .core { s.engC.joined 0x380 [(0x380, o), (0x381, d)] with
        stores := s.engC.stores ++ [⟨a, e.2, d⟩] }))) ∧
    (s.engC.stores = [] → exec .lsuSync s = .next (s.done (s.start.setEng .core (s.engC.joined 0x380 [])))) ∧
    (s.engC.flight = [] → (∀ x ∈ s.engC.stores, inCsram x.addr x.width = true) → ∃ x, exec .lsuSync s = .next x ∧ x.engC.stores = [])) ∧
  (∀ (s : State) (q : PostedStore) (qs : List PostedStore), s.fabricUp = true → s.engC.stores = q :: qs →
    (inCsram q.addr q.width = true → q.width ≤ 4 → s.clean →
      ∃ x, exec .storeComplete s = .next x ∧ x.engC = { s.engC with stores := qs } ∧
        x.peekMem rgCsram (q.addr - 0x20000000) q.width = (wordOctets q.value).take q.width ∧
        (∀ b, b < q.addr - 0x20000000 ∨ q.addr - 0x20000000 + q.width ≤ b → x.peekMem rgCsram b 1 = s.peekMem rgCsram b 1) ∧
        ∀ p o : Nat, ¬ (p = pCcp ∧ o = Reg.Ccp.CCP_IP) → x.reg p o = s.reg p o) ∧
    (inPages q.addr = true → q.width = 4 →
      exec .storeComplete s = .next (s.done ({ s.start with engC.stores := qs }.busWrite .core q.addr q.value))))

/-- A bundle performs its moves and ends its cycle, and a result lands when its latency has passed. With no operation in the cycle in
progress, no transfer, no repeat and no results due: a bundle of two unguarded 16-bit immediate moves to two different registers
writes their sign-extended values, moves issue on by one bundle and counts one cycle, which on Ndear-P is charged to the run.
RESULT_LAND after an operation with one result in flight leaves the result in its port: on Ndear-C it ends as many cycles as the
latency asks for, with no long load, transfer or repeat pending, and on Ndear-P it charges the cycle in which the result is due.
(R254, R255, R256, R259, R260) -/
def Obligations.BundlesAndLandings : Prop :=
  (∀ (s : State) (i j : Fin 64) (x y : BitVec 16), s.fabricUp = true → s.coreRuns = true → s.engC.use ≠ .ops → s.engC.xfer = none →
    s.engC.rep = none → s.engC.nextRep = none → s.engC.flight = [] → i ≠ j →
    { s.start with engC.use := .bundle }.fetchC s.engC.pc =
      (.inl [BitVec.ofNat 32 (2 ^ 26 + x.toNat * 2 ^ 10 + (0x80 + i.val)), BitVec.ofNat 32 (2 ^ 26 + y.toNat * 2 ^ 10 + (0x80 + j.val))],
        { s.start with engC.use := .bundle }) →
    exec (.bundleIssue .core) s = .next (s.done (s.start.setEng .core { s.engC with
      use := .bundle, cycle := s.engC.cycle + 1, pc := (s.engC.pc + 8) % 2 ^ 32
      rf := smSet (fun _ => 0) (smSet (fun _ => 0) s.engC.rf i.val (x.signExtend 32)) j.val (y.signExtend 32) }))) ∧
  (∀ (s : State) (i j : Fin 64) (x y : BitVec 16) (run : Run), s.fabricUp = true → s.pgl.run = some run → s.budgetSpent run = false →
    s.engP.use ≠ .ops → s.engP.xfer = none → s.engP.rep = none → s.engP.nextRep = none → s.engP.flight = [] → s.engP.defer = [] → i ≠ j →
    { s.start with engP.use := .bundle }.fetchP s.engP.pc =
      (.inl (BitVec.ofNat 32 (2 ^ 26 + x.toNat * 2 ^ 10 + (0x80 + i.val)) :: BitVec.ofNat 32 (2 ^ 26 + y.toNat * 2 ^ 10 + (0x80 + j.val)) ::
        List.replicate 14 0), { s.start with engP.use := .bundle }) →
    exec (.bundleIssue .pav) s = .next (s.done { s.start with
      pgl.run := some { run with charged := run.charged + 1 }
      engP := { s.engP with
        use := .bundle, cycle := s.engP.cycle + 1, pc := (s.engP.pc + 1) % 2 ^ 32
        rf := smSet (fun _ => 0) (smSet (fun _ => 0) s.engP.rf i.val (x.signExtend 32)) j.val (y.signExtend 32) } })) ∧
  (∀ (s : State) (l : Landing) (p : Nat) (v : Word) (run : Run), s.fabricUp = true → s.pgl.run = some run → s.budgetSpent run = false →
    s.engP.use = .ops → s.engP.xfer = none → s.engP.rep = none → s.engP.nextRep = none → s.engP.defer = [] → s.engP.flight = [l] →
    l.poison = none → l.due = s.engP.cycle → l.writes = [(p, v)] →
    ∃ x, exec (.resultLand .pav) s = .next x ∧ smGet (fun _ => 0) x.engP.res p = v ∧ x.engP.flight = [] ∧
      x.engP.cycle = s.engP.cycle + 1 ∧ x.engP.use = .gap ∧ x.engP.rf = s.engP.rf ∧ x.pgl.run = some { run with charged := run.charged + 1 }) ∧
  (∀ (s : State) (l : Landing) (p : Nat) (v : Word), s.fabricUp = true → s.coreRuns = true → s.engC.use = .ops → s.engC.longLoad = none →
    s.engC.xfer = none → s.engC.rep = none → s.engC.nextRep = none → s.engC.flight = [l] → l.poison = none → s.engC.cycle ≤ l.due →
    l.writes = [(p, v)] →
    ∃ x, exec (.resultLand .core) s = .next x ∧ smGet (fun _ => 0) x.engC.res p = v ∧ x.engC.flight = [] ∧
      x.engC.cycle = l.due + 1 ∧ x.engC.use = .gap ∧ x.engC.rf = s.engC.rf ∧
      (∀ q, q ≠ p → smGet (fun _ => 0) x.engC.res q = smGet (fun _ => 0) s.engC.res q) ∧
      ∀ r o : Nat, ¬ (r = pCcp ∧ o = Reg.Ccp.CCP_IP) → x.reg r o = s.reg r o)

/-- The ALU operations give the results of their table, one issue cycle later. Each ALU operation of a unit the core has, with o and
t: o is latched in the unit's operand port, and r of the listed value and f of 0 land at the end of the cycle in progress (latency
1); shift counts use t[4:0], saturating results clamp, comparisons give 1 or 0. No other part of the block changes. (R267) -/
def Obligations.AluOperations : Prop :=
  ∀ (s : State) (c : Cpu) (u : Fin 4) (o t : Word), UnitReady s c (aluPort u) → u.val < nAlu c → ∀ e ∈ ([
      (.aluAdd c u o t, o + t), (.aluSub c u o t, o - t),
      (.aluAdds c u o t, BitVec.ofInt 32 (max (-2147483648) (min 2147483647 (o.toInt + t.toInt)))),
      (.aluSubs c u o t, BitVec.ofInt 32 (max (-2147483648) (min 2147483647 (o.toInt - t.toInt)))),
      (.aluAnd c u o t, o &&& t), (.aluOr c u o t, o ||| t), (.aluXor c u o t, o ^^^ t), (.aluAndn c u o t, o &&& ~~~t),
      (.aluShl c u o t, o <<< (t.toNat % 32)), (.aluShr c u o t, o >>> (t.toNat % 32)), (.aluSra c u o t, o.sshiftRight (t.toNat % 32)),
      (.aluMin c u o t, BitVec.ofInt 32 (min o.toInt t.toInt)), (.aluMax c u o t, BitVec.ofInt 32 (max o.toInt t.toInt)),
      (.aluMinu c u o t, BitVec.ofNat 32 (min o.toNat t.toNat)), (.aluMaxu c u o t, BitVec.ofNat 32 (max o.toNat t.toNat)),
      (.aluEq c u o t, if o = t then 1 else 0), (.aluNe c u o t, if o = t then 0 else 1),
      (.aluLt c u o t, if o.toInt < t.toInt then 1 else 0), (.aluLtu c u o t, if o.toNat < t.toNat then 1 else 0),
      (.aluGe c u o t, if o.toInt < t.toInt then 0 else 1), (.aluGeu c u o t, if o.toNat < t.toNat then 0 else 1),
      (.aluAbs c u o t, if t.toInt < 0 then (if t = 0x80000000 then 0x7FFFFFFF else -t) else t), (.aluPass c u o t, t)] :
      List (Instr × Word)),
    exec e.1 s = .next (s.done (s.start.setEng c
      ((s.eng c).operates (aluPort u) [(aluPort u, o)] 1 [(aluPort u + 0x1E, e.2), (aluPort u + 0x1F, 0)])))

/-- The MAC operations keep a saturating 64-bit accumulator and a sticky flag. Each MAC operation on unit u, with A the unit's
accumulator and its sticky flag as the operation found them: the accumulator, the sticky flag, r and f as the table of R268 has
them, r and f landing after 3 cycles; f[1] says that the r written was saturated. No other accumulator or sticky flag changes, and
nothing else of the block but the operand latch and the results in flight. (R268) -/
def Obligations.MacOperations : Prop :=
  ∀ (s : State) (c : Cpu) (u : Fin 8) (o t : Word), UnitReady s c (macPort u) → u.val < nMac c →
    ∀ (A A' p : Int) (S : Bool), A = (s.eng c).accOf u → S = (s.eng c).sticky.contains u.val → p = o.toInt * t.toInt →
      A' = clampTo 64 (A + p) →
    ∀ e ∈ ([
      (.macMacq c u o t, A', S || decide (A' ≠ A + p), BitVec.ofInt 32 (clampTo 32 (q31Of A')), decide (clampTo 32 (q31Of A') ≠ q31Of A')),
      (.macMul c u o t, A, S, BitVec.ofInt 32 p, false), (.macMulh c u o t, A, S, BitVec.ofInt 32 (p / 2 ^ 32), false),
      (.macMulq c u o t, A, S, BitVec.ofInt 32 (clampTo 32 (q31Of p)), decide (clampTo 32 (q31Of p) ≠ q31Of p)),
      (.macMac c u o t, A', S || decide (A' ≠ A + p), BitVec.ofInt 32 A', false), (.macClr c u o t, 0, false, 0, false),
      (.macLd c u o t, t.toInt * 2 ^ 31, false, t, false), (.macRdh c u o t, A, S, BitVec.ofInt 32 (A / 2 ^ 32), false)] :
      List (Instr × Int × Bool × Word × Bool)),
    ∃ g, exec e.1 s = .next (s.done (s.start.setEng c g)) ∧ g.accOf u = e.2.1 ∧ g.sticky.contains u.val = e.2.2.1 ∧
      (∀ v, v ≠ u.val → g.accOf v = (s.eng c).accOf v ∧ g.sticky.contains v = (s.eng c).sticky.contains v) ∧
      g = { (s.eng c).operates (macPort u) [(macPort u, o)] 3 [(macPort u + 0x1E, e.2.2.2.1),
              (macPort u + 0x1F, (if e.2.2.1 then 1 else 0) + (if e.2.2.2.2 then 2 else 0))] with
            acc := g.acc, sticky := g.sticky }

/-- The DIV operations land quotient and remainder after 18 cycles, with a value for every divisor. Each DIV operation of a unit the
core has: r, r2 and f as R271 gives them, division by zero and saturated quotients included, in flight for 18 cycles; nothing else
of the block changes but the operand latch. (R271) -/
def Obligations.DivOperations : Prop :=
  ∀ (s : State) (c : Cpu) (u : Fin 2) (o t : Word), UnitReady s c (divPort u) → u.val < nDiv c →
    ∀ (zero : Word), zero = (if o.toInt < 0 then 0x80000000 else 0x7FFFFFFF) →
    ∀ e ∈ ([
      (.divDiv c u o t, if t = 0 then (zero, o, 1) else if o = 0x80000000 ∧ t = 0xFFFFFFFF then (0x7FFFFFFF, 0, 2)
        else (BitVec.ofInt 32 (o.toInt.tdiv t.toInt), BitVec.ofInt 32 (o.toInt.tmod t.toInt), 0)),
      (.divDivu c u o t, if t = 0 then (0xFFFFFFFF, o, 1) else (BitVec.ofNat 32 (o.toNat / t.toNat), BitVec.ofNat 32 (o.toNat % t.toNat), 0)),
      (.divDivq c u o t, if t = 0 then (zero, o, 1) else if t.toInt.natAbs ≤ o.toInt.natAbs then
          (if decide (o.toInt < 0) = decide (t.toInt < 0) then 0x7FFFFFFF else 0x80000000, 0, 2)
        else (BitVec.ofInt 32 ((o.toInt * 2 ^ 31).tdiv t.toInt), 0, 0))] : List (Instr × Word × Word × Word)),
    exec e.1 s = .next (s.done (s.start.setEng c
      ((s.eng c).operates (divPort u) [(divPort u, o)] 18 [(divPort u + 0x1E, e.2.1), (divPort u + 0x1D, e.2.2.1), (divPort u + 0x1F, e.2.2.2)])))

/-- The FMA operations land one correctly formed binary32 result after 4 cycles. Each FMA operation on operands o, o2, t: r and f land
after 4 cycles. r is no subnormal, and where it is a NaN it is 0x7FC00000; f uses bits 0 to 3. A sum, difference, product or fused
product of NaN operands is 0x7FC00000; finite operands give their exact result rounded once, zero and infinity as IEEE 754 has
them; fmin, fmax, fabs, the conversions and the comparisons give the values of R269's table on operands as R269 reads them
(subnormals as zeros). Nothing else of the block changes but the operand latches. (R269) -/
def Obligations.FloatOperations : Prop :=
  ∀ (s : State) (u : Fin 4) (o o2 t : Word), UnitReady s .pav (fmaPort u) →
    ∀ (x y z : Fl), x = flOf o → y = flOf o2 → z = flOf t →
    ∀ e ∈ ([
      (.fmaFma .pav u o o2 t, fmaFl x y z),
      (.fmaFadd .pav u o o2 t, if x.isNan || z.isNan then (qNaN, b2n (x.isSignal || z.isSignal)) else addFl x z),
      (.fmaFsub .pav u o o2 t, if x.isNan || z.isNan then (qNaN, b2n (x.isSignal || z.isSignal)) else addFl x z.neg),
      (.fmaFmul .pav u o o2 t, fmaOp 5 o o2 t),
      (.fmaFmin .pav u o o2 t, minMaxFl false x z), (.fmaFmax .pav u o o2 t, minMaxFl true x z),
      (.fmaFabs .pav u o o2 t, ((if z.isNan then qNaN else if bits t 30 23 = 0 then 0 else t &&& 0x7FFFFFFF), 0)),
      (.fmaItof .pav u o o2 t, roundInt t.toInt 0 false), (.fmaQtof .pav u o o2 t, roundInt t.toInt (-31) false),
      (.fmaFtoq .pav u o o2 t, toIntFl 31 z), (.fmaFtoi .pav u o o2 t, toIntFl 0 z),
      (.fmaFlt .pav u o o2 t, (if !x.isNan && !z.isNan && ltFl x z then 1 else 0, 0)),
      (.fmaFeq .pav u o o2 t, (if !x.isNan && !z.isNan && !ltFl x z && !ltFl z x then 1 else 0, 0))] : List (Instr × Word × Nat)),
    exec e.1 s = .next (s.done (s.start.setEng .pav ((s.eng .pav).operates (fmaPort u) [(fmaPort u, o), (fmaPort u + 1, o2)] 4
      [(fmaPort u + 0x1E, e.2.1), (fmaPort u + 0x1F, BitVec.ofNat 32 e.2.2)]))) ∧ e.2.2 < 16 ∧
      ((∀ k, e.1 ≠ .fmaFtoq .pav k o o2 t ∧ e.1 ≠ .fmaFtoi .pav k o o2 t ∧ e.1 ≠ .fmaFlt .pav k o o2 t ∧ e.1 ≠ .fmaFeq .pav k o o2 t) →
        (bits e.2.1 30 23 = 255 → bits e.2.1 22 0 ≠ 0 → e.2.1 = qNaN) ∧ (bits e.2.1 30 23 = 0 → bits e.2.1 22 0 = 0))

/-- The CORDIC operations land within their error bounds after 12 cycles. COR_SINCOS, COR_ROT and COR_ATAN2 land r, r2 and f after 12
cycles. Vector results lie within 8 LSB of the turned vector before saturation, f[0] says that one of them was saturated; the
angle of (x, y) lies within 64 units and is 0 for (0, 0), and its magnitude within 8 LSB. Which value within the bounds is a free
value of the model. Nothing else of the block changes but the operand latches. (R270) -/
def Obligations.CordicOperations : Prop :=
  ∀ (s : State) (u : Fin 2) (o o2 t : Word), UnitReady s .pav (corPort u) →
    (∀ e ∈ ([(.corSincos .pav u o o2 t, turnVec t.toNat (2 ^ 31) 0), (.corRot .pav u o o2 t, turnVec t.toNat o.toInt o2.toInt)] :
      List (Instr × Int × Int)),
      ∃ a b : Int, (a * corScale - e.2.1).natAbs ≤ 8 * corScale ∧ (b * corScale - e.2.2).natAbs ≤ 8 * corScale ∧
      exec e.1 s = .next (s.done (s.start.setEng .pav ((s.eng .pav).operates (corPort u) [(corPort u, o), (corPort u + 1, o2)] 12
        [(corPort u + 0x1E, BitVec.ofInt 32 (clampTo 32 a)), (corPort u + 0x1D, BitVec.ofInt 32 (clampTo 32 b)),
         (corPort u + 0x1F, if clampTo 32 a ≠ a ∨ clampTo 32 b ≠ b then 1 else 0)])))) ∧
    (∃ a b : Int, (if o = 0 ∧ t = 0 then a = 0 ∧ b = 0 else
        (a * 2 ^ 32 - angleBits 64 t.toInt o.toInt 0).natAbs ≤ 64 * 2 ^ 32 ∧
        (b * 2 ^ 32 - isqrtAux ((t.toInt * t.toInt + o.toInt * o.toInt).toNat * 2 ^ 64) 66 0).natAbs ≤ 8 * 2 ^ 32) ∧
      exec (.corAtan2 .pav u o o2 t) s = .next (s.done (s.start.setEng .pav ((s.eng .pav).operates (corPort u) [(corPort u, o), (corPort u + 1, o2)] 12
        [(corPort u + 0x1E, BitVec.ofInt 32 a), (corPort u + 0x1D, BitVec.ofInt 32 (clampTo 32 b)),
         (corPort u + 0x1F, if clampTo 32 b ≠ b then 1 else 0)]))))

/-- The boot sequence sets its straps and stages, takes the source of its row, and enters firmware that checks. With the main domain
running, no boot under way, a legible OTP row outside RETURNED and no lifecycle request, BOOT_SEQUENCE passes dt ns, leaves
BOOT_SEL, TWIN and the watchdog at its 500 ms start, sends the first AVSBus request, whose answer AVS_STA shows, and takes the
sources of its row: rows 0b10 and 0b11 wait for MAINT's or HOST's first chunk at stage 7, row 0b01 without a card in the slot goes
on to MAINT with an ERR code, and row 0b00 with an image in MRAM that passes its checks in a lifecycle state without packages ends
BOOT's authority with Ndear-C at ENTRY and stage 10, and with an image that fails and no card waits for MAINT with that image's
code. BOOT_SOURCE_POLL passes its dt, 100 ms at least: the source whose chunk has not come has failed and the next of the row is
taken, after the last one the block polls, and a poll tries the row again. A doorbell of the source takes a chunk that is neither
first nor last, fails the source with a chunk of a bad length, and one by another port is refused. (R65, R69, R74, R80, R85, R511) -/
def Obligations.BootTakesItsSources : Prop :=
  (∀ (s : State) (sel : Fin 4) (twin ftnOk avsOk : Bool) (dt : Nat), s.ldg.phase = .running → s.boot.entered = false → s.boot.polling = false →
    s.boot.stream = none → s.boot.card = none → s.otp.bad = [] → s.lifecycle ≠ 3 → s.clean →
    s.peekMem (mramRegion reqSector) reqSector 4 ≠ ascii "BNLR" → (List.range 4096).all (fun n => !s.xoSector n) = true →
    ∀ img : List Byte, img = (if headerOk true (s.peekMem rgMram 0 0x100) then s.peekMem rgMram 0 0x100 ++
      s.peekMem rgMram 0x100 (hdrWord (s.peekMem rgMram 0 0x100) 0x0C) else s.peekMem rgMram 0 0x100) →
    ∃ x, exec (.bootSequence sel twin ftnOk avsOk dt) s = .next x ∧ x.fld pLdg Reg.Ldg.BOOT_STA 5 4 = sel ∧
      x.flag pLdg Reg.Ldg.BOOT_STA 6 = twin ∧ x.reg pLdg Reg.Ldg.WDG_CFG = 0x00400001 ∧ x.now = s.now + dt ∧ x.otp = s.otp ∧
      (s.pwr.avsSilent = false → x.flag pSys Reg.Sys.AVS_STA 16 = avsOk ∧ x.flag pSys Reg.Sys.AVS_STA 17 = !avsOk) ∧
      (2 ≤ sel.val → x.boot.stream = some ⟨if sel.val = 2 then .maint else .host, 0, 0, []⟩ ∧ x.boot.entered = false ∧
        x.flag pHif Reg.Hif.HIF_BOOT_STA 0 = true ∧ x.fld pLdg Reg.Ldg.BOOT_STA 3 0 = 7) ∧
      (sel.val = 1 → s.psh.inserted = false → x.boot.stream = some ⟨.maint, 0, 0, []⟩ ∧ x.fld pLdg Reg.Ldg.BOOT_STA 23 16 = 0x10 ∧
        x.ldg.errBoot = true) ∧
      (sel.val = 0 → s.keysPermitted = false → 0x100 + hdrWord img 0x0C ≤ 0x1000000 → s.checkImage true img false = 0 →
        x.boot.entered = true ∧ x.gate.bootDone = true ∧ x.engC = { Engine.coreReset with pc := hdrWord img 0x14 } ∧
        x.fld pLdg Reg.Ldg.BOOT_STA 3 0 = 10 ∧ x.ldg.errBoot = false) ∧
      (sel.val = 0 → s.psh.inserted = false → headerOk true img = false →
        x.boot.stream = some ⟨.maint, 0, 0, []⟩ ∧ x.boot.entered = false ∧ x.fld pLdg Reg.Ldg.BOOT_STA 23 16 = 0x10)) ∧
  (∀ (s : State) (dt : Nat), s.ldg.phase = .running → s.boot.entered = false →
    (∀ b : BootStream, s.boot.stream = some b → b.src = .maint ∨ b.src = .host → ∃ x, exec (.bootSourcePoll dt) s = .next x ∧
      x.now = s.now + max 100000000 dt ∧ x.flag pHif Reg.Hdr.FLT_STA 2 = true ∧ x.ldg.errBoot = true ∧
      (b.src = .maint → s.fld pLdg Reg.Ldg.BOOT_STA 5 4 < 3 → x.boot.stream = some ⟨.host, 0, 0, []⟩ ∧
        x.fld pLdg Reg.Ldg.BOOT_STA 23 16 = if b.kind = 0 then 0x10 else 0x20) ∧
      (b.src = .host → x.boot.stream = none ∧ x.boot.polling = true ∧ x.flag pHif Reg.Hif.HIF_BOOT_STA 0 = false ∧
        x.fld pLdg Reg.Ldg.BOOT_STA 23 16 = 0x40)) ∧
    (s.boot.stream = none → s.boot.polling = true → 2 ≤ s.fld pLdg Reg.Ldg.BOOT_STA 5 4 → ∃ x, exec (.bootSourcePoll dt) s = .next x ∧
      x.now = s.now + max 100000000 dt ∧ x.boot.polling = false ∧ x.flag pHif Reg.Hif.HIF_BOOT_STA 0 = true ∧
      x.boot.stream = some ⟨if s.fld pLdg Reg.Ldg.BOOT_STA 5 4 = 2 then .maint else .host, 0, 0, []⟩)) ∧
  (∀ (s : State) (port : Port) (b : BootStream) (v : Word), port = .host ∧ WriteReaches s .host pHif Reg.Hif.HIF_BOOT_DB ∨
      port = .maint ∧ s.pwr.vddio18Lost = false → s.boot.stream = some b → b.src = (if port = .maint then .maint else .host) → bitAt v 31 = true →
    (b.got ≠ [] → bitAt v 18 = false → bits v 17 17 = b.kind → 0 < bits v 16 0 → bits v 16 0 % 32 = 0 → bits v 16 0 ≤ 65536 →
      b.base + b.got.length + bits v 16 0 ≤ 0x1000000 → s.clean → ∃ x, exec (.bootDoorbell port v) s = .next x ∧
        x.boot.stream = some { b with got := b.got ++ s.peekMem rgCsram 0x100000 (bits v 16 0) } ∧
        x.flag pHif Reg.Hif.HIF_BOOT_DB 31 = false ∧ x.boot.entered = s.boot.entered) ∧
    (bits v 16 0 % 32 ≠ 0 → ∃ x, exec (.bootDoorbell port v) s = .next x ∧ x.flag pHif Reg.Hdr.FLT_STA 2 = true ∧ x.ldg.errBoot = true ∧
      x.mem.mram = s.mem.mram ∧ (port = .host → x.boot.polling = true ∧ x.boot.stream = none))) ∧
  (∀ (s : State) (b : BootStream) (v : Word), WriteReaches s .host pHif Reg.Hif.HIF_BOOT_DB → s.boot.stream = some b → b.src = .maint →
    ∃ x, exec (.bootDoorbell .host v) s = .next x ∧ x.boot = s.boot ∧ x.mem = s.mem ∧
      x.gate.log.getLast?.map (fun e => (e.kind, e.page)) = some (2, pHif))

/-- The watchdog kick, its pre-timeout, a zeroise and package acceptance. WDG_KICK starts the watchdog count again and does nothing
else. WDG_PRE_TIMEOUT with EN and the NMI enabled makes NMI source 0 pending and raises vector 7 where a link is up. ZRQ empties
the key store, the well's BBR and nonce and the Arbour's scalars, counts and marks the zeroise and reports it. PKG_CMD by CORE
answers ALREADY, LIFECYCLE or RANGE at once and else starts, and an acceptance whose package, at the PKG_ADDR the command found,
passes R67 accepts its profile and hash with RESULT 0. (R80, R81, R82, R86, R87, R291, R334, R508) -/
def Obligations.LodgeCommands : Prop :=
  (∀ (s : State) (port : Port), WriteReaches s port pLdg Reg.Ldg.WDG_KICK →
    exec (.wdgKick port) s = .next (s.done { s.heard with ldg.wdgAt := s.now })) ∧
  (∀ s : State, s.flag pLdg Reg.Ldg.WDG_CFG 0 = true → s.flag pLdg Reg.Ldg.WDG_CFG 1 = true →
    ∃ x, exec .wdgPreTimeout s = .next x ∧ x.ccp.nmi = s.ccp.nmi ||| 1 ∧ (s.hif.up = true → .msix 7 ∈ x.out) ∧ x.mem = s.mem) ∧
  (∀ (s : State) (port : Port), WriteReaches s port pLdg Reg.Ldg.ZRQ →
    ∃ x, exec (.zrqWrite port) s = .next x ∧ x.org.slots = [] ∧ x.org.kekS = none ∧ x.org.dKA = none ∧ x.well.bbr = none ∧
      x.well.impNonce = none ∧ x.well.zeroised = true ∧ x.well.zcnt = min 65535 (s.well.zcnt + 1) ∧
      x.arb.eph = [none, none, none, none] ∧ x.flag pOrg Reg.Hdr.FLT_STA 4 = true ∧
      (s.cln.session = true → s.flag pCln Reg.Cln.CLN_CFG 1 = true → .twinMsg msgZeroise [] ∈ x.out)) ∧
  (∀ s : State, WriteReaches s .core pLdg Reg.Ldg.PKG_CMD → s.flag pLdg Reg.Ldg.PKG_CMD 31 = false →
    (∀ res, (s.boot.accepted.isSome = true ∧ res = 1) ∨ (s.boot.accepted = none ∧ s.keysPermitted = false ∧ res = 2) ∨
        (s.boot.accepted = none ∧ s.keysPermitted = true ∧ s.fld pLdg Reg.Ldg.PKG_ADDR 23 0 % 32 ≠ 0 ∧ res = 3) →
      exec (.pkgCmdWrite .core) s = .next (s.done
        ((s.heard.setFlag pLdg Reg.Ldg.PKG_CMD 31 false).setFld pLdg Reg.Ldg.PKG_CMD 23 16 res))) ∧
    (s.boot.accepted = none → s.keysPermitted = true → s.fld pLdg Reg.Ldg.PKG_ADDR 23 0 % 32 = 0 →
      s.fld pLdg Reg.Ldg.PKG_ADDR 23 0 ≤ 0xFFFF00 →
      ∃ x, exec (.pkgCmdWrite .core) s = .next x ∧ x.flag pLdg Reg.Ldg.PKG_CMD 31 = true ∧ x.boot.accepted = none ∧
        x.boot.pkgOff = s.fld pLdg Reg.Ldg.PKG_ADDR 23 0)) ∧
  (∀ (s : State) (img : List Byte), s.fabricUp = true → s.arb.cur = some (.req .package) →
    s.start.mramImage false s.boot.pkgOff = (img, false, s.start) → s.boot.pkgOff + 0x100 + hdrWord (img.take 0x100) 0x0C ≤ 0x1000000 → s.checkImage false img false = 0 →
    ∃ x, exec .pkgAcceptComplete s = .next x ∧
      x.boot.accepted = some ⟨hdrWord (img.take 0x100) 0x1C / 256 % 4, ((img.take 0x100).drop 0x60).take 32⟩ ∧
      x.flag pLdg Reg.Ldg.PKG_CMD 31 = false ∧ x.fld pLdg Reg.Ldg.PKG_CMD 23 16 = 0 ∧ x.ldg.errBoot = false)

/-- PTP messages feed the best master clock algorithm, peer delay and the offset from the master. On a live PTP port with the engine
on: a message of another domain or of an unsupported kind counts OTHER alone; a peer-delay result writes PDELAY; a Pdelay_Req is
answered, in one message or two; an Announce replaces the port's data set, and on the port that is then SLAVE gives the
grandmaster's class and identity and TAI_UTC; a Sync of the SLAVE port's master shows its offset from the time of arrival with
RX_ADJ, saturated, and counts the run of intervals that hold within 100 ns, sixteen of which qualify; any other Sync changes
nothing. Due messages leave as frames with their sequence numbers, event messages timestamped with TX_ADJ and a two-step Sync
followed up; Announce and Sync leave MASTER ports alone. A timeout without Announce forgets the parent's set; either timeout loses
the PTP source. A port that is not live takes and sends nothing. (R90, R91, R92, R127, R165, R166) -/
def Obligations.PtpMessagesDisciplineTime : Prop :=
  (∀ (s : State) (port domain : Fin 256) (m : PtpMsg), s.fabricUp = true → s.ptpLive port = false →
    exec (.ptpMessageReceived port domain m) s = .next (s.done s.start)) ∧
  (∀ (s : State) (port domain : Fin 256) (m : PtpMsg), s.fabricUp = true → s.ptpLive port = true →
    (domain.val ≠ s.fld pSdl Reg.Sdl.PTP_CFG 15 8 ∨ m = .unsupported) →
      exec (.ptpMessageReceived port domain m) s = .next (s.done (s.start.countFld pSdl Reg.Sdl.PTP_STA 31 25 1))) ∧
  (∀ (s : State) (port domain : Fin 256) (ns : Nat), s.fabricUp = true → s.ptpLive port = true → domain.val = s.fld pSdl Reg.Sdl.PTP_CFG 15 8 →
    exec (.ptpMessageReceived port domain (.pdelay ns)) s = .next (s.done (s.start.setReg (portPage port) (Reg.Prc.PDELAY (port % 16))
      (BitVec.ofNat 32 (ns % 2 ^ 24 + 2 ^ 31))))) ∧
  (∀ (s : State) (port domain : Fin 256) (source seq : Nat) (who : List Byte), s.fabricUp = true → s.ptpLive port = true →
    domain.val = s.fld pSdl Reg.Sdl.PTP_CFG 15 8 → who = natOctetsBE 10 source →
    ∃ x, exec (.ptpMessageReceived port domain (.pdelayReq source seq)) s = .next x ∧
      x.prm.txStamp = some (port.val, s.adjusted port 31 16) ∧ x.sdl.erbest = s.sdl.erbest ∧
      (s.flag pSdl Reg.Sdl.PTP_CFG 4 = true → .ptp port 4 (s.ptpFrame port 4 seq false (zeros 10 ++ who)) ∈ x.out) ∧
      (s.flag pSdl Reg.Sdl.PTP_CFG 4 = false →
        .ptp port 4 (s.ptpFrame port 4 seq true (ptpStamp (s.adjusted port 15 0) ++ who)) ∈ x.out ∧
        .ptp port 5 (s.ptpFrame port 5 seq false (ptpStamp (s.adjusted port 31 16) ++ who)) ∈ x.out)) ∧
  (∀ (s : State) (port domain : Fin 256) (d : PtpSet), s.fabricUp = true → s.ptpLive port = true → domain.val = s.fld pSdl Reg.Sdl.PTP_CFG 15 8 →
    (s.ptpRole = 3 → exec (.ptpMessageReceived port domain (.announce d)) s = .next (s.done s.start)) ∧
    (s.ptpRole ≠ 3 → ∃ x, exec (.ptpMessageReceived port domain (.announce d)) s = .next x ∧
        x.sdl.erbest = (port.val, d) :: s.sdl.erbest.filter (fun e => e.1 ≠ port.val) ∧
        (x.ptpState port = 9 → x.sdl.gmClass = d.clockClass ∧ x.sdl.gmId = d.identity ∧
          ∀ u, d.utc = some u → x.fld pSdl Reg.Sdl.UTC_OFS 15 0 = u % 65536) ∧
        (x.ptpState port ≠ 9 → x.sdl.gmClass = s.sdl.gmClass ∧ x.sdl.gmId = s.sdl.gmId) ∧ x.sdl.time = s.sdl.time)) ∧
  (∀ (s : State) (port domain : Fin 256) (identity t : Nat) (off : Int) (held : Bool), s.fabricUp = true → s.ptpLive port = true →
    domain.val = s.fld pSdl Reg.Sdl.PTP_CFG 15 8 → off = (s.adjusted port 15 0 : Int) - t →
    held = (match s.sdl.ptp.off with
      | none => false
      | some o => decide ((if s.sdl.src = .ptp then off else off - o).natAbs ≤ 100)) →
    (s.ptpState port = 9 → (s.sdl.erbest.find? (fun e => e.1 = port.val)).any (fun e => e.2.identity = identity) = true →
      ∃ x, exec (.ptpMessageReceived port domain (.sync identity t)) s = .next x ∧
        x.fld pSdl Reg.Sdl.PTP_STA 15 0 = offset16 off ∧
        x.sdl.ptp.run = (if held then min 16 (s.sdl.ptp.run + 1) else 0) ∧
        x.sdl.ptp.ok = (s.sdl.ptp.ok || (held && decide (16 ≤ s.sdl.ptp.run + 1))) ∧
        x.sdl.ptp.off = some off) ∧
    (s.ptpState port ≠ 9 ∨ (s.sdl.erbest.find? (fun e => e.1 = port.val)).any (fun e => e.2.identity = identity) = false →
      exec (.ptpMessageReceived port domain (.sync identity t)) s = .next (s.done s.start))) ∧
  (∀ (s : State) (port : Fin 256) (kind : Fin 3), s.fabricUp = true →
    s.ptpLive port = false ∨ kind.val ≠ 2 ∧ s.ptpState port ≠ 6 → exec (.ptpMessageTransmit port kind) s = .next (s.done s.start)) ∧
  (∀ (s : State) (port : Fin 256) (kind : Fin 3) (seq : Nat), s.fabricUp = true → s.ptpLive port = true → (kind.val = 2 ∨ s.ptpState port = 6) →
    seq = smGet (fun _ => 0) s.sdl.ptpSeq (port * 8 + kind) →
    ∃ x, exec (.ptpMessageTransmit port kind) s = .next x ∧
      smGet (fun _ => 0) x.sdl.ptpSeq (port * 8 + kind) = (seq + 1) % 65536 ∧
      (kind.val = 0 → .ptp port 0 (s.ptpFrame port 0 seq false s.announceBody) ∈ x.out ∧ x.prm.txStamp = s.prm.txStamp) ∧
      (kind.val ≠ 0 → x.prm.txStamp = some (port.val, s.adjusted port 31 16)) ∧
      (kind.val = 2 → .ptp port 2 (s.ptpFrame port 2 seq false (zeros 20)) ∈ x.out) ∧
      (kind.val = 1 → s.flag pSdl Reg.Sdl.PTP_CFG 4 = true →
        .ptp port 1 (s.ptpFrame port 1 seq false (ptpStamp (s.adjusted port 31 16))) ∈ x.out) ∧
      (kind.val = 1 → s.flag pSdl Reg.Sdl.PTP_CFG 4 = false →
        .ptp port 1 (s.ptpFrame port 1 seq true (zeros 10)) ∈ x.out ∧
        .ptp port 3 (s.ptpFrame port 3 seq false (ptpStamp (s.adjusted port 31 16))) ∈ x.out)) ∧
  (∀ (s : State) (announce : Bool), s.fabricUp = true → ∃ x, exec (.ptpSourceTimeout announce) s = .next x ∧
    x.sdl.ptp.ok = false ∧ x.sdl.ptp.run = 0 ∧ x.sdl.ptp.off = none ∧
    x.sdl.erbest = (if announce then s.sdl.erbest.filter (fun e => e.1 ≠ s.fld pSdl Reg.Sdl.PTP_STA 23 16) else s.sdl.erbest) ∧
    (s.sdl.src = .ptp → x.sdl.src ≠ .ptp ∧ (x.sdl.state = .holdover ∨ x.sdl.state = .locking)))

/-- PPS edges and IRIG-B frames qualify a source, their loss and the end of holdover are events. With the source enabled: an edge
keeps the run only where it came 1 s, within 1 us, after the last and that one had its frame; a valid frame matched to an edge
counts towards the three that qualify, and one with no edge left to match changes no run; an invalid one is event 9, ends the run,
and the third in a row loses the source; two seconds without an edge are event 8 and lose it. With the source not enabled nothing
happens. HOLD_EXPIRED in HOLDOVER ends it, MAX_S seconds after it began, with event 13. REF_SAMPLE_TIMEOUT of a LOCKED channel
makes it LOST with event 0 or 1; of another it does nothing. (R89, R90, R94, R103, R119, R128) -/
def Obligations.PulseSourcesAndHoldover : Prop :=
  (∀ (s : State) (second : Bool) (f : IrigFrame), s.fabricUp = true → s.srcEnabled (ppsSrc second) = false →
    exec (.ppsEdge second) s = .next (s.done s.start) ∧ exec (.irigFrame second f) s = .next (s.done s.start) ∧
    exec (.ppsLoss second) s = .next (s.done s.start)) ∧
  (∀ (s : State) (second : Bool) (x : TimeSrc) (spaced : Bool), s.fabricUp = true → x = ppsSrc second → s.srcEnabled x = true →
    spaced = (s.qual x).lastEdge.any (fun l => decide (999999000 ≤ s.now - l) && decide (s.now - l ≤ 1000001000)) →
    ∃ t, exec (.ppsEdge second) s = .next t ∧ (t.qual x).lastEdge = some s.now ∧ (t.qual x).matched = false ∧
      (t.qual x).run = (if spaced && (s.qual x).matched then (s.qual x).run else 0) ∧ (t.qual x).ok = (s.qual x).ok ∧
      (t.qual x).bad = (s.qual x).bad ∧ (s.sdl.src ≠ x → t.sdl.time = s.sdl.time ∧ t.sdl.slew = s.sdl.slew)) ∧
  (∀ (s : State) (second : Bool) (f : IrigFrame) (x : TimeSrc), s.fabricUp = true → x = ppsSrc second → s.srcEnabled x = true →
    (s.irigValid f = true → (s.qual x).lastEdge.isSome = true → (s.qual x).matched = false →
      ∃ t, exec (.irigFrame second f) s = .next t ∧ (t.qual x).matched = true ∧ (t.qual x).lastEdge = (s.qual x).lastEdge ∧
        (t.qual x).run = min 3 ((s.qual x).run + 1) ∧ (t.qual x).ok = ((s.qual x).ok || decide (2 ≤ (s.qual x).run)) ∧ (t.qual x).bad = 0) ∧
    (s.irigValid f = true → (s.qual x).lastEdge = none ∨ (s.qual x).matched = true →
      ∃ t, exec (.irigFrame second f) s = .next t ∧ t.qual x = { s.qual x with bad := 0 } ∧ t.sdl.time = s.sdl.time) ∧
    (s.irigValid f = false → ∃ t, exec (.irigFrame second f) s = .next t ∧ t.flag pSdl Reg.Hdr.FLT_STA 9 = true ∧ (t.qual x).run = 0 ∧
      (if 2 ≤ (s.qual x).bad then (t.qual x).ok = false else (t.qual x).bad = (s.qual x).bad + 1 ∧ (t.qual x).ok = (s.qual x).ok)) ∧
    (s.irigValid f = true → s.flag pSdl Reg.Sdl.PIN_ALT 0 = true →
      ∃ t, exec (.irigFrame second f) s = .next t ∧ t.fld pSdl Reg.Sdl.UTC_OFS 17 16 = f.leap % 4)) ∧
  (∀ (s : State) (second : Bool) (x : TimeSrc), s.fabricUp = true → x = ppsSrc second → s.srcEnabled x = true →
    ∃ t, exec (.ppsLoss second) s = .next t ∧ t.flag pSdl Reg.Hdr.FLT_STA 8 = true ∧ (t.qual x).ok = false ∧ (t.qual x).run = 0 ∧
      (t.qual x).lastEdge = none ∧ t.sdl.src ≠ x) ∧
  (∀ s : State, s.fabricUp = true →
    (s.sdl.state ≠ .holdover → exec .holdExpired s = .next (s.done s.start)) ∧
    (s.sdl.state = .holdover → ∃ t, exec .holdExpired s = .next t ∧ t.sdl.state = .holdExpired ∧
      t.flag pSdl Reg.Hdr.FLT_STA 13 = true ∧ t.fld pSdl Reg.Hdr.STA 10 8 = 4 ∧
      t.now = max s.now (s.sdl.holdAt + s.fld pSdl Reg.Sdl.HOLD_CFG 31 16 * 1000000000))) ∧
  (∀ (s : State) (second : Bool) (c : RefChan), s.fabricUp = true → c = (if second then s.sdl.sec else s.sdl.pri) →
    (c.st ≠ .locked → exec (.refSampleTimeout second) s = .next (s.done s.start)) ∧
    (c.st = .locked → ∃ t, exec (.refSampleTimeout second) s = .next t ∧ (if second then t.sdl.sec else t.sdl.pri).st = .lost ∧
      (if second then t.sdl.pri = s.sdl.pri else t.sdl.sec = s.sdl.sec) ∧ t.flag pSdl Reg.Hdr.FLT_STA (if second then 1 else 0) = true))

/-- SET_CMD steps station time, PPS_OUT marks its seconds, and the latching reads freeze it. SET_CMD where it is not refused makes
station time the value set, drops a pending correction, flags the slot in progress and the N that follow and is event 12; refused,
it changes neither. PPS_OUT_RISE comes at the next whole second, where driven high, and with the end of a UTC day that LEAP
announces it changes TAI_UTC; PPS_OUT_FALL comes PPS_W after the second. A read of TIME_S_LO, ANGLE or EVT returns and latches
time or angle, or takes the oldest event. (R95, R96, R97, R125, R126, R133, R138) -/
def Obligations.StationTimeIsSetAndShown : Prop :=
  (∀ (s : State) (port : Port), WriteReaches s port pSdl Reg.Sdl.SET_CMD → s.setRefused = true →
    ∃ x, exec (.setCmd port) s = .next x ∧ x.sdl = s.sdl ∧ x.now = s.now) ∧
  (∀ (s : State) (port : Port), WriteReaches s port pSdl Reg.Sdl.SET_CMD → s.setRefused = false →
    ∃ x, exec (.setCmd port) s = .next x ∧
      x.sdl.time = (s.reg pSdl Reg.Sdl.SET_S_LO).toNat * 1000000000 + s.fld pSdl Reg.Sdl.SET_S_HI 15 0 * 2 ^ 32 * 1000000000 +
        s.fld pSdl Reg.Sdl.SET_NS 29 0 ∧
      x.sdl.slew = 0 ∧ x.sdl.step = none ∧ x.sdl.dated = true ∧ x.sdl.tstep = s.slotsPerCycle + 1 ∧
      x.flag pSdl Reg.Hdr.FLT_STA 12 = true) ∧
  (∀ (s : State) (ofs utc : Nat), s.fabricUp = true → ofs = s.fld pSdl Reg.Sdl.UTC_OFS 15 0 →
    utc = (s.sdl.time + 999999999) / 1000000000 - ofs →
    ∃ x, exec .ppsOutRise s = .next x ∧ x.sdl.time = (s.sdl.time + 999999999) / 1000000000 * 1000000000 ∧
      x.sdl.ppsOut = (s.sdl.ppsOut || s.ppsDriven) ∧ x.sdl.slotCnt = s.sdl.slotCnt ∧
      x.fld pSdl Reg.Sdl.UTC_OFS 15 0 = (if s.fld pSdl Reg.Sdl.UTC_OFS 17 16 = 1 ∧ utc % 86400 = 1 then (ofs + 1) % 65536
        else if s.fld pSdl Reg.Sdl.UTC_OFS 17 16 = 2 ∧ utc % 86400 = 86399 then (ofs + 65535) % 65536 else ofs)) ∧
  (∀ s : State, s.fabricUp = true → (s.sdl.ppsOut = false → exec .ppsOutFall s = .next (s.done s.start)) ∧
    (s.sdl.ppsOut = true → ∃ x, exec .ppsOutFall s = .next x ∧ x.sdl.ppsOut = false ∧
      x.sdl.time = max s.sdl.time (s.sdl.time / 1000000000 * 1000000000 + s.ppsWidth))) ∧
  (∀ (s : State) (port : Port), ReadReaches s port pSdl →
    exec (.timeSLoRead port) s = .next (s.done ({ s.heard with sdl.timeLatch := s.sdl.time }.emit
      (.value (BitVec.ofNat 32 (s.sdl.time / 1000000000 % 2 ^ 32))))) ∧
    exec (.angleRead port) s = .next (s.done ({ s.heard with sdl.angLatch := s.sdl.ang, sdl.angLatchNs := s.sdl.time % 1000000000 }.emit
      (.value (BitVec.ofNat 32 (s.sdl.ang % 2 ^ 32))))) ∧
    (∀ e es, s.sdl.evt = e :: es → exec (.sdlEvtRead port) s = .next (s.done ({ s.heard with sdl.evt := es }.emit
      (.value (BitVec.ofNat 32 (e.code % 16 + 16 + (if e.lost then 128 else 0) + e.slot % 2 ^ 24 * 256)))))) ∧
    (s.sdl.evt = [] → exec (.sdlEvtRead port) s = .next (s.done (s.heard.emit (.value 0)))))

/-- The Sundial starts and stops, and slots follow one another by their length. SUNDIAL_ENABLE of a disabled Sundial starts the angle
at 0, free-running at FNOM, with enabled reference channels in ACQUIRE; SUNDIAL_DISABLE stops angle and rate and idles the
channels. SLOT_START on a running Sundial outside a repetition and an adopted count comes at C_k plus the slot's length, with the
time step due then: SLOT_CNT counts on, SLOT_LEN shows the length, and the budget windows start again; the first slot after the
enable starts at once and leaves SLOT_LEN; with the Sundial off no slot starts. SLOT_INPUT_FIX fixes a twin's waiting inputs at
C_k + 5 us; BUDGET_WINDOW_RESTART inside a slot comes L_min after the last restart and, with no card block held, clears every
charge. (R96, R103, R107, R108, R110, R132, R134, R205, R230, R542) -/
def Obligations.SlotsStartOnTheSundial : Prop :=
  (∀ (s : State) (port : Port), WriteReaches s port pSdl Reg.Hdr.CTL → s.fencedPage pSdl = false → s.enabled pSdl = false →
    ∃ x, exec (.sundialEnable port) s = .next x ∧ x.flag pSdl Reg.Hdr.CTL 0 = true ∧ x.sdl.ang = 0 ∧ x.sdl.angRem = 0 ∧
      x.sdl.freq = (if s.flag pSdl Reg.Sdl.FNOM_CFG 0 then 60 else 50) * 65536 ∧ x.reg pSdl Reg.Sdl.FREQ = BitVec.ofNat 32 x.sdl.freq ∧
      x.sdl.angSrc = .free ∧ x.sdl.mode = .angle ∧ x.sdl.slotAt = none ∧
      (s.flag pSdl Reg.Sdl.REF_PRI 16 = true → s.sdl.pri.st = .idle → x.sdl.pri.st = .acquire) ∧
      (s.flag pSdl Reg.Sdl.REF_SEC 16 = true → s.sdl.sec.st = .idle → x.sdl.sec.st = .acquire)) ∧
  (∀ (s : State) (port : Port), WriteReaches s port pSdl Reg.Hdr.CTL → s.enabled pSdl = true →
    ∃ x, exec (.sundialDisable port) s = .next x ∧ x.flag pSdl Reg.Hdr.CTL 0 = false ∧ x.sdl.freq = 0 ∧ x.reg pSdl Reg.Sdl.FREQ = 0 ∧
      x.sdl.slotAt = none ∧ x.sdl.pri.st = .idle ∧ x.sdl.sec.st = .idle ∧ x.sdl.ang = s.sdl.ang) ∧
  (∀ (s : State) (r q : Int), s.fabricUp = true → s.enabled pSdl = false → exec (.slotStart r q) s = .next (s.done s.start)) ∧
  (∀ (s : State) (r q : Int) (c b t : Nat), s.fabricUp = true → s.enabled pSdl = true → s.sdl.slotAt = some c → b = max s.sdl.time (c + s.slotLength) →
    t = ((b : Int) + s.sdl.step.getD 0).toNat → s.cln.adopt = none → s.engP.rep = none →
    ∃ x, exec (.slotStart r q) s = .next x ∧ x.sdl.time = t ∧ x.sdl.slotAt = some t ∧ x.sdl.slotCnt = (s.sdl.slotCnt + 1) % 2 ^ 32 ∧
      x.reg pSdl Reg.Sdl.SLOT_CNT = BitVec.ofNat 32 (s.sdl.slotCnt + 1) ∧ x.reg pSdl Reg.Sdl.SLOT_LEN = BitVec.ofNat 32 ((b - c) % 2 ^ 20) ∧
      x.pgl.winAt = t ∧ x.pav.starts = s.pav.starts + 1) ∧
  (∀ (s : State) (r q : Int) (t : Nat), s.fabricUp = true → s.enabled pSdl = true → s.sdl.slotAt = none → t = ((s.sdl.time : Int) + s.sdl.step.getD 0).toNat →
    s.cln.adopt = none → s.engP.rep = none →
    ∃ x, exec (.slotStart r q) s = .next x ∧ x.sdl.time = t ∧ x.sdl.slotAt = some t ∧ x.sdl.slotCnt = (s.sdl.slotCnt + 1) % 2 ^ 32 ∧
      x.reg pSdl Reg.Sdl.SLOT_LEN = s.reg pSdl Reg.Sdl.SLOT_LEN ∧ x.pgl.winAt = t ∧ x.pav.starts = s.pav.starts + 1) ∧
  (∀ s : State, s.fabricUp = true → s.ptr.fixWait = false → exec .slotInputFix s = .next (s.done s.start)) ∧
  (∀ (s : State) (c : Nat), s.fabricUp = true → s.sdl.slotAt = some c → s.ptr.fixWait = true →
    ∃ x, exec .slotInputFix s = .next x ∧ x.sdl.time = max s.sdl.time (c + 5000) ∧ x.ptr.fixWait = false ∧ x.sdl.slotCnt = s.sdl.slotCnt) ∧
  (∀ s : State, s.fabricUp = true → s.psh.held = false →
    (s.sdl.slotAt = none ∨ s.nextSlotAt ≤ s.pgl.winAt + s.lMin → exec .budgetWindowRestart s = .next (s.done s.start)) ∧
    (s.sdl.slotAt.isSome = true → s.pgl.winAt + s.lMin < s.nextSlotAt →
    ∃ x, exec .budgetWindowRestart s = .next x ∧ x.pgl.charge = [] ∧ x.pgl.exceeded = [] ∧ x.pgl.heldWin = false ∧
      x.sdl.time = max s.sdl.time (s.pgl.winAt + s.lMin) ∧
      x.pgl.winAt = x.sdl.time ∧ ∀ p o : Nat, ¬ (p = pCcp ∧ o = Reg.Ccp.CCP_IP) → x.reg p o = s.reg p o)) ∧
  (∀ s : State, s.fabricUp = true → s.psh.held = true → s.sdl.slotAt.isSome = true → s.pgl.winAt + s.lMin < s.nextSlotAt →
    ∃ x, exec .budgetWindowRestart s = .next x ∧ x.sdl.time = max s.sdl.time (s.pgl.winAt + s.lMin) ∧ x.pgl.winAt = x.sdl.time)

/-- A compare unit arms, is refused late, cancels, converts again, and places its edges. CMP_ARM of a free unit of SDL's own group
that drives a ball arms it with the target NOW, a station time 20 us to 2 s ahead or an angle up to 64 cycles ahead, and refuses
one outside with event 10, and one that drives no ball with event 11; of a group not SDL's it changes no unit. CMP_CANCEL of an
armed unit frees it and shows CANCELLED; CMP_RECONVERSION of an angle target not yet placed gives its instant again.
CMP_FIRST_EDGE drives the ball at the action's instant, with other first edges of that tick in ascending unit order, and keeps a
pulse for its return edge, which brings the prior level back unless a first edge falls on its tick. No other unit changes. (R113,
R114, R115, R116, R139, R140, R305) -/
def Obligations.CompareUnitsAct : Prop :=
  (∀ (s : State) (port : Port) (u : Fin 64) (v : Word), WriteReaches s port pSdl (Reg.Sdl.CMP_ACT u) → s.groupOwner (u / 4) ≠ 1 →
    ∃ x, exec (.cmpArm port u v) s = .next x ∧ exec (.cmpCancel port u v) s = .next x ∧ x.sdl = s.sdl ∧ x.ldg.aout = s.ldg.aout) ∧
  (∀ (s : State) (port : Port) (u : Fin 64) (v : Word) (t : Nat), WriteReaches s port pSdl (Reg.Sdl.CMP_ACT u) → s.groupOwner (u / 4) = 1 →
    s.armed u = none → t = (s.reg pSdl (Reg.Sdl.CMP_TGT_HI u)).toNat * 1000000000 + (s.reg pSdl (Reg.Sdl.CMP_TGT_LO u)).toNat →
    s.flag pSdl (Reg.Sdl.CMP_CFG u) 5 = true → (bitAt v 30 = true ∨ bitAt v 29 = true) → s.sdl.time < 2 ^ 32 * 1000000000 →
    ((bitAt v 30 = true ∨ s.sdl.time + 20000 ≤ t ∧ t ≤ s.sdl.time + 2000000000) →
      ∃ x, exec (.cmpArm port u v) s = .next x ∧ x.armed u = some ⟨none, if bitAt v 30 then s.sdl.time else t, bits v 1 0, bits v 17 2, false,
          s.ball (s.fld pSdl (Reg.Sdl.CMP_CFG u) 4 0), none⟩ ∧
        x.flag pSdl (Reg.Sdl.CMP_CFG u) 8 = true ∧ x.flag pSdl (Reg.Sdl.CMP_CFG u) 9 = false ∧
        (∀ m : Fin 64, m ≠ u → x.armed m = s.armed m) ∧ x.ldg.aout = s.ldg.aout) ∧
    (bitAt v 30 = false → s.sdl.time ≤ t → (t < s.sdl.time + 20000 ∨ s.sdl.time + 2000000000 < t ∧ t < 2 ^ 32 * 1000000000) →
      ∃ x, exec (.cmpArm port u v) s = .next x ∧ x.armed u = none ∧ x.flag pSdl Reg.Hdr.FLT_STA 10 = true ∧ x.ldg.aout = s.ldg.aout)) ∧
  (∀ (s : State) (port : Port) (u : Fin 64) (v : Word) (tgt ahead due : Nat), WriteReaches s port pSdl (Reg.Sdl.CMP_ACT u) → s.groupOwner (u / 4) = 1 →
    s.armed u = none → tgt = (s.reg pSdl (Reg.Sdl.CMP_TGT_HI u)).toNat * 2 ^ 32 + (s.reg pSdl (Reg.Sdl.CMP_TGT_LO u)).toNat →
    ahead = (tgt + 2 ^ 64 - s.sdl.ang) % 2 ^ 64 → due = s.angleDue tgt →
    s.flag pSdl (Reg.Sdl.CMP_CFG u) 5 = true → bitAt v 30 = false → bitAt v 29 = false → s.enabled pSdl = true → s.sdl.freq ≠ 0 →
    (ahead ≤ 64 * 2 ^ 32 → s.sdl.time + 20000 ≤ due →
      ∃ x, exec (.cmpArm port u v) s = .next x ∧ x.armed u = some ⟨some tgt, due, bits v 1 0, bits v 17 2, false,
          s.ball (s.fld pSdl (Reg.Sdl.CMP_CFG u) 4 0), none⟩ ∧
        x.flag pSdl (Reg.Sdl.CMP_CFG u) 8 = true ∧ (∀ m : Fin 64, m ≠ u → x.armed m = s.armed m) ∧ x.ldg.aout = s.ldg.aout) ∧
    (64 * 2 ^ 32 < ahead ∨ due < s.sdl.time + 20000 →
      ∃ x, exec (.cmpArm port u v) s = .next x ∧ x.armed u = none ∧ x.flag pSdl Reg.Hdr.FLT_STA 10 = true)) ∧
  (∀ (s : State) (port : Port) (u : Fin 64) (v : Word), WriteReaches s port pSdl (Reg.Sdl.CMP_ACT u) → s.groupOwner (u / 4) = 1 →
    s.armed u = none → s.flag pSdl (Reg.Sdl.CMP_CFG u) 5 = false → bitAt v 30 = true →
    ∃ x, exec (.cmpArm port u v) s = .next x ∧ x.armed u = none ∧ x.flag pSdl Reg.Hdr.FLT_STA 11 = true) ∧
  (∀ (s : State) (port : Port) (u : Fin 64) (v : Word), WriteReaches s port pSdl (Reg.Sdl.CMP_ACT u) → s.groupOwner (u / 4) = 1 →
    (s.armed u).isSome = true → ∃ x, exec (.cmpCancel port u v) s = .next x ∧ exec (.cmpArm port u v) s = .next x ∧
      x.armed u = none ∧ x.flag pSdl (Reg.Sdl.CMP_CFG u) 8 = false ∧
      x.flag pSdl (Reg.Sdl.CMP_CFG u) 9 = true ∧ (∀ m : Fin 64, m ≠ u → x.armed m = s.armed m) ∧ x.ldg.aout = s.ldg.aout) ∧
  (∀ (s : State) (u : Fin 64), s.fabricUp = true → s.armed u = none → exec (.cmpReconversion u) s = .next (s.done s.start) ∧
    exec (.cmpFirstEdge u) s = .next (s.done s.start) ∧ exec (.cmpReturnEdge u) s = .next (s.done s.start)) ∧
  (∀ (s : State) (u : Fin 64) (a : Armed) (tgt : Nat), s.fabricUp = true → s.armed u = some a → a.angle = some tgt → a.placed = false →
    ∃ x, exec (.cmpReconversion u) s = .next x ∧ x.armed u = some { a with due := s.angleDue tgt } ∧
      (∀ m : Fin 64, m ≠ u → x.armed m = s.armed m) ∧ x.sdl.time = s.sdl.time) ∧
  (∀ (s : State) (u : Fin 64) (a : Armed) (b now : Nat) (e : EdgeTick), s.fabricUp = true → s.armed u = some a → b = s.fld pSdl (Reg.Sdl.CMP_CFG u) 4 0 →
    now = max s.sdl.time a.due → e = (s.edgeAt b now).getD ⟨b, now, s.ball b, []⟩ → a.placed = false →
    (a.angle = none ∨ s.enabled pSdl = true) → s.ldg.aout.length = 32 →
    ∃ x, exec (.cmpFirstEdge u) s = .next x ∧ x.sdl.time = now ∧
      (a.pulse = 0 → x.armed u = none) ∧
      (a.pulse ≠ 0 → s.edgeAt b now = none → x.armed u = some { a with placed := true, prior := s.ball b, due := now }) ∧
      (s.ballDriven b = true → s.pwr.low.contains .vddio33 = false →
        x.ball b = EdgeTick.levelTo { e with units := (u.val, a.level) :: e.units } 64 ∧
        (s.edgeAt b now = none → x.ball b = edgeLevel a.level (s.ball b) ∧ ∀ m : Fin 64, m ≠ u → x.armed m = s.armed m)) ∧
      (s.ballDriven b = false → x.ball b = s.ball b) ∧ (∀ k, k ≠ b → x.ball k = s.ball k)) ∧
  (∀ (s : State) (u : Fin 64) (a : Armed) (b now : Nat), s.fabricUp = true → s.armed u = some a → b = s.fld pSdl (Reg.Sdl.CMP_CFG u) 4 0 →
    now = max s.sdl.time (a.due + 1000 * a.pulse) → a.placed = true → s.ldg.aout.length = 32 →
    ∃ x, exec (.cmpReturnEdge u) s = .next x ∧ x.sdl.time = now ∧ x.armed u = none ∧
      (s.edgeAt b now = none → s.ballDriven b = true → s.pwr.low.contains .vddio33 = false → x.ball b = a.prior) ∧
      ((s.edgeAt b now).isSome = true ∨ s.ballDriven b = false → x.ball b = s.ball b) ∧
      (∀ k, k ≠ b → x.ball k = s.ball k) ∧ (∀ m : Fin 64, m ≠ u → x.armed m = s.armed m))

/-- LOAD, SWAP_AT, ERASE, EXPORT, BBR_GEN and KEK_DERIVE do what their checks permit and report the result. With no key command in
progress and no pair IN_STEP with a session: a LOAD in a lifecycle state without keys, or of an address that is not, ends
LIFECYCLE or ADDR and leaves every slot; a storage blob that passes the checks of R324 fills CUR, or NXT beside a CUR; SWAP_AT
takes T_s; ERASE empties one position or both; EXPORT of a key puts its storage blob at KEY_ADDR, and without KEK_S, key or place
ends NO_KEK, POSITION or ADDR; BBR_GEN without a BBR on a ready Fountain makes BBR and a nonce and ends ZEROISED, and with one
ends BBR_PRESENT; KEK_DERIVE with DS and BBR makes K_S and d_KA, and ends LIFECYCLE or NOT_READY otherwise. KEY_RES is OK and BUSY
reads 0, and no other slot changes. The LOAD of a transport blob ends under its own key, with what its checks met. In a pair, the
KEY holder runs SWAP_AT and waits for the peer, and the other twin asks for its turn. (R319, R320, R321, R322, R323, R324, R325,
R327, R328, R337, R385) -/
def Obligations.KeyCommandsChangeTheirSlot : Prop :=
  (∀ (s : State) (port : Port) (nxt : Bool) (slot : Fin 8192) (a : Nat), WriteReaches s port pOrg Reg.Org.KEY_CMD → s.flag pOrg Reg.Org.KEY_CMD 31 = false →
    s.pairKeys = false → a = (s.reg pOrg Reg.Org.KEY_ADDR).toNat → s.keysPermitted = false ∨ inCsram a 32 = false ∨ a % 8 ≠ 0 →
    ∃ x, exec (.load port nxt slot) s = .next x ∧ x.org.slots = s.org.slots ∧ x.flag pOrg Reg.Org.KEY_CMD 31 = false ∧
      x.reg pOrg Reg.Org.KEY_RES = (if s.keysPermitted then 0x0C else 8)) ∧
  (∀ (s : State) (port : Port) (nxt : Bool) (slot : Fin 8192) (a : Nat) (b : BlobIn) (kek p : List Byte) (k : KeyPos),
    WriteReaches s port pOrg Reg.Org.KEY_CMD → s.flag pOrg Reg.Org.KEY_CMD 31 = false → s.pairKeys = false → a = (s.reg pOrg Reg.Org.KEY_ADDR).toNat →
    s.keysPermitted = true → inCsram a (blobLen s a) = true → inCsram a 32 = true → a % 8 = 0 → s.clean →
    blobAt s a = some b → b.devId = s.deviceId → s.org.kekS = some kek → b.transport = false → kwpUnwrap kek b.wrapped = some p →
    blobPos s p nxt slot = some k → (k.notAfter = 0 ∨ s.sdl.time / 1000000000 < k.notAfter) → (nxt = true → (s.slot slot).cur ≠ none) →
    ∃ x, exec (.load port nxt slot) s = .next x ∧ x.reg pOrg Reg.Org.KEY_RES = 0 ∧ x.flag pOrg Reg.Org.KEY_CMD 31 = false ∧
      (∀ n, n ≠ slot.val → x.slot n = s.slot n) ∧ x.slot slot =
        (if nxt then { s.slot slot with nxt := some k, retired := false, retireAt := none } else { s.slot slot with cur := some k })) ∧
  (∀ (s : State) (port : Port) (slot : Fin 8192) (nxt both : Bool), WriteReaches s port pOrg Reg.Org.KEY_CMD → s.flag pOrg Reg.Org.KEY_CMD 31 = false →
    s.pairKeys = false →
    (∃ x, exec (.swapAt port slot) s = .next x ∧ x.reg pOrg Reg.Org.KEY_RES = 0 ∧ x.flag pOrg Reg.Org.KEY_CMD 31 = false ∧
      (∀ n, n ≠ slot.val → x.slot n = s.slot n) ∧ x.slot slot =
      { s.slot slot with swapAt := some (s.fld pOrg Reg.Org.KEY_ARG1 15 0 * 2 ^ 32 + (s.reg pOrg Reg.Org.KEY_ARG0).toNat) }) ∧
    (∃ x, exec (.erase port nxt both slot) s = .next x ∧ x.reg pOrg Reg.Org.KEY_RES = 0 ∧ x.flag pOrg Reg.Org.KEY_CMD 31 = false ∧
      (∀ n, n ≠ slot.val → x.slot n = s.slot n) ∧
      ((both || !nxt) = true → (x.slot slot).cur = none) ∧ ((both || nxt) = true → (x.slot slot).nxt = none ∧ (x.slot slot).retired = false) ∧
      ((both || !nxt) = false → (x.slot slot).cur = (s.slot slot).cur) ∧ ((both || nxt) = false → (x.slot slot).nxt = (s.slot slot).nxt))) ∧
  (∀ (s : State) (port : Port) (slot : Fin 8192) (nxt : Bool) (a : Nat) (k : Option KeyPos) (len : Nat), WriteReaches s port pOrg Reg.Org.KEY_CMD →
    s.flag pOrg Reg.Org.KEY_CMD 31 = false → a = (s.reg pOrg Reg.Org.KEY_ADDR).toNat → k = (if nxt then (s.slot slot).nxt else (s.slot slot).cur) →
    len = (if k.any (fun q => decide (q.typ ≠ 1)) then 88 else 72) →
    ∃ x, exec (.exportBlob port nxt slot) s = .next x ∧ x.org.slots = s.org.slots ∧ x.org.kekS = s.org.kekS ∧ x.flag pOrg Reg.Org.KEY_CMD 31 = false ∧
      x.reg pOrg Reg.Org.KEY_RES = (if inCsram a len = false ∨ a % 8 ≠ 0 then 0x0C else if s.org.kekS = none then 5 else if k = none then 9 else 0)) ∧
  (∀ (s : State) (port : Port) (slot : Fin 8192) (nxt : Bool) (a : Nat) (kek w : List Byte) (k : KeyPos), WriteReaches s port pOrg Reg.Org.KEY_CMD →
    s.flag pOrg Reg.Org.KEY_CMD 31 = false → a = (s.reg pOrg Reg.Org.KEY_ADDR).toNat → s.org.kekS = some kek →
    w = kwpWrap kek (keyPlain slot k) → (if nxt then (s.slot slot).nxt else (s.slot slot).cur) = some k →
    k.key.length = (if k.typ = 1 then 16 else 32) → inCsram a (if k.typ = 1 then 72 else 88) = true → a % 8 = 0 → s.clean →
    ∃ x, exec (.exportBlob port nxt slot) s = .next x ∧ x.peekMem rgCsram (a - 0x20000000) (if k.typ = 1 then 72 else 88) =
      ascii "BNLK" ++ [1, 1, 0, 0] ++ s.deviceId ++ natOctets 4 w.length ++ zeros 4 ++ w) ∧
  (∀ (s : State) (port : Port), WriteReaches s port pOrg Reg.Org.KEY_CMD → s.flag pOrg Reg.Org.KEY_CMD 31 = false →
    (s.well.bbr = none → s.ftn.st = .ready → s.keysPermitted = true →
      ∃ x, exec (.bbrGen port) s = .next x ∧ x.well.bbr.isSome = true ∧ x.well.impNonce.isSome = true ∧
        x.well.zeroised = false ∧ x.reg pOrg Reg.Org.KEY_RES = 0 ∧ x.flag pOrg Reg.Org.KEK_STA 1 = true ∧ x.org.slots = s.org.slots) ∧
    (s.well.bbr.isSome = true ∨ s.ftn.st ≠ .ready ∨ s.keysPermitted = false → ∃ x, exec (.bbrGen port) s = .next x ∧ x.well = s.well ∧
      x.reg pOrg Reg.Org.KEY_RES = (if s.well.bbr.isSome then 0x0B else if s.ftn.st ≠ .ready then 0x0A else 8) ∧ x.org.slots = s.org.slots)) ∧
  (∀ (s : State) (port : Port), WriteReaches s port pOrg Reg.Org.KEY_CMD → s.flag pOrg Reg.Org.KEY_CMD 31 = false →
    s.keysPermitted = false ∨ s.flag pLdg Reg.Ldg.BOOT_STA 11 = false ∨ s.secret = none ∨ s.well.bbr = none →
    ∃ x, exec (.kekDerive port) s = .next x ∧ x.org.kekS = s.org.kekS ∧ x.org.dKA = s.org.dKA ∧
      x.reg pOrg Reg.Org.KEY_RES = (if s.keysPermitted = false then 8 else if s.flag pLdg Reg.Ldg.BOOT_STA 11 = false then 0x0A else 5)) ∧
  (∀ (s : State) (port : Port) (ds : List Byte) (bbr : BitVec 256), WriteReaches s port pOrg Reg.Org.KEY_CMD → s.flag pOrg Reg.Org.KEY_CMD 31 = false →
    s.secret = some ds → s.well.bbr = some bbr → s.keysPermitted = true → s.flag pLdg Reg.Ldg.BOOT_STA 11 = true →
      ∃ x, exec (.kekDerive port) s = .next x ∧ x.org.kekS = some (hmac ds (ascii "BNL-KS" ++ natOctetsBE 32 bbr.toNat)) ∧
        x.org.dKA = some (beNat (hmac ds (ascii "BNL-KA")) % (p256N - 1) + 1) ∧ x.flag pOrg Reg.Org.KEK_STA 0 = true ∧
        x.reg pOrg Reg.Org.KEY_RES = 0 ∧ x.org.slots = s.org.slots) ∧
  (∀ (s : State) (k : KeyCmd) (p : List Byte) (q : KeyPos), s.fabricUp = true → s.pairKeys = false → s.org.keyCmd = some k →
    s.arb.cur = some (.req .transportLoad) → s.arb.phase = .timed →
    kwpUnwrap (s.kekT k) k.wrapped = some p → blobPos s p (k.pos == 1) k.slot = some q → (q.notAfter = 0 ∨ s.sdl.time / 1000000000 < q.notAfter) →
    (k.pos = 1 → (s.slot k.slot).cur ≠ none) →
    ∃ x, exec .transportLoadComplete s = .next x ∧ x.org.keyCmd = none ∧ x.reg pOrg Reg.Org.KEY_RES = 0 ∧
      x.slot k.slot = (if k.pos = 1 then { s.slot k.slot with nxt := some q, retired := false, retireAt := none } else { s.slot k.slot with cur := some q })) ∧
  (∀ s : State, s.fabricUp = true → s.org.keyCmd = none → exec .transportLoadComplete s = .next (s.done s.start)) ∧
  (∀ (s : State) (port : Port) (slot : Fin 8192), WriteReaches s port pOrg Reg.Org.KEY_CMD → s.flag pOrg Reg.Org.KEY_CMD 31 = false →
    s.pairKeys = true →
    (s.hasRole 3 = true → ∃ x, exec (.swapAt port slot) s = .next x ∧ x.flag pOrg Reg.Org.KEY_CMD 31 = true ∧ x.cln.keyWait = some 2 ∧
      (x.slot slot).swapAt = some (s.fld pOrg Reg.Org.KEY_ARG1 15 0 * 2 ^ 32 + (s.reg pOrg Reg.Org.KEY_ARG0).toNat) ∧
      .twinMsg msgKey (3 :: natOctets 2 slot ++ natOctets 6 (s.fld pOrg Reg.Org.KEY_ARG1 15 0 * 2 ^ 32 + (s.reg pOrg Reg.Org.KEY_ARG0).toNat)) ∈ x.out) ∧
    (s.hasRole 3 = false → ∃ x, exec (.swapAt port slot) s = .next x ∧ x.flag pOrg Reg.Org.KEY_CMD 31 = true ∧ x.cln.keyWait = some 2 ∧
      x.org.slots = s.org.slots ∧ .twinMsg msgKey (0 :: wordOctets (BitVec.ofNat 32 (2 + slot * 65536))) ∈ x.out))

/-- Timed swaps and expiry, the rings and the cores. SWAP_TIMER with the Pergola disabled swaps the one slot in use at its instant and
keeps the old key RETIRED; one without a pending NXT shows SWAP_MISS; with the Pergola enabled the swap waits for the slot start.
RETIRE_EXPIRY at its end zeroes a retired key. RING_HEAD within the ring's size queues the new entries of an enabled ring, a value
beyond is discarded; RING_DISABLE ends nothing else. A core takes the best descriptor, or refuses one that fails its tests with
its status, taking no core; a descriptor for which no core is free waits. A finished descriptor is posted: a digest at DST with
DONE, OK. (R318, R326, R327, R328, R331, R332, R333, R338) -/
def Obligations.KeysSwapExpireAndServe : Prop :=
  (∀ (s : State) (t n ts : Nat) (k : KeySlot) (nx : KeyPos), s.fabricUp = true → s.pglOn = false → s.org.slots = [(n, k)] → k.swapAt = some ts →
    k.nxt = some nx → k.retired = false → ts * 1000000000 ≤ t → s.sdl.time ≤ t →
    ∃ x, exec (.swapTimer t) s = .next x ∧ (x.slot n).cur = some nx ∧ (x.slot n).nxt = k.cur ∧ (x.slot n).retired = k.cur.isSome ∧
      (x.slot n).swapAt = none ∧ x.sdl.time = t ∧
      (x.slot n).retireAt = (if s.fld pOrg Reg.Org.ORG_CFG 15 0 = 0 ∨ k.cur = none then none
        else some (t + s.fld pOrg Reg.Org.ORG_CFG 15 0 * 1000000000))) ∧
  (∀ (s : State) (t n ts : Nat) (k : KeySlot), s.fabricUp = true → s.pglOn = false → s.org.slots = [(n, k)] → k.swapAt = some ts →
    (k.nxt = none ∨ k.retired = true) → ts * 1000000000 ≤ t →
    ∃ x, exec (.swapTimer t) s = .next x ∧ x.slot n = { k with swapAt := none, swapMiss := true } ∧ x.flag pOrg Reg.Hdr.FLT_STA 2 = true) ∧
  (∀ (s : State) (t : Nat), s.fabricUp = true → s.pglOn = true →
    ∃ x, exec (.swapTimer t) s = .next x ∧ x.org.slots = s.org.slots ∧ x.sdl.time = max s.sdl.time t) ∧
  (∀ (s : State) (t n r : Nat) (k : KeySlot), s.fabricUp = true → s.org.slots = [(n, k)] → k.retireAt = some r → r ≤ t → k.retired = true →
    ∃ x, exec (.retireExpiry t) s = .next x ∧ (x.slot n).nxt = none ∧ (x.slot n).retired = false ∧ (x.slot n).cur = k.cur ∧
      x.sdl.time = max s.sdl.time t) ∧
  (∀ (s : State) (port : Port) (r : Fin 4) (v : Word) (head tail h size : Nat), WriteReaches s port pOrg (Reg.Org.RING_HEAD r) →
    head = s.fld pOrg (Reg.Org.RING_HEAD r) 11 0 → tail = s.fld pOrg (Reg.Org.RING_TAIL r) 11 0 → h = v.toNat % 4096 →
    size = 2 ^ s.fld pOrg (Reg.Org.RING_CTL r) 3 0 →
    (size < (h + 4096 - tail) % 4096 → exec (.ringHeadWrite port r v) s = .next (s.done s.heard)) ∧
    ((h + 4096 - tail) % 4096 ≤ size → s.flag pOrg (Reg.Org.RING_CTL r) 31 = false →
      exec (.ringHeadWrite port r v) s = .next (s.done (s.heard.setReg pOrg (Reg.Org.RING_HEAD r) (BitVec.ofNat 32 h)))) ∧
    ((h + 4096 - tail) % 4096 ≤ size → s.flag pOrg (Reg.Org.RING_CTL r) 31 = true → (head + 4096 - tail) % 4096 ≤ (h + 4096 - tail) % 4096 →
      ∃ x, exec (.ringHeadWrite port r v) s = .next x ∧ x.reg pOrg (Reg.Org.RING_HEAD r) = BitVec.ofNat 32 h ∧
        x.org.queue = s.org.queue ++ (List.range ((h + 4096 - tail) % 4096 - (head + 4096 - tail) % 4096)).map (fun i => Desc.mk r ((head + i) % 4096)) ∧
        x.mem = s.mem)) ∧
  (∀ (s : State) (port : Port) (r : Fin 4) (v : Word), WriteReaches s port pOrg (Reg.Org.RING_CTL r) →
    ∃ x, exec (.ringDisable port r v) s = .next x ∧ x.flag pOrg (Reg.Org.RING_CTL r) 31 = false ∧ x.org.slots = s.org.slots ∧
      (s.flag pOrg (Reg.Org.RING_CTL r) 31 = true → x.org.queue = s.org.queue.filter (fun d => !decide (d.ring = r.val)) ∧
        x.org.jobs = s.org.jobs.filter (fun j => !decide (j.desc.ring = r.val)))) ∧
  (∀ (s : State) (d : Desc) (w : List Word), s.fabricUp = true → s.org.queue = [d] → s.clean → w = s.peekDesc d →
    (∀ c, s.freeCore (opHash (opOf w)) = some c → (s.descCheck w).1 = 0 →
      ∃ x, exec .coreTakeDescriptor s = .next x ∧ x.org.queue = [] ∧ x.org.jobs = s.org.jobs ++ [⟨c, d, w, (s.descCheck w).2⟩] ∧
        x.fld pOrg (Reg.Org.RING_TAIL d.ring) 11 0 = (d.index + 1) % 4096) ∧
    (s.freeCore (opHash (opOf w)) = none → (s.descCheck w).1 = 0 → exec .coreTakeDescriptor s = .next (s.done s.start)) ∧
    ((s.descCheck w).1 ≠ 0 → d.ring < 4 → ∃ x, exec .coreTakeDescriptor s = .next x ∧ x.org.queue = [] ∧ x.org.jobs = s.org.jobs ∧
      x.flag pOrg Reg.Hdr.FLT_STA 5 = true)) ∧
  (∀ (s : State) (c : Fin 48) (j : CoreJob), s.fabricUp = true → s.org.jobs = [j] → j.core = c.val →
    ∃ x, exec (.descriptorComplete c) s = .next x ∧ x.org.jobs = [] ∧ x.org.queue = s.org.queue ∧ x.org.slots = s.org.slots) ∧
  (∀ (s : State) (c : Fin 48) (j : CoreJob) (w : List Word) (src dst : Nat), s.fabricUp = true → s.org.jobs = [j] → j.core = c.val → w = j.words →
    src = (nth w 2 0).toNat → dst = (nth w 4 0).toNat → opOf w = 8 → s.clean → inCsram dst 32 = true →
    (s.ringEntry j.desc.ring j.desc.index + 32 ≤ dst - 0x20000000 ∨ dst - 0x20000000 + 32 ≤ s.ringEntry j.desc.ring j.desc.index) →
    s.ringEntry j.desc.ring j.desc.index + 32 ≤ 0x200000 →
    ∃ x, exec (.descriptorComplete c) s = .next x ∧
      x.peekMem rgCsram (dst - 0x20000000) 32 = sha256 (s.peekMem rgCsram (src - 0x20000000) (srcLen w)) ∧
      x.peekWord rgCsram (s.ringEntry j.desc.ring j.desc.index + 28) = 1)

/-- A self-test starts on an idle target, is refused on another, and its measurement is judged. With no test running, each of the
eight BST commands LANE_NEAR, LANE_FAR, CLN_NEAR, KSK_LOOP, REF_SUPPLY, REF_TEMP, REF_HEDGE and LBIST whose ARG0 and COUNT lie in
their range: on an idle target the test runs (BST_RES, BST_ERR, BST_SIG and BST_MEAS read 0; LBIST shows the expected signature),
on another it ends REFUSED, IN_USE; out of range it ends REFUSED, BAD_ARG. REF_HEDGE puts the first selected source under stimulus
that is neither burned nor ACTIVE, and with none such it ends: PASS where no selected source is ACTIVE, else FAIL, ACTIVE. What
BST_TEST_COMPLETE tells of the running test is judged PASS or FAIL as the table says, of REF_HEDGE at its last source; what it
tells of another has no effect. LNE, CLN and the other pages keep their registers while a test starts. (R524, R526, R528, R530,
R532, R533) -/
def Obligations.SelfTestsStartAndEnd : Prop :=
  (∀ (s : State) (port : Port) (target count : Nat), WriteReaches s port pBst Reg.Bst.BST_CMD →
    target = s.fld pBst Reg.Bst.BST_ARG0 8 0 → count = s.fld pBst Reg.Bst.BST_ARG1 15 0 →
    ∀ e ∈ [(1, Instr.laneNear port), (2, Instr.laneFar port), (3, Instr.clnNear port), (4, Instr.kskLoop port), (5, Instr.refSupply port),
      (6, Instr.refTemp port), (7, Instr.refHedge port), (8, Instr.lbist port)],
    (bstArgsOk e.1 target count = true → s.bstIdle e.1 target = true → e.1 ≠ 7 →
      ∃ x, exec e.2 s = .next x ∧ x.bst.map (fun b => (b.test, b.target, b.count)) = some (e.1, target, count) ∧
        (∀ o ∈ [Reg.Bst.BST_RES, Reg.Bst.BST_ERR, Reg.Bst.BST_SIG, Reg.Bst.BST_MEAS], x.reg pBst o = 0) ∧
        (e.1 = 8 → x.reg pBst Reg.Bst.BST_EXP = Config.lbistGolden target count) ∧
        (∀ p o : Nat, p < 0x1000 → o < 0x1000 → p ≠ pBst → p ≠ pCcp → x.reg p o = s.reg p o) ∧ x.mem = s.mem) ∧
    (bstArgsOk e.1 target count = false ∨ s.bstIdle e.1 target = false →
      ∃ x, exec e.2 s = .next x ∧ x.bst = none ∧ x.flag pBst Reg.Hdr.FLT_STA 1 = true ∧
        x.reg pBst Reg.Bst.BST_RES = BitVec.ofNat 32 (e.1 + 16 * bstRefused +
          256 * (if bstArgsOk e.1 target count = true then bstInUse else bstBadArg)))) ∧
  (∀ (s : State) (port : Port) (target i : Nat), WriteReaches s port pBst Reg.Bst.BST_CMD →
    target = s.fld pBst Reg.Bst.BST_ARG0 8 0 → bstArgsOk 7 target 0 = true →
    (i < 8 → target.testBit i = true → (∀ j ∈ List.range i, target.testBit j = false) → s.hdgDisable.testBit i = false → i ∉ s.hdg.active →
      ∃ x, exec (.refHedge port) s = .next x ∧ x.bst.map (fun b => (b.test, b.target, b.source)) = some (7, target, i) ∧
        x.hdg.suppressed = (if i ≤ 1 then [i, 2] else [i]) ∧ x.hdg.active = s.hdg.active) ∧
    ((∀ j ∈ List.range 8, target.testBit j = true → s.hdgDisable.testBit j = true ∨ j ∈ s.hdg.active) →
      ∃ x, exec (.refHedge port) s = .next x ∧ x.bst = none ∧ x.hdg.suppressed = [] ∧
        x.reg pBst Reg.Bst.BST_RES = BitVec.ofNat 32 (7 + (if (List.range 8).any (fun j => target.testBit j && !s.hdgDisable.testBit j)
          then 16 * bstFail + 256 * bstActive else 16 * bstPass)))) ∧
  (∀ (s : State) (b : SelfTest) (n : Nat) (ok : Bool), s.fabricUp = true → s.bst = some b → ok = (n == 0 || (b.test == 2 && !b.target.testBit 8)) →
    (1 ≤ b.test → b.test ≤ 4 → ∃ x, exec (.bstTestComplete (.errors n)) s = .next x ∧ x.bst = none ∧
      x.reg pBst Reg.Bst.BST_RES = BitVec.ofNat 32 (b.test + 16 * (if ok = true then bstPass else bstFail)) ∧
      x.reg pBst Reg.Bst.BST_ERR = BitVec.ofNat 32 (min n 0xFFFFFFFF) ∧ (ok = false → x.flag pBst Reg.Hdr.FLT_STA 0 = true)) ∧
    (4 < b.test → exec (.bstTestComplete (.errors n)) s = .next (s.done s.start))) ∧
  (∀ (s : State) (b : SelfTest) (f : Nat), s.fabricUp = true → s.bst = some b →
    (b.test = 5 → ∃ x, exec (.bstTestComplete (.supplies f)) s = .next x ∧ x.bst = none ∧
      x.reg pBst Reg.Bst.BST_RES = BitVec.ofNat 32 (5 + 16 * (if f % 256 = 0 then bstPass else bstFail)) ∧
      x.reg pBst Reg.Bst.BST_MEAS = BitVec.ofNat 32 (f % 256)) ∧
    (b.test ≠ 5 → exec (.bstTestComplete (.supplies f)) s = .next (s.done s.start))) ∧
  (∀ (s : State) (b : SelfTest) (sig : Nat), s.fabricUp = true → s.bst = some b →
    (b.test = 8 → ∃ x, exec (.bstTestComplete (.misr sig)) s = .next x ∧ x.bst = none ∧ x.reg pBst Reg.Bst.BST_SIG = BitVec.ofNat 32 sig ∧
      x.reg pBst Reg.Bst.BST_RES = BitVec.ofNat 32 (8 + 16 * (if BitVec.ofNat 32 sig = s.reg pBst Reg.Bst.BST_EXP then bstPass else bstFail))) ∧
    (b.test ≠ 8 → exec (.bstTestComplete (.misr sig)) s = .next (s.done s.start))) ∧
  (∀ (s : State) (b : SelfTest) (ts : List Int) (well m : Int) (ok : Bool), s.fabricUp = true → s.bst = some b → m = median (ts ++ [well]) →
    ok = (ts ++ [well]).all (fun x => decide ((x - m).natAbs ≤ 48)) →
    (b.test = 6 → ∃ x, exec (.bstTestComplete (.temps ts well)) s = .next x ∧ x.bst = none ∧
      x.reg pBst Reg.Bst.BST_RES = BitVec.ofNat 32 (6 + 16 * (if ok = true then bstPass else bstFail))) ∧
    (b.test ≠ 6 → exec (.bstTestComplete (.temps ts well)) s = .next (s.done s.start))) ∧
  (∀ (s : State) (b : SelfTest) (raised : Bool), s.fabricUp = true → s.bst = some b →
    (b.test = 7 → b.source < 8 → (∀ j ∈ List.range 8, b.source < j → b.target.testBit j = false) →
      ∃ x, exec (.bstTestComplete (.hedge raised)) s = .next x ∧ x.bst = none ∧ x.hdg.suppressed = [] ∧
        x.reg pBst Reg.Bst.BST_RES = BitVec.ofNat 32 (7 + 16 * (if raised = true ∧ b.failed = 0 then bstPass else bstFail) +
          256 * (if b.active then bstActive else 0))) ∧
    (b.test ≠ 7 → exec (.bstTestComplete (.hedge raised)) s = .next (s.done s.start)))

/-- The maintenance SPI frames: READ, WRITE, PAIRED, RDSR, STAGE, BOOTDB and IDENT. With VDDIO18 up: READ answers STATUS, then four
octets a word, each word the one the MAINT port reads there, most significant octet first; a word of WRITE has the effect of
REGISTER_WRITE by MAINT, and a frame cut inside a word, or with an address outside the register pages, is MALFORMED. PAIRED to
AOUT_SAFE with the exact inverse writes it, with any other word sets PAIR_FAIL and leaves it. RDSR shows the last WRITE's or
PAIRED's STATUS; IDENT answers DEVICE_ID and VER 0x0100B000. While the boot ROM streams from MAINT, STAGE writes its octets into
the staging area and BOOTDB sets HIF_BOOT_DB's LEN, KIND and LAST; at other times both leave the block as it is. Without VDDIO18
no frame has an effect. (R512, R511, R19) -/
def Obligations.MaintSpiFrames : Prop :=
  (∀ (s : State) (addr : Word) (count : Nat) (r : Word × State), s.pwr.vddio18Lost = false → r = s.start.busRead .maint addr.toNat →
    (∃ (x : State) (st : Nat) (bs : List Byte), exec (.msRead addr count) s = .next x ∧ Emission.spi (statusOctet st :: bs) ∈ x.out ∧
      bs.length = 4 * count ∧ x.dbg = s.dbg) ∧
    (inPages addr.toNat = true → ∃ x, exec (.msRead addr 1) s = .next x ∧ Emission.spi (statusOctet r.2.portStatus :: wordOctetsBE r.1) ∈ x.out) ∧
    (inPages addr.toNat = false → ∃ x, exec (.msRead addr 1) s = .next x ∧ Emission.spi [statusOctet 2, 0, 0, 0, 0] ∈ x.out ∧ x.regs = s.regs)) ∧
  (∀ (s : State) (addr : Word) (ws : List Word) (cut : Bool), s.pwr.vddio18Lost = false →
    ∃ x, exec (.msWrite addr ws cut) s = .next x ∧ (cut = true → x.dbg.msLast.testBit 1 = true) ∧
      (inPages addr.toNat = false → ws ≠ [] → x.dbg.msLast.testBit 1 = true) ∧
      (inPages addr.toNat = false → ws.length ≤ 1 → x = s.done { s.start with dbg := x.dbg }) ∧ (ws = [] → cut = false → x.dbg.msLast = 0)) ∧
  (∀ (s : State) (addr v : Word) (cut : Bool), s.pwr.vddio18Lost = false → inPages addr.toNat = true →
    ∃ x y, exec (.msWrite addr [v] cut) s = .next x ∧ exec (.registerWrite .maint addr v) s = .next y ∧ x = { y with dbg := x.dbg } ∧
      (y.gate.acc = [] → cut = false → x.dbg.msLast = 0) ∧ (y.gate.acc = [logAuth] → x.dbg.msLast.testBit 0 = true)) ∧
  (∀ (s : State) (i : Fin 2) (v w : Word), s.pwr.vddio18Lost = false → WriteReaches s .maint pLdg (Reg.Ldg.AOUT_SAFE i) →
    ∃ x, exec (.paired (BitVec.ofNat 32 (regAt pLdg (Reg.Ldg.AOUT_SAFE i))) v w false) s = .next x ∧
      (w = ~~~v → x.reg pLdg (Reg.Ldg.AOUT_SAFE i) = v ∧ x.dbg.msLast.testBit 3 = false) ∧
      (w ≠ ~~~v → s.hdgForced 7 = false → x.reg pLdg (Reg.Ldg.AOUT_SAFE i) = s.reg pLdg (Reg.Ldg.AOUT_SAFE i) ∧
        x.dbg.msLast.testBit 3 = true)) ∧
  (∀ (s : State) (addr v w : Word) (cut : Bool), s.pwr.vddio18Lost = false → cut = true ∨ inPages addr.toNat = false →
    exec (.paired addr v w cut) s = .next (s.done { s.start with dbg := { s.dbg with msLast := 2 } })) ∧
  (∀ s : State, s.pwr.vddio18Lost = false →
    exec .rdsr s = .next (s.done { s.start with out := [.spi [statusOctet s.dbg.msLast]] }) ∧
    exec .ident s = .next (s.done { s.start with out := [.spi (s.deviceId ++ [0x01, 0x00, 0xB0, 0x00])] })) ∧
  (∀ (s : State) (off : Fin 0x1000000) (bs : List Byte), s.pwr.vddio18Lost = false →
    (s.maintStream = true → off.val % 32 = 0 → off.val + bs.length ≤ 0x10000 →
      exec (.stage off bs) s = .next (s.done (s.start.writeMem rgCsram (0x100000 + off.val) bs))) ∧
    (s.maintStream = false ∨ off.val % 32 ≠ 0 ∨ 0x10000 < off.val + bs.length → exec (.stage off bs) s = .next (s.done s.start))) ∧
  (∀ (s : State) (v : Word), s.pwr.vddio18Lost = false → s.maintStream = false → exec (.bootdb v) s = .next (s.done s.start)) ∧
  (∀ (s : State) (v : Word) (b : BootStream), s.pwr.vddio18Lost = false → s.boot.stream = some b → b.src = .maint →
    exec (.bootdb v) s = .next (s.done
      ((s.start.setReg pHif Reg.Hif.HIF_BOOT_DB ((v ||| 0x80000000) &&& 0x8007FFFF)).bootChunk b (v ||| 0x80000000)))) ∧
  (∀ (s : State) (addr v w : Word) (count : Nat) (ws : List Word) (cut : Bool) (off : Fin 0x1000000) (bs : List Byte), s.pwr.vddio18Lost = true →
    exec (.msRead addr count) s = .next (s.done s.start) ∧ exec (.msWrite addr ws cut) s = .next (s.done s.start) ∧
    exec (.paired addr v w cut) s = .next (s.done s.start) ∧ exec .rdsr s = .next (s.done s.start) ∧
    exec (.stage off bs) s = .next (s.done s.start) ∧ exec (.bootdb v) s = .next (s.done s.start) ∧ exec .ident s = .next (s.done s.start))

/-- The TAP: IDCODE, BYPASS, the unlock by challenge and response, and DBG_ACC and DBG_CORE behind it. With VDDIO18 up IDCODE shifts
out 0xB6400A6B and BYPASS its octets a bit later. UNLOCK_CHAL on a ready Fountain shifts out DEVICE_ID, LIFECYCLE, 15 zero octets
and a nonce of 32 octets; on another, a nonce of zeros, NOT_READY and no response accepted. A response by a permitted key starts
the verification, BUSY; by any other key it fails, counts and sets GTH FLT_STA bit 5; after four failures it is ignored. A good
signature unlocks, in OPERATIONAL with a zeroise; a bad one fails. DBG_ACC and DBG_CORE act as BYPASS while locked; unlocked, OP 1
reads control SRAM and OP 2 writes it, addresses nothing permits are MALFORMED, and DBG_CORE halts, issues one bundle and resumes.
Without VDDIO18 the TAP answers nothing. (R516, R517, R518, R519) -/
def Obligations.TapUnlocksAndDebugs : Prop :=
  (∀ (s : State) (bs : List Byte), s.pwr.vddio18Lost = false →
    exec .idcode s = .next (s.done { s.start with out := [.tap [0x6B, 0x0A, 0x40, 0xB6]] }) ∧
    exec .unlockSta s = .next (s.done { s.start with out := [.tap [BitVec.ofNat 8 s.dbg.unlockSta]] }) ∧
    ∃ x, exec (.bypass bs) s = .next x ∧ x = s.done { s.start with out := x.out } ∧
      x.out.map (fun e => match e with | .tap y => (y.length, leNat y) | _ => (0, 0)) = [(bs.length, 2 * leNat bs % 2 ^ (8 * bs.length))]) ∧
  (∀ s : State, s.pwr.vddio18Lost = false → ∃ x, exec .unlockChal s = .next x ∧ Emission.tap x.dbg.challenge ∈ x.out ∧
    x.dbg.challenge.take 32 = s.deviceId ++ [BitVec.ofNat 8 s.lifecycle] ++ zeros 15 ∧ x.dbg.challenge.length = 64 ∧ x.dbg.unlocked = s.dbg.unlocked ∧
    (s.ftn.st = .ready → x.dbg.chalReady = true ∧ x.dbg.unlockSta = s.dbg.unlockSta) ∧
    (s.ftn.st ≠ .ready → x.dbg.chalReady = false ∧ x.dbg.unlockSta = unlNotReady ∧ x.dbg.challenge.drop 32 = zeros 32 ∧ x.ftn = s.ftn)) ∧
  (∀ (s : State) (resp : List Byte), s.pwr.vddio18Lost = false → resp.length = 128 →
    (4 ≤ s.dbg.fails ∨ s.dbg.chalReady = false ∨ s.dbg.verifying = true → exec (.unlockResp resp) s = .next (s.done s.start)) ∧
    (s.dbg.fails < 4 → s.dbg.chalReady = true → s.dbg.verifying = false → s.unlockKey (resp.take 64) = true →
      ∃ x, exec (.unlockResp resp) s = .next x ∧ x.dbg.chalReady = false ∧ x.dbg.verifying = true ∧ x.dbg.unlockSta = unlBusy ∧
        x.dbg.resp = resp ∧ x.dbg.unlocked = s.dbg.unlocked ∧
        (s.arb.cur = none → x.arb.cur = some (.req .unlockVerify)) ∧
        (s.arb.cur ≠ none → x.arb.cur = s.arb.cur ∧ x.arb.waiting = s.arb.waiting ++ [.unlockVerify])) ∧
    (s.dbg.fails < 4 → s.dbg.chalReady = true → s.dbg.verifying = false → s.unlockKey (resp.take 64) = false →
      ∃ x, exec (.unlockResp resp) s = .next x ∧ x.dbg.chalReady = false ∧ x.dbg.fails = s.dbg.fails + 1 ∧
        x.dbg.unlockSta = unlFailed ∧ x.dbg.unlocked = s.dbg.unlocked ∧ x.flag pGth Reg.Hdr.FLT_STA 5 = true)) ∧
  (∀ (s : State) (op : Fin 4) (addr data : Word), s.pwr.vddio18Lost = false → s.dbg.unlocked = false →
    (∃ x, exec (.dbgAcc op addr data) s = .next x ∧ x = s.done { s.start with out := x.out } ∧
      x.out.map (fun e => match e with | .tap y => y.length | _ => 0) = [9]) ∧
    (∃ x, exec (.dbgCore op) s = .next x ∧ x = s.done { s.start with out := x.out })) ∧
  (∀ (s : State) (op : Fin 4) (addr data : Word), s.pwr.vddio18Lost = false → s.dbg.unlocked = true → ∃ x, exec (.dbgAcc op addr data) s = .next x ∧
      Emission.tap (if s.dbg.last.isEmpty then zeros 9 else s.dbg.last) ∈ x.out ∧
      (op = 0 → x.dbg = s.dbg ∧ x.mem = s.mem) ∧
      (op = 1 → addr.toNat % 4 = 0 → inCsram addr.toNat 4 = true → s.clean →
        x.dbg.last = dbgAccOctets (s.peekWord rgCsram (addr.toNat - 0x20000000)) addr.toNat 1 0) ∧
      (op = 1 → inPages addr.toNat = false → addr.toNat % 4 ≠ 0 → x.mem = s.mem ∧ x.dbg.last = dbgAccOctets 0 addr.toNat 1 2) ∧
      (op = 2 → addr.toNat % 4 = 0 → inCsram addr.toNat 4 = true → s.clean → inPages addr.toNat = false →
        x.peekWord rgCsram (addr.toNat - 0x20000000) = data ∧ x.dbg.last = dbgAccOctets data addr.toNat 2 0) ∧
      (op = 2 → inPages addr.toNat = false → inCsram addr.toNat 4 = false →
        x.mem = s.mem ∧ x.dbg.last = dbgAccOctets data addr.toNat 2 2) ∧
      (op = 3 → inPages addr.toNat = false → x.mem = s.mem ∧ x.dbg.last = dbgAccOctets data addr.toNat 3 2)) ∧
  (∀ (s : State) (addr data : Word), s.pwr.vddio18Lost = false → s.dbg.unlocked = true → inPages addr.toNat = true →
    ∃ x y, exec (.dbgAcc 2 addr data) s = .next x ∧ exec (.registerWrite .debug addr data) s = .next y ∧ x.regs = y.regs ∧ x.gate = y.gate) ∧
  (∀ s : State, s.pwr.vddio18Lost = false → s.dbg.unlocked = true →
    exec (.dbgCore 1) s = .next (s.done { s.start with engC := { s.engC with halted := true } }) ∧
      exec (.dbgCore 3) s = .next (s.done { s.start with engC := { s.engC with halted := false } }) ∧
      exec (.dbgCore 0) s = .next (s.done s.start) ∧
      ∃ x, exec (.dbgCore 2) s = .next x ∧ x.engC.halted = s.engC.halted ∧
        x = s.done { ({ s.start with engC := { s.engC with halted := false } }).issue .core with engC := x.engC }) ∧
  (∀ (s : State) (ok : Bool), s.fabricUp = true →
    ok = ecdsaVerify (s.dbg.resp.take 64) (sha256 (ascii "BNL-DU" ++ s.dbg.challenge)) (s.dbg.resp.drop 64) →
    s.arb.cur = some (.req .unlockVerify) → s.arb.phase = .timed → s.dbg.verifying = true →
    ∃ x, exec .unlockVerifyComplete s = .next x ∧ x.dbg.verifying = false ∧
      (ok = true → x.dbg.unlocked = true ∧ x.dbg.unlockSta = unlUnlocked ∧ (s.lifecycle = 2 → x.org.slots = [] ∧ x.org.kekS = none ∧ x.well.bbr = none)) ∧
      (ok = false → x.dbg.unlocked = s.dbg.unlocked ∧ x.dbg.unlockSta = unlFailed ∧ x.dbg.fails = s.dbg.fails + 1 ∧
        x.flag pGth Reg.Hdr.FLT_STA 5 = true)) ∧
  (∀ s : State, s.fabricUp = true → s.arb.cur = none → exec .unlockVerifyComplete s = .next (s.done s.start)) ∧
  (∀ (s : State) (resp : List Byte) (op : Fin 4) (addr data : Word), s.pwr.vddio18Lost = true → resp.length = 128 →
    exec .idcode s = .next (s.done s.start) ∧ exec (.bypass resp) s = .next (s.done s.start) ∧ exec .unlockChal s = .next (s.done s.start) ∧
    exec (.unlockResp resp) s = .next (s.done s.start) ∧ exec .unlockSta s = .next (s.done s.start) ∧
    exec (.dbgAcc op addr data) s = .next (s.done s.start) ∧ exec (.dbgCore op) s = .next (s.done s.start))

/-- Narrowing, the proxy, the log, lockstep and re-keying. GTH_NARROW clears exactly its bits in the masks of the index, or of every
index with ALL. A proxy access as NET answers at once: a read puts the word NET reads into GTH_PROXY_DATA, a write outside the GTH
page leaves the registers as REGISTER_WRITE by NET does, and an address outside the register pages ends MALFORMED. As TWIN it is
sent over the session, BUSY, or ends NO_PEER without one; while BUSY another is refused; the answer, or its absence (TIMEOUT), or
the loss of the session (NO_PEER) ends it. An access of the peer is performed as TWIN and answered. A read of GTH_LOG answers and
removes the oldest entry, 0 where there is none. A lockstep or parity error stops CORE_LIVE and reports cause 0x30, fatal. REKEY
on a ready Fountain asks it for a key; on another it is refused and logged. (R498, R500, R502, R503, R520) -/
def Obligations.GatehouseCommands : Prop :=
  (∀ (s : State) (port : Port) (w r : BitVec 9) (all : Bool), WriteReaches s port pGth Reg.Gth.GTH_NARROW →
    ∃ x, exec (.gthNarrowWrite port w r all) s = .next x ∧ x.otp = s.otp ∧ x.mem = s.mem ∧ x.gate.log = s.gate.log ∧
      (∀ idx < 256, x.masks idx = if all = true ∨ idx = s.fld pGth Reg.Gth.GTH_IDX 7 0
        then ⟨(s.masks idx).wr &&& ~~~ w, (s.masks idx).rd &&& ~~~ r⟩ else s.masks idx)) ∧
  (∀ (s : State) (port : Port) (p o : Nat), WriteReaches s port pGth Reg.Gth.GTH_PROXY_CMD → s.flag pGth Reg.Gth.GTH_PROXY_CMD 31 = false →
    p < 0x1000 → o < 0x1000 → o % 4 = 0 → (s.reg pGth Reg.Gth.GTH_PROXY_ADDR).toNat = regAt p o →
    (∃ x, exec (.proxyRead port false) s = .next x ∧ x.gate.proxy = none ∧ x.flag pGth Reg.Gth.GTH_PROXY_CMD 31 = false ∧
      x.reg pGth Reg.Gth.GTH_PROXY_DATA = (s.heard.readAt .net p o).1) ∧
    (p ≠ pGth → ∃ x y, exec (.proxyWrite port false false) s = .next x ∧
      exec (.registerWrite .net (BitVec.ofNat 32 (regAt p o)) (s.reg pGth Reg.Gth.GTH_PROXY_DATA)) s = .next y ∧
      ∀ q u : Nat, q < 0x1000 → u < 0x1000 → q ≠ pGth → q ≠ pCcp → x.reg q u = y.reg q u)) ∧
  (∀ (s : State) (port : Port) (pair : Bool), WriteReaches s port pGth Reg.Gth.GTH_PROXY_CMD → s.flag pGth Reg.Gth.GTH_PROXY_CMD 31 = false →
    regAddr (s.reg pGth Reg.Gth.GTH_PROXY_ADDR).toNat = false →
    (∃ x, exec (.proxyRead port false) s = .next x ∧ x.fld pGth Reg.Gth.GTH_PROXY_CMD 10 8 = 2 ∧ x.reg pGth Reg.Gth.GTH_PROXY_DATA = 0 ∧ x.mem = s.mem) ∧
    (∃ x, exec (.proxyWrite port pair false) s = .next x ∧ x.fld pGth Reg.Gth.GTH_PROXY_CMD 10 8 = 2 ∧ x.mem = s.mem)) ∧
  (∀ (s : State) (port : Port) (pair : Bool), WriteReaches s port pGth Reg.Gth.GTH_PROXY_CMD → s.flag pGth Reg.Gth.GTH_PROXY_CMD 31 = false →
    (s.proxyPeer = true → ∃ x, exec (.proxyRead port true) s = .next x ∧ x.flag pGth Reg.Gth.GTH_PROXY_CMD 31 = true ∧
      x.gate.proxy = some ⟨false, false, false, (s.reg pGth Reg.Gth.GTH_PROXY_ADDR).toNat, s.reg pGth Reg.Gth.GTH_PROXY_DATA⟩) ∧
    (s.proxyPeer = true → ∃ x, exec (.proxyWrite port pair true) s = .next x ∧ x.flag pGth Reg.Gth.GTH_PROXY_CMD 31 = true ∧
      x.gate.proxy = some ⟨false, true, pair, (s.reg pGth Reg.Gth.GTH_PROXY_ADDR).toNat, s.reg pGth Reg.Gth.GTH_PROXY_DATA⟩) ∧
    (s.proxyPeer = false → ∃ x, exec (.proxyRead port true) s = .next x ∧ x.fld pGth Reg.Gth.GTH_PROXY_CMD 10 8 = 3 ∧ x.mem = s.mem) ∧
    (s.proxyPeer = false → ∃ x, exec (.proxyWrite port pair true) s = .next x ∧ x.fld pGth Reg.Gth.GTH_PROXY_CMD 10 8 = 3 ∧ x.mem = s.mem)) ∧
  (∀ (s : State) (port : Port) (pair twin : Bool), WriteReaches s port pGth Reg.Gth.GTH_PROXY_CMD → s.flag pGth Reg.Gth.GTH_PROXY_CMD 31 = true →
    (∃ x, exec (.proxyRead port twin) s = .next x ∧ x.gate.proxy = s.gate.proxy ∧ x.mem = s.mem ∧ x.flag pGth Reg.Hdr.FLT_STA 1 = true) ∧
    (∃ x, exec (.proxyWrite port pair twin) s = .next x ∧ x.gate.proxy = s.gate.proxy ∧ x.mem = s.mem ∧ x.flag pGth Reg.Hdr.FLT_STA 1 = true)) ∧
  (∀ (s : State) (q : ProxyReq) (answer : Option (Nat × Word)), s.fabricUp = true → s.gate.proxy = some q → q.net = false →
    answer.all (fun (a : Nat × Word) => decide (a.1 < 5)) = true →
    ∃ x, exec (.proxyAnswerReceived answer) s = .next x ∧ x.gate.proxy = none ∧ x.flag pGth Reg.Gth.GTH_PROXY_CMD 31 = false ∧
      x.fld pGth Reg.Gth.GTH_PROXY_CMD 10 8 = (if s.cln.session then (answer.elim 4 (·.1)) else 3) ∧
      x.reg pGth Reg.Gth.GTH_PROXY_DATA = (if q.write then s.reg pGth Reg.Gth.GTH_PROXY_DATA
        else if s.cln.session then answer.elim 0 (·.2) else 0)) ∧
  (∀ (s : State) (answer : Option (Nat × Word)), answer.all (fun (a : Nat × Word) => decide (a.1 < 5)) = true → s.gate.proxy = none ∨ s.fabricUp = false →
    exec (.proxyAnswerReceived answer) s = .next (s.done s.start)) ∧
  (∀ (s : State) (p o : Nat) (v : Word), s.cln.session = true → s.fabricUp = true → s.quiet → p < 0x1000 → o < 0x1000 → o % 4 = 0 →
    (∃ (x : State) (res : Byte), exec (.proxyAccessReceived false false (BitVec.ofNat 32 (regAt p o)) v) s = .next x ∧
      Emission.twinMsg msgProxyAnswer (res :: wordOctets (s.heard.readAt .twin p o).1) ∈ x.out) ∧
    (p ≠ pGth → ∃ x y, exec (.proxyAccessReceived true false (BitVec.ofNat 32 (regAt p o)) v) s = .next x ∧
      exec (.registerWrite .twin (BitVec.ofNat 32 (regAt p o)) v) s = .next y ∧
      ∀ q u : Nat, q < 0x1000 → u < 0x1000 → x.reg q u = y.reg q u)) ∧
  (∀ (s : State) (write pair : Bool) (addr v : Word), s.cln.session = true →
    (s.fabricUp = true → regAddr addr.toNat = false → ∃ x, exec (.proxyAccessReceived write pair addr v) s = .next x ∧
      Emission.twinMsg msgProxyAnswer (2 :: wordOctets 0) ∈ x.out ∧ x.mem = s.mem) ∧
    (s.fabricUp = false → ∃ x, exec (.proxyAccessReceived write pair addr v) s = .next x ∧
      Emission.twinMsg msgProxyAnswer (4 :: wordOctets 0) ∈ x.out ∧ x.mem = s.mem)) ∧
  (∀ (s : State) (port : Port) (e : GthEntry) (rest : List GthEntry), ReadReaches s port pGth → s.gate.log = e :: rest →
    ∃ x, exec (.gthLogRead port) s = .next x ∧ Emission.value e.word ∈ x.out ∧ x.gate.log = rest) ∧
  (∀ (s : State) (port : Port), ReadReaches s port pGth → s.gate.log = [] →
    ∃ x, exec (.gthLogRead port) s = .next x ∧ Emission.value 0 ∈ x.out ∧ x.gate.log = []) ∧
  (∀ (s : State) (parity : Bool), s.fabricUp = true →
    ∃ x, exec (.lockstepError parity) s = .next x ∧ x.ldg.coreStopped = true ∧
      x.blv.incoming.take s.blv.incoming.length = s.blv.incoming ∧
      (x.blv.incoming.drop s.blv.incoming.length).map (fun (r : Report) => (r.page, r.cause, r.cls, r.addr)) =
        [(pCcp, 0x30, 3, if parity then 2 else 1)]) ∧
  (∀ (s : State) (parity : Bool), s.fabricUp = false → exec (.lockstepError parity) s = .next (s.done s.start)) ∧
  (∀ (s : State) (port : Port), WriteReaches s port pCcp Reg.Ccp.CCP_MASK →
    (s.ftn.st = .ready → ∃ x, exec (.rekey port) s = .next x ∧ FtnReq.rekey ∈ x.ftn.waiting ∧ (∀ r ∈ s.ftn.waiting, r ∈ x.ftn.waiting)) ∧
    (s.ftn.st ≠ .ready → ∃ x, exec (.rekey port) s = .next x ∧ x.ftn = s.ftn ∧ x.flag pGth Reg.Hdr.FLT_STA 1 = true))

/-- PCIe link and reset, BAR2, doorbells, the HIF and CCP transfers, and the console. A link that trains shows its speed, width and
Bus Master Enable in STA; a PCIe reset drops it, aborts a transfer and sets FLT_STA bit 0. BAR2 reads and writes control SRAM, and
reads the sample store, as HIF_WIN permits; what it does not permit reads zeros, writes nothing, and is logged. HIF_F2H_SET sets
its bits and sends a vector each over a link. A HIF transfer starts, or ends NO_BME or ADDR at once, and another meanwhile is
refused; of one that runs, the units its class admits go out, 32 octets each, to their host addresses, and it ends when all have
gone. A CCP transfer likewise starts or ends ADDR; the units its class admits leave the destination a copy of the source, but in
the sample store, where nothing is stored. The console FIFOs hold 16 octets: the 17th of UART_TX is discarded, of UART_RX lost
with OVERRUN; a read of an empty UART_RX is not VALID. What a transfer copies is what its registers named at GO, by the model's
choice (log entry 4). (R507, R508, R509, R510, R511, R515, R522, R523) -/
def Obligations.HostWindowsAndTransfers : Prop :=
  (∀ (s : State) (speed width : Fin 5) (bme : Bool), speed ≠ 0 → width = 1 ∨ width = 2 ∨ width = 4 →
    (s.ldg.phase ≠ .held → ∃ x, exec (.pcieLinkUp speed width bme) s = .next x ∧ x.hif.up = true ∧
      x.fld pHif Reg.Hdr.STA 15 8 = 1 + 2 * speed + 16 * width + 128 * b2n bme) ∧
    (s.ldg.phase = .held → exec (.pcieLinkUp speed width bme) s = .next (s.done s.start))) ∧
  (∀ (s : State) (perst : Bool), ∃ x, exec (.pcieReset perst) s = .next x ∧ x.hif.up = false ∧ x.fld pHif Reg.Hdr.STA 15 8 = 0 ∧
    x.flag pHif Reg.Hdr.FLT_STA 0 = true ∧ x.hif.xfer = none ∧ x.hif.dma = s.hif.dma ∧
    (s.hif.xfer ≠ none → x.fld pHif Reg.Hif.XF_CMD 2 1 = 2 ∧ x.flag pHif Reg.Hif.XF_CMD 31 = false)) ∧
  (∀ (s : State) (off : Fin 0x8000000) (n : Fin 1025), s.ldg.phase ≠ .held → s.hif.up = true → s.clean →
    (s.fld pHif Reg.Hif.HIF_WIN 1 0 = 1 ∨ s.fld pHif Reg.Hif.HIF_WIN 1 0 = 2 → off.val + 4 * n ≤ 0x200000 →
      ∃ x, exec (.bar2Access off n none) s = .next x ∧ x.mem = s.mem ∧
        x.out = (chunks 4 (s.peekMem rgCsram off (4 * n))).map (fun b => Emission.value (leWord b))) ∧
    (s.flag pHif Reg.Hif.HIF_WIN 2 = true → 0x4000000 ≤ off.val → off.val + 4 * n ≤ 0x8000000 → s.focusLatency = false →
      ∃ x, exec (.bar2Access off n none) s = .next x ∧ x.mem = s.mem ∧
        x.out = (chunks 4 (s.peekMem rgSample (off - 0x4000000) (4 * n))).map (fun b => Emission.value (leWord b)))) ∧
  (∀ (s : State) (off : Fin 0x8000000) (n : Fin 1025) (bs : List Byte), s.ldg.phase ≠ .held → s.hif.up = true → s.clean →
    s.fld pHif Reg.Hif.HIF_WIN 1 0 = 2 → off.val + bs.length ≤ 0x200000 →
    exec (.bar2Access off n (some bs)) s = .next (s.done (s.start.writeMem rgCsram off bs))) ∧
  (∀ (s : State) (off : Fin 0x8000000) (n : Fin 1025) (bs : List Byte) (b : BootStream), s.ldg.phase ≠ .held → s.hif.up = true → s.clean →
    s.boot.stream = some b → b.src = .host → 0x100000 ≤ off.val → off.val + bs.length ≤ 0x110000 →
    exec (.bar2Access off n (some bs)) s = .next (s.done (s.start.writeMem rgCsram off bs))) ∧
  (∀ (s : State) (off : Fin 0x8000000) (n : Fin 1025), s.fabricUp = true → s.hif.up = true →
    (s.fld pHif Reg.Hif.HIF_WIN 1 0 = 0 ∨ 0x200000 < off.val + 4 * n) →
    (s.flag pHif Reg.Hif.HIF_WIN 2 = false ∨ off.val < 0x4000000 ∨ 0x8000000 < off.val + 4 * n) →
    ∃ x, exec (.bar2Access off n none) s = .next x ∧ x.mem = s.mem ∧ x.flag pHif Reg.Hdr.FLT_STA 3 = true ∧
      (x.out.filter (fun e => match e with | .value _ => true | _ => false)) = List.replicate n (.value 0)) ∧
  (∀ (s : State) (off : Fin 0x8000000) (n : Fin 1025) (bs : List Byte), s.fabricUp = true → s.hif.up = true → s.boot.stream = none →
    s.fld pHif Reg.Hif.HIF_WIN 1 0 < 2 ∨ 0x200000 < off.val + bs.length →
    ∃ x, exec (.bar2Access off n (some bs)) s = .next x ∧ x.mem = s.mem ∧ x.flag pHif Reg.Hdr.FLT_STA 3 = true) ∧
  (∀ (s : State) (off : Fin 0x8000000) (n : Fin 1025) (write : Option (List Byte)), s.ldg.phase = .held ∨ s.hif.up = false →
    exec (.bar2Access off n write) s = .next (s.done s.start)) ∧
  (∀ (s : State) (port : Port) (v : Word), WriteReaches s port pHif Reg.Hif.HIF_F2H_SET →
    ∃ x, exec (.hifF2hSetWrite port v) s = .next x ∧ x.reg pHif Reg.Hif.HIF_F2H = s.reg pHif Reg.Hif.HIF_F2H ||| (v &&& 0xFF) ∧
      (∀ i < 8, s.hif.up = true → bitAt v i = true → Emission.msix (8 + i) ∈ x.out)) ∧
  (∀ (s : State) (port : Port) (src dst len : Nat), WriteReaches s port pHif Reg.Hif.XF_CMD → s.hif.xfer = none →
    src = (s.reg pHif Reg.Hif.XF_SRC).toNat → dst = (s.reg pHif Reg.Hif.XF_DST_LO).toNat + (s.reg pHif Reg.Hif.XF_DST_HI).toNat * 2 ^ 32 →
    len = s.fld pHif Reg.Hif.XF_LEN 16 0 →
    (s.flag pHif Reg.Hdr.STA 15 = false → ∃ x, exec (.hifTransferStart port) s = .next x ∧ x.hif.xfer = none ∧ x.fld pHif Reg.Hif.XF_CMD 2 1 = 1) ∧
    (s.flag pHif Reg.Hdr.STA 15 = true → inCsram src len = false ∨ src % 4 ≠ 0 ∨ len % 4 ≠ 0 ∨ len < 4 ∨ 65536 < len →
      ∃ x, exec (.hifTransferStart port) s = .next x ∧ x.hif.xfer = none ∧ x.fld pHif Reg.Hif.XF_CMD 2 1 = 3) ∧
    (s.flag pHif Reg.Hdr.STA 15 = true → inCsram src len = true → src % 4 = 0 → len % 4 = 0 → 4 ≤ len → len ≤ 65536 →
      ∃ x, exec (.hifTransferStart port) s = .next x ∧ x.hif.xfer = some ⟨src, dst, len, 0⟩ ∧ x.flag pHif Reg.Hif.XF_CMD 31 = true)) ∧
  (∀ (s : State) (port : Port), WriteReaches s port pHif Reg.Hif.XF_CMD → s.hif.xfer ≠ none →
    ∃ x, exec (.hifTransferStart port) s = .next x ∧ x.hif = s.hif ∧ x.flag pGth Reg.Hdr.FLT_STA 1 = true) ∧
  (∀ (s : State) (t : Transfer) (n : Nat), s.fabricUp = true → s.hif.xfer = some t →
    n = (s.start.admitUnits pHif ((t.len - t.moved + 31) / 32)).1 → s.clean →
    ∃ x, exec .hifTransferDone s = .next x ∧ x.mem = s.mem ∧
      (t.len ≤ t.moved + 32 * n → x.hif.xfer = none ∧ x.fld pHif Reg.Hif.XF_CMD 2 1 = 0 ∧ x.flag pHif Reg.Hif.XF_CMD 31 = false) ∧
      (t.moved + 32 * n < t.len → x.hif.xfer = some { t with moved := t.moved + 32 * n } ∧
        x.reg pHif Reg.Hif.XF_CMD = s.reg pHif Reg.Hif.XF_CMD) ∧
      (∀ k < n, Emission.hostWrite (t.dst + (t.moved + 32 * k))
          (s.peekMem rgCsram (t.src + (t.moved + 32 * k) - 0x20000000) (min 32 (t.len - (t.moved + 32 * k)))) ∈ x.out)) ∧
  (∀ s : State, s.fabricUp = false ∨ s.hif.xfer = none → exec .hifTransferDone s = .next (s.done s.start)) ∧
  (∀ (s : State) (port : Port) (src dst len : Nat), WriteReaches s port pCcp Reg.Ccp.DMA_CMD → s.hif.dma = none →
    src = (s.reg pCcp Reg.Ccp.DMA_SRC).toNat → dst = (s.reg pCcp Reg.Ccp.DMA_DST).toNat → len = s.fld pCcp Reg.Ccp.DMA_LEN 21 0 →
    (src % 32 = 0 → dst % 32 = 0 → len % 32 = 0 → len ≤ 0x200000 → dmaArea src len ≠ none → dmaArea dst len ≠ none →
      ∃ x, exec (.dmaStart port) s = .next x ∧ x.hif.dma = some ⟨src, dst, len, 0⟩ ∧ x.flag pCcp Reg.Ccp.DMA_CMD 31 = true ∧ x.mem = s.mem) ∧
    (dmaArea src len = none ∨ dmaArea dst len = none ∨ src % 32 ≠ 0 ∨ dst % 32 ≠ 0 ∨ len % 32 ≠ 0 ∨ 0x200000 < len →
      ∃ x, exec (.dmaStart port) s = .next x ∧ x.hif.dma = none ∧ x.fld pCcp Reg.Ccp.DMA_CMD 2 1 = 1 ∧ x.mem = s.mem)) ∧
  (∀ (s : State) (port : Port), WriteReaches s port pCcp Reg.Ccp.DMA_CMD → s.hif.dma ≠ none →
    ∃ x, exec (.dmaStart port) s = .next x ∧ x.hif = s.hif ∧ x.flag pGth Reg.Hdr.FLT_STA 1 = true) ∧
  (∀ (s : State) (t : Transfer) (n src dst a b : Nat), s.fabricUp = true → s.hif.dma = some t →
    n = (s.start.admitUnits pCcp ((t.len - t.moved) / 32)).1 → src = t.src + t.moved → dst = t.dst + t.moved → s.clean →
    dmaArea src (32 * n) = some a → dmaArea dst (32 * n) = some b → (a = rgSample → s.focusLatency = false) →
    ∃ x, exec .dmaDone s = .next x ∧ (b = rgSample → x.mem = s.mem) ∧
      (t.len ≤ t.moved + 32 * n → x.hif.dma = none ∧ x.fld pCcp Reg.Ccp.DMA_CMD 2 1 = 0 ∧ x.flag pCcp Reg.Ccp.DMA_CMD 31 = false) ∧
      (t.moved + 32 * n < t.len → x.hif.dma = some { t with moved := t.moved + 32 * n } ∧
        x.reg pCcp Reg.Ccp.DMA_CMD = s.reg pCcp Reg.Ccp.DMA_CMD) ∧
      (b ≠ rgSample → a ≠ b ∨ src + 32 * n ≤ dst ∨ dst + 32 * n ≤ src →
        x.peekMem b (dst - areaBase b) (32 * n) = s.peekMem a (src - areaBase a) (32 * n))) ∧
  (∀ s : State, s.fabricUp = false ∨ s.hif.dma = none → exec .dmaDone s = .next (s.done s.start)) ∧
  (∀ (s : State) (port : Port) (d : Byte), WriteReaches s port pCcp Reg.Ccp.UART_TX →
    exec (.uartTxWrite port d) s = .next (s.done (if s.ccp.txq.length < 16 then { s.heard with ccp := { s.ccp with txq := s.ccp.txq ++ [d] } }
      else s.heard))) ∧
  (∀ (s : State) (b : Byte) (rest : List Byte), s.fabricUp = true → s.ccp.txq = b :: rest →
    exec .uartTxOctetSent s = .next (s.done { s.start with ccp := { s.ccp with txq := rest }, out := [.uart b] })) ∧
  (∀ s : State, s.fabricUp = false ∨ s.ccp.txq = [] → exec .uartTxOctetSent s = .next (s.done s.start)) ∧
  (∀ (s : State) (d : Byte), s.fabricUp = true →
    (s.ccp.rxq.length < 16 → exec (.uartRxOctet d) s = .next (s.done { s.start with ccp := { s.ccp with rxq := s.ccp.rxq ++ [d] } })) ∧
    (16 ≤ s.ccp.rxq.length → ∃ x, exec (.uartRxOctet d) s = .next x ∧ x.ccp.rxq = s.ccp.rxq ∧ x.flag pCcp Reg.Ccp.UART_RX 9 = true ∧
      x.flag pCcp Reg.Hdr.FLT_STA 1 = true)) ∧
  (∀ (s : State) (port : Port) (b : Byte) (rest : List Byte), ReadReaches s port pCcp → s.ccp.rxq = b :: rest →
    ∃ x, exec (.uartRxRead port) s = .next x ∧ x.ccp.rxq = rest ∧
      Emission.value (BitVec.ofNat 32 (b.toNat + 2 ^ 8 + 2 ^ 9 * b2n (s.flag pCcp Reg.Ccp.UART_RX 9))) ∈ x.out) ∧
  (∀ (s : State) (port : Port), ReadReaches s port pCcp → s.ccp.rxq = [] →
    ∃ x, exec (.uartRxRead port) s = .next x ∧ x.ccp.rxq = [] ∧
      Emission.value (BitVec.ofNat 32 (2 ^ 9 * b2n (s.flag pCcp Reg.Ccp.UART_RX 9))) ∈ x.out)

/-- The tag: field, REQA and WUPA, anticollision and SELECT, HLTA, and the inventory. A field that appears brings the tag to IDLE, KFD
high; a collapse brings it to POWER_OFF and discards session, handle and staging. REQA in IDLE, WUPA in IDLE or HALT, answer ATQA
0x0048 and enter READY; a frame not valid in READY or ACTIVE returns it to IDLE, or to HALT where it came from there; elsewhere it
is ignored. ANTICOLLISION that names the first bits of UID CLn is answered with the rest and the BCC; SELECT answers SAK 0x04 at
level 1 and 0x00 at level 2, ACTIVE and OPEN; one that does not match is a frame not valid. HLTA brings HALT, unanswered.
INV_BEGIN draws a handle and answers it in slot 0; INV_NEXT counts slots up to 16 and the tag answers in its own; INV_ACK with its
handle answers the UID, and INV_TREE does not. An inventory frame, or a command of ACTIVE, met elsewhere is a frame not valid
there. (R478, R479, R480, R481, R482, R484) -/
def Obligations.TagStatesAndInventory : Prop :=
  (∀ (s : State) (strong : Bool), ∃ x, exec (.fieldAppear strong) s = .next x ∧ x.ksk.field = true ∧ x.ksk.strong = strong ∧
    (s.ksk.field = false → x.ksk.st = .idle ∧ x.kfd = true) ∧ (s.ksk.field = true → x.ksk = { s.ksk with strong := strong })) ∧
  (∀ s : State, s.ksk.field = true → ∃ x, exec .fieldCollapse s = .next x ∧ x.kfd = false ∧ x.ksk.field = false ∧ x.ksk.st = .powerOff ∧
    x.ksk.auth = .open ∧ x.ksk.ks = none ∧ x.ksk.nb = none ∧ x.ksk.staging = [] ∧ x.ksk.key = s.ksk.key ∧ x.ksk.pwd = s.ksk.pwd ∧
    x.ksk.fails = s.ksk.fails ∧ x.mem = s.mem) ∧
  (∀ s : State, s.ksk.field = false → exec .fieldCollapse s = .next (s.done s.start)) ∧
  (∀ s : State, s.ksk.st = .idle →
    exec .reqa s = .next (s.done { s.start with ksk := { s.ksk with st := .ready, star := false, level := 1 }, out := [.tag [0x48, 0x00]] }) ∧
    exec .wupa s = .next (s.done { s.start with ksk := { s.ksk with st := .ready, star := false, level := 1 }, out := [.tag [0x48, 0x00]] })) ∧
  (∀ s : State, s.ksk.st = .halt → exec .reqa s = .next (s.done s.start) ∧
    exec .wupa s = .next (s.done { s.start with ksk := { s.ksk with st := .ready, star := true, level := 1 }, out := [.tag [0x48, 0x00]] })) ∧
  (∀ s : State, s.ksk.st = .ready ∨ s.ksk.st = .active → exec .invalidTagFrame s = .next (s.done { s.start with
    ksk := { s.ksk with st := (if s.ksk.star then .halt else .idle), star := false, level := 1, auth := TagAuth.open, ks := none, ctr := 0, nb := none } })) ∧
  (∀ s : State, s.ksk.st ≠ .ready → s.ksk.st ≠ .active → exec .invalidTagFrame s = .next (s.done s.start)) ∧
  (∀ s : State, s.ksk.st ≠ .idle → s.ksk.st ≠ .halt →
    exec .reqa s = exec .invalidTagFrame s ∧ exec .wupa s = exec .invalidTagFrame s) ∧
  (∀ (s : State) (level : Fin 3) (k : Fin 40) (uid : List Byte), level ≠ 0 → uid.length = 5 →
    (s.ksk.st = .ready → s.ksk.level = level.val → sameBits (s.uidCl level) uid k = true →
      exec (.anticollision level k uid) s = .next (s.done { s.start with out := [.tag (fromBit (s.uidCl level) k)] })) ∧
    (s.ksk.st ≠ .ready ∨ s.ksk.level ≠ level.val ∨ sameBits (s.uidCl level) uid k = false →
      exec (.anticollision level k uid) s = exec .invalidTagFrame s)) ∧
  (∀ (s : State) (level : Fin 3) (uid : List Byte) (ok : Bool), level ≠ 0 → uid.length = 5 →
    (s.ksk.st = .ready → s.ksk.level = level.val → uid = s.uidCl level → ok = true → level = 1 →
      exec (.select level uid ok) s = .next (s.done { s.start with ksk := { s.ksk with level := 2 }, out := [.tag [0x04]] })) ∧
    (s.ksk.st = .ready → s.ksk.level = level.val → uid = s.uidCl level → ok = true → level = 2 →
      ∃ x, exec (.select level uid ok) s = .next x ∧ x.ksk.st = .active ∧ x.ksk.auth = .open ∧ x.out = [.tag [0x00]]) ∧
    (s.ksk.st ≠ .ready ∨ s.ksk.level ≠ level.val ∨ uid ≠ s.uidCl level ∨ ok = false →
      exec (.select level uid ok) s = exec .invalidTagFrame s)) ∧
  (∀ (s : State) (mac : List Byte), s.tagTakes [0x50, 0x00] mac → ∃ x, exec (.hlta true mac) s = .next x ∧ x.ksk.st = .halt ∧ x.ksk.auth = .open ∧
    x.ksk.ks = none ∧ x.out = []) ∧
  (∀ (s : State) (haltToo : Bool), s.ksk.st = .idle ∨ s.ksk.st = .inventory ∨ (s.ksk.st = .halt ∧ haltToo = true) →
    ∃ x, exec (.invBegin haltToo true) s = .next x ∧ x.ksk.st = .inventory ∧ x.ksk.slotCtr = 0 ∧ x.ksk.handle < 65536 ∧
      (x.ksk.handle % 16 = 0 → Emission.tag (natOctets 2 x.ksk.handle) ∈ x.out)) ∧
  (∀ s : State, s.ksk.st = .inventory → exec (.invNext true) s = .next (s.done { s.start with
    ksk := { s.ksk with slotCtr := min 16 (s.ksk.slotCtr + 1) }, out := (if s.ksk.handle % 16 = min 16 (s.ksk.slotCtr + 1) then [.tag (natOctets 2 s.ksk.handle)] else []) })) ∧
  (∀ (s : State) (h : Fin 65536), s.ksk.st = .inventory →
    (s.ksk.handle % 16 = s.ksk.slotCtr → h.val = s.ksk.handle → exec (.invAck h true) s = .next (s.done { s.start with
      ksk := { s.ksk with st := .ready, star := false, level := 1 }, out := [.tag s.uid] })) ∧
    (s.ksk.handle % 16 ≠ s.ksk.slotCtr ∨ h.val ≠ s.ksk.handle → exec (.invAck h true) s = .next (s.done s.start)) ∧
    (s.ksk.handle % 16 = s.ksk.slotCtr → exec (.invTree true) s = .next (s.done { s.start with
      ksk := { s.ksk with st := .ready, star := false, level := 1 } })) ∧
    (s.ksk.handle % 16 ≠ s.ksk.slotCtr → exec (.invTree true) s = .next (s.done s.start))) ∧
  (∀ (s : State) (haltToo ok : Bool) (h : Fin 65536), s.ksk.st ≠ .active ∨ ok = true →
    (s.ksk.st ≠ .idle → s.ksk.st ≠ .inventory → (s.ksk.st ≠ .halt ∨ haltToo = false) → exec (.invBegin haltToo ok) s = exec .invalidTagFrame s) ∧
    (ok = false → exec (.invBegin haltToo ok) s = exec .invalidTagFrame s) ∧
    (s.ksk.st ≠ .inventory ∨ ok = false → exec (.invNext ok) s = exec .invalidTagFrame s ∧
      exec (.invAck h ok) s = exec .invalidTagFrame s ∧ exec (.invTree ok) s = exec .invalidTagFrame s)) ∧
  (∀ (s : State) (r ofs key : Fin 256) (seq : Fin 65536) (cut : Option Nat) (ok pair : Bool) (a v : Word) (d pwd na tr mac : List Byte),
    s.ksk.st ≠ .active → d.length = 16 → pwd.length = 4 → na.length = 16 → tr.length = 16 →
    ∀ c ∈ [Instr.hlta ok mac, Instr.readRec r ofs ok mac, Instr.noteStage ofs d ok mac, Instr.noteCommit seq cut ok mac, Instr.pwdAuth pwd ok mac, Instr.auth1 key ok mac,
      Instr.auth2 na tr ok mac, Instr.regRd a ok mac, Instr.regWr pair a v ok mac], exec c s = exec .invalidTagFrame s)

/-- The tag in ACTIVE: records, notes, the password, AES authentication and register access. A frame the tag takes (in SECURED_AES
with its MAC right) and whose sub-state is right: READ_REC answers SEQ, STATUS and 16 octets of the newer valid copy; NOTE_STAGE
stages 16 octets; NOTE_COMMIT of a staged note with the right SEQ writes the record and answers the new SEQ; cut by a field
collapse before the commit word it leaves the old one, else the new. PWD_AUTH compares and secures or counts, the eighth failure
blocking; AUTH_1 answers a nonce; AUTH_2 with the right TR answers TT and opens the session under KS, another TR is refused.
REG_RD answers the word KIOSK reads, REG_WR writes as KIOSK. An argument out of range answers BAD_ARG, a wrong sub-state
NOT_PERMITTED, a wrong SEQ STALE, too weak a field LOW_FIELD, no main domain NO_MAIN; a wrong CRC_A answers CRC; a wrong MAC
answers MAC, OPEN, and sets FLT_STA bit 4. (R485, R486, R487, R488, R489, R490, R491) -/
def Obligations.TagCommandsInActive : Prop :=
  (∀ (s : State) (r ofs : Fin 256) (mac : List Byte), s.tagTakes [0x3C, BitVec.ofNat 8 r, BitVec.ofNat 8 ofs] mac →
    (r.val < 5 → 16 * ofs.val < recLen r → ∃ x, exec (.readRec r ofs true mac) s = .next x ∧ x.ksk.auth = s.ksk.auth ∧
      Emission.tag (s.tagSends ([rcOk] ++ natOctets 2 ((s.record r).elim (Config.emptySeq r).toNat (·.1)) ++
        [s.tagStatus (s.record r).isSome] ++ (s.record r).elim (zeros 16) (fun (e : Nat × List Byte) => (e.2.drop (16 * ofs.val)).take 16))) ∈ x.out) ∧
    (5 ≤ r.val ∨ recLen r ≤ 16 * ofs.val → ∃ x, exec (.readRec r ofs true mac) s = .next x ∧ x.out = [.tag (s.tagSends [rcBadArg])] ∧
      x.mem = s.mem ∧ x.ksk.auth = s.ksk.auth)) ∧
  (∀ (s : State) (valid : Bool), (s.tagStatus valid).toNat = b2n valid + 2 * b2n s.mainUp + 4 * b2n (s.mainUp && s.errN) + 8 * b2n (s.ksk.auth != .open)) ∧
  (∀ (s : State) (r ofs key : Fin 256) (seq : Fin 65536) (cut : Option Nat) (pair : Bool) (a v : Word) (d pwd na tr mac : List Byte),
    s.ksk.st = .active → d.length = 16 → pwd.length = 4 → na.length = 16 → tr.length = 16 →
    ∀ c ∈ [([0x50, 0x00], fun ok => Instr.hlta ok mac), ([0x3C, BitVec.ofNat 8 r, BitVec.ofNat 8 ofs], fun ok => Instr.readRec r ofs ok mac),
      ([0x6A, BitVec.ofNat 8 ofs] ++ d, fun ok => Instr.noteStage ofs d ok mac), ([0x6C] ++ natOctets 2 seq, fun ok => Instr.noteCommit seq cut ok mac),
      ([0x74] ++ pwd, fun ok => Instr.pwdAuth pwd ok mac), ([0x82, BitVec.ofNat 8 key], fun ok => Instr.auth1 key ok mac),
      ([0x84] ++ na ++ tr, fun ok => Instr.auth2 na tr ok mac), (0x9A :: natOctets 4 a.toNat, fun ok => Instr.regRd a ok mac),
      (0x9C :: BitVec.ofNat 8 (b2n pair) :: natOctets 4 a.toNat ++ wordOctets v, fun ok => Instr.regWr pair a v ok mac)],
    (exec (c.2 false) s = .next (s.done (s.start.tagAnswer [rcCrc]))) ∧
    (s.ksk.auth = .aes → mac ≠ s.tagMac c.1 → ∃ x, exec (c.2 true) s = .next x ∧ x.ksk.auth = .open ∧ x.ksk.ks = none ∧ x.ksk.st = .active ∧
      x.flag pKsk Reg.Hdr.FLT_STA 4 = true ∧ x.out = [.tag [rcMac]])) ∧
  (∀ (s : State) (ok : Bool) (h : Fin 65536) (haltToo : Bool), s.ksk.st = .active → ok = false →
    exec (.invBegin haltToo ok) s = .next (s.done (s.start.tagAnswer [rcCrc])) ∧ exec (.invNext ok) s = .next (s.done (s.start.tagAnswer [rcCrc])) ∧
    exec (.invAck h ok) s = .next (s.done (s.start.tagAnswer [rcCrc])) ∧ exec (.invTree ok) s = .next (s.done (s.start.tagAnswer [rcCrc]))) ∧
  (∀ (s : State) (ofs : Fin 256) (d mac : List Byte), d.length = 16 → s.tagTakes ([0x6A, BitVec.ofNat 8 ofs] ++ d) mac →
    (s.ksk.auth ≠ .open → ofs.val < 4 → ∃ x, exec (.noteStage ofs d true mac) s = .next x ∧ x.ksk.staging = smPut s.ksk.staging ofs d ∧ x.mem = s.mem ∧
      x.out = [.tag (s.tagSends [rcOk])]) ∧
    (s.ksk.auth ≠ .open → 4 ≤ ofs.val → ∃ x, exec (.noteStage ofs d true mac) s = .next x ∧ x.ksk.staging = s.ksk.staging ∧ x.mem = s.mem ∧
      x.out = [.tag (s.tagSends [rcBadArg])]) ∧
    (s.ksk.auth = .open → exec (.noteStage ofs d true mac) s = .next (s.done { s.start with out := [.tag [rcNotPermitted]] }))) ∧
  (∀ (s : State) (seq : Fin 65536) (cut : Option Nat) (mac : List Byte), s.tagTakes ([0x6C] ++ natOctets 2 seq) mac → s.clean →
    (s.ksk.auth = .open → exec (.noteCommit seq cut true mac) s = .next (s.done { s.start with out := [.tag [rcNotPermitted]] })) ∧
    (s.ksk.auth ≠ .open → (s.record 4).elim (Config.emptySeq 4).toNat (·.1) ≠ seq.val →
      ∃ x, exec (.noteCommit seq cut true mac) s = .next x ∧ x.mem = s.mem ∧ x.ksk.auth = s.ksk.auth ∧ x.out = [.tag (s.tagSends [rcStale])]) ∧
    (s.ksk.auth ≠ .open → (s.record 4).elim (Config.emptySeq 4).toNat (·.1) = seq.val → s.canWriteTag = false →
      ∃ x, exec (.noteCommit seq cut true mac) s = .next x ∧ x.mem = s.mem ∧ x.ksk.auth = s.ksk.auth ∧ x.out = [.tag (s.tagSends [rcLowField])])) ∧
  (∀ (s : State) (seq : Fin 65536) (mac : List Byte), s.tagTakes ([0x6C] ++ natOctets 2 seq) mac → s.clean → s.ksk.auth ≠ .open →
    s.ksk.staging.all (fun e => decide (e.2.length = 16)) = true → s.canWriteTag = true →
    (s.record 4).elim (Config.emptySeq 4).toNat (·.1) = seq.val →
    ∃ x, exec (.noteCommit seq none true mac) s = .next x ∧ (x.record 4).map (·.1) = some ((seq.val + 1) % 65536) ∧
      (∀ i < 4, ∀ e ∈ s.ksk.staging.find? (fun (e : Nat × List Byte) => e.1 == i),
        (x.record 4).map (fun (r : Nat × List Byte) => (r.2.drop (16 * i)).take 16) = some e.2) ∧
      x.flag pKsk Reg.Hdr.FLT_STA 5 = true ∧ Emission.tag (s.tagSends ([rcOk] ++ natOctets 2 ((seq.val + 1) % 65536))) ∈ x.out) ∧
  (∀ (s : State) (seq : Fin 65536) (k : Nat) (mac : List Byte), s.tagTakes ([0x6C] ++ natOctets 2 seq) mac → s.clean → s.ksk.auth ≠ .open →
    s.ksk.staging.all (fun e => decide (e.2.length = 16)) = true → s.canWriteTag = true →
    (s.record 4).elim (Config.emptySeq 4).toNat (·.1) = seq.val → s.ksk.field = true →
    ∃ x, exec (.noteCommit seq (some k) true mac) s = .next x ∧ x.ksk.st = .powerOff ∧ x.out = [] ∧
      (k ≤ 4 → x.record 4 = s.record 4) ∧
      (5 ≤ k → (x.record 4).map (·.1) = some ((seq.val + 1) % 65536) ∧
        ∀ i < 4, ∀ e ∈ s.ksk.staging.find? (fun (e : Nat × List Byte) => e.1 == i),
          (x.record 4).map (fun (r : Nat × List Byte) => (r.2.drop (16 * i)).take 16) = some e.2)) ∧
  (∀ (s : State) (pwd mac : List Byte), pwd.length = 4 → s.tagTakes ([0x74] ++ pwd) mac →
    (s.ksk.auth ≠ .open → ∃ x, exec (.pwdAuth pwd true mac) s = .next x ∧ x.ksk.auth = s.ksk.auth ∧ x.ksk.fails = s.ksk.fails ∧
      x.out = [.tag (s.tagSends [rcNotPermitted])]) ∧
    (s.ksk.auth = .open → s.ksk.holdoff = true → exec (.pwdAuth pwd true mac) s = .next (s.done { s.start with out := [.tag [rcAuth]] })) ∧
    (s.ksk.auth = .open → s.ksk.holdoff = false → s.flag pKsk Reg.Ksk.KSK_CFG 0 = true → s.ksk.pwdSet = true → s.ksk.blocked = false → pwd = s.ksk.pwd →
      ∃ x, exec (.pwdAuth pwd true mac) s = .next x ∧ x.ksk.auth = .pwd ∧ x.ksk.fails = 0 ∧ x.out = [.tag [rcOk]]) ∧
    (s.ksk.auth = .open → s.ksk.holdoff = false →
      s.flag pKsk Reg.Ksk.KSK_CFG 0 = false ∨ s.ksk.pwdSet = false ∨ s.ksk.blocked = true ∨ pwd ≠ s.ksk.pwd →
      ∃ x, exec (.pwdAuth pwd true mac) s = .next x ∧ x.ksk.auth = .open ∧ x.ksk.holdoff = true ∧
      x.ksk.fails = min 255 (s.ksk.fails + 1) ∧ x.flag pKsk Reg.Hdr.FLT_STA 1 = true ∧
      (s.ksk.fails = 7 → x.ksk.blocked = true ∧ x.flag pKsk Reg.Hdr.FLT_STA 2 = true) ∧ Emission.tag [rcAuth] ∈ x.out)) ∧
  (∀ s : State, exec .pwdHoldoffExpiry s = .next (s.done { s.start with ksk := { s.ksk with holdoff := false } })) ∧
  (∀ (s : State) (key : Fin 256) (mac : List Byte), s.tagTakes [0x82, BitVec.ofNat 8 key] mac →
    (s.ksk.auth = .open → s.flag pKsk Reg.Ksk.KSK_CFG 1 = true → s.ksk.key.isSome = true → key = 0 →
      ∃ x, exec (.auth1 key true mac) s = .next x ∧ x.ksk.nb.map (·.length) = some 16 ∧ x.ksk.auth = .open ∧
        Emission.tag ([rcOk] ++ x.ksk.nb.getD []) ∈ x.out) ∧
    (s.ksk.auth = .open → s.flag pKsk Reg.Ksk.KSK_CFG 1 = true → s.ksk.key.isSome = true → key ≠ 0 →
      exec (.auth1 key true mac) s = .next (s.done { s.start with out := [.tag [rcBadArg]] })) ∧
    (s.ksk.auth ≠ .open ∨ s.flag pKsk Reg.Ksk.KSK_CFG 1 = false ∨ s.ksk.key = none → ∃ x, exec (.auth1 key true mac) s = .next x ∧
      x.ksk.nb = s.ksk.nb ∧ x.ksk.auth = s.ksk.auth ∧ x.out = [.tag (s.tagSends [rcNotPermitted])])) ∧
  (∀ (s : State) (k nb na tr mac : List Byte), s.ksk.st = .active → s.ksk.auth = .open → s.ksk.key = some k → s.ksk.nb = some nb →
    na.length = 16 → tr.length = 16 →
    (tr = cmac k ([0x01] ++ s.uid ++ nb ++ na) → ∃ x, exec (.auth2 na tr true mac) s = .next x ∧ x.ksk.auth = .aes ∧ x.ksk.ctr = 0 ∧
      x.ksk.nb = none ∧ x.ksk.ks = some (cmac k ([0x03] ++ s.uid ++ na ++ nb)) ∧
      x.out = [.tag ([rcOk] ++ cmac k ([0x02] ++ s.uid ++ na ++ nb))]) ∧
    (tr ≠ cmac k ([0x01] ++ s.uid ++ nb ++ na) → ∃ x, exec (.auth2 na tr true mac) s = .next x ∧ x.ksk.auth = .open ∧ x.ksk.nb = none ∧
      x.flag pKsk Reg.Hdr.FLT_STA 3 = true ∧ x.out = [.tag [rcAuth]])) ∧
  (∀ (s : State) (na tr mac : List Byte), na.length = 16 → tr.length = 16 → s.tagTakes ([0x84] ++ na ++ tr) mac →
    s.ksk.auth ≠ .open ∨ s.ksk.key = none ∨ s.ksk.nb = none → ∃ x, exec (.auth2 na tr true mac) s = .next x ∧ x.ksk.auth = s.ksk.auth ∧
      x.out = [.tag (s.tagSends [rcNotPermitted])]) ∧
  (∀ (s : State) (a : Word) (mac : List Byte), s.tagTakes (0x9A :: natOctets 4 a.toNat) mac → s.ksk.auth = .aes →
    s.flag pKsk Reg.Ksk.KSK_CFG 2 = true → s.mainUp = true → s.fabricUp = true → 0x40000000 ≤ a.toNat →
    ∃ x, exec (.regRd a true mac) s = .next x ∧
      Emission.tag (s.tagSends ([rcOk] ++ wordOctets (s.start.busRead .kiosk a.toNat).1)) ∈ x.out) ∧
  (∀ (s : State) (a v : Word) (mac : List Byte), s.tagTakes ([0x9C, 0] ++ natOctets 4 a.toNat ++ wordOctets v) mac → s.ksk.auth = .aes →
    s.flag pKsk Reg.Ksk.KSK_CFG 2 = true → s.mainUp = true → s.fabricUp = true → 0x40000000 ≤ a.toNat →
    ∃ x y, exec (.regWr false a v true mac) s = .next x ∧ exec (.registerWrite .kiosk a v) s = .next y ∧
      (∀ q u : Nat, q < 0x1000 → u < 0x1000 → x.reg q u = y.reg q u) ∧
      Emission.tag (s.tagSends [rcOk, BitVec.ofNat 8 (b2n y.notPerformed)]) ∈ x.out) ∧
  (∀ (s : State) (a v : Word) (mac : List Byte), s.tagTakes ([0x9C, 1] ++ natOctets 4 a.toNat ++ wordOctets v) mac → s.ksk.auth = .aes →
    s.flag pKsk Reg.Ksk.KSK_CFG 2 = true → s.mainUp = true → s.fabricUp = true → 0x40000000 ≤ a.toNat → pageOfs a.toNat < 0x800 →
    ∃ x y, exec (.regWr true a v true mac) s = .next x ∧ exec (.registerWrite .kiosk a v) s = .next y ∧
      ∃ z, exec (.registerWrite .kiosk (a + 0x800) (~~~v)) y = .next z ∧
        ∀ q u : Nat, q < 0x1000 → u < 0x1000 → q ≠ pCcp → x.reg q u = z.reg q u) ∧
  (∀ (s : State) (pair : Bool) (a v : Word) (mac : List Byte),
    (s.tagTakes (0x9A :: natOctets 4 a.toNat) mac → s.ksk.auth ≠ .aes ∨ s.flag pKsk Reg.Ksk.KSK_CFG 2 = false → ∃ x, exec (.regRd a true mac) s = .next x ∧
      x.regs = (s.done s.start).regs ∧ x.out = [.tag (s.tagSends [rcNotPermitted])]) ∧
    (s.tagTakes (0x9C :: BitVec.ofNat 8 (b2n pair) :: natOctets 4 a.toNat ++ wordOctets v) mac → s.ksk.auth ≠ .aes ∨ s.flag pKsk Reg.Ksk.KSK_CFG 2 = false →
      ∃ x, exec (.regWr pair a v true mac) s = .next x ∧ x.regs = (s.done s.start).regs ∧ x.out = [.tag (s.tagSends [rcNotPermitted])]) ∧
    (s.tagTakes (0x9A :: natOctets 4 a.toNat) mac → s.ksk.auth = .aes → s.flag pKsk Reg.Ksk.KSK_CFG 2 = true → s.mainUp = false ∨ s.fabricUp = false →
      ∃ x, exec (.regRd a true mac) s = .next x ∧ x.regs = (s.done s.start).regs ∧ x.out = [.tag (s.tagSends [rcNoMain])]) ∧
    (s.tagTakes (0x9C :: BitVec.ofNat 8 (b2n pair) :: natOctets 4 a.toNat ++ wordOctets v) mac → s.ksk.auth = .aes → s.flag pKsk Reg.Ksk.KSK_CFG 2 = true →
      s.mainUp = false ∨ s.fabricUp = false →
      ∃ x, exec (.regWr pair a v true mac) s = .next x ∧ x.regs = (s.done s.start).regs ∧ x.out = [.tag (s.tagSends [rcNoMain])]))

/-- KSK_CMD: records, the key, the password. READ_REC of KSK_CMD puts the newer valid copy of a record into KSK_DATA and its SEQ into
KSK_RES, or answers EMPTY; WRITE_REC writes KSK_DATA's octets into the record with SEQ one on; a REC above 4 is BAD_ARG.
KEY_FROM_SLOT takes the CUR key of an AES-128 FW slot, and refuses any other; KEY_CLEAR, PWD_SET and PWD_UNBLOCK do as they say,
the last two lifting a block and clearing the count. No other record, and neither key nor password but by its own command,
changes. (R490, R491, R493) -/
def Obligations.KioskCommandsOfTheCore : Prop :=
  (∀ (s : State) (port : Port) (r : Fin 8), WriteReaches s port pKsk Reg.Ksk.KSK_CMD → r.val < 5 → s.clean →
    ∃ x, exec (.kskReadRec port r) s = .next x ∧ x.mem = s.mem ∧ x.ksk = s.ksk ∧
      (∀ e ∈ s.record r, x.fld pKsk Reg.Ksk.KSK_RES 7 0 = 0 ∧ x.fld pKsk Reg.Ksk.KSK_RES 31 16 = e.1 ∧
        (x.octetRegs pKsk (Reg.Ksk.KSK_DATA 0) 32).take (recLen r) = e.2) ∧
      (s.record r = none → x.fld pKsk Reg.Ksk.KSK_RES 7 0 = 3)) ∧
  (∀ (s : State) (port : Port) (r : Fin 8), WriteReaches s port pKsk Reg.Ksk.KSK_CMD → r.val < 5 → s.clean →
    ∃ x, exec (.kskWriteRec port r) s = .next x ∧ x.ksk = s.ksk ∧ x.fld pKsk Reg.Ksk.KSK_RES 7 0 = 0 ∧
      x.record r = some (x.fld pKsk Reg.Ksk.KSK_RES 31 16, (s.octetRegs pKsk (Reg.Ksk.KSK_DATA 0) 32).take (recLen r)) ∧
      (∀ e ∈ s.record r, x.fld pKsk Reg.Ksk.KSK_RES 31 16 = (e.1 + 1) % 65536) ∧
      (∀ q < 5, q ≠ r.val → x.record q = s.record q)) ∧
  (∀ (s : State) (port : Port) (r : Fin 8), WriteReaches s port pKsk Reg.Ksk.KSK_CMD → 5 ≤ r.val →
    (∃ x, exec (.kskReadRec port r) s = .next x ∧ x.fld pKsk Reg.Ksk.KSK_RES 7 0 = 2 ∧ x.mem = s.mem ∧ x.ksk = s.ksk) ∧
    (∃ x, exec (.kskWriteRec port r) s = .next x ∧ x.fld pKsk Reg.Ksk.KSK_RES 7 0 = 2 ∧ x.mem = s.mem ∧ x.ksk = s.ksk)) ∧
  (∀ (s : State) (port : Port) (slot : Fin 8192) (k : KeyPos), WriteReaches s port pKsk Reg.Ksk.KSK_CMD → (s.slot slot).cur = some k →
    k.typ = 1 → k.usage.testBit useFw = true → ∃ x, exec (.keyFromSlot port slot) s = .next x ∧ x.mem = s.mem ∧ x.org = s.org ∧
      x.ksk = { s.ksk with key := some k.key } ∧ x.fld pKsk Reg.Ksk.KSK_RES 7 0 = 0) ∧
  (∀ (s : State) (port : Port) (slot : Fin 8192), WriteReaches s port pKsk Reg.Ksk.KSK_CMD →
    (s.slot slot).cur.all (fun k => decide (k.typ ≠ 1) || !k.usage.testBit useFw) = true →
    ∃ x, exec (.keyFromSlot port slot) s = .next x ∧ x.mem = s.mem ∧ x.org = s.org ∧ x.ksk = s.ksk ∧ x.fld pKsk Reg.Ksk.KSK_RES 7 0 = 4) ∧
  (∀ (s : State) (port : Port), WriteReaches s port pKsk Reg.Ksk.KSK_CMD →
    (∃ x, exec (.keyClear port) s = .next x ∧ x.ksk = { s.ksk with key := none } ∧ x.fld pKsk Reg.Ksk.KSK_RES 7 0 = 0) ∧
    (∃ x, exec (.pwdSet port) s = .next x ∧ x.fld pKsk Reg.Ksk.KSK_RES 7 0 = 0 ∧ x.ksk = { s.ksk with
      pwd := wordOctets (s.reg pKsk (Reg.Ksk.KSK_DATA 0)), pwdSet := decide (s.reg pKsk (Reg.Ksk.KSK_DATA 0) ≠ 0), blocked := false, fails := 0 }) ∧
    (∃ x, exec (.pwdUnblock port) s = .next x ∧ x.fld pKsk Reg.Ksk.KSK_RES 7 0 = 0 ∧ x.ksk = { s.ksk with blocked := false, fails := 0 }))

/-- The Potting Shed: insertion, removal, the commands, and the card answers that carry them on. Insertion of a card in an enabled
Shed powers it and starts it by R461, each answer and wait leading to the next step, to 3.3 V again, or to FAILED; at its end
pending entries of this card are restored and the card is READY. Removal switches the slot off, EMPTY, and ends a command REMOVED.
With the card READY, READ asks for its first block, WRITE of distinct blocks takes the next journal entry, erased or not; a bad
count, address, role, state or a pending entry ends a command at once with its result. A block of a READ lands in its place in the
buffer, the last one ends it OK, an error ends it CARD_ERR and a limit TIMEOUT. A WRITE reads the old contents, journals them,
sends its blocks, journals DATA_SENT, waits for the end of busy and CMD13, and ends OK; an error from OPEN on begins the restore,
whose end is RESTORED or RECOVER_FAIL. A block that its class does not admit is held and starts at a window restart. SLEEP_CLK,
SLEEP_OFF and WAKE change the state, and DISCARD by CORE leaves no entry pending. The boot ROM reads the directory, and of the
first ACTIVE firmware entry its header. (R460, R461, R462, R463, R466, R467, R468, R469, R470, R472, R474, R476) -/
def Obligations.CardLifeAndTransfers : Prop :=
  (∀ s : State, s.fabricUp = true → s.boot.card = none → ∃ x, exec .cardInsertion s = .next x ∧ x.psh.inserted = true ∧ x.flag pCcp Reg.Ccp.CCP_IP 6 = true ∧
    (s.enabled pPsh = true → x.psh.pwrEn = true ∧ x.psh.vsel = false ∧ x.psh.st = .powerUp ∧ x.psh.job = some (.start 1 0 0 false)) ∧
    (s.enabled pPsh = false → x.psh = { s.psh with inserted := true })) ∧
  (∀ s : State, s.fabricUp = true → s.boot.card = none → ∃ x, exec .cardRemoval s = .next x ∧ x.psh.inserted = false ∧ x.psh.pwrEn = false ∧ x.psh.st = .empty ∧
    x.psh.job = none ∧ x.fld pPsh Reg.Psh.CARD_INFO 29 8 = 0 ∧
    (s.pshBusy = true → x.fld pPsh Reg.Psh.PSH_RES 7 0 = cdRemoved ∧ x.pshBusy = false ∧ x.flag pPsh Reg.Hdr.FLT_STA 0 = true)) ∧
  (∀ (s : State) (a : CardAnswer) (det : Bool), s.fabricUp = false →
    exec .cardInsertion s = .next (s.done s.start) ∧ exec .cardRemoval s = .next (s.done s.start) ∧ exec (.cardResponse a det) s = .next (s.done s.start) ∧
    exec .cardBusyRelease s = .next (s.done s.start) ∧ exec (.cardBusyTimeout det) s = .next (s.done s.start) ∧ exec (.cardTimeout det) s = .next (s.done s.start)) ∧
  (∀ (s : State) (a : CardAnswer) (det : Bool), s.boot.card = none → s.cardAsked = false →
    exec (.cardResponse a det) s = .next (s.done s.start) ∧ exec (.cardTimeout det) s = .next (s.done s.start)) ∧
  (∀ (s : State) (tries mode : Nat) (r det : Bool), s.fabricUp = true → s.boot.card = none → s.psh.job = some (.start 1 tries mode r) → s.psh.held = false →
    exec (.cardTimeout det) s = .next (s.done { s.start with
      psh := { s.psh with job := some (.start 2 0 0 r) }, out := [.card 0 0 [], .card 8 0x1AA []] })) ∧
  (∀ (s : State) (tries mode arg : Nat) (r det : Bool), s.fabricUp = true → s.boot.card = none → s.psh.job = some (.start 2 tries mode r) → s.psh.held = false →
    (arg = 0x1AA → ∃ x, exec (.cardResponse (.echo arg) det) s = .next x ∧
      x.psh.job = some (.start 3 1 0 r) ∧ x.out.map (fun e => match e with | .card c _ _ => c | _ => 0) = [55, 41]) ∧
    (arg ≠ 0x1AA → ∃ x, exec (.cardResponse (.echo arg) det) s = .next x ∧ x.psh.st = .failed ∧ x.psh.pwrEn = false ∧ x.psh.job = none ∧
      x.flag pPsh Reg.Hdr.FLT_STA 1 = true ∧ x.fld pPsh Reg.Psh.PSH_RES 7 0 = cdRefused) ∧
    (∃ x, exec (.cardTimeout det) s = .next x ∧ x.psh.st = .failed ∧ x.psh.pwrEn = false ∧ x.psh.job = none ∧ x.fld pPsh Reg.Psh.PSH_RES 7 0 = cdRefused)) ∧
  (∀ (s : State) (tries mode : Nat) (r det ccs s18 : Bool), s.fabricUp = true → s.boot.card = none → s.psh.job = some (.start 3 tries mode r) → s.psh.held = false →
    (tries < 100 → exec (.cardResponse (.ocr false ccs s18) det) s = .next (s.done { s.start with psh := { s.psh with job := some (.start 13 tries 0 r) } })) ∧
    (100 ≤ tries → ∃ x, exec (.cardResponse (.ocr false ccs s18) det) s = .next x ∧ x.psh.st = .failed ∧ x.fld pPsh Reg.Psh.PSH_RES 7 0 = cdTimeout) ∧
    (ccs = false → ∃ x, exec (.cardResponse (.ocr true ccs s18) det) s = .next x ∧ x.psh.st = .failed ∧ x.fld pPsh Reg.Psh.PSH_RES 7 0 = cdRefused) ∧
    (ccs = true → s18 = true → s.wants18 r = true → exec (.cardResponse (.ocr true ccs s18) det) s =
      .next (s.done { s.start with psh := { s.psh with job := some (.start 4 0 0 r) }, out := [.card 11 0 []] })) ∧
    (ccs = true → s18 = false ∨ s.wants18 r = false → ∃ x, exec (.cardResponse (.ocr true ccs s18) det) s = .next x ∧
      x.psh.job = some (.start 5 0 0 r) ∧ x.psh.st = .ident ∧ x.out = [.card 2 0 []])) ∧
  (∀ (s : State) (tries mode : Nat) (r det : Bool), s.fabricUp = true → s.boot.card = none → s.psh.held = false →
    (s.psh.job = some (.start 13 tries mode r) → ∃ x, exec (.cardTimeout det) s = .next x ∧ x.psh.job = some (.start 3 (tries + 1) 0 r) ∧
      x.out.map (fun e => match e with | .card c _ _ => c | _ => 0) = [55, 41]) ∧
    (s.psh.job = some (.start 4 tries mode r) → exec (.cardResponse .accepted det) s =
      .next (s.done { s.start with psh := { s.psh with vsel := true, job := some (.start 14 0 0 r) } })) ∧
    (s.psh.job = some (.start 14 tries mode r) → exec (.cardTimeout det) s =
      .next (s.done { s.start with psh := { s.psh with job := some (.start 24 0 0 r) } })) ∧
    (s.psh.job = some (.start 24 tries mode r) → ∃ x, exec (.cardResponse .accepted det) s = .next x ∧
      x.psh.job = some (.start 5 0 0 r) ∧ x.psh.st = .ident ∧ x.out = [.card 2 0 []]) ∧
    (s.psh.job = some (.start 4 tries mode r) ∨ s.psh.job = some (.start 24 tries mode r) → ∃ x, exec (.cardResponse .error det) s = .next x ∧
      exec (.cardTimeout det) s = .next x ∧ x.psh.job = some (.start 0 0 0 true) ∧ x.psh.pwrEn = false ∧ x.psh.vsel = false ∧
      x.flag pPsh Reg.Hdr.FLT_STA 6 = true) ∧
    (s.psh.job = some (.start 0 tries mode r) → ∃ x, exec (.cardTimeout det) s = .next x ∧ x.psh.job = some (.start 1 0 0 r) ∧ x.psh.st = .powerUp ∧
      x.psh.pwrEn = true)) ∧
  (∀ (s : State) (tries mode : Nat) (r det : Bool) (cid csd : List Byte), s.fabricUp = true → s.boot.card = none → s.psh.held = false →
    s.psh.job = some (.start 5 tries mode r) → cid.length = 16 →
    (csdV2 csd = true → ∃ x, exec (.cardResponse (.ident cid csd) det) s = .next x ∧ x.psh.job = some (.start 6 0 0 r) ∧ x.psh.cid = cid ∧ x.psh.csd = csd ∧
      x.octetRegs pPsh (Reg.Psh.CARD_CID 0) 4 = cid ∧ x.fld pPsh Reg.Psh.CARD_INFO 29 8 = csdSize csd ∧
      x.out.map (fun e => match e with | .card c _ _ => c | _ => 0) = [7, 6]) ∧
    (csdV2 csd = false → ∃ x, exec (.cardResponse (.ident cid csd) det) s = .next x ∧ x.psh.st = .failed ∧ x.fld pPsh Reg.Psh.PSH_RES 7 0 = cdRefused)) ∧
  (∀ (s : State) (tries mode mask : Nat) (r det : Bool), s.fabricUp = true → s.boot.card = none → s.psh.held = false →
    (s.psh.job = some (.start 6 tries mode r) → s.tunes (s.pickMode mask) = true → ∃ x, exec (.cardResponse (.modes mask) det) s = .next x ∧
      x.psh.job = some (.start 7 0 (s.pickMode mask) r) ∧ x.fld pPsh Reg.Psh.CARD_INFO 2 0 = s.pickMode mask ∧
      x.out.map (fun e => match e with | .card c _ _ => c | _ => 0) = [6, 19]) ∧
    (s.psh.job = some (.start 7 tries mode r) → s.tunes (mode - 1) = true → ∃ x, exec (.cardResponse (.tuned false) det) s = .next x ∧
      x.psh.job = some (.start 7 0 (mode - 1) r) ∧ x.fld pPsh Reg.Psh.CARD_INFO 2 0 = (mode - 1) % 8 ∧ x.out = [.card 19 0 []]) ∧
    (s.psh.job = some (.start 7 tries mode r) → s.jAny = false → ∃ x, exec (.cardResponse (.tuned true) det) s = .next x ∧ x.psh.job = none ∧
      x.psh.st = .ready ∧ x.octetRegs pPsh (Reg.Psh.CARD_HASH 0) 8 = sha256 (s.psh.cid ++ s.psh.csd) ∧ x.pshBusy = false)) ∧
  (∀ (s : State) (tries mode j : Nat) (r det : Bool), s.fabricUp = true → s.boot.card = none → s.psh.held = false →
    s.psh.job = some (.start 7 tries mode r) → j < 3 → s.jPending j = true →
    ((List.range j).all (fun i => !s.jPending i) = true → s.jHash j = sha256 (s.psh.cid ++ s.psh.csd) → 0 < s.jCount j →
      ∃ x, exec (.cardResponse (.tuned true) det) s = .next x ∧ x.psh.job = some (.restore 4 j 0 true) ∧ x.psh.st = .recover) ∧
    ((List.range 3).all (fun i => !s.jPending i || s.jHash i != sha256 (s.psh.cid ++ s.psh.csd)) = true →
      ∃ x, exec (.cardResponse (.tuned true) det) s = .next x ∧ x.psh.st = .ready ∧ x.flag pPsh Reg.Psh.JRNL_STA 6 = true)) ∧
  (∀ (s : State) (port : Port) (count : Fin 256), WriteReaches s port pPsh Reg.Psh.PSH_CMD → s.pshBusy = false → s.psh.st ≠ .ready →
    (∃ x, exec (.read port count) s = .next x ∧ x.fld pPsh Reg.Psh.PSH_RES 7 0 = cdState ∧ x.pshBusy = false ∧ x.psh = s.psh ∧ x.mem = s.mem) ∧
    (∃ x, exec (.write port count) s = .next x ∧ x.fld pPsh Reg.Psh.PSH_RES 7 0 = cdState ∧ x.pshBusy = false ∧ x.psh = s.psh ∧ x.mem = s.mem) ∧
    (∃ x, exec (.sleepClk port) s = .next x ∧ x.fld pPsh Reg.Psh.PSH_RES 7 0 = cdState ∧ x.pshBusy = false ∧ x.psh = s.psh ∧ x.mem = s.mem) ∧
    (∃ x, exec (.sleepOff port) s = .next x ∧ x.fld pPsh Reg.Psh.PSH_RES 7 0 = cdState ∧ x.pshBusy = false ∧ x.psh = s.psh ∧ x.mem = s.mem) ∧
    (s.psh.st ≠ .sleepClk → s.psh.st ≠ .sleepOff →
      ∃ x, exec (.wake port) s = .next x ∧ x.fld pPsh Reg.Psh.PSH_RES 7 0 = cdState ∧ x.pshBusy = false ∧ x.psh = s.psh ∧ x.mem = s.mem)) ∧
  (∀ (s : State) (port : Port) (count : Fin 256), WriteReaches s port pPsh Reg.Psh.PSH_CMD → s.pshBusy = true →
    (∃ x, exec (.read port count) s = .next x ∧ x.psh = s.psh ∧ x.mem = s.mem ∧ x.flag pGth Reg.Hdr.FLT_STA 1 = true) ∧
    (∃ x, exec (.write port count) s = .next x ∧ x.psh = s.psh ∧ x.mem = s.mem ∧ x.flag pGth Reg.Hdr.FLT_STA 1 = true) ∧
    (∃ x, exec (.sleepClk port) s = .next x ∧ x.psh = s.psh ∧ x.mem = s.mem ∧ x.flag pGth Reg.Hdr.FLT_STA 1 = true) ∧
    (∃ x, exec (.sleepOff port) s = .next x ∧ x.psh = s.psh ∧ x.mem = s.mem ∧ x.flag pGth Reg.Hdr.FLT_STA 1 = true) ∧
    (∃ x, exec (.wake port) s = .next x ∧ x.psh = s.psh ∧ x.mem = s.mem ∧ x.flag pGth Reg.Hdr.FLT_STA 1 = true) ∧
    (∃ x, exec (.discard port) s = .next x ∧ x.psh = s.psh ∧ x.mem = s.mem ∧ x.flag pGth Reg.Hdr.FLT_STA 1 = true)) ∧
  (∀ (s : State) (port : Port) (count : Fin 256) (lba buf : Nat), WriteReaches s port pPsh Reg.Psh.PSH_CMD → s.pshBusy = false →
    lba = (s.reg pPsh Reg.Psh.PSH_LBA).toNat → buf = (s.reg pPsh Reg.Psh.PSH_BUF).toNat → s.psh.st = .ready →
    (1 ≤ count.val → count.val ≤ 128 → lba + count ≤ s.cardBlocks → cardAddrOk buf (512 * count) = true →
      ∃ x, exec (.read port count) s = .next x ∧ x.pshBusy = true ∧ x.psh.st = .xfer ∧ x.psh.job = some (.read lba buf count 0) ∧
        ((s.start.background pPsh 16).1 = true → x.psh.held = false ∧ x.out = [.card (if count = 1 then 17 else 18) lba []]) ∧
        ((s.start.background pPsh 16).1 = false → x.psh.held = true ∧ x.out.all (fun e => match e with | .card .. => false | _ => true) = true) ∧ x.mem = s.mem) ∧
    (count.val = 0 ∨ 128 < count.val ∨ s.cardBlocks < lba + count → ∃ x, exec (.read port count) s = .next x ∧
      x.fld pPsh Reg.Psh.PSH_RES 7 0 = cdBadArg ∧ x.pshBusy = false ∧ x.psh = s.psh) ∧
    (1 ≤ count.val → count.val ≤ 128 → lba + count ≤ s.cardBlocks → cardAddrOk buf (512 * count) = false → ∃ x, exec (.read port count) s = .next x ∧
      x.fld pPsh Reg.Psh.PSH_RES 7 0 = cdAddr ∧ x.pshBusy = false ∧ x.psh = s.psh)) ∧
  (∀ (s : State) (port : Port) (count : Fin 256) (buf list : Nat) (lbas : List Nat), WriteReaches s port pPsh Reg.Psh.PSH_CMD → s.pshBusy = false →
    buf = (s.reg pPsh Reg.Psh.PSH_BUF).toNat → list = (s.reg pPsh Reg.Psh.PSH_LIST).toNat →
    lbas = (chunks 4 (s.peekMem rgCsram (list - 0x20000000) (4 * count))).map leNat → s.clean → s.psh.st = .ready →
    s.cln.st = .off ∨ s.hasRole 4 = true → 1 ≤ count.val → count.val ≤ 128 →
    (cardAddrOk list (4 * count) = true → cardAddrOk buf (512 * count) = true → lbas.Nodup → lbas.all (fun l => decide (l < s.cardBlocks)) = true → s.jAny = false →
      ∃ x, exec (.write port count) s = .next x ∧ x.pshBusy = true ∧ x.psh.st = .xfer ∧ x.psh.lbas = lbas ∧
        x.psh.job = some (.write (if s.jErased s.jNext.1 = true then 2 else 1) s.jNext.1 buf 0)) ∧
    (cardAddrOk list (4 * count) = true → cardAddrOk buf (512 * count) = true → lbas.Nodup → lbas.all (fun l => decide (l < s.cardBlocks)) = true → s.jAny = true →
      ∃ x, exec (.write port count) s = .next x ∧ x.fld pPsh Reg.Psh.PSH_RES 7 0 = cdPending ∧ x.pshBusy = false ∧ x.psh = s.psh ∧ x.mem = s.mem) ∧
    (cardAddrOk list (4 * count) = true → cardAddrOk buf (512 * count) = true → ¬ lbas.Nodup ∨ lbas.any (fun l => decide (s.cardBlocks ≤ l)) = true →
      ∃ x, exec (.write port count) s = .next x ∧ x.fld pPsh Reg.Psh.PSH_RES 7 0 = cdBadArg ∧ x.pshBusy = false ∧ x.psh = s.psh ∧ x.mem = s.mem) ∧
    (cardAddrOk list (4 * count) = false ∨ cardAddrOk buf (512 * count) = false →
      ∃ x, exec (.write port count) s = .next x ∧ x.fld pPsh Reg.Psh.PSH_RES 7 0 = cdAddr ∧ x.pshBusy = false ∧ x.psh = s.psh ∧ x.mem = s.mem)) ∧
  (∀ (s : State) (port : Port) (count : Fin 256), WriteReaches s port pPsh Reg.Psh.PSH_CMD → s.pshBusy = false → s.psh.st = .ready →
    (s.cln.st = .inStep → s.hasRole 4 = false → ∃ x, exec (.write port count) s = .next x ∧ x.fld pPsh Reg.Psh.PSH_RES 7 0 = cdRole ∧ x.psh = s.psh) ∧
    (s.cln.st = .off → count.val = 0 ∨ 128 < count.val → ∃ x, exec (.write port count) s = .next x ∧ x.fld pPsh Reg.Psh.PSH_RES 7 0 = cdBadArg ∧ x.psh = s.psh)) ∧
  (∀ (s : State) (port : Port), WriteReaches s port pPsh Reg.Psh.PSH_CMD → s.pshBusy = false →
    (s.psh.st = .ready → ∃ x, exec (.sleepClk port) s = .next x ∧ x.psh.st = .sleepClk ∧ x.psh.pwrEn = s.psh.pwrEn ∧ x.fld pPsh Reg.Psh.PSH_RES 7 0 = cdOk) ∧
    (s.psh.st = .ready → ∃ x, exec (.sleepOff port) s = .next x ∧ x.psh.st = .sleepOff ∧ x.psh.pwrEn = false ∧ x.fld pPsh Reg.Psh.PSH_RES 7 0 = cdOk) ∧
    (s.psh.st = .sleepClk → s.fld pPsh Reg.Psh.CARD_INFO 2 0 ≠ 5 → ∃ x, exec (.wake port) s = .next x ∧ x.psh.st = .ready ∧
      x.fld pPsh Reg.Psh.PSH_RES 7 0 = cdOk) ∧
    (s.psh.st = .sleepClk → s.fld pPsh Reg.Psh.CARD_INFO 2 0 = 5 → ∃ x, exec (.wake port) s = .next x ∧ x.psh.job = some (.start 70 0 5 false) ∧
      x.pshBusy = true ∧ x.out = [.card 19 0 []]) ∧
    (s.psh.st = .sleepOff → ∃ x, exec (.wake port) s = .next x ∧ x.psh.st = .powerUp ∧ x.psh.pwrEn = true ∧ x.pshBusy = true) ∧
    (port = .core → s.nvm.dip = false → ∃ x, exec (.discard port) s = .next x ∧ x.jAny = false ∧ x.fld pPsh Reg.Psh.PSH_RES 7 0 = cdOk ∧ x.psh = s.psh) ∧
    (port ≠ .core → ∃ x, exec (.discard port) s = .next x ∧ x.mem = s.mem ∧ x.fld pPsh Reg.Psh.PSH_RES 7 0 = cdState ∧ x.psh = s.psh)) ∧
  (∀ (s : State) (lba buf count dn : Nat) (bs : List Byte) (det : Bool), s.fabricUp = true → s.boot.card = none → s.psh.held = false →
    s.psh.job = some (.read lba buf count dn) →
    (bs.length = 512 → s.clean → ∃ x, exec (.cardResponse (.block bs) det) s = .next x ∧ x.peekMem rgCsram (buf - 0x20000000 + 512 * dn) 512 = bs ∧
      (dn + 1 < count → x.psh.job = some (.read lba buf count (dn + 1)) ∧ x.psh.held = !(s.start.background pPsh 16).1 ∧
        ((s.start.background pPsh 16).1 = true → Emission.card 18 (lba + (dn + 1)) [] ∈ x.out)) ∧
      (count ≤ dn + 1 → x.psh.job = none ∧ x.psh.st = .ready ∧ x.pshBusy = false ∧ x.fld pPsh Reg.Psh.PSH_RES 7 0 = cdOk)) ∧
    (∃ x, exec (.cardResponse .error false) s = .next x ∧ x.psh.job = none ∧ x.psh.st = .ready ∧ x.fld pPsh Reg.Psh.PSH_RES 7 0 = cdErr ∧
      x.flag pPsh Reg.Hdr.FLT_STA 2 = true) ∧
    (∃ x, exec (.cardTimeout false) s = .next x ∧ x.psh.job = none ∧ x.psh.st = .ready ∧ x.fld pPsh Reg.Psh.PSH_RES 7 0 = cdTimeout ∧
      x.flag pPsh Reg.Hdr.FLT_STA 2 = true) ∧
    (∃ x, exec (.cardResponse .error true) s = .next x ∧ x.psh.job = none ∧ (s.pshBusy = true → x.fld pPsh Reg.Psh.PSH_RES 7 0 = cdRemoved))) ∧
  (∀ (s : State) (j buf dn : Nat) (bs : List Byte) (det : Bool), s.fabricUp = true → s.boot.card = none → s.psh.held = false → bs.length = 512 →
    (s.psh.job = some (.write 2 j buf dn) → dn + 1 < s.psh.lbas.length → ∃ x, exec (.cardResponse (.block bs) det) s = .next x ∧
      x.psh.old = s.psh.old ++ bs ∧ x.psh.job = some (.write 2 j buf (dn + 1)) ∧ x.psh.held = !(s.start.background pPsh 16).1) ∧
    (s.psh.job = some (.write 2 j buf dn) → s.psh.lbas.length ≤ dn + 1 → s.nvm.run = none → ∃ x, exec (.cardResponse (.block bs) det) s = .next x ∧
      x.psh.old = s.psh.old ++ bs ∧ x.psh.job = some (.write 31 j buf 0) ∧
      x.nvm.run.map (fun r => (r.op, r.off, r.count, r.done, r.journal)) = some (2, jBase j + 0x20, 18, 0, true)) ∧
    (s.psh.job = some (.write 4 j buf dn) → dn + 1 < s.psh.lbas.length → ∃ x, exec (.cardResponse (.crc true) det) s = .next x ∧
      x.psh.job = some (.write 4 j buf (dn + 1)) ∧ x.psh.held = !(s.start.background pPsh 16).1) ∧
    (s.psh.job = some (.write 4 j buf dn) → s.psh.lbas.length ≤ dn + 1 → s.nvm.run = none → ∃ x, exec (.cardResponse (.crc true) det) s = .next x ∧
      x.psh.job = some (.write 41 j buf 0) ∧ x.nvm.run.map (fun r => (r.op, r.off, r.count, r.data, r.journal)) = some (2, jBase j, 1, jBits [1], true)) ∧
    (s.psh.job = some (.write 5 j buf dn) → exec .cardBusyRelease s = .next (s.done { s.start with
      psh := { s.psh with job := some (.write 51 j buf 0) }, out := [.card 13 0 []] })) ∧
    (s.psh.job = some (.write 51 j buf dn) → s.nvm.run = none → ∃ x, exec (.cardResponse (.status true) det) s = .next x ∧
      x.psh.job = some (.write 52 j buf 0) ∧ x.nvm.run.map (fun r => (r.op, r.off, r.count, r.data, r.journal)) = some (2, jBase j, 1, jBits [2], true)) ∧
    (s.psh.job = some (.write 6 j buf dn) → bs = s.peekMem rgCsram (buf - 0x20000000 + 512 * dn) 512 → s.psh.lbas.length ≤ dn + 1 →
      ∃ x, exec (.cardResponse (.block bs) det) s = .next x ∧ x.psh.job = some (.write 61 j buf 0))) ∧
  (∀ (s : State) (step j buf dn : Nat), s.fabricUp = true → s.boot.card = none → s.psh.held = false → s.psh.job = some (.write step j buf dn) → 0 < s.jCount j →
    (step = 4 → ∃ x, exec (.cardResponse (.crc false) false) s = .next x ∧ x.psh.st = .recover ∧ x.psh.job = some (.restore 4 j 0 false) ∧
      x.flag pPsh Reg.Hdr.FLT_STA 2 = true) ∧
    (step = 5 → ∃ x, exec (.cardBusyTimeout false) s = .next x ∧ x.psh.st = .recover ∧ x.psh.job = some (.restore 4 j 0 false) ∧
      x.flag pPsh Reg.Hdr.FLT_STA 2 = true ∧
      ((s.start.background pPsh 16).1 = true → Emission.card (writeCmd (s.jLba j) (s.jCount j) 0) (s.jLba j 0) (s.jOld j 0) ∈ x.out)) ∧
    (step = 51 → ∃ x, exec (.cardResponse (.status false) false) s = .next x ∧ x.psh.st = .recover ∧ x.psh.job = some (.restore 4 j 0 false)) ∧
    (step = 2 → ∃ x, exec (.cardResponse .error false) s = .next x ∧ x.psh.st = .ready ∧ x.psh.job = none ∧ x.fld pPsh Reg.Psh.PSH_RES 7 0 = cdErr) ∧
    (s.cardAsked = true → s.pshBusy = true → ∃ x, exec (.cardResponse .error true) s = .next x ∧ x.psh.job = none ∧ x.fld pPsh Reg.Psh.PSH_RES 7 0 = cdRemoved)) ∧
  (∀ (s : State) (j dn : Nat) (startup det : Bool), s.fabricUp = true → s.boot.card = none → s.psh.held = false →
    (s.psh.job = some (.restore 4 j dn startup) → ∃ x, exec (.cardResponse (.crc true) det) s = .next x ∧
      x.psh.job = some (.restore (if dn + 1 < s.jCount j then 4 else 5) j (dn + 1) startup)) ∧
    (s.psh.job = some (.restore 5 j dn startup) → exec .cardBusyRelease s = .next (s.done { s.start with
      psh := { s.psh with job := some (.restore 51 j dn startup) }, out := [.card 13 0 []] })) ∧
    (s.psh.job = some (.restore 51 j dn startup) → s.nvm.run = none → ∃ x, exec (.cardResponse (.status true) det) s = .next x ∧
      x.psh.job = some (.restore 61 j dn startup) ∧ x.nvm.run.map (fun r => (r.op, r.off, r.count, r.data, r.journal)) = some (2, jBase j, 1, jBits [3, 4], true)) ∧
    (s.psh.job = some (.restore 5 j dn startup) → startup = false ∨ j = 2 → ∃ x, exec (.cardBusyTimeout false) s = .next x ∧ x.psh.st = .ready ∧
      x.psh.job = none ∧ x.flag pPsh Reg.Hdr.FLT_STA 4 = true ∧ (startup = false → x.fld pPsh Reg.Psh.PSH_RES 7 0 = cdRecoverFail))) ∧
  (∀ (s : State) (det : Bool), s.fabricUp = true → s.boot.card = none → s.psh.job.all (fun j => match j with | .write 5 .. => false | .restore 5 .. => false | _ => true) = true →
    exec .cardBusyRelease s = .next (s.done s.start) ∧ exec (.cardBusyTimeout det) s = .next (s.done s.start)) ∧
  (∀ (s : State) (c : CardBoot) (got bs d : List Byte) (area : Nat × Nat) (det : Bool), s.fabricUp = true → s.boot.card = some c → c.phase = 1 →
    s.psh.held = false → s.psh.job = some (.boot 0 2 got) → got.length = 512 → bs.length = 512 → s.fld pLdg Reg.Ldg.BOOT_STA 5 4 ≤ 1 →
    (cardDir got bs = some d → dirEntry 1 d = some area → ∃ x, exec (.cardResponse (.block bs) det) s = .next x ∧
      x.boot.card = some ⟨2, area, dirEntry 2 d⟩ ∧ x.psh.job = some (.boot area.1 1 [])) ∧
    (cardDir got bs = none → ∃ x, exec (.cardResponse (.block bs) det) s = .next x ∧ x.boot.card = none ∧ x.boot.stream = some ⟨.maint, 0, 0, []⟩))

/-- MRAM commands: ERASE, PROGRAM and VERIFY, their units, and the patrol scrubber. A command that passes R396's tests runs: ERASE and
PROGRAM start their first unit where the class admits it and no dip pauses it, otherwise they are held; a PROGRAM with a bit to
change from 0 to 1 ends PROG_CONFLICT with the first such word and writes nothing; a VERIFY without margins ends OK, or
VERIFY_FAIL with the first word unlike its source, and with margins one of the two. A range, source, execute-only sector or bank
that the tests refuse ends RANGE, ADDR, XO or BANK_SELF, in that order, and changes nothing; while BUSY a command is refused. A
unit writes its sector to 0xFF, or its word to O AND N, in ascending order; the last one ends the run OK, or carries a journal
operation's card write on. A held run resumes. The patrol corrects a correctable SRAM word once, poisons an uncorrectable one,
shows it in CODE_STA, and has no effect on the other regions. (R396, R397, R398, R399, R400, R402, R404, R413, R416) -/
def Obligations.NvmRunsAndScrubs : Prop :=
  (∀ (s : State) (port : Port) (margin : Fin 4) (cmp : Bool), WriteReaches s port pNvm Reg.Nvm.NVM_CMD → s.flag pNvm Reg.Nvm.NVM_CMD 31 = true →
    (∃ x, exec (.nvmErase port) s = .next x ∧ x.mem = s.mem ∧ x.nvm = s.nvm ∧ x.flag pGth Reg.Hdr.FLT_STA 1 = true) ∧
    (∃ x, exec (.nvmProgram port) s = .next x ∧ x.mem = s.mem ∧ x.nvm = s.nvm ∧ x.flag pGth Reg.Hdr.FLT_STA 1 = true) ∧
    (∃ x, exec (.nvmVerify port margin cmp) s = .next x ∧ x.mem = s.mem ∧ x.nvm = s.nvm ∧ x.flag pGth Reg.Hdr.FLT_STA 1 = true)) ∧
  (∀ (s : State) (port : Port) (op off count src code : Nat) (margin : Fin 4) (cmp need bank : Bool), WriteReaches s port pNvm Reg.Nvm.NVM_CMD →
    s.flag pNvm Reg.Nvm.NVM_CMD 31 = false →
    off = s.fld pNvm Reg.Nvm.NVM_ADDR 23 0 → count = s.fld pNvm Reg.Nvm.NVM_CNT 7 0 → src = (s.reg pNvm Reg.Nvm.NVM_SRC).toNat →
    need = (op == 2 || (op == 3 && cmp)) → bank = (bankOf s.engC.pc == some (off / 0x400000) || bankOf s.engC.tvec.toNat == some (off / 0x400000)) →
    code = (if nvmRangeOk op off count = false then nvmRange else if need = true ∧ (inCsram src (32 * count) = false ∨ src % 32 ≠ 0) then nvmAddr
      else if s.nvmXoOk op off count (op == 3 && cmp) = false then nvmXo else if bank = true then nvmBankSelf else nvmOk) → code ≠ nvmOk →
    (op = 1 → ∃ x, exec (.nvmErase port) s = .next x ∧ x.mem = s.mem ∧ x.nvm.run = none ∧ x.fld pNvm Reg.Nvm.NVM_RES 7 0 = code ∧
      x.flag pNvm Reg.Nvm.NVM_CMD 31 = false ∧ x.flag pNvm Reg.Hdr.FLT_STA 3 = true) ∧
    (op = 2 → ∃ x, exec (.nvmProgram port) s = .next x ∧ x.mem = s.mem ∧ x.nvm.run = none ∧ x.fld pNvm Reg.Nvm.NVM_RES 7 0 = code ∧
      x.flag pNvm Reg.Nvm.NVM_CMD 31 = false ∧ x.flag pNvm Reg.Hdr.FLT_STA 3 = true) ∧
    (op = 3 → ∃ x, exec (.nvmVerify port margin cmp) s = .next x ∧ x.mem = s.mem ∧ x.nvm.run = none ∧ x.fld pNvm Reg.Nvm.NVM_RES 7 0 = code ∧
      x.flag pNvm Reg.Nvm.NVM_CMD 31 = false ∧ x.flag pNvm Reg.Hdr.FLT_STA 3 = true)) ∧
  (∀ (s : State) (port : Port) (off count : Nat), WriteReaches s port pNvm Reg.Nvm.NVM_CMD → s.flag pNvm Reg.Nvm.NVM_CMD 31 = false →
    off = s.fld pNvm Reg.Nvm.NVM_ADDR 23 0 → count = s.fld pNvm Reg.Nvm.NVM_CNT 7 0 →
    nvmRangeOk 1 off count = true → s.nvmXoOk 1 off count false = true → bankOf s.engC.pc ≠ some (off / 0x400000) →
    bankOf s.engC.tvec.toNat ≠ some (off / 0x400000) →
    ∃ x, exec (.nvmErase port) s = .next x ∧ x.mem = s.mem ∧ x.flag pNvm Reg.Nvm.NVM_CMD 31 = true ∧
      x.nvm.run = some ⟨1, off, count, 0, [], !s.nvm.dip && (s.start.background pNvm 128).1, false⟩) ∧
  (∀ (s : State) (port : Port) (off count src : Nat) (d : List Byte), WriteReaches s port pNvm Reg.Nvm.NVM_CMD → s.flag pNvm Reg.Nvm.NVM_CMD 31 = false →
    off = s.fld pNvm Reg.Nvm.NVM_ADDR 23 0 → count = s.fld pNvm Reg.Nvm.NVM_CNT 7 0 → src = (s.reg pNvm Reg.Nvm.NVM_SRC).toNat →
    d = s.peekMem rgCsram (src - 0x20000000) (32 * count) →
    nvmRangeOk 2 off count = true → s.nvmXoOk 2 off count false = true → bankOf s.engC.pc ≠ some (off / 0x400000) →
    bankOf s.engC.tvec.toNat ≠ some (off / 0x400000) → inCsram src (32 * count) = true → src % 32 = 0 → s.clean →
    (((List.range count).all (fun i => programmable (s.peekMem (mramRegion off) (off + 32 * i) 32) ((d.drop (32 * i)).take 32)) = true) →
      ∃ x, exec (.nvmProgram port) s = .next x ∧ x.mem = s.mem ∧ x.flag pNvm Reg.Nvm.NVM_CMD 31 = true ∧
        x.nvm.run = some ⟨2, off, count, 0, d, !s.nvm.dip && (s.start.background pNvm 1).1, false⟩) ∧
    (∀ k ∈ List.range count, (List.range k).all (fun i => programmable (s.peekMem (mramRegion off) (off + 32 * i) 32) ((d.drop (32 * i)).take 32)) = true →
      programmable (s.peekMem (mramRegion off) (off + 32 * k) 32) ((d.drop (32 * k)).take 32) = false →
      ∃ x, exec (.nvmProgram port) s = .next x ∧ x.mem = s.mem ∧ x.nvm.run = none ∧ x.fld pNvm Reg.Nvm.NVM_RES 7 0 = nvmConflict ∧
        x.fld pNvm Reg.Nvm.NVM_RES 15 8 = k ∧ x.flag pNvm Reg.Hdr.FLT_STA 4 = true)) ∧
  (∀ (s : State) (port : Port) (off count : Nat) (margin : Fin 4), WriteReaches s port pNvm Reg.Nvm.NVM_CMD → s.flag pNvm Reg.Nvm.NVM_CMD 31 = false →
    off = s.fld pNvm Reg.Nvm.NVM_ADDR 23 0 → count = s.fld pNvm Reg.Nvm.NVM_CNT 7 0 → nvmRangeOk 3 off count = true →
    bankOf s.engC.pc ≠ some (off / 0x400000) → bankOf s.engC.tvec.toNat ≠ some (off / 0x400000) → s.clean →
    ∃ x, exec (.nvmVerify port margin false) s = .next x ∧ x.mem = s.mem ∧ x.flag pNvm Reg.Nvm.NVM_CMD 31 = false ∧
      (margin = 0 → x.fld pNvm Reg.Nvm.NVM_RES 7 0 = nvmOk) ∧
      (x.fld pNvm Reg.Nvm.NVM_RES 7 0 = nvmOk ∨ x.fld pNvm Reg.Nvm.NVM_RES 7 0 = nvmVerifyFail)) ∧
  (∀ (s : State) (port : Port) (off count src : Nat), WriteReaches s port pNvm Reg.Nvm.NVM_CMD → s.flag pNvm Reg.Nvm.NVM_CMD 31 = false →
    off = s.fld pNvm Reg.Nvm.NVM_ADDR 23 0 → count = s.fld pNvm Reg.Nvm.NVM_CNT 7 0 → src = (s.reg pNvm Reg.Nvm.NVM_SRC).toNat →
    nvmRangeOk 3 off count = true → bankOf s.engC.pc ≠ some (off / 0x400000) → bankOf s.engC.tvec.toNat ≠ some (off / 0x400000) → s.clean →
    inCsram src (32 * count) = true → src % 32 = 0 → s.nvmXoOk 3 off count true = true →
    ((List.range count).all (fun i => s.peekMem (mramRegion off) (off + 32 * i) 32 == s.peekMem rgCsram (src - 0x20000000 + 32 * i) 32) = true →
      ∃ x, exec (.nvmVerify port 0 true) s = .next x ∧ x.mem = s.mem ∧ x.fld pNvm Reg.Nvm.NVM_RES 7 0 = nvmOk) ∧
    (∀ k ∈ List.range count, (List.range k).all (fun i => s.peekMem (mramRegion off) (off + 32 * i) 32 == s.peekMem rgCsram (src - 0x20000000 + 32 * i) 32) = true →
      s.peekMem (mramRegion off) (off + 32 * k) 32 ≠ s.peekMem rgCsram (src - 0x20000000 + 32 * k) 32 →
      ∃ x, exec (.nvmVerify port 0 true) s = .next x ∧ x.mem = s.mem ∧ x.fld pNvm Reg.Nvm.NVM_RES 7 0 = nvmVerifyFail ∧
        x.fld pNvm Reg.Nvm.NVM_RES 15 8 = k ∧ x.flag pNvm Reg.Hdr.FLT_STA 5 = true)) ∧
  (∀ (s : State) (r : NvmRun) (off : Nat), s.fabricUp = true → s.nvm.run = some r → r.unitOn = true → r.journal = false → s.nvm.jwait = none →
    s.boot.card = none → off = r.off + nvmUnit r.op * r.done → off < 0x1000000 → off % nvmUnit r.op = 0 →
    ∃ x, exec .nvmUnitDone s = .next x ∧
      (r.op = 1 → x.peekMem (mramRegion off) off 4096 = List.replicate 4096 0xFF) ∧
      (r.op ≠ 1 → ((r.data.drop (32 * r.done)).take 32).length = 32 → x.peekMem (mramRegion off) off 32 =
        List.zipWith (· &&& ·) (s.peekMem (mramRegion off) off 32) ((r.data.drop (32 * r.done)).take 32)) ∧
      (∀ a : Nat, a < 0x1000000 → a < off ∨ off + nvmUnit r.op ≤ a → x.peekMem (mramRegion a) a 1 = s.peekMem (mramRegion a) a 1) ∧
      (r.done + 1 = r.count → x.nvm.run = none ∧ x.fld pNvm Reg.Nvm.NVM_RES 7 0 = nvmOk ∧ x.flag pNvm Reg.Nvm.NVM_CMD 31 = false ∧
        x.flag pCcp Reg.Ccp.CCP_IP 5 = true) ∧
      (r.done + 1 ≠ r.count → x.nvm.run.map (fun q => (q.op, q.off, q.count, q.done, q.data)) = some (r.op, r.off, r.count, r.done + 1, r.data))) ∧
  (∀ (s : State) (r : NvmRun) (j buf dn : Nat), s.fabricUp = true → s.nvm.run = some r → r.unitOn = true → r.journal = true → r.done + 1 = r.count →
    s.boot.card = none →
    (s.psh.job = some (.write 41 j buf dn) → ∃ x, exec .nvmUnitDone s = .next x ∧ x.nvm.run = none ∧ x.psh.job = some (.write 5 j buf 0)) ∧
    (s.psh.job = some (.write 61 j buf dn) → ∃ x, exec .nvmUnitDone s = .next x ∧ x.nvm.run = none ∧ x.psh.job = none ∧ x.psh.st = .ready ∧
      x.pshBusy = false ∧ x.fld pPsh Reg.Psh.PSH_RES 7 0 = cdOk) ∧
    (s.psh.job = some (.restore 61 j dn false) → ∃ x, exec .nvmUnitDone s = .next x ∧ x.nvm.run = none ∧ x.psh.job = none ∧ x.psh.st = .ready ∧
      x.pshBusy = false ∧ x.fld pPsh Reg.Psh.PSH_RES 7 0 = cdRestored ∧ x.flag pPsh Reg.Hdr.FLT_STA 3 = true)) ∧
  (∀ s : State, s.fabricUp = true → s.nvm.run = none → s.nvm.jwait = none → s.boot.card = none → exec .nvmUnitDone s = .next (s.done s.start)) ∧
  (∀ (s : State) (r : NvmRun), s.fabricUp = true → s.nvm.run = some r → r.unitOn = false → s.nvm.dip = false → s.nvm.deferred = [] →
    ∃ x, exec .nvmRunResume s = .next x ∧ x.nvm.run = some { r with unitOn := (s.start.background pNvm (if r.op = 1 then 128 else 1)).1 } ∧ x.mem = s.mem ∧
      x.flag pNvm Reg.Hdr.STA 9 = !(s.start.background pNvm (if r.op = 1 then 128 else 1)).1) ∧
  (∀ (s : State) (off : Nat) (bs : List Byte), s.fabricUp = true → s.nvm.run = none → s.nvm.dip = false →
    (s.nvm.deferred = [] → exec .nvmRunResume s = .next (s.done { s.start with nvm := s.nvm })) ∧
    (s.nvm.deferred = [(off, bs, false)] → ∃ x, exec .nvmRunResume s = .next x ∧ x.nvm.deferred = [] ∧ x.peekMem (mramRegion off) off bs.length = bs)) ∧
  (∀ (s : State) (r : NvmRun), s.fabricUp = true → s.nvm.run = some r → r.unitOn = true ∨ s.nvm.dip = true → s.nvm.deferred = [] →
    ∃ x, exec .nvmRunResume s = .next x ∧ x.nvm = s.nvm ∧ x.mem = s.mem) ∧
  (∀ s : State, s.fabricUp = false → exec .nvmUnitDone s = .next (s.done s.start) ∧ exec .nvmRunResume s = .next (s.done s.start)) ∧
  (∀ (s : State) (r : Fin 16) (w : Nat), s.fabricUp = false ∨ s.mark r w = none ∨ ¬ (r.val ≤ 4 ∨ r.val = 9) →
    exec (.patrolScrubRead r w) s = .next (s.done s.start)) ∧
  (∀ (s : State) (r : Fin 16) (w : Nat) (m : Mark), s.fabricUp = true → s.mark r w = some m → r.val ≤ 4 ∨ r.val = 9 → m.poisoned = false →
    ∃ x, exec (.patrolScrubRead r w) s = .next x ∧ x.mark r w = (if m.bits ≤ 2 then none else some { m with poisoned := true }) ∧
      x.flag pBlv Reg.Blv.CODE_STA (if m.bits ≤ 2 then r.val else 16 + r.val) = true ∧ ∀ g : Nat, x.mem.bytes g = s.mem.bytes g)

/-- The Belvedere: the reaction step, lifting a fence, and the history. The reaction step of a new unmasked report puts its entry,
with the reactions asked for, in front of the history, in place of another where it is full, and, while no device reset is asked
for, holds ERR_N for a fatal one; a report like one of the last millisecond counts in its entry; a masked one asks for block rules
alone; a step without reports passes its time. ZEROISE leaves no key and DEVICE_RESET resets, whatever else comes in the step;
HALT_ENGINE stops Ndear-P and clears the Pergola's enable, and supersedes the fence of a channel; FENCE of a page clears its
enable and fences it, or halts where the page is an engine's, FENCE of a channel fences it, DEGRADE takes a core out. FENCE_CMD
answers REFUSED, NOT_FENCED, CAUSE_PENDING or OK, and on OK the lift waits: for the second slot start while the Pergola is
enabled, otherwise FENCE_LIFT takes it at once; a lift of the peer in IN_STEP waits for its slot. HIST_CLR empties the history;
HIST0 answers its word of the entry at HIST_IDX and latches the others, all 0 beyond the last. (R422, R423, R424, R425, R426,
R428, R429, R431, R432, R433, R437, R438) -/
def Obligations.BelvedereReacts : Prop :=
  (∀ (s t : State) (dt req : Nat) (r : Report), t = s.start.tick dt → t.blv.incoming = [r] → r.old = false → r.masked = false → t.coalesces r = none →
    t.blv.hist.length < 64 → req = t.requested r →
    ∃ x, exec (.reactionStep dt) s = .next x ∧
      x.blv.hist.head?.map (fun e => (e.cls, e.cause, e.origin, e.addr, e.req)) = some (r.cls, r.cause, r.origin, r.addr, req) ∧
      x.blv.hist.head?.map (fun e => (e.time, e.lost)) = some (t.sdl.time, t.blv.lostNext) ∧
      (req.testBit 4 = false → r.cls = 3 → x.ldg.errFatal = true ∧ x.errN = true) ∧
      (req.testBit 4 = false → req.testBit 3 = true → t.blv.halted = false → x.blv.halted = true ∧ x.flag pPgl Reg.Hdr.CTL 0 = false) ∧
      (req = 1 → kindOf r.target = 0 → haltPage (pageOf r.target) = false →
        (x.flag (pageOf r.target) Reg.Hdr.CTL 0 = false ∨ t.blv.fences.any (fun f => f.target = r.target) = true) ∧
        x.blv.fences.any (fun f => f.target = r.target) = true)) ∧
  (∀ (s t : State) (dt req : Nat) (r : Report), t = s.start.tick dt → t.blv.incoming = [r] → r.old = false → r.masked = false → t.coalesces r = none →
    t.blv.recent = [] → req = t.requested r →
    (req = 1 → isHaltPage r.target = true → t.blv.halted = false →
      ∃ x, exec (.reactionStep dt) s = .next x ∧ x.blv.halted = true ∧ x.flag pPgl Reg.Hdr.CTL 0 = false) ∧
    (req = 1 → isChannel r.target = true → ∃ x, exec (.reactionStep dt) s = .next x ∧
      x.blv.fences.any (fun f => f.target = r.target) = true ∧
      ((x.entryStat (itemOf r.target)).fenced = true ∨ t.blv.fences.any (fun f => f.target = r.target) = true)) ∧
    (req = 9 → isChannel r.target = true → ∃ x, exec (.reactionStep dt) s = .next x ∧
      x.blv.fences = t.blv.fences ∧ x.flag pBlv Reg.Hdr.FLT_STA 2 = true) ∧
    (req = 2 → isCore r.origin = true → itemOf r.origin < 24 → ∃ x, exec (.reactionStep dt) s = .next x ∧
      x.flag pBlv Reg.Blv.DEG_AES (itemOf r.origin) = true ∧ x.blv.fences.any (fun f => f.target = r.origin) = true)) ∧
  (∀ (s t : State) (dt : Nat) (r : Report) (rs : List Report), t = s.start.tick dt → t.blv.incoming = r :: rs → r.old = false → r.masked = false →
    t.coalesces r = none →
    ((t.requested r).testBit 2 = true → ∃ x, exec (.reactionStep dt) s = .next x ∧ x.org.kekS = none ∧ x.org.slots = [] ∧ x.well.bbr = none) ∧
    ((t.requested r).testBit 4 = true → ∃ x, exec (.reactionStep dt) s = .next x ∧ x.ldg.phase = .held)) ∧
  (∀ (s t : State) (dt i : Nat) (r : Report), t = s.start.tick dt → t.blv.incoming = [r] → r.old = false → r.masked = false → t.coalesces r = none →
    64 ≤ t.blv.hist.length → (t.requested r).testBit 4 = false → t.requested r ≤ 1 → noTarget r.target = true →
    (replaced t.blv.hist r.cls = some i → ∃ x, exec (.reactionStep dt) s = .next x ∧ x.blv.hist.length = (t.blv.hist.eraseIdx i).length + 1 ∧
      x.blv.hist.head?.map (fun e => (e.cls, e.cause, e.origin, e.addr, e.lost)) = some (r.cls, r.cause, r.origin, r.addr, true) ∧
      x.flag pBlv Reg.Hdr.FLT_STA 0 = true) ∧
    (replaced t.blv.hist r.cls = none → ∃ x, exec (.reactionStep dt) s = .next x ∧ x.blv.hist = t.blv.hist ∧ x.blv.lostNext = true ∧
      x.flag pBlv Reg.Hdr.FLT_STA 0 = true)) ∧
  (∀ (s t : State) (dt i : Nat) (r : Report) (e : Hist), t = s.start.tick dt → t.blv.incoming = [r] → r.old = false → r.masked = false →
    t.coalesces r = some (i, e) → t.requested r = e.taken → r.cls ≠ 3 →
    ∃ x, exec (.reactionStep dt) s = .next x ∧ x.blv.hist = setNth t.blv.hist i
      { e with witness := satAdd 65535 e.witness 1, latest := t.now, req := e.req ||| t.requested r }) ∧
  (∀ (s t : State) (dt : Nat) (r : Report), t = s.start.tick dt → t.blv.incoming = [r] → r.old = false → r.masked = true → r.want = 0 →
    exec (.reactionStep dt) s = .next (s.done { t with blv := { t.blv with incoming := [] } })) ∧
  (∀ (s : State) (dt : Nat), (s.start.tick dt).blv.incoming = [] → exec (.reactionStep dt) s = .next (s.done (s.start.tick dt))) ∧
  (∀ (s : State) (port : Port) (t : Word), WriteReaches s port pBlv Reg.Blv.FENCE_CMD → t = s.reg pBlv Reg.Blv.FENCE_TGT →
    (s.blv.halted = true → ∃ x, exec (.fenceCmd port) s = .next x ∧ x.fld pBlv Reg.Blv.FENCE_STA 2 1 = liftRefused ∧ x.blv = s.blv) ∧
    (s.blv.halted = false → s.blv.fences.all (fun f => f.target != t) = true →
      ∃ x, exec (.fenceCmd port) s = .next x ∧ x.fld pBlv Reg.Blv.FENCE_STA 2 1 = liftNotFenced ∧ x.blv = s.blv)) ∧
  (∀ (s : State) (port : Port) (t : Word) (f : Fence), WriteReaches s port pBlv Reg.Blv.FENCE_CMD → t = s.reg pBlv Reg.Blv.FENCE_TGT →
    s.blv.halted = false → s.blv.fences.find? (fun g => g.target = t) = some f →
    (f.cause < 0x20 → s.flag f.page Reg.Hdr.FLT_STA f.cause = true →
      ∃ x, exec (.fenceCmd port) s = .next x ∧ x.fld pBlv Reg.Blv.FENCE_STA 2 1 = liftPending ∧ x.blv = s.blv) ∧
    (0x20 ≤ f.cause ∨ s.flag f.page Reg.Hdr.FLT_STA f.cause = false →
      ∃ x, exec (.fenceCmd port) s = .next x ∧ x.fld pBlv Reg.Blv.FENCE_STA 2 1 = liftOk ∧ x.blv.fences = s.blv.fences ∧
        x.blv.lift = s.blv.lift ++ [(t, if s.pglOn = true then some (s.slotCnt + 2) else none)] ∧
        (s.pglOn = true → x.flag pBlv Reg.Blv.FENCE_STA 0 = true))) ∧
  (∀ s : State, s.fabricUp = true → ∃ x, exec (.fenceLift none) s = .next x ∧ x.blv.lift = s.blv.lift.filter (fun l => l.2.isSome) ∧
    x.blv.fences = s.blv.fences.filter (fun f => !s.blv.lift.any (fun l => l.2.isNone && decide (l.1 = f.target)))) ∧
  (∀ (s : State) (t : Word) (k : Nat), s.fabricUp = true →
    (s.cln.st = .inStep → s.cln.session = true → ∃ x, exec (.fenceLift (some (t, k))) s = .next x ∧ x.blv.lift = s.blv.lift ++ [(t, some k)] ∧
      x.blv.fences = s.blv.fences ∧ x.flag pBlv Reg.Blv.FENCE_STA 0 = true) ∧
    (s.cln.st ≠ .inStep ∨ s.cln.session = false → exec (.fenceLift (some (t, k))) s = .next (s.done s.start))) ∧
  (∀ (s : State) (peer : Option (Word × Nat)), s.fabricUp = false → exec (.fenceLift peer) s = .next (s.done s.start)) ∧
  (∀ (s : State) (port : Port), WriteReaches s port pBlv Reg.Blv.HIST_CLR → ∃ x, exec (.histClr port) s = .next x ∧ x.blv.hist = [] ∧
    x.fld pBlv Reg.Blv.HIST_CNT 31 16 = 0 ∧ x.blv.fences = s.blv.fences ∧ x.blv.incoming = s.blv.incoming) ∧
  (∀ (s : State) (port : Port) (ws : List Word), ReadReaches s port pBlv →
    ws = (s.blv.hist[s.fld pBlv Reg.Blv.HIST_IDX 5 0]?).elim [0, 0, 0, 0, 0, 0] Hist.words →
    ∃ x, exec (.hist0Read port) s = .next x ∧ Emission.value (ws.headD 0) ∈ x.out ∧ x.blv = { s.blv with latch := ws.drop 1 })

/-- The Hedge: conditions of the light, supply and clock sources, and backup. In normal operation, a condition of an enabled source
that is neither burned off, suppressed nor raised shows the source ACTIVE, raises it once, sets its FLT_STA bit and reports it to
the Belvedere; with its zeroise forced by fuse every key is gone at once. One that is raised already, or not enabled, only shows
ACTIVE; one burned off or suppressed, a photocurrent, a count of cells or a time below its threshold has no effect. The window of
source 2 that ends with one light source alone raises source 2. Once a condition has been absent its source can raise again,
sources 5 and 6 once the reading is inside by 5 °C. In backup an alarm of a source that acts there clears BBR and IMP_NONCE and is
recorded, the ninth counted in the overflow; a well temperature at or beyond a threshold is such an alarm. (R440, R441, R443,
R444, R445, R447, R450, R451, R452) -/
def Obligations.HedgeSourcesRaise : Prop :=
  (∀ (s : State) (na ns : Nat) (cells : Fin 4097), s.well.onVbat = false →
    ∀ e ∈ [(Instr.lightMesh na, 0, decide (50 * (s.fld pHdg Reg.Hdg.LIGHT_CFG 3 0 + 1) < na)),
      (Instr.lightCellRefresh cells, 1, decide (max 1 (s.fld pHdg Reg.Hdg.LIGHT_CFG 15 8) ≤ cells)),
      (Instr.supplyGlitch ns, 3, decide (s.fld pHdg Reg.Hdg.GLITCH_CFG 7 0 ≤ ns)), (Instr.clockGlitch, 4, true)],
    (e.2.2 = false ∨ s.hdgOff e.2.1 = true ∨ s.hdgSuppressed e.2.1 = true → exec e.1 s = .next (s.done s.start)) ∧
    (e.2.2 = true → s.hdgOff e.2.1 = false → s.hdgSuppressed e.2.1 = false → e.2.1 ∈ s.hdg.raised ∨ s.hdgEnabled e.2.1 = false →
      ∃ x, exec e.1 s = .next x ∧ e.2.1 ∈ x.hdg.active ∧ x.hdg.raised = s.hdg.raised ∧ x.blv = s.blv ∧ x.org = s.org) ∧
    (e.2.2 = true → s.hdgOff e.2.1 = false → s.hdgSuppressed e.2.1 = false → e.2.1 ∉ s.hdg.raised → s.hdgEnabled e.2.1 = true →
      ∃ x, exec e.1 s = .next x ∧ e.2.1 ∈ x.hdg.active ∧ e.2.1 ∈ x.hdg.raised ∧ x.flag pHdg Reg.Hdr.FLT_STA e.2.1 = true ∧
        (∃ r ∈ x.blv.incoming, r.page = pHdg ∧ r.cause = e.2.1 ∧ r.hdgReset = bitAt (s.srcCfg e.2.1) 4) ∧
        (bitAt (s.srcCfg e.2.1) 1 = true → x.flag pCcp Reg.Ccp.CCP_IP 1 = true) ∧
        (s.hdgForced e.2.1 = true → x.org.kekS = none ∧ x.org.slots = [] ∧ x.well.bbr = none) ∧
        (s.hdgForced e.2.1 = false → x.org.slots = s.org.slots ∧ x.well.bbr = s.well.bbr))) ∧
  (∀ (s : State) (na ns : Nat) (cells : Fin 4097), s.well.onVbat = true →
    exec (.lightMesh na) s = .next (s.done s.start) ∧ exec (.lightCellRefresh cells) s = .next (s.done s.start) ∧
    exec (.supplyGlitch ns) s = .next (s.done s.start) ∧ exec .clockGlitch s = .next (s.done s.start)) ∧
  (∀ (s : State) (j : Nat), s.hdg.lightWait = some j → s.hdgEnabled 0 = true → s.hdgEnabled 1 = true → s.hdgEnabled 2 = true →
    s.hdgSuppressed 2 = false → ∃ x, exec .lightDisagree s = .next x ∧ x.hdg.lightWait = none ∧ x.flag pHdg Reg.Hdr.FLT_STA 2 = true ∧
      (∃ r ∈ x.blv.incoming, r.page = pHdg ∧ r.cause = 2)) ∧
  (∀ s : State, s.hdg.lightWait = none ∨ s.hdgEnabled 0 = false ∨ s.hdgEnabled 1 = false ∨ s.hdgEnabled 2 = false →
    exec .lightDisagree s = .next (s.done { s.start with hdg := { s.hdg with lightWait := none } })) ∧
  (∀ (s : State) (i : Fin 8),
    (s.tempInside i = true → exec (.hedgeConditionAbsent i) s = .next (s.done { s.start with
      hdg := { s.hdg with active := s.hdg.active.filter (fun j => j ≠ i.val), raised := s.hdg.raised.filter (fun j => j ≠ i.val) } })) ∧
    (i.val ≠ 5 → i.val ≠ 6 → s.tempInside i = true) ∧
    (s.tempInside i = false → exec (.hedgeConditionAbsent i) s = .next (s.done s.start))) ∧
  (∀ (s : State) (mask : Fin 256) (i ticks m : Nat), s.well.onVbat = true → i < 8 → mask.val.testBit i = true → s.backupOn i = true → i ∉ s.hdg.raised →
    m = (List.range 8).foldl (fun a j => a + b2n (mask.val.testBit j && s.backupOn j && !s.hdg.raised.contains j) * 2 ^ j) 0 →
    ∃ x, exec (.backupAlarm mask ticks) s = .next x ∧ x.well.bbr = none ∧ x.well.impNonce = none ∧ x.well.zeroised = true ∧
      x.well.ticks = ticks ∧ i ∈ x.hdg.raised ∧
      (s.well.records.length < 8 → x.well.records = s.well.records ++ [⟨m, ticks, s.well.staLoss.isSome⟩] ∧ x.well.overflow = s.well.overflow) ∧
      (8 ≤ s.well.records.length → x.well.records = s.well.records ∧ x.well.overflow = min 255 (s.well.overflow + 1))) ∧
  (∀ (s : State) (mask : Fin 256) (ticks : Nat),
    s.well.onVbat = false ∨ (List.range 8).all (fun j => !mask.val.testBit j || !s.backupOn j || s.hdg.raised.contains j) = true →
    exec (.backupAlarm mask ticks) s = .next (s.done s.start)) ∧
  (∀ (s : State) (t hi lo : Int) (ticks : Nat), -2048 ≤ t → t < 2048 → s.well.onVbat = true →
    hi = (BitVec.ofNat 12 (s.fld pHdg Reg.Hdg.TEMP_CFG 11 0)).toInt → lo = (BitVec.ofNat 12 (s.fld pHdg Reg.Hdg.TEMP_CFG 27 16)).toInt →
    (hi ≤ t → s.backupOn 5 = true → 5 ∉ s.hdg.raised →
      ∃ x, exec (.backupTempSample t ticks) s = .next x ∧ x.well.bbr = none ∧ x.well.zeroised = true ∧ 5 ∈ x.hdg.raised) ∧
    (t ≤ lo → s.backupOn 6 = true → 6 ∉ s.hdg.raised →
      ∃ x, exec (.backupTempSample t ticks) s = .next x ∧ x.well.bbr = none ∧ x.well.zeroised = true ∧ 6 ∈ x.hdg.raised) ∧
    (t < hi ∨ s.backupOn 5 = false ∨ 5 ∈ s.hdg.raised → lo < t ∨ s.backupOn 6 = false ∨ 6 ∈ s.hdg.raised →
      exec (.backupTempSample t ticks) s = .next (s.done { s.start with pwr := { s.pwr with temps := [t] } }))) ∧
  (∀ (s : State) (t : Int) (ticks : Nat), -2048 ≤ t → t < 2048 → s.well.onVbat = false → exec (.backupTempSample t ticks) s = .next (s.done s.start))

/-- The Arbour: an operation passes its checks and starts, and ends with its result. With the engine not BUSY each operation whose
checks pass becomes BUSY, in its randomness phase where it draws, else in its timed phase; one that the checks refuse, or that
draws while the Fountain is FAILED, ends at once with its status, scratch unchanged; while BUSY an ARB_CMD write other than OP 15
starts nothing. The randomness once drawn starts the timed phase. At its end an operation on operands without poison leaves in R
the digest, signature, shared secret, public point, statement or modular result, in C or its ephemeral register the new scalar, in
PASS the verdict; ARB_RES reads OK, ARB_CYC its cycles, and the oldest request that waits begins. CLEAR zeroes the scratch. OP 15
ends a firmware operation ABORTED and leaves an internal request, and a Q_KA, Q_ID or attach request that waits ends one
PREEMPTED, scratch zeroed, and runs. Q_KA and Q_ID publish their points. SCR_DATA writes and reads the word of SCR_DATA's address,
most significant octet first, and steps SCR_ADDR; BUSY, or in the reserved area, it reads 0 and discards. The operands of HASH are
those latched at its start (log entry 4). (R339, R340, R341, R342, R343, R345, R346, R347, R348, R349, R350, R360) -/
def Obligations.ArbourOperations : Prop :=
  (∀ (s : State) (port : Port) (k e : Fin 4) (m : Bool) (w : Fin 32), WriteReaches s port pArb Reg.Arb.ARB_CMD →
    s.flag pArb Reg.Hdr.STA 8 = false → s.arb.cur = none → s.arb.waiting = [] →
    ∀ c ∈ [(Instr.hash port, 1, false, 0, 0, 0), (Instr.p256Verify port, 2, false, 0, 0, 0), (Instr.p256Sign port k e, 3, false, k.val, e.val, 0),
      (Instr.p256Ecdh port k e, 4, false, k.val, e.val, 0), (Instr.p256Keygen port k e, 5, false, k.val, e.val, 0), (Instr.attest port, 6, false, 0, 0, 0),
      (Instr.modadd port m w, 7, m, 0, 0, w.val), (Instr.modsub port m w, 8, m, 0, 0, w.val), (Instr.modmul port m w, 9, m, 0, 0, w.val),
      (Instr.modexp port m w, 10, m, 0, 0, w.val), (Instr.clear port, 14, false, 0, 0, 0)],
      (s.arbCheck c.2.1 c.2.2.2.1 c.2.2.2.2.1 c.2.2.2.2.2 = arbOk → arbDraw c.2.1 c.2.2.1 = 0 ∨ s.ftn.st ≠ .failed →
        ∃ x, exec c.1 s = .next x ∧ x.arb.cur = some (.fw c.2.1 c.2.2.1 c.2.2.2.1 c.2.2.2.2.1 c.2.2.2.2.2) ∧
          x.arb.phase = (if arbDraw c.2.1 c.2.2.1 = 0 then .timed else .random) ∧ x.flag pArb Reg.Hdr.STA 8 = true ∧ x.mem = s.mem ∧
          x.arb.src = (s.reg pArb Reg.Arb.ARB_SRC).toNat ∧ x.arb.len = s.fld pArb Reg.Arb.ARB_LEN 24 0 ∧
          (arbDraw c.2.1 c.2.2.1 ≠ 0 → FtnReq.arbour ∈ x.ftn.waiting)) ∧
      (s.arbCheck c.2.1 c.2.2.2.1 c.2.2.2.2.1 c.2.2.2.2.2 ≠ arbOk → ∃ x, exec c.1 s = .next x ∧ x.arb.cur = none ∧
        x.fld pArb Reg.Arb.ARB_RES 7 0 = s.arbCheck c.2.1 c.2.2.2.1 c.2.2.2.2.1 c.2.2.2.2.2 ∧
        x.mem = s.mem ∧ x.flag pArb Reg.Hdr.FLT_STA 0 = true ∧ x.flag pArb Reg.Hdr.STA 8 = false) ∧
      (s.arbCheck c.2.1 c.2.2.2.1 c.2.2.2.2.1 c.2.2.2.2.2 = arbOk → arbDraw c.2.1 c.2.2.1 ≠ 0 → s.ftn.st = .failed →
        ∃ x, exec c.1 s = .next x ∧ x.arb.cur = none ∧ x.fld pArb Reg.Arb.ARB_RES 7 0 = arbFtnFail ∧ x.mem = s.mem ∧
          x.flag pArb Reg.Hdr.FLT_STA 2 = true)) ∧
  (∀ (s : State) (port : Port) (k e : Fin 4) (m : Bool) (w : Fin 32), WriteReaches s port pArb Reg.Arb.ARB_CMD → s.flag pArb Reg.Hdr.STA 8 = true →
    ∀ c ∈ [Instr.hash port, Instr.p256Verify port, Instr.p256Sign port k e, Instr.p256Ecdh port k e, Instr.p256Keygen port k e, Instr.attest port,
      Instr.modadd port m w, Instr.modsub port m w, Instr.modmul port m w, Instr.modexp port m w, Instr.clear port],
      ∃ x, exec c s = .next x ∧ x.arb = s.arb ∧ x.mem = s.mem ∧ x.ftn = s.ftn ∧ x.gate.log ≠ []) ∧
  (∀ s : State, s.fabricUp = true →
    (s.arb.phase = .random → s.arb.rnd ≠ [] → ∃ x, exec .arbTimedPhaseStart s = .next x ∧ x.arb = { s.arb with phase := .timed } ∧ x.mem = s.mem) ∧
    (s.arb.phase ≠ .random ∨ s.arb.rnd = [] → exec .arbTimedPhaseStart s = .next (s.done s.start)) ∧
    (s.arb.phase ≠ .timed → exec .arbOperationComplete s = .next (s.done s.start))) ∧
  (∀ (s : State) (op k e w : Nat) (m : Bool), s.fabricUp = true → s.arb.phase = .timed → s.arb.cur = some (.fw op m k e w) →
    ∃ x, exec .arbOperationComplete s = .next x ∧ (x.fld pArb Reg.Arb.ARB_RES 7 0 = arbOk ∨ x.fld pArb Reg.Arb.ARB_RES 7 0 = arbAborted) ∧
      (s.clean → x.fld pArb Reg.Arb.ARB_RES 7 0 = arbOk) ∧ x.reg pArb Reg.Arb.ARB_CYC = BitVec.ofNat 32 (arbCycles op w s.arb.len) ∧
      (s.flag pArb Reg.Arb.ARB_CFG 0 = true → x.flag pCcp Reg.Ccp.CCP_IP 3 = true) ∧ x.arb.waiting = s.arb.waiting.drop 1 ∧
      x.arb.cur = s.arb.waiting.head?.map ArbOp.req ∧ x.flag pArb Reg.Hdr.STA 8 = !s.arb.waiting.isEmpty ∧
      x.arb.phase = (match s.arb.waiting.head? with | none => .idle | some r => if r.draw = 0 then .timed else .random)) ∧
  (∀ (s : State) (k e w : Nat) (m : Bool), s.fabricUp = true → s.arb.phase = .timed → s.arb.cur = some (.fw 1 m k e w) → s.clean →
    (inCsram s.arb.src s.arb.len = true → ∃ x, exec .arbOperationComplete s = .next x ∧
      x.scr areaR 32 = (sha256 (s.peekMem rgCsram (s.arb.src - 0x20000000) s.arb.len)).take 32 ∧ x.arb.eph = s.arb.eph) ∧
    (inMram s.arb.src s.arb.len = true → ∃ x, exec .arbOperationComplete s = .next x ∧ x.arb.eph = s.arb.eph ∧
      x.mem.csram = s.mem.csram ∧ x.mem.mram = s.mem.mram)) ∧
  (∀ (s : State) (k e w : Nat) (m : Bool) (kk : Nat), s.fabricUp = true → s.arb.phase = .timed → s.clean → kk = scalarOf (s.arb.rnd.take 48) →
    (s.arb.cur = some (.fw 2 m k e w) → ∃ x, exec .arbOperationComplete s = .next x ∧ x.mem = s.mem ∧ x.arb.eph = s.arb.eph ∧
      x.flag pArb Reg.Arb.ARB_RES 8 = ecdsaVerify (s.scr areaB 64) (s.scr areaA 32) (s.scr areaD 64)) ∧
    (s.arb.cur = some (.fw 3 m k e w) → ∃ x, exec .arbOperationComplete s = .next x ∧ x.arb.eph = s.arb.eph ∧
      x.scr areaR 64 = ecdsaSign (beNat (s.scr areaC 32)) kk (s.scr areaA 32) ∧ x.flag pArb Reg.Hdr.STA 9 = true) ∧
    (s.arb.cur = some (.fw 5 m 0 e w) → ∃ x, exec .arbOperationComplete s = .next x ∧ x.arb.eph = s.arb.eph ∧
      x.scr areaR 64 = pointOctets (ecMul kk p256G) ∧ x.scr areaC 32 = natOctetsBE 32 kk) ∧
    (k ≠ 0 → s.arb.cur = some (.fw 5 m k e w) → ∃ x, exec .arbOperationComplete s = .next x ∧ x.arb.eph = setNth s.arb.eph e (some kk) ∧
      x.scr areaR 64 = pointOctets (ecMul kk p256G) ∧ x.scr areaC 32 = s.scr areaC 32)) ∧
  (∀ (s : State) (e w : Nat) (m : Bool), s.fabricUp = true → s.arb.phase = .timed → s.clean → s.arb.cur = some (.fw 4 m 0 e w) →
    ∃ x, exec .arbOperationComplete s = .next x ∧ x.scr areaR 32 = ecdh (beNat (s.scr areaC 32)) (pointOf (s.scr areaB 64)) ∧ x.arb.eph = s.arb.eph) ∧
  (∀ (s : State) (e w d : Nat) (m : Bool), s.fabricUp = true → s.arb.phase = .timed → s.clean → s.arb.cur = some (.fw 4 m 1 e w) →
    nth s.arb.eph e none = some d → ∃ x, exec .arbOperationComplete s = .next x ∧ x.scr areaR 32 = ecdh d (pointOf (s.scr areaB 64)) ∧
      x.arb.eph = setNth s.arb.eph e none) ∧
  (∀ (s : State) (k e w : Nat) (m : Bool) (st : List Byte), s.fabricUp = true → s.arb.phase = .timed → s.clean →
    s.arb.cur = some (.fw 6 m k e w) → st = s.attestStatement (s.scr areaA 32) → st.length = 128 →
    ∃ x, exec .arbOperationComplete s = .next x ∧ x.scr areaR 128 = st ∧
      x.scr (areaR + 128) 64 = ecdsaSign (s.arb.dID.getD 1) (scalarOf (s.arb.rnd.take 48)) (sha256 st)) ∧
  (∀ (s : State) (k e w a b c : Nat) (m : Bool), s.fabricUp = true → s.arb.phase = .timed → s.clean → w ≤ 16 →
    a = beNat (s.scr areaA (32 * w)) → b = beNat (s.scr areaB (32 * w)) → c = beNat (s.scr areaC (32 * w)) →
    ∀ r ∈ [(7, (a + b) % c), (8, subMod a b c), (9, a * b % c), (10, powMod a (beNat (s.scr areaD (32 * w))) c)],
      s.arb.cur = some (.fw r.1 m k e w) → ∃ x, exec .arbOperationComplete s = .next x ∧
        x.scr areaR (32 * w) = natOctetsBE (32 * w) r.2 ∧ x.arb.eph = s.arb.eph) ∧
  (∀ (s : State) (k e w : Nat) (m : Bool), s.fabricUp = true → s.arb.phase = .timed → s.arb.cur = some (.fw 14 m k e w) →
    ∃ x, exec .arbOperationComplete s = .next x ∧ x.mem.scratch = [] ∧ x.flag pArb Reg.Hdr.STA 9 = false) ∧
  (∀ (s : State) (d : Nat), s.fabricUp = true → s.arb.phase = .timed →
    (s.arb.cur = some (.req .qKA) → s.org.dKA = some d → ∃ x, exec .arbOperationComplete s = .next x ∧
      x.octetRegs pOrg (Reg.Org.KA_PUB 0) 16 = pointOctets (ecMul d p256G) ∧ x.flag pOrg Reg.Org.KEK_STA 2 = true ∧ x.mem = s.mem) ∧
    (s.arb.cur = some (.req .qID) → s.arb.dID = some d → ∃ x, exec .arbOperationComplete s = .next x ∧
      x.octetRegs pArb (Reg.Arb.ID_PUB 0) 16 = pointOctets (ecMul d p256G) ∧ x.flag pArb Reg.Hdr.STA 10 = true ∧ x.mem = s.mem)) ∧
  (∀ (s : State) (port : Port), WriteReaches s port pArb Reg.Arb.ARB_CMD → ∃ x, exec (.abort port) s = .next x ∧
    x.fld pArb Reg.Arb.ARB_RES 7 0 = arbAborted ∧ x.mem.scratch = [] ∧ x.flag pArb Reg.Hdr.FLT_STA 1 = true ∧ x.arb.eph = s.arb.eph ∧
    x.arb.cur = (match s.arb.cur with | some (.req r) => some (.req r) | _ => s.arb.waiting.head?.map ArbOp.req) ∧
    x.arb.waiting = (match s.arb.cur with | some (.req _) => s.arb.waiting | _ => s.arb.waiting.drop 1)) ∧
  (∀ (s : State) (op k e w : Nat) (m : Bool), s.fabricUp = true → s.arb.cur = some (.fw op m k e w) →
    (∀ r : ArbReq, s.arb.waiting.find? (·.preempts) = some r → ∃ x, exec .arbPreempt s = .next x ∧ x.arb.cur = some (.req r) ∧
      x.arb.waiting = s.arb.waiting.erase r ∧ x.arb.eph = s.arb.eph ∧ x.fld pArb Reg.Arb.ARB_RES 7 0 = arbPreempted ∧ x.mem.scratch = [] ∧
      x.flag pArb Reg.Hdr.FLT_STA 3 = true) ∧
    (s.arb.waiting.find? (·.preempts) = none → exec .arbPreempt s = .next (s.done s.start))) ∧
  (∀ s : State, s.fabricUp = true → s.arb.cur = none → exec .arbPreempt s = .next (s.done s.start)) ∧
  (∀ (s : State) (port : Port) (v : Word) (n : Nat), n = s.fld pArb Reg.Arb.SCR_ADDR 11 0 →
    (WriteReaches s port pArb Reg.Arb.SCR_DATA → s.arb.phase = .idle → 4 * n < 0x0A00 ∨ 0x1000 ≤ 4 * n →
      ∃ x, exec (.scrDataAccess port (some v)) s = .next x ∧ x.scr (4 * n) 4 = wordOctetsBE v ∧
        x.fld pArb Reg.Arb.SCR_ADDR 11 0 = (n + 1) % 4096 ∧ ∀ a : Nat, a < 4 * n ∨ 4 * n + 4 ≤ a → x.scr a 1 = s.scr a 1) ∧
    (WriteReaches s port pArb Reg.Arb.SCR_DATA → s.arb.phase ≠ .idle ∨ (0x0A00 ≤ 4 * n ∧ 4 * n < 0x1000) →
      ∃ x, exec (.scrDataAccess port (some v)) s = .next x ∧ x.mem = s.mem ∧ x.fld pArb Reg.Arb.SCR_ADDR 11 0 = (n + 1) % 4096) ∧
    (ReadReaches s port pArb → s.clean → s.arb.phase = .idle → 4 * n < 0x0A00 ∨ 0x1000 ≤ 4 * n → ∃ x, exec (.scrDataAccess port none) s = .next x ∧
      x.out = [.value (BitVec.ofNat 32 (beNat (s.scr (4 * n) 4)))] ∧ x.fld pArb Reg.Arb.SCR_ADDR 11 0 = (n + 1) % 4096 ∧ x.mem = s.mem) ∧
    (ReadReaches s port pArb → s.arb.phase ≠ .idle ∨ (0x0A00 ≤ 4 * n ∧ 4 * n < 0x1000) → ∃ x, exec (.scrDataAccess port none) s = .next x ∧
      x.out = [.value 0] ∧ x.fld pArb Reg.Arb.SCR_ADDR 11 0 = (n + 1) % 4096 ∧ x.mem = s.mem))

/-- The Fountain: READY, service in order, external reads, reseeding, and a failed health test. From STARTUP the Fountain becomes
READY with its pool full, the cores masked, FTN_RDY set and a re-key asked for; a start-up that ends without it is a failure.
READY, it serves the request of the highest rank: the Arbour's draw gives its octets, a re-key counts MASK_GEN and sets
MASK_REKEYED, the attach takes its nonce; with none waiting a masking refill is one request; otherwise nothing is served. FTN_OUT0
answers a word and keeps seven for its port, or 0 with NOT_READY or FTN_FAIL while not READY; 0x5EED while READY reseeds and
REQ_CNT starts again. A health test that fails makes it FAILED, its bit and bit 5 set, the cores unmasked, FTN_RDY 0 and nothing
waiting; an Arbour operation that waits for randomness ends FTN_FAIL. A failed start-up before the boot ROM has handed over is
tried again after a block reset, three times, and then ends in boot code 0x30. (R353, R354, R355, R356, R357, R361, R362) -/
def Obligations.FountainServesAndFails : Prop :=
  (∀ s : State, s.fabricUp = true → s.ftn.st = .startup → ∃ x, exec .fountainReady s = .next x ∧ x.ftn.st = .ready ∧
    x.fld pFtn Reg.Hdr.STA 9 8 = 2 ∧ x.flag pFtn Reg.Hdr.STA 10 = false ∧ x.flag pFtn Reg.Hdr.STA 11 = true ∧
    x.flag pLdg Reg.Ldg.BOOT_STA 10 = true ∧ x.reg pFtn Reg.Ftn.REQ_CNT = 0 ∧ FtnReq.rekey ∈ x.ftn.waiting) ∧
  (∀ s : State, s.fabricUp = true → s.ftn.st ≠ .startup → exec .fountainReady s = .next (s.done s.start) ∧
    exec .fountainStartupTimeout s = .next (s.done s.start)) ∧
  (∀ (s : State) (h : HealthFail), s.fabricUp = true → h ≠ .startup ∨ s.boot.entered = true →
    ∀ c ∈ [(Instr.healthTestFail h, true), (Instr.fountainStartupTimeout, decide (h = .startup) && decide (s.ftn.st = .startup))], c.2 = true →
    ∃ x, exec c.1 s = .next x ∧ x.ftn.st = .failed ∧ x.fld pFtn Reg.Hdr.STA 9 8 = 3 ∧ x.flag pFtn Reg.Hdr.STA 10 = true ∧
      x.flag pFtn Reg.Hdr.STA 11 = false ∧ x.flag pLdg Reg.Ldg.BOOT_STA 10 = false ∧ x.flag pFtn Reg.Hdr.FLT_STA h.bit = true ∧
      x.flag pFtn Reg.Hdr.FLT_STA 5 = true ∧ x.ftn.latch = []) ∧
  (∀ (s : State) (h : HealthFail) (op k e w : Nat) (m : Bool), s.fabricUp = true → h ≠ .startup ∨ s.boot.entered = true → s.arb.phase = .random →
    s.arb.cur = some (.fw op m k e w) → ∃ x, exec (.healthTestFail h) s = .next x ∧ x.arb.cur = s.arb.waiting.head?.map ArbOp.req ∧
      x.fld pArb Reg.Arb.ARB_RES 7 0 = arbFtnFail ∧ x.mem.scratch = s.mem.scratch) ∧
  (∀ s : State, s.fabricUp = true → s.boot.entered = false →
    (s.boot.ftnFails < 3 → ∃ x, exec (.healthTestFail .startup) s = .next x ∧ x.ftn.st = .startup ∧ x.boot.ftnFails = s.boot.ftnFails + 1 ∧
      x.flag pFtn Reg.Hdr.STA 11 = false ∧ x.flag pLdg Reg.Ldg.BOOT_STA 10 = false) ∧
    (3 ≤ s.boot.ftnFails → ∃ x, exec (.healthTestFail .startup) s = .next x ∧ x.ftn.st = .failed ∧ x.fld pLdg Reg.Ldg.BOOT_STA 23 16 = 0x30)) ∧
  (∀ (s : State) (o : ArbOp), s.fabricUp = true → s.ftn.st = .ready → nextRequest s.ftn.waiting = some .arbour → s.arb.cur = some o →
    ∃ x, exec .ftnRequestServed s = .next x ∧ x.ftn.waiting = s.ftn.waiting.erase .arbour ∧ x.arb.rnd.length = o.draw ∧ x.arb.cur = s.arb.cur ∧
      x.mem = s.mem) ∧
  (∀ s : State, s.fabricUp = true → s.ftn.st = .ready → .rekey ∈ s.ftn.waiting → ∃ x, exec .ftnRequestServed s = .next x ∧
    x.ftn.waiting = s.ftn.waiting.erase .rekey ∧ x.fld pCcp Reg.Ccp.CCP_MASK 15 0 = (s.fld pCcp Reg.Ccp.CCP_MASK 15 0 + 1) % 65536 ∧
    x.flag pLdg Reg.Ldg.BOOT_STA 11 = true) ∧
  (∀ (s : State) (a : AttachRun), s.fabricUp = true → s.ftn.st = .ready → nextRequest s.ftn.waiting = some .attach → s.cln.attach = some a →
    a.qE = [] → ∃ x, exec .ftnRequestServed s = .next x ∧ x.ftn.waiting = s.ftn.waiting.erase .attach ∧
      x.cln.attach.map (fun b => (b.nonce.length, b.qE, b.sent)) = some (32, [], a.sent)) ∧
  (∀ s : State, s.fabricUp = true → s.ftn.st = .ready → s.ftn.waiting = [] → ∃ x, exec .ftnRequestServed s = .next x ∧ x.ftn = s.ftn ∧
    x.fld pFtn Reg.Ftn.REQ_CNT 16 0 = (if 65536 ≤ s.fld pFtn Reg.Ftn.REQ_CNT 16 0 then 1 else s.fld pFtn Reg.Ftn.REQ_CNT 16 0 + 1) ∧ x.mem = s.mem) ∧
  (∀ s : State, s.fabricUp = true → s.ftn.st ≠ .ready → exec .ftnRequestServed s = .next (s.done s.start)) ∧
  (∀ (s : State) (port : Port), ReadReaches s port pFtn →
    (s.ftn.st = .ready → ∃ x, exec (.ftnOut0Read port) s = .next x ∧ x.out.length = 1 ∧
      (x.ftn.latch.find? (fun e => e.1 = port)).map (fun e => e.2.length) = some 7 ∧ x.ftnResOf port = ftnOk) ∧
    (s.ftn.st ≠ .ready → ∃ x, exec (.ftnOut0Read port) s = .next x ∧ x.out = [.value 0] ∧
      (x.ftn.latch.find? (fun e => e.1 = port)).map (fun e => e.2.length) = some 0 ∧
      x.ftnResOf port = (if s.ftn.st = .failed then ftnFail else ftnNotReady))) ∧
  (∀ (s : State) (port : Port), WriteReaches s port pFtn Reg.Ftn.FTN_CMD →
    (s.ftn.st = .ready → ∃ x, exec (.ftnReseed port) s = .next x ∧
      x.reg pFtn Reg.Ftn.REQ_CNT = 0 ∧ (x.reg pFtn Reg.Ftn.RESEEDS).toNat = min 0xFFFFFFFF ((s.reg pFtn Reg.Ftn.RESEEDS).toNat + 1) ∧
      x.ftn = s.ftn) ∧
    (s.ftn.st ≠ .ready → ∃ x, exec (.ftnReseed port) s = .next x ∧ x.ftn = s.ftn ∧ x.reg pFtn Reg.Ftn.REQ_CNT = s.reg pFtn Reg.Ftn.REQ_CNT ∧
      x.reg pFtn Reg.Ftn.RESEEDS = s.reg pFtn Reg.Ftn.RESEEDS))

/-- The Pergola: the enable check, dispatch, pre-emption, the schedule words, and the logs, events, captures and context words. CTL.EN
written 1 starts the check; its end refuses with the first failing cause in EN_ERR and FLT_STA bit 1, or sets EN, ACCEPTED and
PRF_ACT. CTL.EN written 0 ends EN with DISABLING. The first dispatch of a slot, at C_k + 5 us, and a later one take the lowest due
entry into a run at its entry point, or, its save slot being poisoned, into a POISON trap; with no entry due, or a run in
progress, nothing is dispatched. A run at its budget is pre-empted: the engine is free, the entry stale with one overrun more,
OVR_LOG and FLT_STA bit 0 tell it; one within it goes on. Before the first enable CORE writes a schedule word; afterwards only the
clearing of EN waits for the next slot start; other ports are refused. OVR_LOG, TRAP_LOG0 and EVQ0 answer and remove their oldest
entry, the latter two latching the rest of it, and answer 0 where empty. A capture copies the first block that may be copied.
CTX_DATA writes and reads the context word of CTX_ADDR, which advances; an Ndear-C read beyond the stall limit waits. (R235, R236,
R239, R240, R241, R243, R248, R251, R295, R306, R313, R315) -/
def Obligations.PergolaPromiseAndRuns : Prop :=
  (∀ (s : State) (port : Port), WriteReaches s port pPgl Reg.Hdr.CTL →
    (s.pglOn = false → s.blv.halted = false → s.fencedPage pPgl = false → ∃ x, exec (.pergolaEnable port) s = .next x ∧
      x.flag pPgl Reg.Hdr.STA 8 = true ∧ x.pglOn = false ∧ x.pgl = s.pgl) ∧
    (s.blv.halted = true ∨ s.fencedPage pPgl = true → ∃ x, exec (.pergolaEnable port) s = .next x ∧
      x.flag pPgl Reg.Hdr.STA 8 = false ∧ x.pgl = s.pgl ∧ x.pglOn = s.pglOn) ∧
    (s.pglOn = true → ∃ x, exec (.pergolaDisable port) s = .next x ∧ x.flag pPgl Reg.Hdr.CTL 0 = false ∧ x.flag pPgl Reg.Hdr.STA 10 = true ∧
      x.pgl = s.pgl) ∧
    (s.pglOn = false → ∃ x, exec (.pergolaDisable port) s = .next x ∧ x.flag pPgl Reg.Hdr.STA 10 = s.flag pPgl Reg.Hdr.STA 10 ∧ x.pgl = s.pgl)) ∧
  (∀ (s t : State) (dt : Nat), s.fabricUp = true → s.flag pPgl Reg.Hdr.STA 8 = true → t = s.start.tick dt → t.causeBefore = none →
    t.admFigures.causeAfter = none → ∃ x, exec (.enableCheckComplete dt) s = .next x ∧ x.pglOn = true ∧
      x.flag pPgl Reg.Hdr.STA 8 = false ∧ x.flag pPgl Reg.Hdr.STA 9 = true ∧ x.reg pPgl Reg.Pgl.EN_ERR = 0 ∧
      x.fld pSys Reg.Sys.PRF 9 8 = t.prfSel ∧ x.pgl.everEnabled = true ∧ x.fld pPgl Reg.Pgl.ADM_A 18 0 = t.admA % 2 ^ 19) ∧
  (∀ (s t : State) (dt : Nat), s.fabricUp = true → s.flag pPgl Reg.Hdr.STA 8 = true → t = s.start.tick dt →
    ∀ c : Nat × Nat, t.causeBefore = some c → ∃ x, exec (.enableCheckComplete dt) s = .next x ∧ x.pglOn = false ∧
      x.flag pPgl Reg.Hdr.STA 8 = false ∧ x.reg pPgl Reg.Pgl.EN_ERR = BitVec.ofNat 32 (c.1 + c.2 % 65536 * 256) ∧
      x.flag pPgl Reg.Hdr.FLT_STA 1 = true ∧ x.pgl = s.pgl) ∧
  (∀ (s t : State) (dt : Nat), s.fabricUp = true → s.flag pPgl Reg.Hdr.STA 8 = true → t = s.start.tick dt → t.causeBefore = none →
    ∀ c : Nat × Nat, t.admFigures.causeAfter = some c → ∃ x, exec (.enableCheckComplete dt) s = .next x ∧ x.pglOn = false ∧
      x.flag pPgl Reg.Hdr.STA 8 = false ∧ x.reg pPgl Reg.Pgl.EN_ERR = BitVec.ofNat 32 (c.1 + c.2 % 65536 * 256) ∧
      x.flag pPgl Reg.Hdr.FLT_STA 1 = true ∧ x.pgl = s.pgl ∧ x.fld pPgl Reg.Pgl.ADM_A 18 0 = t.admA % 2 ^ 19) ∧
  (∀ (s : State) (dt : Nat), s.fabricUp = true → s.flag pPgl Reg.Hdr.STA 8 = false → exec (.enableCheckComplete dt) s = .next (s.done s.start)) ∧
  (∀ (s : State) (ck : Nat), s.fabricUp = true → s.sdl.slotAt = some ck →
    ∀ c ∈ [(Instr.runDispatch, s.start, s.pgl.open5), (Instr.firstDispatch, (s.start.advanceTo (ck + 5000)).lateInputs, !s.pgl.open5)], c.2.2 = true →
      c.2.1.joining = false → c.2.1.pgl.run = none → ∀ e ∈ c.2.1.pgl.due.head?,
      ((c.2.1.readMem rgCtx (saveOfs e) 516).2.1 = false → ∃ x, exec c.1 s = .next x ∧
        x.pgl.run.map (fun r => (r.entry, r.charged, r.budget)) = some (e, 0, schBudget (c.2.1.sch e 0)) ∧ x.pgl.due = c.2.1.pgl.due.drop 1 ∧
        x.pgl.open5 = true ∧ x.pgl.used = c.2.1.pgl.used + 48 ∧ x.pgl.runs = c.2.1.pgl.runs + 1 ∧ x.engP.pc = bits (c.2.1.sch e 1) 19 0 ∧
        x.engP.flight = []) ∧
      ((c.2.1.readMem rgCtx (saveOfs e) 516).2.1 = true → ∃ x, exec c.1 s = .next x ∧ x.pgl.run = none ∧ x.pgl.due = c.2.1.pgl.due.drop 1 ∧
        x.pgl.open5 = true ∧ x.pav.traps.getLast?.map (fun q => (q.code, q.entry)) = some (trPoison, e) ∧ (x.entryStat e).stale = true)) ∧
  (∀ (s : State) (ck : Nat), s.fabricUp = true → s.sdl.slotAt = some ck →
    ∀ c ∈ [(Instr.runDispatch, s.start, s.pgl.open5), (Instr.firstDispatch, (s.start.advanceTo (ck + 5000)).lateInputs, !s.pgl.open5)], c.2.2 = true →
      c.2.1.joining = true ∨ c.2.1.pgl.run ≠ none ∨ c.2.1.pgl.due = [] → ∃ x, exec c.1 s = .next x ∧ x.pgl = { c.2.1.pgl with open5 := true } ∧
        x.engP = c.2.1.engP ∧ x.mem = c.2.1.mem) ∧
  (∀ s : State, s.fabricUp = true →
    (s.pgl.open5 = false → exec .runDispatch s = .next (s.done s.start)) ∧
    (s.pgl.open5 = true ∨ s.sdl.slotAt = none → exec .firstDispatch s = .next (s.done s.start))) ∧
  (∀ (s : State) (r : Run), s.fabricUp = true → s.pgl.run = some r →
    (s.budgetSpent r = true → ∃ x, exec .budgetPreempt s = .next x ∧ x.pgl.run = none ∧ x.engP = Engine.reset ∧ (x.entryStat r.entry).stale = true ∧
      (x.entryStat r.entry).ovrCnt = min 0xFFFF ((s.entryStat r.entry).ovrCnt + 1) ∧
      (x.entryStat r.entry).consec = min 255 ((s.entryStat r.entry).consec + 1) ∧ (x.entryStat r.entry).lastUsed = r.charged ∧
      x.flag pPgl Reg.Hdr.FLT_STA 0 = true ∧ x.pgl.log.getLast?.map (fun o => (o.entry, o.kind)) = some (r.entry, ovrOverrun) ∧
      x.pgl.due = s.pgl.due) ∧
    (s.budgetSpent r = false → exec .budgetPreempt s = .next (s.done s.start))) ∧
  (∀ s : State, s.fabricUp = true → s.pgl.run = none → exec .budgetPreempt s = .next (s.done s.start)) ∧
  (∀ (s : State) (port : Port) (v : Word) (e w : Nat), WriteReaches s port pPgl Reg.Pgl.SCH_DATA → e = s.fld pPgl Reg.Pgl.SCH_ADDR 10 0 →
    w = s.fld pPgl Reg.Pgl.SCH_ADDR 17 16 →
    (port = .core → w < 2 → s.pgl.everEnabled = false → ∃ x, exec (.schDataWrite port v) s = .next x ∧
      x.pgl = { s.pgl with sched := smSet (fun _ => 0) s.pgl.sched (e * 4 + w) (v &&& schMask w) }) ∧
    (port = .core → s.pgl.everEnabled = true → w = 0 → bitAt (s.sch e 0) 0 = true → e ∉ s.pgl.clearing → v &&& schMask 0 = putBits (s.sch e 0) 0 0 0 →
      exec (.schDataWrite port v) s = .next (s.done { s.heard with pgl := { s.pgl with clearing := s.pgl.clearing ++ [e] } })) ∧
    (port = .core → s.pgl.everEnabled = true → w = 1 ∨ (w = 0 ∧ v &&& schMask 0 ≠ putBits (s.sch e 0) 0 0 0) → ∃ x,
      exec (.schDataWrite port v) s = .next x ∧ x.pgl = s.pgl ∧ x.gate.log ≠ []) ∧
    (port ≠ .core → w < 2 → ∃ x, exec (.schDataWrite port v) s = .next x ∧ x.pgl = s.pgl ∧ x.gate.log ≠ []) ∧
    (2 ≤ w → ∃ x, exec (.schDataWrite port v) s = .next x ∧ x.pgl = s.pgl)) ∧
  (∀ (s : State) (port : Port), ReadReaches s port pPgl → ∃ x, exec (.ovrLogRead port) s = .next x ∧ x.pgl.log = s.pgl.log.drop 1 ∧
    x.out = [.value (match s.pgl.log.head? with
      | some o => BitVec.ofNat 32 (o.entry + o.kind * 2 ^ 11 + b2n o.lost * 2 ^ 13 + o.slot * 2 ^ 14)
      | none => 0)]) ∧
  (∀ (s : State) (port : Port), ReadReaches s port pPav → ∃ x, exec (.trapLogRead port) s = .next x ∧ x.pav.traps = s.pav.traps.drop 1 ∧
    x.out = [.value (match s.pav.traps.head? with
      | some t => BitVec.ofNat 32 (t.code + b2n t.multi * 2 ^ 8 + b2n t.preempt * 2 ^ 9 + b2n t.lost * 2 ^ 10 + t.entry * 2 ^ 11)
      | none => 0)] ∧
    x.pav.trapLatch = (match s.pav.traps.head? with
      | some t => [BitVec.ofNat 32 (t.bundle + t.mslot * 2 ^ 20), BitVec.ofNat 32 t.slot, t.tval]
      | none => [0, 0, 0])) ∧
  (∀ (s : State) (port : Port), ReadReaches s port pPav → ∃ x, exec (.evqRead port) s = .next x ∧ x.pav.evq = s.pav.evq.drop 1 ∧
    x.out = [.value (match s.pav.evq.head? with
      | some e => BitVec.ofNat 32 (e.event + e.entry * 2 ^ 8 + b2n e.stale * 2 ^ 19 + b2n e.lost * 2 ^ 20 + b2n e.record * 2 ^ 21 + 2 ^ 31)
      | none => 0)] ∧
    x.pav.evqLatch = (match s.pav.evq.head? with
      | some e => [e.value, BitVec.ofNat 32 e.slot, BitVec.ofNat 32 (secOf e.time), BitVec.ofNat 32 (nsOf e.time)]
      | none => [0, 0, 0, 0])) ∧
  (∀ (s : State) (d : Fin 8) (c : Capture) (b : Nat), s.fabricUp = true → s.pav.caps.find? (fun q => q.dfn = d.val) = some c →
    c.left.find? (s.capReady c) = some b →
    ((s.start.background pCcp 2).1 = true → ∃ x, exec (.captureBlockCopy d) s = .next x ∧
      x.pav.caps.map (fun q => (q.dfn, q.left)) = s.pav.caps.map (fun q => if q.dfn = d.val then (q.dfn, c.left.erase b) else (q.dfn, q.left)) ∧
      x.pav.evq = s.pav.evq) ∧
    ((s.start.background pCcp 2).1 = false → ∃ x, exec (.captureBlockCopy d) s = .next x ∧ x.pav = s.pav ∧ x.mem = s.mem ∧
      x.flag pPgl Reg.Hdr.FLT_STA 6 = true)) ∧
  (∀ (s : State) (d : Fin 8), s.fabricUp = true → (s.pav.caps.find? (fun q => q.dfn = d.val)).bind (fun q => q.left.find? (s.capReady q)) = none →
    exec (.captureBlockCopy d) s = .next (s.done s.start)) ∧
  (∀ (s : State) (port : Port) (n : Nat), n = s.fld pPav Reg.Pav.CTX_ADDR 19 0 → ReadReaches s port pPav →
    (s.clean → port ≠ .core ∨ s.ctlHeld = false → ∃ x, exec (.ctxDataAccess port none) s = .next x ∧ x.out = [.value (s.peekWord rgCtx (4 * n))] ∧
      x.fld pPav Reg.Pav.CTX_ADDR 19 0 = (n + 1) % 2 ^ 20 ∧ x.mem = s.mem) ∧
    (port = .core → s.ctlHeld = true → ∃ x, exec (.ctxDataAccess port none) s = .next x ∧ x.out = [] ∧ x.mem = s.mem ∧
      x.pav.ctlWait = s.pav.ctlWait ++ [.ctx] ∧ (s.pgl.stall = s.stallLimit → x.flag pPgl Reg.Hdr.FLT_STA 7 = true))) ∧
  (∀ (s : State) (port : Port) (n : Nat) (v : Word), n = s.fld pPav Reg.Pav.CTX_ADDR 19 0 → WriteReaches s port pPav Reg.Pav.CTX_DATA →
    (s.pavOpen port = true → ∃ x, exec (.ctxDataAccess port (some v)) s = .next x ∧
      x.peekWord rgCtx (4 * n) = v ∧ x.fld pPav Reg.Pav.CTX_ADDR 19 0 = (n + 1) % 2 ^ 20 ∧
      ∀ a : Nat, a < 4 * n ∨ 4 * n + 4 ≤ a → x.peekMem rgCtx a 1 = s.peekMem rgCtx a 1) ∧
    (s.pavOpen port = false → ∃ x, exec (.ctxDataAccess port (some v)) s = .next x ∧ x.mem = s.mem ∧ x.gate.log ≠ []))

/-- The Parterre: walks, tag checks, stale blocks, format and ID stores, exception logs, retransmission, SV frames and hand-over. A
walk takes the oldest frame of its pipeline within budget: with none, without a format slot or with the walker off, nothing more
happens; a rejected walk is counted, told in WALK_ERR and FLT_STA bit 0; a frame over its ingest budget goes to the end of the
pipeline; on a device with no session, an accepted GOOSE record without a tag is taken by its block at once, an SV record is
placed as its stream's newest sample, and one that asks for a tag waits for its check; one whose tag checks is then taken, unless
its pair has seen it, and one whose check fails is counted, logged as TAGF or KEYID, and changes nothing else. At its deadline a
received block becomes STALE and logs it, members kept. FMT_DATA_HI from CORE stores the addressed step and advances STEP before
lock and enable, otherwise it is refused with bit 1; ID_DATA_HI stores the addressed unit and advances UNIT. EXC answers and
removes the oldest entry, and 0 where empty. A retransmission falls due with the next sqNum and arms the next one; an SV frame is
built at its deadline; the oldest built frame is handed over, in IN_STEP 4 us after it was built, which starts the retransmissions
of a new state. With nothing due each does nothing. (R193, R195, R198, R200, R201, R213, R215, R217, R218, R222, R224, R380) -/
def Obligations.StreamCommandsOfTheParterre : Prop :=
  (∀ (s t : State) (second : Bool) (dt : Nat), s.fabricUp = true → t = s.start.tick dt →
    (nextIn (if second then s.prm.pipe1 else s.prm.pipe0) = none → exec (.frameWalk second dt) s = .next (s.done t)) ∧
    (∀ p : ParseIn, nextIn (if second then s.prm.pipe1 else s.prm.pipe0) = some p →
      t.walking = false ∨ (s.clean ∧ t.formatSlot p.octets = none) → exec (.frameWalk second dt) s = .next (s.done (t.unqueued second p)))) ∧
  (∀ (s t u : State) (second : Bool) (dt slot step cause : Nat) (p : ParseIn), s.fabricUp = true → s.clean →
    nextIn (if second then s.prm.pipe1 else s.prm.pipe0) = some p → t = (s.start.tick dt).unqueued second p → t.walking = true →
    t.formatSlot p.octets = some slot → isSealed p.octets = false → u = (t.walk p.octets slot).2.2 →
    (t.walk p.octets slot).1 = .reject step cause → ∃ x, exec (.frameWalk second dt) s = .next x ∧
      x.fld pPtr0 Reg.Ptr0.WALK_CNT 15 0 = min 0xFFFF (u.fld pPtr0 Reg.Ptr0.WALK_CNT 15 0 + 1) ∧
      x.reg pPtr0 Reg.Ptr0.WALK_ERR = BitVec.ofNat 32 (slot + step * 2 ^ 5 + cause * 2 ^ 16) ∧
      x.flag pPtr0 Reg.Hdr.FLT_STA 0 = true ∧ x.ptr = u.ptr) ∧
  (∀ (s t u v : State) (second : Bool) (dt slot kind : Nat) (p : ParseIn) (w : Walk) (g : Gathered), s.fabricUp = true → s.clean →
    nextIn (if second then s.prm.pipe1 else s.prm.pipe0) = some p → t = (s.start.tick dt).unqueued second p → t.walking = true →
    t.formatSlot p.octets = some slot → isSealed p.octets = false → (t.walk p.octets slot).1 = .accept kind → w = (t.walk p.octets slot).2.1 →
    u = (t.walk p.octets slot).2.2 → g = (u.gather p.octets slot kind w).1 → v = (u.gather p.octets slot kind w).2 →
    (2 ≤ kind → exec (.frameWalk second dt) s = .next (s.done u)) ∧
    (kind < 2 → p.late = false → (v.chargeIngest g.1).1 = false → ∃ x, exec (.frameWalk second dt) s = .next x ∧
      (if second then x.prm.pipe1 else x.prm.pipe0) = (if second then u.prm.pipe1 else u.prm.pipe0) ++ [{ p with late := true }] ∧
      x.ptr.goose = u.ptr.goose ∧ x.ptr.sv = u.ptr.sv ∧ x.ptr.tagWait = u.ptr.tagWait)) ∧
  (∀ (s t u v : State) (second : Bool) (dt slot kind c : Nat) (p : ParseIn) (w : Walk) (m : Matched), s.fabricUp = true → s.clean →
    nextIn (if second then s.prm.pipe1 else s.prm.pipe0) = some p → t = (s.start.tick dt).unqueued second p → t.walking = true →
    t.formatSlot p.octets = some slot → isSealed p.octets = false → (t.walk p.octets slot).1 = .accept kind → kind < 2 → w = (t.walk p.octets slot).2.1 →
    u = (t.walk p.octets slot).2.2 → (u.gather p.octets slot kind w).1 = ([c], [m]) → v = (u.gather p.octets slot kind w).2 →
    p.late = true ∨ (v.chargeIngest [c]).1 = true → v.exchanging = false →
    (∀ e ∈ m.goose?, v.wantsTag m = false ∨ p.agreed.isSome = true → v.gooseNewer e.1 e.2 → ∃ x, exec (.frameWalk second dt) s = .next x ∧
      x.block e.1 = v.gooseTaken e.1 e.2 (p.agreed.getD v.sdl.time)) ∧
    (∀ e ∈ m.sv?, v.wantsTag m = false ∨ p.agreed.isSome = true → v.svNewer e.1 e.2 p.ts (sampleIndex p.ts (v.svRate e.1) (v.svRate e.1 / v.svWrap e.1) e.2.smpCnt) →
      ∃ x, exec (.frameWalk second dt) s = .next x ∧
        SvPlaced v x e.1 e.2 (sampleIndex p.ts (v.svRate e.1) (v.svRate e.1 / v.svWrap e.1) e.2.smpCnt)) ∧
    (v.wantsTag m = true → p.agreed = none → ∃ x, exec (.frameWalk second dt) s = .next x ∧ x.ptr.goose = v.ptr.goose ∧ x.ptr.sv = v.ptr.sv ∧
      x.ptr.tagWait.map (fun q => (q.recs, q.frame)) = v.ptr.tagWait.map (fun q => (q.recs, q.frame)) ++ [([m], p.octets)])) ∧
  (∀ (s t : State) (n dt : Nat), s.fabricUp = true → t = s.start.tick dt →
    (s.ptr.tagWait[n]? = none → exec (.tagCheckDone n dt) s = .next (s.done t))) ∧
  (∀ (s t u : State) (n dt : Nat) (w : TagWait) (m : Matched), s.fabricUp = true → s.ptr.tagWait[n]? = some w → w.recs = [m] →
    t = { s.start.tick dt with ptr.tagWait := s.ptr.tagWait.eraseIdx n } → u = (t.tagCheck w m).2 →
    ((t.tagCheck w m).1 = .ok → w.dup = none → u.exchanging = false ∨ w.agreed.isSome = true →
      (∀ e ∈ m.goose?, u.gooseNewer e.1 e.2 → ∃ x, exec (.tagCheckDone n dt) s = .next x ∧
        x.block e.1 = u.gooseTaken e.1 e.2 (w.agreed.getD u.sdl.time) ∧ x.ptr.tagWait = t.ptr.tagWait) ∧
      (∀ e ∈ m.sv?, u.svNewer e.1 e.2 w.ts (sampleIndex w.ts (u.svRate e.1) (u.svRate e.1 / u.svWrap e.1) e.2.smpCnt) →
        ∃ x, exec (.tagCheckDone n dt) s = .next x ∧ x.ptr.tagWait = t.ptr.tagWait ∧
          SvPlaced u x e.1 e.2 (sampleIndex w.ts (u.svRate e.1) (u.svRate e.1 / u.svWrap e.1) e.2.smpCnt))) ∧
    ((t.tagCheck w m).1 = .ok → w.dup.any (fun d => (u.dupEntry d.1 d.2.1 d.2.2).isSome) = true → exec (.tagCheckDone n dt) s = .next (s.done u)) ∧
    ((t.tagCheck w m).1 = .ok → ∀ d ∈ w.dup, (u.dupEntry d.1 d.2.1 d.2.2).isSome = false → u.exchanging = false ∨ w.agreed.isSome = true →
      ∀ e ∈ m.goose?, u.gooseNewer e.1 e.2 → ∃ x, exec (.tagCheckDone n dt) s = .next x ∧
        x.block e.1 = u.gooseTaken e.1 e.2 (w.agreed.getD u.sdl.time) ∧ x.dupTable d.1 = (u.dupEnter d.1 d.2.1 d.2.2 0).dupTable d.1) ∧
    ((t.tagCheck w m).1 ≠ .ok → ∃ x, exec (.tagCheckDone n dt) s = .next x ∧ x.ptr.tagWait = t.ptr.tagWait ∧
      (∀ e ∈ m.goose?, x.block e.1 = { u.block e.1 with tagfCnt := min 0xFFFF ((u.block e.1).tagfCnt + 1) } ∧
        x.ptr.exc2 = logExc u.ptr.exc2 (if (t.tagCheck w m).1 = .keyId then excKeyId else excTagf) e.1 (s.slotCnt % 2048) ∧
        x.flag pPtr2 Reg.Hdr.FLT_STA 0 = true ∧ x.ptr.sv = u.ptr.sv) ∧
      (∀ e ∈ m.sv?, (x.stream e.1).tagfCnt = min 0xFFFF ((u.stream e.1).tagfCnt + 1) ∧ (x.stream e.1).head = (u.stream e.1).head ∧
        x.ptr.exc1 = logExc u.ptr.exc1 (if (t.tagCheck w m).1 = .keyId then excKeyId else excTagf) e.1 (s.slotCnt % 2048) ∧
        x.flag pPtr1 Reg.Hdr.FLT_STA 0 = true ∧ x.ptr.goose = u.ptr.goose))) ∧
  (∀ (s : State) (sub : Fin 8192), s.fabricUp = true →
    ((s.block sub).recvd = true → (s.block sub).live.stale = false → bitAt (s.gooseCfg sub 0) 0 = true → s.ptr.fixWait = false →
      s.ptr.gooseNotes = [] → ∃ x, exec (.gooseStale sub) s = .next x ∧
      x.block sub = { s.block sub with live := { (s.block sub).live with stale := true } } ∧
      x.ptr.exc2 = logExc s.ptr.exc2 excStale sub (s.slotCnt % 2048) ∧ x.flag pPtr2 Reg.Hdr.FLT_STA 3 = true ∧
      x.sdl.time = max s.sdl.time (s.block sub).deadline) ∧
    ((s.block sub).recvd = true → (s.block sub).live.stale = false → bitAt (s.gooseCfg sub 0) 0 = true → s.ptr.fixWait = true →
      (sub.val, true) ∉ s.ptr.gooseNotes → ∃ x, exec (.gooseStale sub) s = .next x ∧ x.ptr.goose = s.ptr.goose ∧
      x.ptr.gooseNotes = s.ptr.gooseNotes ++ [(sub.val, true)] ∧ x.ptr.exc2 = logExc s.ptr.exc2 excStale sub (s.slotCnt % 2048)) ∧
    ((s.block sub).recvd = false ∨ (s.block sub).live.stale = true ∨ bitAt (s.gooseCfg sub 0) 0 = false →
      exec (.gooseStale sub) s = .next (s.done s.start))) ∧
  (∀ (s : State) (port : Port) (v a : Word) (o : Nat), a = s.reg pPtr0 Reg.Ptr0.FMT_ADDR → o = stepOffset (bits a 10 6) (bits a 5 0) →
    WriteReaches s port pPtr0 Reg.Ptr0.FMT_DATA_HI →
    (port = .core → s.fmtOpen = true → ∃ x, exec (.fmtDataHiWrite port v) s = .next x ∧
      x.peekMem rgTable o 8 = wordOctets (s.reg pPtr0 Reg.Ptr0.FMT_DATA_LO) ++ wordOctets v ∧
      x.fld pPtr0 Reg.Ptr0.FMT_ADDR 5 0 = (bits a 5 0 + 1) % 64 ∧ x.fld pPtr0 Reg.Ptr0.FMT_ADDR 10 6 = bits a 10 6 ∧
      ∀ b : Nat, b < o ∨ o + 8 ≤ b → x.peekMem rgTable b 1 = s.peekMem rgTable b 1) ∧
    (port ≠ .core ∨ s.fmtOpen = false → ∃ x, exec (.fmtDataHiWrite port v) s = .next x ∧
      x.mem = s.mem ∧ x.flag pPtr0 Reg.Hdr.FLT_STA 1 = true ∧ x.reg pPtr0 Reg.Ptr0.FMT_ADDR = a)) ∧
  (∀ (s : State) (port : Port) (v : Word) (u : Nat), WriteReaches s port pPtr1 Reg.Ptr1.ID_DATA_HI → u = s.fld pPtr1 Reg.Ptr1.ID_ADDR 16 0 →
    ∃ x, exec (.idDataHiWrite port v) s = .next x ∧ x.fld pPtr1 Reg.Ptr1.ID_ADDR 16 0 = (u + 1) % 2 ^ 17 ∧
      (u < 0x18000 → x.peekMem rgTable (0x700000 + 8 * u) 8 = wordOctets (s.reg pPtr1 Reg.Ptr1.ID_DATA_LO) ++ wordOctets v) ∧
      (∀ b : Nat, b < 0x700000 + 8 * u ∨ 0x700000 + 8 * u + 8 ≤ b → x.peekMem rgTable b 1 = s.peekMem rgTable b 1) ∧
      (0x18000 ≤ u → x.mem = s.mem)) ∧
  (∀ (s : State) (port : Port), (ReadReaches s port pPtr2 → ∃ x, exec (.excRead port true) s = .next x ∧ x.ptr.exc2 = s.ptr.exc2.drop 1 ∧
      x.ptr.exc1 = s.ptr.exc1 ∧ x.out = [.value ((s.ptr.exc2.head?.map ExcEntry.word).getD 0)]) ∧
    (ReadReaches s port pPtr1 → ∃ x, exec (.excRead port false) s = .next x ∧ x.ptr.exc1 = s.ptr.exc1.drop 1 ∧
      x.ptr.exc2 = s.ptr.exc2 ∧ x.out = [.value ((s.ptr.exc1.head?.map ExcEntry.word).getD 0)])) ∧
  (∀ (s : State) (pub : Fin 1024) (p : GoosePub) (d : Nat), s.fabricUp = true → p = s.goosePub pub → p.due = some d →
    s.blv.halted = false → s.pubOn false pub = true → ∃ x, exec (.gooseRetransmit pub) s = .next x ∧
      x.goosePub pub = { p with sqNum := nextNum p.sqNum, count := p.count + 1, due := some (d + s.rtInterval pub (p.count + 1) * 1000) } ∧
      x.ptr.built.map (fun f => (f.sv, f.index, f.stNum, f.sqNum)) =
        s.ptr.built.map (fun f => (f.sv, f.index, f.stNum, f.sqNum)) ++ [(false, pub.val, p.stNum, nextNum p.sqNum)] ∧
      x.sdl.time = max s.sdl.time d) ∧
  (∀ (s : State) (pub : Fin 1024), s.fabricUp = true → (s.goosePub pub).due = none ∨ s.blv.halted = true ∨ s.pubOn false pub = false →
    exec (.gooseRetransmit pub) s = .next (s.done s.start)) ∧
  (∀ (s : State) (pub : Fin 256) (p : SvPub), s.fabricUp = true → s.svPub pub = some p → s.blv.halted = false →
    s.pubOn true pub = true → ∃ x, exec (.svFrameBuild pub) s = .next x ∧
      x.ptr.built.map (fun f => (f.sv, f.index)) = s.ptr.built.map (fun f => (f.sv, f.index)) ++ [(true, pub.val)] ∧
      x.sdl.time = max s.sdl.time (s.svDeadline pub p.next) ∧
      (x.svPub pub).map (fun q => (decide (p.next < q.next), q.smpCnt)) =
        some (true, ((p.next + 1) * s.pubNasdu pub - 1) % max 1 (s.pubRate pub / wrapOf (bits (s.pubCfg true pub 3) 18 17)))) ∧
  (∀ (s : State) (pub : Fin 256), s.fabricUp = true → s.svPub pub = none ∨ s.blv.halted = true ∨ s.pubOn true pub = false →
    exec (.svFrameBuild pub) s = .next (s.done s.start)) ∧
  (∀ (s : State) (dt : Nat), s.fabricUp = true → s.ptr.built = [] → exec (.pubFrameHandover dt) s = .next (s.done (s.start.tick dt))) ∧
  (∀ (s t : State) (dt n : Nat) (f : PubFrame) (fs : List PubFrame), s.fabricUp = true → s.ptr.built = f :: fs →
    t = (if s.cln.st = .inStep then s.start.advanceTo (f.made + 4000) else s.start.tick dt) →
    n = bits (s.pubCfg f.sv f.index 4) 12 8 →
    ∃ x, exec (.pubFrameHandover dt) s = .next x ∧ x.ptr.built = fs ∧ x.sdl.time = t.sdl.time ∧
      (f.sv = false → f.sqNum = 0 → (s.goosePub f.index).stNum = f.stNum → (s.goosePub f.index).due = none →
        x.goosePub f.index = { s.goosePub f.index with due := some (t.sdl.time + s.rtInterval f.index 0 * 1000) }) ∧
      (f.sv = true ∨ f.sqNum ≠ 0 → x.ptr.goosePub = s.ptr.goosePub) ∧
      (s.withheld = true ∨ s.blv.halted = true → x.prm = s.prm) ∧
      (s.withheld = false → s.blv.halted = false → s.clean → bitAt (s.pubCfg f.sv f.index 4) 13 = true →
        x.prm.seqs = (if s.pairOn n = true then (s.takeSeq s.pairMac n).2.prm.seqs else s.prm.seqs))) ∧
  (∀ (s : State) (dt e : Nat) (f : PubFrame) (fs : List PubFrame), s.fabricUp = true → s.ptr.built = f :: fs →
    s.withheld = false → s.blv.halted = false → s.clean → bitAt (s.pubCfg f.sv f.index 4) 13 = false → e = bits (s.pubCfg f.sv f.index 4) 7 0 →
    (s.portUp e = true → (s.copyFor f e).length ≤ s.reserveFree → ∃ x, exec (.pubFrameHandover dt) s = .next x ∧
      x.queue e 8 = s.queue e 8 ++ [⟨s.copyFor f e, .reserve, none, false, false, 0⟩]) ∧
    (s.portUp e = true → s.reserveFree < (s.copyFor f e).length → (s.copyFor f e).length ≤ s.poolFree → ∃ x, exec (.pubFrameHandover dt) s = .next x ∧
      x.queue e 8 = s.queue e 8 ++ [⟨s.copyFor f e, .pool, none, false, false, 0⟩]) ∧
    (s.portUp e = false → ∃ x, exec (.pubFrameHandover dt) s = .next x ∧ x.prm = s.prm))

/-- The Colonnade: enable, attach and its refusals, certificates, losses of a side and of the peer, detach and the take log. With a
valid certificate, addresses in force, the promise in force and the capacity sums within their bounds the enable goes to WAIT,
otherwise it is refused with the first cause; without PAIR_EN, or enabled already, it changes nothing. A heartbeat starts
ATTACH_ID, as donor or joiner; WAIT without one becomes SOLO with every role; ATTACH and the retry do the same at once, a Fountain
that has FAILED refusing with cause 10. Each failing item of an attach is refused with its cause, the joiner back in its state and
the donor SOLO; a good hello is kept and answered once the own one has left, a good proof makes the session keys, equal items make
ATTACH_XFER; a message out of its turn is ignored. Writing CERT_ADDR asks the Arbour, and the end sets ESTATE. A lost side leaves
the roles where the other side stands; a lost peer makes SOLO with every role, or WITHDRAWN with a local cause, and ends an
attach. DETACH and HAND_ROLES wait for the next slot start in IN_STEP; DETACH otherwise is OFF at once. TAKE_LOG answers and
removes its oldest entry. (R367, R368, R369, R370, R371, R382, R383, R384, R388, R390) -/
def Obligations.TwinsAttachAndPart : Prop :=
  (∀ (s : State) (port : Port) (ok : Bool) (c : List Byte) (cause : Nat), WriteReaches s port pCln Reg.Hdr.CTL → s.fencedPage pCln = false →
    s.enabled pCln = false → s.flag pCln Reg.Cln.CLN_CFG 0 = true → s.heard.checkCert.1 = (ok, c) →
    cause = (if (ok && certQid c == s.octetRegs pArb (Reg.Arb.ID_PUB 0) 16 && s.cln.latchMac.isSome) = false then 1
      else if s.flag pPgl Reg.Hdr.STA 9 = false then 2 else if 5 * s.lMin < s.agreeSum then 3 else if 2 * s.lMin < s.dirtyPeak then 4
      else if 20000 < s.transitSum then 5 else 0) →
    (cause = 0 → ∃ x, exec (.clnEnable port) s = .next x ∧ x.cln.st = .wait ∧ x.enabled pCln = true ∧ x.reg pCln Reg.Cln.CLN_ERR = 0 ∧
      x.fld pCln Reg.Hdr.STA 10 8 = 1 ∧ x.cln.detached = false) ∧
    (cause ≠ 0 → ∃ x, exec (.clnEnable port) s = .next x ∧ x.cln = s.cln ∧ x.enabled pCln = false ∧
      x.reg pCln Reg.Cln.CLN_ERR = BitVec.ofNat 32 cause ∧ x.flag pCln Reg.Hdr.FLT_STA 3 = true)) ∧
  (∀ (s : State) (port : Port), WriteReaches s port pCln Reg.Hdr.CTL →
    s.fencedPage pCln = true ∨ s.enabled pCln = true ∨ s.flag pCln Reg.Cln.CLN_CFG 0 = false →
    ∃ x, exec (.clnEnable port) s = .next x ∧ x.cln = s.cln ∧ x.enabled pCln = s.enabled pCln ∧ (s.fencedPage pCln = true → x.gate.log ≠ [])) ∧
  (∀ (s : State) (side : Fin 2) (p : PeerState) (delay : Nat), s.fabricUp = true →
    (s.sideAble side = false → exec (.peerHeartbeatSeen side p delay) s = .next (s.done s.start)) ∧
    (s.sideAble side = true → s.cln.st = .wait ∨ s.cln.st = .solo ∨ s.cln.st = .withdrawn → s.ftn.st ≠ .failed →
      ∃ x, exec (.peerHeartbeatSeen side p delay) s = .next x ∧ x.cln.st = .attachId ∧ x.sideHb side = true ∧
        x.cln.donor = ({ s with cln.peer := p } : State).donates ∧ FtnReq.attach ∈ x.ftn.waiting ∧ x.fld pCln Reg.Cln.SIDE_STA 27 16 = delay % 4096) ∧
    (s.sideAble side = true → s.cln.st = .wait ∨ s.cln.st = .solo ∨ s.cln.st = .withdrawn → s.ftn.st = .failed →
      ∃ x, exec (.peerHeartbeatSeen side p delay) s = .next x ∧ x.sideHb side = true ∧ x.reg pCln Reg.Cln.CLN_ERR = 10 ∧
        x.cln.st = (if ({ s with cln.peer := p } : State).donates then .solo else if s.cln.st = .withdrawn then .withdrawn else .wait)) ∧
    (s.sideAble side = true → s.cln.st = .off ∨ s.cln.st = .attachId ∨ s.cln.st = .attachXfer ∨ s.cln.st = .inStep →
      ∃ x, exec (.peerHeartbeatSeen side p delay) s = .next x ∧ x.sideHb side = true ∧
        x.cln = { s.cln with peer := p } ∧ x.fld pCln Reg.Cln.SIDE_STA 27 16 = delay % 4096)) ∧
  (∀ s : State, s.fabricUp = true →
    (s.cln.st = .wait → s.anyHb = false → ∃ x, exec .waitTimeout s = .next x ∧ x.cln.st = .solo ∧ x.ownRoles = 31 ∧ x.fld pCln Reg.Hdr.STA 10 8 = 5) ∧
    (s.cln.st ≠ .wait ∨ s.anyHb = true → exec .waitTimeout s = .next (s.done s.start))) ∧
  (∀ (s : State) (port : Port), ∀ c ∈ [(Instr.attachRetry, s.fabricUp), (Instr.attach port, decide (WriteReaches s port pCln Reg.Cln.CLN_CMD))],
    c.2 = true →
    (s.cln.st = .wait ∨ s.cln.st = .solo ∨ s.cln.st = .withdrawn → s.anyHb = true → s.ftn.st ≠ .failed → ∃ x, exec c.1 s = .next x ∧
      x.cln.st = .attachId ∧ x.cln.donor = s.donates ∧ FtnReq.attach ∈ x.ftn.waiting) ∧
    (s.cln.st = .attachId → s.anyHb = true → s.ftn.st ≠ .failed → ∃ x, exec c.1 s = .next x ∧
      x.cln.st = .attachId ∧ x.cln.session = false ∧ FtnReq.attach ∈ x.ftn.waiting ∧
      x.cln.attach.map (fun a => (a.peerCert, a.nonce, a.qE, a.sent)) = some ([], [], [], false)) ∧
    (s.cln.st = .attachId → s.anyHb = false → ∃ x, exec c.1 s = .next x ∧ x.cln.st = (if s.cln.donor then .solo else s.attachBack) ∧
      x.cln.attach = none ∧ x.cln.session = false) ∧
    (s.cln.st = .attachXfer ∨ s.cln.st = .inStep ∨ s.cln.st = .off → ∃ x, exec c.1 s = .next x ∧ x.cln = s.cln) ∧
    (s.cln.st ≠ .attachId → s.anyHb = false → ∃ x, exec c.1 s = .next x ∧ x.cln = s.cln)) ∧
  (∀ (s : State) (a : AttachRun) (m : AttachMsg) (k : Nat), s.fabricUp = true → s.cln.st = .attachId → s.cln.attach = some a →
    s.refusalOf a m = some k → ∃ x, exec (.attachMessageReceived m) s = .next x ∧ x.reg pCln Reg.Cln.CLN_ERR = BitVec.ofNat 32 k ∧
      x.flag pCln Reg.Hdr.FLT_STA 3 = true ∧ x.cln.st = (if s.cln.donor then .solo else a.back) ∧ x.cln.session = false ∧ x.cln.keys = [] ∧
      x.cln.attach = none) ∧
  (∀ (s : State) (a : AttachRun) (c q n : List Byte), s.fabricUp = true → s.cln.st = .attachId → s.cln.attach = some a →
    a.peerCert = [] → s.certSigned c = true → onCurve (pointOf q).1 (pointOf q).2 = true → q.length = 64 →
      n.length = 32 → certEstate c = s.fld pCln Reg.Cln.ESTATE 15 0 → certTwin c ≠ b2n s.twinB →
      (a.sent = false → exec (.attachMessageReceived (.hello c q n)) s = .next (s.done { s.start with
        cln := { s.cln with attach := some { a with peerCert := c, peerQE := q, peerNonce := n } } })) ∧
      (a.sent = true → a.attested = false → ∃ x, exec (.attachMessageReceived (.hello c q n)) s = .next x ∧
        x.cln.attach = some { a with peerCert := c, peerQE := q, peerNonce := n, attested := true } ∧
        x.out.map (fun e => match e with | .twinMsg t bs => (t, bs.take 128) | _ => (0, [])) =
          [(msgAttach, s.attestStatement (sha256 (ascii "BNL-CA" ++ n ++ a.qE ++ q)))])) ∧
  (∀ (s : State) (a : AttachRun) (st sig : List Byte), s.fabricUp = true → s.cln.st = .attachId → s.cln.attach = some a →
    a.attested = true → s.cln.session = false → proofOk a st sig = true →
      (st.drop 64).take 32 = s.octetRegs pLdg (Reg.Ldg.CFG_HASH 0) 8 → ∃ x, exec (.attachMessageReceived (.proof st sig)) s = .next x ∧
        x.cln = { s.cln with keys := s.sessionKeys a, session := true } ∧ x.arb.eph = setNth s.arb.eph 0 none ∧ x.out.length = 1) ∧
  (∀ (s : State) (a : AttachRun), s.fabricUp = true → s.cln.st = .attachId → s.cln.attach = some a → s.cln.session = true →
    ∃ x, exec (.attachMessageReceived (.items (s.octetRegs pPtr0 (Reg.Ptr0.FMT_DIGEST 0) 8)
        (s.octetRegs pPav (Reg.Pav.TBL_DIGEST 0) 8) (s.fld pSys Reg.Sys.PRF 9 8) (s.fld pSdl Reg.Sdl.SDL_FMAX 6 0)
        (s.reg pSdl Reg.Sdl.FNOM_CFG).toNat)) s = .next x ∧ x.cln = { s.cln with st := .attachXfer } ∧
      (s.cln.donor = false → x.pgl.run = none ∧ x.pgl.due = []) ∧
      (a.peerCert.length = 224 → x.octetRegs pCln (Reg.Cln.PEER_ID 0) 4 = certDevice a.peerCert)) ∧
  (∀ (s : State) (m : AttachMsg), s.fabricUp = true → s.cln.st ≠ .attachId ∨ s.cln.attach.all (fun a => match m with
      | .hello _ _ _ => !a.peerCert.isEmpty
      | .proof _ _ => !a.attested || s.cln.session
      | .items _ _ _ _ _ => !s.cln.session) = true → exec (.attachMessageReceived m) s = .next (s.done s.start)) ∧
  (∀ (s : State) (port : Port) (v : Word), WriteReaches s port pCln Reg.Cln.CERT_ADDR →
    (s.locked pCln = false → s.arb.cur = none → ∃ x, exec (.certAddrWrite port v) s = .next x ∧ x.reg pCln Reg.Cln.CERT_ADDR = v ∧
      x.arb.cur = some (.req .certCheck)) ∧
    (s.locked pCln = false → s.arb.cur ≠ none → ∃ x, exec (.certAddrWrite port v) s = .next x ∧ x.reg pCln Reg.Cln.CERT_ADDR = v ∧
      x.arb.waiting = s.arb.waiting ++ [.certCheck]) ∧
    (s.locked pCln = true → ∃ x, exec (.certAddrWrite port v) s = .next x ∧ x.reg pCln Reg.Cln.CERT_ADDR = s.reg pCln Reg.Cln.CERT_ADDR ∧ x.arb = s.arb)) ∧
  (∀ s : State, s.fabricUp = true →
    (s.arb.cur = some (.req .certCheck) → s.arb.phase = .timed → ∃ x, exec .certVerifyComplete s = .next x ∧
      x.reg pCln Reg.Cln.ESTATE = (if s.start.checkCert.1.1 then BitVec.ofNat 32 (certEstate s.start.checkCert.1.2 + 65536) else 0) ∧
      x.arb.cur = s.arb.waiting.head?.map ArbOp.req) ∧
    (s.arb.cur ≠ some (.req .certCheck) ∨ s.arb.phase ≠ .timed → exec .certVerifyComplete s = .next (s.done s.start))) ∧
  (∀ (s : State) (side : Fin 2), s.fabricUp = true →
    (s.sideAble side = true → ∃ x, exec (.sideRecovery side) s = .next x ∧ x.sideHb side = true ∧ x.cln = s.cln) ∧
    (s.sideAble side = false → exec (.sideRecovery side) s = .next (s.done s.start))) ∧
  (∀ (s : State) (side : Fin 2), s.fabricUp = true →
    (s.cln.st = .off ∨ (s.sideHb side = false ∧ s.flag pCln Reg.Cln.SIDE_STA side.val = false) → ∃ x, exec (.sideLoss side) s = .next x ∧
      x.sideHb side = false ∧ x.cln = s.cln) ∧
    (s.cln.st ≠ .off → s.sideHb side = true → ∃ x, exec (.sideLoss side) s = .next x ∧ x.sideHb side = false ∧ x.flag pCln Reg.Hdr.FLT_STA 1 = true ∧
      (s.cln.st = .inStep → s.sideHb (1 - side.val) = true → x.cln.st = .inStep ∧ x.ownRoles = s.ownRoles ∧
        x.cln.takes.getLast?.map (·.event) = some (2 + side.val)) ∧
      (s.cln.st = .inStep → s.sideHb (1 - side.val) = false → s.localCause = true → x.cln.st = .withdrawn ∧ x.ownRoles = 0) ∧
      (s.cln.st = .inStep → s.sideHb (1 - side.val) = false → s.localCause = false → x.cln.st = .inStep ∧ x.ownRoles = s.ownRoles) ∧
      (s.cln.st = .attachXfer → x.cln.st = (if s.cln.donor then .solo else .wait) ∧ x.cln.session = false))) ∧
  (∀ (s : State) (us : Nat), s.fabricUp = true → ∃ x, exec (.peerLoss us) s = .next x ∧ x.anyHb = false ∧
    (s.cln.st = .inStep → x.cln.session = false) ∧
    (s.cln.st ≠ .off → s.anyHb = true ∨ s.cln.session = true → x.flag pCln Reg.Hdr.FLT_STA 0 = true) ∧
    (s.cln.st = .inStep → s.localCause = false → x.cln.st = .solo ∧ x.ownRoles = 31 ∧ x.cln.takes.getLast?.map (fun e => (e.event, e.us)) = some (1, us)) ∧
    (s.cln.st = .inStep → s.localCause = true → x.cln.st = .withdrawn ∧ x.ownRoles = 0 ∧ x.flag pCln Reg.Hdr.FLT_STA 2 = true) ∧
    (s.cln.st = .attachId → x.cln.st = (if s.cln.donor then .solo else s.attachBack) ∧ x.cln.session = false) ∧
    (s.cln.st = .attachXfer → x.cln.st = (if s.cln.donor then .solo else .wait) ∧ x.cln.session = false) ∧
    (s.cln.st = .off ∨ s.cln.st = .wait ∨ s.cln.st = .solo ∨ s.cln.st = .withdrawn → x.cln = s.cln)) ∧
  (∀ (s : State) (port : Port), WriteReaches s port pCln Reg.Cln.CLN_CMD →
    (s.cln.st = .inStep → exec (.detach port) s = .next (s.done { s.heard with cln := { s.cln with leaving := true } }) ∧
      exec (.handRoles port) s = .next (s.done { s.heard with cln := { s.cln with handing := true } })) ∧
    (s.cln.st ≠ .inStep → exec (.handRoles port) s = .next (s.done s.heard)) ∧
    (s.cln.st = .off → exec (.detach port) s = .next (s.done s.heard)) ∧
    (s.cln.st ≠ .off → s.cln.st ≠ .inStep → ∃ x, exec (.detach port) s = .next x ∧ x.cln.st = (if s.cln.st = .off then .solo else .off) ∧
      x.cln.detached = true ∧ x.ownRoles = 0 ∧ x.enabled pCln = false ∧ x.cln.session = false)) ∧
  (∀ (s : State) (port : Port), ReadReaches s port pCln → ∃ x, exec (.takeLogRead port) s = .next x ∧ x.cln.takes = s.cln.takes.drop 1 ∧
    x.out = [.value (match s.cln.takes.head? with
      | some e => BitVec.ofNat 32 (e.event + b2n e.lost * 8 + e.us % 4096 * 16 + e.slot * 65536)
      | none => 0)])

/-- The Colonnade in a pair: transfer, digests, forwarded frames, slot records, splits, counters, the time alarm and keys. A joiner
takes context units, words, windows, GOOSE copies, publications, counters, the proxy table, the Sundial and keys, none older than
what it holds, and notes the end of the bulk; a donor, or a twin in no transfer, takes none. A digest record without its frame is
kept; one that matches a frame placed earlier here leaves it as it is, one whose frame came earlier there moves the deadline, and
differing digests are counted with FLT_STA bit 4. A frame unmatched for 2 us is forwarded with its values, once; one that comes
with an equal digest is discarded, another is walked under its values, a numbered one sets the counter, one in transit joins the
queue, one to be numbered is numbered by the LEAD holder and answered. The slot record brings roles and offset; from a leaving
twin it makes SOLO with every role. A differing record is a split that the follower adopts; a differing counter sets bit 5, and
the LEAD holder's is taken. An offset beyond 200 ns sets bit 8. KEYSYNC sends every position; the messages grant, set, erase and
acknowledge; a propagated zeroise clears every slot. Without a session each does nothing. (R372, R374, R375, R378, R379, R384,
R385, R386) -/
def Obligations.TwinsAgree : Prop :=
  (∀ (s : State) (i : XferItem), s.fabricUp = true → i.fits = true →
    (s.cln.st ≠ .attachXfer ∨ s.cln.attach.isSome = true → exec (.stateTransferReceived i) s = .next (s.done s.start)) ∧
    (s.cln.donor = true → i ≠ .complete → exec (.stateTransferReceived i) s = .next (s.done s.start)) ∧
    (s.cln.st = .attachXfer → s.cln.attach = none → i = .complete →
      exec (.stateTransferReceived i) s = .next (s.done { s.start with cln := { s.cln with bulkDone := true } }))) ∧
  (∀ (s : State) (u ver : Nat) (bs : List Byte), s.fabricUp = true → s.joins → u < 65536 → ver < 2 ^ 32 → bs.length = 64 →
    (s.newerUnit u ver = true → s.clean → ∃ x, exec (.stateTransferReceived (.ctx u ver bs)) s = .next x ∧ x.peekMem rgCtx (64 * u) 64 = bs ∧
      ∀ a : Nat, a < 64 * u ∨ 64 * u + 64 ≤ a → x.peekMem rgCtx a 1 = s.peekMem rgCtx a 1) ∧
    (s.newerUnit u ver = false → exec (.stateTransferReceived (.ctx u ver bs)) s = .next (s.done s.start))) ∧
  (∀ (s : State) (w ver age : Nat) (v : Word) (stale never : Bool), s.fabricUp = true → s.joins → w < 65536 → ver < 2 ^ 32 →
    (s.newerUnit (2 ^ 20 + w) ver = true → ∃ x, exec (.stateTransferReceived (.outWord w ver v stale never age)) s = .next x ∧
      x.outWord w = { s.outWord w with value := v, never := never, commit := s.pav.starts - age } ∧
      (∀ e ∈ s.ownerOf w, (x.entryStat e).stale = stale)) ∧
    (s.newerUnit (2 ^ 20 + w) ver = false → exec (.stateTransferReceived (.outWord w ver v stale never age)) s = .next (s.done s.start))) ∧
  (∀ (s : State) (i n f : Nat) (vs : List Word), s.fabricUp = true → s.joins → i < 8192 → vs.length ≤ 8 → f < 65536 → (s.stream i).head = none →
    ∃ x, exec (.stateTransferReceived (.window i n vs f)) s = .next x ∧ (x.stream i).head = some n ∧ (x.stream i).live = true ∧
      x.flagOf i n = f ∧ ∀ q ∈ List.range (s.svQty i), x.peekWord rgSample (s.sampleOfs i q (n % s.winDepth)) = nth vs q 0) ∧
  (∀ (s : State) (i n f h : Nat) (vs : List Word), s.fabricUp = true → s.joins → i < 8192 → vs.length ≤ 8 → f < 65536 → (s.stream i).head = some h →
    (h < n → ∃ x, exec (.stateTransferReceived (.window i n vs f)) s = .next x ∧ (x.stream i).head = some n ∧
      x.flagOf i n = f ∧ ∀ q ∈ List.range (s.svQty i), x.peekWord rgSample (s.sampleOfs i q (n % s.winDepth)) = nth vs q 0) ∧
    (n + s.winDepth ≤ h ∨ (n ≤ h ∧ (match s.cln.heads0.find? (fun e => e.1 = i) with | some e => e.2 | none => 0) < n ∧ (s.flagOf i n).testBit 8 = false) →
      exec (.stateTransferReceived (.window i n vs f)) s = .next (s.done s.start))) ∧
  (∀ (s : State) (i st sq d : Nat) (ms : List Word) (stale cfg : Bool), s.fabricUp = true → s.joins → i < 8192 → st < 2 ^ 32 → sq < 2 ^ 32 →
    ms.length = 16 →
    ((s.block i).recvd = false ∨ (notOlder st (s.block i).stNum = true ∧ (st ≠ (s.block i).stNum ∨ notOlder sq (s.block i).sqNum = true)) →
      ∃ x, exec (.stateTransferReceived (.goose i st sq d ms stale cfg)) s = .next x ∧
      x.block i = { s.block i with recvd := true, stNum := st, sqNum := sq, deadline := d, live := { (s.block i).live with members := ms, stale := stale, cfgErr := cfg } }) ∧
    ((s.block i).recvd = true → notOlder st (s.block i).stNum = false → exec (.stateTransferReceived (.goose i st sq d ms stale cfg)) s = .next (s.done s.start))) ∧
  (∀ (s : State) (i st sq c : Nat) (last : List Word) (due : Option Nat), s.fabricUp = true → s.joins → i < 1024 → st < 2 ^ 32 → sq < 2 ^ 32 →
    ∃ x, exec (.stateTransferReceived (.goosePub i st sq last c due)) s = .next x ∧
      x.goosePub i = { s.goosePub i with stNum := st, sqNum := sq, last := last, count := c, due := due }) ∧
  (∀ (s : State) (i next c : Nat), s.fabricUp = true → s.joins → i < 256 → ∃ x, exec (.stateTransferReceived (.svPub i next c)) s = .next x ∧
      x.svPub i = (s.svPub i).map (fun p => { p with next := next, done := [], smpCnt := c })) ∧
  (∀ (s : State) (mac pair seq vid i : Nat), s.fabricUp = true → s.joins → mac < 2 ^ 48 → pair < 32 → seq < 65536 → vid < 4096 → i < 512 →
    (∃ x, exec (.stateTransferReceived (.seqCtr mac pair seq)) s = .next x ∧
      (x.prm.seqs.find? (fun c => c.mac = mac ∧ c.pair = pair)).map (·.seq) = some seq) ∧
    (∃ x, exec (.stateTransferReceived (.proxyEntry i mac vid pair seq)) s = .next x ∧
      x.prm.proxy = s.prm.proxy.filter (fun e => e.1 ≠ i) ++ [(i, ProxyEntry.mk mac vid pair seq)])) ∧
  (∀ (s : State) (c a f : Nat) (r : List Word), s.fabricUp = true → s.joins → c < 2 ^ 32 → a < 2 ^ 64 → f < 2 ^ 32 → r.length = 8 →
    ∃ x, exec (.stateTransferReceived (.sundial c a f r)) s = .next x ∧ x.slotCnt = c ∧ x.sdl.freq = f ∧
      x.sdl.ang = (a + angleAdv f (s.sdl.time - ((nth r 1 0).toNat * 1000000000 + (nth r 2 0).toNat)) / 1000000000) % 2 ^ 64) ∧
  (∀ (s : State) (slot : Nat) (nxt : Bool) (w p : List Byte) (k : KeyPos) (swap : Option Nat), s.fabricUp = true → s.joins → slot < 8192 →
    kwpUnwrap s.stateKey w = some p → blobPos s p nxt slot = some k → ∃ x, exec (.stateTransferReceived (.key slot nxt w swap)) s = .next x ∧
      (if nxt then (x.slot slot).nxt else (x.slot slot).cur) = some k ∧ (swap.isSome = true → (x.slot slot).swapAt = swap)) ∧
  (∀ (s : State) (d : PeerDigest) (p : DigestRec), s.fabricUp = true → d.fits = true →
    p = { goose := d.goose, sub := d.sub, key := d.key, rx := d.rx, placed := d.placed, digest := d.digest, frame := [], count := 0, matched := false, forwarded := false } →
    (s.exchanging = false → exec (.digestRecordReceived d) s = .next (s.done s.start)) ∧
    (s.exchanging = true → s.cln.records.find? (fun r => r.same p && !r.matched && decide (s.sdl.time ≤ r.placed + 20000)) = none →
      ∃ x, exec (.digestRecordReceived d) s = .next x ∧ x.cln.peerRecs.getLast? = some p ∧ x.cln.records = s.cln.records ∧ x.ptr = s.ptr)) ∧
  (∀ (s : State) (d : PeerDigest) (p own : DigestRec), s.fabricUp = true → s.exchanging = true → d.fits = true →
    p = { goose := d.goose, sub := d.sub, key := d.key, rx := d.rx, placed := d.placed, digest := d.digest, frame := [], count := 0, matched := false, forwarded := false } →
    s.cln.records.find? (fun r => r.same p && !r.matched && decide (s.sdl.time ≤ r.placed + 20000)) = some own →
    (own.placed < d.placed ∨ (own.placed = d.placed ∧ s.twinB = false) → ∃ x, exec (.digestRecordReceived d) s = .next x ∧ x.ptr = s.ptr ∧
      (∀ q ∈ x.cln.records, q.same own = true → q.matched = true ∧ q.rx = own.rx ∧ q.placed = own.placed) ∧
      (d.digest ≠ own.digest → x.flag pCln Reg.Hdr.FLT_STA 4 = true ∧
        x.fld pCln Reg.Cln.CNT_MIS 15 0 = min 0xFFFF (s.fld pCln Reg.Cln.CNT_MIS 15 0 + 1) ∧
        Emission.twinMsg msgForward (own.octets.drop 16 ++ own.frame) ∈ x.out)) ∧
    (d.placed < own.placed ∨ (own.placed = d.placed ∧ s.twinB = true ∧ d.rx ≠ own.rx) → ∃ x, exec (.digestRecordReceived d) s = .next x ∧
      (∀ q ∈ x.cln.records, q.same own = true → q.matched = true ∧ q.rx = d.rx ∧ q.placed = d.placed) ∧
      (own.goose = true → s.ptr.gooseLate = [] → (s.block own.sub).recvd = true →
        (s.block own.sub).stNum % 65536 * 65536 + (s.block own.sub).sqNum % 65536 = own.key →
        x.block own.sub = { s.block own.sub with deadline := (s.block own.sub).deadline + d.placed - own.placed }))) ∧
  (∀ (s : State) (r : DigestRec), s.fabricUp = true → s.exchanging = true →
    s.cln.records.find? (fun r => !r.matched && !r.forwarded && !r.frame.isEmpty) = some r → ∃ x, exec .forwardTimeout s = .next x ∧
      x.out = [.twinMsg msgForward (r.octets.drop 16 ++ r.frame)] ∧ (∀ q ∈ x.cln.records, q.same r = true → q.forwarded = true) ∧
      x.fld pCln Reg.Cln.CNT_FWD 15 0 = min 0xFFFF (s.fld pCln Reg.Cln.CNT_FWD 15 0 + 1) ∧ x.sdl.time = max s.sdl.time (r.placed + 2000)) ∧
  (∀ s : State, s.fabricUp = true → s.exchanging = false ∨
      s.cln.records.find? (fun r => !r.matched && !r.forwarded && !r.frame.isEmpty) = none → exec .forwardTimeout s = .next (s.done s.start)) ∧
  (∀ (s : State) (fr : FwdFrame), s.fabricUp = true → s.cln.session = false → fr.fits = true →
    exec (.forwardedFrameReceived fr) s = .next (s.done s.start)) ∧
  (∀ (s : State) (n seq vid : Nat) (f : List Byte), s.fabricUp = true → s.cln.session = true → n < 32 → seq < 65536 → vid < 4096 →
    (srcMac f = s.pairMac → ∃ x, exec (.forwardedFrameReceived (.numbered n seq f)) s = .next x ∧
      (x.prm.seqs.find? (fun c => c.mac = s.pairMac ∧ c.pair = n)).map (·.seq) = some ((seq + 1) % 65536)) ∧
    (srcMac f ≠ s.pairMac → ∃ x, exec (.forwardedFrameReceived (.numbered n seq f)) s = .next x ∧ x.prm.seqs = s.prm.seqs ∧
      x.prm.proxy = s.prm.proxy.map (fun e => if e.2.mac = srcMac f ∧ e.2.pair = n then (e.1, { e.2 with seq := (seq + 1) % 65536 }) else e)) ∧
    ((s.pairPorts n).all (fun e => !s.portUp e) = true → ∃ x, exec (.forwardedFrameReceived (.transit n f)) s = .next x ∧ x.prm = s.prm) ∧
    (s.hasRole 1 = false → exec (.forwardedFrameReceived (.toNumber n vid f)) s = .next (s.done s.start)) ∧
    (s.hasRole 1 = true → (s.proxySeq (srcMac f) vid n).1 = none → exec (.forwardedFrameReceived (.toNumber n vid f)) s = .next (s.done (s.start.proxySeq (srcMac f) vid n).2)) ∧
    (s.hasRole 1 = true → ∀ q ∈ (s.proxySeq (srcMac f) vid n).1, ∃ x, exec (.forwardedFrameReceived (.toNumber n vid f)) s = .next x ∧
      x.prm.proxy = (s.proxySeq (srcMac f) vid n).2.prm.proxy ∧
      x.out = [.twinMsg msgForward (natOctetsBE 1 n ++ natOctetsBE 2 q ++ f)])) ∧
  (∀ (s : State) (n p : Nat) (f : List Byte), s.fabricUp = true → s.cln.session = true → n < 32 → s.pairPorts n = [p] →
    (s.portUp p = true → f.length ≤ s.poolFree → ∃ x, exec (.forwardedFrameReceived (.transit n f)) s = .next x ∧
      x.queue p 0 = s.queue p 0 ++ [⟨f, .pool, none, false, false, 0⟩]) ∧
    (s.portUp p = false → ∃ x, exec (.forwardedFrameReceived (.transit n f)) s = .next x ∧ x.prm = s.prm)) ∧
  (∀ (s : State) (own : DigestRec) (g : Bool) (sub key rx placed : Nat) (f : List Byte), s.fabricUp = true → s.cln.session = true → sub < 8192 →
    key < 2 ^ 32 → s.exchanging = true →
    s.cln.records.find? (fun r => r.goose == g && r.sub == sub && r.key == key && decide (s.sdl.time ≤ r.placed + 20000)) = some own →
    own.digest = s.digestOf f ∨ own.frame = [] → exec (.forwardedFrameReceived (.agreed g sub key rx placed f)) s = .next (s.done s.start)) ∧
  (∀ (s : State) (g : Bool) (sub key rx placed : Nat) (f : List Byte), s.fabricUp = true → s.cln.session = true → sub < 8192 → key < 2 ^ 32 →
    (s.exchanging = false → exec (.forwardedFrameReceived (.agreed g sub key rx placed f)) s = .next (s.done s.start)) ∧
    (s.exchanging = true →
      s.cln.records.find? (fun r => r.goose == g && r.sub == sub && r.key == key && decide (s.sdl.time ≤ r.placed + 20000)) = none →
      ∃ x, exec (.forwardedFrameReceived (.agreed g sub key rx placed f)) s = .next x ∧
        x.fld pCln Reg.Cln.CNT_FWD 31 16 = min 0xFFFF (s.fld pCln Reg.Cln.CNT_FWD 31 16 + 1) ∧
        x.cln.records = s.cln.records ++ [⟨g, sub, key, rx, placed, s.digestOf f, [], 0, true, true⟩])) ∧
  (∀ (s : State) (w : List Word) (roles handed : Fin 32) (leaving : Bool) (ofs : Int), s.fabricUp = true → w.length = 8 →
    (s.exchanging = false → exec (.slotRecordReceived w roles handed leaving ofs) s = .next (s.done s.start)) ∧
    (s.exchanging = true → leaving = false ∨ s.cln.st ≠ .inStep → ∃ x, exec (.slotRecordReceived w roles handed leaving ofs) s = .next x ∧
      x.cln.peerRec = some w ∧ x.ownRoles = s.ownRoles ||| handed.val ∧
      x.fld pCln Reg.Cln.ROLE_STA 12 8 = roles.val ∧ x.reg pCln Reg.Cln.TIME_OFS = BitVec.ofNat 32 (offset16 ofs)) ∧
    (s.exchanging = true → leaving = true → s.cln.st = .inStep → ∃ x, exec (.slotRecordReceived w roles handed leaving ofs) s = .next x ∧
      x.cln.st = .solo ∧ x.ownRoles = 31 ∧ x.cln.session = false ∧ x.cln.takes.getLast?.map (·.event) = some 6)) ∧
  (∀ (s : State) (r : List Word) (ck : Nat), s.fabricUp = true → s.cln.st = .inStep → s.cln.peerRec = some r → s.sdl.slotAt = some ck →
    (r = s.pav.slotRec → exec .slotRecordSplit s = .next (s.done s.start)) ∧
    (r ≠ s.pav.slotRec → ∃ x, exec .slotRecordSplit s = .next x ∧ x.flag pCln Reg.Hdr.FLT_STA 6 = true ∧
      x.cln.takes.getLast?.map (·.event) = some 7 ∧ x.sdl.time = max s.sdl.time (ck + 2000) ∧
      (s.hasRole 0 = true → x.pav.slotRec = s.pav.slotRec ∧ x.cln.adopt = s.cln.adopt) ∧
      (s.hasRole 0 = false → x.pav.slotRec = r ∧ x.cln.adopt.map (·.1) = some (nth r 0 0).toNat))) ∧
  (∀ s : State, s.fabricUp = true → s.cln.st ≠ .inStep ∨ s.cln.peerRec = none ∨ s.sdl.slotAt = none →
    exec .slotRecordSplit s = .next (s.done s.start)) ∧
  (∀ (s : State) (cs bad : List (Nat × Nat × Nat)), s.fabricUp = true → cs.all (fun c => decide (c.2.1 < 32) && decide (c.2.2 < 65536)) = true →
    bad = cs.filter (fun c => decide (((s.cln.seqSnap.find? (fun q => q.1 = c.1 ∧ q.2.1 = c.2.1)).map (·.2.2)).getD 0 ≠ c.2.2)) →
    (s.cln.st ≠ .inStep ∨ bad = [] → exec (.sequenceCheckReceived cs) s = .next (s.done s.start)) ∧
    (s.cln.st = .inStep → bad ≠ [] → ∃ x, exec (.sequenceCheckReceived cs) s = .next x ∧ x.flag pCln Reg.Hdr.FLT_STA 5 = true ∧
      (s.hasRole 1 = true → x.cln.takeSeq = s.cln.takeSeq) ∧
      (s.hasRole 1 = false → x.cln.takeSeq.map (fun c => (c.1, c.2.1)) = bad.map (fun c => (c.1, c.2.1))))) ∧
  (∀ (s : State) (mac n seq own : Nat), s.fabricUp = true → s.cln.st = .inStep → n < 32 → seq < 65536 → s.cln.seqSnap = [(mac, n, own)] →
    own ≠ seq → s.hasRole 1 = false → ∃ x, exec (.sequenceCheckReceived [(mac, n, seq)]) s = .next x ∧
      x.cln.takeSeq = [(mac, n, (seq + 65536 - own % 65536) % 65536)]) ∧
  (∀ (s : State) (ofs : Int), s.fabricUp = true →
    (s.cln.st = .inStep → 200 < ofs.natAbs → ∃ x, exec (.timeOffsetAlarm ofs) s = .next x ∧ x.flag pCln Reg.Hdr.FLT_STA 8 = true ∧
      x.reg pCln Reg.Cln.TIME_OFS = BitVec.ofNat 32 (offset16 ofs)) ∧
    (s.cln.st ≠ .inStep ∨ ofs.natAbs ≤ 200 → exec (.timeOffsetAlarm ofs) s = .next (s.done s.start))) ∧
  (∀ (s : State) (port : Port) (n : Nat) (k : KeyPos), WriteReaches s port pCln Reg.Cln.CLN_CMD → s.pairKeys = true → s.hasRole 3 = true →
    s.usedSlots = [n] → (s.slot n).cur = some k →
    ∃ x, exec (.keysync port) s = .next x ∧ x.org = s.org ∧ x.mem = s.mem ∧
      x.out = .twinMsg msgKey (2 :: natOctets 2 n ++ [0] ++ kwpWrap s.stateKey (keyPlain n k)) ::
        (((s.slot n).nxt.toList.map (fun q => Emission.twinMsg msgKey (2 :: natOctets 2 n ++ [1] ++ kwpWrap s.stateKey (keyPlain n q)))) ++
        ((s.slot n).swapAt.toList.map (fun q => Emission.twinMsg msgKey (3 :: natOctets 2 n ++ natOctets 6 q))))) ∧
  (∀ (s : State) (port : Port), WriteReaches s port pCln Reg.Cln.CLN_CMD → s.pairKeys = false ∨ s.hasRole 3 = false ∨ s.usedSlots = [] →
    exec (.keysync port) s = .next (s.done s.heard)) ∧
  (∀ (s : State) (m : KeyMsg), s.fabricUp = true → m.fits = true → s.pairKeys = false → exec (.keyReplicationReceived m) s = .next (s.done s.start)) ∧
  (∀ (s : State) (slot t op : Nat) (nxt both : Bool), s.fabricUp = true → slot < 8192 → op < 8 → s.pairKeys = true →
    (s.hasRole 3 = true → ∃ x, exec (.keyReplicationReceived (.request op slot nxt both t)) s = .next x ∧ x.org = s.org ∧
      x.out = [.twinMsg msgKey [1]]) ∧
    (s.hasRole 3 = false → exec (.keyReplicationReceived (.request op slot nxt both t)) s = .next (s.done s.start)) ∧
    (∃ x, exec (.keyReplicationReceived (.swapAt slot t)) s = .next x ∧ (x.slot slot).swapAt = some t ∧ x.out = [.twinMsg msgKey [5]]) ∧
    (∃ x, exec (.keyReplicationReceived (.erase slot nxt both)) s = .next x ∧
      (x.slot slot).cur = (if both || !nxt then none else (s.slot slot).cur) ∧
      (x.slot slot).nxt = (if both || nxt then none else (s.slot slot).nxt) ∧ x.out = [.twinMsg msgKey [5]])) ∧
  (∀ (s : State) (slot : Nat) (nxt : Bool) (w p : List Byte) (k : KeyPos), s.fabricUp = true → slot < 8192 → s.pairKeys = true →
    kwpUnwrap s.stateKey w = some p → blobPos s.start p nxt slot = some k → ∃ x, exec (.keyReplicationReceived (.position slot nxt w)) s = .next x ∧
      (if nxt then (x.slot slot).nxt else (x.slot slot).cur) = some k ∧ x.out = [.twinMsg msgKey [5]]) ∧
  (∀ (s : State) (op : Nat), s.fabricUp = true → s.pairKeys = true → s.cln.keyWait = some op → s.org.keyCmd = none →
    ∃ x, exec (.keyReplicationReceived .ack) s = .next x ∧ x.cln.keyWait = none ∧
      x.reg pOrg Reg.Org.KEY_RES = BitVec.ofNat 32 keyOk ∧ x.flag pOrg Reg.Org.KEY_CMD 31 = false) ∧
  (∀ (s : State) (op : Nat) (k : KeyCmd), s.fabricUp = true → s.pairKeys = true → s.cln.keyWait = some op → s.org.keyCmd = some k →
    (exec (.keyReplicationReceived .ack) s = .next (s.done s.start)) ∧
    (k.op = 3 → (k.slot < 8192) → ∃ x, exec (.keyReplicationReceived .grant) s = .next x ∧ x.org.keyCmd = none ∧ x.cln.keyWait = some 3 ∧
      (x.slot k.slot).cur = (if k.both || decide (k.pos ≠ 1) then none else (s.slot k.slot).cur))) ∧
  (∀ s : State, s.fabricUp = true → s.pairKeys = true → s.cln.keyWait = none →
    exec (.keyReplicationReceived .ack) s = .next (s.done s.start) ∧ exec (.keyReplicationReceived .grant) s = .next (s.done s.start)) ∧
  (∀ s : State, s.fabricUp = true → (s.cln.session = true → ∃ x, exec .zeroisePropagationReceived s = .next x ∧ x.org.slots = [] ∧
      x.well.zeroised = true) ∧
    (s.cln.session = false → exec .zeroisePropagationReceived s = .next (s.done s.start)))

/-- The Promenade: frames in and out of a port, lane and PHY status, and the time-aware gates. A frame that arrives on a port that
carries no traffic is gone; one too short, too long or, cut-through off, with a bad FCS is dropped and counted, and reaches
neither pipeline nor queue. A good one without MACsec, pair or interlink goes to its parse pipeline without FCS, and to the queue
of the one port the VLAN and database name, tagged as the VLAN says. A port sends the first frame of its publication queue, or of
the queue the gates allow, filled up, protected and with its FCS. A lane shows what it sees, counts FEC codewords, and its port
follows; in-band status sets speed and link, QSGMII always 1 Gbit/s. CONFIG_CHANGE makes the change pending or is refused with
FLT_STA bit 4; the first cycle start at or after the base, or with BASE_SEL the first slot start, takes the admin list, later
cycles follow by the cycle time or the slot; an expiry brings in the next entry or holds the last. GCL_DATA reads and writes the
addressed entry and advances ENTRY. (R145, R146, R147, R148, R149, R151, R153, R154, R155, R176, R177, R189) -/
def Obligations.FramesLanesAndGates : Prop :=
  (∀ (s : State) (e : Fin 256) (f : List Byte) (lead : Nat), s.fabricUp = true →
    (s.portUp e = false → exec (.frameReceived e f lead) s = .next (s.done s.start)) ∧
    (s.portUp e = true → s.follyRun e = none →
      f.length < 64 ∨ s.fld pPrm Reg.Prm.FAB_CFG 13 0 < f.length ∨ (fcsGood f = false ∧ s.flag pPrm Reg.Prm.FAB_CFG 14 = false) →
      ∃ x, exec (.frameReceived e f lead) s = .next x ∧
        x.prm = s.prm ∧ x.fld (portPage e) (Reg.Prc.PORT_STA (e.val % 16)) 31 16 =
          min 0xFFFF (s.fld (portPage e) (Reg.Prc.PORT_STA (e.val % 16)) 31 16 + 1))) ∧
  (∀ (s : State) (e : Fin 256) (f b : List Byte) (lead : Nat), s.fabricUp = true → b = f.take (f.length - 4) →
    s.portUp e = true → s.follyRun e = none → 64 ≤ f.length → f.length ≤ s.fld pPrm Reg.Prm.FAB_CFG 13 0 → fcsGood f = true →
    s.portCfg e 2 2 = 0 → s.pairOf e = none → s.ilkOf e = none → beNat ((b.drop 12).take 2) ≠ 0x888E →
    ∃ x, exec (.frameReceived e f lead) s = .next x ∧
      x.prm.pipe0 = s.prm.pipe0 ++ (if e.val / 16 < 8 then [⟨e.val, b, s.rxStamp e lead, none, none, false⟩] else []) ∧
      x.prm.pipe1 = s.prm.pipe1 ++ (if e.val / 16 < 8 then [] else [⟨e.val, b, s.rxStamp e lead, none, none, false⟩])) ∧
  (∀ (s : State) (e : Fin 256) (f b : List Byte) (lead : Nat) (vid pri p : Nat) (g : List Byte), s.fabricUp = true → b = f.take (f.length - 4) →
    s.portUp e = true → s.follyRun e = none → 64 ≤ f.length → f.length ≤ s.fld pPrm Reg.Prm.FAB_CFG 13 0 → fcsGood f = true →
    s.portCfg e 2 2 = 0 → s.pairOf e = none → s.ilkOf e = none → beNat ((b.drop 12).take 2) ≠ 0x888E →
    s.classify e b = some (vid, pri, g) → s.enabled pPrm = true → s.transparent = false → linkLocal (dstMac g) = false →
    dstMac g ≠ s.mgmtMac → dstMac g ≠ s.pairMac → s.pairsOn = [] → (s.learn (srcMac g) vid e).egressOf (dstMac g) vid = [p] → p ≠ e.val →
    s.portUp p = true → s.ilkOf p = none → (s.formOn vid pri p g).length ≤ s.poolFree →
    ∃ x, exec (.frameReceived e f lead) s = .next x ∧
      x.queue p (pri / 2) = s.queue p (pri / 2) ++ [⟨s.formOn vid pri p g, .pool, none, false, false, s.rxStamp e lead⟩]) ∧
  (∀ (s : State) (e : Fin 256) (f b : List Byte) (lead : Nat), s.fabricUp = true → b = f.take (f.length - 4) →
    s.portUp e = true → s.follyRun e = none → 64 ≤ f.length → f.length ≤ s.fld pPrm Reg.Prm.FAB_CFG 13 0 → fcsGood f = true →
    (s.msVerify e b).1 = none → ∃ x, exec (.frameReceived e f lead) s = .next x ∧ x.prm.pipe0 = s.prm.pipe0 ∧ x.prm.pipe1 = s.prm.pipe1 ∧
      x.prm.queues = s.prm.queues) ∧
  (∀ (s : State) (e : Fin 256), s.fabricUp = true → s.portUp e = false ∨ s.nextQueue e = none →
    exec (.frameTransmit e) s = .next (s.done s.start)) ∧
  (∀ (s : State) (e : Fin 256) (c : Nat) (q : QFrame) (rest : List QFrame), s.fabricUp = true → s.portUp e = true →
    s.queue e c = q :: rest → c = 8 ∨ s.nextQueue e = some c → s.transparent = false → s.follyRun e = none →
    (s.portCfg e 2 2 = 0 → q.badFcs = false → ∃ x, exec (.frameTransmit e) s = .next x ∧
      x.out = [.frame e.val (withFcs (pad60 q.octets))] ∧ x.queue e c = rest ∧
      x.prm.txStamp = (if q.stamp then some (e.val, s.adjusted e 31 16) else s.prm.txStamp)) ∧
    (∀ g ∈ ((s.start.setQueue e c rest).msProtect e (pad60 q.octets)).1, q.badFcs = false → ∃ x, exec (.frameTransmit e) s = .next x ∧
      x.queue e c = rest ∧ x.out.getLast? = some (.frame e.val (withFcs g))) ∧
    (((s.start.setQueue e c rest).msProtect e (pad60 q.octets)).1 = none → ∃ x, exec (.frameTransmit e) s = .next x ∧ x.queue e c = rest ∧
      x.prm.txStamp = s.prm.txStamp)) ∧
  (∀ (s : State) (l : Fin 64) (sig cdr blk link fec : Bool) (corr uncorr : Nat), s.fabricUp = true → ∃ x,
    exec (.laneSignalChange l sig cdr blk link fec corr uncorr) s = .next x ∧
    x.fld (pLne l) Reg.Lne.LN_ERR 15 0 = min 0xFFFF (s.fld (pLne l) Reg.Lne.LN_ERR 15 0 + corr) ∧
    x.fld (pLne l) Reg.Lne.LN_ERR 31 16 = min 0xFFFF (s.fld (pLne l) Reg.Lne.LN_ERR 31 16 + uncorr) ∧
    (uncorr ≠ 0 → x.flag (pLne l) Reg.Hdr.FLT_STA 3 = true)) ∧
  (∀ (s : State) (l : Fin 64) (sig cdr blk link fec : Bool) (corr uncorr : Nat), s.fabricUp = true →
    (s.laneMode l = 0 ∨ s.enabled (pPrc (l.val / 4)) = false ∨ s.laneClocked l = false →
      ∃ x, exec (.laneSignalChange l sig cdr blk link fec corr uncorr) s = .next x ∧ x.fld (pLne l) Reg.Hdr.STA 12 8 = 0) ∧
    (s.laneMode l ≠ 0 → s.enabled (pPrc (l.val / 4)) = true → s.laneClocked l = true →
      ∃ x, exec (.laneSignalChange l sig cdr blk link fec corr uncorr) s = .next x ∧
      x.flag (pLne l) Reg.Hdr.STA 8 = sig ∧ x.flag (pLne l) Reg.Hdr.STA 9 = cdr ∧ x.flag (pLne l) Reg.Hdr.STA 10 = blk ∧
      x.flag (pLne l) Reg.Hdr.STA 11 = link ∧ (s.laneMode l = 4 → s.fencedItem 4 (4 * l.val) = false → x.portLink (4 * l.val) = link) ∧
      (s.flag (pLne l) Reg.Hdr.STA 8 = true → sig = false → x.flag (pLne l) Reg.Hdr.FLT_STA 0 = true) ∧
      (s.laneLinked l = true → link = false → x.flag (pLne l) Reg.Hdr.FLT_STA 1 = true))) ∧
  (∀ (s : State) (e : Fin 256) (link : Bool) (speed : Fin 8), s.fabricUp = true →
    ((s.laneMode (e.val / 4) ≠ 2 ∧ s.laneMode (e.val / 4) ≠ 3) ∨ s.portExists e = false ∨ s.enabled (portPage e) = false →
      exec (.phyStatusChange e link speed) s = .next (s.done s.start)) ∧
    (s.laneMode (e.val / 4) = 2 ∨ s.laneMode (e.val / 4) = 3 → s.portExists e = true → s.enabled (portPage e) = true → s.fencedItem 4 e = false →
      ∃ x, exec (.phyStatusChange e link speed) s = .next x ∧ x.portLink e = (link && s.laneLinked (e.val / 4)) ∧
        (x.portLink e = true → bits (x.portReg e 4) 3 1 = (if s.laneMode (e.val / 4) = 3 then 3 else speed.val)))) ∧
  (∀ (s u : State) (port : Port) (e : Fin 256) (v : Word), WriteReaches s port (portPage e) (Reg.Prc.GCL_CTL (e.val % 16)) →
    u = s.heard.setPortReg e 0x10 ((s.gclCtl e &&& 0xFFFF0000) ||| (v &&& (if s.gateUnitOk e (bits v 7 2) then 0xFFFF else 0xFFFE))) →
    (u.gclRefused e = false → ∃ x, exec (.gclConfigChange port e v) s = .next x ∧
      x.prm.gcl = s.prm.gcl ∧ x.gclCtl e = u.gclCtl e ||| 0x40000000) ∧
    (u.gclRefused e = true → ∃ x, exec (.gclConfigChange port e v) s = .next x ∧
      x.prm.gcl = s.prm.gcl ∧ x.gclCtl e = u.gclCtl e ∧ x.flag pPrm Reg.Hdr.FLT_STA 4 = true) ∧
    (s.groupElsewhere pPrm (bits v 7 2 / 4) = true → ∃ x, exec (.gclConfigChange port e v) s = .next x ∧
      x.gate.log.getLast?.map (·.kind) = some logClaim)) ∧
  (∀ (s : State) (e : Fin 256), s.fabricUp = true → s.gateEn e = false ∨ (s.gclPending e = false ∧ s.operStart e = none) →
    exec (.gateCycleStart e) s = .next (s.done s.start)) ∧
  (∀ (s : State) (e : Fin 256) (t : Nat), s.fabricUp = true → s.gateEn e = true → s.gclPending e = true → bitAt (s.gclCtl e) 1 = false →
    t = cycleFrom (s.adminBase e) (s.adminCycle e) s.sdl.time → (s.operStart e).any (fun c => decide (c < t)) = false →
    (1 ≤ s.adminLen e → s.adminLen e ≤ 128 → ∃ x, exec (.gateCycleStart e) s = .next x ∧
      x.gateRun e = some ⟨(s.gcl e 0 0).gates, 0, (s.gcl e 0 0).interval, false, s.adminCycle e, s.adminBase e, t, false, true⟩ ∧
      x.gclPending e = false ∧ x.operLen e = s.adminLen e ∧ (∀ i : Nat, i < s.adminLen e → x.gcl e 1 i = s.gcl e 0 i) ∧
      x.sdl.time = max s.sdl.time t) ∧
    (s.adminLen e = 0 ∨ 128 < s.adminLen e → ∃ x, exec (.gateCycleStart e) s = .next x ∧ x.gclPending e = false ∧
      x.operLen e = s.operLen e ∧ x.prm.gcl = s.prm.gcl ∧ x.flag pPrm Reg.Hdr.FLT_STA 4 = true)) ∧
  (∀ (s : State) (e : Fin 256) (c : Nat), s.fabricUp = true → s.gateEn e = true → s.gclPending e = true → bitAt (s.gclCtl e) 1 = true →
    s.sdl.slotAt = some c →
    (s.adminBase e ≤ c → 1 ≤ s.adminLen e → s.adminLen e ≤ 128 → ∃ x, exec (.gateCycleStart e) s = .next x ∧
      x.gateRun e = some ⟨(s.gcl e 0 0).gates, 0, (s.gcl e 0 0).interval, false, 0, s.adminBase e, c, true, true⟩ ∧
      x.gclPending e = false ∧ x.operLen e = s.adminLen e ∧ (∀ i : Nat, i < s.adminLen e → x.gcl e 1 i = s.gcl e 0 i)) ∧
    (c < s.adminBase e → s.gateRun e = none → exec (.gateCycleStart e) s = .next (s.done s.start))) ∧
  (∀ (s : State) (e : Fin 256) (g : GateRun) (t : Nat), s.fabricUp = true → s.gateEn e = true → s.gateRun e = some g → s.operStart e = some t →
    s.gclPending e = false ∨ (bitAt (s.gclCtl e) 1 = false ∧ t < cycleFrom (s.adminBase e) (s.adminCycle e) s.sdl.time) →
    ∃ x, exec (.gateCycleStart e) s = .next x ∧ x.gateRun e = some ⟨(s.gcl e 1 0).gates, 0, (s.gcl e 1 0).interval, false, g.cycleNs, g.base,
      t, g.baseSel, true⟩ ∧ x.sdl.time = max s.sdl.time t ∧ x.gclPending e = s.gclPending e) ∧
  (∀ (s : State) (e : Fin 256) (g : GateRun) (c : Nat), s.gateRun e = some g →
    (g.baseSel = false → g.cycleNs ≠ 0 → s.operStart e =
      some (if g.started then g.startAt + g.cycleNs else cycleFrom g.base g.cycleNs s.sdl.time)) ∧
    (g.baseSel = true → s.sdl.slotAt = some c → g.startAt < c ∨ g.started = false → s.operStart e = some c) ∧
    (g.baseSel = false → g.cycleNs = 0 → s.operStart e = none) ∧ (g.baseSel = true → s.sdl.slotAt = none → s.operStart e = none)) ∧
  (∀ (s : State) (e : Fin 256), s.fabricUp = true → s.gateEn e = false ∨ s.gateRun e = none ∨ (s.gateRun e).any (·.held) = true →
    exec (.gateEntryExpiry e) s = .next (s.done s.start)) ∧
  (∀ (s : State) (e : Fin 256) (g : GateRun), s.fabricUp = true → s.gateEn e = true → s.gateRun e = some g → g.held = false →
    (g.entry + 1 < s.operLen e → ∃ x, exec (.gateEntryExpiry e) s = .next x ∧
      x.sdl.time = max s.sdl.time (g.startAt + g.till) ∧ x.gateRun e = some { g with
        gates := (s.gcl e 1 (g.entry + 1)).gates, entry := g.entry + 1, till := g.till + (s.gcl e 1 (g.entry + 1)).interval }) ∧
    (s.operLen e ≤ g.entry + 1 → ∃ x, exec (.gateEntryExpiry e) s = .next x ∧
      x.sdl.time = max s.sdl.time (g.startAt + g.till) ∧ x.gateRun e = some { g with held := true })) ∧
  (∀ (s : State) (port : Port) (g : Fin 16) (a : Word) (e n : Nat), ReadReaches s port (pPrc g) → a = s.reg (pPrc g) Reg.Prc.GCL_ADDR →
    e = 16 * g.val + bits a 3 0 → n = bits a 10 4 → ∃ x, exec (.gclDataAccess port g none) s = .next x ∧ x.prm = s.prm ∧
      x.out = [.value (BitVec.ofNat 32 ((s.gcl e (b2n (bitAt a 12)) n).gates % 256 + (s.gcl e (b2n (bitAt a 12)) n).interval * 256))] ∧
      x.fld (pPrc g) Reg.Prc.GCL_ADDR 10 4 = (n + 1) % 128) ∧
  (∀ (s : State) (port : Port) (g : Fin 16) (v a : Word) (e n : Nat), WriteReaches s port (pPrc g) Reg.Prc.GCL_DATA →
    a = s.reg (pPrc g) Reg.Prc.GCL_ADDR → e = 16 * g.val + bits a 3 0 → n = bits a 10 4 →
    (bitAt a 12 = true → ∃ x, exec (.gclDataAccess port g (some v)) s = .next x ∧ x.prm = s.prm ∧
      x.fld (pPrc g) Reg.Prc.GCL_ADDR 10 4 = (n + 1) % 128) ∧
    (bitAt a 12 = false → ∃ x, exec (.gclDataAccess port g (some v)) s = .next x ∧ x.fld (pPrc g) Reg.Prc.GCL_ADDR 10 4 = (n + 1) % 128 ∧
      x.gcl e 0 n = ⟨bits v 7 0, bits v 31 8⟩ ∧ ∀ p l i : Nat, l < 2 → i < 128 → (p, l, i) ≠ (e, 0, n) → x.gcl p l i = s.gcl p l i))

/-- The Promenade: redundancy pairs, supervision, the tables, PORT_CFG and Folly. PAIR_CFG with EN = 1 takes its fields and enables
the pair with an empty table, or leaves EN 0 with the cause in PAIR_ERR and FLT_STA bit 3; a pair that is enabled ignores it.
Clearing EN frees the table and keeps the fields. Supervision queues a numbered copy on each port of the pair, the slower port's
in the duplicate buffer, and numbers one frame for each address. A dynamic entry ages out AGE_S after it was refreshed. TBL_CMD
reads, writes, deletes and searches; a VLAN or static entry changes only from CORE before the Pergola was first enabled. PORT_CFG
takes its fields where the page is not locked; HOST or MAINT alone moves STATE into or out of TEST, a pair member cannot enter it,
and leaving it stops the program. FLY_CTL.RUN starts a program or is refused with bit 1; clearing it stops the program, takes the
other fields, and what it held is dropped and counted. A frame held for reorder leaves its stage 1 ms later, a delayed one at its
instant. (R150, R156, R160, R161, R169, R171, R173, R174, R184, R186, R187, R188) -/
def Obligations.PairsTablesAndFolly : Prop :=
  (∀ (s : State) (port : Port) (n : Fin 32) (v : Word), WriteReaches s port pPrm (Reg.Prm.PAIR_CFG n) → s.pairOn n = true →
    exec (.pairEnable port n v) s = .next (s.done s.heard) ∧
    ∃ x, exec (.pairDisable port n v) s = .next x ∧ x.pairOn n = false ∧ x.pairCfg n = s.pairCfg n &&& 0x7FFFFFFF ∧
      x.prm = { s.prm with dup := s.prm.dup.filter (fun e => e.1 ≠ n.val) }) ∧
  (∀ (s u : State) (port : Port) (n : Fin 32) (v m w : Word), WriteReaches s port pPrm (Reg.Prm.PAIR_CFG n) → s.pairOn n = false →
    m = (if bits v 17 16 = 3 then putBits v 17 16 (bits (s.pairCfg n) 17 16) else v) →
    w = (if s.flag pPrm Reg.Hdr.LOCK 0 then s.pairCfg n else m) ||| 0x80000000 →
    u = s.heard.setReg pPrm (Reg.Prm.PAIR_CFG n) (w &&& 0x003FFFFF) →
    (u.pairRefusal n w = 0 → ∃ x, exec (.pairEnable port n v) s = .next x ∧ x.pairCfg n = (w &&& 0x003FFFFF) ||| 0x80000000 ∧
      x.dupTable n = [] ∧ x.prm.queues = s.prm.queues) ∧
    (u.pairRefusal n w ≠ 0 → ∃ x, exec (.pairEnable port n v) s = .next x ∧ x.pairCfg n = w &&& 0x003FFFFF ∧ x.prm = s.prm ∧
      x.reg pPrm Reg.Prm.PAIR_ERR = BitVec.ofNat 32 (n.val + u.pairRefusal n w * 256) ∧ x.flag pPrm Reg.Hdr.FLT_STA 3 = true) ∧
    (∃ x, exec (.pairDisable port n v) s = .next x ∧ x.pairCfg n = w &&& 0x003FFFFF ∧ x.prm = s.prm)) ∧
  (∀ (s : State) (n : Fin 32), s.fabricUp = true → s.pairOn n = false ∨ s.enabled pPrm = false ∨ s.numbersAlone = false ∨ s.withheld = true →
    exec (.supervisionTx n) s = .next (s.done s.start)) ∧
  (∀ (s : State) (n : Fin 32) (own sup seq : Nat), s.fabricUp = true → own = s.pairMac →
    sup = (s.takeSeq (2 ^ 48 + own) n).1 → seq = (s.takeSeq own n).1 →
    s.pairOn n = true → s.enabled pPrm = true → s.numbersAlone = true → s.withheld = false →
    (∃ x, exec (.supervisionTx n) s = .next x ∧ (x.takeSeq own n).1 = (seq + (s.supervised n).length) % 65536) ∧
    (∀ (f : List Byte) (cs : List (Nat × List Byte)), f = supervisionFrame own own sup (s.pairHsr n) → cs = s.pairCopies n f seq none →
      s.supervised n = [own] → (cs.map (·.1)).Nodup → cs.all (fun e => s.portUp e.1) = true →
      cs.all (fun e => s.bufferRoom (s.copyHome n e.1 .pool) (some (n.val, own, seq)) e.2.length) = true →
      ∃ x, exec (.supervisionTx n) s = .next x ∧ (x.takeSeq (2 ^ 48 + own) n).1 = (sup + 1) % 65536 ∧
        (∀ e ∈ cs, x.queue e.1 0 = s.queue e.1 0 ++ [⟨e.2, s.copyHome n e.1 .pool, some (n.val, own, seq), false, false, 0⟩]))) ∧
  (∀ (s : State) (i : Fin 65536), s.fabricUp = true →
    (s.prm.fdb.find? (fun e => e.1 = i.val) = none ∨ s.fld pPrm Reg.Prm.FDB_AGE 15 0 = 0 → exec (.fdbAgeOut i) s = .next (s.done s.start)) ∧
    (∀ (k : Nat) (e : FdbEntry), s.prm.fdb.find? (fun e => e.1 = i.val) = some (k, e) →
      (e.static = true → exec (.fdbAgeOut i) s = .next (s.done s.start)) ∧
      (e.static = false → s.fld pPrm Reg.Prm.FDB_AGE 15 0 ≠ 0 → ∃ x, exec (.fdbAgeOut i) s = .next x ∧
        x.prm = { s.prm with fdb := s.prm.fdb.filter (fun e => e.1 ≠ i.val) } ∧
        x.now = max s.now (e.born + s.fld pPrm Reg.Prm.FDB_AGE 15 0 * 1000000000)))) ∧
  (∀ (s : State) (port : Port) (i : Fin 65536), WriteReaches s port pPrm Reg.Prm.TBL_CMD →
    (i.val < 4096 → ∃ x, exec (.tblRead port 0 i) s = .next x ∧ x.prm = s.prm ∧ (List.range 17).map x.tblData = (s.vlan i).words) ∧
    (4096 ≤ i.val → ∃ x, exec (.tblRead port 0 i) s = .next x ∧ x.prm = s.prm ∧ (List.range 17).map x.tblData = List.replicate 17 0) ∧
    (exec (.tblSearch port 0 i) s = .next (s.done s.heard)) ∧
    (∀ (k : Nat) (e : FdbEntry), s.prm.fdb.find? (fun e => e.1 = i.val) = some (k, e) → ∃ x, exec (.tblRead port 1 i) s = .next x ∧
      x.prm = s.prm ∧ (List.range 17).map x.tblData = e.words ++ List.replicate 6 0) ∧
    (s.prm.fdb.find? (fun e => e.1 = i.val) = none → ∃ x, exec (.tblRead port 1 i) s = .next x ∧
      x.prm = s.prm ∧ (List.range 17).map x.tblData = List.replicate 17 0) ∧
    (∀ (k : Nat) (e : ProxyEntry), s.prm.proxy.find? (fun e => e.1 = i.val) = some (k, e) → ∃ x, exec (.tblRead port 2 i) s = .next x ∧
      x.prm = s.prm ∧ (List.range 17).map x.tblData = e.words ++ List.replicate 14 0)) ∧
  (∀ (s : State) (port : Port) (i : Fin 65536), WriteReaches s port pPrm Reg.Prm.TBL_CMD →
    (∀ e : FdbEntry, s.fdbFind s.dataMac s.dataVid = some e → ∃ x, exec (.tblSearch port 1 i) s = .next x ∧
      x.prm = s.prm ∧ (List.range 17).map x.tblData = e.words ++ List.replicate 6 0) ∧
    (s.fdbFind s.dataMac s.dataVid = none → ∃ x, exec (.tblSearch port 1 i) s = .next x ∧ x.prm = s.prm ∧
      (List.range 17).map x.tblData = List.replicate 17 0) ∧
    (∀ (k : Nat) (e : ProxyEntry), s.prm.proxy.find? (fun e => e.2.mac = s.dataMac ∧ e.2.vid = s.dataVid) = some (k, e) →
      ∃ x, exec (.tblSearch port 2 i) s = .next x ∧ x.prm = s.prm ∧ (List.range 17).map x.tblData = e.words ++ List.replicate 14 0)) ∧
  (∀ (s : State) (port : Port) (i : Fin 65536) (e : FdbEntry), WriteReaches s port pPrm Reg.Prm.TBL_CMD →
    e = ⟨s.dataMac, s.dataVid, bits (s.tblData 2) 7 0, bitAt (s.tblData 2) 8, bitAt (s.tblData 2) 9,
      (if bitAt (s.tblData 2) 9 then s.dataMap 3 else 0), s.now⟩ →
    (s.tblOpen port = true ∨ (s.fdbStatic i = false ∧ e.static = false) → exec (.tblWrite port 1 i) s = .next (s.done { s.heard with
      prm.fdb := s.prm.fdb.filter (fun e => e.1 ≠ i.val) ++ [(i.val, e)] })) ∧
    (s.tblOpen port = true ∨ s.fdbStatic i = false → exec (.tblDelete port 1 i) s = .next (s.done { s.heard with
      prm.fdb := s.prm.fdb.filter (fun e => e.1 ≠ i.val) })) ∧
    (s.tblOpen port = false → s.fdbStatic i = true ∨ e.static = true → ∃ x, exec (.tblWrite port 1 i) s = .next x ∧ x.prm = s.prm ∧
      x.gate.log.getLast?.map (·.page) = some pPrm) ∧
    (s.tblOpen port = false → s.fdbStatic i = true → ∃ x, exec (.tblDelete port 1 i) s = .next x ∧ x.prm = s.prm ∧
      x.gate.log.getLast?.map (·.page) = some pPrm)) ∧
  (∀ (s : State) (port : Port) (i : Fin 65536), WriteReaches s port pPrm Reg.Prm.TBL_CMD →
    (s.tblOpen port = true → i.val < 4096 → ∃ x, exec (.tblWrite port 0 i) s = .next x ∧
      x.vlan i = ⟨s.dataMap 0, s.dataMap 8, bitAt (s.tblData 16) 0⟩ ∧ ∀ k : Nat, k ≠ i.val → x.vlan k = s.vlan k) ∧
    (s.tblOpen port = true → ∃ x, exec (.tblDelete port 0 i) s = .next x ∧
      x.vlan i = VlanEntry.none ∧ ∀ k : Nat, k ≠ i.val → x.vlan k = s.vlan k) ∧
    (s.tblOpen port = false → ∃ x y, exec (.tblWrite port 0 i) s = .next x ∧ exec (.tblDelete port 0 i) s = .next y ∧ x.prm = s.prm ∧
      y.prm = s.prm ∧ x.gate.log.getLast?.map (·.page) = some pPrm) ∧
    (i.val < 512 → ∃ x, exec (.tblWrite port 2 i) s = .next x ∧ x.prm.proxy = s.prm.proxy.filter (fun e => e.1 ≠ i.val) ++
      [(i.val, ProxyEntry.mk s.dataMac s.dataVid (bits (s.tblData 2) 4 0) (((s.prm.proxy.find? (fun e => e.1 = i.val)).map (fun e => e.2.seq)).getD 0))]) ∧
    (exec (.tblDelete port 2 i) s = .next (s.done { s.heard with prm.proxy := s.prm.proxy.filter (fun e => e.1 ≠ i.val) }))) ∧
  (∀ (s : State) (port : Port) (e : Fin 256) (v : Word) (o : Nat), o = Reg.Prc.PORT_CFG (e.val % 16) → WriteReaches s port (portPage e) o →
    s.portExists e = false → exec (.portCfgWrite port e v) s = .next (s.done { s.heard with gate.acc := [accLost] })) ∧
  (∀ (s : State) (port : Port) (e : Fin 256) (v w : Word) (o : Nat), o = Reg.Prc.PORT_CFG (e.val % 16) → WriteReaches s port (portPage e) o →
    s.portExists e = true → w = (if s.flag (portPage e) Reg.Hdr.LOCK 0 then s.reg (portPage e) o else v) &&& 0x00FFFFFC →
    (bits v 1 0 = s.portState e ∨ bits v 1 0 = 3 → ∃ x, exec (.portCfgWrite port e v) s = .next x ∧
      x.reg (portPage e) o = w ||| BitVec.ofNat 32 (s.portState e)) ∧
    (bits v 1 0 < 2 → s.portState e < 2 → ∃ x, exec (.portCfgWrite port e v) s = .next x ∧
      x.reg (portPage e) o = w ||| BitVec.ofNat 32 (bits v 1 0)) ∧
    (port ≠ .host → port ≠ .maint → (bits v 1 0 = 2 ∧ s.portState e < 2) ∨ (bits v 1 0 < 2 ∧ s.portState e = 2) →
      ∃ x, exec (.portCfgWrite port e v) s = .next x ∧ x.reg (portPage e) o = w ||| BitVec.ofNat 32 (s.portState e) ∧
        x.gate.log.getLast?.map (·.kind) = some logAuth) ∧
    (port = .host ∨ port = .maint → bits v 1 0 = 2 → s.portState e < 2 → ∃ x, exec (.portCfgWrite port e v) s = .next x ∧
      x.reg (portPage e) o = w ||| BitVec.ofNat 32 (if (s.pairOf e).isSome then s.portState e else 2)) ∧
    (port = .host ∨ port = .maint → bits v 1 0 < 2 → s.portState e = 2 → ∃ x, exec (.portCfgWrite port e v) s = .next x ∧
      x.reg (portPage e) o = w ||| BitVec.ofNat 32 (bits v 1 0) ∧ x.follyRun e = none)) ∧
  (∀ (s : State) (port : Port) (e : Fin 256) (v : Word) (o : Nat), o = Reg.Fly.FLY_CTL (e.val % 16) → WriteReaches s port (flyPage e) o →
    s.follyRun e = none →
    (s.follyRefused e ((v ||| 1) &&& 0xFFFF0FFF) = false → ∃ x, exec (.follyRunStart port e v) s = .next x ∧
      x.follyRun e = some ⟨0, [], []⟩ ∧ x.reg (flyPage e) o = (v ||| 1) &&& 0xFFFF0FFF) ∧
    (s.follyRefused e ((v ||| 1) &&& 0xFFFF0FFF) = true → ∃ x, exec (.follyRunStart port e v) s = .next x ∧
      x.prm = s.prm ∧ x.reg (flyPage e) o = v &&& 0xFFFF0FFE ∧ x.flag (flyPage e) Reg.Hdr.FLT_STA 1 = true) ∧
    (∃ x, exec (.follyRunStop port e v) s = .next x ∧ x.prm = s.prm ∧ x.reg (flyPage e) o = v &&& 0xFFFF0FFE)) ∧
  (∀ (s : State) (port : Port) (e : Fin 256) (v : Word) (o : Nat) (r : FollyRun), o = Reg.Fly.FLY_CTL (e.val % 16) →
    WriteReaches s port (flyPage e) o → s.follyRun e = some r → exec (.follyRunStart port e v) s = .next (s.done s.heard) ∧
      ∃ x, exec (.follyRunStop port e v) s = .next x ∧ x.follyRun e = none ∧ x.reg (flyPage e) o = v &&& 0xFFFF0FFE ∧
        x.fld (portPage e) (Reg.Prc.PORT_STA (e.val % 16)) 31 16 =
          min 0xFFFF (s.fld (portPage e) (Reg.Prc.PORT_STA (e.val % 16)) 31 16 + (r.held.length + r.delayed.length))) ∧
  (∀ (s : State) (e : Fin 256) (r : FollyRun) (h : FollyHeld) (hs : List FollyHeld) (t : Nat), s.fabricUp = true → s.follyRun e = some r →
    r.held = h :: hs → t = max s.now (h.heldAt + 1000000) →
    (bitAt (s.flyReg e 0) 8 = false → bitAt (s.flyReg e 0) 1 = true → ∃ x, exec (.follyReorderTimeout e) s = .next x ∧
      x.out = [.frame e.val h.octets] ∧ x.follyRun e = some { r with held := hs } ∧ x.now = t) ∧
    (bitAt (s.flyReg e 0) 8 = false → bitAt (s.flyReg e 0) 1 = false → ∃ x, exec (.follyReorderTimeout e) s = .next x ∧
      x.follyRun e = some { r with held := hs } ∧ x.now = t) ∧
    (bitAt (s.flyReg e 0) 8 = true → FollyRun.load { r with held := hs } + h.octets.length ≤ 65536 →
      ∃ x, exec (.follyReorderTimeout e) s = .next x ∧ x.now = t ∧ x.out = [] ∧ x.follyRun e = some { r with
        held := hs, delayed := r.delayed ++ [⟨h.octets, h.ts + (t - h.heldAt), t, t + max 100 (bits (s.flyReg e 0x18) 19 0)⟩] })) ∧
  (∀ (s : State) (e : Fin 256) (r : FollyRun) (d : FollyDelayed) (ds : List FollyDelayed), s.fabricUp = true → s.follyRun e = some r →
    r.delayed = d :: ds → ∃ x, exec (.follyDelayRelease e) s = .next x ∧ x.follyRun e = some { r with delayed := ds } ∧ x.now = max s.now d.due ∧
      (bitAt (s.flyReg e 0) 1 = true → x.out = [.frame e.val d.octets])) ∧
  (∀ (s : State) (e : Fin 256), s.fabricUp = true →
    (s.follyRun e = none ∨ (s.follyRun e).any (·.held.isEmpty) = true → exec (.follyReorderTimeout e) s = .next (s.done s.start)) ∧
    (s.follyRun e = none ∨ (s.follyRun e).any (·.delayed.isEmpty) = true → exec (.follyDelayRelease e) s = .next (s.done s.start)))
end

