-- ==== Sys2Proof/Laws/Sparse.lean ====
section
/-!
SUPPORT. Sparse contents: what a key reads as after each operation, and that every operation keeps the canonical form.
-/
namespace Sys2Proof.Machine

variable {β : Type}

@[simp] theorem smGet_nil (d : Nat → β) (k : Nat) : smGet d [] k = d k := rfl

theorem smGet_smDrop (d : Nat → β) (m : Sparse β) (k j : Nat) :
    smGet d (smDrop m k) j = if j = k then d k else smGet d m j := by
  induction m with
  | nil => by_cases h : j = k <;> simp [smDrop, smGet, h]
  | cons e m ih =>
    obtain ⟨a, v⟩ := e
    by_cases ha : k = a
    · subst ha
      simp only [smDrop, if_true, ih, smGet]
      by_cases h : j = k <;> simp [h]
    · simp only [smDrop, if_neg ha, smGet, ih]
      by_cases h : j = k
      · subst h; simp [ha]
      · simp [h]

theorem smGet_smPut (d : Nat → β) (m : Sparse β) (k j : Nat) (v : β) :
    smGet d (smPut m k v) j = if j = k then v else smGet d m j := by
  induction m with
  | nil => simp [smPut, smGet]
  | cons e m ih =>
    obtain ⟨a, w⟩ := e
    simp only [smPut]
    split
    · simp [smGet]
    · split
      · rename_i h2; subst h2
        simp only [smGet]
        by_cases h : j = k <;> simp [h]
      · rename_i h2
        simp only [smGet, ih]
        by_cases h : j = a
        · subst h; simp [Ne.symm h2]
        · simp [h]

/-- A store after a write: the key written reads the value, every other key as before. -/
@[simp] theorem smGet_smSet [DecidableEq β] (d : Nat → β) (m : Sparse β) (k j : Nat) (v : β) :
    smGet d (smSet d m k v) j = if j = k then v else smGet d m j := by
  unfold smSet
  split
  · rename_i h; rw [smGet_smDrop, h]
  · rw [smGet_smPut]

/-- A store cut down to the keys of a test: they read as before, the others their default. -/
@[simp] theorem smGet_smKeep (d : Nat → β) (m : Sparse β) (p : Nat → Bool) (j : Nat) :
    smGet d (smKeep m p) j = if p j then smGet d m j else d j := by
  induction m with
  | nil => by_cases h : p j <;> simp [smKeep, smGet]
  | cons e m ih =>
    obtain ⟨a, v⟩ := e
    have hk : smKeep ((a, v) :: m) p = if p a then (a, v) :: smKeep m p else smKeep m p := by
      simp only [smKeep, List.filter_cons]
    rw [hk]
    by_cases ha : p a
    · simp only [ha, if_true, smGet, ih]
      by_cases h : j = a
      · subst h; simp [ha]
      · simp [h]
    · simp only [ha, smGet]
      by_cases h : j = a
      · subst h; simp [ha, ih]
      · simp [h, ih]

/-! The canonical form -/

theorem smWfFrom_mono [DecidableEq β] (d : Nat → β) {m : Sparse β} {lo : Option Nat} {k : Nat}
    (h : smWfFrom d (some k) m = true) (hl : ∀ l, lo = some l → l ≤ k) : smWfFrom d lo m = true := by
  cases m with
  | nil => rfl
  | cons e m =>
    obtain ⟨a, v⟩ := e
    simp only [smWfFrom, Bool.and_eq_true, decide_eq_true_eq] at h ⊢
    refine ⟨⟨?_, h.1.2⟩, h.2⟩
    cases lo with
    | none => rfl
    | some l => have := hl l rfl; simp only [decide_eq_true_eq]; omega

theorem smWfFrom_smDrop [DecidableEq β] (d : Nat → β) (m : Sparse β) (lo : Option Nat) (k : Nat)
    (h : smWfFrom d lo m = true) : smWfFrom d lo (smDrop m k) = true := by
  induction m generalizing lo with
  | nil => rfl
  | cons e m ih =>
    obtain ⟨a, v⟩ := e
    simp only [smWfFrom, Bool.and_eq_true, decide_eq_true_eq] at h
    simp only [smDrop]
    split
    · apply ih
      refine smWfFrom_mono d h.2 ?_
      rintro l rfl
      have := h.1.1
      simp only [decide_eq_true_eq] at this
      omega
    · simp only [smWfFrom, Bool.and_eq_true, decide_eq_true_eq]
      exact ⟨h.1, ih _ h.2⟩

theorem smWfFrom_smPut [DecidableEq β] (d : Nat → β) (m : Sparse β) (lo : Option Nat) (k : Nat) (v : β)
    (h : smWfFrom d lo m = true) (hk : ∀ l, lo = some l → l < k) (hv : v ≠ d k) :
    smWfFrom d lo (smPut m k v) = true := by
  induction m generalizing lo with
  | nil =>
    cases lo with
    | none => simp [smPut, smWfFrom, hv]
    | some l => simp [smPut, smWfFrom, hv, hk l rfl]
  | cons e m ih =>
    obtain ⟨a, w⟩ := e
    simp only [smWfFrom, Bool.and_eq_true, decide_eq_true_eq] at h
    simp only [smPut]
    split
    · rename_i hlt
      simp only [smWfFrom, Bool.and_eq_true, decide_eq_true_eq]
      refine ⟨⟨?_, hv⟩, ⟨hlt, h.1.2⟩, h.2⟩
      cases lo with
      | none => rfl
      | some l => simpa using hk l rfl
    · split
      · rename_i he; subst he
        simp only [smWfFrom, Bool.and_eq_true, decide_eq_true_eq]
        refine ⟨⟨?_, hv⟩, h.2⟩
        cases lo with
        | none => rfl
        | some l => simpa using hk l rfl
      · rename_i hnl hne
        simp only [smWfFrom, Bool.and_eq_true, decide_eq_true_eq]
        refine ⟨h.1, ih (some a) h.2 ?_⟩
        rintro l hl
        cases hl
        omega

/-- A write keeps the canonical form. -/
theorem smWf_smSet [DecidableEq β] (d : Nat → β) (m : Sparse β) (k : Nat) (v : β) (h : smWf d m = true) :
    smWf d (smSet d m k v) = true := by
  unfold smWf smSet at *
  split
  · exact smWfFrom_smDrop d m none k h
  · rename_i hv
    exact smWfFrom_smPut d m none k v h (by simp) hv

theorem smWfFrom_smKeep [DecidableEq β] (d : Nat → β) (m : Sparse β) (lo : Option Nat) (p : Nat → Bool)
    (h : smWfFrom d lo m = true) : smWfFrom d lo (smKeep m p) = true := by
  induction m generalizing lo with
  | nil => rfl
  | cons e m ih =>
    obtain ⟨a, v⟩ := e
    simp only [smWfFrom, Bool.and_eq_true, decide_eq_true_eq] at h
    unfold smKeep at ih ⊢
    rw [List.filter_cons]
    split
    · simp only [smWfFrom, Bool.and_eq_true, decide_eq_true_eq]
      exact ⟨h.1, ih _ h.2⟩
    · apply ih
      refine smWfFrom_mono d h.2 ?_
      rintro l rfl
      have := h.1.1
      simp only [decide_eq_true_eq] at this
      omega

/-- So does a cut. -/
theorem smWf_smKeep [DecidableEq β] (d : Nat → β) (m : Sparse β) (p : Nat → Bool) (h : smWf d m = true) :
    smWf d (smKeep m p) = true := smWfFrom_smKeep d m none p h

/-- Writing octets keeps the canonical form of a memory. -/
theorem smWf_memWrite (d : Nat → Byte) (m : Sparse Byte) (a : Nat) (bs : List Byte) (h : smWf d m = true) :
    smWf d (memWrite d m a bs) = true := by
  induction bs generalizing m a with
  | nil => exact h
  | cons b bs ih => exact ih _ _ (smWf_smSet d m a b h)

/-- An octet after a write of octets: the one written there, or the one before. -/
theorem smGet_memWrite (d : Nat → Byte) (m : Sparse Byte) (a j : Nat) (bs : List Byte) :
    smGet d (memWrite d m a bs) j =
      if a ≤ j ∧ j < a + bs.length then bs.getD (j - a) 0 else smGet d m j := by
  induction bs generalizing m a with
  | nil => simp [memWrite] <;> omega
  | cons b bs ih =>
    simp only [memWrite, ih, smGet_smSet, List.length_cons]
    by_cases h1 : j = a
    · subst h1
      rw [if_neg (by omega), if_pos rfl, if_pos (by omega)]
      simp
    · by_cases h2 : a + 1 ≤ j ∧ j < a + 1 + bs.length
      · have h3 : a ≤ j ∧ j < a + (bs.length + 1) := by omega
        rw [if_pos h2, if_pos h3]
        obtain ⟨i, rfl⟩ : ∃ i, j = a + 1 + i := ⟨j - (a + 1), by omega⟩
        have e1 : a + 1 + i - (a + 1) = i := by omega
        have e2 : a + 1 + i - a = i + 1 := by omega
        rw [e1, e2]
        simp
      · have h3 : ¬ (a ≤ j ∧ j < a + (bs.length + 1)) := by omega
        rw [if_neg h2, if_neg h3, if_neg h1]

end Sys2Proof.Machine
end

