-- ==== Sys2Proof/Laws/State.lean ====
section
/-!
SUPPORT. What the shared operations on the state change and leave: one lemma for each field and update, what registers, fields and
flags read after a write, and what `settle` and `run` do.
-/
namespace Sys2Proof.Machine

/-! Register writes, emissions and reports leave every other field -/

@[simp] theorem State.setReg_now (s : State) (p o : Nat) (w : Word) : (s.setReg p o w).now = s.now := rfl
@[simp] theorem State.setReg_freeCtr (s : State) (p o : Nat) (w : Word) : (s.setReg p o w).freeCtr = s.freeCtr := rfl
@[simp] theorem State.setReg_out (s : State) (p o : Nat) (w : Word) : (s.setReg p o w).out = s.out := rfl
@[simp] theorem State.setReg_errN (s : State) (p o : Nat) (w : Word) : (s.setReg p o w).errN = s.errN := rfl
@[simp] theorem State.setReg_msIrqN (s : State) (p o : Nat) (w : Word) : (s.setReg p o w).msIrqN = s.msIrqN := rfl
@[simp] theorem State.setReg_kfd (s : State) (p o : Nat) (w : Word) : (s.setReg p o w).kfd = s.kfd := rfl
@[simp] theorem State.setReg_pwr (s : State) (p o : Nat) (w : Word) : (s.setReg p o w).pwr = s.pwr := rfl
@[simp] theorem State.setReg_ldg (s : State) (p o : Nat) (w : Word) : (s.setReg p o w).ldg = s.ldg := rfl
@[simp] theorem State.setReg_boot (s : State) (p o : Nat) (w : Word) : (s.setReg p o w).boot = s.boot := rfl
@[simp] theorem State.setReg_gate (s : State) (p o : Nat) (w : Word) : (s.setReg p o w).gate = s.gate := rfl
@[simp] theorem State.setReg_blv (s : State) (p o : Nat) (w : Word) : (s.setReg p o w).blv = s.blv := rfl
@[simp] theorem State.setReg_hdg (s : State) (p o : Nat) (w : Word) : (s.setReg p o w).hdg = s.hdg := rfl
@[simp] theorem State.setReg_well (s : State) (p o : Nat) (w : Word) : (s.setReg p o w).well = s.well := rfl
@[simp] theorem State.setReg_sdl (s : State) (p o : Nat) (w : Word) : (s.setReg p o w).sdl = s.sdl := rfl
@[simp] theorem State.setReg_prm (s : State) (p o : Nat) (w : Word) : (s.setReg p o w).prm = s.prm := rfl
@[simp] theorem State.setReg_ptr (s : State) (p o : Nat) (w : Word) : (s.setReg p o w).ptr = s.ptr := rfl
@[simp] theorem State.setReg_pgl (s : State) (p o : Nat) (w : Word) : (s.setReg p o w).pgl = s.pgl := rfl
@[simp] theorem State.setReg_pav (s : State) (p o : Nat) (w : Word) : (s.setReg p o w).pav = s.pav := rfl
@[simp] theorem State.setReg_engP (s : State) (p o : Nat) (w : Word) : (s.setReg p o w).engP = s.engP := rfl
@[simp] theorem State.setReg_engC (s : State) (p o : Nat) (w : Word) : (s.setReg p o w).engC = s.engC := rfl
@[simp] theorem State.setReg_mem (s : State) (p o : Nat) (w : Word) : (s.setReg p o w).mem = s.mem := rfl
@[simp] theorem State.setReg_org (s : State) (p o : Nat) (w : Word) : (s.setReg p o w).org = s.org := rfl
@[simp] theorem State.setReg_arb (s : State) (p o : Nat) (w : Word) : (s.setReg p o w).arb = s.arb := rfl
@[simp] theorem State.setReg_ftn (s : State) (p o : Nat) (w : Word) : (s.setReg p o w).ftn = s.ftn := rfl
@[simp] theorem State.setReg_cln (s : State) (p o : Nat) (w : Word) : (s.setReg p o w).cln = s.cln := rfl
@[simp] theorem State.setReg_nvm (s : State) (p o : Nat) (w : Word) : (s.setReg p o w).nvm = s.nvm := rfl
@[simp] theorem State.setReg_otp (s : State) (p o : Nat) (w : Word) : (s.setReg p o w).otp = s.otp := rfl
@[simp] theorem State.setReg_psh (s : State) (p o : Nat) (w : Word) : (s.setReg p o w).psh = s.psh := rfl
@[simp] theorem State.setReg_ksk (s : State) (p o : Nat) (w : Word) : (s.setReg p o w).ksk = s.ksk := rfl
@[simp] theorem State.setReg_ccp (s : State) (p o : Nat) (w : Word) : (s.setReg p o w).ccp = s.ccp := rfl
@[simp] theorem State.setReg_hif (s : State) (p o : Nat) (w : Word) : (s.setReg p o w).hif = s.hif := rfl
@[simp] theorem State.setReg_dbg (s : State) (p o : Nat) (w : Word) : (s.setReg p o w).dbg = s.dbg := rfl
@[simp] theorem State.setReg_bst (s : State) (p o : Nat) (w : Word) : (s.setReg p o w).bst = s.bst := rfl
@[simp] theorem State.setReg_pending (s : State) (p o : Nat) (w : Word) : (s.setReg p o w).pending = s.pending := rfl

@[simp] theorem State.setFld_now (s : State) (p o hi lo v : Nat) : (s.setFld p o hi lo v).now = s.now := rfl
@[simp] theorem State.setFld_freeCtr (s : State) (p o hi lo v : Nat) : (s.setFld p o hi lo v).freeCtr = s.freeCtr := rfl
@[simp] theorem State.setFld_out (s : State) (p o hi lo v : Nat) : (s.setFld p o hi lo v).out = s.out := rfl
@[simp] theorem State.setFld_errN (s : State) (p o hi lo v : Nat) : (s.setFld p o hi lo v).errN = s.errN := rfl
@[simp] theorem State.setFld_msIrqN (s : State) (p o hi lo v : Nat) : (s.setFld p o hi lo v).msIrqN = s.msIrqN := rfl
@[simp] theorem State.setFld_kfd (s : State) (p o hi lo v : Nat) : (s.setFld p o hi lo v).kfd = s.kfd := rfl
@[simp] theorem State.setFld_pwr (s : State) (p o hi lo v : Nat) : (s.setFld p o hi lo v).pwr = s.pwr := rfl
@[simp] theorem State.setFld_ldg (s : State) (p o hi lo v : Nat) : (s.setFld p o hi lo v).ldg = s.ldg := rfl
@[simp] theorem State.setFld_boot (s : State) (p o hi lo v : Nat) : (s.setFld p o hi lo v).boot = s.boot := rfl
@[simp] theorem State.setFld_gate (s : State) (p o hi lo v : Nat) : (s.setFld p o hi lo v).gate = s.gate := rfl
@[simp] theorem State.setFld_blv (s : State) (p o hi lo v : Nat) : (s.setFld p o hi lo v).blv = s.blv := rfl
@[simp] theorem State.setFld_hdg (s : State) (p o hi lo v : Nat) : (s.setFld p o hi lo v).hdg = s.hdg := rfl
@[simp] theorem State.setFld_well (s : State) (p o hi lo v : Nat) : (s.setFld p o hi lo v).well = s.well := rfl
@[simp] theorem State.setFld_sdl (s : State) (p o hi lo v : Nat) : (s.setFld p o hi lo v).sdl = s.sdl := rfl
@[simp] theorem State.setFld_prm (s : State) (p o hi lo v : Nat) : (s.setFld p o hi lo v).prm = s.prm := rfl
@[simp] theorem State.setFld_ptr (s : State) (p o hi lo v : Nat) : (s.setFld p o hi lo v).ptr = s.ptr := rfl
@[simp] theorem State.setFld_pgl (s : State) (p o hi lo v : Nat) : (s.setFld p o hi lo v).pgl = s.pgl := rfl
@[simp] theorem State.setFld_pav (s : State) (p o hi lo v : Nat) : (s.setFld p o hi lo v).pav = s.pav := rfl
@[simp] theorem State.setFld_engP (s : State) (p o hi lo v : Nat) : (s.setFld p o hi lo v).engP = s.engP := rfl
@[simp] theorem State.setFld_engC (s : State) (p o hi lo v : Nat) : (s.setFld p o hi lo v).engC = s.engC := rfl
@[simp] theorem State.setFld_mem (s : State) (p o hi lo v : Nat) : (s.setFld p o hi lo v).mem = s.mem := rfl
@[simp] theorem State.setFld_org (s : State) (p o hi lo v : Nat) : (s.setFld p o hi lo v).org = s.org := rfl
@[simp] theorem State.setFld_arb (s : State) (p o hi lo v : Nat) : (s.setFld p o hi lo v).arb = s.arb := rfl
@[simp] theorem State.setFld_ftn (s : State) (p o hi lo v : Nat) : (s.setFld p o hi lo v).ftn = s.ftn := rfl
@[simp] theorem State.setFld_cln (s : State) (p o hi lo v : Nat) : (s.setFld p o hi lo v).cln = s.cln := rfl
@[simp] theorem State.setFld_nvm (s : State) (p o hi lo v : Nat) : (s.setFld p o hi lo v).nvm = s.nvm := rfl
@[simp] theorem State.setFld_otp (s : State) (p o hi lo v : Nat) : (s.setFld p o hi lo v).otp = s.otp := rfl
@[simp] theorem State.setFld_psh (s : State) (p o hi lo v : Nat) : (s.setFld p o hi lo v).psh = s.psh := rfl
@[simp] theorem State.setFld_ksk (s : State) (p o hi lo v : Nat) : (s.setFld p o hi lo v).ksk = s.ksk := rfl
@[simp] theorem State.setFld_ccp (s : State) (p o hi lo v : Nat) : (s.setFld p o hi lo v).ccp = s.ccp := rfl
@[simp] theorem State.setFld_hif (s : State) (p o hi lo v : Nat) : (s.setFld p o hi lo v).hif = s.hif := rfl
@[simp] theorem State.setFld_dbg (s : State) (p o hi lo v : Nat) : (s.setFld p o hi lo v).dbg = s.dbg := rfl
@[simp] theorem State.setFld_bst (s : State) (p o hi lo v : Nat) : (s.setFld p o hi lo v).bst = s.bst := rfl
@[simp] theorem State.setFld_pending (s : State) (p o hi lo v : Nat) : (s.setFld p o hi lo v).pending = s.pending := rfl

@[simp] theorem State.setFlag_now (s : State) (p o i : Nat) (b : Bool) : (s.setFlag p o i b).now = s.now := rfl
@[simp] theorem State.setFlag_freeCtr (s : State) (p o i : Nat) (b : Bool) : (s.setFlag p o i b).freeCtr = s.freeCtr := rfl
@[simp] theorem State.setFlag_out (s : State) (p o i : Nat) (b : Bool) : (s.setFlag p o i b).out = s.out := rfl
@[simp] theorem State.setFlag_errN (s : State) (p o i : Nat) (b : Bool) : (s.setFlag p o i b).errN = s.errN := rfl
@[simp] theorem State.setFlag_msIrqN (s : State) (p o i : Nat) (b : Bool) : (s.setFlag p o i b).msIrqN = s.msIrqN := rfl
@[simp] theorem State.setFlag_kfd (s : State) (p o i : Nat) (b : Bool) : (s.setFlag p o i b).kfd = s.kfd := rfl
@[simp] theorem State.setFlag_pwr (s : State) (p o i : Nat) (b : Bool) : (s.setFlag p o i b).pwr = s.pwr := rfl
@[simp] theorem State.setFlag_ldg (s : State) (p o i : Nat) (b : Bool) : (s.setFlag p o i b).ldg = s.ldg := rfl
@[simp] theorem State.setFlag_boot (s : State) (p o i : Nat) (b : Bool) : (s.setFlag p o i b).boot = s.boot := rfl
@[simp] theorem State.setFlag_gate (s : State) (p o i : Nat) (b : Bool) : (s.setFlag p o i b).gate = s.gate := rfl
@[simp] theorem State.setFlag_blv (s : State) (p o i : Nat) (b : Bool) : (s.setFlag p o i b).blv = s.blv := rfl
@[simp] theorem State.setFlag_hdg (s : State) (p o i : Nat) (b : Bool) : (s.setFlag p o i b).hdg = s.hdg := rfl
@[simp] theorem State.setFlag_well (s : State) (p o i : Nat) (b : Bool) : (s.setFlag p o i b).well = s.well := rfl
@[simp] theorem State.setFlag_sdl (s : State) (p o i : Nat) (b : Bool) : (s.setFlag p o i b).sdl = s.sdl := rfl
@[simp] theorem State.setFlag_prm (s : State) (p o i : Nat) (b : Bool) : (s.setFlag p o i b).prm = s.prm := rfl
@[simp] theorem State.setFlag_ptr (s : State) (p o i : Nat) (b : Bool) : (s.setFlag p o i b).ptr = s.ptr := rfl
@[simp] theorem State.setFlag_pgl (s : State) (p o i : Nat) (b : Bool) : (s.setFlag p o i b).pgl = s.pgl := rfl
@[simp] theorem State.setFlag_pav (s : State) (p o i : Nat) (b : Bool) : (s.setFlag p o i b).pav = s.pav := rfl
@[simp] theorem State.setFlag_engP (s : State) (p o i : Nat) (b : Bool) : (s.setFlag p o i b).engP = s.engP := rfl
@[simp] theorem State.setFlag_engC (s : State) (p o i : Nat) (b : Bool) : (s.setFlag p o i b).engC = s.engC := rfl
@[simp] theorem State.setFlag_mem (s : State) (p o i : Nat) (b : Bool) : (s.setFlag p o i b).mem = s.mem := rfl
@[simp] theorem State.setFlag_org (s : State) (p o i : Nat) (b : Bool) : (s.setFlag p o i b).org = s.org := rfl
@[simp] theorem State.setFlag_arb (s : State) (p o i : Nat) (b : Bool) : (s.setFlag p o i b).arb = s.arb := rfl
@[simp] theorem State.setFlag_ftn (s : State) (p o i : Nat) (b : Bool) : (s.setFlag p o i b).ftn = s.ftn := rfl
@[simp] theorem State.setFlag_cln (s : State) (p o i : Nat) (b : Bool) : (s.setFlag p o i b).cln = s.cln := rfl
@[simp] theorem State.setFlag_nvm (s : State) (p o i : Nat) (b : Bool) : (s.setFlag p o i b).nvm = s.nvm := rfl
@[simp] theorem State.setFlag_otp (s : State) (p o i : Nat) (b : Bool) : (s.setFlag p o i b).otp = s.otp := rfl
@[simp] theorem State.setFlag_psh (s : State) (p o i : Nat) (b : Bool) : (s.setFlag p o i b).psh = s.psh := rfl
@[simp] theorem State.setFlag_ksk (s : State) (p o i : Nat) (b : Bool) : (s.setFlag p o i b).ksk = s.ksk := rfl
@[simp] theorem State.setFlag_ccp (s : State) (p o i : Nat) (b : Bool) : (s.setFlag p o i b).ccp = s.ccp := rfl
@[simp] theorem State.setFlag_hif (s : State) (p o i : Nat) (b : Bool) : (s.setFlag p o i b).hif = s.hif := rfl
@[simp] theorem State.setFlag_dbg (s : State) (p o i : Nat) (b : Bool) : (s.setFlag p o i b).dbg = s.dbg := rfl
@[simp] theorem State.setFlag_bst (s : State) (p o i : Nat) (b : Bool) : (s.setFlag p o i b).bst = s.bst := rfl
@[simp] theorem State.setFlag_pending (s : State) (p o i : Nat) (b : Bool) : (s.setFlag p o i b).pending = s.pending := rfl

@[simp] theorem State.countFld_now (s : State) (p o hi lo n : Nat) : (s.countFld p o hi lo n).now = s.now := rfl
@[simp] theorem State.countFld_freeCtr (s : State) (p o hi lo n : Nat) : (s.countFld p o hi lo n).freeCtr = s.freeCtr := rfl
@[simp] theorem State.countFld_out (s : State) (p o hi lo n : Nat) : (s.countFld p o hi lo n).out = s.out := rfl
@[simp] theorem State.countFld_errN (s : State) (p o hi lo n : Nat) : (s.countFld p o hi lo n).errN = s.errN := rfl
@[simp] theorem State.countFld_msIrqN (s : State) (p o hi lo n : Nat) : (s.countFld p o hi lo n).msIrqN = s.msIrqN := rfl
@[simp] theorem State.countFld_kfd (s : State) (p o hi lo n : Nat) : (s.countFld p o hi lo n).kfd = s.kfd := rfl
@[simp] theorem State.countFld_pwr (s : State) (p o hi lo n : Nat) : (s.countFld p o hi lo n).pwr = s.pwr := rfl
@[simp] theorem State.countFld_ldg (s : State) (p o hi lo n : Nat) : (s.countFld p o hi lo n).ldg = s.ldg := rfl
@[simp] theorem State.countFld_boot (s : State) (p o hi lo n : Nat) : (s.countFld p o hi lo n).boot = s.boot := rfl
@[simp] theorem State.countFld_gate (s : State) (p o hi lo n : Nat) : (s.countFld p o hi lo n).gate = s.gate := rfl
@[simp] theorem State.countFld_blv (s : State) (p o hi lo n : Nat) : (s.countFld p o hi lo n).blv = s.blv := rfl
@[simp] theorem State.countFld_hdg (s : State) (p o hi lo n : Nat) : (s.countFld p o hi lo n).hdg = s.hdg := rfl
@[simp] theorem State.countFld_well (s : State) (p o hi lo n : Nat) : (s.countFld p o hi lo n).well = s.well := rfl
@[simp] theorem State.countFld_sdl (s : State) (p o hi lo n : Nat) : (s.countFld p o hi lo n).sdl = s.sdl := rfl
@[simp] theorem State.countFld_prm (s : State) (p o hi lo n : Nat) : (s.countFld p o hi lo n).prm = s.prm := rfl
@[simp] theorem State.countFld_ptr (s : State) (p o hi lo n : Nat) : (s.countFld p o hi lo n).ptr = s.ptr := rfl
@[simp] theorem State.countFld_pgl (s : State) (p o hi lo n : Nat) : (s.countFld p o hi lo n).pgl = s.pgl := rfl
@[simp] theorem State.countFld_pav (s : State) (p o hi lo n : Nat) : (s.countFld p o hi lo n).pav = s.pav := rfl
@[simp] theorem State.countFld_engP (s : State) (p o hi lo n : Nat) : (s.countFld p o hi lo n).engP = s.engP := rfl
@[simp] theorem State.countFld_engC (s : State) (p o hi lo n : Nat) : (s.countFld p o hi lo n).engC = s.engC := rfl
@[simp] theorem State.countFld_mem (s : State) (p o hi lo n : Nat) : (s.countFld p o hi lo n).mem = s.mem := rfl
@[simp] theorem State.countFld_org (s : State) (p o hi lo n : Nat) : (s.countFld p o hi lo n).org = s.org := rfl
@[simp] theorem State.countFld_arb (s : State) (p o hi lo n : Nat) : (s.countFld p o hi lo n).arb = s.arb := rfl
@[simp] theorem State.countFld_ftn (s : State) (p o hi lo n : Nat) : (s.countFld p o hi lo n).ftn = s.ftn := rfl
@[simp] theorem State.countFld_cln (s : State) (p o hi lo n : Nat) : (s.countFld p o hi lo n).cln = s.cln := rfl
@[simp] theorem State.countFld_nvm (s : State) (p o hi lo n : Nat) : (s.countFld p o hi lo n).nvm = s.nvm := rfl
@[simp] theorem State.countFld_otp (s : State) (p o hi lo n : Nat) : (s.countFld p o hi lo n).otp = s.otp := rfl
@[simp] theorem State.countFld_psh (s : State) (p o hi lo n : Nat) : (s.countFld p o hi lo n).psh = s.psh := rfl
@[simp] theorem State.countFld_ksk (s : State) (p o hi lo n : Nat) : (s.countFld p o hi lo n).ksk = s.ksk := rfl
@[simp] theorem State.countFld_ccp (s : State) (p o hi lo n : Nat) : (s.countFld p o hi lo n).ccp = s.ccp := rfl
@[simp] theorem State.countFld_hif (s : State) (p o hi lo n : Nat) : (s.countFld p o hi lo n).hif = s.hif := rfl
@[simp] theorem State.countFld_dbg (s : State) (p o hi lo n : Nat) : (s.countFld p o hi lo n).dbg = s.dbg := rfl
@[simp] theorem State.countFld_bst (s : State) (p o hi lo n : Nat) : (s.countFld p o hi lo n).bst = s.bst := rfl
@[simp] theorem State.countFld_pending (s : State) (p o hi lo n : Nat) : (s.countFld p o hi lo n).pending = s.pending := rfl

@[simp] theorem State.clearPage_now (s : State) (p : Nat) (keep : Nat → Bool) : (s.clearPage p keep).now = s.now := rfl
@[simp] theorem State.clearPage_freeCtr (s : State) (p : Nat) (keep : Nat → Bool) : (s.clearPage p keep).freeCtr = s.freeCtr := rfl
@[simp] theorem State.clearPage_out (s : State) (p : Nat) (keep : Nat → Bool) : (s.clearPage p keep).out = s.out := rfl
@[simp] theorem State.clearPage_errN (s : State) (p : Nat) (keep : Nat → Bool) : (s.clearPage p keep).errN = s.errN := rfl
@[simp] theorem State.clearPage_msIrqN (s : State) (p : Nat) (keep : Nat → Bool) : (s.clearPage p keep).msIrqN = s.msIrqN := rfl
@[simp] theorem State.clearPage_kfd (s : State) (p : Nat) (keep : Nat → Bool) : (s.clearPage p keep).kfd = s.kfd := rfl
@[simp] theorem State.clearPage_pwr (s : State) (p : Nat) (keep : Nat → Bool) : (s.clearPage p keep).pwr = s.pwr := rfl
@[simp] theorem State.clearPage_ldg (s : State) (p : Nat) (keep : Nat → Bool) : (s.clearPage p keep).ldg = s.ldg := rfl
@[simp] theorem State.clearPage_boot (s : State) (p : Nat) (keep : Nat → Bool) : (s.clearPage p keep).boot = s.boot := rfl
@[simp] theorem State.clearPage_gate (s : State) (p : Nat) (keep : Nat → Bool) : (s.clearPage p keep).gate = s.gate := rfl
@[simp] theorem State.clearPage_blv (s : State) (p : Nat) (keep : Nat → Bool) : (s.clearPage p keep).blv = s.blv := rfl
@[simp] theorem State.clearPage_hdg (s : State) (p : Nat) (keep : Nat → Bool) : (s.clearPage p keep).hdg = s.hdg := rfl
@[simp] theorem State.clearPage_well (s : State) (p : Nat) (keep : Nat → Bool) : (s.clearPage p keep).well = s.well := rfl
@[simp] theorem State.clearPage_sdl (s : State) (p : Nat) (keep : Nat → Bool) : (s.clearPage p keep).sdl = s.sdl := rfl
@[simp] theorem State.clearPage_prm (s : State) (p : Nat) (keep : Nat → Bool) : (s.clearPage p keep).prm = s.prm := rfl
@[simp] theorem State.clearPage_ptr (s : State) (p : Nat) (keep : Nat → Bool) : (s.clearPage p keep).ptr = s.ptr := rfl
@[simp] theorem State.clearPage_pgl (s : State) (p : Nat) (keep : Nat → Bool) : (s.clearPage p keep).pgl = s.pgl := rfl
@[simp] theorem State.clearPage_pav (s : State) (p : Nat) (keep : Nat → Bool) : (s.clearPage p keep).pav = s.pav := rfl
@[simp] theorem State.clearPage_engP (s : State) (p : Nat) (keep : Nat → Bool) : (s.clearPage p keep).engP = s.engP := rfl
@[simp] theorem State.clearPage_engC (s : State) (p : Nat) (keep : Nat → Bool) : (s.clearPage p keep).engC = s.engC := rfl
@[simp] theorem State.clearPage_mem (s : State) (p : Nat) (keep : Nat → Bool) : (s.clearPage p keep).mem = s.mem := rfl
@[simp] theorem State.clearPage_org (s : State) (p : Nat) (keep : Nat → Bool) : (s.clearPage p keep).org = s.org := rfl
@[simp] theorem State.clearPage_arb (s : State) (p : Nat) (keep : Nat → Bool) : (s.clearPage p keep).arb = s.arb := rfl
@[simp] theorem State.clearPage_ftn (s : State) (p : Nat) (keep : Nat → Bool) : (s.clearPage p keep).ftn = s.ftn := rfl
@[simp] theorem State.clearPage_cln (s : State) (p : Nat) (keep : Nat → Bool) : (s.clearPage p keep).cln = s.cln := rfl
@[simp] theorem State.clearPage_nvm (s : State) (p : Nat) (keep : Nat → Bool) : (s.clearPage p keep).nvm = s.nvm := rfl
@[simp] theorem State.clearPage_otp (s : State) (p : Nat) (keep : Nat → Bool) : (s.clearPage p keep).otp = s.otp := rfl
@[simp] theorem State.clearPage_psh (s : State) (p : Nat) (keep : Nat → Bool) : (s.clearPage p keep).psh = s.psh := rfl
@[simp] theorem State.clearPage_ksk (s : State) (p : Nat) (keep : Nat → Bool) : (s.clearPage p keep).ksk = s.ksk := rfl
@[simp] theorem State.clearPage_ccp (s : State) (p : Nat) (keep : Nat → Bool) : (s.clearPage p keep).ccp = s.ccp := rfl
@[simp] theorem State.clearPage_hif (s : State) (p : Nat) (keep : Nat → Bool) : (s.clearPage p keep).hif = s.hif := rfl
@[simp] theorem State.clearPage_dbg (s : State) (p : Nat) (keep : Nat → Bool) : (s.clearPage p keep).dbg = s.dbg := rfl
@[simp] theorem State.clearPage_bst (s : State) (p : Nat) (keep : Nat → Bool) : (s.clearPage p keep).bst = s.bst := rfl
@[simp] theorem State.clearPage_pending (s : State) (p : Nat) (keep : Nat → Bool) : (s.clearPage p keep).pending = s.pending := rfl

@[simp] theorem State.emit_regs (s : State) (e : Emission) : (s.emit e).regs = s.regs := rfl
@[simp] theorem State.emit_now (s : State) (e : Emission) : (s.emit e).now = s.now := rfl
@[simp] theorem State.emit_freeCtr (s : State) (e : Emission) : (s.emit e).freeCtr = s.freeCtr := rfl
@[simp] theorem State.emit_errN (s : State) (e : Emission) : (s.emit e).errN = s.errN := rfl
@[simp] theorem State.emit_msIrqN (s : State) (e : Emission) : (s.emit e).msIrqN = s.msIrqN := rfl
@[simp] theorem State.emit_kfd (s : State) (e : Emission) : (s.emit e).kfd = s.kfd := rfl
@[simp] theorem State.emit_pwr (s : State) (e : Emission) : (s.emit e).pwr = s.pwr := rfl
@[simp] theorem State.emit_ldg (s : State) (e : Emission) : (s.emit e).ldg = s.ldg := rfl
@[simp] theorem State.emit_boot (s : State) (e : Emission) : (s.emit e).boot = s.boot := rfl
@[simp] theorem State.emit_gate (s : State) (e : Emission) : (s.emit e).gate = s.gate := rfl
@[simp] theorem State.emit_blv (s : State) (e : Emission) : (s.emit e).blv = s.blv := rfl
@[simp] theorem State.emit_hdg (s : State) (e : Emission) : (s.emit e).hdg = s.hdg := rfl
@[simp] theorem State.emit_well (s : State) (e : Emission) : (s.emit e).well = s.well := rfl
@[simp] theorem State.emit_sdl (s : State) (e : Emission) : (s.emit e).sdl = s.sdl := rfl
@[simp] theorem State.emit_prm (s : State) (e : Emission) : (s.emit e).prm = s.prm := rfl
@[simp] theorem State.emit_ptr (s : State) (e : Emission) : (s.emit e).ptr = s.ptr := rfl
@[simp] theorem State.emit_pgl (s : State) (e : Emission) : (s.emit e).pgl = s.pgl := rfl
@[simp] theorem State.emit_pav (s : State) (e : Emission) : (s.emit e).pav = s.pav := rfl
@[simp] theorem State.emit_engP (s : State) (e : Emission) : (s.emit e).engP = s.engP := rfl
@[simp] theorem State.emit_engC (s : State) (e : Emission) : (s.emit e).engC = s.engC := rfl
@[simp] theorem State.emit_mem (s : State) (e : Emission) : (s.emit e).mem = s.mem := rfl
@[simp] theorem State.emit_org (s : State) (e : Emission) : (s.emit e).org = s.org := rfl
@[simp] theorem State.emit_arb (s : State) (e : Emission) : (s.emit e).arb = s.arb := rfl
@[simp] theorem State.emit_ftn (s : State) (e : Emission) : (s.emit e).ftn = s.ftn := rfl
@[simp] theorem State.emit_cln (s : State) (e : Emission) : (s.emit e).cln = s.cln := rfl
@[simp] theorem State.emit_nvm (s : State) (e : Emission) : (s.emit e).nvm = s.nvm := rfl
@[simp] theorem State.emit_otp (s : State) (e : Emission) : (s.emit e).otp = s.otp := rfl
@[simp] theorem State.emit_psh (s : State) (e : Emission) : (s.emit e).psh = s.psh := rfl
@[simp] theorem State.emit_ksk (s : State) (e : Emission) : (s.emit e).ksk = s.ksk := rfl
@[simp] theorem State.emit_ccp (s : State) (e : Emission) : (s.emit e).ccp = s.ccp := rfl
@[simp] theorem State.emit_hif (s : State) (e : Emission) : (s.emit e).hif = s.hif := rfl
@[simp] theorem State.emit_dbg (s : State) (e : Emission) : (s.emit e).dbg = s.dbg := rfl
@[simp] theorem State.emit_bst (s : State) (e : Emission) : (s.emit e).bst = s.bst := rfl
@[simp] theorem State.emit_pending (s : State) (e : Emission) : (s.emit e).pending = s.pending := rfl

@[simp] theorem State.report_regs (s : State) (r : Report) : (s.report r).regs = s.regs := rfl
@[simp] theorem State.report_now (s : State) (r : Report) : (s.report r).now = s.now := rfl
@[simp] theorem State.report_freeCtr (s : State) (r : Report) : (s.report r).freeCtr = s.freeCtr := rfl
@[simp] theorem State.report_out (s : State) (r : Report) : (s.report r).out = s.out := rfl
@[simp] theorem State.report_errN (s : State) (r : Report) : (s.report r).errN = s.errN := rfl
@[simp] theorem State.report_msIrqN (s : State) (r : Report) : (s.report r).msIrqN = s.msIrqN := rfl
@[simp] theorem State.report_kfd (s : State) (r : Report) : (s.report r).kfd = s.kfd := rfl
@[simp] theorem State.report_pwr (s : State) (r : Report) : (s.report r).pwr = s.pwr := rfl
@[simp] theorem State.report_ldg (s : State) (r : Report) : (s.report r).ldg = s.ldg := rfl
@[simp] theorem State.report_boot (s : State) (r : Report) : (s.report r).boot = s.boot := rfl
@[simp] theorem State.report_gate (s : State) (r : Report) : (s.report r).gate = s.gate := rfl
@[simp] theorem State.report_hdg (s : State) (r : Report) : (s.report r).hdg = s.hdg := rfl
@[simp] theorem State.report_well (s : State) (r : Report) : (s.report r).well = s.well := rfl
@[simp] theorem State.report_sdl (s : State) (r : Report) : (s.report r).sdl = s.sdl := rfl
@[simp] theorem State.report_prm (s : State) (r : Report) : (s.report r).prm = s.prm := rfl
@[simp] theorem State.report_ptr (s : State) (r : Report) : (s.report r).ptr = s.ptr := rfl
@[simp] theorem State.report_pgl (s : State) (r : Report) : (s.report r).pgl = s.pgl := rfl
@[simp] theorem State.report_pav (s : State) (r : Report) : (s.report r).pav = s.pav := rfl
@[simp] theorem State.report_engP (s : State) (r : Report) : (s.report r).engP = s.engP := rfl
@[simp] theorem State.report_engC (s : State) (r : Report) : (s.report r).engC = s.engC := rfl
@[simp] theorem State.report_mem (s : State) (r : Report) : (s.report r).mem = s.mem := rfl
@[simp] theorem State.report_org (s : State) (r : Report) : (s.report r).org = s.org := rfl
@[simp] theorem State.report_arb (s : State) (r : Report) : (s.report r).arb = s.arb := rfl
@[simp] theorem State.report_ftn (s : State) (r : Report) : (s.report r).ftn = s.ftn := rfl
@[simp] theorem State.report_cln (s : State) (r : Report) : (s.report r).cln = s.cln := rfl
@[simp] theorem State.report_nvm (s : State) (r : Report) : (s.report r).nvm = s.nvm := rfl
@[simp] theorem State.report_otp (s : State) (r : Report) : (s.report r).otp = s.otp := rfl
@[simp] theorem State.report_psh (s : State) (r : Report) : (s.report r).psh = s.psh := rfl
@[simp] theorem State.report_ksk (s : State) (r : Report) : (s.report r).ksk = s.ksk := rfl
@[simp] theorem State.report_ccp (s : State) (r : Report) : (s.report r).ccp = s.ccp := rfl
@[simp] theorem State.report_hif (s : State) (r : Report) : (s.report r).hif = s.hif := rfl
@[simp] theorem State.report_dbg (s : State) (r : Report) : (s.report r).dbg = s.dbg := rfl
@[simp] theorem State.report_bst (s : State) (r : Report) : (s.report r).bst = s.bst := rfl
@[simp] theorem State.report_pending (s : State) (r : Report) : (s.report r).pending = s.pending := rfl

@[simp] theorem State.faultItem_now (s : State) (p n kind item want : Nat) : (s.faultItem p n kind item want).now = s.now := rfl
@[simp] theorem State.faultItem_freeCtr (s : State) (p n kind item want : Nat) : (s.faultItem p n kind item want).freeCtr = s.freeCtr := rfl
@[simp] theorem State.faultItem_out (s : State) (p n kind item want : Nat) : (s.faultItem p n kind item want).out = s.out := rfl
@[simp] theorem State.faultItem_errN (s : State) (p n kind item want : Nat) : (s.faultItem p n kind item want).errN = s.errN := rfl
@[simp] theorem State.faultItem_msIrqN (s : State) (p n kind item want : Nat) : (s.faultItem p n kind item want).msIrqN = s.msIrqN := rfl
@[simp] theorem State.faultItem_kfd (s : State) (p n kind item want : Nat) : (s.faultItem p n kind item want).kfd = s.kfd := rfl
@[simp] theorem State.faultItem_pwr (s : State) (p n kind item want : Nat) : (s.faultItem p n kind item want).pwr = s.pwr := rfl
@[simp] theorem State.faultItem_ldg (s : State) (p n kind item want : Nat) : (s.faultItem p n kind item want).ldg = s.ldg := rfl
@[simp] theorem State.faultItem_boot (s : State) (p n kind item want : Nat) : (s.faultItem p n kind item want).boot = s.boot := rfl
@[simp] theorem State.faultItem_gate (s : State) (p n kind item want : Nat) : (s.faultItem p n kind item want).gate = s.gate := rfl
@[simp] theorem State.faultItem_hdg (s : State) (p n kind item want : Nat) : (s.faultItem p n kind item want).hdg = s.hdg := rfl
@[simp] theorem State.faultItem_well (s : State) (p n kind item want : Nat) : (s.faultItem p n kind item want).well = s.well := rfl
@[simp] theorem State.faultItem_sdl (s : State) (p n kind item want : Nat) : (s.faultItem p n kind item want).sdl = s.sdl := rfl
@[simp] theorem State.faultItem_prm (s : State) (p n kind item want : Nat) : (s.faultItem p n kind item want).prm = s.prm := rfl
@[simp] theorem State.faultItem_ptr (s : State) (p n kind item want : Nat) : (s.faultItem p n kind item want).ptr = s.ptr := rfl
@[simp] theorem State.faultItem_pgl (s : State) (p n kind item want : Nat) : (s.faultItem p n kind item want).pgl = s.pgl := rfl
@[simp] theorem State.faultItem_pav (s : State) (p n kind item want : Nat) : (s.faultItem p n kind item want).pav = s.pav := rfl
@[simp] theorem State.faultItem_engP (s : State) (p n kind item want : Nat) : (s.faultItem p n kind item want).engP = s.engP := rfl
@[simp] theorem State.faultItem_engC (s : State) (p n kind item want : Nat) : (s.faultItem p n kind item want).engC = s.engC := rfl
@[simp] theorem State.faultItem_mem (s : State) (p n kind item want : Nat) : (s.faultItem p n kind item want).mem = s.mem := rfl
@[simp] theorem State.faultItem_org (s : State) (p n kind item want : Nat) : (s.faultItem p n kind item want).org = s.org := rfl
@[simp] theorem State.faultItem_arb (s : State) (p n kind item want : Nat) : (s.faultItem p n kind item want).arb = s.arb := rfl
@[simp] theorem State.faultItem_ftn (s : State) (p n kind item want : Nat) : (s.faultItem p n kind item want).ftn = s.ftn := rfl
@[simp] theorem State.faultItem_cln (s : State) (p n kind item want : Nat) : (s.faultItem p n kind item want).cln = s.cln := rfl
@[simp] theorem State.faultItem_nvm (s : State) (p n kind item want : Nat) : (s.faultItem p n kind item want).nvm = s.nvm := rfl
@[simp] theorem State.faultItem_otp (s : State) (p n kind item want : Nat) : (s.faultItem p n kind item want).otp = s.otp := rfl
@[simp] theorem State.faultItem_psh (s : State) (p n kind item want : Nat) : (s.faultItem p n kind item want).psh = s.psh := rfl
@[simp] theorem State.faultItem_ksk (s : State) (p n kind item want : Nat) : (s.faultItem p n kind item want).ksk = s.ksk := rfl
@[simp] theorem State.faultItem_ccp (s : State) (p n kind item want : Nat) : (s.faultItem p n kind item want).ccp = s.ccp := rfl
@[simp] theorem State.faultItem_hif (s : State) (p n kind item want : Nat) : (s.faultItem p n kind item want).hif = s.hif := rfl
@[simp] theorem State.faultItem_dbg (s : State) (p n kind item want : Nat) : (s.faultItem p n kind item want).dbg = s.dbg := rfl
@[simp] theorem State.faultItem_bst (s : State) (p n kind item want : Nat) : (s.faultItem p n kind item want).bst = s.bst := rfl
@[simp] theorem State.faultItem_pending (s : State) (p n kind item want : Nat) : (s.faultItem p n kind item want).pending = s.pending := rfl

@[simp] theorem State.fault_now (s : State) (p n : Nat) : (s.fault p n).now = s.now := rfl
@[simp] theorem State.fault_freeCtr (s : State) (p n : Nat) : (s.fault p n).freeCtr = s.freeCtr := rfl
@[simp] theorem State.fault_out (s : State) (p n : Nat) : (s.fault p n).out = s.out := rfl
@[simp] theorem State.fault_errN (s : State) (p n : Nat) : (s.fault p n).errN = s.errN := rfl
@[simp] theorem State.fault_msIrqN (s : State) (p n : Nat) : (s.fault p n).msIrqN = s.msIrqN := rfl
@[simp] theorem State.fault_kfd (s : State) (p n : Nat) : (s.fault p n).kfd = s.kfd := rfl
@[simp] theorem State.fault_pwr (s : State) (p n : Nat) : (s.fault p n).pwr = s.pwr := rfl
@[simp] theorem State.fault_ldg (s : State) (p n : Nat) : (s.fault p n).ldg = s.ldg := rfl
@[simp] theorem State.fault_boot (s : State) (p n : Nat) : (s.fault p n).boot = s.boot := rfl
@[simp] theorem State.fault_gate (s : State) (p n : Nat) : (s.fault p n).gate = s.gate := rfl
@[simp] theorem State.fault_hdg (s : State) (p n : Nat) : (s.fault p n).hdg = s.hdg := rfl
@[simp] theorem State.fault_well (s : State) (p n : Nat) : (s.fault p n).well = s.well := rfl
@[simp] theorem State.fault_sdl (s : State) (p n : Nat) : (s.fault p n).sdl = s.sdl := rfl
@[simp] theorem State.fault_prm (s : State) (p n : Nat) : (s.fault p n).prm = s.prm := rfl
@[simp] theorem State.fault_ptr (s : State) (p n : Nat) : (s.fault p n).ptr = s.ptr := rfl
@[simp] theorem State.fault_pgl (s : State) (p n : Nat) : (s.fault p n).pgl = s.pgl := rfl
@[simp] theorem State.fault_pav (s : State) (p n : Nat) : (s.fault p n).pav = s.pav := rfl
@[simp] theorem State.fault_engP (s : State) (p n : Nat) : (s.fault p n).engP = s.engP := rfl
@[simp] theorem State.fault_engC (s : State) (p n : Nat) : (s.fault p n).engC = s.engC := rfl
@[simp] theorem State.fault_mem (s : State) (p n : Nat) : (s.fault p n).mem = s.mem := rfl
@[simp] theorem State.fault_org (s : State) (p n : Nat) : (s.fault p n).org = s.org := rfl
@[simp] theorem State.fault_arb (s : State) (p n : Nat) : (s.fault p n).arb = s.arb := rfl
@[simp] theorem State.fault_ftn (s : State) (p n : Nat) : (s.fault p n).ftn = s.ftn := rfl
@[simp] theorem State.fault_cln (s : State) (p n : Nat) : (s.fault p n).cln = s.cln := rfl
@[simp] theorem State.fault_nvm (s : State) (p n : Nat) : (s.fault p n).nvm = s.nvm := rfl
@[simp] theorem State.fault_otp (s : State) (p n : Nat) : (s.fault p n).otp = s.otp := rfl
@[simp] theorem State.fault_psh (s : State) (p n : Nat) : (s.fault p n).psh = s.psh := rfl
@[simp] theorem State.fault_ksk (s : State) (p n : Nat) : (s.fault p n).ksk = s.ksk := rfl
@[simp] theorem State.fault_ccp (s : State) (p n : Nat) : (s.fault p n).ccp = s.ccp := rfl
@[simp] theorem State.fault_hif (s : State) (p n : Nat) : (s.fault p n).hif = s.hif := rfl
@[simp] theorem State.fault_dbg (s : State) (p n : Nat) : (s.fault p n).dbg = s.dbg := rfl
@[simp] theorem State.fault_bst (s : State) (p n : Nat) : (s.fault p n).bst = s.bst := rfl
@[simp] theorem State.fault_pending (s : State) (p n : Nat) : (s.fault p n).pending = s.pending := rfl

@[simp] theorem State.irq_now (s : State) (i : Nat) : (s.irq i).now = s.now := rfl
@[simp] theorem State.irq_freeCtr (s : State) (i : Nat) : (s.irq i).freeCtr = s.freeCtr := rfl
@[simp] theorem State.irq_out (s : State) (i : Nat) : (s.irq i).out = s.out := rfl
@[simp] theorem State.irq_errN (s : State) (i : Nat) : (s.irq i).errN = s.errN := rfl
@[simp] theorem State.irq_msIrqN (s : State) (i : Nat) : (s.irq i).msIrqN = s.msIrqN := rfl
@[simp] theorem State.irq_kfd (s : State) (i : Nat) : (s.irq i).kfd = s.kfd := rfl
@[simp] theorem State.irq_pwr (s : State) (i : Nat) : (s.irq i).pwr = s.pwr := rfl
@[simp] theorem State.irq_ldg (s : State) (i : Nat) : (s.irq i).ldg = s.ldg := rfl
@[simp] theorem State.irq_boot (s : State) (i : Nat) : (s.irq i).boot = s.boot := rfl
@[simp] theorem State.irq_gate (s : State) (i : Nat) : (s.irq i).gate = s.gate := rfl
@[simp] theorem State.irq_blv (s : State) (i : Nat) : (s.irq i).blv = s.blv := rfl
@[simp] theorem State.irq_hdg (s : State) (i : Nat) : (s.irq i).hdg = s.hdg := rfl
@[simp] theorem State.irq_well (s : State) (i : Nat) : (s.irq i).well = s.well := rfl
@[simp] theorem State.irq_sdl (s : State) (i : Nat) : (s.irq i).sdl = s.sdl := rfl
@[simp] theorem State.irq_prm (s : State) (i : Nat) : (s.irq i).prm = s.prm := rfl
@[simp] theorem State.irq_ptr (s : State) (i : Nat) : (s.irq i).ptr = s.ptr := rfl
@[simp] theorem State.irq_pgl (s : State) (i : Nat) : (s.irq i).pgl = s.pgl := rfl
@[simp] theorem State.irq_pav (s : State) (i : Nat) : (s.irq i).pav = s.pav := rfl
@[simp] theorem State.irq_engP (s : State) (i : Nat) : (s.irq i).engP = s.engP := rfl
@[simp] theorem State.irq_engC (s : State) (i : Nat) : (s.irq i).engC = s.engC := rfl
@[simp] theorem State.irq_mem (s : State) (i : Nat) : (s.irq i).mem = s.mem := rfl
@[simp] theorem State.irq_org (s : State) (i : Nat) : (s.irq i).org = s.org := rfl
@[simp] theorem State.irq_arb (s : State) (i : Nat) : (s.irq i).arb = s.arb := rfl
@[simp] theorem State.irq_ftn (s : State) (i : Nat) : (s.irq i).ftn = s.ftn := rfl
@[simp] theorem State.irq_cln (s : State) (i : Nat) : (s.irq i).cln = s.cln := rfl
@[simp] theorem State.irq_nvm (s : State) (i : Nat) : (s.irq i).nvm = s.nvm := rfl
@[simp] theorem State.irq_otp (s : State) (i : Nat) : (s.irq i).otp = s.otp := rfl
@[simp] theorem State.irq_psh (s : State) (i : Nat) : (s.irq i).psh = s.psh := rfl
@[simp] theorem State.irq_ksk (s : State) (i : Nat) : (s.irq i).ksk = s.ksk := rfl
@[simp] theorem State.irq_ccp (s : State) (i : Nat) : (s.irq i).ccp = s.ccp := rfl
@[simp] theorem State.irq_hif (s : State) (i : Nat) : (s.irq i).hif = s.hif := rfl
@[simp] theorem State.irq_dbg (s : State) (i : Nat) : (s.irq i).dbg = s.dbg := rfl
@[simp] theorem State.irq_bst (s : State) (i : Nat) : (s.irq i).bst = s.bst := rfl
@[simp] theorem State.irq_pending (s : State) (i : Nat) : (s.irq i).pending = s.pending := rfl

@[simp] theorem State.accMark_regs (s : State) (m : Nat) : (s.accMark m).regs = s.regs := rfl
@[simp] theorem State.accMark_now (s : State) (m : Nat) : (s.accMark m).now = s.now := rfl
@[simp] theorem State.accMark_freeCtr (s : State) (m : Nat) : (s.accMark m).freeCtr = s.freeCtr := rfl
@[simp] theorem State.accMark_out (s : State) (m : Nat) : (s.accMark m).out = s.out := rfl
@[simp] theorem State.accMark_errN (s : State) (m : Nat) : (s.accMark m).errN = s.errN := rfl
@[simp] theorem State.accMark_msIrqN (s : State) (m : Nat) : (s.accMark m).msIrqN = s.msIrqN := rfl
@[simp] theorem State.accMark_kfd (s : State) (m : Nat) : (s.accMark m).kfd = s.kfd := rfl
@[simp] theorem State.accMark_pwr (s : State) (m : Nat) : (s.accMark m).pwr = s.pwr := rfl
@[simp] theorem State.accMark_ldg (s : State) (m : Nat) : (s.accMark m).ldg = s.ldg := rfl
@[simp] theorem State.accMark_boot (s : State) (m : Nat) : (s.accMark m).boot = s.boot := rfl
@[simp] theorem State.accMark_blv (s : State) (m : Nat) : (s.accMark m).blv = s.blv := rfl
@[simp] theorem State.accMark_hdg (s : State) (m : Nat) : (s.accMark m).hdg = s.hdg := rfl
@[simp] theorem State.accMark_well (s : State) (m : Nat) : (s.accMark m).well = s.well := rfl
@[simp] theorem State.accMark_sdl (s : State) (m : Nat) : (s.accMark m).sdl = s.sdl := rfl
@[simp] theorem State.accMark_prm (s : State) (m : Nat) : (s.accMark m).prm = s.prm := rfl
@[simp] theorem State.accMark_ptr (s : State) (m : Nat) : (s.accMark m).ptr = s.ptr := rfl
@[simp] theorem State.accMark_pgl (s : State) (m : Nat) : (s.accMark m).pgl = s.pgl := rfl
@[simp] theorem State.accMark_pav (s : State) (m : Nat) : (s.accMark m).pav = s.pav := rfl
@[simp] theorem State.accMark_engP (s : State) (m : Nat) : (s.accMark m).engP = s.engP := rfl
@[simp] theorem State.accMark_engC (s : State) (m : Nat) : (s.accMark m).engC = s.engC := rfl
@[simp] theorem State.accMark_mem (s : State) (m : Nat) : (s.accMark m).mem = s.mem := rfl
@[simp] theorem State.accMark_org (s : State) (m : Nat) : (s.accMark m).org = s.org := rfl
@[simp] theorem State.accMark_arb (s : State) (m : Nat) : (s.accMark m).arb = s.arb := rfl
@[simp] theorem State.accMark_ftn (s : State) (m : Nat) : (s.accMark m).ftn = s.ftn := rfl
@[simp] theorem State.accMark_cln (s : State) (m : Nat) : (s.accMark m).cln = s.cln := rfl
@[simp] theorem State.accMark_nvm (s : State) (m : Nat) : (s.accMark m).nvm = s.nvm := rfl
@[simp] theorem State.accMark_otp (s : State) (m : Nat) : (s.accMark m).otp = s.otp := rfl
@[simp] theorem State.accMark_psh (s : State) (m : Nat) : (s.accMark m).psh = s.psh := rfl
@[simp] theorem State.accMark_ksk (s : State) (m : Nat) : (s.accMark m).ksk = s.ksk := rfl
@[simp] theorem State.accMark_ccp (s : State) (m : Nat) : (s.accMark m).ccp = s.ccp := rfl
@[simp] theorem State.accMark_hif (s : State) (m : Nat) : (s.accMark m).hif = s.hif := rfl
@[simp] theorem State.accMark_dbg (s : State) (m : Nat) : (s.accMark m).dbg = s.dbg := rfl
@[simp] theorem State.accMark_bst (s : State) (m : Nat) : (s.accMark m).bst = s.bst := rfl
@[simp] theorem State.accMark_pending (s : State) (m : Nat) : (s.accMark m).pending = s.pending := rfl

@[simp] theorem State.settle_now (s : State) : (s.settle).now = s.now := rfl
@[simp] theorem State.settle_freeCtr (s : State) : (s.settle).freeCtr = s.freeCtr := rfl
@[simp] theorem State.settle_kfd (s : State) : (s.settle).kfd = s.kfd := rfl
@[simp] theorem State.settle_pwr (s : State) : (s.settle).pwr = s.pwr := rfl
@[simp] theorem State.settle_ldg (s : State) : (s.settle).ldg = s.ldg := rfl
@[simp] theorem State.settle_boot (s : State) : (s.settle).boot = s.boot := rfl
@[simp] theorem State.settle_gate (s : State) : (s.settle).gate = s.gate := rfl
@[simp] theorem State.settle_blv (s : State) : (s.settle).blv = s.blv := rfl
@[simp] theorem State.settle_hdg (s : State) : (s.settle).hdg = s.hdg := rfl
@[simp] theorem State.settle_well (s : State) : (s.settle).well = s.well := rfl
@[simp] theorem State.settle_sdl (s : State) : (s.settle).sdl = s.sdl := rfl
@[simp] theorem State.settle_prm (s : State) : (s.settle).prm = s.prm := rfl
@[simp] theorem State.settle_ptr (s : State) : (s.settle).ptr = s.ptr := rfl
@[simp] theorem State.settle_pgl (s : State) : (s.settle).pgl = s.pgl := rfl
@[simp] theorem State.settle_pav (s : State) : (s.settle).pav = s.pav := rfl
@[simp] theorem State.settle_engP (s : State) : (s.settle).engP = s.engP := rfl
@[simp] theorem State.settle_engC (s : State) : (s.settle).engC = s.engC := rfl
@[simp] theorem State.settle_mem (s : State) : (s.settle).mem = s.mem := rfl
@[simp] theorem State.settle_org (s : State) : (s.settle).org = s.org := rfl
@[simp] theorem State.settle_arb (s : State) : (s.settle).arb = s.arb := rfl
@[simp] theorem State.settle_ftn (s : State) : (s.settle).ftn = s.ftn := rfl
@[simp] theorem State.settle_cln (s : State) : (s.settle).cln = s.cln := rfl
@[simp] theorem State.settle_nvm (s : State) : (s.settle).nvm = s.nvm := rfl
@[simp] theorem State.settle_otp (s : State) : (s.settle).otp = s.otp := rfl
@[simp] theorem State.settle_psh (s : State) : (s.settle).psh = s.psh := rfl
@[simp] theorem State.settle_ksk (s : State) : (s.settle).ksk = s.ksk := rfl
@[simp] theorem State.settle_ccp (s : State) : (s.settle).ccp = s.ccp := rfl
@[simp] theorem State.settle_hif (s : State) : (s.settle).hif = s.hif := rfl
@[simp] theorem State.settle_dbg (s : State) : (s.settle).dbg = s.dbg := rfl
@[simp] theorem State.settle_bst (s : State) : (s.settle).bst = s.bst := rfl
@[simp] theorem State.settle_pending (s : State) : (s.settle).pending = s.pending := rfl

@[simp] theorem State.emit_out (s : State) (e : Emission) : (s.emit e).out = s.out ++ [e] := rfl
@[simp] theorem State.report_incoming (s : State) (r : Report) :
    (s.report r).blv.incoming = s.blv.incoming ++ [r] := rfl
@[simp] theorem State.emit_reg (s : State) (e : Emission) (p o : Nat) : (s.emit e).reg p o = s.reg p o := rfl
@[simp] theorem State.report_reg (s : State) (r : Report) (p o : Nat) : (s.report r).reg p o = s.reg p o := rfl

/-! What registers, fields and flags read -/

theorem State.reg_def (s : State) (p o : Nat) : s.reg p o = smGet regDflt s.regs (regKey p o) := rfl
theorem State.fld_def (s : State) (p o hi lo : Nat) : s.fld p o hi lo = bits (s.reg p o) hi lo := rfl
theorem State.flag_def (s : State) (p o i : Nat) : s.flag p o i = bitAt (s.reg p o) i := rfl

/-- Page offsets lie below 0x1000, so keys tell registers apart. -/
theorem regKey_inj {p q o u : Nat} (ho : o < 0x1000) (hu : u < 0x1000) :
    regKey p o = regKey q u ↔ p = q ∧ o = u := by
  unfold regKey; omega

theorem State.reg_setReg (s : State) (p o q u : Nat) (w : Word) :
    (s.setReg p o w).reg q u = if regKey q u = regKey p o then w else s.reg q u := by
  simp [State.reg, State.setReg]

/-- A register written reads as written. -/
@[simp] theorem State.reg_setReg_same (s : State) (p o : Nat) (w : Word) : (s.setReg p o w).reg p o = w := by
  simp [State.reg_setReg]

/-- Bit j of a word with field [hi:lo] replaced. -/
theorem bitAt_putBits (w : Word) (hi lo v j : Nat) (h : hi < 32) :
    bitAt (putBits w hi lo v) j = if lo ≤ j ∧ j ≤ hi then v.testBit (j - lo) else bitAt w j := by
  unfold bitAt putBits fieldMask
  by_cases hj : j < 32
  · have e1 : (2 ^ (hi + 1 - lo) - 1).testBit (j - lo) = decide (j - lo < hi + 1 - lo) := Nat.testBit_two_pow_sub_one ..
    have e2 : (v % 2 ^ (hi + 1 - lo)).testBit (j - lo) = (decide (j - lo < hi + 1 - lo) && v.testBit (j - lo)) :=
      Nat.testBit_mod_two_pow ..
    simp only [BitVec.getLsbD_or, BitVec.getLsbD_and, BitVec.getLsbD_not, BitVec.getLsbD_ofNat, Nat.testBit_shiftLeft, hj, e1, e2]
    by_cases h1 : lo ≤ j
    · by_cases h2 : j ≤ hi
      · have h3 : j - lo < hi + 1 - lo := by omega
        simp [h1, h2, h3]
      · have h3 : ¬ j - lo < hi + 1 - lo := by omega
        simp [h1, h2, h3]
    · simp [h1]
  · have hn : ¬ (lo ≤ j ∧ j ≤ hi) := by omega
    rw [if_neg hn]
    simp [BitVec.getLsbD_of_ge _ _ (Nat.le_of_not_lt hj)]

/-- The field just put reads as the value cut to it. -/
@[simp] theorem bits_putBits (w : Word) (hi lo v : Nat) (h : hi < 32) (hl : lo ≤ hi) :
    bits (putBits w hi lo v) hi lo = v % 2 ^ (hi + 1 - lo) := by
  apply Nat.eq_of_testBit_eq
  intro i
  have e := bitAt_putBits w hi lo v (lo + i) h
  unfold bitAt at e
  rw [BitVec.getLsbD] at e
  simp only [bits, Nat.testBit_mod_two_pow, Nat.testBit_shiftRight, e]
  by_cases hi' : i < hi + 1 - lo
  · rw [if_pos (by omega)]; simp [hi']
  · simp [hi']

/-- A field apart from the one put reads as before. -/
theorem bits_putBits_other (w : Word) (hi lo v h2 l2 : Nat) (h : hi < 32) (hd : h2 < lo ∨ hi < l2) :
    bits (putBits w hi lo v) h2 l2 = bits w h2 l2 := by
  apply Nat.eq_of_testBit_eq
  intro i
  have e := bitAt_putBits w hi lo v (l2 + i) h
  unfold bitAt at e
  simp only [BitVec.getLsbD] at e
  simp only [bits, Nat.testBit_mod_two_pow, Nat.testBit_shiftRight, e]
  by_cases hi' : i < h2 + 1 - l2
  · rw [if_neg (by omega)]
  · simp [hi']

/-- Bit j after bit i took a value. -/
theorem bitAt_putBits_bit (w : Word) (i j : Nat) (b : Bool) (h : i < 32) :
    bitAt (putBits w i i (b2n b)) j = if j = i then b else bitAt w j := by
  rw [bitAt_putBits w i i (b2n b) j h]
  by_cases hj : j = i
  · subst hj; cases b <;> simp [b2n]
  · rw [if_neg (by omega), if_neg hj]

/-- Words that agree on a field's bits have the field in common. -/
theorem bits_congr {a b : Word} {hi lo : Nat} (h : ∀ j, lo ≤ j → j ≤ hi → bitAt a j = bitAt b j) : bits a hi lo = bits b hi lo := by
  apply Nat.eq_of_testBit_eq
  intro i
  unfold bitAt at h
  simp only [BitVec.getLsbD] at h
  simp only [bits, Nat.testBit_mod_two_pow, Nat.testBit_shiftRight]
  by_cases hi' : i < hi + 1 - lo
  · rw [h (lo + i) (by omega) (by omega)]
  · simp [hi']

@[simp] theorem State.reg_setFld_same (s : State) (p o hi lo v : Nat) :
    (s.setFld p o hi lo v).reg p o = putBits (s.reg p o) hi lo v := by simp [State.setFld]

theorem State.reg_setFld (s : State) (p o hi lo v q u : Nat) :
    (s.setFld p o hi lo v).reg q u = if regKey q u = regKey p o then putBits (s.reg p o) hi lo v else s.reg q u := by
  simp [State.setFld, State.reg_setReg]

/-- A flag set or cleared reads so. -/
@[simp] theorem State.flag_setFlag_same (s : State) (p o i : Nat) (b : Bool) (h : i < 32) :
    (s.setFlag p o i b).flag p o i = b := by
  simp [State.flag, State.setFlag, bitAt_putBits_bit _ _ _ _ h]

/-- Flags of other registers, and other flags of this one, read as before. -/
theorem State.flag_setFlag (s : State) (p o i q u j : Nat) (b : Bool) (h : i < 32) :
    (s.setFlag p o i b).flag q u j = if regKey q u = regKey p o ∧ j = i then b else s.flag q u j := by
  unfold State.flag State.setFlag
  rw [State.reg_setFld]
  by_cases hk : regKey q u = regKey p o
  · have hr : s.reg q u = s.reg p o := by simp [State.reg, hk]
    rw [if_pos hk, bitAt_putBits_bit _ _ _ _ h, hr]
    by_cases hj : j = i <;> simp [hk, hj]
  · simp [hk]

theorem State.reg_setFlag (s : State) (p o i q u : Nat) (b : Bool) :
    (s.setFlag p o i b).reg q u = if regKey q u = regKey p o then putBits (s.reg p o) i i (b2n b) else s.reg q u := by
  simp [State.setFlag, State.reg_setFld]

/-- A cause that arises sets its FLT_STA bit. -/
theorem State.fault_flag (s : State) (p n : Nat) (h : n < 32) : (s.fault p n).flag p Reg.Hdr.FLT_STA n = true := by
  simp only [State.fault, State.faultItem, State.faultWith, State.flag_def, State.report_reg]
  rw [← State.flag_def]
  exact State.flag_setFlag_same _ _ _ _ _ h

/-! Settling -/

/-- The pins follow the state, and CCP_IP the level sources alone. -/
theorem State.settle_reg (s : State) (p o : Nat) :
    s.settle.reg p o = if regKey p o = regKey pCcp Reg.Ccp.CCP_IP then s.reg pCcp Reg.Ccp.CCP_IP ||| levelIrqs s else s.reg p o := by
  show (s.setReg pCcp Reg.Ccp.CCP_IP _).reg p o = _
  rw [State.reg_setReg]

@[simp] theorem State.settle_errN (s : State) : s.settle.errN = errLow (s.setReg pCcp Reg.Ccp.CCP_IP (s.reg pCcp Reg.Ccp.CCP_IP ||| levelIrqs s)) := rfl

/-- A register other than CCP_IP reads after a command as its effect left it. -/
theorem State.settle_reg_other (s : State) (p o : Nat) (h : regKey p o ≠ regKey pCcp Reg.Ccp.CCP_IP) :
    s.settle.reg p o = s.reg p o := by
  rw [State.settle_reg, if_neg h]

/-- What a command answers: its effect on a state whose wires are empty, settled, with the queue it found. -/
theorem run_eq (s : State) (f : State → State) :
    run s f = .next { (f { s with out := [] }).settle with pending := s.pending } := rfl

theorem runIf_true (s : State) (f : State → State) (ok : Bool) (h : ok = true) : runIf ok s f = run s f := by
  simp [runIf, h]

theorem runIf_false (s : State) (f : State → State) (ok : Bool) (h : ok = false) :
    runIf ok s f = .fault .illFormed := by simp [runIf, h]

/-- `run` answers a next state for certain. -/
theorem run_next {s t : State} {f : State → State} (h : run s f = .next t) :
    t = { (f { s with out := [] }).settle with pending := s.pending } := by
  rw [run_eq] at h
  injection h with h
  exact h.symm

end Sys2Proof.Machine
end

