-- ==== Sys2Proof/Laws/Access.lean ====
section
/-!
SUPPORT. Accesses that reach their register: a write that reaches a plain register is that block's write, a read that reaches a page is
that page's read.
-/
namespace Sys2Proof.Machine

theorem regAt_pageNo {p o : Nat} (ho : o < 0x1000) : pageNo (regAt p o) = p := by
  unfold pageNo regAt; omega

theorem regAt_pageOfs {p o : Nat} (ho : o < 0x1000) : pageOfs (regAt p o) = o := by
  unfold pageOfs regAt; omega

theorem regAt_regAddr {p o : Nat} (hp : p < 0x1000) (ho : o < 0x1000) (h4 : o % 4 = 0) : regAddr (regAt p o) = true := by
  unfold regAddr inPages regAt
  simp only [Bool.and_eq_true, decide_eq_true_eq]
  omega

theorem State.released_nil {s : State} (h : s.gate.held = []) : s.released = s := by
  unfold State.released; rw [h]; rfl

theorem State.proxyNet_none {s : State} (h : s.gate.proxy = none) : s.proxyNet = s := by
  unfold State.proxyNet; rw [h]

theorem shadowOf_low {p o : Nat} (h : o < 0x800) : shadowOf p o = none := by
  unfold shadowOf; rw [if_pos h]

/-- The state in which an access finds its register: nothing has befallen it yet. -/
def State.arrive (s : State) : State := { s with gate.acc := [] }

/-- A write that reaches a plain register is the block's write of it; what waited at the Gatehouse goes on after it. -/
theorem busWrite_reaches {s : State} {port : Port} {p o : Nat} {v : Word} {b : Blk} {n : Nat}
    (h : WriteReaches s port p o) (hb : blkOf p = some (b, n)) (hr : plainReg p o = true) (ha : s.absentPort b n o = false) :
    s.portWrite port p o v = (s.arrive.blockWrite port b n p o v).released.proxyNet := by
  obtain ⟨hup, ⟨hpairs, hheld, hproxy, hbst⟩, hm, hadm, hbusy, hchk⟩ := h
  simp only [plainReg, Bool.and_eq_true, decide_eq_true_eq] at hr
  obtain ⟨⟨⟨⟨hp, ho1⟩, ho2⟩, ho4⟩, hspec⟩ := hr
  have ho : o < 0x1000 := by omega
  unfold State.portWrite State.busWrite
  simp only [regAt_regAddr hp ho ho4, regAt_pageNo ho, regAt_pageOfs ho]
  have hup' : ({ s with gate.acc := [] } : State).fabricUp = true := hup
  simp only [hup', Bool.not_true, Bool.false_eq_true, if_false]
  unfold State.writeAt
  simp only [hb]
  simp only [portAdmits, hb, Bool.and_eq_true, Bool.or_eq_true, bne_iff_ne, ne_eq, beq_iff_eq, Bool.not_eq_true'] at hadm
  have hfly : ¬ (b = .fly ∧ port ≠ .host ∧ port ≠ .maint) := by
    rintro ⟨h1, h2, h3⟩
    rcases hadm.2 with (h4 | h4) | h4
    · exact h4 h1
    · exact h2 h4
    · exact h3 h4
  have hm' : (({ s with gate.acc := [] } : State).masks (indexOf p)).writes port = true := hm
  rw [if_neg hfly]
  simp only [hm', Bool.not_true, Bool.false_eq_true, if_false]
  unfold State.passOn
  have hw : ({ s with gate.acc := [] } : State).waits port p o = false := by
    unfold State.waits
    simp [hpairs]
  rw [hw]
  simp only [Bool.false_eq_true, if_false]
  unfold State.deliver
  have h1 : ¬ (({ s with gate.acc := [] } : State).flag p Reg.Hdr.STA 2 = true ∧ o ≠ Reg.Hdr.FLT_STA) := by
    rintro ⟨h, _⟩
    have : s.flag p Reg.Hdr.STA 2 = true := h
    rw [hbusy] at this; cases this
  have h2 : ({ s with gate.acc := [] } : State).bstBlocks p o v = false := by
    unfold State.bstBlocks; simp [hbst]
  have h3 : ¬ (p = pPgl ∧ ({ s with gate.acc := [] } : State).flag pPgl Reg.Hdr.STA 8 = true) := by
    rintro ⟨hp', h⟩
    have : s.flag pPgl Reg.Hdr.STA 8 = true := h
    rw [hchk hp'] at this; cases this
  rw [if_neg h1, h2, if_neg h3]
  simp only [Bool.false_eq_true, if_false, shadowOf_low ho2]
  rw [if_neg (by omega)]
  cases hs : specOf p o with
  | none => simp [hs] at hspec
  | some r =>
    simp only [hs, Bool.not_eq_true'] at hspec
    have ha' : ({ s with gate.acc := [] } : State).absentPort b n o = false := ha
    simp only [ha', hadm.1, hspec, Bool.false_eq_true, if_false]
    rfl

/-- As `busWrite_reaches`, where the block's write leaves the Gatehouse's queues empty. -/
theorem busWrite_reaches' {s : State} {port : Port} {p o : Nat} {v : Word} {b : Blk} {n : Nat}
    (h : WriteReaches s port p o) (hb : blkOf p = some (b, n)) (hr : plainReg p o = true) (ha : s.absentPort b n o = false)
    (hh : (s.arrive.blockWrite port b n p o v).gate.held = []) (hq : (s.arrive.blockWrite port b n p o v).gate.proxy = none) :
    s.portWrite port p o v = s.arrive.blockWrite port b n p o v := by
  rw [busWrite_reaches h hb hr ha, State.released_nil hh, State.proxyNet_none hq]

/-- A write that reaches the header of a page is the header's write. -/
theorem busWrite_header {s : State} {port : Port} {p o : Nat} {v : Word} {b : Blk} {n : Nat}
    (h : WriteReaches s port p o) (hb : blkOf p = some (b, n)) (hp : p < 0x1000) (ho : o < 0x40) (ho4 : o % 4 = 0) :
    s.portWrite port p o v = (s.arrive.hdrWrite port b p o v).released.proxyNet := by
  obtain ⟨hup, ⟨hpairs, hheld, hproxy, hbst⟩, hm, hadm, hbusy, hchk⟩ := h
  have ho' : o < 0x1000 := by omega
  unfold State.portWrite State.busWrite
  simp only [regAt_regAddr hp ho' ho4, regAt_pageNo ho', regAt_pageOfs ho']
  have hup' : ({ s with gate.acc := [] } : State).fabricUp = true := hup
  simp only [hup', Bool.not_true, Bool.false_eq_true, if_false]
  unfold State.writeAt
  simp only [hb]
  simp only [portAdmits, hb, Bool.and_eq_true, Bool.or_eq_true, bne_iff_ne, ne_eq, beq_iff_eq, Bool.not_eq_true'] at hadm
  have hfly : ¬ (b = .fly ∧ port ≠ .host ∧ port ≠ .maint) := by
    rintro ⟨h1, h2, h3⟩
    rcases hadm.2 with (h4 | h4) | h4
    · exact h4 h1
    · exact h2 h4
    · exact h3 h4
  have hm' : (({ s with gate.acc := [] } : State).masks (indexOf p)).writes port = true := hm
  rw [if_neg hfly]
  simp only [hm', Bool.not_true, Bool.false_eq_true, if_false]
  unfold State.passOn
  have hw : ({ s with gate.acc := [] } : State).waits port p o = false := by
    unfold State.waits
    simp [hpairs]
  rw [hw]
  simp only [Bool.false_eq_true, if_false]
  unfold State.deliver
  have h1 : ¬ (({ s with gate.acc := [] } : State).flag p Reg.Hdr.STA 2 = true ∧ o ≠ Reg.Hdr.FLT_STA) := by
    rintro ⟨h, _⟩
    have : s.flag p Reg.Hdr.STA 2 = true := h
    rw [hbusy] at this; cases this
  have h2 : ({ s with gate.acc := [] } : State).bstBlocks p o v = false := by
    unfold State.bstBlocks; simp [hbst]
  have h3 : ¬ (p = pPgl ∧ ({ s with gate.acc := [] } : State).flag pPgl Reg.Hdr.STA 8 = true) := by
    rintro ⟨hp', h⟩
    have : s.flag pPgl Reg.Hdr.STA 8 = true := h
    rw [hchk hp'] at this; cases this
  rw [if_neg h1, h2, if_neg h3]
  simp only [Bool.false_eq_true, if_false, shadowOf_low (show o < 0x800 by omega)]
  rw [if_pos ho]
  rfl

/-- A read that reaches a page is the page's read. -/
theorem portRead_reaches {s : State} {port : Port} {p o : Nat} {b : Blk} {n : Nat}
    (h : ReadReaches s port p) (hp : p < 0x1000) (ho : o < 0x1000) (h4 : o % 4 = 0) (hb : blkOf p = some (b, n)) :
    s.portRead port p o =
      (s.arrive.pageRead port b n p o).2.emit (.value (s.arrive.pageRead port b n p o).1) := by
  obtain ⟨hup, hm⟩ := h
  unfold State.portRead State.busReadOut State.busRead
  simp only [regAt_regAddr hp ho h4, regAt_pageNo ho, regAt_pageOfs ho]
  have hup' : ({ s with gate.acc := [] } : State).fabricUp = true := hup
  simp only [hup', Bool.not_true, Bool.false_eq_true, if_false]
  unfold State.readAt
  have hm' : (({ s with gate.acc := [] } : State).masks (indexOf p)).reads port = true := hm
  simp only [hb, hm', Bool.not_true, Bool.false_eq_true, if_false]
  rfl

end Sys2Proof.Machine
end

