-- ==== Sys2Proof/Laws/Done.lean ====
section
/-!
SUPPORT. What a command leaves: its effect, settled. Field by field and register by register, and the shape that accesses of a port
take.
-/
namespace Sys2Proof.Machine

/-- What a command answers: its effect on the state it finds, settled, with the queue it found. -/
theorem run_done (s : State) (f : State → State) : run s f = .next (s.done (f s.start)) := rfl

theorem runIf_done {ok : Bool} (s : State) (f : State → State) (h : ok = true) :
    runIf ok s f = .next (s.done (f s.start)) := by subst h; rfl

@[simp] theorem State.done_pending (s x : State) : (s.done x).pending = s.pending := rfl
@[simp] theorem State.done_now (s x : State) : (s.done x).now = x.now := rfl
@[simp] theorem State.done_freeCtr (s x : State) : (s.done x).freeCtr = x.freeCtr := rfl
@[simp] theorem State.done_kfd (s x : State) : (s.done x).kfd = x.kfd := rfl
@[simp] theorem State.done_pwr (s x : State) : (s.done x).pwr = x.pwr := rfl
@[simp] theorem State.done_ldg (s x : State) : (s.done x).ldg = x.ldg := rfl
@[simp] theorem State.done_boot (s x : State) : (s.done x).boot = x.boot := rfl
@[simp] theorem State.done_gate (s x : State) : (s.done x).gate = x.gate := rfl
@[simp] theorem State.done_blv (s x : State) : (s.done x).blv = x.blv := rfl
@[simp] theorem State.done_hdg (s x : State) : (s.done x).hdg = x.hdg := rfl
@[simp] theorem State.done_well (s x : State) : (s.done x).well = x.well := rfl
@[simp] theorem State.done_sdl (s x : State) : (s.done x).sdl = x.sdl := rfl
@[simp] theorem State.done_prm (s x : State) : (s.done x).prm = x.prm := rfl
@[simp] theorem State.done_ptr (s x : State) : (s.done x).ptr = x.ptr := rfl
@[simp] theorem State.done_pgl (s x : State) : (s.done x).pgl = x.pgl := rfl
@[simp] theorem State.done_pav (s x : State) : (s.done x).pav = x.pav := rfl
@[simp] theorem State.done_engP (s x : State) : (s.done x).engP = x.engP := rfl
@[simp] theorem State.done_engC (s x : State) : (s.done x).engC = x.engC := rfl
@[simp] theorem State.done_mem (s x : State) : (s.done x).mem = x.mem := rfl
@[simp] theorem State.done_org (s x : State) : (s.done x).org = x.org := rfl
@[simp] theorem State.done_arb (s x : State) : (s.done x).arb = x.arb := rfl
@[simp] theorem State.done_ftn (s x : State) : (s.done x).ftn = x.ftn := rfl
@[simp] theorem State.done_cln (s x : State) : (s.done x).cln = x.cln := rfl
@[simp] theorem State.done_nvm (s x : State) : (s.done x).nvm = x.nvm := rfl
@[simp] theorem State.done_otp (s x : State) : (s.done x).otp = x.otp := rfl
@[simp] theorem State.done_psh (s x : State) : (s.done x).psh = x.psh := rfl
@[simp] theorem State.done_ksk (s x : State) : (s.done x).ksk = x.ksk := rfl
@[simp] theorem State.done_ccp (s x : State) : (s.done x).ccp = x.ccp := rfl
@[simp] theorem State.done_hif (s x : State) : (s.done x).hif = x.hif := rfl
@[simp] theorem State.done_dbg (s x : State) : (s.done x).dbg = x.dbg := rfl
@[simp] theorem State.done_bst (s x : State) : (s.done x).bst = x.bst := rfl
@[simp] theorem State.done_out (s x : State) : (s.done x).out = x.out.filter (reachesWires x.hif.up) := rfl

/-- Registers after a command: CCP_IP has the level sources added, the others read as the effect left them. -/
theorem State.done_reg (s x : State) (p o : Nat) :
    (s.done x).reg p o = if regKey p o = regKey pCcp Reg.Ccp.CCP_IP then x.reg pCcp Reg.Ccp.CCP_IP ||| levelIrqs x else x.reg p o :=
  State.settle_reg x p o

theorem State.done_reg_other (s x : State) (p o : Nat) (h : regKey p o ≠ regKey pCcp Reg.Ccp.CCP_IP) :
    (s.done x).reg p o = x.reg p o := by rw [State.done_reg, if_neg h]

theorem State.done_flag_other (s x : State) (p o i : Nat) (h : regKey p o ≠ regKey pCcp Reg.Ccp.CCP_IP) :
    (s.done x).flag p o i = x.flag p o i := by unfold State.flag; rw [State.done_reg_other _ _ _ _ h]

theorem State.done_fld_other (s x : State) (p o hi lo : Nat) (h : regKey p o ≠ regKey pCcp Reg.Ccp.CCP_IP) :
    (s.done x).fld p o hi lo = x.fld p o hi lo := by unfold State.fld; rw [State.done_reg_other _ _ _ _ h]

@[simp] theorem State.start_now (s : State) : s.start.now = s.now := rfl
@[simp] theorem State.start_freeCtr (s : State) : s.start.freeCtr = s.freeCtr := rfl
@[simp] theorem State.start_kfd (s : State) : s.start.kfd = s.kfd := rfl
@[simp] theorem State.start_pwr (s : State) : s.start.pwr = s.pwr := rfl
@[simp] theorem State.start_ldg (s : State) : s.start.ldg = s.ldg := rfl
@[simp] theorem State.start_boot (s : State) : s.start.boot = s.boot := rfl
@[simp] theorem State.start_gate (s : State) : s.start.gate = s.gate := rfl
@[simp] theorem State.start_blv (s : State) : s.start.blv = s.blv := rfl
@[simp] theorem State.start_hdg (s : State) : s.start.hdg = s.hdg := rfl
@[simp] theorem State.start_well (s : State) : s.start.well = s.well := rfl
@[simp] theorem State.start_sdl (s : State) : s.start.sdl = s.sdl := rfl
@[simp] theorem State.start_prm (s : State) : s.start.prm = s.prm := rfl
@[simp] theorem State.start_ptr (s : State) : s.start.ptr = s.ptr := rfl
@[simp] theorem State.start_pgl (s : State) : s.start.pgl = s.pgl := rfl
@[simp] theorem State.start_pav (s : State) : s.start.pav = s.pav := rfl
@[simp] theorem State.start_engP (s : State) : s.start.engP = s.engP := rfl
@[simp] theorem State.start_engC (s : State) : s.start.engC = s.engC := rfl
@[simp] theorem State.start_mem (s : State) : s.start.mem = s.mem := rfl
@[simp] theorem State.start_org (s : State) : s.start.org = s.org := rfl
@[simp] theorem State.start_arb (s : State) : s.start.arb = s.arb := rfl
@[simp] theorem State.start_ftn (s : State) : s.start.ftn = s.ftn := rfl
@[simp] theorem State.start_cln (s : State) : s.start.cln = s.cln := rfl
@[simp] theorem State.start_nvm (s : State) : s.start.nvm = s.nvm := rfl
@[simp] theorem State.start_otp (s : State) : s.start.otp = s.otp := rfl
@[simp] theorem State.start_psh (s : State) : s.start.psh = s.psh := rfl
@[simp] theorem State.start_ksk (s : State) : s.start.ksk = s.ksk := rfl
@[simp] theorem State.start_ccp (s : State) : s.start.ccp = s.ccp := rfl
@[simp] theorem State.start_hif (s : State) : s.start.hif = s.hif := rfl
@[simp] theorem State.start_dbg (s : State) : s.start.dbg = s.dbg := rfl
@[simp] theorem State.start_bst (s : State) : s.start.bst = s.bst := rfl
@[simp] theorem State.heard_now (s : State) : s.heard.now = s.now := rfl
@[simp] theorem State.heard_freeCtr (s : State) : s.heard.freeCtr = s.freeCtr := rfl
@[simp] theorem State.heard_kfd (s : State) : s.heard.kfd = s.kfd := rfl
@[simp] theorem State.heard_pwr (s : State) : s.heard.pwr = s.pwr := rfl
@[simp] theorem State.heard_ldg (s : State) : s.heard.ldg = s.ldg := rfl
@[simp] theorem State.heard_boot (s : State) : s.heard.boot = s.boot := rfl
@[simp] theorem State.heard_blv (s : State) : s.heard.blv = s.blv := rfl
@[simp] theorem State.heard_hdg (s : State) : s.heard.hdg = s.hdg := rfl
@[simp] theorem State.heard_well (s : State) : s.heard.well = s.well := rfl
@[simp] theorem State.heard_sdl (s : State) : s.heard.sdl = s.sdl := rfl
@[simp] theorem State.heard_prm (s : State) : s.heard.prm = s.prm := rfl
@[simp] theorem State.heard_ptr (s : State) : s.heard.ptr = s.ptr := rfl
@[simp] theorem State.heard_pgl (s : State) : s.heard.pgl = s.pgl := rfl
@[simp] theorem State.heard_pav (s : State) : s.heard.pav = s.pav := rfl
@[simp] theorem State.heard_engP (s : State) : s.heard.engP = s.engP := rfl
@[simp] theorem State.heard_engC (s : State) : s.heard.engC = s.engC := rfl
@[simp] theorem State.heard_mem (s : State) : s.heard.mem = s.mem := rfl
@[simp] theorem State.heard_org (s : State) : s.heard.org = s.org := rfl
@[simp] theorem State.heard_arb (s : State) : s.heard.arb = s.arb := rfl
@[simp] theorem State.heard_ftn (s : State) : s.heard.ftn = s.ftn := rfl
@[simp] theorem State.heard_cln (s : State) : s.heard.cln = s.cln := rfl
@[simp] theorem State.heard_nvm (s : State) : s.heard.nvm = s.nvm := rfl
@[simp] theorem State.heard_otp (s : State) : s.heard.otp = s.otp := rfl
@[simp] theorem State.heard_psh (s : State) : s.heard.psh = s.psh := rfl
@[simp] theorem State.heard_ksk (s : State) : s.heard.ksk = s.ksk := rfl
@[simp] theorem State.heard_ccp (s : State) : s.heard.ccp = s.ccp := rfl
@[simp] theorem State.heard_hif (s : State) : s.heard.hif = s.hif := rfl
@[simp] theorem State.heard_dbg (s : State) : s.heard.dbg = s.dbg := rfl
@[simp] theorem State.heard_bst (s : State) : s.heard.bst = s.bst := rfl
@[simp] theorem State.start_regs (s : State) : s.start.regs = s.regs := rfl
@[simp] theorem State.heard_regs (s : State) : s.heard.regs = s.regs := rfl
@[simp] theorem State.start_pending (s : State) : s.start.pending = s.pending := rfl
@[simp] theorem State.heard_pending (s : State) : s.heard.pending = s.pending := rfl
@[simp] theorem State.start_out (s : State) : s.start.out = [] := rfl
@[simp] theorem State.heard_out (s : State) : s.heard.out = [] := rfl
@[simp] theorem State.start_reg (s : State) (p o : Nat) : s.start.reg p o = s.reg p o := rfl
@[simp] theorem State.heard_reg (s : State) (p o : Nat) : s.heard.reg p o = s.reg p o := rfl
@[simp] theorem State.start_flag (s : State) (p o i : Nat) : s.start.flag p o i = s.flag p o i := rfl
@[simp] theorem State.heard_flag (s : State) (p o i : Nat) : s.heard.flag p o i = s.flag p o i := rfl
@[simp] theorem State.start_fld (s : State) (p o hi lo : Nat) : s.start.fld p o hi lo = s.fld p o hi lo := rfl
@[simp] theorem State.heard_fld (s : State) (p o hi lo : Nat) : s.heard.fld p o hi lo = s.fld p o hi lo := rfl

theorem blkOf_lt {p : Nat} {b : Blk} {n : Nat} (h : blkOf p = some (b, n)) : p < 0x1000 := by
  apply Classical.byContradiction
  intro hp
  have : blkOf p = none := by
    unfold blkOf
    repeat rw [if_neg (by omega)]
  rw [this] at h
  cases h

theorem regAt_lt {p o : Nat} (hp : p < 0x1000) (ho : o < 0x1000) : (BitVec.ofNat 32 (regAt p o)).toNat = regAt p o := by
  simp only [BitVec.toNat_ofNat, regAt]; omega

/-- A write that reaches a plain register leaves what the block's write leaves, where that keeps the Gatehouse's queues empty. -/
theorem portWrite_plain {s : State} {port : Port} {p o : Nat} {v : Word} {b : Blk} {n : Nat} {x : State}
    (h : WriteReaches s port p o) (hb : blkOf p = some (b, n)) (hr : plainReg p o = true) (ha : s.absentPort b n o = false)
    (hx : s.heard.blockWrite port b n p o v = x) (hh : x.gate.held = []) (hq : x.gate.proxy = none) :
    s.start.portWrite port p o v = x := by
  subst hx
  exact busWrite_reaches' (s := s.start) h hb hr ha hh hq

/-- As `portWrite_plain`, for a register of the page header. -/
theorem portWrite_header {s : State} {port : Port} {p o : Nat} {v : Word} {b : Blk} {n : Nat} {x : State}
    (h : WriteReaches s port p o) (hb : blkOf p = some (b, n)) (ho : o < 0x40) (ho4 : o % 4 = 0)
    (hx : s.heard.hdrWrite port b p o v = x) (hh : x.gate.held = []) (hq : x.gate.proxy = none) :
    s.start.portWrite port p o v = x := by
  subst hx
  rw [busWrite_header (s := s.start) h hb (blkOf_lt hb) ho ho4]
  exact (congrArg State.proxyNet (State.released_nil hh)).trans (State.proxyNet_none hq)

/-- A read that reaches its page. -/
theorem portRead_page {s : State} {port : Port} {p o : Nat} {b : Blk} {n : Nat} {w : Word} {x : State}
    (h : ReadReaches s port p) (hb : blkOf p = some (b, n)) (ho : o < 0x1000) (h4 : o % 4 = 0)
    (hx : s.heard.pageRead port b n p o = (w, x)) : s.start.portRead port p o = x.emit (.value w) := by
  have := portRead_reaches (s := s.start) h (blkOf_lt hb) ho h4 hb
  rw [this]
  have e : s.start.arrive = s.heard := rfl
  rw [e, hx]

/-- The read of a block register that is neither a shadow nor in the header. -/
theorem pageRead_block {s : State} {port : Port} {p o : Nat} {b : Blk} {n : Nat}
    (hr : plainReg p o = true) (ha : s.absentPort b n o = false) :
    s.pageRead port b n p o = s.blockRead port b n p o := by
  simp only [plainReg, Bool.and_eq_true, decide_eq_true_eq] at hr
  obtain ⟨⟨⟨⟨hp, ho1⟩, ho2⟩, ho4⟩, hspec⟩ := hr
  unfold State.pageRead
  have : shadowOf p o = none := shadowOf_low ho2
  rw [this]
  simp only [show ¬ o < 0x40 by omega, if_false]
  cases hs : specOf p o with
  | none => simp [hs] at hspec
  | some r => simp [ha]

end Sys2Proof.Machine
end

