-- ==== Sys2Proof/Laws/Exec.lean ====
section
/-!
SUPPORT. What exec answers for each command: the next state in which the command's effect, on a state whose wires are empty, has
settled; an event of the main domain while that runs (`fabricUp`); a command with checked operands where they are well formed.
-/
namespace Sys2Proof.Machine

theorem State.whenUp_up {s : State} {f : State → State} (h : s.fabricUp = true) : s.whenUp f = f s := by
  unfold State.whenUp; rw [if_pos h]

theorem State.whenUp_down {s : State} {f : State → State} (h : s.fabricUp = false) : s.whenUp f = s := by
  unfold State.whenUp; rw [if_neg (by rw [h]; decide)]

theorem exec_registerWrite (port : Port) (addr : Word) (value : Word) (s : State) :
    exec (.registerWrite port addr value) s =
      .next (s.done (s.start.busWrite port addr.toNat value)) := rfl

theorem exec_malformedAccess (port : Port) (addr : Word) (read : Bool) (s : State) :
    exec (.malformedAccess port addr read) s =
      .next (s.done (s.start.badAccess port addr.toNat read)) := rfl

theorem exec_blockEnable (port : Port) (page : Fin 4096) (s : State) :
    exec (.blockEnable port page) s =
      .next (s.done (s.start.portWrite port page Reg.Hdr.CTL 1)) := rfl

theorem exec_blockReset (port : Port) (page : Fin 4096) (s : State) :
    exec (.blockReset port page) s =
      .next (s.done (s.start.portWrite port page Reg.Hdr.CTL 2)) := rfl

theorem exec_blockResetComplete (page : Fin 4096) (s : State) :
    exec (.blockResetComplete page) s =
      .next (s.done (s.start.blockResetEnd page)) := rfl

theorem exec_claimWrite (port : Port) (page : Fin 4096) (value : Word) (s : State) :
    exec (.claimWrite port page value) s =
      .next (s.done (s.start.portWrite port page Reg.Hdr.CLAIM value)) := rfl

theorem exec_lockWrite (port : Port) (page : Fin 4096) (s : State) :
    exec (.lockWrite port page) s =
      .next (s.done (s.start.portWrite port page Reg.Hdr.LOCK 1)) := rfl

theorem exec_shadowPrimaryWrite (port : Port) (page : Fin 4096) (offset : Fin 2048) (value : Word) (s : State) :
    exec (.shadowPrimaryWrite port page offset value) s =
      .next (s.done (s.start.portWrite port page offset value)) := rfl

theorem exec_shadowInverseWrite (port : Port) (page : Fin 4096) (offset : Fin 2048) (value : Word) (s : State) :
    exec (.shadowInverseWrite port page offset value) s =
      .next (s.done (s.start.portWrite port page (0x800 + offset) value)) := rfl

theorem exec_shadowWindowExpiry (page : Fin 4096) (s : State) :
    exec (.shadowWindowExpiry page) s =
      .next (s.done (s.start.windowExpiry page)) := rfl

theorem exec_shadowMismatch (page : Fin 4096) (offset : Fin 2048) (s : State) :
    exec (.shadowMismatch page offset) s =
      .next (s.done (s.start.shadowMismatch page offset)) := rfl

theorem exec_prfWrite (port : Port) (value : Word) (s : State) :
    exec (.prfWrite port value) s =
      .next (s.done (s.start.portWrite port pSys Reg.Sys.PRF value)) := rfl

theorem exec_powerUp (inOrder : Bool) (s : State) :
    exec (.powerUp inOrder) s =
      .next (s.done (s.start.powerUp inOrder)) := rfl

theorem exec_supplyDip (x : Supply) (s : State) :
    exec (.supplyDip x) s =
      .next (s.done (s.start.supplyDip x)) := rfl

theorem exec_supplyRecovery (x : Supply) (s : State) :
    exec (.supplyRecovery x) s =
      .next (s.done (s.start.supplyRecovery x)) := rfl

theorem exec_brownOutReset (x : Supply) (s : State) :
    exec (.brownOutReset x) s =
      .next (s.done (s.start.brownOut x)) := rfl

theorem exec_vddio18Loss (s : State) :
    exec (.vddio18Loss) s =
      .next (s.done (s.start.vddio18Loss)) := rfl

theorem exec_rstNLow (s : State) :
    exec (.rstNLow) s =
      .next (s.done (s.start.rstLow)) := rfl

theorem exec_rstNRelease (s : State) :
    exec (.rstNRelease) s =
      .next (s.done (s.start.rstHigh)) := rfl

theorem exec_deviceResetRelease (s : State) :
    exec (.deviceResetRelease) s =
      .next (s.done (s.start.resetTimePassed)) := rfl

theorem exec_bootSequence (sel : Fin 4) (twinB : Bool) (ftnOk : Bool) (avsOk : Bool) (dt : Nat) (s : State) :
    exec (.bootSequence sel twinB ftnOk avsOk dt) s =
      .next (s.done (s.start.bootSequence sel twinB ftnOk avsOk dt)) := rfl

theorem exec_bootSourcePoll (dt : Nat) (s : State) :
    exec (.bootSourcePoll dt) s =
      .next (s.done (s.start.bootPoll dt)) := rfl

theorem exec_bootDoorbell (port : Port) (value : Word) (s : State) :
    exec (.bootDoorbell port value) s =
      .next (s.done (if port = .maint then s.start.spiBootDb value else s.start.portWrite port pHif Reg.Hif.HIF_BOOT_DB value)) := rfl

theorem exec_avsRequest (mv : Fin 1024) (s : State) (hu : s.fabricUp = true) :
    exec (.avsRequest mv) s =
      .next (s.done (s.start.avsRequest mv)) := by
  show run s (fun s => s.whenUp _) = _
  exact congrArg (fun x => Host.Outcome.next (s.done x)) (State.whenUp_up (s := s.start) hu)

theorem exec_avsNoAck (s : State) (hu : s.fabricUp = true) :
    exec (.avsNoAck) s =
      .next (s.done (s.start.avsNoAck)) := by
  show run s (fun s => s.whenUp _) = _
  exact congrArg (fun x => Host.Outcome.next (s.done x)) (State.whenUp_up (s := s.start) hu)

theorem exec_refclkLoss (refclkB : Bool) (s : State) :
    exec (.refclkLoss refclkB) s =
      .next (s.done (s.start.refclkLoss refclkB)) := rfl

theorem exec_sysclkLoss (s : State) :
    exec (.sysclkLoss) s =
      .next (s.done (s.start.sysclkLoss)) := rfl

theorem exec_sysclkRecovery (s : State) :
    exec (.sysclkRecovery) s =
      .next (s.done (s.start.sysclkBack)) := rfl

theorem exec_ref10mLoss (s : State) :
    exec (.ref10mLoss) s =
      .next (s.done (s.start.ref10mLoss)) := rfl

theorem exec_tempConversion (temps : List Int) (s : State) (h : tempConversionOk temps = true) (hu : s.fabricUp = true) :
    exec (.tempConversion temps) s =
      .next (s.done (s.start.tempConversion temps)) := (runIf_done s _ h).trans
    (congrArg (fun x => Host.Outcome.next (s.done x)) (State.whenUp_up (s := s.start) hu))

theorem exec_rstReqWrite (port : Port) (s : State) :
    exec (.rstReqWrite port) s =
      .next (s.done (s.start.portWrite port pLdg Reg.Ldg.RST_REQ 0xD5E7)) := rfl

theorem exec_zrqWrite (port : Port) (s : State) :
    exec (.zrqWrite port) s =
      .next (s.done (s.start.portWrite port pLdg Reg.Ldg.ZRQ 0x2E50)) := rfl

theorem exec_wdgKick (port : Port) (s : State) :
    exec (.wdgKick port) s =
      .next (s.done (s.start.portWrite port pLdg Reg.Ldg.WDG_KICK 0x0000C1A0)) := rfl

theorem exec_wdgPreTimeout (s : State) :
    exec (.wdgPreTimeout) s =
      .next (s.done (s.start.wdgPre)) := rfl

theorem exec_watchdogExpiry (s : State) :
    exec (.watchdogExpiry) s =
      .next (s.done (s.start.wdgExpiry)) := rfl

theorem exec_livenessLoss (x : Strobe) (s : State) :
    exec (.livenessLoss x) s =
      .next (s.done (s.start.livenessLoss x)) := rfl

theorem exec_pkgCmdWrite (port : Port) (s : State) :
    exec (.pkgCmdWrite port) s =
      .next (s.done (s.start.portWrite port pLdg Reg.Ldg.PKG_CMD 0xC0F6)) := rfl

theorem exec_pkgAcceptComplete (s : State) :
    exec (.pkgAcceptComplete) s =
      .next (s.done (s.start.pkgDone)) := rfl

theorem exec_ptpMessageReceived (eport : Fin 256) (domain : Fin 256) (m : PtpMsg) (s : State) (hu : s.fabricUp = true) :
    exec (.ptpMessageReceived eport domain m) s =
      .next (s.done (s.start.ptpMessage eport domain m)) := by
  show run s (fun s => s.whenUp _) = _
  exact congrArg (fun x => Host.Outcome.next (s.done x)) (State.whenUp_up (s := s.start) hu)

theorem exec_ptpMessageTransmit (eport : Fin 256) (kind : Fin 3) (s : State) (hu : s.fabricUp = true) :
    exec (.ptpMessageTransmit eport kind) s =
      .next (s.done (s.start.ptpTransmit eport kind)) := by
  show run s (fun s => s.whenUp _) = _
  exact congrArg (fun x => Host.Outcome.next (s.done x)) (State.whenUp_up (s := s.start) hu)

theorem exec_ptpSourceTimeout (announce : Bool) (s : State) (hu : s.fabricUp = true) :
    exec (.ptpSourceTimeout announce) s =
      .next (s.done (s.start.ptpTimeout announce)) := by
  show run s (fun s => s.whenUp _) = _
  exact congrArg (fun x => Host.Outcome.next (s.done x)) (State.whenUp_up (s := s.start) hu)

theorem exec_ppsEdge (second : Bool) (s : State) (hu : s.fabricUp = true) :
    exec (.ppsEdge second) s =
      .next (s.done (s.start.ppsEdge (ppsSrc second))) := by
  show run s (fun s => s.whenUp _) = _
  exact congrArg (fun x => Host.Outcome.next (s.done x)) (State.whenUp_up (s := s.start) hu)

theorem exec_irigFrame (second : Bool) (frame : IrigFrame) (s : State) (hu : s.fabricUp = true) :
    exec (.irigFrame second frame) s =
      .next (s.done (s.start.irigFrame (ppsSrc second) frame)) := by
  show run s (fun s => s.whenUp _) = _
  exact congrArg (fun x => Host.Outcome.next (s.done x)) (State.whenUp_up (s := s.start) hu)

theorem exec_ppsLoss (second : Bool) (s : State) (hu : s.fabricUp = true) :
    exec (.ppsLoss second) s =
      .next (s.done (s.start.ppsLoss (ppsSrc second))) := by
  show run s (fun s => s.whenUp _) = _
  exact congrArg (fun x => Host.Outcome.next (s.done x)) (State.whenUp_up (s := s.start) hu)

theorem exec_holdExpired (s : State) (hu : s.fabricUp = true) :
    exec (.holdExpired) s =
      .next (s.done (s.start.holdExpire)) := by
  show run s (fun s => s.whenUp _) = _
  exact congrArg (fun x => Host.Outcome.next (s.done x)) (State.whenUp_up (s := s.start) hu)

theorem exec_setCmd (port : Port) (s : State) :
    exec (.setCmd port) s =
      .next (s.done (s.start.portWrite port pSdl Reg.Sdl.SET_CMD 0x71E5)) := rfl

theorem exec_ppsOutRise (s : State) (hu : s.fabricUp = true) :
    exec (.ppsOutRise) s =
      .next (s.done (s.start.ppsRise)) := by
  show run s (fun s => s.whenUp _) = _
  exact congrArg (fun x => Host.Outcome.next (s.done x)) (State.whenUp_up (s := s.start) hu)

theorem exec_ppsOutFall (s : State) (hu : s.fabricUp = true) :
    exec (.ppsOutFall) s =
      .next (s.done (s.start.ppsFall)) := by
  show run s (fun s => s.whenUp _) = _
  exact congrArg (fun x => Host.Outcome.next (s.done x)) (State.whenUp_up (s := s.start) hu)

theorem exec_sundialEnable (port : Port) (s : State) :
    exec (.sundialEnable port) s =
      .next (s.done (s.start.portWrite port pSdl Reg.Hdr.CTL 1)) := rfl

theorem exec_sundialDisable (port : Port) (s : State) :
    exec (.sundialDisable port) s =
      .next (s.done (s.start.portWrite port pSdl Reg.Hdr.CTL 0)) := rfl

theorem exec_refSampleTimeout (second : Bool) (s : State) (hu : s.fabricUp = true) :
    exec (.refSampleTimeout second) s =
      .next (s.done (s.start.refTimeout second)) := by
  show run s (fun s => s.whenUp _) = _
  exact congrArg (fun x => Host.Outcome.next (s.done x)) (State.whenUp_up (s := s.start) hu)

theorem exec_slotStart (ref10m : Int) (sysclk : Int) (s : State) (hu : s.fabricUp = true) :
    exec (.slotStart ref10m sysclk) s =
      .next (s.done (s.start.slotStart ref10m sysclk)) := by
  show run s (fun s => s.whenUp _) = _
  exact congrArg (fun x => Host.Outcome.next (s.done x)) (State.whenUp_up (s := s.start) hu)

theorem exec_swapTimer (at_ : Nat) (s : State) (hu : s.fabricUp = true) :
    exec (.swapTimer at_) s =
      .next (s.done (s.start.keyTimer at_)) := by
  show run s (fun s => s.whenUp _) = _
  exact congrArg (fun x => Host.Outcome.next (s.done x)) (State.whenUp_up (s := s.start) hu)

theorem exec_retireExpiry (at_ : Nat) (s : State) (hu : s.fabricUp = true) :
    exec (.retireExpiry at_) s =
      .next (s.done (s.start.retireTimer at_)) := by
  show run s (fun s => s.whenUp _) = _
  exact congrArg (fun x => Host.Outcome.next (s.done x)) (State.whenUp_up (s := s.start) hu)

theorem exec_slotInputFix (s : State) (hu : s.fabricUp = true) :
    exec (.slotInputFix) s =
      .next (s.done (s.start.lateInputs)) := by
  show run s (fun s => s.whenUp _) = _
  exact congrArg (fun x => Host.Outcome.next (s.done x)) (State.whenUp_up (s := s.start) hu)

theorem exec_budgetWindowRestart (s : State) (hu : s.fabricUp = true) :
    exec (.budgetWindowRestart) s =
      .next (s.done (s.start.windowRestart.cardResume)) := by
  show run s (fun s => s.whenUp _) = _
  exact congrArg (fun x => Host.Outcome.next (s.done x)) (State.whenUp_up (s := s.start) hu)

theorem exec_cmpArm (port : Port) (unit : Fin 64) (value : Word) (s : State) :
    exec (.cmpArm port unit value) s =
      .next (s.done (s.start.portWrite port pSdl (Reg.Sdl.CMP_ACT unit) (value ||| 0x80000000))) := rfl

theorem exec_cmpCancel (port : Port) (unit : Fin 64) (value : Word) (s : State) :
    exec (.cmpCancel port unit value) s =
      .next (s.done (s.start.portWrite port pSdl (Reg.Sdl.CMP_ACT unit) (value ||| 0x80000000))) := rfl

theorem exec_cmpReconversion (unit : Fin 64) (s : State) (hu : s.fabricUp = true) :
    exec (.cmpReconversion unit) s =
      .next (s.done (s.start.reconvert unit)) := by
  show run s (fun s => s.whenUp _) = _
  exact congrArg (fun x => Host.Outcome.next (s.done x)) (State.whenUp_up (s := s.start) hu)

theorem exec_cmpFirstEdge (unit : Fin 64) (s : State) (hu : s.fabricUp = true) :
    exec (.cmpFirstEdge unit) s =
      .next (s.done (s.start.firstEdge unit)) := by
  show run s (fun s => s.whenUp _) = _
  exact congrArg (fun x => Host.Outcome.next (s.done x)) (State.whenUp_up (s := s.start) hu)

theorem exec_cmpReturnEdge (unit : Fin 64) (s : State) (hu : s.fabricUp = true) :
    exec (.cmpReturnEdge unit) s =
      .next (s.done (s.start.returnEdge unit)) := by
  show run s (fun s => s.whenUp _) = _
  exact congrArg (fun x => Host.Outcome.next (s.done x)) (State.whenUp_up (s := s.start) hu)

theorem exec_timeSLoRead (port : Port) (s : State) :
    exec (.timeSLoRead port) s =
      .next (s.done (s.start.portRead port pSdl Reg.Sdl.TIME_S_LO)) := rfl

theorem exec_angleRead (port : Port) (s : State) :
    exec (.angleRead port) s =
      .next (s.done (s.start.portRead port pSdl Reg.Sdl.ANGLE)) := rfl

theorem exec_sdlEvtRead (port : Port) (s : State) :
    exec (.sdlEvtRead port) s =
      .next (s.done (s.start.portRead port pSdl Reg.Sdl.EVT)) := rfl

theorem exec_frameReceived (eport : Fin 256) (octets : List Byte) (lead : Nat) (s : State) (hu : s.fabricUp = true) :
    exec (.frameReceived eport octets lead) s =
      .next (s.done (s.start.frameReceived eport octets lead)) := by
  show run s (fun s => s.whenUp _) = _
  exact congrArg (fun x => Host.Outcome.next (s.done x)) (State.whenUp_up (s := s.start) hu)

theorem exec_frameTransmit (eport : Fin 256) (s : State) (hu : s.fabricUp = true) :
    exec (.frameTransmit eport) s =
      .next (s.done (s.start.frameTransmit eport)) := by
  show run s (fun s => s.whenUp _) = _
  exact congrArg (fun x => Host.Outcome.next (s.done x)) (State.whenUp_up (s := s.start) hu)

theorem exec_laneSignalChange (lane : Fin 64) (sig : Bool) (cdr : Bool) (blk : Bool) (link : Bool) (fec : Bool) (corr : Nat) (uncorr : Nat) (s : State) (hu : s.fabricUp = true) :
    exec (.laneSignalChange lane sig cdr blk link fec corr uncorr) s =
      .next (s.done (s.start.laneSignal lane sig cdr blk link fec corr uncorr)) := by
  show run s (fun s => s.whenUp _) = _
  exact congrArg (fun x => Host.Outcome.next (s.done x)) (State.whenUp_up (s := s.start) hu)

theorem exec_phyStatusChange (eport : Fin 256) (link : Bool) (speed : Fin 8) (s : State) (hu : s.fabricUp = true) :
    exec (.phyStatusChange eport link speed) s =
      .next (s.done (s.start.phyStatus eport link speed)) := by
  show run s (fun s => s.whenUp _) = _
  exact congrArg (fun x => Host.Outcome.next (s.done x)) (State.whenUp_up (s := s.start) hu)

theorem exec_gclConfigChange (port : Port) (eport : Fin 256) (value : Word) (s : State) :
    exec (.gclConfigChange port eport value) s =
      .next (s.done (s.start.portWrite port (pPrc (eport / 16)) (Reg.Prc.GCL_CTL (eport % 16)) (value ||| 0x80000000))) := rfl

theorem exec_gateCycleStart (eport : Fin 256) (s : State) (hu : s.fabricUp = true) :
    exec (.gateCycleStart eport) s =
      .next (s.done (s.start.gateCycle eport)) := by
  show run s (fun s => s.whenUp _) = _
  exact congrArg (fun x => Host.Outcome.next (s.done x)) (State.whenUp_up (s := s.start) hu)

theorem exec_gateEntryExpiry (eport : Fin 256) (s : State) (hu : s.fabricUp = true) :
    exec (.gateEntryExpiry eport) s =
      .next (s.done (s.start.gateExpiry eport)) := by
  show run s (fun s => s.whenUp _) = _
  exact congrArg (fun x => Host.Outcome.next (s.done x)) (State.whenUp_up (s := s.start) hu)

theorem exec_gclDataAccess (port : Port) (group : Fin 16) (write : Option Word) (s : State) :
    exec (.gclDataAccess port group write) s =
      .next (s.done (s.start.portAccess port (pPrc group) Reg.Prc.GCL_DATA write)) := rfl

theorem exec_pairEnable (port : Port) (pair : Fin 32) (value : Word) (s : State) :
    exec (.pairEnable port pair value) s =
      .next (s.done (s.start.portWrite port pPrm (Reg.Prm.PAIR_CFG pair) (value ||| 0x80000000))) := rfl

theorem exec_pairDisable (port : Port) (pair : Fin 32) (value : Word) (s : State) :
    exec (.pairDisable port pair value) s =
      .next (s.done (s.start.portWrite port pPrm (Reg.Prm.PAIR_CFG pair) (value &&& 0x7FFFFFFF))) := rfl

theorem exec_supervisionTx (pair : Fin 32) (s : State) (hu : s.fabricUp = true) :
    exec (.supervisionTx pair) s =
      .next (s.done (s.start.supervisionTx pair)) := by
  show run s (fun s => s.whenUp _) = _
  exact congrArg (fun x => Host.Outcome.next (s.done x)) (State.whenUp_up (s := s.start) hu)

theorem exec_fdbAgeOut (index : Fin 65536) (s : State) (hu : s.fabricUp = true) :
    exec (.fdbAgeOut index) s =
      .next (s.done (s.start.fdbAgeOut index)) := by
  show run s (fun s => s.whenUp _) = _
  exact congrArg (fun x => Host.Outcome.next (s.done x)) (State.whenUp_up (s := s.start) hu)

theorem exec_tblRead (port : Port) (table : Fin 3) (index : Fin 65536) (s : State) :
    exec (.tblRead port table index) s =
      .next (s.done (s.start.portWrite port pPrm Reg.Prm.TBL_CMD (tblWord 0 table index))) := rfl

theorem exec_tblWrite (port : Port) (table : Fin 3) (index : Fin 65536) (s : State) :
    exec (.tblWrite port table index) s =
      .next (s.done (s.start.portWrite port pPrm Reg.Prm.TBL_CMD (tblWord 1 table index))) := rfl

theorem exec_tblDelete (port : Port) (table : Fin 3) (index : Fin 65536) (s : State) :
    exec (.tblDelete port table index) s =
      .next (s.done (s.start.portWrite port pPrm Reg.Prm.TBL_CMD (tblWord 2 table index))) := rfl

theorem exec_tblSearch (port : Port) (table : Fin 3) (index : Fin 65536) (s : State) :
    exec (.tblSearch port table index) s =
      .next (s.done (s.start.portWrite port pPrm Reg.Prm.TBL_CMD (tblWord 3 table index))) := rfl

theorem exec_portCfgWrite (port : Port) (eport : Fin 256) (value : Word) (s : State) :
    exec (.portCfgWrite port eport value) s =
      .next (s.done (s.start.portWrite port (pPrc (eport / 16)) (Reg.Prc.PORT_CFG (eport % 16)) value)) := rfl

theorem exec_follyRunStart (port : Port) (eport : Fin 256) (value : Word) (s : State) :
    exec (.follyRunStart port eport value) s =
      .next (s.done (s.start.portWrite port (pFly (eport / 16)) (Reg.Fly.FLY_CTL (eport % 16)) (value ||| 1))) := rfl

theorem exec_follyRunStop (port : Port) (eport : Fin 256) (value : Word) (s : State) :
    exec (.follyRunStop port eport value) s =
      .next (s.done (s.start.portWrite port (pFly (eport / 16)) (Reg.Fly.FLY_CTL (eport % 16)) (value &&& 0xFFFFFFFE))) := rfl

theorem exec_follyReorderTimeout (eport : Fin 256) (s : State) (hu : s.fabricUp = true) :
    exec (.follyReorderTimeout eport) s =
      .next (s.done (s.start.follyReleased eport (s.start.follyTimeout eport))) := by
  show run s (fun s => s.whenUp _) = _
  exact congrArg (fun x => Host.Outcome.next (s.done x)) (State.whenUp_up (s := s.start) hu)

theorem exec_follyDelayRelease (eport : Fin 256) (s : State) (hu : s.fabricUp = true) :
    exec (.follyDelayRelease eport) s =
      .next (s.done (s.start.follyReleased eport (s.start.follyDue eport))) := by
  show run s (fun s => s.whenUp _) = _
  exact congrArg (fun x => Host.Outcome.next (s.done x)) (State.whenUp_up (s := s.start) hu)

theorem exec_frameWalk (second : Bool) (dt : Nat) (s : State) (hu : s.fabricUp = true) :
    exec (.frameWalk second dt) s =
      .next (s.done (s.start.frameWalk second dt)) := by
  show run s (fun s => s.whenUp _) = _
  exact congrArg (fun x => Host.Outcome.next (s.done x)) (State.whenUp_up (s := s.start) hu)

theorem exec_tagCheckDone (n : Nat) (dt : Nat) (s : State) (hu : s.fabricUp = true) :
    exec (.tagCheckDone n dt) s =
      .next (s.done (s.start.tagDone n dt)) := by
  show run s (fun s => s.whenUp _) = _
  exact congrArg (fun x => Host.Outcome.next (s.done x)) (State.whenUp_up (s := s.start) hu)

theorem exec_gooseStale (sub : Fin 8192) (s : State) (hu : s.fabricUp = true) :
    exec (.gooseStale sub) s =
      .next (s.done (s.start.gooseTimeout sub)) := by
  show run s (fun s => s.whenUp _) = _
  exact congrArg (fun x => Host.Outcome.next (s.done x)) (State.whenUp_up (s := s.start) hu)

theorem exec_fmtDataHiWrite (port : Port) (value : Word) (s : State) :
    exec (.fmtDataHiWrite port value) s =
      .next (s.done (s.start.portWrite port pPtr0 Reg.Ptr0.FMT_DATA_HI value)) := rfl

theorem exec_idDataHiWrite (port : Port) (value : Word) (s : State) :
    exec (.idDataHiWrite port value) s =
      .next (s.done (s.start.portWrite port pPtr1 Reg.Ptr1.ID_DATA_HI value)) := rfl

theorem exec_excRead (port : Port) (goose : Bool) (s : State) :
    exec (.excRead port goose) s =
      .next (s.done (s.start.portRead port (if goose then pPtr2 else pPtr1) (if goose then Reg.Ptr2.EXC else Reg.Ptr1.EXC))) := rfl

theorem exec_gooseRetransmit (pub : Fin 1024) (s : State) (hu : s.fabricUp = true) :
    exec (.gooseRetransmit pub) s =
      .next (s.done (s.start.gooseRetransmit pub)) := by
  show run s (fun s => s.whenUp _) = _
  exact congrArg (fun x => Host.Outcome.next (s.done x)) (State.whenUp_up (s := s.start) hu)

theorem exec_svFrameBuild (pub : Fin 256) (s : State) (hu : s.fabricUp = true) :
    exec (.svFrameBuild pub) s =
      .next (s.done (s.start.svFrameBuild pub)) := by
  show run s (fun s => s.whenUp _) = _
  exact congrArg (fun x => Host.Outcome.next (s.done x)) (State.whenUp_up (s := s.start) hu)

theorem exec_pubFrameHandover (dt : Nat) (s : State) (hu : s.fabricUp = true) :
    exec (.pubFrameHandover dt) s =
      .next (s.done (s.start.pubHandover dt)) := by
  show run s (fun s => s.whenUp _) = _
  exact congrArg (fun x => Host.Outcome.next (s.done x)) (State.whenUp_up (s := s.start) hu)

theorem exec_pergolaEnable (port : Port) (s : State) :
    exec (.pergolaEnable port) s =
      .next (s.done (s.start.portWrite port pPgl Reg.Hdr.CTL 1)) := rfl

theorem exec_enableCheckComplete (dt : Nat) (s : State) (hu : s.fabricUp = true) :
    exec (.enableCheckComplete dt) s =
      .next (s.done (s.start.enableCheck dt)) := by
  show run s (fun s => s.whenUp _) = _
  exact congrArg (fun x => Host.Outcome.next (s.done x)) (State.whenUp_up (s := s.start) hu)

theorem exec_pergolaDisable (port : Port) (s : State) :
    exec (.pergolaDisable port) s =
      .next (s.done (s.start.portWrite port pPgl Reg.Hdr.CTL 0)) := rfl

theorem exec_firstDispatch (s : State) (hu : s.fabricUp = true) :
    exec (.firstDispatch) s =
      .next (s.done (s.start.firstDispatch)) := by
  show run s (fun s => s.whenUp _) = _
  exact congrArg (fun x => Host.Outcome.next (s.done x)) (State.whenUp_up (s := s.start) hu)

theorem exec_runDispatch (s : State) (hu : s.fabricUp = true) :
    exec (.runDispatch) s =
      .next (s.done (s.start.runDispatch)) := by
  show run s (fun s => s.whenUp _) = _
  exact congrArg (fun x => Host.Outcome.next (s.done x)) (State.whenUp_up (s := s.start) hu)

theorem exec_budgetPreempt (s : State) (hu : s.fabricUp = true) :
    exec (.budgetPreempt) s =
      .next (s.done (s.start.budgetPreempt)) := by
  show run s (fun s => s.whenUp _) = _
  exact congrArg (fun x => Host.Outcome.next (s.done x)) (State.whenUp_up (s := s.start) hu)

theorem exec_schDataWrite (port : Port) (value : Word) (s : State) :
    exec (.schDataWrite port value) s =
      .next (s.done (s.start.portWrite port pPgl Reg.Pgl.SCH_DATA value)) := rfl

theorem exec_ovrLogRead (port : Port) (s : State) :
    exec (.ovrLogRead port) s =
      .next (s.done (s.start.portRead port pPgl Reg.Pgl.OVR_LOG)) := rfl

theorem exec_bundleIssue (cpu : Cpu) (s : State) (hu : s.fabricUp = true) :
    exec (.bundleIssue cpu) s =
      .next (s.done (s.start.issue cpu)) := by
  show run s (fun s => s.whenUp _) = _
  exact congrArg (fun x => Host.Outcome.next (s.done x)) (State.whenUp_up (s := s.start) hu)

theorem exec_resultLand (cpu : Cpu) (s : State) (hu : s.fabricUp = true) :
    exec (.resultLand cpu) s =
      .next (s.done (s.start.resultLand cpu)) := by
  show run s (fun s => s.whenUp _) = _
  exact congrArg (fun x => Host.Outcome.next (s.done x)) (State.whenUp_up (s := s.start) hu)

theorem exec_interruptEntry (s : State) (hu : s.fabricUp = true) :
    exec (.interruptEntry) s =
      .next (s.done (s.start.interruptEntry)) := by
  show run s (fun s => s.whenUp _) = _
  exact congrArg (fun x => Host.Outcome.next (s.done x)) (State.whenUp_up (s := s.start) hu)

theorem exec_nmiEntry (s : State) (hu : s.fabricUp = true) :
    exec (.nmiEntry) s =
      .next (s.done (s.start.nmiEntry)) := by
  show run s (fun s => s.whenUp _) = _
  exact congrArg (fun x => Host.Outcome.next (s.done x)) (State.whenUp_up (s := s.start) hu)

theorem exec_controlTransferTaken (cpu : Cpu) (s : State) (hu : s.fabricUp = true) :
    exec (.controlTransferTaken cpu) s =
      .next (s.done (s.start.transferTaken cpu)) := by
  show run s (fun s => s.whenUp _) = _
  exact congrArg (fun x => Host.Outcome.next (s.done x)) (State.whenUp_up (s := s.start) hu)

theorem exec_aluAdd (cpu : Cpu) (unit : Fin 4) (o : Word) (t : Word) (s : State) (hu : s.fabricUp = true) :
    exec (.aluAdd cpu unit o t) s =
      .next (s.done (s.start.unitOp cpu [(aluPort unit, o)] (aluPort unit + 0x02) t)) := by
  show run s (fun s => s.whenUp _) = _
  exact congrArg (fun x => Host.Outcome.next (s.done x)) (State.whenUp_up (s := s.start) hu)

theorem exec_aluSub (cpu : Cpu) (unit : Fin 4) (o : Word) (t : Word) (s : State) (hu : s.fabricUp = true) :
    exec (.aluSub cpu unit o t) s =
      .next (s.done (s.start.unitOp cpu [(aluPort unit, o)] (aluPort unit + 0x03) t)) := by
  show run s (fun s => s.whenUp _) = _
  exact congrArg (fun x => Host.Outcome.next (s.done x)) (State.whenUp_up (s := s.start) hu)

theorem exec_aluAdds (cpu : Cpu) (unit : Fin 4) (o : Word) (t : Word) (s : State) (hu : s.fabricUp = true) :
    exec (.aluAdds cpu unit o t) s =
      .next (s.done (s.start.unitOp cpu [(aluPort unit, o)] (aluPort unit + 0x04) t)) := by
  show run s (fun s => s.whenUp _) = _
  exact congrArg (fun x => Host.Outcome.next (s.done x)) (State.whenUp_up (s := s.start) hu)

theorem exec_aluSubs (cpu : Cpu) (unit : Fin 4) (o : Word) (t : Word) (s : State) (hu : s.fabricUp = true) :
    exec (.aluSubs cpu unit o t) s =
      .next (s.done (s.start.unitOp cpu [(aluPort unit, o)] (aluPort unit + 0x05) t)) := by
  show run s (fun s => s.whenUp _) = _
  exact congrArg (fun x => Host.Outcome.next (s.done x)) (State.whenUp_up (s := s.start) hu)

theorem exec_aluAnd (cpu : Cpu) (unit : Fin 4) (o : Word) (t : Word) (s : State) (hu : s.fabricUp = true) :
    exec (.aluAnd cpu unit o t) s =
      .next (s.done (s.start.unitOp cpu [(aluPort unit, o)] (aluPort unit + 0x06) t)) := by
  show run s (fun s => s.whenUp _) = _
  exact congrArg (fun x => Host.Outcome.next (s.done x)) (State.whenUp_up (s := s.start) hu)

theorem exec_aluOr (cpu : Cpu) (unit : Fin 4) (o : Word) (t : Word) (s : State) (hu : s.fabricUp = true) :
    exec (.aluOr cpu unit o t) s =
      .next (s.done (s.start.unitOp cpu [(aluPort unit, o)] (aluPort unit + 0x07) t)) := by
  show run s (fun s => s.whenUp _) = _
  exact congrArg (fun x => Host.Outcome.next (s.done x)) (State.whenUp_up (s := s.start) hu)

theorem exec_aluXor (cpu : Cpu) (unit : Fin 4) (o : Word) (t : Word) (s : State) (hu : s.fabricUp = true) :
    exec (.aluXor cpu unit o t) s =
      .next (s.done (s.start.unitOp cpu [(aluPort unit, o)] (aluPort unit + 0x08) t)) := by
  show run s (fun s => s.whenUp _) = _
  exact congrArg (fun x => Host.Outcome.next (s.done x)) (State.whenUp_up (s := s.start) hu)

theorem exec_aluAndn (cpu : Cpu) (unit : Fin 4) (o : Word) (t : Word) (s : State) (hu : s.fabricUp = true) :
    exec (.aluAndn cpu unit o t) s =
      .next (s.done (s.start.unitOp cpu [(aluPort unit, o)] (aluPort unit + 0x09) t)) := by
  show run s (fun s => s.whenUp _) = _
  exact congrArg (fun x => Host.Outcome.next (s.done x)) (State.whenUp_up (s := s.start) hu)

theorem exec_aluShl (cpu : Cpu) (unit : Fin 4) (o : Word) (t : Word) (s : State) (hu : s.fabricUp = true) :
    exec (.aluShl cpu unit o t) s =
      .next (s.done (s.start.unitOp cpu [(aluPort unit, o)] (aluPort unit + 0x0A) t)) := by
  show run s (fun s => s.whenUp _) = _
  exact congrArg (fun x => Host.Outcome.next (s.done x)) (State.whenUp_up (s := s.start) hu)

theorem exec_aluShr (cpu : Cpu) (unit : Fin 4) (o : Word) (t : Word) (s : State) (hu : s.fabricUp = true) :
    exec (.aluShr cpu unit o t) s =
      .next (s.done (s.start.unitOp cpu [(aluPort unit, o)] (aluPort unit + 0x0B) t)) := by
  show run s (fun s => s.whenUp _) = _
  exact congrArg (fun x => Host.Outcome.next (s.done x)) (State.whenUp_up (s := s.start) hu)

theorem exec_aluSra (cpu : Cpu) (unit : Fin 4) (o : Word) (t : Word) (s : State) (hu : s.fabricUp = true) :
    exec (.aluSra cpu unit o t) s =
      .next (s.done (s.start.unitOp cpu [(aluPort unit, o)] (aluPort unit + 0x0C) t)) := by
  show run s (fun s => s.whenUp _) = _
  exact congrArg (fun x => Host.Outcome.next (s.done x)) (State.whenUp_up (s := s.start) hu)

theorem exec_aluMin (cpu : Cpu) (unit : Fin 4) (o : Word) (t : Word) (s : State) (hu : s.fabricUp = true) :
    exec (.aluMin cpu unit o t) s =
      .next (s.done (s.start.unitOp cpu [(aluPort unit, o)] (aluPort unit + 0x0D) t)) := by
  show run s (fun s => s.whenUp _) = _
  exact congrArg (fun x => Host.Outcome.next (s.done x)) (State.whenUp_up (s := s.start) hu)

theorem exec_aluMax (cpu : Cpu) (unit : Fin 4) (o : Word) (t : Word) (s : State) (hu : s.fabricUp = true) :
    exec (.aluMax cpu unit o t) s =
      .next (s.done (s.start.unitOp cpu [(aluPort unit, o)] (aluPort unit + 0x0E) t)) := by
  show run s (fun s => s.whenUp _) = _
  exact congrArg (fun x => Host.Outcome.next (s.done x)) (State.whenUp_up (s := s.start) hu)

theorem exec_aluMinu (cpu : Cpu) (unit : Fin 4) (o : Word) (t : Word) (s : State) (hu : s.fabricUp = true) :
    exec (.aluMinu cpu unit o t) s =
      .next (s.done (s.start.unitOp cpu [(aluPort unit, o)] (aluPort unit + 0x0F) t)) := by
  show run s (fun s => s.whenUp _) = _
  exact congrArg (fun x => Host.Outcome.next (s.done x)) (State.whenUp_up (s := s.start) hu)

theorem exec_aluMaxu (cpu : Cpu) (unit : Fin 4) (o : Word) (t : Word) (s : State) (hu : s.fabricUp = true) :
    exec (.aluMaxu cpu unit o t) s =
      .next (s.done (s.start.unitOp cpu [(aluPort unit, o)] (aluPort unit + 0x10) t)) := by
  show run s (fun s => s.whenUp _) = _
  exact congrArg (fun x => Host.Outcome.next (s.done x)) (State.whenUp_up (s := s.start) hu)

theorem exec_aluEq (cpu : Cpu) (unit : Fin 4) (o : Word) (t : Word) (s : State) (hu : s.fabricUp = true) :
    exec (.aluEq cpu unit o t) s =
      .next (s.done (s.start.unitOp cpu [(aluPort unit, o)] (aluPort unit + 0x11) t)) := by
  show run s (fun s => s.whenUp _) = _
  exact congrArg (fun x => Host.Outcome.next (s.done x)) (State.whenUp_up (s := s.start) hu)

theorem exec_aluNe (cpu : Cpu) (unit : Fin 4) (o : Word) (t : Word) (s : State) (hu : s.fabricUp = true) :
    exec (.aluNe cpu unit o t) s =
      .next (s.done (s.start.unitOp cpu [(aluPort unit, o)] (aluPort unit + 0x12) t)) := by
  show run s (fun s => s.whenUp _) = _
  exact congrArg (fun x => Host.Outcome.next (s.done x)) (State.whenUp_up (s := s.start) hu)

theorem exec_aluLt (cpu : Cpu) (unit : Fin 4) (o : Word) (t : Word) (s : State) (hu : s.fabricUp = true) :
    exec (.aluLt cpu unit o t) s =
      .next (s.done (s.start.unitOp cpu [(aluPort unit, o)] (aluPort unit + 0x13) t)) := by
  show run s (fun s => s.whenUp _) = _
  exact congrArg (fun x => Host.Outcome.next (s.done x)) (State.whenUp_up (s := s.start) hu)

theorem exec_aluLtu (cpu : Cpu) (unit : Fin 4) (o : Word) (t : Word) (s : State) (hu : s.fabricUp = true) :
    exec (.aluLtu cpu unit o t) s =
      .next (s.done (s.start.unitOp cpu [(aluPort unit, o)] (aluPort unit + 0x14) t)) := by
  show run s (fun s => s.whenUp _) = _
  exact congrArg (fun x => Host.Outcome.next (s.done x)) (State.whenUp_up (s := s.start) hu)

theorem exec_aluGe (cpu : Cpu) (unit : Fin 4) (o : Word) (t : Word) (s : State) (hu : s.fabricUp = true) :
    exec (.aluGe cpu unit o t) s =
      .next (s.done (s.start.unitOp cpu [(aluPort unit, o)] (aluPort unit + 0x15) t)) := by
  show run s (fun s => s.whenUp _) = _
  exact congrArg (fun x => Host.Outcome.next (s.done x)) (State.whenUp_up (s := s.start) hu)

theorem exec_aluGeu (cpu : Cpu) (unit : Fin 4) (o : Word) (t : Word) (s : State) (hu : s.fabricUp = true) :
    exec (.aluGeu cpu unit o t) s =
      .next (s.done (s.start.unitOp cpu [(aluPort unit, o)] (aluPort unit + 0x16) t)) := by
  show run s (fun s => s.whenUp _) = _
  exact congrArg (fun x => Host.Outcome.next (s.done x)) (State.whenUp_up (s := s.start) hu)

theorem exec_aluAbs (cpu : Cpu) (unit : Fin 4) (o : Word) (t : Word) (s : State) (hu : s.fabricUp = true) :
    exec (.aluAbs cpu unit o t) s =
      .next (s.done (s.start.unitOp cpu [(aluPort unit, o)] (aluPort unit + 0x17) t)) := by
  show run s (fun s => s.whenUp _) = _
  exact congrArg (fun x => Host.Outcome.next (s.done x)) (State.whenUp_up (s := s.start) hu)

theorem exec_aluPass (cpu : Cpu) (unit : Fin 4) (o : Word) (t : Word) (s : State) (hu : s.fabricUp = true) :
    exec (.aluPass cpu unit o t) s =
      .next (s.done (s.start.unitOp cpu [(aluPort unit, o)] (aluPort unit + 0x18) t)) := by
  show run s (fun s => s.whenUp _) = _
  exact congrArg (fun x => Host.Outcome.next (s.done x)) (State.whenUp_up (s := s.start) hu)

theorem exec_macMacq (cpu : Cpu) (unit : Fin 8) (o : Word) (t : Word) (s : State) (hu : s.fabricUp = true) :
    exec (.macMacq cpu unit o t) s =
      .next (s.done (s.start.unitOp cpu [(macPort unit, o)] (macPort unit + 0x02) t)) := by
  show run s (fun s => s.whenUp _) = _
  exact congrArg (fun x => Host.Outcome.next (s.done x)) (State.whenUp_up (s := s.start) hu)

theorem exec_macMul (cpu : Cpu) (unit : Fin 8) (o : Word) (t : Word) (s : State) (hu : s.fabricUp = true) :
    exec (.macMul cpu unit o t) s =
      .next (s.done (s.start.unitOp cpu [(macPort unit, o)] (macPort unit + 0x03) t)) := by
  show run s (fun s => s.whenUp _) = _
  exact congrArg (fun x => Host.Outcome.next (s.done x)) (State.whenUp_up (s := s.start) hu)

theorem exec_macMulh (cpu : Cpu) (unit : Fin 8) (o : Word) (t : Word) (s : State) (hu : s.fabricUp = true) :
    exec (.macMulh cpu unit o t) s =
      .next (s.done (s.start.unitOp cpu [(macPort unit, o)] (macPort unit + 0x04) t)) := by
  show run s (fun s => s.whenUp _) = _
  exact congrArg (fun x => Host.Outcome.next (s.done x)) (State.whenUp_up (s := s.start) hu)

theorem exec_macMulq (cpu : Cpu) (unit : Fin 8) (o : Word) (t : Word) (s : State) (hu : s.fabricUp = true) :
    exec (.macMulq cpu unit o t) s =
      .next (s.done (s.start.unitOp cpu [(macPort unit, o)] (macPort unit + 0x05) t)) := by
  show run s (fun s => s.whenUp _) = _
  exact congrArg (fun x => Host.Outcome.next (s.done x)) (State.whenUp_up (s := s.start) hu)

theorem exec_macMac (cpu : Cpu) (unit : Fin 8) (o : Word) (t : Word) (s : State) (hu : s.fabricUp = true) :
    exec (.macMac cpu unit o t) s =
      .next (s.done (s.start.unitOp cpu [(macPort unit, o)] (macPort unit + 0x06) t)) := by
  show run s (fun s => s.whenUp _) = _
  exact congrArg (fun x => Host.Outcome.next (s.done x)) (State.whenUp_up (s := s.start) hu)

theorem exec_macClr (cpu : Cpu) (unit : Fin 8) (o : Word) (t : Word) (s : State) (hu : s.fabricUp = true) :
    exec (.macClr cpu unit o t) s =
      .next (s.done (s.start.unitOp cpu [(macPort unit, o)] (macPort unit + 0x07) t)) := by
  show run s (fun s => s.whenUp _) = _
  exact congrArg (fun x => Host.Outcome.next (s.done x)) (State.whenUp_up (s := s.start) hu)

theorem exec_macLd (cpu : Cpu) (unit : Fin 8) (o : Word) (t : Word) (s : State) (hu : s.fabricUp = true) :
    exec (.macLd cpu unit o t) s =
      .next (s.done (s.start.unitOp cpu [(macPort unit, o)] (macPort unit + 0x08) t)) := by
  show run s (fun s => s.whenUp _) = _
  exact congrArg (fun x => Host.Outcome.next (s.done x)) (State.whenUp_up (s := s.start) hu)

theorem exec_macRdh (cpu : Cpu) (unit : Fin 8) (o : Word) (t : Word) (s : State) (hu : s.fabricUp = true) :
    exec (.macRdh cpu unit o t) s =
      .next (s.done (s.start.unitOp cpu [(macPort unit, o)] (macPort unit + 0x09) t)) := by
  show run s (fun s => s.whenUp _) = _
  exact congrArg (fun x => Host.Outcome.next (s.done x)) (State.whenUp_up (s := s.start) hu)

theorem exec_fmaFma (cpu : Cpu) (unit : Fin 4) (o : Word) (o2 : Word) (t : Word) (s : State) (hu : s.fabricUp = true) :
    exec (.fmaFma cpu unit o o2 t) s =
      .next (s.done (s.start.unitOp cpu [(fmaPort unit, o), (fmaPort unit + 1, o2)] (fmaPort unit + 0x02) t)) := by
  show run s (fun s => s.whenUp _) = _
  exact congrArg (fun x => Host.Outcome.next (s.done x)) (State.whenUp_up (s := s.start) hu)

theorem exec_fmaFadd (cpu : Cpu) (unit : Fin 4) (o : Word) (o2 : Word) (t : Word) (s : State) (hu : s.fabricUp = true) :
    exec (.fmaFadd cpu unit o o2 t) s =
      .next (s.done (s.start.unitOp cpu [(fmaPort unit, o), (fmaPort unit + 1, o2)] (fmaPort unit + 0x03) t)) := by
  show run s (fun s => s.whenUp _) = _
  exact congrArg (fun x => Host.Outcome.next (s.done x)) (State.whenUp_up (s := s.start) hu)

theorem exec_fmaFsub (cpu : Cpu) (unit : Fin 4) (o : Word) (o2 : Word) (t : Word) (s : State) (hu : s.fabricUp = true) :
    exec (.fmaFsub cpu unit o o2 t) s =
      .next (s.done (s.start.unitOp cpu [(fmaPort unit, o), (fmaPort unit + 1, o2)] (fmaPort unit + 0x04) t)) := by
  show run s (fun s => s.whenUp _) = _
  exact congrArg (fun x => Host.Outcome.next (s.done x)) (State.whenUp_up (s := s.start) hu)

theorem exec_fmaFmul (cpu : Cpu) (unit : Fin 4) (o : Word) (o2 : Word) (t : Word) (s : State) (hu : s.fabricUp = true) :
    exec (.fmaFmul cpu unit o o2 t) s =
      .next (s.done (s.start.unitOp cpu [(fmaPort unit, o), (fmaPort unit + 1, o2)] (fmaPort unit + 0x05) t)) := by
  show run s (fun s => s.whenUp _) = _
  exact congrArg (fun x => Host.Outcome.next (s.done x)) (State.whenUp_up (s := s.start) hu)

theorem exec_fmaFmin (cpu : Cpu) (unit : Fin 4) (o : Word) (o2 : Word) (t : Word) (s : State) (hu : s.fabricUp = true) :
    exec (.fmaFmin cpu unit o o2 t) s =
      .next (s.done (s.start.unitOp cpu [(fmaPort unit, o), (fmaPort unit + 1, o2)] (fmaPort unit + 0x06) t)) := by
  show run s (fun s => s.whenUp _) = _
  exact congrArg (fun x => Host.Outcome.next (s.done x)) (State.whenUp_up (s := s.start) hu)

theorem exec_fmaFmax (cpu : Cpu) (unit : Fin 4) (o : Word) (o2 : Word) (t : Word) (s : State) (hu : s.fabricUp = true) :
    exec (.fmaFmax cpu unit o o2 t) s =
      .next (s.done (s.start.unitOp cpu [(fmaPort unit, o), (fmaPort unit + 1, o2)] (fmaPort unit + 0x07) t)) := by
  show run s (fun s => s.whenUp _) = _
  exact congrArg (fun x => Host.Outcome.next (s.done x)) (State.whenUp_up (s := s.start) hu)

theorem exec_fmaFabs (cpu : Cpu) (unit : Fin 4) (o : Word) (o2 : Word) (t : Word) (s : State) (hu : s.fabricUp = true) :
    exec (.fmaFabs cpu unit o o2 t) s =
      .next (s.done (s.start.unitOp cpu [(fmaPort unit, o), (fmaPort unit + 1, o2)] (fmaPort unit + 0x08) t)) := by
  show run s (fun s => s.whenUp _) = _
  exact congrArg (fun x => Host.Outcome.next (s.done x)) (State.whenUp_up (s := s.start) hu)

theorem exec_fmaItof (cpu : Cpu) (unit : Fin 4) (o : Word) (o2 : Word) (t : Word) (s : State) (hu : s.fabricUp = true) :
    exec (.fmaItof cpu unit o o2 t) s =
      .next (s.done (s.start.unitOp cpu [(fmaPort unit, o), (fmaPort unit + 1, o2)] (fmaPort unit + 0x09) t)) := by
  show run s (fun s => s.whenUp _) = _
  exact congrArg (fun x => Host.Outcome.next (s.done x)) (State.whenUp_up (s := s.start) hu)

theorem exec_fmaQtof (cpu : Cpu) (unit : Fin 4) (o : Word) (o2 : Word) (t : Word) (s : State) (hu : s.fabricUp = true) :
    exec (.fmaQtof cpu unit o o2 t) s =
      .next (s.done (s.start.unitOp cpu [(fmaPort unit, o), (fmaPort unit + 1, o2)] (fmaPort unit + 0x0A) t)) := by
  show run s (fun s => s.whenUp _) = _
  exact congrArg (fun x => Host.Outcome.next (s.done x)) (State.whenUp_up (s := s.start) hu)

theorem exec_fmaFtoq (cpu : Cpu) (unit : Fin 4) (o : Word) (o2 : Word) (t : Word) (s : State) (hu : s.fabricUp = true) :
    exec (.fmaFtoq cpu unit o o2 t) s =
      .next (s.done (s.start.unitOp cpu [(fmaPort unit, o), (fmaPort unit + 1, o2)] (fmaPort unit + 0x0B) t)) := by
  show run s (fun s => s.whenUp _) = _
  exact congrArg (fun x => Host.Outcome.next (s.done x)) (State.whenUp_up (s := s.start) hu)

theorem exec_fmaFtoi (cpu : Cpu) (unit : Fin 4) (o : Word) (o2 : Word) (t : Word) (s : State) (hu : s.fabricUp = true) :
    exec (.fmaFtoi cpu unit o o2 t) s =
      .next (s.done (s.start.unitOp cpu [(fmaPort unit, o), (fmaPort unit + 1, o2)] (fmaPort unit + 0x0C) t)) := by
  show run s (fun s => s.whenUp _) = _
  exact congrArg (fun x => Host.Outcome.next (s.done x)) (State.whenUp_up (s := s.start) hu)

theorem exec_fmaFlt (cpu : Cpu) (unit : Fin 4) (o : Word) (o2 : Word) (t : Word) (s : State) (hu : s.fabricUp = true) :
    exec (.fmaFlt cpu unit o o2 t) s =
      .next (s.done (s.start.unitOp cpu [(fmaPort unit, o), (fmaPort unit + 1, o2)] (fmaPort unit + 0x0D) t)) := by
  show run s (fun s => s.whenUp _) = _
  exact congrArg (fun x => Host.Outcome.next (s.done x)) (State.whenUp_up (s := s.start) hu)

theorem exec_fmaFeq (cpu : Cpu) (unit : Fin 4) (o : Word) (o2 : Word) (t : Word) (s : State) (hu : s.fabricUp = true) :
    exec (.fmaFeq cpu unit o o2 t) s =
      .next (s.done (s.start.unitOp cpu [(fmaPort unit, o), (fmaPort unit + 1, o2)] (fmaPort unit + 0x0E) t)) := by
  show run s (fun s => s.whenUp _) = _
  exact congrArg (fun x => Host.Outcome.next (s.done x)) (State.whenUp_up (s := s.start) hu)

theorem exec_corSincos (cpu : Cpu) (unit : Fin 2) (o : Word) (o2 : Word) (t : Word) (s : State) (hu : s.fabricUp = true) :
    exec (.corSincos cpu unit o o2 t) s =
      .next (s.done (s.start.unitOp cpu [(corPort unit, o), (corPort unit + 1, o2)] (corPort unit + 0x02) t)) := by
  show run s (fun s => s.whenUp _) = _
  exact congrArg (fun x => Host.Outcome.next (s.done x)) (State.whenUp_up (s := s.start) hu)

theorem exec_corAtan2 (cpu : Cpu) (unit : Fin 2) (o : Word) (o2 : Word) (t : Word) (s : State) (hu : s.fabricUp = true) :
    exec (.corAtan2 cpu unit o o2 t) s =
      .next (s.done (s.start.unitOp cpu [(corPort unit, o), (corPort unit + 1, o2)] (corPort unit + 0x03) t)) := by
  show run s (fun s => s.whenUp _) = _
  exact congrArg (fun x => Host.Outcome.next (s.done x)) (State.whenUp_up (s := s.start) hu)

theorem exec_corRot (cpu : Cpu) (unit : Fin 2) (o : Word) (o2 : Word) (t : Word) (s : State) (hu : s.fabricUp = true) :
    exec (.corRot cpu unit o o2 t) s =
      .next (s.done (s.start.unitOp cpu [(corPort unit, o), (corPort unit + 1, o2)] (corPort unit + 0x04) t)) := by
  show run s (fun s => s.whenUp _) = _
  exact congrArg (fun x => Host.Outcome.next (s.done x)) (State.whenUp_up (s := s.start) hu)

theorem exec_divDiv (cpu : Cpu) (unit : Fin 2) (o : Word) (t : Word) (s : State) (hu : s.fabricUp = true) :
    exec (.divDiv cpu unit o t) s =
      .next (s.done (s.start.unitOp cpu [(divPort unit, o)] (divPort unit + 0x02) t)) := by
  show run s (fun s => s.whenUp _) = _
  exact congrArg (fun x => Host.Outcome.next (s.done x)) (State.whenUp_up (s := s.start) hu)

theorem exec_divDivu (cpu : Cpu) (unit : Fin 2) (o : Word) (t : Word) (s : State) (hu : s.fabricUp = true) :
    exec (.divDivu cpu unit o t) s =
      .next (s.done (s.start.unitOp cpu [(divPort unit, o)] (divPort unit + 0x03) t)) := by
  show run s (fun s => s.whenUp _) = _
  exact congrArg (fun x => Host.Outcome.next (s.done x)) (State.whenUp_up (s := s.start) hu)

theorem exec_divDivq (cpu : Cpu) (unit : Fin 2) (o : Word) (t : Word) (s : State) (hu : s.fabricUp = true) :
    exec (.divDivq cpu unit o t) s =
      .next (s.done (s.start.unitOp cpu [(divPort unit, o)] (divPort unit + 0x04) t)) := by
  show run s (fun s => s.whenUp _) = _
  exact congrArg (fun x => Host.Outcome.next (s.done x)) (State.whenUp_up (s := s.start) hu)

theorem exec_winLw (unit : Fin 2) (o : Word) (d : Word) (t : Word) (s : State) (hu : s.fabricUp = true) :
    exec (.winLw unit o d t) s =
      .next (s.done (s.start.unitOp .pav [(lsPort unit, o), (lsPort unit + 1, d)] (lsPort unit + 0x02) t)) := by
  show run s (fun s => s.whenUp _) = _
  exact congrArg (fun x => Host.Outcome.next (s.done x)) (State.whenUp_up (s := s.start) hu)

theorem exec_winLc (unit : Fin 2) (o : Word) (d : Word) (t : Word) (s : State) (hu : s.fabricUp = true) :
    exec (.winLc unit o d t) s =
      .next (s.done (s.start.unitOp .pav [(lsPort unit, o), (lsPort unit + 1, d)] (lsPort unit + 0x03) t)) := by
  show run s (fun s => s.whenUp _) = _
  exact congrArg (fun x => Host.Outcome.next (s.done x)) (State.whenUp_up (s := s.start) hu)

theorem exec_winLt (unit : Fin 2) (o : Word) (d : Word) (t : Word) (s : State) (hu : s.fabricUp = true) :
    exec (.winLt unit o d t) s =
      .next (s.done (s.start.unitOp .pav [(lsPort unit, o), (lsPort unit + 1, d)] (lsPort unit + 0x04) t)) := by
  show run s (fun s => s.whenUp _) = _
  exact congrArg (fun x => Host.Outcome.next (s.done x)) (State.whenUp_up (s := s.start) hu)

theorem exec_winLg (unit : Fin 2) (o : Word) (d : Word) (t : Word) (s : State) (hu : s.fabricUp = true) :
    exec (.winLg unit o d t) s =
      .next (s.done (s.start.unitOp .pav [(lsPort unit, o), (lsPort unit + 1, d)] (lsPort unit + 0x05) t)) := by
  show run s (fun s => s.whenUp _) = _
  exact congrArg (fun x => Host.Outcome.next (s.done x)) (State.whenUp_up (s := s.start) hu)

theorem exec_winLo (unit : Fin 2) (o : Word) (d : Word) (t : Word) (s : State) (hu : s.fabricUp = true) :
    exec (.winLo unit o d t) s =
      .next (s.done (s.start.unitOp .pav [(lsPort unit, o), (lsPort unit + 1, d)] (lsPort unit + 0x06) t)) := by
  show run s (fun s => s.whenUp _) = _
  exact congrArg (fun x => Host.Outcome.next (s.done x)) (State.whenUp_up (s := s.start) hu)

theorem exec_winCrv (unit : Fin 2) (o : Word) (d : Word) (t : Word) (s : State) (hu : s.fabricUp = true) :
    exec (.winCrv unit o d t) s =
      .next (s.done (s.start.unitOp .pav [(lsPort unit, o), (lsPort unit + 1, d)] (lsPort unit + 0x07) t)) := by
  show run s (fun s => s.whenUp _) = _
  exact congrArg (fun x => Host.Outcome.next (s.done x)) (State.whenUp_up (s := s.start) hu)

theorem exec_winFsm (unit : Fin 2) (o : Word) (d : Word) (t : Word) (s : State) (hu : s.fabricUp = true) :
    exec (.winFsm unit o d t) s =
      .next (s.done (s.start.unitOp .pav [(lsPort unit, o), (lsPort unit + 1, d)] (lsPort unit + 0x08) t)) := by
  show run s (fun s => s.whenUp _) = _
  exact congrArg (fun x => Host.Outcome.next (s.done x)) (State.whenUp_up (s := s.start) hu)

theorem exec_winSc (unit : Fin 2) (o : Word) (d : Word) (t : Word) (s : State) (hu : s.fabricUp = true) :
    exec (.winSc unit o d t) s =
      .next (s.done (s.start.unitOp .pav [(lsPort unit, o), (lsPort unit + 1, d)] (lsPort unit + 0x09) t)) := by
  show run s (fun s => s.whenUp _) = _
  exact congrArg (fun x => Host.Outcome.next (s.done x)) (State.whenUp_up (s := s.start) hu)

theorem exec_winSo (unit : Fin 2) (o : Word) (d : Word) (t : Word) (s : State) (hu : s.fabricUp = true) :
    exec (.winSo unit o d t) s =
      .next (s.done (s.start.unitOp .pav [(lsPort unit, o), (lsPort unit + 1, d)] (lsPort unit + 0x0A) t)) := by
  show run s (fun s => s.whenUp _) = _
  exact congrArg (fun x => Host.Outcome.next (s.done x)) (State.whenUp_up (s := s.start) hu)

theorem exec_winSs (unit : Fin 2) (o : Word) (d : Word) (t : Word) (s : State) (hu : s.fabricUp = true) :
    exec (.winSs unit o d t) s =
      .next (s.done (s.start.unitOp .pav [(lsPort unit, o), (lsPort unit + 1, d)] (lsPort unit + 0x0B) t)) := by
  show run s (fun s => s.whenUp _) = _
  exact congrArg (fun x => Host.Outcome.next (s.done x)) (State.whenUp_up (s := s.start) hu)

theorem exec_winSq (unit : Fin 2) (o : Word) (d : Word) (t : Word) (s : State) (hu : s.fabricUp = true) :
    exec (.winSq unit o d t) s =
      .next (s.done (s.start.unitOp .pav [(lsPort unit, o), (lsPort unit + 1, d)] (lsPort unit + 0x0C) t)) := by
  show run s (fun s => s.whenUp _) = _
  exact congrArg (fun x => Host.Outcome.next (s.done x)) (State.whenUp_up (s := s.start) hu)

theorem exec_winSa (unit : Fin 2) (o : Word) (d : Word) (t : Word) (s : State) (hu : s.fabricUp = true) :
    exec (.winSa unit o d t) s =
      .next (s.done (s.start.unitOp .pav [(lsPort unit, o), (lsPort unit + 1, d)] (lsPort unit + 0x0D) t)) := by
  show run s (fun s => s.whenUp _) = _
  exact congrArg (fun x => Host.Outcome.next (s.done x)) (State.whenUp_up (s := s.start) hu)

theorem exec_winSe (unit : Fin 2) (o : Word) (d : Word) (t : Word) (s : State) (hu : s.fabricUp = true) :
    exec (.winSe unit o d t) s =
      .next (s.done (s.start.unitOp .pav [(lsPort unit, o), (lsPort unit + 1, d)] (lsPort unit + 0x0E) t)) := by
  show run s (fun s => s.whenUp _) = _
  exact congrArg (fun x => Host.Outcome.next (s.done x)) (State.whenUp_up (s := s.start) hu)

theorem exec_lsuLw (o : Word) (t : Word) (s : State) (hu : s.fabricUp = true) :
    exec (.lsuLw o t) s =
      .next (s.done (s.start.unitOp .core [(0x380, o)] 0x382 t)) := by
  show run s (fun s => s.whenUp _) = _
  exact congrArg (fun x => Host.Outcome.next (s.done x)) (State.whenUp_up (s := s.start) hu)

theorem exec_lsuLh (o : Word) (t : Word) (s : State) (hu : s.fabricUp = true) :
    exec (.lsuLh o t) s =
      .next (s.done (s.start.unitOp .core [(0x380, o)] 0x383 t)) := by
  show run s (fun s => s.whenUp _) = _
  exact congrArg (fun x => Host.Outcome.next (s.done x)) (State.whenUp_up (s := s.start) hu)

theorem exec_lsuLhu (o : Word) (t : Word) (s : State) (hu : s.fabricUp = true) :
    exec (.lsuLhu o t) s =
      .next (s.done (s.start.unitOp .core [(0x380, o)] 0x384 t)) := by
  show run s (fun s => s.whenUp _) = _
  exact congrArg (fun x => Host.Outcome.next (s.done x)) (State.whenUp_up (s := s.start) hu)

theorem exec_lsuLb (o : Word) (t : Word) (s : State) (hu : s.fabricUp = true) :
    exec (.lsuLb o t) s =
      .next (s.done (s.start.unitOp .core [(0x380, o)] 0x385 t)) := by
  show run s (fun s => s.whenUp _) = _
  exact congrArg (fun x => Host.Outcome.next (s.done x)) (State.whenUp_up (s := s.start) hu)

theorem exec_lsuLbu (o : Word) (t : Word) (s : State) (hu : s.fabricUp = true) :
    exec (.lsuLbu o t) s =
      .next (s.done (s.start.unitOp .core [(0x380, o)] 0x386 t)) := by
  show run s (fun s => s.whenUp _) = _
  exact congrArg (fun x => Host.Outcome.next (s.done x)) (State.whenUp_up (s := s.start) hu)

theorem exec_lsuSw (o : Word) (d : Word) (t : Word) (s : State) (hu : s.fabricUp = true) :
    exec (.lsuSw o d t) s =
      .next (s.done (s.start.unitOp .core [(0x380, o), (0x381, d)] 0x387 t)) := by
  show run s (fun s => s.whenUp _) = _
  exact congrArg (fun x => Host.Outcome.next (s.done x)) (State.whenUp_up (s := s.start) hu)

theorem exec_lsuSh (o : Word) (d : Word) (t : Word) (s : State) (hu : s.fabricUp = true) :
    exec (.lsuSh o d t) s =
      .next (s.done (s.start.unitOp .core [(0x380, o), (0x381, d)] 0x388 t)) := by
  show run s (fun s => s.whenUp _) = _
  exact congrArg (fun x => Host.Outcome.next (s.done x)) (State.whenUp_up (s := s.start) hu)

theorem exec_lsuSb (o : Word) (d : Word) (t : Word) (s : State) (hu : s.fabricUp = true) :
    exec (.lsuSb o d t) s =
      .next (s.done (s.start.unitOp .core [(0x380, o), (0x381, d)] 0x389 t)) := by
  show run s (fun s => s.whenUp _) = _
  exact congrArg (fun x => Host.Outcome.next (s.done x)) (State.whenUp_up (s := s.start) hu)

theorem exec_lsuSync (s : State) (hu : s.fabricUp = true) :
    exec (.lsuSync) s =
      .next (s.done (s.start.unitOp .core [] 0x38A 0)) := by
  show run s (fun s => s.whenUp _) = _
  exact congrArg (fun x => Host.Outcome.next (s.done x)) (State.whenUp_up (s := s.start) hu)

theorem exec_storeComplete (s : State) (hu : s.fabricUp = true) :
    exec (.storeComplete) s =
      .next (s.done (s.start.storeComplete)) := by
  show run s (fun s => s.whenUp _) = _
  exact congrArg (fun x => Host.Outcome.next (s.done x)) (State.whenUp_up (s := s.start) hu)

theorem exec_ctlJmp (cpu : Cpu) (t : Word) (s : State) (hu : s.fabricUp = true) :
    exec (.ctlJmp cpu t) s =
      .next (s.done (s.start.unitOp cpu [] 0x020 t)) := by
  show run s (fun s => s.whenUp _) = _
  exact congrArg (fun x => Host.Outcome.next (s.done x)) (State.whenUp_up (s := s.start) hu)

theorem exec_ctlBr (cpu : Cpu) (t : Word) (s : State) (hu : s.fabricUp = true) :
    exec (.ctlBr cpu t) s =
      .next (s.done (s.start.unitOp cpu [] 0x021 t)) := by
  show run s (fun s => s.whenUp _) = _
  exact congrArg (fun x => Host.Outcome.next (s.done x)) (State.whenUp_up (s := s.start) hu)

theorem exec_ctlCall (cpu : Cpu) (t : Word) (s : State) (hu : s.fabricUp = true) :
    exec (.ctlCall cpu t) s =
      .next (s.done (s.start.unitOp cpu [] 0x022 t)) := by
  show run s (fun s => s.whenUp _) = _
  exact congrArg (fun x => Host.Outcome.next (s.done x)) (State.whenUp_up (s := s.start) hu)

theorem exec_ctlCallr (cpu : Cpu) (t : Word) (s : State) (hu : s.fabricUp = true) :
    exec (.ctlCallr cpu t) s =
      .next (s.done (s.start.unitOp cpu [] 0x023 t)) := by
  show run s (fun s => s.whenUp _) = _
  exact congrArg (fun x => Host.Outcome.next (s.done x)) (State.whenUp_up (s := s.start) hu)

theorem exec_ctlRet (cpu : Cpu) (s : State) (hu : s.fabricUp = true) :
    exec (.ctlRet cpu) s =
      .next (s.done (s.start.unitOp cpu [] 0x024 0)) := by
  show run s (fun s => s.whenUp _) = _
  exact congrArg (fun x => Host.Outcome.next (s.done x)) (State.whenUp_up (s := s.start) hu)

theorem exec_ctlEnd (cpu : Cpu) (s : State) (hu : s.fabricUp = true) :
    exec (.ctlEnd cpu) s =
      .next (s.done (s.start.unitOp cpu [] 0x025 0)) := by
  show run s (fun s => s.whenUp _) = _
  exact congrArg (fun x => Host.Outcome.next (s.done x)) (State.whenUp_up (s := s.start) hu)

theorem exec_ctlBrk (cpu : Cpu) (s : State) (hu : s.fabricUp = true) :
    exec (.ctlBrk cpu) s =
      .next (s.done (s.start.unitOp cpu [] 0x026 0)) := by
  show run s (fun s => s.whenUp _) = _
  exact congrArg (fun x => Host.Outcome.next (s.done x)) (State.whenUp_up (s := s.start) hu)

theorem exec_ctlEret (cpu : Cpu) (s : State) (hu : s.fabricUp = true) :
    exec (.ctlEret cpu) s =
      .next (s.done (s.start.unitOp cpu [] 0x027 0)) := by
  show run s (fun s => s.whenUp _) = _
  exact congrArg (fun x => Host.Outcome.next (s.done x)) (State.whenUp_up (s := s.start) hu)

theorem exec_ctlWfi (cpu : Cpu) (s : State) (hu : s.fabricUp = true) :
    exec (.ctlWfi cpu) s =
      .next (s.done (s.start.unitOp cpu [] 0x028 0)) := by
  show run s (fun s => s.whenUp _) = _
  exact congrArg (fun x => Host.Outcome.next (s.done x)) (State.whenUp_up (s := s.start) hu)

theorem exec_wfiResume (s : State) (hu : s.fabricUp = true) :
    exec (.wfiResume) s =
      .next (s.done (s.start.wfiResume)) := by
  show run s (fun s => s.whenUp _) = _
  exact congrArg (fun x => Host.Outcome.next (s.done x)) (State.whenUp_up (s := s.start) hu)

theorem exec_stkPush (cpu : Cpu) (t : Word) (s : State) (hu : s.fabricUp = true) :
    exec (.stkPush cpu t) s =
      .next (s.done (s.start.unitOp cpu [] 0x018 t)) := by
  show run s (fun s => s.whenUp _) = _
  exact congrArg (fun x => Host.Outcome.next (s.done x)) (State.whenUp_up (s := s.start) hu)

theorem exec_stkPop (cpu : Cpu) (s : State) (hu : s.fabricUp = true) :
    exec (.stkPop cpu) s =
      .next (s.done (s.start.unitOp cpu [] 0x019 0)) := by
  show run s (fun s => s.whenUp _) = _
  exact congrArg (fun x => Host.Outcome.next (s.done x)) (State.whenUp_up (s := s.start) hu)

theorem exec_stkPeek (cpu : Cpu) (t : Word) (s : State) (hu : s.fabricUp = true) :
    exec (.stkPeek cpu t) s =
      .next (s.done (s.start.unitOp cpu [] 0x01A t)) := by
  show run s (fun s => s.whenUp _) = _
  exact congrArg (fun x => Host.Outcome.next (s.done x)) (State.whenUp_up (s := s.start) hu)

theorem exec_repT (cpu : Cpu) (t : Word) (s : State) (hu : s.fabricUp = true) :
    exec (.repT cpu t) s =
      .next (s.done (s.start.unitOp cpu [] 0x009 t)) := by
  show run s (fun s => s.whenUp _) = _
  exact congrArg (fun x => Host.Outcome.next (s.done x)) (State.whenUp_up (s := s.start) hu)

theorem exec_repTn (cpu : Cpu) (t : Word) (s : State) (hu : s.fabricUp = true) :
    exec (.repTn cpu t) s =
      .next (s.done (s.start.unitOp cpu [] 0x00A t)) := by
  show run s (fun s => s.whenUp _) = _
  exact congrArg (fun x => Host.Outcome.next (s.done x)) (State.whenUp_up (s := s.start) hu)

theorem exec_bndChk (cpu : Cpu) (lo : Word) (hi : Word) (t : Word) (s : State) (hu : s.fabricUp = true) :
    exec (.bndChk cpu lo hi t) s =
      .next (s.done (s.start.unitOp cpu [(0x030, lo), (0x031, hi)] 0x032 t)) := by
  show run s (fun s => s.whenUp _) = _
  exact congrArg (fun x => Host.Outcome.next (s.done x)) (State.whenUp_up (s := s.start) hu)

theorem exec_bndChku (cpu : Cpu) (lo : Word) (hi : Word) (t : Word) (s : State) (hu : s.fabricUp = true) :
    exec (.bndChku cpu lo hi t) s =
      .next (s.done (s.start.unitOp cpu [(0x030, lo), (0x031, hi)] 0x033 t)) := by
  show run s (fun s => s.whenUp _) = _
  exact congrArg (fun x => Host.Outcome.next (s.done x)) (State.whenUp_up (s := s.start) hu)

theorem exec_bndClp (cpu : Cpu) (lo : Word) (hi : Word) (t : Word) (s : State) (hu : s.fabricUp = true) :
    exec (.bndClp cpu lo hi t) s =
      .next (s.done (s.start.unitOp cpu [(0x030, lo), (0x031, hi)] 0x034 t)) := by
  show run s (fun s => s.whenUp _) = _
  exact congrArg (fun x => Host.Outcome.next (s.done x)) (State.whenUp_up (s := s.start) hu)

theorem exec_captureBlockCopy (dfn : Fin 8) (s : State) (hu : s.fabricUp = true) :
    exec (.captureBlockCopy dfn) s =
      .next (s.done (s.start.capCopy dfn)) := by
  show run s (fun s => s.whenUp _) = _
  exact congrArg (fun x => Host.Outcome.next (s.done x)) (State.whenUp_up (s := s.start) hu)

theorem exec_ctxDataAccess (port : Port) (write : Option Word) (s : State) :
    exec (.ctxDataAccess port write) s =
      .next (s.done (s.start.ctxAccess port write)) := rfl

theorem exec_trapLogRead (port : Port) (s : State) :
    exec (.trapLogRead port) s =
      .next (s.done (s.start.portRead port pPav Reg.Pav.TRAP_LOG0)) := rfl

theorem exec_evqRead (port : Port) (s : State) :
    exec (.evqRead port) s =
      .next (s.done (s.start.portRead port pPav Reg.Pav.EVQ0)) := rfl

theorem exec_load (port : Port) (nxt : Bool) (slot : Fin 8192) (s : State) :
    exec (.load port nxt slot) s =
      .next (s.done (s.start.portWrite port pOrg Reg.Org.KEY_CMD (keyWord 1 nxt false slot))) := rfl

theorem exec_transportLoadComplete (s : State) (hu : s.fabricUp = true) :
    exec (.transportLoadComplete) s =
      .next (s.done (s.start.keyTransport)) := by
  show run s (fun s => s.whenUp _) = _
  exact congrArg (fun x => Host.Outcome.next (s.done x)) (State.whenUp_up (s := s.start) hu)

theorem exec_swapAt (port : Port) (slot : Fin 8192) (s : State) :
    exec (.swapAt port slot) s =
      .next (s.done (s.start.portWrite port pOrg Reg.Org.KEY_CMD (keyWord 2 false false slot))) := rfl

theorem exec_erase (port : Port) (nxt : Bool) (both : Bool) (slot : Fin 8192) (s : State) :
    exec (.erase port nxt both slot) s =
      .next (s.done (s.start.portWrite port pOrg Reg.Org.KEY_CMD (keyWord 3 nxt both slot))) := rfl

theorem exec_exportBlob (port : Port) (nxt : Bool) (slot : Fin 8192) (s : State) :
    exec (.exportBlob port nxt slot) s =
      .next (s.done (s.start.portWrite port pOrg Reg.Org.KEY_CMD (keyWord 4 nxt false slot))) := rfl

theorem exec_bbrGen (port : Port) (s : State) :
    exec (.bbrGen port) s =
      .next (s.done (s.start.portWrite port pOrg Reg.Org.KEY_CMD (keyWord 5 false false 0))) := rfl

theorem exec_kekDerive (port : Port) (s : State) :
    exec (.kekDerive port) s =
      .next (s.done (s.start.portWrite port pOrg Reg.Org.KEY_CMD (keyWord 6 false false 0))) := rfl

theorem exec_ringHeadWrite (port : Port) (ring : Fin 4) (value : Word) (s : State) :
    exec (.ringHeadWrite port ring value) s =
      .next (s.done (s.start.portWrite port pOrg (Reg.Org.RING_HEAD ring) value)) := rfl

theorem exec_ringDisable (port : Port) (ring : Fin 4) (value : Word) (s : State) :
    exec (.ringDisable port ring value) s =
      .next (s.done (s.start.portWrite port pOrg (Reg.Org.RING_CTL ring) (value &&& 0x7FFFFFFF))) := rfl

theorem exec_coreTakeDescriptor (s : State) (hu : s.fabricUp = true) :
    exec (.coreTakeDescriptor) s =
      .next (s.done (s.start.takeDescriptor)) := by
  show run s (fun s => s.whenUp _) = _
  exact congrArg (fun x => Host.Outcome.next (s.done x)) (State.whenUp_up (s := s.start) hu)

theorem exec_descriptorComplete (cpu : Fin 48) (s : State) (hu : s.fabricUp = true) :
    exec (.descriptorComplete cpu) s =
      .next (s.done (s.start.coreDone cpu)) := by
  show run s (fun s => s.whenUp _) = _
  exact congrArg (fun x => Host.Outcome.next (s.done x)) (State.whenUp_up (s := s.start) hu)

theorem exec_hash (port : Port) (s : State) :
    exec (.hash port) s =
      .next (s.done (s.start.portWrite port pArb Reg.Arb.ARB_CMD (arbWord 1 false 0 0 0))) := rfl

theorem exec_p256Verify (port : Port) (s : State) :
    exec (.p256Verify port) s =
      .next (s.done (s.start.portWrite port pArb Reg.Arb.ARB_CMD (arbWord 2 false 0 0 0))) := rfl

theorem exec_p256Sign (port : Port) (ksrc : Fin 4) (esel : Fin 4) (s : State) :
    exec (.p256Sign port ksrc esel) s =
      .next (s.done (s.start.portWrite port pArb Reg.Arb.ARB_CMD (arbWord 3 false ksrc esel 0))) := rfl

theorem exec_p256Ecdh (port : Port) (ksrc : Fin 4) (esel : Fin 4) (s : State) :
    exec (.p256Ecdh port ksrc esel) s =
      .next (s.done (s.start.portWrite port pArb Reg.Arb.ARB_CMD (arbWord 4 false ksrc esel 0))) := rfl

theorem exec_p256Keygen (port : Port) (ksrc : Fin 4) (esel : Fin 4) (s : State) :
    exec (.p256Keygen port ksrc esel) s =
      .next (s.done (s.start.portWrite port pArb Reg.Arb.ARB_CMD (arbWord 5 false ksrc esel 0))) := rfl

theorem exec_attest (port : Port) (s : State) :
    exec (.attest port) s =
      .next (s.done (s.start.portWrite port pArb Reg.Arb.ARB_CMD (arbWord 6 false 0 0 0))) := rfl

theorem exec_modadd (port : Port) (masked : Bool) (words : Fin 32) (s : State) :
    exec (.modadd port masked words) s =
      .next (s.done (s.start.portWrite port pArb Reg.Arb.ARB_CMD (arbWord 7 masked 0 0 words))) := rfl

theorem exec_modsub (port : Port) (masked : Bool) (words : Fin 32) (s : State) :
    exec (.modsub port masked words) s =
      .next (s.done (s.start.portWrite port pArb Reg.Arb.ARB_CMD (arbWord 8 masked 0 0 words))) := rfl

theorem exec_modmul (port : Port) (masked : Bool) (words : Fin 32) (s : State) :
    exec (.modmul port masked words) s =
      .next (s.done (s.start.portWrite port pArb Reg.Arb.ARB_CMD (arbWord 9 masked 0 0 words))) := rfl

theorem exec_modexp (port : Port) (masked : Bool) (words : Fin 32) (s : State) :
    exec (.modexp port masked words) s =
      .next (s.done (s.start.portWrite port pArb Reg.Arb.ARB_CMD (arbWord 10 masked 0 0 words))) := rfl

theorem exec_clear (port : Port) (s : State) :
    exec (.clear port) s =
      .next (s.done (s.start.portWrite port pArb Reg.Arb.ARB_CMD (arbWord 14 false 0 0 0))) := rfl

theorem exec_abort (port : Port) (s : State) :
    exec (.abort port) s =
      .next (s.done (s.start.portWrite port pArb Reg.Arb.ARB_CMD (arbWord 15 false 0 0 0))) := rfl

theorem exec_arbTimedPhaseStart (s : State) (hu : s.fabricUp = true) :
    exec (.arbTimedPhaseStart) s =
      .next (s.done (s.start.arbTimed)) := by
  show run s (fun s => s.whenUp _) = _
  exact congrArg (fun x => Host.Outcome.next (s.done x)) (State.whenUp_up (s := s.start) hu)

theorem exec_arbOperationComplete (s : State) (hu : s.fabricUp = true) :
    exec (.arbOperationComplete) s =
      .next (s.done (s.start.arbComplete)) := by
  show run s (fun s => s.whenUp _) = _
  exact congrArg (fun x => Host.Outcome.next (s.done x)) (State.whenUp_up (s := s.start) hu)

theorem exec_arbPreempt (s : State) (hu : s.fabricUp = true) :
    exec (.arbPreempt) s =
      .next (s.done (s.start.arbPreempt)) := by
  show run s (fun s => s.whenUp _) = _
  exact congrArg (fun x => Host.Outcome.next (s.done x)) (State.whenUp_up (s := s.start) hu)

theorem exec_scrDataAccess (port : Port) (write : Option Word) (s : State) :
    exec (.scrDataAccess port write) s =
      .next (s.done (s.start.portAccess port pArb Reg.Arb.SCR_DATA write)) := rfl

theorem exec_fountainReady (s : State) (hu : s.fabricUp = true) :
    exec (.fountainReady) s =
      .next (s.done (s.start.ftnUp)) := by
  show run s (fun s => s.whenUp _) = _
  exact congrArg (fun x => Host.Outcome.next (s.done x)) (State.whenUp_up (s := s.start) hu)

theorem exec_fountainStartupTimeout (s : State) (hu : s.fabricUp = true) :
    exec (.fountainStartupTimeout) s =
      .next (s.done (s.start.ftnTimeout)) := by
  show run s (fun s => s.whenUp _) = _
  exact congrArg (fun x => Host.Outcome.next (s.done x)) (State.whenUp_up (s := s.start) hu)

theorem exec_healthTestFail (cause : HealthFail) (s : State) (hu : s.fabricUp = true) :
    exec (.healthTestFail cause) s =
      .next (s.done (s.start.healthFail cause)) := by
  show run s (fun s => s.whenUp _) = _
  exact congrArg (fun x => Host.Outcome.next (s.done x)) (State.whenUp_up (s := s.start) hu)

theorem exec_ftnRequestServed (s : State) (hu : s.fabricUp = true) :
    exec (.ftnRequestServed) s =
      .next (s.done (s.start.ftnServe)) := by
  show run s (fun s => s.whenUp _) = _
  exact congrArg (fun x => Host.Outcome.next (s.done x)) (State.whenUp_up (s := s.start) hu)

theorem exec_ftnOut0Read (port : Port) (s : State) :
    exec (.ftnOut0Read port) s =
      .next (s.done (s.start.portRead port pFtn (Reg.Ftn.FTN_OUT 0))) := rfl

theorem exec_ftnReseed (port : Port) (s : State) :
    exec (.ftnReseed port) s =
      .next (s.done (s.start.portWrite port pFtn Reg.Ftn.FTN_CMD 0x5EED)) := rfl

theorem exec_clnEnable (port : Port) (s : State) :
    exec (.clnEnable port) s =
      .next (s.done (s.start.portWrite port pCln Reg.Hdr.CTL 1)) := rfl

theorem exec_peerHeartbeatSeen (side : Fin 2) (peer : PeerState) (delay : Nat) (s : State) (hu : s.fabricUp = true) :
    exec (.peerHeartbeatSeen side peer delay) s =
      .next (s.done (s.start.heartbeat side peer delay)) := by
  show run s (fun s => s.whenUp _) = _
  exact congrArg (fun x => Host.Outcome.next (s.done x)) (State.whenUp_up (s := s.start) hu)

theorem exec_waitTimeout (s : State) (hu : s.fabricUp = true) :
    exec (.waitTimeout) s =
      .next (s.done (s.start.waitTimeout)) := by
  show run s (fun s => s.whenUp _) = _
  exact congrArg (fun x => Host.Outcome.next (s.done x)) (State.whenUp_up (s := s.start) hu)

theorem exec_attachRetry (s : State) (hu : s.fabricUp = true) :
    exec (.attachRetry) s =
      .next (s.done (s.start.attachRetry)) := by
  show run s (fun s => s.whenUp _) = _
  exact congrArg (fun x => Host.Outcome.next (s.done x)) (State.whenUp_up (s := s.start) hu)

theorem exec_attachMessageReceived (m : AttachMsg) (s : State) (hu : s.fabricUp = true) :
    exec (.attachMessageReceived m) s =
      .next (s.done (s.start.attachMessage m)) := by
  show run s (fun s => s.whenUp _) = _
  exact congrArg (fun x => Host.Outcome.next (s.done x)) (State.whenUp_up (s := s.start) hu)

theorem exec_stateTransferReceived (item : XferItem) (s : State) (h : stateTransferReceivedOk item = true) (hu : s.fabricUp = true) :
    exec (.stateTransferReceived item) s =
      .next (s.done (s.start.stateTransfer item)) := (runIf_done s _ h).trans
    (congrArg (fun x => Host.Outcome.next (s.done x)) (State.whenUp_up (s := s.start) hu))

theorem exec_digestRecordReceived (d : PeerDigest) (s : State) (h : digestRecordReceivedOk d = true) (hu : s.fabricUp = true) :
    exec (.digestRecordReceived d) s =
      .next (s.done (s.start.digestReceived d)) := (runIf_done s _ h).trans
    (congrArg (fun x => Host.Outcome.next (s.done x)) (State.whenUp_up (s := s.start) hu))

theorem exec_forwardTimeout (s : State) (hu : s.fabricUp = true) :
    exec (.forwardTimeout) s =
      .next (s.done (s.start.forwardTimeout)) := by
  show run s (fun s => s.whenUp _) = _
  exact congrArg (fun x => Host.Outcome.next (s.done x)) (State.whenUp_up (s := s.start) hu)

theorem exec_forwardedFrameReceived (frame : FwdFrame) (s : State) (h : forwardedFrameReceivedOk frame = true) (hu : s.fabricUp = true) :
    exec (.forwardedFrameReceived frame) s =
      .next (s.done (s.start.forwarded frame)) := (runIf_done s _ h).trans
    (congrArg (fun x => Host.Outcome.next (s.done x)) (State.whenUp_up (s := s.start) hu))

theorem exec_slotRecordReceived (rec_ : List Word) (roles : Fin 32) (handed : Fin 32) (leaving : Bool) (ofs : Int) (s : State) (h : slotRecordReceivedOk rec_ = true) (hu : s.fabricUp = true) :
    exec (.slotRecordReceived rec_ roles handed leaving ofs) s =
      .next (s.done (s.start.slotRecord rec_ roles handed leaving ofs)) := (runIf_done s _ h).trans
    (congrArg (fun x => Host.Outcome.next (s.done x)) (State.whenUp_up (s := s.start) hu))

theorem exec_slotRecordSplit (s : State) (hu : s.fabricUp = true) :
    exec (.slotRecordSplit) s =
      .next (s.done (s.start.recordSplit)) := by
  show run s (fun s => s.whenUp _) = _
  exact congrArg (fun x => Host.Outcome.next (s.done x)) (State.whenUp_up (s := s.start) hu)

theorem exec_sequenceCheckReceived (counters : List (Nat × Nat × Nat)) (s : State) (h : sequenceCheckReceivedOk counters = true) (hu : s.fabricUp = true) :
    exec (.sequenceCheckReceived counters) s =
      .next (s.done (s.start.sequenceCheck counters)) := (runIf_done s _ h).trans
    (congrArg (fun x => Host.Outcome.next (s.done x)) (State.whenUp_up (s := s.start) hu))

theorem exec_timeOffsetAlarm (ofs : Int) (s : State) (hu : s.fabricUp = true) :
    exec (.timeOffsetAlarm ofs) s =
      .next (s.done (s.start.timeAlarm ofs)) := by
  show run s (fun s => s.whenUp _) = _
  exact congrArg (fun x => Host.Outcome.next (s.done x)) (State.whenUp_up (s := s.start) hu)

theorem exec_sideLoss (side : Fin 2) (s : State) (hu : s.fabricUp = true) :
    exec (.sideLoss side) s =
      .next (s.done (s.start.sideLoss side)) := by
  show run s (fun s => s.whenUp _) = _
  exact congrArg (fun x => Host.Outcome.next (s.done x)) (State.whenUp_up (s := s.start) hu)

theorem exec_peerLoss (us : Nat) (s : State) (hu : s.fabricUp = true) :
    exec (.peerLoss us) s =
      .next (s.done (s.start.peerLoss us)) := by
  show run s (fun s => s.whenUp _) = _
  exact congrArg (fun x => Host.Outcome.next (s.done x)) (State.whenUp_up (s := s.start) hu)

theorem exec_attach (port : Port) (s : State) :
    exec (.attach port) s =
      .next (s.done (s.start.portWrite port pCln Reg.Cln.CLN_CMD 1)) := rfl

theorem exec_detach (port : Port) (s : State) :
    exec (.detach port) s =
      .next (s.done (s.start.portWrite port pCln Reg.Cln.CLN_CMD 2)) := rfl

theorem exec_handRoles (port : Port) (s : State) :
    exec (.handRoles port) s =
      .next (s.done (s.start.portWrite port pCln Reg.Cln.CLN_CMD 3)) := rfl

theorem exec_keysync (port : Port) (s : State) :
    exec (.keysync port) s =
      .next (s.done (s.start.portWrite port pCln Reg.Cln.CLN_CMD 4)) := rfl

theorem exec_keyReplicationReceived (m : KeyMsg) (s : State) (h : keyReplicationReceivedOk m = true) (hu : s.fabricUp = true) :
    exec (.keyReplicationReceived m) s =
      .next (s.done (s.start.keyMessage m)) := (runIf_done s _ h).trans
    (congrArg (fun x => Host.Outcome.next (s.done x)) (State.whenUp_up (s := s.start) hu))

theorem exec_zeroisePropagationReceived (s : State) (hu : s.fabricUp = true) :
    exec (.zeroisePropagationReceived) s =
      .next (s.done (s.start.peerZeroise)) := by
  show run s (fun s => s.whenUp _) = _
  exact congrArg (fun x => Host.Outcome.next (s.done x)) (State.whenUp_up (s := s.start) hu)

theorem exec_certAddrWrite (port : Port) (value : Word) (s : State) :
    exec (.certAddrWrite port value) s =
      .next (s.done (s.start.portWrite port pCln Reg.Cln.CERT_ADDR value)) := rfl

theorem exec_certVerifyComplete (s : State) (hu : s.fabricUp = true) :
    exec (.certVerifyComplete) s =
      .next (s.done (s.start.certDone)) := by
  show run s (fun s => s.whenUp _) = _
  exact congrArg (fun x => Host.Outcome.next (s.done x)) (State.whenUp_up (s := s.start) hu)

theorem exec_takeLogRead (port : Port) (s : State) :
    exec (.takeLogRead port) s =
      .next (s.done (s.start.portRead port pCln Reg.Cln.TAKE_LOG)) := rfl

theorem exec_nvmErase (port : Port) (s : State) :
    exec (.nvmErase port) s =
      .next (s.done (s.start.portWrite port pNvm Reg.Nvm.NVM_CMD 0xE50001)) := rfl

theorem exec_nvmProgram (port : Port) (s : State) :
    exec (.nvmProgram port) s =
      .next (s.done (s.start.portWrite port pNvm Reg.Nvm.NVM_CMD 0xE50002)) := rfl

theorem exec_nvmVerify (port : Port) (margin : Fin 4) (cmpSrc : Bool) (s : State) :
    exec (.nvmVerify port margin cmpSrc) s =
      .next (s.done (s.start.portWrite port pNvm Reg.Nvm.NVM_CMD (verifyWord margin cmpSrc))) := rfl

theorem exec_nvmUnitDone (s : State) (hu : s.fabricUp = true) :
    exec (.nvmUnitDone) s =
      .next (s.done (s.start.nvmUnit.bootCard)) := by
  show run s (fun s => s.whenUp _) = _
  exact congrArg (fun x => Host.Outcome.next (s.done x)) (State.whenUp_up (s := s.start) hu)

theorem exec_nvmRunResume (s : State) (hu : s.fabricUp = true) :
    exec (.nvmRunResume) s =
      .next (s.done (s.start.nvmResume)) := by
  show run s (fun s => s.whenUp _) = _
  exact congrArg (fun x => Host.Outcome.next (s.done x)) (State.whenUp_up (s := s.start) hu)

theorem exec_patrolScrubRead (region : Fin 16) (word : Nat) (s : State) (hu : s.fabricUp = true) :
    exec (.patrolScrubRead region word) s =
      .next (s.done (s.start.patrolRead region word)) := by
  show run s (fun s => s.whenUp _) = _
  exact congrArg (fun x => Host.Outcome.next (s.done x)) (State.whenUp_up (s := s.start) hu)

theorem exec_reactionStep (dt : Nat) (s : State) :
    exec (.reactionStep dt) s =
      .next (s.done (s.start.reactionStep dt)) := rfl

theorem exec_fenceCmd (port : Port) (s : State) :
    exec (.fenceCmd port) s =
      .next (s.done (s.start.portWrite port pBlv Reg.Blv.FENCE_CMD 0xF3CE)) := rfl

theorem exec_fenceLift (peer : Option (Word × Nat)) (s : State) (hu : s.fabricUp = true) :
    exec (.fenceLift peer) s =
      .next (s.done (match peer with
    | some (target, slot) => s.start.fenceLiftPeer target slot
    | none => s.start.fenceLiftNow)) := by
  show run s (fun s => s.whenUp _) = _
  exact congrArg (fun x => Host.Outcome.next (s.done x)) (State.whenUp_up (s := s.start) hu)

theorem exec_histClr (port : Port) (s : State) :
    exec (.histClr port) s =
      .next (s.done (s.start.portWrite port pBlv Reg.Blv.HIST_CLR 0xC1EA)) := rfl

theorem exec_hist0Read (port : Port) (s : State) :
    exec (.hist0Read port) s =
      .next (s.done (s.start.portRead port pBlv (Reg.Blv.HIST 0))) := rfl

theorem exec_lightMesh (nanoamps : Nat) (s : State) :
    exec (.lightMesh nanoamps) s =
      .next (s.done (s.start.lightMesh nanoamps)) := rfl

theorem exec_lightCellRefresh (decayed : Fin 4097) (s : State) :
    exec (.lightCellRefresh decayed) s =
      .next (s.done (s.start.lightCells decayed)) := rfl

theorem exec_lightDisagree (s : State) :
    exec (.lightDisagree) s =
      .next (s.done (s.start.lightDisagree)) := rfl

theorem exec_supplyGlitch (ns : Nat) (s : State) :
    exec (.supplyGlitch ns) s =
      .next (s.done (s.start.supplyGlitch ns)) := rfl

theorem exec_clockGlitch (s : State) :
    exec (.clockGlitch) s =
      .next (s.done (s.start.hdgMeets 4 true)) := rfl

theorem exec_backupTempSample (temp : Int) (ticks : Nat) (s : State) (h : backupTempSampleOk temp = true) :
    exec (.backupTempSample temp ticks) s =
      .next (s.done (s.start.backupTemp temp ticks)) := runIf_done s _ h

theorem exec_backupAlarm (mask : Fin 256) (ticks : Nat) (s : State) :
    exec (.backupAlarm mask ticks) s =
      .next (s.done (s.start.backupAlarm mask ticks)) := rfl

theorem exec_cardInsertion (s : State) (hu : s.fabricUp = true) :
    exec (.cardInsertion) s =
      .next (s.done (s.start.cardInsertion.bootCard)) := by
  show run s (fun s => s.whenUp _) = _
  exact congrArg (fun x => Host.Outcome.next (s.done x)) (State.whenUp_up (s := s.start) hu)

theorem exec_cardRemoval (s : State) (hu : s.fabricUp = true) :
    exec (.cardRemoval) s =
      .next (s.done (s.start.cardRemoval.bootCard)) := by
  show run s (fun s => s.whenUp _) = _
  exact congrArg (fun x => Host.Outcome.next (s.done x)) (State.whenUp_up (s := s.start) hu)

theorem exec_cardResponse (answer : CardAnswer) (detHigh : Bool) (s : State) (hu : s.fabricUp = true) :
    exec (.cardResponse answer detHigh) s =
      .next (s.done ((s.start.cardAnswer answer detHigh).bootCard)) := by
  show run s (fun s => s.whenUp _) = _
  exact congrArg (fun x => Host.Outcome.next (s.done x)) (State.whenUp_up (s := s.start) hu)

theorem exec_cardBusyRelease (s : State) (hu : s.fabricUp = true) :
    exec (.cardBusyRelease) s =
      .next (s.done (s.start.cardReleased.bootCard)) := by
  show run s (fun s => s.whenUp _) = _
  exact congrArg (fun x => Host.Outcome.next (s.done x)) (State.whenUp_up (s := s.start) hu)

theorem exec_cardBusyTimeout (detHigh : Bool) (s : State) (hu : s.fabricUp = true) :
    exec (.cardBusyTimeout detHigh) s =
      .next (s.done ((s.start.cardBusyTimeout detHigh).bootCard)) := by
  show run s (fun s => s.whenUp _) = _
  exact congrArg (fun x => Host.Outcome.next (s.done x)) (State.whenUp_up (s := s.start) hu)

theorem exec_read (port : Port) (count : Fin 256) (s : State) :
    exec (.read port count) s =
      .next (s.done (s.start.portWrite port pPsh Reg.Psh.PSH_CMD (cardWord 1 count))) := rfl

theorem exec_write (port : Port) (count : Fin 256) (s : State) :
    exec (.write port count) s =
      .next (s.done (s.start.portWrite port pPsh Reg.Psh.PSH_CMD (cardWord 2 count))) := rfl

theorem exec_sleepClk (port : Port) (s : State) :
    exec (.sleepClk port) s =
      .next (s.done (s.start.portWrite port pPsh Reg.Psh.PSH_CMD (cardWord 3 0))) := rfl

theorem exec_sleepOff (port : Port) (s : State) :
    exec (.sleepOff port) s =
      .next (s.done (s.start.portWrite port pPsh Reg.Psh.PSH_CMD (cardWord 4 0))) := rfl

theorem exec_wake (port : Port) (s : State) :
    exec (.wake port) s =
      .next (s.done (s.start.portWrite port pPsh Reg.Psh.PSH_CMD (cardWord 5 0))) := rfl

theorem exec_discard (port : Port) (s : State) :
    exec (.discard port) s =
      .next (s.done (s.start.portWrite port pPsh Reg.Psh.PSH_CMD (cardWord 6 0))) := rfl

theorem exec_fieldAppear (strong : Bool) (s : State) :
    exec (.fieldAppear strong) s =
      .next (s.done (s.start.fieldArrives strong)) := rfl

theorem exec_fieldCollapse (s : State) :
    exec (.fieldCollapse) s =
      .next (s.done (s.start.fieldCollapse)) := rfl

theorem exec_reqa (s : State) :
    exec (.reqa) s =
      .next (s.done (s.start.tagRequest false)) := rfl

theorem exec_wupa (s : State) :
    exec (.wupa) s =
      .next (s.done (s.start.tagRequest true)) := rfl

theorem exec_anticollision (level : Fin 3) (k : Fin 40) (uid : List Byte) (s : State) (h : anticollisionOk level uid = true) :
    exec (.anticollision level k uid) s =
      .next (s.done (s.start.tagAnticollision level k uid)) := runIf_done s _ h

theorem exec_select (level : Fin 3) (uid : List Byte) (crcOk : Bool) (s : State) (h : selectOk level uid = true) :
    exec (.select level uid crcOk) s =
      .next (s.done (s.start.tagSelect level uid crcOk)) := runIf_done s _ h

theorem exec_hlta (crcOk : Bool) (mac : List Byte) (s : State) :
    exec (.hlta crcOk mac) s =
      .next (s.done (s.start.tagHalt crcOk mac)) := rfl

theorem exec_invalidTagFrame (s : State) :
    exec (.invalidTagFrame) s =
      .next (s.done (s.start.tagStray)) := rfl

theorem exec_invBegin (haltToo : Bool) (crcOk : Bool) (s : State) :
    exec (.invBegin haltToo crcOk) s =
      .next (s.done (s.start.invBegin haltToo crcOk)) := rfl

theorem exec_invNext (crcOk : Bool) (s : State) :
    exec (.invNext crcOk) s =
      .next (s.done (s.start.invNext crcOk)) := rfl

theorem exec_invAck (handle : Fin 65536) (crcOk : Bool) (s : State) :
    exec (.invAck handle crcOk) s =
      .next (s.done (s.start.invAck handle crcOk)) := rfl

theorem exec_invTree (crcOk : Bool) (s : State) :
    exec (.invTree crcOk) s =
      .next (s.done (s.start.invTree crcOk)) := rfl

theorem exec_readRec (rec_ : Fin 256) (ofs : Fin 256) (crcOk : Bool) (mac : List Byte) (s : State) :
    exec (.readRec rec_ ofs crcOk mac) s =
      .next (s.done (s.start.tagReadRec rec_ ofs crcOk mac)) := rfl

theorem exec_noteStage (ofs : Fin 256) (data : List Byte) (crcOk : Bool) (mac : List Byte) (s : State) (h : noteStageOk data = true) :
    exec (.noteStage ofs data crcOk mac) s =
      .next (s.done (s.start.noteStage ofs data crcOk mac)) := runIf_done s _ h

theorem exec_noteCommit (seq : Fin 65536) (cut : Option Nat) (crcOk : Bool) (mac : List Byte) (s : State) :
    exec (.noteCommit seq cut crcOk mac) s =
      .next (s.done (s.start.noteCommit seq cut crcOk mac)) := rfl

theorem exec_pwdAuth (pwd : List Byte) (crcOk : Bool) (mac : List Byte) (s : State) (h : pwdAuthOk pwd = true) :
    exec (.pwdAuth pwd crcOk mac) s =
      .next (s.done (s.start.pwdAuth pwd crcOk mac)) := runIf_done s _ h

theorem exec_pwdHoldoffExpiry (s : State) :
    exec (.pwdHoldoffExpiry) s =
      .next (s.done (s.start.pwdHoldoffEnd)) := rfl

theorem exec_auth1 (keyNo : Fin 256) (crcOk : Bool) (mac : List Byte) (s : State) :
    exec (.auth1 keyNo crcOk mac) s =
      .next (s.done (s.start.auth1 keyNo crcOk mac)) := rfl

theorem exec_auth2 (na : List Byte) (tr : List Byte) (crcOk : Bool) (mac : List Byte) (s : State) (h : auth2Ok na tr = true) :
    exec (.auth2 na tr crcOk mac) s =
      .next (s.done (s.start.auth2 na tr crcOk mac)) := runIf_done s _ h

theorem exec_regRd (addr : Word) (crcOk : Bool) (mac : List Byte) (s : State) :
    exec (.regRd addr crcOk mac) s =
      .next (s.done (s.start.tagRegRead addr.toNat crcOk mac)) := rfl

theorem exec_regWr (pair : Bool) (addr : Word) (value : Word) (crcOk : Bool) (mac : List Byte) (s : State) :
    exec (.regWr pair addr value crcOk mac) s =
      .next (s.done (s.start.tagRegWrite pair addr.toNat value crcOk mac)) := rfl

theorem exec_kskReadRec (port : Port) (rec_ : Fin 8) (s : State) :
    exec (.kskReadRec port rec_) s =
      .next (s.done (s.start.portWrite port pKsk Reg.Ksk.KSK_CMD (kskWord 1 rec_ 0))) := rfl

theorem exec_kskWriteRec (port : Port) (rec_ : Fin 8) (s : State) :
    exec (.kskWriteRec port rec_) s =
      .next (s.done (s.start.portWrite port pKsk Reg.Ksk.KSK_CMD (kskWord 2 rec_ 0))) := rfl

theorem exec_keyFromSlot (port : Port) (slot : Fin 8192) (s : State) :
    exec (.keyFromSlot port slot) s =
      .next (s.done (s.start.portWrite port pKsk Reg.Ksk.KSK_CMD (kskWord 3 0 slot))) := rfl

theorem exec_keyClear (port : Port) (s : State) :
    exec (.keyClear port) s =
      .next (s.done (s.start.portWrite port pKsk Reg.Ksk.KSK_CMD (kskWord 4 0 0))) := rfl

theorem exec_pwdSet (port : Port) (s : State) :
    exec (.pwdSet port) s =
      .next (s.done (s.start.portWrite port pKsk Reg.Ksk.KSK_CMD (kskWord 5 0 0))) := rfl

theorem exec_pwdUnblock (port : Port) (s : State) :
    exec (.pwdUnblock port) s =
      .next (s.done (s.start.portWrite port pKsk Reg.Ksk.KSK_CMD (kskWord 6 0 0))) := rfl

theorem exec_gthNarrowWrite (port : Port) (clrW : BitVec 9) (clrR : BitVec 9) (all : Bool) (s : State) :
    exec (.gthNarrowWrite port clrW clrR all) s =
      .next (s.done (s.start.portWrite port pGth Reg.Gth.GTH_NARROW (narrowWord clrW clrR all))) := rfl

theorem exec_proxyRead (port : Port) (twin : Bool) (s : State) :
    exec (.proxyRead port twin) s =
      .next (s.done (s.start.portWrite port pGth Reg.Gth.GTH_PROXY_CMD (proxyWord false false twin))) := rfl

theorem exec_proxyWrite (port : Port) (pair : Bool) (twin : Bool) (s : State) :
    exec (.proxyWrite port pair twin) s =
      .next (s.done (s.start.portWrite port pGth Reg.Gth.GTH_PROXY_CMD (proxyWord true pair twin))) := rfl

theorem exec_proxyAccessReceived (write : Bool) (pair : Bool) (addr : Word) (value : Word) (s : State) :
    exec (.proxyAccessReceived write pair addr value) s =
      .next (s.done (s.start.proxyReceived ⟨false, write, pair, addr.toNat, value⟩)) := rfl

theorem exec_proxyAnswerReceived (answer : Option (Nat × Word)) (s : State) (h : proxyAnswerReceivedOk answer = true) (hu : s.fabricUp = true) :
    exec (.proxyAnswerReceived answer) s =
      .next (s.done (s.start.proxyAnswer answer)) := (runIf_done s _ h).trans
    (congrArg (fun x => Host.Outcome.next (s.done x)) (State.whenUp_up (s := s.start) hu))

theorem exec_gthLogRead (port : Port) (s : State) :
    exec (.gthLogRead port) s =
      .next (s.done (s.start.portRead port pGth Reg.Gth.GTH_LOG)) := rfl

theorem exec_lockstepError (parity : Bool) (s : State) (hu : s.fabricUp = true) :
    exec (.lockstepError parity) s =
      .next (s.done (s.start.lockstep (if parity then 2 else 1))) := by
  show run s (fun s => s.whenUp _) = _
  exact congrArg (fun x => Host.Outcome.next (s.done x)) (State.whenUp_up (s := s.start) hu)

theorem exec_rekey (port : Port) (s : State) :
    exec (.rekey port) s =
      .next (s.done (s.start.portWrite port pCcp Reg.Ccp.CCP_MASK 0x80000000)) := rfl

theorem exec_pcieReset (perst : Bool) (s : State) :
    exec (.pcieReset perst) s =
      .next (s.done (s.start.pcieReset perst)) := rfl

theorem exec_bar2Access (offset : Fin 0x8000000) (count : Fin 1025) (write : Option (List Byte)) (s : State) :
    exec (.bar2Access offset count write) s =
      .next (s.done (match write with
    | some octets => s.start.bar2Write offset octets
    | none => s.start.bar2Read offset count)) := rfl

theorem exec_hifF2hSetWrite (port : Port) (value : Word) (s : State) :
    exec (.hifF2hSetWrite port value) s =
      .next (s.done (s.start.portWrite port pHif Reg.Hif.HIF_F2H_SET value)) := rfl

theorem exec_hifTransferStart (port : Port) (s : State) :
    exec (.hifTransferStart port) s =
      .next (s.done (s.start.portWrite port pHif Reg.Hif.XF_CMD 1)) := rfl

theorem exec_hifTransferDone (s : State) (hu : s.fabricUp = true) :
    exec (.hifTransferDone) s =
      .next (s.done (s.start.xfDone)) := by
  show run s (fun s => s.whenUp _) = _
  exact congrArg (fun x => Host.Outcome.next (s.done x)) (State.whenUp_up (s := s.start) hu)

theorem exec_dmaStart (port : Port) (s : State) :
    exec (.dmaStart port) s =
      .next (s.done (s.start.portWrite port pCcp Reg.Ccp.DMA_CMD 1)) := rfl

theorem exec_dmaDone (s : State) (hu : s.fabricUp = true) :
    exec (.dmaDone) s =
      .next (s.done (s.start.dmaDone)) := by
  show run s (fun s => s.whenUp _) = _
  exact congrArg (fun x => Host.Outcome.next (s.done x)) (State.whenUp_up (s := s.start) hu)

theorem exec_uartTxWrite (port : Port) (data : Byte) (s : State) :
    exec (.uartTxWrite port data) s =
      .next (s.done (s.start.portWrite port pCcp Reg.Ccp.UART_TX (data.setWidth 32))) := rfl

theorem exec_uartRxRead (port : Port) (s : State) :
    exec (.uartRxRead port) s =
      .next (s.done (s.start.portRead port pCcp Reg.Ccp.UART_RX)) := rfl

theorem exec_uartRxOctet (data : Byte) (s : State) (hu : s.fabricUp = true) :
    exec (.uartRxOctet data) s =
      .next (s.done (s.start.uartRx data)) := by
  show run s (fun s => s.whenUp _) = _
  exact congrArg (fun x => Host.Outcome.next (s.done x)) (State.whenUp_up (s := s.start) hu)

theorem exec_msRead (addr : Word) (count : Nat) (s : State) :
    exec (.msRead addr count) s =
      .next (s.done (s.start.spiRead addr.toNat count)) := rfl

theorem exec_msWrite (addr : Word) (words : List Word) (cut : Bool) (s : State) :
    exec (.msWrite addr words cut) s =
      .next (s.done (s.start.spiWrite addr.toNat words cut)) := rfl

theorem exec_paired (addr : Word) (value : Word) (inverse : Word) (cut : Bool) (s : State) :
    exec (.paired addr value inverse cut) s =
      .next (s.done (s.start.spiPaired addr.toNat value inverse cut)) := rfl

theorem exec_rdsr (s : State) :
    exec (.rdsr) s =
      .next (s.done (s.start.spiStatus)) := rfl

theorem exec_stage (offset : Fin 0x1000000) (data : List Byte) (s : State) :
    exec (.stage offset data) s =
      .next (s.done (s.start.spiStage offset data)) := rfl

theorem exec_bootdb (value : Word) (s : State) :
    exec (.bootdb value) s =
      .next (s.done (s.start.spiBootDb value)) := rfl

theorem exec_ident (s : State) :
    exec (.ident) s =
      .next (s.done (s.start.spiIdent)) := rfl

theorem exec_idcode (s : State) :
    exec (.idcode) s =
      .next (s.done (s.start.tapIdcode)) := rfl

theorem exec_bypass (octets : List Byte) (s : State) :
    exec (.bypass octets) s =
      .next (s.done (s.start.tapBypass octets)) := rfl

theorem exec_unlockChal (s : State) :
    exec (.unlockChal) s =
      .next (s.done (s.start.tapChallenge)) := rfl

theorem exec_unlockResp (response : List Byte) (s : State) (h : unlockRespOk response = true) :
    exec (.unlockResp response) s =
      .next (s.done (s.start.tapResponse response)) := runIf_done s _ h

theorem exec_unlockVerifyComplete (s : State) (hu : s.fabricUp = true) :
    exec (.unlockVerifyComplete) s =
      .next (s.done (s.start.unlockVerified)) := by
  show run s (fun s => s.whenUp _) = _
  exact congrArg (fun x => Host.Outcome.next (s.done x)) (State.whenUp_up (s := s.start) hu)

theorem exec_unlockSta (s : State) :
    exec (.unlockSta) s =
      .next (s.done (s.start.tapStatus)) := rfl

theorem exec_dbgAcc (op : Fin 4) (addr : Word) (data : Word) (s : State) :
    exec (.dbgAcc op addr data) s =
      .next (s.done (s.start.dbgAcc op addr.toNat data)) := rfl

theorem exec_dbgCore (op : Fin 4) (s : State) :
    exec (.dbgCore op) s =
      .next (s.done (s.start.dbgCore op)) := rfl

theorem exec_laneNear (port : Port) (s : State) :
    exec (.laneNear port) s =
      .next (s.done (s.start.portWrite port pBst Reg.Bst.BST_CMD 0xB501)) := rfl

theorem exec_laneFar (port : Port) (s : State) :
    exec (.laneFar port) s =
      .next (s.done (s.start.portWrite port pBst Reg.Bst.BST_CMD 0xB502)) := rfl

theorem exec_clnNear (port : Port) (s : State) :
    exec (.clnNear port) s =
      .next (s.done (s.start.portWrite port pBst Reg.Bst.BST_CMD 0xB503)) := rfl

theorem exec_kskLoop (port : Port) (s : State) :
    exec (.kskLoop port) s =
      .next (s.done (s.start.portWrite port pBst Reg.Bst.BST_CMD 0xB504)) := rfl

theorem exec_refSupply (port : Port) (s : State) :
    exec (.refSupply port) s =
      .next (s.done (s.start.portWrite port pBst Reg.Bst.BST_CMD 0xB505)) := rfl

theorem exec_refTemp (port : Port) (s : State) :
    exec (.refTemp port) s =
      .next (s.done (s.start.portWrite port pBst Reg.Bst.BST_CMD 0xB506)) := rfl

theorem exec_refHedge (port : Port) (s : State) :
    exec (.refHedge port) s =
      .next (s.done (s.start.portWrite port pBst Reg.Bst.BST_CMD 0xB507)) := rfl

theorem exec_lbist (port : Port) (s : State) :
    exec (.lbist port) s =
      .next (s.done (s.start.portWrite port pBst Reg.Bst.BST_CMD 0xB508)) := rfl

theorem exec_bstTestComplete (outcome : TestOutcome) (s : State) (hu : s.fabricUp = true) :
    exec (.bstTestComplete outcome) s =
      .next (s.done (s.start.bstComplete outcome)) := by
  show run s (fun s => s.whenUp _) = _
  exact congrArg (fun x => Host.Outcome.next (s.done x)) (State.whenUp_up (s := s.start) hu)

theorem exec_ref10mRecovery (s : State) :
    exec (.ref10mRecovery) s =
      .next (s.done (s.start.ref10mBack)) := rfl

theorem exec_vbatLoss (s : State) :
    exec (.vbatLoss) s =
      .next (s.done (s.start.vbatLoss)) := rfl

theorem exec_cdVioOutOfRange (s : State) (hu : s.fabricUp = true) :
    exec (.cdVioOutOfRange) s =
      .next (s.done (s.start.cdVioOut)) := by
  show run s (fun s => s.whenUp _) = _
  exact congrArg (fun x => Host.Outcome.next (s.done x)) (State.whenUp_up (s := s.start) hu)

theorem exec_sideRecovery (side : Fin 2) (s : State) (hu : s.fabricUp = true) :
    exec (.sideRecovery side) s =
      .next (s.done (s.start.sideRecovery side)) := by
  show run s (fun s => s.whenUp _) = _
  exact congrArg (fun x => Host.Outcome.next (s.done x)) (State.whenUp_up (s := s.start) hu)

theorem exec_hedgeConditionAbsent (source : Fin 8) (s : State) :
    exec (.hedgeConditionAbsent source) s =
      .next (s.done (s.start.conditionAbsent source)) := rfl

theorem exec_cardTimeout (detHigh : Bool) (s : State) (hu : s.fabricUp = true) :
    exec (.cardTimeout detHigh) s =
      .next (s.done ((s.start.cardTimeout detHigh).bootCard)) := by
  show run s (fun s => s.whenUp _) = _
  exact congrArg (fun x => Host.Outcome.next (s.done x)) (State.whenUp_up (s := s.start) hu)

theorem exec_pcieLinkUp (speed : Fin 5) (width : Fin 5) (bme : Bool) (s : State) (h : pcieLinkUpOk speed width = true) :
    exec (.pcieLinkUp speed width bme) s =
      .next (s.done (s.start.pcieUp speed width bme)) := runIf_done s _ h

theorem exec_uartTxOctetSent (s : State) (hu : s.fabricUp = true) :
    exec (.uartTxOctetSent) s =
      .next (s.done (s.start.uartSent)) := by
  show run s (fun s => s.whenUp _) = _
  exact congrArg (fun x => Host.Outcome.next (s.done x)) (State.whenUp_up (s := s.start) hu)

end Sys2Proof.Machine
end

