-- ==== Sys2Proof/Laws/Total.lean ====
section
/-!
SUPPORT. The shape of every meaning: a well-formed command runs an effect, any other ends in `illFormed`.
-/
namespace Sys2Proof.Machine

theorem runs_registerWrite (port : Port) (addr : Word) (value : Word) (s : State) : ∃ f, exec (.registerWrite port addr value) s = run s f :=
  ⟨fun s => s.busWrite port addr.toNat value, rfl⟩
theorem runs_malformedAccess (port : Port) (addr : Word) (read : Bool) (s : State) : ∃ f, exec (.malformedAccess port addr read) s = run s f :=
  ⟨fun s => s.badAccess port addr.toNat read, rfl⟩
theorem runs_blockEnable (port : Port) (page : Fin 4096) (s : State) : ∃ f, exec (.blockEnable port page) s = run s f :=
  ⟨fun s => s.portWrite port page Reg.Hdr.CTL 1, rfl⟩
theorem runs_blockReset (port : Port) (page : Fin 4096) (s : State) : ∃ f, exec (.blockReset port page) s = run s f :=
  ⟨fun s => s.portWrite port page Reg.Hdr.CTL 2, rfl⟩
theorem runs_blockResetComplete (page : Fin 4096) (s : State) : ∃ f, exec (.blockResetComplete page) s = run s f :=
  ⟨fun s => s.blockResetEnd page, rfl⟩
theorem runs_claimWrite (port : Port) (page : Fin 4096) (value : Word) (s : State) : ∃ f, exec (.claimWrite port page value) s = run s f :=
  ⟨fun s => s.portWrite port page Reg.Hdr.CLAIM value, rfl⟩
theorem runs_lockWrite (port : Port) (page : Fin 4096) (s : State) : ∃ f, exec (.lockWrite port page) s = run s f :=
  ⟨fun s => s.portWrite port page Reg.Hdr.LOCK 1, rfl⟩
theorem runs_shadowPrimaryWrite (port : Port) (page : Fin 4096) (offset : Fin 2048) (value : Word) (s : State) : ∃ f, exec (.shadowPrimaryWrite port page offset value) s = run s f :=
  ⟨fun s => s.portWrite port page offset value, rfl⟩
theorem runs_shadowInverseWrite (port : Port) (page : Fin 4096) (offset : Fin 2048) (value : Word) (s : State) : ∃ f, exec (.shadowInverseWrite port page offset value) s = run s f :=
  ⟨fun s => s.portWrite port page (0x800 + offset) value, rfl⟩
theorem runs_shadowWindowExpiry (page : Fin 4096) (s : State) : ∃ f, exec (.shadowWindowExpiry page) s = run s f :=
  ⟨fun s => s.windowExpiry page, rfl⟩
theorem runs_shadowMismatch (page : Fin 4096) (offset : Fin 2048) (s : State) : ∃ f, exec (.shadowMismatch page offset) s = run s f :=
  ⟨fun s => s.shadowMismatch page offset, rfl⟩
theorem runs_prfWrite (port : Port) (value : Word) (s : State) : ∃ f, exec (.prfWrite port value) s = run s f :=
  ⟨fun s => s.portWrite port pSys Reg.Sys.PRF value, rfl⟩
theorem runs_powerUp (inOrder : Bool) (s : State) : ∃ f, exec (.powerUp inOrder) s = run s f :=
  ⟨fun s => s.powerUp inOrder, rfl⟩
theorem runs_supplyDip (x : Supply) (s : State) : ∃ f, exec (.supplyDip x) s = run s f :=
  ⟨fun s => s.supplyDip x, rfl⟩
theorem runs_supplyRecovery (x : Supply) (s : State) : ∃ f, exec (.supplyRecovery x) s = run s f :=
  ⟨fun s => s.supplyRecovery x, rfl⟩
theorem runs_brownOutReset (x : Supply) (s : State) : ∃ f, exec (.brownOutReset x) s = run s f :=
  ⟨fun s => s.brownOut x, rfl⟩
theorem runs_vddio18Loss (s : State) : ∃ f, exec (.vddio18Loss) s = run s f :=
  ⟨fun s => s.vddio18Loss, rfl⟩
theorem runs_rstNLow (s : State) : ∃ f, exec (.rstNLow) s = run s f :=
  ⟨fun s => s.rstLow, rfl⟩
theorem runs_rstNRelease (s : State) : ∃ f, exec (.rstNRelease) s = run s f :=
  ⟨fun s => s.rstHigh, rfl⟩
theorem runs_deviceResetRelease (s : State) : ∃ f, exec (.deviceResetRelease) s = run s f :=
  ⟨fun s => s.resetTimePassed, rfl⟩
theorem runs_bootSequence (sel : Fin 4) (twinB : Bool) (ftnOk : Bool) (avsOk : Bool) (dt : Nat) (s : State) : ∃ f, exec (.bootSequence sel twinB ftnOk avsOk dt) s = run s f :=
  ⟨fun s => s.bootSequence sel twinB ftnOk avsOk dt, rfl⟩
theorem runs_bootSourcePoll (dt : Nat) (s : State) : ∃ f, exec (.bootSourcePoll dt) s = run s f :=
  ⟨fun s => s.bootPoll dt, rfl⟩
theorem runs_bootDoorbell (port : Port) (value : Word) (s : State) : ∃ f, exec (.bootDoorbell port value) s = run s f :=
  ⟨fun s => if port = .maint then s.spiBootDb value else s.portWrite port pHif Reg.Hif.HIF_BOOT_DB value, rfl⟩
theorem runs_avsRequest (mv : Fin 1024) (s : State) : ∃ f, exec (.avsRequest mv) s = run s f :=
  ⟨fun s => s.whenUp (fun s => s.avsRequest mv), rfl⟩
theorem runs_avsNoAck (s : State) : ∃ f, exec (.avsNoAck) s = run s f :=
  ⟨fun s => s.whenUp (fun s => s.avsNoAck), rfl⟩
theorem runs_refclkLoss (refclkB : Bool) (s : State) : ∃ f, exec (.refclkLoss refclkB) s = run s f :=
  ⟨fun s => s.refclkLoss refclkB, rfl⟩
theorem runs_sysclkLoss (s : State) : ∃ f, exec (.sysclkLoss) s = run s f :=
  ⟨fun s => s.sysclkLoss, rfl⟩
theorem runs_sysclkRecovery (s : State) : ∃ f, exec (.sysclkRecovery) s = run s f :=
  ⟨fun s => s.sysclkBack, rfl⟩
theorem runs_ref10mLoss (s : State) : ∃ f, exec (.ref10mLoss) s = run s f :=
  ⟨fun s => s.ref10mLoss, rfl⟩
theorem runs_tempConversion (temps : List Int) (s : State) (h : Instr.wf (.tempConversion temps) = true) : ∃ f, exec (.tempConversion temps) s = run s f :=
  ⟨fun s => s.whenUp (fun s => s.tempConversion temps), if_pos h⟩
theorem runs_rstReqWrite (port : Port) (s : State) : ∃ f, exec (.rstReqWrite port) s = run s f :=
  ⟨fun s => s.portWrite port pLdg Reg.Ldg.RST_REQ 0xD5E7, rfl⟩
theorem runs_zrqWrite (port : Port) (s : State) : ∃ f, exec (.zrqWrite port) s = run s f :=
  ⟨fun s => s.portWrite port pLdg Reg.Ldg.ZRQ 0x2E50, rfl⟩
theorem runs_wdgKick (port : Port) (s : State) : ∃ f, exec (.wdgKick port) s = run s f :=
  ⟨fun s => s.portWrite port pLdg Reg.Ldg.WDG_KICK 0x0000C1A0, rfl⟩
theorem runs_wdgPreTimeout (s : State) : ∃ f, exec (.wdgPreTimeout) s = run s f :=
  ⟨fun s => s.wdgPre, rfl⟩
theorem runs_watchdogExpiry (s : State) : ∃ f, exec (.watchdogExpiry) s = run s f :=
  ⟨fun s => s.wdgExpiry, rfl⟩
theorem runs_livenessLoss (x : Strobe) (s : State) : ∃ f, exec (.livenessLoss x) s = run s f :=
  ⟨fun s => s.livenessLoss x, rfl⟩
theorem runs_pkgCmdWrite (port : Port) (s : State) : ∃ f, exec (.pkgCmdWrite port) s = run s f :=
  ⟨fun s => s.portWrite port pLdg Reg.Ldg.PKG_CMD 0xC0F6, rfl⟩
theorem runs_pkgAcceptComplete (s : State) : ∃ f, exec (.pkgAcceptComplete) s = run s f :=
  ⟨fun s => s.pkgDone, rfl⟩
theorem runs_ptpMessageReceived (eport : Fin 256) (domain : Fin 256) (m : PtpMsg) (s : State) : ∃ f, exec (.ptpMessageReceived eport domain m) s = run s f :=
  ⟨fun s => s.whenUp (fun s => s.ptpMessage eport domain m), rfl⟩
theorem runs_ptpMessageTransmit (eport : Fin 256) (kind : Fin 3) (s : State) : ∃ f, exec (.ptpMessageTransmit eport kind) s = run s f :=
  ⟨fun s => s.whenUp (fun s => s.ptpTransmit eport kind), rfl⟩
theorem runs_ptpSourceTimeout (announce : Bool) (s : State) : ∃ f, exec (.ptpSourceTimeout announce) s = run s f :=
  ⟨fun s => s.whenUp (fun s => s.ptpTimeout announce), rfl⟩
theorem runs_ppsEdge (second : Bool) (s : State) : ∃ f, exec (.ppsEdge second) s = run s f :=
  ⟨fun s => s.whenUp (fun s => s.ppsEdge (ppsSrc second)), rfl⟩
theorem runs_irigFrame (second : Bool) (frame : IrigFrame) (s : State) : ∃ f, exec (.irigFrame second frame) s = run s f :=
  ⟨fun s => s.whenUp (fun s => s.irigFrame (ppsSrc second) frame), rfl⟩
theorem runs_ppsLoss (second : Bool) (s : State) : ∃ f, exec (.ppsLoss second) s = run s f :=
  ⟨fun s => s.whenUp (fun s => s.ppsLoss (ppsSrc second)), rfl⟩
theorem runs_holdExpired (s : State) : ∃ f, exec (.holdExpired) s = run s f :=
  ⟨fun s => s.whenUp (fun s => s.holdExpire), rfl⟩
theorem runs_setCmd (port : Port) (s : State) : ∃ f, exec (.setCmd port) s = run s f :=
  ⟨fun s => s.portWrite port pSdl Reg.Sdl.SET_CMD 0x71E5, rfl⟩
theorem runs_ppsOutRise (s : State) : ∃ f, exec (.ppsOutRise) s = run s f :=
  ⟨fun s => s.whenUp (fun s => s.ppsRise), rfl⟩
theorem runs_ppsOutFall (s : State) : ∃ f, exec (.ppsOutFall) s = run s f :=
  ⟨fun s => s.whenUp (fun s => s.ppsFall), rfl⟩
theorem runs_sundialEnable (port : Port) (s : State) : ∃ f, exec (.sundialEnable port) s = run s f :=
  ⟨fun s => s.portWrite port pSdl Reg.Hdr.CTL 1, rfl⟩
theorem runs_sundialDisable (port : Port) (s : State) : ∃ f, exec (.sundialDisable port) s = run s f :=
  ⟨fun s => s.portWrite port pSdl Reg.Hdr.CTL 0, rfl⟩
theorem runs_refSampleTimeout (second : Bool) (s : State) : ∃ f, exec (.refSampleTimeout second) s = run s f :=
  ⟨fun s => s.whenUp (fun s => s.refTimeout second), rfl⟩
theorem runs_slotStart (ref10m : Int) (sysclk : Int) (s : State) : ∃ f, exec (.slotStart ref10m sysclk) s = run s f :=
  ⟨fun s => s.whenUp (fun s => s.slotStart ref10m sysclk), rfl⟩
theorem runs_swapTimer (at_ : Nat) (s : State) : ∃ f, exec (.swapTimer at_) s = run s f :=
  ⟨fun s => s.whenUp (fun s => s.keyTimer at_), rfl⟩
theorem runs_retireExpiry (at_ : Nat) (s : State) : ∃ f, exec (.retireExpiry at_) s = run s f :=
  ⟨fun s => s.whenUp (fun s => s.retireTimer at_), rfl⟩
theorem runs_slotInputFix (s : State) : ∃ f, exec (.slotInputFix) s = run s f :=
  ⟨fun s => s.whenUp (fun s => s.lateInputs), rfl⟩
theorem runs_budgetWindowRestart (s : State) : ∃ f, exec (.budgetWindowRestart) s = run s f :=
  ⟨fun s => s.whenUp (fun s => s.windowRestart.cardResume), rfl⟩
theorem runs_cmpArm (port : Port) (unit : Fin 64) (value : Word) (s : State) : ∃ f, exec (.cmpArm port unit value) s = run s f :=
  ⟨fun s => s.portWrite port pSdl (Reg.Sdl.CMP_ACT unit) (value ||| 0x80000000), rfl⟩
theorem runs_cmpCancel (port : Port) (unit : Fin 64) (value : Word) (s : State) : ∃ f, exec (.cmpCancel port unit value) s = run s f :=
  ⟨fun s => s.portWrite port pSdl (Reg.Sdl.CMP_ACT unit) (value ||| 0x80000000), rfl⟩
theorem runs_cmpReconversion (unit : Fin 64) (s : State) : ∃ f, exec (.cmpReconversion unit) s = run s f :=
  ⟨fun s => s.whenUp (fun s => s.reconvert unit), rfl⟩
theorem runs_cmpFirstEdge (unit : Fin 64) (s : State) : ∃ f, exec (.cmpFirstEdge unit) s = run s f :=
  ⟨fun s => s.whenUp (fun s => s.firstEdge unit), rfl⟩
theorem runs_cmpReturnEdge (unit : Fin 64) (s : State) : ∃ f, exec (.cmpReturnEdge unit) s = run s f :=
  ⟨fun s => s.whenUp (fun s => s.returnEdge unit), rfl⟩
theorem runs_timeSLoRead (port : Port) (s : State) : ∃ f, exec (.timeSLoRead port) s = run s f :=
  ⟨fun s => s.portRead port pSdl Reg.Sdl.TIME_S_LO, rfl⟩
theorem runs_angleRead (port : Port) (s : State) : ∃ f, exec (.angleRead port) s = run s f :=
  ⟨fun s => s.portRead port pSdl Reg.Sdl.ANGLE, rfl⟩
theorem runs_sdlEvtRead (port : Port) (s : State) : ∃ f, exec (.sdlEvtRead port) s = run s f :=
  ⟨fun s => s.portRead port pSdl Reg.Sdl.EVT, rfl⟩
theorem runs_frameReceived (eport : Fin 256) (octets : List Byte) (lead : Nat) (s : State) : ∃ f, exec (.frameReceived eport octets lead) s = run s f :=
  ⟨fun s => s.whenUp (fun s => s.frameReceived eport octets lead), rfl⟩
theorem runs_frameTransmit (eport : Fin 256) (s : State) : ∃ f, exec (.frameTransmit eport) s = run s f :=
  ⟨fun s => s.whenUp (fun s => s.frameTransmit eport), rfl⟩
theorem runs_laneSignalChange (lane : Fin 64) (sig : Bool) (cdr : Bool) (blk : Bool) (link : Bool) (fec : Bool) (corr : Nat) (uncorr : Nat) (s : State) : ∃ f, exec (.laneSignalChange lane sig cdr blk link fec corr uncorr) s = run s f :=
  ⟨fun s => s.whenUp (fun s => s.laneSignal lane sig cdr blk link fec corr uncorr), rfl⟩
theorem runs_phyStatusChange (eport : Fin 256) (link : Bool) (speed : Fin 8) (s : State) : ∃ f, exec (.phyStatusChange eport link speed) s = run s f :=
  ⟨fun s => s.whenUp (fun s => s.phyStatus eport link speed), rfl⟩
theorem runs_gclConfigChange (port : Port) (eport : Fin 256) (value : Word) (s : State) : ∃ f, exec (.gclConfigChange port eport value) s = run s f :=
  ⟨fun s => s.portWrite port (pPrc (eport / 16)) (Reg.Prc.GCL_CTL (eport % 16)) (value ||| 0x80000000), rfl⟩
theorem runs_gateCycleStart (eport : Fin 256) (s : State) : ∃ f, exec (.gateCycleStart eport) s = run s f :=
  ⟨fun s => s.whenUp (fun s => s.gateCycle eport), rfl⟩
theorem runs_gateEntryExpiry (eport : Fin 256) (s : State) : ∃ f, exec (.gateEntryExpiry eport) s = run s f :=
  ⟨fun s => s.whenUp (fun s => s.gateExpiry eport), rfl⟩
theorem runs_gclDataAccess (port : Port) (group : Fin 16) (write : Option Word) (s : State) : ∃ f, exec (.gclDataAccess port group write) s = run s f :=
  ⟨fun s => s.portAccess port (pPrc group) Reg.Prc.GCL_DATA write, rfl⟩
theorem runs_pairEnable (port : Port) (pair : Fin 32) (value : Word) (s : State) : ∃ f, exec (.pairEnable port pair value) s = run s f :=
  ⟨fun s => s.portWrite port pPrm (Reg.Prm.PAIR_CFG pair) (value ||| 0x80000000), rfl⟩
theorem runs_pairDisable (port : Port) (pair : Fin 32) (value : Word) (s : State) : ∃ f, exec (.pairDisable port pair value) s = run s f :=
  ⟨fun s => s.portWrite port pPrm (Reg.Prm.PAIR_CFG pair) (value &&& 0x7FFFFFFF), rfl⟩
theorem runs_supervisionTx (pair : Fin 32) (s : State) : ∃ f, exec (.supervisionTx pair) s = run s f :=
  ⟨fun s => s.whenUp (fun s => s.supervisionTx pair), rfl⟩
theorem runs_fdbAgeOut (index : Fin 65536) (s : State) : ∃ f, exec (.fdbAgeOut index) s = run s f :=
  ⟨fun s => s.whenUp (fun s => s.fdbAgeOut index), rfl⟩
theorem runs_tblRead (port : Port) (table : Fin 3) (index : Fin 65536) (s : State) : ∃ f, exec (.tblRead port table index) s = run s f :=
  ⟨fun s => s.portWrite port pPrm Reg.Prm.TBL_CMD (tblWord 0 table index), rfl⟩
theorem runs_tblWrite (port : Port) (table : Fin 3) (index : Fin 65536) (s : State) : ∃ f, exec (.tblWrite port table index) s = run s f :=
  ⟨fun s => s.portWrite port pPrm Reg.Prm.TBL_CMD (tblWord 1 table index), rfl⟩
theorem runs_tblDelete (port : Port) (table : Fin 3) (index : Fin 65536) (s : State) : ∃ f, exec (.tblDelete port table index) s = run s f :=
  ⟨fun s => s.portWrite port pPrm Reg.Prm.TBL_CMD (tblWord 2 table index), rfl⟩
theorem runs_tblSearch (port : Port) (table : Fin 3) (index : Fin 65536) (s : State) : ∃ f, exec (.tblSearch port table index) s = run s f :=
  ⟨fun s => s.portWrite port pPrm Reg.Prm.TBL_CMD (tblWord 3 table index), rfl⟩
theorem runs_portCfgWrite (port : Port) (eport : Fin 256) (value : Word) (s : State) : ∃ f, exec (.portCfgWrite port eport value) s = run s f :=
  ⟨fun s => s.portWrite port (pPrc (eport / 16)) (Reg.Prc.PORT_CFG (eport % 16)) value, rfl⟩
theorem runs_follyRunStart (port : Port) (eport : Fin 256) (value : Word) (s : State) : ∃ f, exec (.follyRunStart port eport value) s = run s f :=
  ⟨fun s => s.portWrite port (pFly (eport / 16)) (Reg.Fly.FLY_CTL (eport % 16)) (value ||| 1), rfl⟩
theorem runs_follyRunStop (port : Port) (eport : Fin 256) (value : Word) (s : State) : ∃ f, exec (.follyRunStop port eport value) s = run s f :=
  ⟨fun s => s.portWrite port (pFly (eport / 16)) (Reg.Fly.FLY_CTL (eport % 16)) (value &&& 0xFFFFFFFE), rfl⟩
theorem runs_follyReorderTimeout (eport : Fin 256) (s : State) : ∃ f, exec (.follyReorderTimeout eport) s = run s f :=
  ⟨fun s => s.whenUp (fun s => s.follyReleased eport (s.follyTimeout eport)), rfl⟩
theorem runs_follyDelayRelease (eport : Fin 256) (s : State) : ∃ f, exec (.follyDelayRelease eport) s = run s f :=
  ⟨fun s => s.whenUp (fun s => s.follyReleased eport (s.follyDue eport)), rfl⟩
theorem runs_frameWalk (second : Bool) (dt : Nat) (s : State) : ∃ f, exec (.frameWalk second dt) s = run s f :=
  ⟨fun s => s.whenUp (fun s => s.frameWalk second dt), rfl⟩
theorem runs_tagCheckDone (n : Nat) (dt : Nat) (s : State) : ∃ f, exec (.tagCheckDone n dt) s = run s f :=
  ⟨fun s => s.whenUp (fun s => s.tagDone n dt), rfl⟩
theorem runs_gooseStale (sub : Fin 8192) (s : State) : ∃ f, exec (.gooseStale sub) s = run s f :=
  ⟨fun s => s.whenUp (fun s => s.gooseTimeout sub), rfl⟩
theorem runs_fmtDataHiWrite (port : Port) (value : Word) (s : State) : ∃ f, exec (.fmtDataHiWrite port value) s = run s f :=
  ⟨fun s => s.portWrite port pPtr0 Reg.Ptr0.FMT_DATA_HI value, rfl⟩
theorem runs_idDataHiWrite (port : Port) (value : Word) (s : State) : ∃ f, exec (.idDataHiWrite port value) s = run s f :=
  ⟨fun s => s.portWrite port pPtr1 Reg.Ptr1.ID_DATA_HI value, rfl⟩
theorem runs_excRead (port : Port) (goose : Bool) (s : State) : ∃ f, exec (.excRead port goose) s = run s f :=
  ⟨fun s => s.portRead port (if goose then pPtr2 else pPtr1) (if goose then Reg.Ptr2.EXC else Reg.Ptr1.EXC), rfl⟩
theorem runs_gooseRetransmit (pub : Fin 1024) (s : State) : ∃ f, exec (.gooseRetransmit pub) s = run s f :=
  ⟨fun s => s.whenUp (fun s => s.gooseRetransmit pub), rfl⟩
theorem runs_svFrameBuild (pub : Fin 256) (s : State) : ∃ f, exec (.svFrameBuild pub) s = run s f :=
  ⟨fun s => s.whenUp (fun s => s.svFrameBuild pub), rfl⟩
theorem runs_pubFrameHandover (dt : Nat) (s : State) : ∃ f, exec (.pubFrameHandover dt) s = run s f :=
  ⟨fun s => s.whenUp (fun s => s.pubHandover dt), rfl⟩
theorem runs_pergolaEnable (port : Port) (s : State) : ∃ f, exec (.pergolaEnable port) s = run s f :=
  ⟨fun s => s.portWrite port pPgl Reg.Hdr.CTL 1, rfl⟩
theorem runs_enableCheckComplete (dt : Nat) (s : State) : ∃ f, exec (.enableCheckComplete dt) s = run s f :=
  ⟨fun s => s.whenUp (fun s => s.enableCheck dt), rfl⟩
theorem runs_pergolaDisable (port : Port) (s : State) : ∃ f, exec (.pergolaDisable port) s = run s f :=
  ⟨fun s => s.portWrite port pPgl Reg.Hdr.CTL 0, rfl⟩
theorem runs_firstDispatch (s : State) : ∃ f, exec (.firstDispatch) s = run s f :=
  ⟨fun s => s.whenUp (fun s => s.firstDispatch), rfl⟩
theorem runs_runDispatch (s : State) : ∃ f, exec (.runDispatch) s = run s f :=
  ⟨fun s => s.whenUp (fun s => s.runDispatch), rfl⟩
theorem runs_budgetPreempt (s : State) : ∃ f, exec (.budgetPreempt) s = run s f :=
  ⟨fun s => s.whenUp (fun s => s.budgetPreempt), rfl⟩
theorem runs_schDataWrite (port : Port) (value : Word) (s : State) : ∃ f, exec (.schDataWrite port value) s = run s f :=
  ⟨fun s => s.portWrite port pPgl Reg.Pgl.SCH_DATA value, rfl⟩
theorem runs_ovrLogRead (port : Port) (s : State) : ∃ f, exec (.ovrLogRead port) s = run s f :=
  ⟨fun s => s.portRead port pPgl Reg.Pgl.OVR_LOG, rfl⟩
theorem runs_bundleIssue (cpu : Cpu) (s : State) : ∃ f, exec (.bundleIssue cpu) s = run s f :=
  ⟨fun s => s.whenUp (fun s => s.issue cpu), rfl⟩
theorem runs_resultLand (cpu : Cpu) (s : State) : ∃ f, exec (.resultLand cpu) s = run s f :=
  ⟨fun s => s.whenUp (fun s => s.resultLand cpu), rfl⟩
theorem runs_interruptEntry (s : State) : ∃ f, exec (.interruptEntry) s = run s f :=
  ⟨fun s => s.whenUp (fun s => s.interruptEntry), rfl⟩
theorem runs_nmiEntry (s : State) : ∃ f, exec (.nmiEntry) s = run s f :=
  ⟨fun s => s.whenUp (fun s => s.nmiEntry), rfl⟩
theorem runs_controlTransferTaken (cpu : Cpu) (s : State) : ∃ f, exec (.controlTransferTaken cpu) s = run s f :=
  ⟨fun s => s.whenUp (fun s => s.transferTaken cpu), rfl⟩
theorem runs_aluAdd (cpu : Cpu) (unit : Fin 4) (o : Word) (t : Word) (s : State) : ∃ f, exec (.aluAdd cpu unit o t) s = run s f :=
  ⟨fun s => s.whenUp (fun s => s.unitOp cpu [(aluPort unit, o)] (aluPort unit + 0x02) t), rfl⟩
theorem runs_aluSub (cpu : Cpu) (unit : Fin 4) (o : Word) (t : Word) (s : State) : ∃ f, exec (.aluSub cpu unit o t) s = run s f :=
  ⟨fun s => s.whenUp (fun s => s.unitOp cpu [(aluPort unit, o)] (aluPort unit + 0x03) t), rfl⟩
theorem runs_aluAdds (cpu : Cpu) (unit : Fin 4) (o : Word) (t : Word) (s : State) : ∃ f, exec (.aluAdds cpu unit o t) s = run s f :=
  ⟨fun s => s.whenUp (fun s => s.unitOp cpu [(aluPort unit, o)] (aluPort unit + 0x04) t), rfl⟩
theorem runs_aluSubs (cpu : Cpu) (unit : Fin 4) (o : Word) (t : Word) (s : State) : ∃ f, exec (.aluSubs cpu unit o t) s = run s f :=
  ⟨fun s => s.whenUp (fun s => s.unitOp cpu [(aluPort unit, o)] (aluPort unit + 0x05) t), rfl⟩
theorem runs_aluAnd (cpu : Cpu) (unit : Fin 4) (o : Word) (t : Word) (s : State) : ∃ f, exec (.aluAnd cpu unit o t) s = run s f :=
  ⟨fun s => s.whenUp (fun s => s.unitOp cpu [(aluPort unit, o)] (aluPort unit + 0x06) t), rfl⟩
theorem runs_aluOr (cpu : Cpu) (unit : Fin 4) (o : Word) (t : Word) (s : State) : ∃ f, exec (.aluOr cpu unit o t) s = run s f :=
  ⟨fun s => s.whenUp (fun s => s.unitOp cpu [(aluPort unit, o)] (aluPort unit + 0x07) t), rfl⟩
theorem runs_aluXor (cpu : Cpu) (unit : Fin 4) (o : Word) (t : Word) (s : State) : ∃ f, exec (.aluXor cpu unit o t) s = run s f :=
  ⟨fun s => s.whenUp (fun s => s.unitOp cpu [(aluPort unit, o)] (aluPort unit + 0x08) t), rfl⟩
theorem runs_aluAndn (cpu : Cpu) (unit : Fin 4) (o : Word) (t : Word) (s : State) : ∃ f, exec (.aluAndn cpu unit o t) s = run s f :=
  ⟨fun s => s.whenUp (fun s => s.unitOp cpu [(aluPort unit, o)] (aluPort unit + 0x09) t), rfl⟩
theorem runs_aluShl (cpu : Cpu) (unit : Fin 4) (o : Word) (t : Word) (s : State) : ∃ f, exec (.aluShl cpu unit o t) s = run s f :=
  ⟨fun s => s.whenUp (fun s => s.unitOp cpu [(aluPort unit, o)] (aluPort unit + 0x0A) t), rfl⟩
theorem runs_aluShr (cpu : Cpu) (unit : Fin 4) (o : Word) (t : Word) (s : State) : ∃ f, exec (.aluShr cpu unit o t) s = run s f :=
  ⟨fun s => s.whenUp (fun s => s.unitOp cpu [(aluPort unit, o)] (aluPort unit + 0x0B) t), rfl⟩
theorem runs_aluSra (cpu : Cpu) (unit : Fin 4) (o : Word) (t : Word) (s : State) : ∃ f, exec (.aluSra cpu unit o t) s = run s f :=
  ⟨fun s => s.whenUp (fun s => s.unitOp cpu [(aluPort unit, o)] (aluPort unit + 0x0C) t), rfl⟩
theorem runs_aluMin (cpu : Cpu) (unit : Fin 4) (o : Word) (t : Word) (s : State) : ∃ f, exec (.aluMin cpu unit o t) s = run s f :=
  ⟨fun s => s.whenUp (fun s => s.unitOp cpu [(aluPort unit, o)] (aluPort unit + 0x0D) t), rfl⟩
theorem runs_aluMax (cpu : Cpu) (unit : Fin 4) (o : Word) (t : Word) (s : State) : ∃ f, exec (.aluMax cpu unit o t) s = run s f :=
  ⟨fun s => s.whenUp (fun s => s.unitOp cpu [(aluPort unit, o)] (aluPort unit + 0x0E) t), rfl⟩
theorem runs_aluMinu (cpu : Cpu) (unit : Fin 4) (o : Word) (t : Word) (s : State) : ∃ f, exec (.aluMinu cpu unit o t) s = run s f :=
  ⟨fun s => s.whenUp (fun s => s.unitOp cpu [(aluPort unit, o)] (aluPort unit + 0x0F) t), rfl⟩
theorem runs_aluMaxu (cpu : Cpu) (unit : Fin 4) (o : Word) (t : Word) (s : State) : ∃ f, exec (.aluMaxu cpu unit o t) s = run s f :=
  ⟨fun s => s.whenUp (fun s => s.unitOp cpu [(aluPort unit, o)] (aluPort unit + 0x10) t), rfl⟩
theorem runs_aluEq (cpu : Cpu) (unit : Fin 4) (o : Word) (t : Word) (s : State) : ∃ f, exec (.aluEq cpu unit o t) s = run s f :=
  ⟨fun s => s.whenUp (fun s => s.unitOp cpu [(aluPort unit, o)] (aluPort unit + 0x11) t), rfl⟩
theorem runs_aluNe (cpu : Cpu) (unit : Fin 4) (o : Word) (t : Word) (s : State) : ∃ f, exec (.aluNe cpu unit o t) s = run s f :=
  ⟨fun s => s.whenUp (fun s => s.unitOp cpu [(aluPort unit, o)] (aluPort unit + 0x12) t), rfl⟩
theorem runs_aluLt (cpu : Cpu) (unit : Fin 4) (o : Word) (t : Word) (s : State) : ∃ f, exec (.aluLt cpu unit o t) s = run s f :=
  ⟨fun s => s.whenUp (fun s => s.unitOp cpu [(aluPort unit, o)] (aluPort unit + 0x13) t), rfl⟩
theorem runs_aluLtu (cpu : Cpu) (unit : Fin 4) (o : Word) (t : Word) (s : State) : ∃ f, exec (.aluLtu cpu unit o t) s = run s f :=
  ⟨fun s => s.whenUp (fun s => s.unitOp cpu [(aluPort unit, o)] (aluPort unit + 0x14) t), rfl⟩
theorem runs_aluGe (cpu : Cpu) (unit : Fin 4) (o : Word) (t : Word) (s : State) : ∃ f, exec (.aluGe cpu unit o t) s = run s f :=
  ⟨fun s => s.whenUp (fun s => s.unitOp cpu [(aluPort unit, o)] (aluPort unit + 0x15) t), rfl⟩
theorem runs_aluGeu (cpu : Cpu) (unit : Fin 4) (o : Word) (t : Word) (s : State) : ∃ f, exec (.aluGeu cpu unit o t) s = run s f :=
  ⟨fun s => s.whenUp (fun s => s.unitOp cpu [(aluPort unit, o)] (aluPort unit + 0x16) t), rfl⟩
theorem runs_aluAbs (cpu : Cpu) (unit : Fin 4) (o : Word) (t : Word) (s : State) : ∃ f, exec (.aluAbs cpu unit o t) s = run s f :=
  ⟨fun s => s.whenUp (fun s => s.unitOp cpu [(aluPort unit, o)] (aluPort unit + 0x17) t), rfl⟩
theorem runs_aluPass (cpu : Cpu) (unit : Fin 4) (o : Word) (t : Word) (s : State) : ∃ f, exec (.aluPass cpu unit o t) s = run s f :=
  ⟨fun s => s.whenUp (fun s => s.unitOp cpu [(aluPort unit, o)] (aluPort unit + 0x18) t), rfl⟩
theorem runs_macMacq (cpu : Cpu) (unit : Fin 8) (o : Word) (t : Word) (s : State) : ∃ f, exec (.macMacq cpu unit o t) s = run s f :=
  ⟨fun s => s.whenUp (fun s => s.unitOp cpu [(macPort unit, o)] (macPort unit + 0x02) t), rfl⟩
theorem runs_macMul (cpu : Cpu) (unit : Fin 8) (o : Word) (t : Word) (s : State) : ∃ f, exec (.macMul cpu unit o t) s = run s f :=
  ⟨fun s => s.whenUp (fun s => s.unitOp cpu [(macPort unit, o)] (macPort unit + 0x03) t), rfl⟩
theorem runs_macMulh (cpu : Cpu) (unit : Fin 8) (o : Word) (t : Word) (s : State) : ∃ f, exec (.macMulh cpu unit o t) s = run s f :=
  ⟨fun s => s.whenUp (fun s => s.unitOp cpu [(macPort unit, o)] (macPort unit + 0x04) t), rfl⟩
theorem runs_macMulq (cpu : Cpu) (unit : Fin 8) (o : Word) (t : Word) (s : State) : ∃ f, exec (.macMulq cpu unit o t) s = run s f :=
  ⟨fun s => s.whenUp (fun s => s.unitOp cpu [(macPort unit, o)] (macPort unit + 0x05) t), rfl⟩
theorem runs_macMac (cpu : Cpu) (unit : Fin 8) (o : Word) (t : Word) (s : State) : ∃ f, exec (.macMac cpu unit o t) s = run s f :=
  ⟨fun s => s.whenUp (fun s => s.unitOp cpu [(macPort unit, o)] (macPort unit + 0x06) t), rfl⟩
theorem runs_macClr (cpu : Cpu) (unit : Fin 8) (o : Word) (t : Word) (s : State) : ∃ f, exec (.macClr cpu unit o t) s = run s f :=
  ⟨fun s => s.whenUp (fun s => s.unitOp cpu [(macPort unit, o)] (macPort unit + 0x07) t), rfl⟩
theorem runs_macLd (cpu : Cpu) (unit : Fin 8) (o : Word) (t : Word) (s : State) : ∃ f, exec (.macLd cpu unit o t) s = run s f :=
  ⟨fun s => s.whenUp (fun s => s.unitOp cpu [(macPort unit, o)] (macPort unit + 0x08) t), rfl⟩
theorem runs_macRdh (cpu : Cpu) (unit : Fin 8) (o : Word) (t : Word) (s : State) : ∃ f, exec (.macRdh cpu unit o t) s = run s f :=
  ⟨fun s => s.whenUp (fun s => s.unitOp cpu [(macPort unit, o)] (macPort unit + 0x09) t), rfl⟩
theorem runs_fmaFma (cpu : Cpu) (unit : Fin 4) (o : Word) (o2 : Word) (t : Word) (s : State) : ∃ f, exec (.fmaFma cpu unit o o2 t) s = run s f :=
  ⟨fun s => s.whenUp (fun s => s.unitOp cpu [(fmaPort unit, o), (fmaPort unit + 1, o2)] (fmaPort unit + 0x02) t), rfl⟩
theorem runs_fmaFadd (cpu : Cpu) (unit : Fin 4) (o : Word) (o2 : Word) (t : Word) (s : State) : ∃ f, exec (.fmaFadd cpu unit o o2 t) s = run s f :=
  ⟨fun s => s.whenUp (fun s => s.unitOp cpu [(fmaPort unit, o), (fmaPort unit + 1, o2)] (fmaPort unit + 0x03) t), rfl⟩
theorem runs_fmaFsub (cpu : Cpu) (unit : Fin 4) (o : Word) (o2 : Word) (t : Word) (s : State) : ∃ f, exec (.fmaFsub cpu unit o o2 t) s = run s f :=
  ⟨fun s => s.whenUp (fun s => s.unitOp cpu [(fmaPort unit, o), (fmaPort unit + 1, o2)] (fmaPort unit + 0x04) t), rfl⟩
theorem runs_fmaFmul (cpu : Cpu) (unit : Fin 4) (o : Word) (o2 : Word) (t : Word) (s : State) : ∃ f, exec (.fmaFmul cpu unit o o2 t) s = run s f :=
  ⟨fun s => s.whenUp (fun s => s.unitOp cpu [(fmaPort unit, o), (fmaPort unit + 1, o2)] (fmaPort unit + 0x05) t), rfl⟩
theorem runs_fmaFmin (cpu : Cpu) (unit : Fin 4) (o : Word) (o2 : Word) (t : Word) (s : State) : ∃ f, exec (.fmaFmin cpu unit o o2 t) s = run s f :=
  ⟨fun s => s.whenUp (fun s => s.unitOp cpu [(fmaPort unit, o), (fmaPort unit + 1, o2)] (fmaPort unit + 0x06) t), rfl⟩
theorem runs_fmaFmax (cpu : Cpu) (unit : Fin 4) (o : Word) (o2 : Word) (t : Word) (s : State) : ∃ f, exec (.fmaFmax cpu unit o o2 t) s = run s f :=
  ⟨fun s => s.whenUp (fun s => s.unitOp cpu [(fmaPort unit, o), (fmaPort unit + 1, o2)] (fmaPort unit + 0x07) t), rfl⟩
theorem runs_fmaFabs (cpu : Cpu) (unit : Fin 4) (o : Word) (o2 : Word) (t : Word) (s : State) : ∃ f, exec (.fmaFabs cpu unit o o2 t) s = run s f :=
  ⟨fun s => s.whenUp (fun s => s.unitOp cpu [(fmaPort unit, o), (fmaPort unit + 1, o2)] (fmaPort unit + 0x08) t), rfl⟩
theorem runs_fmaItof (cpu : Cpu) (unit : Fin 4) (o : Word) (o2 : Word) (t : Word) (s : State) : ∃ f, exec (.fmaItof cpu unit o o2 t) s = run s f :=
  ⟨fun s => s.whenUp (fun s => s.unitOp cpu [(fmaPort unit, o), (fmaPort unit + 1, o2)] (fmaPort unit + 0x09) t), rfl⟩
theorem runs_fmaQtof (cpu : Cpu) (unit : Fin 4) (o : Word) (o2 : Word) (t : Word) (s : State) : ∃ f, exec (.fmaQtof cpu unit o o2 t) s = run s f :=
  ⟨fun s => s.whenUp (fun s => s.unitOp cpu [(fmaPort unit, o), (fmaPort unit + 1, o2)] (fmaPort unit + 0x0A) t), rfl⟩
theorem runs_fmaFtoq (cpu : Cpu) (unit : Fin 4) (o : Word) (o2 : Word) (t : Word) (s : State) : ∃ f, exec (.fmaFtoq cpu unit o o2 t) s = run s f :=
  ⟨fun s => s.whenUp (fun s => s.unitOp cpu [(fmaPort unit, o), (fmaPort unit + 1, o2)] (fmaPort unit + 0x0B) t), rfl⟩
theorem runs_fmaFtoi (cpu : Cpu) (unit : Fin 4) (o : Word) (o2 : Word) (t : Word) (s : State) : ∃ f, exec (.fmaFtoi cpu unit o o2 t) s = run s f :=
  ⟨fun s => s.whenUp (fun s => s.unitOp cpu [(fmaPort unit, o), (fmaPort unit + 1, o2)] (fmaPort unit + 0x0C) t), rfl⟩
theorem runs_fmaFlt (cpu : Cpu) (unit : Fin 4) (o : Word) (o2 : Word) (t : Word) (s : State) : ∃ f, exec (.fmaFlt cpu unit o o2 t) s = run s f :=
  ⟨fun s => s.whenUp (fun s => s.unitOp cpu [(fmaPort unit, o), (fmaPort unit + 1, o2)] (fmaPort unit + 0x0D) t), rfl⟩
theorem runs_fmaFeq (cpu : Cpu) (unit : Fin 4) (o : Word) (o2 : Word) (t : Word) (s : State) : ∃ f, exec (.fmaFeq cpu unit o o2 t) s = run s f :=
  ⟨fun s => s.whenUp (fun s => s.unitOp cpu [(fmaPort unit, o), (fmaPort unit + 1, o2)] (fmaPort unit + 0x0E) t), rfl⟩
theorem runs_corSincos (cpu : Cpu) (unit : Fin 2) (o : Word) (o2 : Word) (t : Word) (s : State) : ∃ f, exec (.corSincos cpu unit o o2 t) s = run s f :=
  ⟨fun s => s.whenUp (fun s => s.unitOp cpu [(corPort unit, o), (corPort unit + 1, o2)] (corPort unit + 0x02) t), rfl⟩
theorem runs_corAtan2 (cpu : Cpu) (unit : Fin 2) (o : Word) (o2 : Word) (t : Word) (s : State) : ∃ f, exec (.corAtan2 cpu unit o o2 t) s = run s f :=
  ⟨fun s => s.whenUp (fun s => s.unitOp cpu [(corPort unit, o), (corPort unit + 1, o2)] (corPort unit + 0x03) t), rfl⟩
theorem runs_corRot (cpu : Cpu) (unit : Fin 2) (o : Word) (o2 : Word) (t : Word) (s : State) : ∃ f, exec (.corRot cpu unit o o2 t) s = run s f :=
  ⟨fun s => s.whenUp (fun s => s.unitOp cpu [(corPort unit, o), (corPort unit + 1, o2)] (corPort unit + 0x04) t), rfl⟩
theorem runs_divDiv (cpu : Cpu) (unit : Fin 2) (o : Word) (t : Word) (s : State) : ∃ f, exec (.divDiv cpu unit o t) s = run s f :=
  ⟨fun s => s.whenUp (fun s => s.unitOp cpu [(divPort unit, o)] (divPort unit + 0x02) t), rfl⟩
theorem runs_divDivu (cpu : Cpu) (unit : Fin 2) (o : Word) (t : Word) (s : State) : ∃ f, exec (.divDivu cpu unit o t) s = run s f :=
  ⟨fun s => s.whenUp (fun s => s.unitOp cpu [(divPort unit, o)] (divPort unit + 0x03) t), rfl⟩
theorem runs_divDivq (cpu : Cpu) (unit : Fin 2) (o : Word) (t : Word) (s : State) : ∃ f, exec (.divDivq cpu unit o t) s = run s f :=
  ⟨fun s => s.whenUp (fun s => s.unitOp cpu [(divPort unit, o)] (divPort unit + 0x04) t), rfl⟩
theorem runs_winLw (unit : Fin 2) (o : Word) (d : Word) (t : Word) (s : State) : ∃ f, exec (.winLw unit o d t) s = run s f :=
  ⟨fun s => s.whenUp (fun s => s.unitOp .pav [(lsPort unit, o), (lsPort unit + 1, d)] (lsPort unit + 0x02) t), rfl⟩
theorem runs_winLc (unit : Fin 2) (o : Word) (d : Word) (t : Word) (s : State) : ∃ f, exec (.winLc unit o d t) s = run s f :=
  ⟨fun s => s.whenUp (fun s => s.unitOp .pav [(lsPort unit, o), (lsPort unit + 1, d)] (lsPort unit + 0x03) t), rfl⟩
theorem runs_winLt (unit : Fin 2) (o : Word) (d : Word) (t : Word) (s : State) : ∃ f, exec (.winLt unit o d t) s = run s f :=
  ⟨fun s => s.whenUp (fun s => s.unitOp .pav [(lsPort unit, o), (lsPort unit + 1, d)] (lsPort unit + 0x04) t), rfl⟩
theorem runs_winLg (unit : Fin 2) (o : Word) (d : Word) (t : Word) (s : State) : ∃ f, exec (.winLg unit o d t) s = run s f :=
  ⟨fun s => s.whenUp (fun s => s.unitOp .pav [(lsPort unit, o), (lsPort unit + 1, d)] (lsPort unit + 0x05) t), rfl⟩
theorem runs_winLo (unit : Fin 2) (o : Word) (d : Word) (t : Word) (s : State) : ∃ f, exec (.winLo unit o d t) s = run s f :=
  ⟨fun s => s.whenUp (fun s => s.unitOp .pav [(lsPort unit, o), (lsPort unit + 1, d)] (lsPort unit + 0x06) t), rfl⟩
theorem runs_winCrv (unit : Fin 2) (o : Word) (d : Word) (t : Word) (s : State) : ∃ f, exec (.winCrv unit o d t) s = run s f :=
  ⟨fun s => s.whenUp (fun s => s.unitOp .pav [(lsPort unit, o), (lsPort unit + 1, d)] (lsPort unit + 0x07) t), rfl⟩
theorem runs_winFsm (unit : Fin 2) (o : Word) (d : Word) (t : Word) (s : State) : ∃ f, exec (.winFsm unit o d t) s = run s f :=
  ⟨fun s => s.whenUp (fun s => s.unitOp .pav [(lsPort unit, o), (lsPort unit + 1, d)] (lsPort unit + 0x08) t), rfl⟩
theorem runs_winSc (unit : Fin 2) (o : Word) (d : Word) (t : Word) (s : State) : ∃ f, exec (.winSc unit o d t) s = run s f :=
  ⟨fun s => s.whenUp (fun s => s.unitOp .pav [(lsPort unit, o), (lsPort unit + 1, d)] (lsPort unit + 0x09) t), rfl⟩
theorem runs_winSo (unit : Fin 2) (o : Word) (d : Word) (t : Word) (s : State) : ∃ f, exec (.winSo unit o d t) s = run s f :=
  ⟨fun s => s.whenUp (fun s => s.unitOp .pav [(lsPort unit, o), (lsPort unit + 1, d)] (lsPort unit + 0x0A) t), rfl⟩
theorem runs_winSs (unit : Fin 2) (o : Word) (d : Word) (t : Word) (s : State) : ∃ f, exec (.winSs unit o d t) s = run s f :=
  ⟨fun s => s.whenUp (fun s => s.unitOp .pav [(lsPort unit, o), (lsPort unit + 1, d)] (lsPort unit + 0x0B) t), rfl⟩
theorem runs_winSq (unit : Fin 2) (o : Word) (d : Word) (t : Word) (s : State) : ∃ f, exec (.winSq unit o d t) s = run s f :=
  ⟨fun s => s.whenUp (fun s => s.unitOp .pav [(lsPort unit, o), (lsPort unit + 1, d)] (lsPort unit + 0x0C) t), rfl⟩
theorem runs_winSa (unit : Fin 2) (o : Word) (d : Word) (t : Word) (s : State) : ∃ f, exec (.winSa unit o d t) s = run s f :=
  ⟨fun s => s.whenUp (fun s => s.unitOp .pav [(lsPort unit, o), (lsPort unit + 1, d)] (lsPort unit + 0x0D) t), rfl⟩
theorem runs_winSe (unit : Fin 2) (o : Word) (d : Word) (t : Word) (s : State) : ∃ f, exec (.winSe unit o d t) s = run s f :=
  ⟨fun s => s.whenUp (fun s => s.unitOp .pav [(lsPort unit, o), (lsPort unit + 1, d)] (lsPort unit + 0x0E) t), rfl⟩
theorem runs_lsuLw (o : Word) (t : Word) (s : State) : ∃ f, exec (.lsuLw o t) s = run s f :=
  ⟨fun s => s.whenUp (fun s => s.unitOp .core [(0x380, o)] 0x382 t), rfl⟩
theorem runs_lsuLh (o : Word) (t : Word) (s : State) : ∃ f, exec (.lsuLh o t) s = run s f :=
  ⟨fun s => s.whenUp (fun s => s.unitOp .core [(0x380, o)] 0x383 t), rfl⟩
theorem runs_lsuLhu (o : Word) (t : Word) (s : State) : ∃ f, exec (.lsuLhu o t) s = run s f :=
  ⟨fun s => s.whenUp (fun s => s.unitOp .core [(0x380, o)] 0x384 t), rfl⟩
theorem runs_lsuLb (o : Word) (t : Word) (s : State) : ∃ f, exec (.lsuLb o t) s = run s f :=
  ⟨fun s => s.whenUp (fun s => s.unitOp .core [(0x380, o)] 0x385 t), rfl⟩
theorem runs_lsuLbu (o : Word) (t : Word) (s : State) : ∃ f, exec (.lsuLbu o t) s = run s f :=
  ⟨fun s => s.whenUp (fun s => s.unitOp .core [(0x380, o)] 0x386 t), rfl⟩
theorem runs_lsuSw (o : Word) (d : Word) (t : Word) (s : State) : ∃ f, exec (.lsuSw o d t) s = run s f :=
  ⟨fun s => s.whenUp (fun s => s.unitOp .core [(0x380, o), (0x381, d)] 0x387 t), rfl⟩
theorem runs_lsuSh (o : Word) (d : Word) (t : Word) (s : State) : ∃ f, exec (.lsuSh o d t) s = run s f :=
  ⟨fun s => s.whenUp (fun s => s.unitOp .core [(0x380, o), (0x381, d)] 0x388 t), rfl⟩
theorem runs_lsuSb (o : Word) (d : Word) (t : Word) (s : State) : ∃ f, exec (.lsuSb o d t) s = run s f :=
  ⟨fun s => s.whenUp (fun s => s.unitOp .core [(0x380, o), (0x381, d)] 0x389 t), rfl⟩
theorem runs_lsuSync (s : State) : ∃ f, exec (.lsuSync) s = run s f :=
  ⟨fun s => s.whenUp (fun s => s.unitOp .core [] 0x38A 0), rfl⟩
theorem runs_storeComplete (s : State) : ∃ f, exec (.storeComplete) s = run s f :=
  ⟨fun s => s.whenUp (fun s => s.storeComplete), rfl⟩
theorem runs_ctlJmp (cpu : Cpu) (t : Word) (s : State) : ∃ f, exec (.ctlJmp cpu t) s = run s f :=
  ⟨fun s => s.whenUp (fun s => s.unitOp cpu [] 0x020 t), rfl⟩
theorem runs_ctlBr (cpu : Cpu) (t : Word) (s : State) : ∃ f, exec (.ctlBr cpu t) s = run s f :=
  ⟨fun s => s.whenUp (fun s => s.unitOp cpu [] 0x021 t), rfl⟩
theorem runs_ctlCall (cpu : Cpu) (t : Word) (s : State) : ∃ f, exec (.ctlCall cpu t) s = run s f :=
  ⟨fun s => s.whenUp (fun s => s.unitOp cpu [] 0x022 t), rfl⟩
theorem runs_ctlCallr (cpu : Cpu) (t : Word) (s : State) : ∃ f, exec (.ctlCallr cpu t) s = run s f :=
  ⟨fun s => s.whenUp (fun s => s.unitOp cpu [] 0x023 t), rfl⟩
theorem runs_ctlRet (cpu : Cpu) (s : State) : ∃ f, exec (.ctlRet cpu) s = run s f :=
  ⟨fun s => s.whenUp (fun s => s.unitOp cpu [] 0x024 0), rfl⟩
theorem runs_ctlEnd (cpu : Cpu) (s : State) : ∃ f, exec (.ctlEnd cpu) s = run s f :=
  ⟨fun s => s.whenUp (fun s => s.unitOp cpu [] 0x025 0), rfl⟩
theorem runs_ctlBrk (cpu : Cpu) (s : State) : ∃ f, exec (.ctlBrk cpu) s = run s f :=
  ⟨fun s => s.whenUp (fun s => s.unitOp cpu [] 0x026 0), rfl⟩
theorem runs_ctlEret (cpu : Cpu) (s : State) : ∃ f, exec (.ctlEret cpu) s = run s f :=
  ⟨fun s => s.whenUp (fun s => s.unitOp cpu [] 0x027 0), rfl⟩
theorem runs_ctlWfi (cpu : Cpu) (s : State) : ∃ f, exec (.ctlWfi cpu) s = run s f :=
  ⟨fun s => s.whenUp (fun s => s.unitOp cpu [] 0x028 0), rfl⟩
theorem runs_wfiResume (s : State) : ∃ f, exec (.wfiResume) s = run s f :=
  ⟨fun s => s.whenUp (fun s => s.wfiResume), rfl⟩
theorem runs_stkPush (cpu : Cpu) (t : Word) (s : State) : ∃ f, exec (.stkPush cpu t) s = run s f :=
  ⟨fun s => s.whenUp (fun s => s.unitOp cpu [] 0x018 t), rfl⟩
theorem runs_stkPop (cpu : Cpu) (s : State) : ∃ f, exec (.stkPop cpu) s = run s f :=
  ⟨fun s => s.whenUp (fun s => s.unitOp cpu [] 0x019 0), rfl⟩
theorem runs_stkPeek (cpu : Cpu) (t : Word) (s : State) : ∃ f, exec (.stkPeek cpu t) s = run s f :=
  ⟨fun s => s.whenUp (fun s => s.unitOp cpu [] 0x01A t), rfl⟩
theorem runs_repT (cpu : Cpu) (t : Word) (s : State) : ∃ f, exec (.repT cpu t) s = run s f :=
  ⟨fun s => s.whenUp (fun s => s.unitOp cpu [] 0x009 t), rfl⟩
theorem runs_repTn (cpu : Cpu) (t : Word) (s : State) : ∃ f, exec (.repTn cpu t) s = run s f :=
  ⟨fun s => s.whenUp (fun s => s.unitOp cpu [] 0x00A t), rfl⟩
theorem runs_bndChk (cpu : Cpu) (lo : Word) (hi : Word) (t : Word) (s : State) : ∃ f, exec (.bndChk cpu lo hi t) s = run s f :=
  ⟨fun s => s.whenUp (fun s => s.unitOp cpu [(0x030, lo), (0x031, hi)] 0x032 t), rfl⟩
theorem runs_bndChku (cpu : Cpu) (lo : Word) (hi : Word) (t : Word) (s : State) : ∃ f, exec (.bndChku cpu lo hi t) s = run s f :=
  ⟨fun s => s.whenUp (fun s => s.unitOp cpu [(0x030, lo), (0x031, hi)] 0x033 t), rfl⟩
theorem runs_bndClp (cpu : Cpu) (lo : Word) (hi : Word) (t : Word) (s : State) : ∃ f, exec (.bndClp cpu lo hi t) s = run s f :=
  ⟨fun s => s.whenUp (fun s => s.unitOp cpu [(0x030, lo), (0x031, hi)] 0x034 t), rfl⟩
theorem runs_captureBlockCopy (dfn : Fin 8) (s : State) : ∃ f, exec (.captureBlockCopy dfn) s = run s f :=
  ⟨fun s => s.whenUp (fun s => s.capCopy dfn), rfl⟩
theorem runs_ctxDataAccess (port : Port) (write : Option Word) (s : State) : ∃ f, exec (.ctxDataAccess port write) s = run s f :=
  ⟨fun s => s.ctxAccess port write, rfl⟩
theorem runs_trapLogRead (port : Port) (s : State) : ∃ f, exec (.trapLogRead port) s = run s f :=
  ⟨fun s => s.portRead port pPav Reg.Pav.TRAP_LOG0, rfl⟩
theorem runs_evqRead (port : Port) (s : State) : ∃ f, exec (.evqRead port) s = run s f :=
  ⟨fun s => s.portRead port pPav Reg.Pav.EVQ0, rfl⟩
theorem runs_load (port : Port) (nxt : Bool) (slot : Fin 8192) (s : State) : ∃ f, exec (.load port nxt slot) s = run s f :=
  ⟨fun s => s.portWrite port pOrg Reg.Org.KEY_CMD (keyWord 1 nxt false slot), rfl⟩
theorem runs_transportLoadComplete (s : State) : ∃ f, exec (.transportLoadComplete) s = run s f :=
  ⟨fun s => s.whenUp (fun s => s.keyTransport), rfl⟩
theorem runs_swapAt (port : Port) (slot : Fin 8192) (s : State) : ∃ f, exec (.swapAt port slot) s = run s f :=
  ⟨fun s => s.portWrite port pOrg Reg.Org.KEY_CMD (keyWord 2 false false slot), rfl⟩
theorem runs_erase (port : Port) (nxt : Bool) (both : Bool) (slot : Fin 8192) (s : State) : ∃ f, exec (.erase port nxt both slot) s = run s f :=
  ⟨fun s => s.portWrite port pOrg Reg.Org.KEY_CMD (keyWord 3 nxt both slot), rfl⟩
theorem runs_exportBlob (port : Port) (nxt : Bool) (slot : Fin 8192) (s : State) : ∃ f, exec (.exportBlob port nxt slot) s = run s f :=
  ⟨fun s => s.portWrite port pOrg Reg.Org.KEY_CMD (keyWord 4 nxt false slot), rfl⟩
theorem runs_bbrGen (port : Port) (s : State) : ∃ f, exec (.bbrGen port) s = run s f :=
  ⟨fun s => s.portWrite port pOrg Reg.Org.KEY_CMD (keyWord 5 false false 0), rfl⟩
theorem runs_kekDerive (port : Port) (s : State) : ∃ f, exec (.kekDerive port) s = run s f :=
  ⟨fun s => s.portWrite port pOrg Reg.Org.KEY_CMD (keyWord 6 false false 0), rfl⟩
theorem runs_ringHeadWrite (port : Port) (ring : Fin 4) (value : Word) (s : State) : ∃ f, exec (.ringHeadWrite port ring value) s = run s f :=
  ⟨fun s => s.portWrite port pOrg (Reg.Org.RING_HEAD ring) value, rfl⟩
theorem runs_ringDisable (port : Port) (ring : Fin 4) (value : Word) (s : State) : ∃ f, exec (.ringDisable port ring value) s = run s f :=
  ⟨fun s => s.portWrite port pOrg (Reg.Org.RING_CTL ring) (value &&& 0x7FFFFFFF), rfl⟩
theorem runs_coreTakeDescriptor (s : State) : ∃ f, exec (.coreTakeDescriptor) s = run s f :=
  ⟨fun s => s.whenUp (fun s => s.takeDescriptor), rfl⟩
theorem runs_descriptorComplete (cpu : Fin 48) (s : State) : ∃ f, exec (.descriptorComplete cpu) s = run s f :=
  ⟨fun s => s.whenUp (fun s => s.coreDone cpu), rfl⟩
theorem runs_hash (port : Port) (s : State) : ∃ f, exec (.hash port) s = run s f :=
  ⟨fun s => s.portWrite port pArb Reg.Arb.ARB_CMD (arbWord 1 false 0 0 0), rfl⟩
theorem runs_p256Verify (port : Port) (s : State) : ∃ f, exec (.p256Verify port) s = run s f :=
  ⟨fun s => s.portWrite port pArb Reg.Arb.ARB_CMD (arbWord 2 false 0 0 0), rfl⟩
theorem runs_p256Sign (port : Port) (ksrc : Fin 4) (esel : Fin 4) (s : State) : ∃ f, exec (.p256Sign port ksrc esel) s = run s f :=
  ⟨fun s => s.portWrite port pArb Reg.Arb.ARB_CMD (arbWord 3 false ksrc esel 0), rfl⟩
theorem runs_p256Ecdh (port : Port) (ksrc : Fin 4) (esel : Fin 4) (s : State) : ∃ f, exec (.p256Ecdh port ksrc esel) s = run s f :=
  ⟨fun s => s.portWrite port pArb Reg.Arb.ARB_CMD (arbWord 4 false ksrc esel 0), rfl⟩
theorem runs_p256Keygen (port : Port) (ksrc : Fin 4) (esel : Fin 4) (s : State) : ∃ f, exec (.p256Keygen port ksrc esel) s = run s f :=
  ⟨fun s => s.portWrite port pArb Reg.Arb.ARB_CMD (arbWord 5 false ksrc esel 0), rfl⟩
theorem runs_attest (port : Port) (s : State) : ∃ f, exec (.attest port) s = run s f :=
  ⟨fun s => s.portWrite port pArb Reg.Arb.ARB_CMD (arbWord 6 false 0 0 0), rfl⟩
theorem runs_modadd (port : Port) (masked : Bool) (words : Fin 32) (s : State) : ∃ f, exec (.modadd port masked words) s = run s f :=
  ⟨fun s => s.portWrite port pArb Reg.Arb.ARB_CMD (arbWord 7 masked 0 0 words), rfl⟩
theorem runs_modsub (port : Port) (masked : Bool) (words : Fin 32) (s : State) : ∃ f, exec (.modsub port masked words) s = run s f :=
  ⟨fun s => s.portWrite port pArb Reg.Arb.ARB_CMD (arbWord 8 masked 0 0 words), rfl⟩
theorem runs_modmul (port : Port) (masked : Bool) (words : Fin 32) (s : State) : ∃ f, exec (.modmul port masked words) s = run s f :=
  ⟨fun s => s.portWrite port pArb Reg.Arb.ARB_CMD (arbWord 9 masked 0 0 words), rfl⟩
theorem runs_modexp (port : Port) (masked : Bool) (words : Fin 32) (s : State) : ∃ f, exec (.modexp port masked words) s = run s f :=
  ⟨fun s => s.portWrite port pArb Reg.Arb.ARB_CMD (arbWord 10 masked 0 0 words), rfl⟩
theorem runs_clear (port : Port) (s : State) : ∃ f, exec (.clear port) s = run s f :=
  ⟨fun s => s.portWrite port pArb Reg.Arb.ARB_CMD (arbWord 14 false 0 0 0), rfl⟩
theorem runs_abort (port : Port) (s : State) : ∃ f, exec (.abort port) s = run s f :=
  ⟨fun s => s.portWrite port pArb Reg.Arb.ARB_CMD (arbWord 15 false 0 0 0), rfl⟩
theorem runs_arbTimedPhaseStart (s : State) : ∃ f, exec (.arbTimedPhaseStart) s = run s f :=
  ⟨fun s => s.whenUp (fun s => s.arbTimed), rfl⟩
theorem runs_arbOperationComplete (s : State) : ∃ f, exec (.arbOperationComplete) s = run s f :=
  ⟨fun s => s.whenUp (fun s => s.arbComplete), rfl⟩
theorem runs_arbPreempt (s : State) : ∃ f, exec (.arbPreempt) s = run s f :=
  ⟨fun s => s.whenUp (fun s => s.arbPreempt), rfl⟩
theorem runs_scrDataAccess (port : Port) (write : Option Word) (s : State) : ∃ f, exec (.scrDataAccess port write) s = run s f :=
  ⟨fun s => s.portAccess port pArb Reg.Arb.SCR_DATA write, rfl⟩
theorem runs_fountainReady (s : State) : ∃ f, exec (.fountainReady) s = run s f :=
  ⟨fun s => s.whenUp (fun s => s.ftnUp), rfl⟩
theorem runs_fountainStartupTimeout (s : State) : ∃ f, exec (.fountainStartupTimeout) s = run s f :=
  ⟨fun s => s.whenUp (fun s => s.ftnTimeout), rfl⟩
theorem runs_healthTestFail (cause : HealthFail) (s : State) : ∃ f, exec (.healthTestFail cause) s = run s f :=
  ⟨fun s => s.whenUp (fun s => s.healthFail cause), rfl⟩
theorem runs_ftnRequestServed (s : State) : ∃ f, exec (.ftnRequestServed) s = run s f :=
  ⟨fun s => s.whenUp (fun s => s.ftnServe), rfl⟩
theorem runs_ftnOut0Read (port : Port) (s : State) : ∃ f, exec (.ftnOut0Read port) s = run s f :=
  ⟨fun s => s.portRead port pFtn (Reg.Ftn.FTN_OUT 0), rfl⟩
theorem runs_ftnReseed (port : Port) (s : State) : ∃ f, exec (.ftnReseed port) s = run s f :=
  ⟨fun s => s.portWrite port pFtn Reg.Ftn.FTN_CMD 0x5EED, rfl⟩
theorem runs_clnEnable (port : Port) (s : State) : ∃ f, exec (.clnEnable port) s = run s f :=
  ⟨fun s => s.portWrite port pCln Reg.Hdr.CTL 1, rfl⟩
theorem runs_peerHeartbeatSeen (side : Fin 2) (peer : PeerState) (delay : Nat) (s : State) : ∃ f, exec (.peerHeartbeatSeen side peer delay) s = run s f :=
  ⟨fun s => s.whenUp (fun s => s.heartbeat side peer delay), rfl⟩
theorem runs_waitTimeout (s : State) : ∃ f, exec (.waitTimeout) s = run s f :=
  ⟨fun s => s.whenUp (fun s => s.waitTimeout), rfl⟩
theorem runs_attachRetry (s : State) : ∃ f, exec (.attachRetry) s = run s f :=
  ⟨fun s => s.whenUp (fun s => s.attachRetry), rfl⟩
theorem runs_attachMessageReceived (m : AttachMsg) (s : State) : ∃ f, exec (.attachMessageReceived m) s = run s f :=
  ⟨fun s => s.whenUp (fun s => s.attachMessage m), rfl⟩
theorem runs_stateTransferReceived (item : XferItem) (s : State) (h : Instr.wf (.stateTransferReceived item) = true) : ∃ f, exec (.stateTransferReceived item) s = run s f :=
  ⟨fun s => s.whenUp (fun s => s.stateTransfer item), if_pos h⟩
theorem runs_digestRecordReceived (d : PeerDigest) (s : State) (h : Instr.wf (.digestRecordReceived d) = true) : ∃ f, exec (.digestRecordReceived d) s = run s f :=
  ⟨fun s => s.whenUp (fun s => s.digestReceived d), if_pos h⟩
theorem runs_forwardTimeout (s : State) : ∃ f, exec (.forwardTimeout) s = run s f :=
  ⟨fun s => s.whenUp (fun s => s.forwardTimeout), rfl⟩
theorem runs_forwardedFrameReceived (frame : FwdFrame) (s : State) (h : Instr.wf (.forwardedFrameReceived frame) = true) : ∃ f, exec (.forwardedFrameReceived frame) s = run s f :=
  ⟨fun s => s.whenUp (fun s => s.forwarded frame), if_pos h⟩
theorem runs_slotRecordReceived (rec_ : List Word) (roles : Fin 32) (handed : Fin 32) (leaving : Bool) (ofs : Int) (s : State) (h : Instr.wf (.slotRecordReceived rec_ roles handed leaving ofs) = true) : ∃ f, exec (.slotRecordReceived rec_ roles handed leaving ofs) s = run s f :=
  ⟨fun s => s.whenUp (fun s => s.slotRecord rec_ roles handed leaving ofs), if_pos h⟩
theorem runs_slotRecordSplit (s : State) : ∃ f, exec (.slotRecordSplit) s = run s f :=
  ⟨fun s => s.whenUp (fun s => s.recordSplit), rfl⟩
theorem runs_sequenceCheckReceived (counters : List (Nat × Nat × Nat)) (s : State) (h : Instr.wf (.sequenceCheckReceived counters) = true) : ∃ f, exec (.sequenceCheckReceived counters) s = run s f :=
  ⟨fun s => s.whenUp (fun s => s.sequenceCheck counters), if_pos h⟩
theorem runs_timeOffsetAlarm (ofs : Int) (s : State) : ∃ f, exec (.timeOffsetAlarm ofs) s = run s f :=
  ⟨fun s => s.whenUp (fun s => s.timeAlarm ofs), rfl⟩
theorem runs_sideLoss (side : Fin 2) (s : State) : ∃ f, exec (.sideLoss side) s = run s f :=
  ⟨fun s => s.whenUp (fun s => s.sideLoss side), rfl⟩
theorem runs_peerLoss (us : Nat) (s : State) : ∃ f, exec (.peerLoss us) s = run s f :=
  ⟨fun s => s.whenUp (fun s => s.peerLoss us), rfl⟩
theorem runs_attach (port : Port) (s : State) : ∃ f, exec (.attach port) s = run s f :=
  ⟨fun s => s.portWrite port pCln Reg.Cln.CLN_CMD 1, rfl⟩
theorem runs_detach (port : Port) (s : State) : ∃ f, exec (.detach port) s = run s f :=
  ⟨fun s => s.portWrite port pCln Reg.Cln.CLN_CMD 2, rfl⟩
theorem runs_handRoles (port : Port) (s : State) : ∃ f, exec (.handRoles port) s = run s f :=
  ⟨fun s => s.portWrite port pCln Reg.Cln.CLN_CMD 3, rfl⟩
theorem runs_keysync (port : Port) (s : State) : ∃ f, exec (.keysync port) s = run s f :=
  ⟨fun s => s.portWrite port pCln Reg.Cln.CLN_CMD 4, rfl⟩
theorem runs_keyReplicationReceived (m : KeyMsg) (s : State) (h : Instr.wf (.keyReplicationReceived m) = true) : ∃ f, exec (.keyReplicationReceived m) s = run s f :=
  ⟨fun s => s.whenUp (fun s => s.keyMessage m), if_pos h⟩
theorem runs_zeroisePropagationReceived (s : State) : ∃ f, exec (.zeroisePropagationReceived) s = run s f :=
  ⟨fun s => s.whenUp (fun s => s.peerZeroise), rfl⟩
theorem runs_certAddrWrite (port : Port) (value : Word) (s : State) : ∃ f, exec (.certAddrWrite port value) s = run s f :=
  ⟨fun s => s.portWrite port pCln Reg.Cln.CERT_ADDR value, rfl⟩
theorem runs_certVerifyComplete (s : State) : ∃ f, exec (.certVerifyComplete) s = run s f :=
  ⟨fun s => s.whenUp (fun s => s.certDone), rfl⟩
theorem runs_takeLogRead (port : Port) (s : State) : ∃ f, exec (.takeLogRead port) s = run s f :=
  ⟨fun s => s.portRead port pCln Reg.Cln.TAKE_LOG, rfl⟩
theorem runs_nvmErase (port : Port) (s : State) : ∃ f, exec (.nvmErase port) s = run s f :=
  ⟨fun s => s.portWrite port pNvm Reg.Nvm.NVM_CMD 0xE50001, rfl⟩
theorem runs_nvmProgram (port : Port) (s : State) : ∃ f, exec (.nvmProgram port) s = run s f :=
  ⟨fun s => s.portWrite port pNvm Reg.Nvm.NVM_CMD 0xE50002, rfl⟩
theorem runs_nvmVerify (port : Port) (margin : Fin 4) (cmpSrc : Bool) (s : State) : ∃ f, exec (.nvmVerify port margin cmpSrc) s = run s f :=
  ⟨fun s => s.portWrite port pNvm Reg.Nvm.NVM_CMD (verifyWord margin cmpSrc), rfl⟩
theorem runs_nvmUnitDone (s : State) : ∃ f, exec (.nvmUnitDone) s = run s f :=
  ⟨fun s => s.whenUp (fun s => s.nvmUnit.bootCard), rfl⟩
theorem runs_nvmRunResume (s : State) : ∃ f, exec (.nvmRunResume) s = run s f :=
  ⟨fun s => s.whenUp (fun s => s.nvmResume), rfl⟩
theorem runs_patrolScrubRead (region : Fin 16) (word : Nat) (s : State) : ∃ f, exec (.patrolScrubRead region word) s = run s f :=
  ⟨fun s => s.whenUp (fun s => s.patrolRead region word), rfl⟩
theorem runs_reactionStep (dt : Nat) (s : State) : ∃ f, exec (.reactionStep dt) s = run s f :=
  ⟨fun s => s.reactionStep dt, rfl⟩
theorem runs_fenceCmd (port : Port) (s : State) : ∃ f, exec (.fenceCmd port) s = run s f :=
  ⟨fun s => s.portWrite port pBlv Reg.Blv.FENCE_CMD 0xF3CE, rfl⟩
theorem runs_fenceLift (peer : Option (Word × Nat)) (s : State) : ∃ f, exec (.fenceLift peer) s = run s f :=
  ⟨fun s => s.whenUp (fun s => match peer with
    | some (target, slot) => s.fenceLiftPeer target slot
    | none => s.fenceLiftNow), rfl⟩
theorem runs_histClr (port : Port) (s : State) : ∃ f, exec (.histClr port) s = run s f :=
  ⟨fun s => s.portWrite port pBlv Reg.Blv.HIST_CLR 0xC1EA, rfl⟩
theorem runs_hist0Read (port : Port) (s : State) : ∃ f, exec (.hist0Read port) s = run s f :=
  ⟨fun s => s.portRead port pBlv (Reg.Blv.HIST 0), rfl⟩
theorem runs_lightMesh (nanoamps : Nat) (s : State) : ∃ f, exec (.lightMesh nanoamps) s = run s f :=
  ⟨fun s => s.lightMesh nanoamps, rfl⟩
theorem runs_lightCellRefresh (decayed : Fin 4097) (s : State) : ∃ f, exec (.lightCellRefresh decayed) s = run s f :=
  ⟨fun s => s.lightCells decayed, rfl⟩
theorem runs_lightDisagree (s : State) : ∃ f, exec (.lightDisagree) s = run s f :=
  ⟨fun s => s.lightDisagree, rfl⟩
theorem runs_supplyGlitch (ns : Nat) (s : State) : ∃ f, exec (.supplyGlitch ns) s = run s f :=
  ⟨fun s => s.supplyGlitch ns, rfl⟩
theorem runs_clockGlitch (s : State) : ∃ f, exec (.clockGlitch) s = run s f :=
  ⟨fun s => s.hdgMeets 4 true, rfl⟩
theorem runs_backupTempSample (temp : Int) (ticks : Nat) (s : State) (h : Instr.wf (.backupTempSample temp ticks) = true) : ∃ f, exec (.backupTempSample temp ticks) s = run s f :=
  ⟨fun s => s.backupTemp temp ticks, if_pos h⟩
theorem runs_backupAlarm (mask : Fin 256) (ticks : Nat) (s : State) : ∃ f, exec (.backupAlarm mask ticks) s = run s f :=
  ⟨fun s => s.backupAlarm mask ticks, rfl⟩
theorem runs_cardInsertion (s : State) : ∃ f, exec (.cardInsertion) s = run s f :=
  ⟨fun s => s.whenUp (fun s => s.cardInsertion.bootCard), rfl⟩
theorem runs_cardRemoval (s : State) : ∃ f, exec (.cardRemoval) s = run s f :=
  ⟨fun s => s.whenUp (fun s => s.cardRemoval.bootCard), rfl⟩
theorem runs_cardResponse (answer : CardAnswer) (detHigh : Bool) (s : State) : ∃ f, exec (.cardResponse answer detHigh) s = run s f :=
  ⟨fun s => s.whenUp (fun s => (s.cardAnswer answer detHigh).bootCard), rfl⟩
theorem runs_cardBusyRelease (s : State) : ∃ f, exec (.cardBusyRelease) s = run s f :=
  ⟨fun s => s.whenUp (fun s => s.cardReleased.bootCard), rfl⟩
theorem runs_cardBusyTimeout (detHigh : Bool) (s : State) : ∃ f, exec (.cardBusyTimeout detHigh) s = run s f :=
  ⟨fun s => s.whenUp (fun s => (s.cardBusyTimeout detHigh).bootCard), rfl⟩
theorem runs_read (port : Port) (count : Fin 256) (s : State) : ∃ f, exec (.read port count) s = run s f :=
  ⟨fun s => s.portWrite port pPsh Reg.Psh.PSH_CMD (cardWord 1 count), rfl⟩
theorem runs_write (port : Port) (count : Fin 256) (s : State) : ∃ f, exec (.write port count) s = run s f :=
  ⟨fun s => s.portWrite port pPsh Reg.Psh.PSH_CMD (cardWord 2 count), rfl⟩
theorem runs_sleepClk (port : Port) (s : State) : ∃ f, exec (.sleepClk port) s = run s f :=
  ⟨fun s => s.portWrite port pPsh Reg.Psh.PSH_CMD (cardWord 3 0), rfl⟩
theorem runs_sleepOff (port : Port) (s : State) : ∃ f, exec (.sleepOff port) s = run s f :=
  ⟨fun s => s.portWrite port pPsh Reg.Psh.PSH_CMD (cardWord 4 0), rfl⟩
theorem runs_wake (port : Port) (s : State) : ∃ f, exec (.wake port) s = run s f :=
  ⟨fun s => s.portWrite port pPsh Reg.Psh.PSH_CMD (cardWord 5 0), rfl⟩
theorem runs_discard (port : Port) (s : State) : ∃ f, exec (.discard port) s = run s f :=
  ⟨fun s => s.portWrite port pPsh Reg.Psh.PSH_CMD (cardWord 6 0), rfl⟩
theorem runs_fieldAppear (strong : Bool) (s : State) : ∃ f, exec (.fieldAppear strong) s = run s f :=
  ⟨fun s => s.fieldArrives strong, rfl⟩
theorem runs_fieldCollapse (s : State) : ∃ f, exec (.fieldCollapse) s = run s f :=
  ⟨fun s => s.fieldCollapse, rfl⟩
theorem runs_reqa (s : State) : ∃ f, exec (.reqa) s = run s f :=
  ⟨fun s => s.tagRequest false, rfl⟩
theorem runs_wupa (s : State) : ∃ f, exec (.wupa) s = run s f :=
  ⟨fun s => s.tagRequest true, rfl⟩
theorem runs_anticollision (level : Fin 3) (k : Fin 40) (uid : List Byte) (s : State) (h : Instr.wf (.anticollision level k uid) = true) : ∃ f, exec (.anticollision level k uid) s = run s f :=
  ⟨fun s => s.tagAnticollision level k uid, if_pos h⟩
theorem runs_select (level : Fin 3) (uid : List Byte) (crcOk : Bool) (s : State) (h : Instr.wf (.select level uid crcOk) = true) : ∃ f, exec (.select level uid crcOk) s = run s f :=
  ⟨fun s => s.tagSelect level uid crcOk, if_pos h⟩
theorem runs_hlta (crcOk : Bool) (mac : List Byte) (s : State) : ∃ f, exec (.hlta crcOk mac) s = run s f :=
  ⟨fun s => s.tagHalt crcOk mac, rfl⟩
theorem runs_invalidTagFrame (s : State) : ∃ f, exec (.invalidTagFrame) s = run s f :=
  ⟨fun s => s.tagStray, rfl⟩
theorem runs_invBegin (haltToo : Bool) (crcOk : Bool) (s : State) : ∃ f, exec (.invBegin haltToo crcOk) s = run s f :=
  ⟨fun s => s.invBegin haltToo crcOk, rfl⟩
theorem runs_invNext (crcOk : Bool) (s : State) : ∃ f, exec (.invNext crcOk) s = run s f :=
  ⟨fun s => s.invNext crcOk, rfl⟩
theorem runs_invAck (handle : Fin 65536) (crcOk : Bool) (s : State) : ∃ f, exec (.invAck handle crcOk) s = run s f :=
  ⟨fun s => s.invAck handle crcOk, rfl⟩
theorem runs_invTree (crcOk : Bool) (s : State) : ∃ f, exec (.invTree crcOk) s = run s f :=
  ⟨fun s => s.invTree crcOk, rfl⟩
theorem runs_readRec (rec_ : Fin 256) (ofs : Fin 256) (crcOk : Bool) (mac : List Byte) (s : State) : ∃ f, exec (.readRec rec_ ofs crcOk mac) s = run s f :=
  ⟨fun s => s.tagReadRec rec_ ofs crcOk mac, rfl⟩
theorem runs_noteStage (ofs : Fin 256) (data : List Byte) (crcOk : Bool) (mac : List Byte) (s : State) (h : Instr.wf (.noteStage ofs data crcOk mac) = true) : ∃ f, exec (.noteStage ofs data crcOk mac) s = run s f :=
  ⟨fun s => s.noteStage ofs data crcOk mac, if_pos h⟩
theorem runs_noteCommit (seq : Fin 65536) (cut : Option Nat) (crcOk : Bool) (mac : List Byte) (s : State) : ∃ f, exec (.noteCommit seq cut crcOk mac) s = run s f :=
  ⟨fun s => s.noteCommit seq cut crcOk mac, rfl⟩
theorem runs_pwdAuth (pwd : List Byte) (crcOk : Bool) (mac : List Byte) (s : State) (h : Instr.wf (.pwdAuth pwd crcOk mac) = true) : ∃ f, exec (.pwdAuth pwd crcOk mac) s = run s f :=
  ⟨fun s => s.pwdAuth pwd crcOk mac, if_pos h⟩
theorem runs_pwdHoldoffExpiry (s : State) : ∃ f, exec (.pwdHoldoffExpiry) s = run s f :=
  ⟨fun s => s.pwdHoldoffEnd, rfl⟩
theorem runs_auth1 (keyNo : Fin 256) (crcOk : Bool) (mac : List Byte) (s : State) : ∃ f, exec (.auth1 keyNo crcOk mac) s = run s f :=
  ⟨fun s => s.auth1 keyNo crcOk mac, rfl⟩
theorem runs_auth2 (na : List Byte) (tr : List Byte) (crcOk : Bool) (mac : List Byte) (s : State) (h : Instr.wf (.auth2 na tr crcOk mac) = true) : ∃ f, exec (.auth2 na tr crcOk mac) s = run s f :=
  ⟨fun s => s.auth2 na tr crcOk mac, if_pos h⟩
theorem runs_regRd (addr : Word) (crcOk : Bool) (mac : List Byte) (s : State) : ∃ f, exec (.regRd addr crcOk mac) s = run s f :=
  ⟨fun s => s.tagRegRead addr.toNat crcOk mac, rfl⟩
theorem runs_regWr (pair : Bool) (addr : Word) (value : Word) (crcOk : Bool) (mac : List Byte) (s : State) : ∃ f, exec (.regWr pair addr value crcOk mac) s = run s f :=
  ⟨fun s => s.tagRegWrite pair addr.toNat value crcOk mac, rfl⟩
theorem runs_kskReadRec (port : Port) (rec_ : Fin 8) (s : State) : ∃ f, exec (.kskReadRec port rec_) s = run s f :=
  ⟨fun s => s.portWrite port pKsk Reg.Ksk.KSK_CMD (kskWord 1 rec_ 0), rfl⟩
theorem runs_kskWriteRec (port : Port) (rec_ : Fin 8) (s : State) : ∃ f, exec (.kskWriteRec port rec_) s = run s f :=
  ⟨fun s => s.portWrite port pKsk Reg.Ksk.KSK_CMD (kskWord 2 rec_ 0), rfl⟩
theorem runs_keyFromSlot (port : Port) (slot : Fin 8192) (s : State) : ∃ f, exec (.keyFromSlot port slot) s = run s f :=
  ⟨fun s => s.portWrite port pKsk Reg.Ksk.KSK_CMD (kskWord 3 0 slot), rfl⟩
theorem runs_keyClear (port : Port) (s : State) : ∃ f, exec (.keyClear port) s = run s f :=
  ⟨fun s => s.portWrite port pKsk Reg.Ksk.KSK_CMD (kskWord 4 0 0), rfl⟩
theorem runs_pwdSet (port : Port) (s : State) : ∃ f, exec (.pwdSet port) s = run s f :=
  ⟨fun s => s.portWrite port pKsk Reg.Ksk.KSK_CMD (kskWord 5 0 0), rfl⟩
theorem runs_pwdUnblock (port : Port) (s : State) : ∃ f, exec (.pwdUnblock port) s = run s f :=
  ⟨fun s => s.portWrite port pKsk Reg.Ksk.KSK_CMD (kskWord 6 0 0), rfl⟩
theorem runs_gthNarrowWrite (port : Port) (clrW : BitVec 9) (clrR : BitVec 9) (all : Bool) (s : State) : ∃ f, exec (.gthNarrowWrite port clrW clrR all) s = run s f :=
  ⟨fun s => s.portWrite port pGth Reg.Gth.GTH_NARROW (narrowWord clrW clrR all), rfl⟩
theorem runs_proxyRead (port : Port) (twin : Bool) (s : State) : ∃ f, exec (.proxyRead port twin) s = run s f :=
  ⟨fun s => s.portWrite port pGth Reg.Gth.GTH_PROXY_CMD (proxyWord false false twin), rfl⟩
theorem runs_proxyWrite (port : Port) (pair : Bool) (twin : Bool) (s : State) : ∃ f, exec (.proxyWrite port pair twin) s = run s f :=
  ⟨fun s => s.portWrite port pGth Reg.Gth.GTH_PROXY_CMD (proxyWord true pair twin), rfl⟩
theorem runs_proxyAccessReceived (write : Bool) (pair : Bool) (addr : Word) (value : Word) (s : State) : ∃ f, exec (.proxyAccessReceived write pair addr value) s = run s f :=
  ⟨fun s => s.proxyReceived ⟨false, write, pair, addr.toNat, value⟩, rfl⟩
theorem runs_proxyAnswerReceived (answer : Option (Nat × Word)) (s : State) (h : Instr.wf (.proxyAnswerReceived answer) = true) : ∃ f, exec (.proxyAnswerReceived answer) s = run s f :=
  ⟨fun s => s.whenUp (fun s => s.proxyAnswer answer), if_pos h⟩
theorem runs_gthLogRead (port : Port) (s : State) : ∃ f, exec (.gthLogRead port) s = run s f :=
  ⟨fun s => s.portRead port pGth Reg.Gth.GTH_LOG, rfl⟩
theorem runs_lockstepError (parity : Bool) (s : State) : ∃ f, exec (.lockstepError parity) s = run s f :=
  ⟨fun s => s.whenUp (fun s => s.lockstep (if parity then 2 else 1)), rfl⟩
theorem runs_rekey (port : Port) (s : State) : ∃ f, exec (.rekey port) s = run s f :=
  ⟨fun s => s.portWrite port pCcp Reg.Ccp.CCP_MASK 0x80000000, rfl⟩
theorem runs_pcieReset (perst : Bool) (s : State) : ∃ f, exec (.pcieReset perst) s = run s f :=
  ⟨fun s => s.pcieReset perst, rfl⟩
theorem runs_bar2Access (offset : Fin 0x8000000) (count : Fin 1025) (write : Option (List Byte)) (s : State) : ∃ f, exec (.bar2Access offset count write) s = run s f :=
  ⟨fun s => match write with
    | some octets => s.bar2Write offset octets
    | none => s.bar2Read offset count, rfl⟩
theorem runs_hifF2hSetWrite (port : Port) (value : Word) (s : State) : ∃ f, exec (.hifF2hSetWrite port value) s = run s f :=
  ⟨fun s => s.portWrite port pHif Reg.Hif.HIF_F2H_SET value, rfl⟩
theorem runs_hifTransferStart (port : Port) (s : State) : ∃ f, exec (.hifTransferStart port) s = run s f :=
  ⟨fun s => s.portWrite port pHif Reg.Hif.XF_CMD 1, rfl⟩
theorem runs_hifTransferDone (s : State) : ∃ f, exec (.hifTransferDone) s = run s f :=
  ⟨fun s => s.whenUp (fun s => s.xfDone), rfl⟩
theorem runs_dmaStart (port : Port) (s : State) : ∃ f, exec (.dmaStart port) s = run s f :=
  ⟨fun s => s.portWrite port pCcp Reg.Ccp.DMA_CMD 1, rfl⟩
theorem runs_dmaDone (s : State) : ∃ f, exec (.dmaDone) s = run s f :=
  ⟨fun s => s.whenUp (fun s => s.dmaDone), rfl⟩
theorem runs_uartTxWrite (port : Port) (data : Byte) (s : State) : ∃ f, exec (.uartTxWrite port data) s = run s f :=
  ⟨fun s => s.portWrite port pCcp Reg.Ccp.UART_TX (data.setWidth 32), rfl⟩
theorem runs_uartRxRead (port : Port) (s : State) : ∃ f, exec (.uartRxRead port) s = run s f :=
  ⟨fun s => s.portRead port pCcp Reg.Ccp.UART_RX, rfl⟩
theorem runs_uartRxOctet (data : Byte) (s : State) : ∃ f, exec (.uartRxOctet data) s = run s f :=
  ⟨fun s => s.whenUp (fun s => s.uartRx data), rfl⟩
theorem runs_msRead (addr : Word) (count : Nat) (s : State) : ∃ f, exec (.msRead addr count) s = run s f :=
  ⟨fun s => s.spiRead addr.toNat count, rfl⟩
theorem runs_msWrite (addr : Word) (words : List Word) (cut : Bool) (s : State) : ∃ f, exec (.msWrite addr words cut) s = run s f :=
  ⟨fun s => s.spiWrite addr.toNat words cut, rfl⟩
theorem runs_paired (addr : Word) (value : Word) (inverse : Word) (cut : Bool) (s : State) : ∃ f, exec (.paired addr value inverse cut) s = run s f :=
  ⟨fun s => s.spiPaired addr.toNat value inverse cut, rfl⟩
theorem runs_rdsr (s : State) : ∃ f, exec (.rdsr) s = run s f :=
  ⟨fun s => s.spiStatus, rfl⟩
theorem runs_stage (offset : Fin 0x1000000) (data : List Byte) (s : State) : ∃ f, exec (.stage offset data) s = run s f :=
  ⟨fun s => s.spiStage offset data, rfl⟩
theorem runs_bootdb (value : Word) (s : State) : ∃ f, exec (.bootdb value) s = run s f :=
  ⟨fun s => s.spiBootDb value, rfl⟩
theorem runs_ident (s : State) : ∃ f, exec (.ident) s = run s f :=
  ⟨fun s => s.spiIdent, rfl⟩
theorem runs_idcode (s : State) : ∃ f, exec (.idcode) s = run s f :=
  ⟨fun s => s.tapIdcode, rfl⟩
theorem runs_bypass (octets : List Byte) (s : State) : ∃ f, exec (.bypass octets) s = run s f :=
  ⟨fun s => s.tapBypass octets, rfl⟩
theorem runs_unlockChal (s : State) : ∃ f, exec (.unlockChal) s = run s f :=
  ⟨fun s => s.tapChallenge, rfl⟩
theorem runs_unlockResp (response : List Byte) (s : State) (h : Instr.wf (.unlockResp response) = true) : ∃ f, exec (.unlockResp response) s = run s f :=
  ⟨fun s => s.tapResponse response, if_pos h⟩
theorem runs_unlockVerifyComplete (s : State) : ∃ f, exec (.unlockVerifyComplete) s = run s f :=
  ⟨fun s => s.whenUp (fun s => s.unlockVerified), rfl⟩
theorem runs_unlockSta (s : State) : ∃ f, exec (.unlockSta) s = run s f :=
  ⟨fun s => s.tapStatus, rfl⟩
theorem runs_dbgAcc (op : Fin 4) (addr : Word) (data : Word) (s : State) : ∃ f, exec (.dbgAcc op addr data) s = run s f :=
  ⟨fun s => s.dbgAcc op addr.toNat data, rfl⟩
theorem runs_dbgCore (op : Fin 4) (s : State) : ∃ f, exec (.dbgCore op) s = run s f :=
  ⟨fun s => s.dbgCore op, rfl⟩
theorem runs_laneNear (port : Port) (s : State) : ∃ f, exec (.laneNear port) s = run s f :=
  ⟨fun s => s.portWrite port pBst Reg.Bst.BST_CMD 0xB501, rfl⟩
theorem runs_laneFar (port : Port) (s : State) : ∃ f, exec (.laneFar port) s = run s f :=
  ⟨fun s => s.portWrite port pBst Reg.Bst.BST_CMD 0xB502, rfl⟩
theorem runs_clnNear (port : Port) (s : State) : ∃ f, exec (.clnNear port) s = run s f :=
  ⟨fun s => s.portWrite port pBst Reg.Bst.BST_CMD 0xB503, rfl⟩
theorem runs_kskLoop (port : Port) (s : State) : ∃ f, exec (.kskLoop port) s = run s f :=
  ⟨fun s => s.portWrite port pBst Reg.Bst.BST_CMD 0xB504, rfl⟩
theorem runs_refSupply (port : Port) (s : State) : ∃ f, exec (.refSupply port) s = run s f :=
  ⟨fun s => s.portWrite port pBst Reg.Bst.BST_CMD 0xB505, rfl⟩
theorem runs_refTemp (port : Port) (s : State) : ∃ f, exec (.refTemp port) s = run s f :=
  ⟨fun s => s.portWrite port pBst Reg.Bst.BST_CMD 0xB506, rfl⟩
theorem runs_refHedge (port : Port) (s : State) : ∃ f, exec (.refHedge port) s = run s f :=
  ⟨fun s => s.portWrite port pBst Reg.Bst.BST_CMD 0xB507, rfl⟩
theorem runs_lbist (port : Port) (s : State) : ∃ f, exec (.lbist port) s = run s f :=
  ⟨fun s => s.portWrite port pBst Reg.Bst.BST_CMD 0xB508, rfl⟩
theorem runs_bstTestComplete (outcome : TestOutcome) (s : State) : ∃ f, exec (.bstTestComplete outcome) s = run s f :=
  ⟨fun s => s.whenUp (fun s => s.bstComplete outcome), rfl⟩
theorem runs_ref10mRecovery (s : State) : ∃ f, exec (.ref10mRecovery) s = run s f :=
  ⟨fun s => s.ref10mBack, rfl⟩
theorem runs_vbatLoss (s : State) : ∃ f, exec (.vbatLoss) s = run s f :=
  ⟨fun s => s.vbatLoss, rfl⟩
theorem runs_cdVioOutOfRange (s : State) : ∃ f, exec (.cdVioOutOfRange) s = run s f :=
  ⟨fun s => s.whenUp (fun s => s.cdVioOut), rfl⟩
theorem runs_sideRecovery (side : Fin 2) (s : State) : ∃ f, exec (.sideRecovery side) s = run s f :=
  ⟨fun s => s.whenUp (fun s => s.sideRecovery side), rfl⟩
theorem runs_hedgeConditionAbsent (source : Fin 8) (s : State) : ∃ f, exec (.hedgeConditionAbsent source) s = run s f :=
  ⟨fun s => s.conditionAbsent source, rfl⟩
theorem runs_cardTimeout (detHigh : Bool) (s : State) : ∃ f, exec (.cardTimeout detHigh) s = run s f :=
  ⟨fun s => s.whenUp (fun s => (s.cardTimeout detHigh).bootCard), rfl⟩
theorem runs_pcieLinkUp (speed : Fin 5) (width : Fin 5) (bme : Bool) (s : State) (h : Instr.wf (.pcieLinkUp speed width bme) = true) : ∃ f, exec (.pcieLinkUp speed width bme) s = run s f :=
  ⟨fun s => s.pcieUp speed width bme, if_pos h⟩
theorem runs_uartTxOctetSent (s : State) : ∃ f, exec (.uartTxOctetSent) s = run s f :=
  ⟨fun s => s.whenUp (fun s => s.uartSent), rfl⟩

/-- A well-formed command runs its effect. -/
theorem exec_runs (s : State) (c : Instr) (h : c.wf = true) : ∃ f, exec c s = run s f := by
  cases c with
  | registerWrite x0 x1 x2 => exact runs_registerWrite x0 x1 x2 s
  | malformedAccess x0 x1 x2 => exact runs_malformedAccess x0 x1 x2 s
  | blockEnable x0 x1 => exact runs_blockEnable x0 x1 s
  | blockReset x0 x1 => exact runs_blockReset x0 x1 s
  | blockResetComplete x0 => exact runs_blockResetComplete x0 s
  | claimWrite x0 x1 x2 => exact runs_claimWrite x0 x1 x2 s
  | lockWrite x0 x1 => exact runs_lockWrite x0 x1 s
  | shadowPrimaryWrite x0 x1 x2 x3 => exact runs_shadowPrimaryWrite x0 x1 x2 x3 s
  | shadowInverseWrite x0 x1 x2 x3 => exact runs_shadowInverseWrite x0 x1 x2 x3 s
  | shadowWindowExpiry x0 => exact runs_shadowWindowExpiry x0 s
  | shadowMismatch x0 x1 => exact runs_shadowMismatch x0 x1 s
  | prfWrite x0 x1 => exact runs_prfWrite x0 x1 s
  | powerUp x0 => exact runs_powerUp x0 s
  | supplyDip x0 => exact runs_supplyDip x0 s
  | supplyRecovery x0 => exact runs_supplyRecovery x0 s
  | brownOutReset x0 => exact runs_brownOutReset x0 s
  | vddio18Loss  => exact runs_vddio18Loss  s
  | rstNLow  => exact runs_rstNLow  s
  | rstNRelease  => exact runs_rstNRelease  s
  | deviceResetRelease  => exact runs_deviceResetRelease  s
  | bootSequence x0 x1 x2 x3 x4 => exact runs_bootSequence x0 x1 x2 x3 x4 s
  | bootSourcePoll x0 => exact runs_bootSourcePoll x0 s
  | bootDoorbell x0 x1 => exact runs_bootDoorbell x0 x1 s
  | avsRequest x0 => exact runs_avsRequest x0 s
  | avsNoAck  => exact runs_avsNoAck  s
  | refclkLoss x0 => exact runs_refclkLoss x0 s
  | sysclkLoss  => exact runs_sysclkLoss  s
  | sysclkRecovery  => exact runs_sysclkRecovery  s
  | ref10mLoss  => exact runs_ref10mLoss  s
  | tempConversion x0 => exact runs_tempConversion x0 s h
  | rstReqWrite x0 => exact runs_rstReqWrite x0 s
  | zrqWrite x0 => exact runs_zrqWrite x0 s
  | wdgKick x0 => exact runs_wdgKick x0 s
  | wdgPreTimeout  => exact runs_wdgPreTimeout  s
  | watchdogExpiry  => exact runs_watchdogExpiry  s
  | livenessLoss x0 => exact runs_livenessLoss x0 s
  | pkgCmdWrite x0 => exact runs_pkgCmdWrite x0 s
  | pkgAcceptComplete  => exact runs_pkgAcceptComplete  s
  | ptpMessageReceived x0 x1 x2 => exact runs_ptpMessageReceived x0 x1 x2 s
  | ptpMessageTransmit x0 x1 => exact runs_ptpMessageTransmit x0 x1 s
  | ptpSourceTimeout x0 => exact runs_ptpSourceTimeout x0 s
  | ppsEdge x0 => exact runs_ppsEdge x0 s
  | irigFrame x0 x1 => exact runs_irigFrame x0 x1 s
  | ppsLoss x0 => exact runs_ppsLoss x0 s
  | holdExpired  => exact runs_holdExpired  s
  | setCmd x0 => exact runs_setCmd x0 s
  | ppsOutRise  => exact runs_ppsOutRise  s
  | ppsOutFall  => exact runs_ppsOutFall  s
  | sundialEnable x0 => exact runs_sundialEnable x0 s
  | sundialDisable x0 => exact runs_sundialDisable x0 s
  | refSampleTimeout x0 => exact runs_refSampleTimeout x0 s
  | slotStart x0 x1 => exact runs_slotStart x0 x1 s
  | swapTimer x0 => exact runs_swapTimer x0 s
  | retireExpiry x0 => exact runs_retireExpiry x0 s
  | slotInputFix  => exact runs_slotInputFix  s
  | budgetWindowRestart  => exact runs_budgetWindowRestart  s
  | cmpArm x0 x1 x2 => exact runs_cmpArm x0 x1 x2 s
  | cmpCancel x0 x1 x2 => exact runs_cmpCancel x0 x1 x2 s
  | cmpReconversion x0 => exact runs_cmpReconversion x0 s
  | cmpFirstEdge x0 => exact runs_cmpFirstEdge x0 s
  | cmpReturnEdge x0 => exact runs_cmpReturnEdge x0 s
  | timeSLoRead x0 => exact runs_timeSLoRead x0 s
  | angleRead x0 => exact runs_angleRead x0 s
  | sdlEvtRead x0 => exact runs_sdlEvtRead x0 s
  | frameReceived x0 x1 x2 => exact runs_frameReceived x0 x1 x2 s
  | frameTransmit x0 => exact runs_frameTransmit x0 s
  | laneSignalChange x0 x1 x2 x3 x4 x5 x6 x7 => exact runs_laneSignalChange x0 x1 x2 x3 x4 x5 x6 x7 s
  | phyStatusChange x0 x1 x2 => exact runs_phyStatusChange x0 x1 x2 s
  | gclConfigChange x0 x1 x2 => exact runs_gclConfigChange x0 x1 x2 s
  | gateCycleStart x0 => exact runs_gateCycleStart x0 s
  | gateEntryExpiry x0 => exact runs_gateEntryExpiry x0 s
  | gclDataAccess x0 x1 x2 => exact runs_gclDataAccess x0 x1 x2 s
  | pairEnable x0 x1 x2 => exact runs_pairEnable x0 x1 x2 s
  | pairDisable x0 x1 x2 => exact runs_pairDisable x0 x1 x2 s
  | supervisionTx x0 => exact runs_supervisionTx x0 s
  | fdbAgeOut x0 => exact runs_fdbAgeOut x0 s
  | tblRead x0 x1 x2 => exact runs_tblRead x0 x1 x2 s
  | tblWrite x0 x1 x2 => exact runs_tblWrite x0 x1 x2 s
  | tblDelete x0 x1 x2 => exact runs_tblDelete x0 x1 x2 s
  | tblSearch x0 x1 x2 => exact runs_tblSearch x0 x1 x2 s
  | portCfgWrite x0 x1 x2 => exact runs_portCfgWrite x0 x1 x2 s
  | follyRunStart x0 x1 x2 => exact runs_follyRunStart x0 x1 x2 s
  | follyRunStop x0 x1 x2 => exact runs_follyRunStop x0 x1 x2 s
  | follyReorderTimeout x0 => exact runs_follyReorderTimeout x0 s
  | follyDelayRelease x0 => exact runs_follyDelayRelease x0 s
  | frameWalk x0 x1 => exact runs_frameWalk x0 x1 s
  | tagCheckDone x0 x1 => exact runs_tagCheckDone x0 x1 s
  | gooseStale x0 => exact runs_gooseStale x0 s
  | fmtDataHiWrite x0 x1 => exact runs_fmtDataHiWrite x0 x1 s
  | idDataHiWrite x0 x1 => exact runs_idDataHiWrite x0 x1 s
  | excRead x0 x1 => exact runs_excRead x0 x1 s
  | gooseRetransmit x0 => exact runs_gooseRetransmit x0 s
  | svFrameBuild x0 => exact runs_svFrameBuild x0 s
  | pubFrameHandover x0 => exact runs_pubFrameHandover x0 s
  | pergolaEnable x0 => exact runs_pergolaEnable x0 s
  | enableCheckComplete x0 => exact runs_enableCheckComplete x0 s
  | pergolaDisable x0 => exact runs_pergolaDisable x0 s
  | firstDispatch  => exact runs_firstDispatch  s
  | runDispatch  => exact runs_runDispatch  s
  | budgetPreempt  => exact runs_budgetPreempt  s
  | schDataWrite x0 x1 => exact runs_schDataWrite x0 x1 s
  | ovrLogRead x0 => exact runs_ovrLogRead x0 s
  | bundleIssue x0 => exact runs_bundleIssue x0 s
  | resultLand x0 => exact runs_resultLand x0 s
  | interruptEntry  => exact runs_interruptEntry  s
  | nmiEntry  => exact runs_nmiEntry  s
  | controlTransferTaken x0 => exact runs_controlTransferTaken x0 s
  | aluAdd x0 x1 x2 x3 => exact runs_aluAdd x0 x1 x2 x3 s
  | aluSub x0 x1 x2 x3 => exact runs_aluSub x0 x1 x2 x3 s
  | aluAdds x0 x1 x2 x3 => exact runs_aluAdds x0 x1 x2 x3 s
  | aluSubs x0 x1 x2 x3 => exact runs_aluSubs x0 x1 x2 x3 s
  | aluAnd x0 x1 x2 x3 => exact runs_aluAnd x0 x1 x2 x3 s
  | aluOr x0 x1 x2 x3 => exact runs_aluOr x0 x1 x2 x3 s
  | aluXor x0 x1 x2 x3 => exact runs_aluXor x0 x1 x2 x3 s
  | aluAndn x0 x1 x2 x3 => exact runs_aluAndn x0 x1 x2 x3 s
  | aluShl x0 x1 x2 x3 => exact runs_aluShl x0 x1 x2 x3 s
  | aluShr x0 x1 x2 x3 => exact runs_aluShr x0 x1 x2 x3 s
  | aluSra x0 x1 x2 x3 => exact runs_aluSra x0 x1 x2 x3 s
  | aluMin x0 x1 x2 x3 => exact runs_aluMin x0 x1 x2 x3 s
  | aluMax x0 x1 x2 x3 => exact runs_aluMax x0 x1 x2 x3 s
  | aluMinu x0 x1 x2 x3 => exact runs_aluMinu x0 x1 x2 x3 s
  | aluMaxu x0 x1 x2 x3 => exact runs_aluMaxu x0 x1 x2 x3 s
  | aluEq x0 x1 x2 x3 => exact runs_aluEq x0 x1 x2 x3 s
  | aluNe x0 x1 x2 x3 => exact runs_aluNe x0 x1 x2 x3 s
  | aluLt x0 x1 x2 x3 => exact runs_aluLt x0 x1 x2 x3 s
  | aluLtu x0 x1 x2 x3 => exact runs_aluLtu x0 x1 x2 x3 s
  | aluGe x0 x1 x2 x3 => exact runs_aluGe x0 x1 x2 x3 s
  | aluGeu x0 x1 x2 x3 => exact runs_aluGeu x0 x1 x2 x3 s
  | aluAbs x0 x1 x2 x3 => exact runs_aluAbs x0 x1 x2 x3 s
  | aluPass x0 x1 x2 x3 => exact runs_aluPass x0 x1 x2 x3 s
  | macMacq x0 x1 x2 x3 => exact runs_macMacq x0 x1 x2 x3 s
  | macMul x0 x1 x2 x3 => exact runs_macMul x0 x1 x2 x3 s
  | macMulh x0 x1 x2 x3 => exact runs_macMulh x0 x1 x2 x3 s
  | macMulq x0 x1 x2 x3 => exact runs_macMulq x0 x1 x2 x3 s
  | macMac x0 x1 x2 x3 => exact runs_macMac x0 x1 x2 x3 s
  | macClr x0 x1 x2 x3 => exact runs_macClr x0 x1 x2 x3 s
  | macLd x0 x1 x2 x3 => exact runs_macLd x0 x1 x2 x3 s
  | macRdh x0 x1 x2 x3 => exact runs_macRdh x0 x1 x2 x3 s
  | fmaFma x0 x1 x2 x3 x4 => exact runs_fmaFma x0 x1 x2 x3 x4 s
  | fmaFadd x0 x1 x2 x3 x4 => exact runs_fmaFadd x0 x1 x2 x3 x4 s
  | fmaFsub x0 x1 x2 x3 x4 => exact runs_fmaFsub x0 x1 x2 x3 x4 s
  | fmaFmul x0 x1 x2 x3 x4 => exact runs_fmaFmul x0 x1 x2 x3 x4 s
  | fmaFmin x0 x1 x2 x3 x4 => exact runs_fmaFmin x0 x1 x2 x3 x4 s
  | fmaFmax x0 x1 x2 x3 x4 => exact runs_fmaFmax x0 x1 x2 x3 x4 s
  | fmaFabs x0 x1 x2 x3 x4 => exact runs_fmaFabs x0 x1 x2 x3 x4 s
  | fmaItof x0 x1 x2 x3 x4 => exact runs_fmaItof x0 x1 x2 x3 x4 s
  | fmaQtof x0 x1 x2 x3 x4 => exact runs_fmaQtof x0 x1 x2 x3 x4 s
  | fmaFtoq x0 x1 x2 x3 x4 => exact runs_fmaFtoq x0 x1 x2 x3 x4 s
  | fmaFtoi x0 x1 x2 x3 x4 => exact runs_fmaFtoi x0 x1 x2 x3 x4 s
  | fmaFlt x0 x1 x2 x3 x4 => exact runs_fmaFlt x0 x1 x2 x3 x4 s
  | fmaFeq x0 x1 x2 x3 x4 => exact runs_fmaFeq x0 x1 x2 x3 x4 s
  | corSincos x0 x1 x2 x3 x4 => exact runs_corSincos x0 x1 x2 x3 x4 s
  | corAtan2 x0 x1 x2 x3 x4 => exact runs_corAtan2 x0 x1 x2 x3 x4 s
  | corRot x0 x1 x2 x3 x4 => exact runs_corRot x0 x1 x2 x3 x4 s
  | divDiv x0 x1 x2 x3 => exact runs_divDiv x0 x1 x2 x3 s
  | divDivu x0 x1 x2 x3 => exact runs_divDivu x0 x1 x2 x3 s
  | divDivq x0 x1 x2 x3 => exact runs_divDivq x0 x1 x2 x3 s
  | winLw x0 x1 x2 x3 => exact runs_winLw x0 x1 x2 x3 s
  | winLc x0 x1 x2 x3 => exact runs_winLc x0 x1 x2 x3 s
  | winLt x0 x1 x2 x3 => exact runs_winLt x0 x1 x2 x3 s
  | winLg x0 x1 x2 x3 => exact runs_winLg x0 x1 x2 x3 s
  | winLo x0 x1 x2 x3 => exact runs_winLo x0 x1 x2 x3 s
  | winCrv x0 x1 x2 x3 => exact runs_winCrv x0 x1 x2 x3 s
  | winFsm x0 x1 x2 x3 => exact runs_winFsm x0 x1 x2 x3 s
  | winSc x0 x1 x2 x3 => exact runs_winSc x0 x1 x2 x3 s
  | winSo x0 x1 x2 x3 => exact runs_winSo x0 x1 x2 x3 s
  | winSs x0 x1 x2 x3 => exact runs_winSs x0 x1 x2 x3 s
  | winSq x0 x1 x2 x3 => exact runs_winSq x0 x1 x2 x3 s
  | winSa x0 x1 x2 x3 => exact runs_winSa x0 x1 x2 x3 s
  | winSe x0 x1 x2 x3 => exact runs_winSe x0 x1 x2 x3 s
  | lsuLw x0 x1 => exact runs_lsuLw x0 x1 s
  | lsuLh x0 x1 => exact runs_lsuLh x0 x1 s
  | lsuLhu x0 x1 => exact runs_lsuLhu x0 x1 s
  | lsuLb x0 x1 => exact runs_lsuLb x0 x1 s
  | lsuLbu x0 x1 => exact runs_lsuLbu x0 x1 s
  | lsuSw x0 x1 x2 => exact runs_lsuSw x0 x1 x2 s
  | lsuSh x0 x1 x2 => exact runs_lsuSh x0 x1 x2 s
  | lsuSb x0 x1 x2 => exact runs_lsuSb x0 x1 x2 s
  | lsuSync  => exact runs_lsuSync  s
  | storeComplete  => exact runs_storeComplete  s
  | ctlJmp x0 x1 => exact runs_ctlJmp x0 x1 s
  | ctlBr x0 x1 => exact runs_ctlBr x0 x1 s
  | ctlCall x0 x1 => exact runs_ctlCall x0 x1 s
  | ctlCallr x0 x1 => exact runs_ctlCallr x0 x1 s
  | ctlRet x0 => exact runs_ctlRet x0 s
  | ctlEnd x0 => exact runs_ctlEnd x0 s
  | ctlBrk x0 => exact runs_ctlBrk x0 s
  | ctlEret x0 => exact runs_ctlEret x0 s
  | ctlWfi x0 => exact runs_ctlWfi x0 s
  | wfiResume  => exact runs_wfiResume  s
  | stkPush x0 x1 => exact runs_stkPush x0 x1 s
  | stkPop x0 => exact runs_stkPop x0 s
  | stkPeek x0 x1 => exact runs_stkPeek x0 x1 s
  | repT x0 x1 => exact runs_repT x0 x1 s
  | repTn x0 x1 => exact runs_repTn x0 x1 s
  | bndChk x0 x1 x2 x3 => exact runs_bndChk x0 x1 x2 x3 s
  | bndChku x0 x1 x2 x3 => exact runs_bndChku x0 x1 x2 x3 s
  | bndClp x0 x1 x2 x3 => exact runs_bndClp x0 x1 x2 x3 s
  | captureBlockCopy x0 => exact runs_captureBlockCopy x0 s
  | ctxDataAccess x0 x1 => exact runs_ctxDataAccess x0 x1 s
  | trapLogRead x0 => exact runs_trapLogRead x0 s
  | evqRead x0 => exact runs_evqRead x0 s
  | load x0 x1 x2 => exact runs_load x0 x1 x2 s
  | transportLoadComplete  => exact runs_transportLoadComplete  s
  | swapAt x0 x1 => exact runs_swapAt x0 x1 s
  | erase x0 x1 x2 x3 => exact runs_erase x0 x1 x2 x3 s
  | exportBlob x0 x1 x2 => exact runs_exportBlob x0 x1 x2 s
  | bbrGen x0 => exact runs_bbrGen x0 s
  | kekDerive x0 => exact runs_kekDerive x0 s
  | ringHeadWrite x0 x1 x2 => exact runs_ringHeadWrite x0 x1 x2 s
  | ringDisable x0 x1 x2 => exact runs_ringDisable x0 x1 x2 s
  | coreTakeDescriptor  => exact runs_coreTakeDescriptor  s
  | descriptorComplete x0 => exact runs_descriptorComplete x0 s
  | hash x0 => exact runs_hash x0 s
  | p256Verify x0 => exact runs_p256Verify x0 s
  | p256Sign x0 x1 x2 => exact runs_p256Sign x0 x1 x2 s
  | p256Ecdh x0 x1 x2 => exact runs_p256Ecdh x0 x1 x2 s
  | p256Keygen x0 x1 x2 => exact runs_p256Keygen x0 x1 x2 s
  | attest x0 => exact runs_attest x0 s
  | modadd x0 x1 x2 => exact runs_modadd x0 x1 x2 s
  | modsub x0 x1 x2 => exact runs_modsub x0 x1 x2 s
  | modmul x0 x1 x2 => exact runs_modmul x0 x1 x2 s
  | modexp x0 x1 x2 => exact runs_modexp x0 x1 x2 s
  | clear x0 => exact runs_clear x0 s
  | abort x0 => exact runs_abort x0 s
  | arbTimedPhaseStart  => exact runs_arbTimedPhaseStart  s
  | arbOperationComplete  => exact runs_arbOperationComplete  s
  | arbPreempt  => exact runs_arbPreempt  s
  | scrDataAccess x0 x1 => exact runs_scrDataAccess x0 x1 s
  | fountainReady  => exact runs_fountainReady  s
  | fountainStartupTimeout  => exact runs_fountainStartupTimeout  s
  | healthTestFail x0 => exact runs_healthTestFail x0 s
  | ftnRequestServed  => exact runs_ftnRequestServed  s
  | ftnOut0Read x0 => exact runs_ftnOut0Read x0 s
  | ftnReseed x0 => exact runs_ftnReseed x0 s
  | clnEnable x0 => exact runs_clnEnable x0 s
  | peerHeartbeatSeen x0 x1 x2 => exact runs_peerHeartbeatSeen x0 x1 x2 s
  | waitTimeout  => exact runs_waitTimeout  s
  | attachRetry  => exact runs_attachRetry  s
  | attachMessageReceived x0 => exact runs_attachMessageReceived x0 s
  | stateTransferReceived x0 => exact runs_stateTransferReceived x0 s h
  | digestRecordReceived x0 => exact runs_digestRecordReceived x0 s h
  | forwardTimeout  => exact runs_forwardTimeout  s
  | forwardedFrameReceived x0 => exact runs_forwardedFrameReceived x0 s h
  | slotRecordReceived x0 x1 x2 x3 x4 => exact runs_slotRecordReceived x0 x1 x2 x3 x4 s h
  | slotRecordSplit  => exact runs_slotRecordSplit  s
  | sequenceCheckReceived x0 => exact runs_sequenceCheckReceived x0 s h
  | timeOffsetAlarm x0 => exact runs_timeOffsetAlarm x0 s
  | sideLoss x0 => exact runs_sideLoss x0 s
  | peerLoss x0 => exact runs_peerLoss x0 s
  | attach x0 => exact runs_attach x0 s
  | detach x0 => exact runs_detach x0 s
  | handRoles x0 => exact runs_handRoles x0 s
  | keysync x0 => exact runs_keysync x0 s
  | keyReplicationReceived x0 => exact runs_keyReplicationReceived x0 s h
  | zeroisePropagationReceived  => exact runs_zeroisePropagationReceived  s
  | certAddrWrite x0 x1 => exact runs_certAddrWrite x0 x1 s
  | certVerifyComplete  => exact runs_certVerifyComplete  s
  | takeLogRead x0 => exact runs_takeLogRead x0 s
  | nvmErase x0 => exact runs_nvmErase x0 s
  | nvmProgram x0 => exact runs_nvmProgram x0 s
  | nvmVerify x0 x1 x2 => exact runs_nvmVerify x0 x1 x2 s
  | nvmUnitDone  => exact runs_nvmUnitDone  s
  | nvmRunResume  => exact runs_nvmRunResume  s
  | patrolScrubRead x0 x1 => exact runs_patrolScrubRead x0 x1 s
  | reactionStep x0 => exact runs_reactionStep x0 s
  | fenceCmd x0 => exact runs_fenceCmd x0 s
  | fenceLift x0 => exact runs_fenceLift x0 s
  | histClr x0 => exact runs_histClr x0 s
  | hist0Read x0 => exact runs_hist0Read x0 s
  | lightMesh x0 => exact runs_lightMesh x0 s
  | lightCellRefresh x0 => exact runs_lightCellRefresh x0 s
  | lightDisagree  => exact runs_lightDisagree  s
  | supplyGlitch x0 => exact runs_supplyGlitch x0 s
  | clockGlitch  => exact runs_clockGlitch  s
  | backupTempSample x0 x1 => exact runs_backupTempSample x0 x1 s h
  | backupAlarm x0 x1 => exact runs_backupAlarm x0 x1 s
  | cardInsertion  => exact runs_cardInsertion  s
  | cardRemoval  => exact runs_cardRemoval  s
  | cardResponse x0 x1 => exact runs_cardResponse x0 x1 s
  | cardBusyRelease  => exact runs_cardBusyRelease  s
  | cardBusyTimeout x0 => exact runs_cardBusyTimeout x0 s
  | read x0 x1 => exact runs_read x0 x1 s
  | write x0 x1 => exact runs_write x0 x1 s
  | sleepClk x0 => exact runs_sleepClk x0 s
  | sleepOff x0 => exact runs_sleepOff x0 s
  | wake x0 => exact runs_wake x0 s
  | discard x0 => exact runs_discard x0 s
  | fieldAppear x0 => exact runs_fieldAppear x0 s
  | fieldCollapse  => exact runs_fieldCollapse  s
  | reqa  => exact runs_reqa  s
  | wupa  => exact runs_wupa  s
  | anticollision x0 x1 x2 => exact runs_anticollision x0 x1 x2 s h
  | select x0 x1 x2 => exact runs_select x0 x1 x2 s h
  | hlta x0 x1 => exact runs_hlta x0 x1 s
  | invalidTagFrame  => exact runs_invalidTagFrame  s
  | invBegin x0 x1 => exact runs_invBegin x0 x1 s
  | invNext x0 => exact runs_invNext x0 s
  | invAck x0 x1 => exact runs_invAck x0 x1 s
  | invTree x0 => exact runs_invTree x0 s
  | readRec x0 x1 x2 x3 => exact runs_readRec x0 x1 x2 x3 s
  | noteStage x0 x1 x2 x3 => exact runs_noteStage x0 x1 x2 x3 s h
  | noteCommit x0 x1 x2 x3 => exact runs_noteCommit x0 x1 x2 x3 s
  | pwdAuth x0 x1 x2 => exact runs_pwdAuth x0 x1 x2 s h
  | pwdHoldoffExpiry  => exact runs_pwdHoldoffExpiry  s
  | auth1 x0 x1 x2 => exact runs_auth1 x0 x1 x2 s
  | auth2 x0 x1 x2 x3 => exact runs_auth2 x0 x1 x2 x3 s h
  | regRd x0 x1 x2 => exact runs_regRd x0 x1 x2 s
  | regWr x0 x1 x2 x3 x4 => exact runs_regWr x0 x1 x2 x3 x4 s
  | kskReadRec x0 x1 => exact runs_kskReadRec x0 x1 s
  | kskWriteRec x0 x1 => exact runs_kskWriteRec x0 x1 s
  | keyFromSlot x0 x1 => exact runs_keyFromSlot x0 x1 s
  | keyClear x0 => exact runs_keyClear x0 s
  | pwdSet x0 => exact runs_pwdSet x0 s
  | pwdUnblock x0 => exact runs_pwdUnblock x0 s
  | gthNarrowWrite x0 x1 x2 x3 => exact runs_gthNarrowWrite x0 x1 x2 x3 s
  | proxyRead x0 x1 => exact runs_proxyRead x0 x1 s
  | proxyWrite x0 x1 x2 => exact runs_proxyWrite x0 x1 x2 s
  | proxyAccessReceived x0 x1 x2 x3 => exact runs_proxyAccessReceived x0 x1 x2 x3 s
  | proxyAnswerReceived x0 => exact runs_proxyAnswerReceived x0 s h
  | gthLogRead x0 => exact runs_gthLogRead x0 s
  | lockstepError x0 => exact runs_lockstepError x0 s
  | rekey x0 => exact runs_rekey x0 s
  | pcieReset x0 => exact runs_pcieReset x0 s
  | bar2Access x0 x1 x2 => exact runs_bar2Access x0 x1 x2 s
  | hifF2hSetWrite x0 x1 => exact runs_hifF2hSetWrite x0 x1 s
  | hifTransferStart x0 => exact runs_hifTransferStart x0 s
  | hifTransferDone  => exact runs_hifTransferDone  s
  | dmaStart x0 => exact runs_dmaStart x0 s
  | dmaDone  => exact runs_dmaDone  s
  | uartTxWrite x0 x1 => exact runs_uartTxWrite x0 x1 s
  | uartRxRead x0 => exact runs_uartRxRead x0 s
  | uartRxOctet x0 => exact runs_uartRxOctet x0 s
  | msRead x0 x1 => exact runs_msRead x0 x1 s
  | msWrite x0 x1 x2 => exact runs_msWrite x0 x1 x2 s
  | paired x0 x1 x2 x3 => exact runs_paired x0 x1 x2 x3 s
  | rdsr  => exact runs_rdsr  s
  | stage x0 x1 => exact runs_stage x0 x1 s
  | bootdb x0 => exact runs_bootdb x0 s
  | ident  => exact runs_ident  s
  | idcode  => exact runs_idcode  s
  | bypass x0 => exact runs_bypass x0 s
  | unlockChal  => exact runs_unlockChal  s
  | unlockResp x0 => exact runs_unlockResp x0 s h
  | unlockVerifyComplete  => exact runs_unlockVerifyComplete  s
  | unlockSta  => exact runs_unlockSta  s
  | dbgAcc x0 x1 x2 => exact runs_dbgAcc x0 x1 x2 s
  | dbgCore x0 => exact runs_dbgCore x0 s
  | laneNear x0 => exact runs_laneNear x0 s
  | laneFar x0 => exact runs_laneFar x0 s
  | clnNear x0 => exact runs_clnNear x0 s
  | kskLoop x0 => exact runs_kskLoop x0 s
  | refSupply x0 => exact runs_refSupply x0 s
  | refTemp x0 => exact runs_refTemp x0 s
  | refHedge x0 => exact runs_refHedge x0 s
  | lbist x0 => exact runs_lbist x0 s
  | bstTestComplete x0 => exact runs_bstTestComplete x0 s
  | ref10mRecovery  => exact runs_ref10mRecovery  s
  | vbatLoss  => exact runs_vbatLoss  s
  | cdVioOutOfRange  => exact runs_cdVioOutOfRange  s
  | sideRecovery x0 => exact runs_sideRecovery x0 s
  | hedgeConditionAbsent x0 => exact runs_hedgeConditionAbsent x0 s
  | cardTimeout x0 => exact runs_cardTimeout x0 s
  | pcieLinkUp x0 x1 x2 => exact runs_pcieLinkUp x0 x1 x2 s h
  | uartTxOctetSent  => exact runs_uartTxOctetSent  s

theorem wf_true_false {b : Bool} {p : Prop} (h : b = false) (hb : b = true) : p := by rw [h] at hb; cases hb

/-- A command with operands the hardware cannot meet. -/
theorem exec_illFormed (s : State) (c : Instr) (h : c.wf = false) : exec c s = .fault .illFormed := by
  cases c with
  | registerWrite x0 x1 x2 => exact wf_true_false h rfl
  | malformedAccess x0 x1 x2 => exact wf_true_false h rfl
  | blockEnable x0 x1 => exact wf_true_false h rfl
  | blockReset x0 x1 => exact wf_true_false h rfl
  | blockResetComplete x0 => exact wf_true_false h rfl
  | claimWrite x0 x1 x2 => exact wf_true_false h rfl
  | lockWrite x0 x1 => exact wf_true_false h rfl
  | shadowPrimaryWrite x0 x1 x2 x3 => exact wf_true_false h rfl
  | shadowInverseWrite x0 x1 x2 x3 => exact wf_true_false h rfl
  | shadowWindowExpiry x0 => exact wf_true_false h rfl
  | shadowMismatch x0 x1 => exact wf_true_false h rfl
  | prfWrite x0 x1 => exact wf_true_false h rfl
  | powerUp x0 => exact wf_true_false h rfl
  | supplyDip x0 => exact wf_true_false h rfl
  | supplyRecovery x0 => exact wf_true_false h rfl
  | brownOutReset x0 => exact wf_true_false h rfl
  | vddio18Loss  => exact wf_true_false h rfl
  | rstNLow  => exact wf_true_false h rfl
  | rstNRelease  => exact wf_true_false h rfl
  | deviceResetRelease  => exact wf_true_false h rfl
  | bootSequence x0 x1 x2 x3 x4 => exact wf_true_false h rfl
  | bootSourcePoll x0 => exact wf_true_false h rfl
  | bootDoorbell x0 x1 => exact wf_true_false h rfl
  | avsRequest x0 => exact wf_true_false h rfl
  | avsNoAck  => exact wf_true_false h rfl
  | refclkLoss x0 => exact wf_true_false h rfl
  | sysclkLoss  => exact wf_true_false h rfl
  | sysclkRecovery  => exact wf_true_false h rfl
  | ref10mLoss  => exact wf_true_false h rfl
  | tempConversion x0 => exact runIf_false s _ _ h
  | rstReqWrite x0 => exact wf_true_false h rfl
  | zrqWrite x0 => exact wf_true_false h rfl
  | wdgKick x0 => exact wf_true_false h rfl
  | wdgPreTimeout  => exact wf_true_false h rfl
  | watchdogExpiry  => exact wf_true_false h rfl
  | livenessLoss x0 => exact wf_true_false h rfl
  | pkgCmdWrite x0 => exact wf_true_false h rfl
  | pkgAcceptComplete  => exact wf_true_false h rfl
  | ptpMessageReceived x0 x1 x2 => exact wf_true_false h rfl
  | ptpMessageTransmit x0 x1 => exact wf_true_false h rfl
  | ptpSourceTimeout x0 => exact wf_true_false h rfl
  | ppsEdge x0 => exact wf_true_false h rfl
  | irigFrame x0 x1 => exact wf_true_false h rfl
  | ppsLoss x0 => exact wf_true_false h rfl
  | holdExpired  => exact wf_true_false h rfl
  | setCmd x0 => exact wf_true_false h rfl
  | ppsOutRise  => exact wf_true_false h rfl
  | ppsOutFall  => exact wf_true_false h rfl
  | sundialEnable x0 => exact wf_true_false h rfl
  | sundialDisable x0 => exact wf_true_false h rfl
  | refSampleTimeout x0 => exact wf_true_false h rfl
  | slotStart x0 x1 => exact wf_true_false h rfl
  | swapTimer x0 => exact wf_true_false h rfl
  | retireExpiry x0 => exact wf_true_false h rfl
  | slotInputFix  => exact wf_true_false h rfl
  | budgetWindowRestart  => exact wf_true_false h rfl
  | cmpArm x0 x1 x2 => exact wf_true_false h rfl
  | cmpCancel x0 x1 x2 => exact wf_true_false h rfl
  | cmpReconversion x0 => exact wf_true_false h rfl
  | cmpFirstEdge x0 => exact wf_true_false h rfl
  | cmpReturnEdge x0 => exact wf_true_false h rfl
  | timeSLoRead x0 => exact wf_true_false h rfl
  | angleRead x0 => exact wf_true_false h rfl
  | sdlEvtRead x0 => exact wf_true_false h rfl
  | frameReceived x0 x1 x2 => exact wf_true_false h rfl
  | frameTransmit x0 => exact wf_true_false h rfl
  | laneSignalChange x0 x1 x2 x3 x4 x5 x6 x7 => exact wf_true_false h rfl
  | phyStatusChange x0 x1 x2 => exact wf_true_false h rfl
  | gclConfigChange x0 x1 x2 => exact wf_true_false h rfl
  | gateCycleStart x0 => exact wf_true_false h rfl
  | gateEntryExpiry x0 => exact wf_true_false h rfl
  | gclDataAccess x0 x1 x2 => exact wf_true_false h rfl
  | pairEnable x0 x1 x2 => exact wf_true_false h rfl
  | pairDisable x0 x1 x2 => exact wf_true_false h rfl
  | supervisionTx x0 => exact wf_true_false h rfl
  | fdbAgeOut x0 => exact wf_true_false h rfl
  | tblRead x0 x1 x2 => exact wf_true_false h rfl
  | tblWrite x0 x1 x2 => exact wf_true_false h rfl
  | tblDelete x0 x1 x2 => exact wf_true_false h rfl
  | tblSearch x0 x1 x2 => exact wf_true_false h rfl
  | portCfgWrite x0 x1 x2 => exact wf_true_false h rfl
  | follyRunStart x0 x1 x2 => exact wf_true_false h rfl
  | follyRunStop x0 x1 x2 => exact wf_true_false h rfl
  | follyReorderTimeout x0 => exact wf_true_false h rfl
  | follyDelayRelease x0 => exact wf_true_false h rfl
  | frameWalk x0 x1 => exact wf_true_false h rfl
  | tagCheckDone x0 x1 => exact wf_true_false h rfl
  | gooseStale x0 => exact wf_true_false h rfl
  | fmtDataHiWrite x0 x1 => exact wf_true_false h rfl
  | idDataHiWrite x0 x1 => exact wf_true_false h rfl
  | excRead x0 x1 => exact wf_true_false h rfl
  | gooseRetransmit x0 => exact wf_true_false h rfl
  | svFrameBuild x0 => exact wf_true_false h rfl
  | pubFrameHandover x0 => exact wf_true_false h rfl
  | pergolaEnable x0 => exact wf_true_false h rfl
  | enableCheckComplete x0 => exact wf_true_false h rfl
  | pergolaDisable x0 => exact wf_true_false h rfl
  | firstDispatch  => exact wf_true_false h rfl
  | runDispatch  => exact wf_true_false h rfl
  | budgetPreempt  => exact wf_true_false h rfl
  | schDataWrite x0 x1 => exact wf_true_false h rfl
  | ovrLogRead x0 => exact wf_true_false h rfl
  | bundleIssue x0 => exact wf_true_false h rfl
  | resultLand x0 => exact wf_true_false h rfl
  | interruptEntry  => exact wf_true_false h rfl
  | nmiEntry  => exact wf_true_false h rfl
  | controlTransferTaken x0 => exact wf_true_false h rfl
  | aluAdd x0 x1 x2 x3 => exact wf_true_false h rfl
  | aluSub x0 x1 x2 x3 => exact wf_true_false h rfl
  | aluAdds x0 x1 x2 x3 => exact wf_true_false h rfl
  | aluSubs x0 x1 x2 x3 => exact wf_true_false h rfl
  | aluAnd x0 x1 x2 x3 => exact wf_true_false h rfl
  | aluOr x0 x1 x2 x3 => exact wf_true_false h rfl
  | aluXor x0 x1 x2 x3 => exact wf_true_false h rfl
  | aluAndn x0 x1 x2 x3 => exact wf_true_false h rfl
  | aluShl x0 x1 x2 x3 => exact wf_true_false h rfl
  | aluShr x0 x1 x2 x3 => exact wf_true_false h rfl
  | aluSra x0 x1 x2 x3 => exact wf_true_false h rfl
  | aluMin x0 x1 x2 x3 => exact wf_true_false h rfl
  | aluMax x0 x1 x2 x3 => exact wf_true_false h rfl
  | aluMinu x0 x1 x2 x3 => exact wf_true_false h rfl
  | aluMaxu x0 x1 x2 x3 => exact wf_true_false h rfl
  | aluEq x0 x1 x2 x3 => exact wf_true_false h rfl
  | aluNe x0 x1 x2 x3 => exact wf_true_false h rfl
  | aluLt x0 x1 x2 x3 => exact wf_true_false h rfl
  | aluLtu x0 x1 x2 x3 => exact wf_true_false h rfl
  | aluGe x0 x1 x2 x3 => exact wf_true_false h rfl
  | aluGeu x0 x1 x2 x3 => exact wf_true_false h rfl
  | aluAbs x0 x1 x2 x3 => exact wf_true_false h rfl
  | aluPass x0 x1 x2 x3 => exact wf_true_false h rfl
  | macMacq x0 x1 x2 x3 => exact wf_true_false h rfl
  | macMul x0 x1 x2 x3 => exact wf_true_false h rfl
  | macMulh x0 x1 x2 x3 => exact wf_true_false h rfl
  | macMulq x0 x1 x2 x3 => exact wf_true_false h rfl
  | macMac x0 x1 x2 x3 => exact wf_true_false h rfl
  | macClr x0 x1 x2 x3 => exact wf_true_false h rfl
  | macLd x0 x1 x2 x3 => exact wf_true_false h rfl
  | macRdh x0 x1 x2 x3 => exact wf_true_false h rfl
  | fmaFma x0 x1 x2 x3 x4 => exact wf_true_false h rfl
  | fmaFadd x0 x1 x2 x3 x4 => exact wf_true_false h rfl
  | fmaFsub x0 x1 x2 x3 x4 => exact wf_true_false h rfl
  | fmaFmul x0 x1 x2 x3 x4 => exact wf_true_false h rfl
  | fmaFmin x0 x1 x2 x3 x4 => exact wf_true_false h rfl
  | fmaFmax x0 x1 x2 x3 x4 => exact wf_true_false h rfl
  | fmaFabs x0 x1 x2 x3 x4 => exact wf_true_false h rfl
  | fmaItof x0 x1 x2 x3 x4 => exact wf_true_false h rfl
  | fmaQtof x0 x1 x2 x3 x4 => exact wf_true_false h rfl
  | fmaFtoq x0 x1 x2 x3 x4 => exact wf_true_false h rfl
  | fmaFtoi x0 x1 x2 x3 x4 => exact wf_true_false h rfl
  | fmaFlt x0 x1 x2 x3 x4 => exact wf_true_false h rfl
  | fmaFeq x0 x1 x2 x3 x4 => exact wf_true_false h rfl
  | corSincos x0 x1 x2 x3 x4 => exact wf_true_false h rfl
  | corAtan2 x0 x1 x2 x3 x4 => exact wf_true_false h rfl
  | corRot x0 x1 x2 x3 x4 => exact wf_true_false h rfl
  | divDiv x0 x1 x2 x3 => exact wf_true_false h rfl
  | divDivu x0 x1 x2 x3 => exact wf_true_false h rfl
  | divDivq x0 x1 x2 x3 => exact wf_true_false h rfl
  | winLw x0 x1 x2 x3 => exact wf_true_false h rfl
  | winLc x0 x1 x2 x3 => exact wf_true_false h rfl
  | winLt x0 x1 x2 x3 => exact wf_true_false h rfl
  | winLg x0 x1 x2 x3 => exact wf_true_false h rfl
  | winLo x0 x1 x2 x3 => exact wf_true_false h rfl
  | winCrv x0 x1 x2 x3 => exact wf_true_false h rfl
  | winFsm x0 x1 x2 x3 => exact wf_true_false h rfl
  | winSc x0 x1 x2 x3 => exact wf_true_false h rfl
  | winSo x0 x1 x2 x3 => exact wf_true_false h rfl
  | winSs x0 x1 x2 x3 => exact wf_true_false h rfl
  | winSq x0 x1 x2 x3 => exact wf_true_false h rfl
  | winSa x0 x1 x2 x3 => exact wf_true_false h rfl
  | winSe x0 x1 x2 x3 => exact wf_true_false h rfl
  | lsuLw x0 x1 => exact wf_true_false h rfl
  | lsuLh x0 x1 => exact wf_true_false h rfl
  | lsuLhu x0 x1 => exact wf_true_false h rfl
  | lsuLb x0 x1 => exact wf_true_false h rfl
  | lsuLbu x0 x1 => exact wf_true_false h rfl
  | lsuSw x0 x1 x2 => exact wf_true_false h rfl
  | lsuSh x0 x1 x2 => exact wf_true_false h rfl
  | lsuSb x0 x1 x2 => exact wf_true_false h rfl
  | lsuSync  => exact wf_true_false h rfl
  | storeComplete  => exact wf_true_false h rfl
  | ctlJmp x0 x1 => exact wf_true_false h rfl
  | ctlBr x0 x1 => exact wf_true_false h rfl
  | ctlCall x0 x1 => exact wf_true_false h rfl
  | ctlCallr x0 x1 => exact wf_true_false h rfl
  | ctlRet x0 => exact wf_true_false h rfl
  | ctlEnd x0 => exact wf_true_false h rfl
  | ctlBrk x0 => exact wf_true_false h rfl
  | ctlEret x0 => exact wf_true_false h rfl
  | ctlWfi x0 => exact wf_true_false h rfl
  | wfiResume  => exact wf_true_false h rfl
  | stkPush x0 x1 => exact wf_true_false h rfl
  | stkPop x0 => exact wf_true_false h rfl
  | stkPeek x0 x1 => exact wf_true_false h rfl
  | repT x0 x1 => exact wf_true_false h rfl
  | repTn x0 x1 => exact wf_true_false h rfl
  | bndChk x0 x1 x2 x3 => exact wf_true_false h rfl
  | bndChku x0 x1 x2 x3 => exact wf_true_false h rfl
  | bndClp x0 x1 x2 x3 => exact wf_true_false h rfl
  | captureBlockCopy x0 => exact wf_true_false h rfl
  | ctxDataAccess x0 x1 => exact wf_true_false h rfl
  | trapLogRead x0 => exact wf_true_false h rfl
  | evqRead x0 => exact wf_true_false h rfl
  | load x0 x1 x2 => exact wf_true_false h rfl
  | transportLoadComplete  => exact wf_true_false h rfl
  | swapAt x0 x1 => exact wf_true_false h rfl
  | erase x0 x1 x2 x3 => exact wf_true_false h rfl
  | exportBlob x0 x1 x2 => exact wf_true_false h rfl
  | bbrGen x0 => exact wf_true_false h rfl
  | kekDerive x0 => exact wf_true_false h rfl
  | ringHeadWrite x0 x1 x2 => exact wf_true_false h rfl
  | ringDisable x0 x1 x2 => exact wf_true_false h rfl
  | coreTakeDescriptor  => exact wf_true_false h rfl
  | descriptorComplete x0 => exact wf_true_false h rfl
  | hash x0 => exact wf_true_false h rfl
  | p256Verify x0 => exact wf_true_false h rfl
  | p256Sign x0 x1 x2 => exact wf_true_false h rfl
  | p256Ecdh x0 x1 x2 => exact wf_true_false h rfl
  | p256Keygen x0 x1 x2 => exact wf_true_false h rfl
  | attest x0 => exact wf_true_false h rfl
  | modadd x0 x1 x2 => exact wf_true_false h rfl
  | modsub x0 x1 x2 => exact wf_true_false h rfl
  | modmul x0 x1 x2 => exact wf_true_false h rfl
  | modexp x0 x1 x2 => exact wf_true_false h rfl
  | clear x0 => exact wf_true_false h rfl
  | abort x0 => exact wf_true_false h rfl
  | arbTimedPhaseStart  => exact wf_true_false h rfl
  | arbOperationComplete  => exact wf_true_false h rfl
  | arbPreempt  => exact wf_true_false h rfl
  | scrDataAccess x0 x1 => exact wf_true_false h rfl
  | fountainReady  => exact wf_true_false h rfl
  | fountainStartupTimeout  => exact wf_true_false h rfl
  | healthTestFail x0 => exact wf_true_false h rfl
  | ftnRequestServed  => exact wf_true_false h rfl
  | ftnOut0Read x0 => exact wf_true_false h rfl
  | ftnReseed x0 => exact wf_true_false h rfl
  | clnEnable x0 => exact wf_true_false h rfl
  | peerHeartbeatSeen x0 x1 x2 => exact wf_true_false h rfl
  | waitTimeout  => exact wf_true_false h rfl
  | attachRetry  => exact wf_true_false h rfl
  | attachMessageReceived x0 => exact wf_true_false h rfl
  | stateTransferReceived x0 => exact runIf_false s _ _ h
  | digestRecordReceived x0 => exact runIf_false s _ _ h
  | forwardTimeout  => exact wf_true_false h rfl
  | forwardedFrameReceived x0 => exact runIf_false s _ _ h
  | slotRecordReceived x0 x1 x2 x3 x4 => exact runIf_false s _ _ h
  | slotRecordSplit  => exact wf_true_false h rfl
  | sequenceCheckReceived x0 => exact runIf_false s _ _ h
  | timeOffsetAlarm x0 => exact wf_true_false h rfl
  | sideLoss x0 => exact wf_true_false h rfl
  | peerLoss x0 => exact wf_true_false h rfl
  | attach x0 => exact wf_true_false h rfl
  | detach x0 => exact wf_true_false h rfl
  | handRoles x0 => exact wf_true_false h rfl
  | keysync x0 => exact wf_true_false h rfl
  | keyReplicationReceived x0 => exact runIf_false s _ _ h
  | zeroisePropagationReceived  => exact wf_true_false h rfl
  | certAddrWrite x0 x1 => exact wf_true_false h rfl
  | certVerifyComplete  => exact wf_true_false h rfl
  | takeLogRead x0 => exact wf_true_false h rfl
  | nvmErase x0 => exact wf_true_false h rfl
  | nvmProgram x0 => exact wf_true_false h rfl
  | nvmVerify x0 x1 x2 => exact wf_true_false h rfl
  | nvmUnitDone  => exact wf_true_false h rfl
  | nvmRunResume  => exact wf_true_false h rfl
  | patrolScrubRead x0 x1 => exact wf_true_false h rfl
  | reactionStep x0 => exact wf_true_false h rfl
  | fenceCmd x0 => exact wf_true_false h rfl
  | fenceLift x0 => exact wf_true_false h rfl
  | histClr x0 => exact wf_true_false h rfl
  | hist0Read x0 => exact wf_true_false h rfl
  | lightMesh x0 => exact wf_true_false h rfl
  | lightCellRefresh x0 => exact wf_true_false h rfl
  | lightDisagree  => exact wf_true_false h rfl
  | supplyGlitch x0 => exact wf_true_false h rfl
  | clockGlitch  => exact wf_true_false h rfl
  | backupTempSample x0 x1 => exact runIf_false s _ _ h
  | backupAlarm x0 x1 => exact wf_true_false h rfl
  | cardInsertion  => exact wf_true_false h rfl
  | cardRemoval  => exact wf_true_false h rfl
  | cardResponse x0 x1 => exact wf_true_false h rfl
  | cardBusyRelease  => exact wf_true_false h rfl
  | cardBusyTimeout x0 => exact wf_true_false h rfl
  | read x0 x1 => exact wf_true_false h rfl
  | write x0 x1 => exact wf_true_false h rfl
  | sleepClk x0 => exact wf_true_false h rfl
  | sleepOff x0 => exact wf_true_false h rfl
  | wake x0 => exact wf_true_false h rfl
  | discard x0 => exact wf_true_false h rfl
  | fieldAppear x0 => exact wf_true_false h rfl
  | fieldCollapse  => exact wf_true_false h rfl
  | reqa  => exact wf_true_false h rfl
  | wupa  => exact wf_true_false h rfl
  | anticollision x0 x1 x2 => exact runIf_false s _ _ h
  | select x0 x1 x2 => exact runIf_false s _ _ h
  | hlta x0 x1 => exact wf_true_false h rfl
  | invalidTagFrame  => exact wf_true_false h rfl
  | invBegin x0 x1 => exact wf_true_false h rfl
  | invNext x0 => exact wf_true_false h rfl
  | invAck x0 x1 => exact wf_true_false h rfl
  | invTree x0 => exact wf_true_false h rfl
  | readRec x0 x1 x2 x3 => exact wf_true_false h rfl
  | noteStage x0 x1 x2 x3 => exact runIf_false s _ _ h
  | noteCommit x0 x1 x2 x3 => exact wf_true_false h rfl
  | pwdAuth x0 x1 x2 => exact runIf_false s _ _ h
  | pwdHoldoffExpiry  => exact wf_true_false h rfl
  | auth1 x0 x1 x2 => exact wf_true_false h rfl
  | auth2 x0 x1 x2 x3 => exact runIf_false s _ _ h
  | regRd x0 x1 x2 => exact wf_true_false h rfl
  | regWr x0 x1 x2 x3 x4 => exact wf_true_false h rfl
  | kskReadRec x0 x1 => exact wf_true_false h rfl
  | kskWriteRec x0 x1 => exact wf_true_false h rfl
  | keyFromSlot x0 x1 => exact wf_true_false h rfl
  | keyClear x0 => exact wf_true_false h rfl
  | pwdSet x0 => exact wf_true_false h rfl
  | pwdUnblock x0 => exact wf_true_false h rfl
  | gthNarrowWrite x0 x1 x2 x3 => exact wf_true_false h rfl
  | proxyRead x0 x1 => exact wf_true_false h rfl
  | proxyWrite x0 x1 x2 => exact wf_true_false h rfl
  | proxyAccessReceived x0 x1 x2 x3 => exact wf_true_false h rfl
  | proxyAnswerReceived x0 => exact runIf_false s _ _ h
  | gthLogRead x0 => exact wf_true_false h rfl
  | lockstepError x0 => exact wf_true_false h rfl
  | rekey x0 => exact wf_true_false h rfl
  | pcieReset x0 => exact wf_true_false h rfl
  | bar2Access x0 x1 x2 => exact wf_true_false h rfl
  | hifF2hSetWrite x0 x1 => exact wf_true_false h rfl
  | hifTransferStart x0 => exact wf_true_false h rfl
  | hifTransferDone  => exact wf_true_false h rfl
  | dmaStart x0 => exact wf_true_false h rfl
  | dmaDone  => exact wf_true_false h rfl
  | uartTxWrite x0 x1 => exact wf_true_false h rfl
  | uartRxRead x0 => exact wf_true_false h rfl
  | uartRxOctet x0 => exact wf_true_false h rfl
  | msRead x0 x1 => exact wf_true_false h rfl
  | msWrite x0 x1 x2 => exact wf_true_false h rfl
  | paired x0 x1 x2 x3 => exact wf_true_false h rfl
  | rdsr  => exact wf_true_false h rfl
  | stage x0 x1 => exact wf_true_false h rfl
  | bootdb x0 => exact wf_true_false h rfl
  | ident  => exact wf_true_false h rfl
  | idcode  => exact wf_true_false h rfl
  | bypass x0 => exact wf_true_false h rfl
  | unlockChal  => exact wf_true_false h rfl
  | unlockResp x0 => exact runIf_false s _ _ h
  | unlockVerifyComplete  => exact wf_true_false h rfl
  | unlockSta  => exact wf_true_false h rfl
  | dbgAcc x0 x1 x2 => exact wf_true_false h rfl
  | dbgCore x0 => exact wf_true_false h rfl
  | laneNear x0 => exact wf_true_false h rfl
  | laneFar x0 => exact wf_true_false h rfl
  | clnNear x0 => exact wf_true_false h rfl
  | kskLoop x0 => exact wf_true_false h rfl
  | refSupply x0 => exact wf_true_false h rfl
  | refTemp x0 => exact wf_true_false h rfl
  | refHedge x0 => exact wf_true_false h rfl
  | lbist x0 => exact wf_true_false h rfl
  | bstTestComplete x0 => exact wf_true_false h rfl
  | ref10mRecovery  => exact wf_true_false h rfl
  | vbatLoss  => exact wf_true_false h rfl
  | cdVioOutOfRange  => exact wf_true_false h rfl
  | sideRecovery x0 => exact wf_true_false h rfl
  | hedgeConditionAbsent x0 => exact wf_true_false h rfl
  | cardTimeout x0 => exact wf_true_false h rfl
  | pcieLinkUp x0 x1 x2 => exact runIf_false s _ _ h
  | uartTxOctetSent  => exact wf_true_false h rfl

end Sys2Proof.Machine
end

