-- ==== Sys2Proof/Laws/Settle.lean ====
section
/-!
SUPPORT. What every command leaves is settled: the pins and level interrupts follow the registers.
-/
namespace Sys2Proof.Machine

/-- ERR_N follows the registers and the Lodge alone. -/
theorem errLow_congr {a b : State} (h1 : a.regs = b.regs) (h2 : a.ldg = b.ldg) : errLow a = errLow b := by
  have hr : ∀ p o, a.reg p o = b.reg p o := fun p o => by unfold State.reg; rw [h1]
  have hf : ∀ p o hi lo, a.fld p o hi lo = b.fld p o hi lo := fun p o hi lo => by unfold State.fld; rw [hr]
  have hp : pageOutstanding a = pageOutstanding b := by
    funext p c; unfold pageOutstanding; rw [hr, hr]
  have hc : classOutstanding a = classOutstanding b := by
    funext c; unfold classOutstanding; rw [hp, hf, hf]
  have he : errLevel a = errLevel b := by unfold errLevel; rw [hf]
  unfold errLow; rw [hc, he, h2]

/-- The level sources follow the registers, the event ring, the receive FIFO and the log alone. -/
theorem levelIrqs_congr {a b : State} (h1 : ∀ p o, regKey p o ≠ regKey pCcp Reg.Ccp.CCP_IP → a.reg p o = b.reg p o)
    (h2 : a.pav = b.pav) (h3 : a.ccp = b.ccp) (h4 : a.gate = b.gate) : levelIrqs a = levelIrqs b := by
  have e1 : a.reg pPav Reg.Pav.PAV_CFG = b.reg pPav Reg.Pav.PAV_CFG := h1 _ _ (by decide)
  have e2 : a.reg pHif Reg.Hif.HIF_H2F = b.reg pHif Reg.Hif.HIF_H2F := h1 _ _ (by decide)
  have e3 : a.reg pGth Reg.Gth.MS_M2F = b.reg pGth Reg.Gth.MS_M2F := h1 _ _ (by decide)
  unfold levelIrqs State.flag
  rw [e1, e2, e3, h2, h3, h4]

theorem and_or_self (a b : Word) : b &&& (a ||| b) = b := by
  apply BitVec.eq_of_getLsbD_eq
  intro i hi
  simp only [BitVec.getLsbD_and, BitVec.getLsbD_or]
  cases a.getLsbD i <;> cases b.getLsbD i <;> rfl

/-- Whatever its effect, a command leaves the block settled. -/
theorem State.done_settled (s x : State) : (s.done x).settled := by
  refine ⟨errLow_congr rfl rfl, ?_, ?_, ?_⟩
  · have e : (s.done x).reg pGth Reg.Gth.MS_F2M = x.reg pGth Reg.Gth.MS_F2M := State.done_reg_other _ _ _ _ (by decide)
    rw [e]
    show decide ((x.setReg pCcp Reg.Ccp.CCP_IP _).reg pGth Reg.Gth.MS_F2M ≠ 0) = _
    rw [State.reg_setReg, if_neg (by decide)]
  · have e : levelIrqs (s.done x) = levelIrqs x :=
      levelIrqs_congr (fun p o h => State.done_reg_other _ _ _ _ h) rfl rfl rfl
    rw [e, State.done_reg, if_pos rfl]
    exact and_or_self _ _
  · simp

end Sys2Proof.Machine
end

