-- ==== Sys2Proof/Laws/Pages.lean ====
section
/-!
SUPPORT. Pages and their blocks (R534): a block with one page determines it, and the registers that only the access codes rule are
written by them.
-/
namespace Sys2Proof.Machine

/-- The first page of a block. -/
def Blk.base : Blk → Nat
  | .sys => 0 | .ldg => 0x10 | .gth => 0x20 | .ccp => 0x30 | .hif => 0x40 | .nvm => 0x50 | .blv => 0x60
  | .hdg => 0x70 | .sdl => 0x80 | .pgl => 0x90 | .pav => 0xA0 | .ptr0 => 0xB0 | .ptr1 => 0xB1 | .ptr2 => 0xB2 | .ptr3 => 0xB3
  | .org => 0xC0 | .arb => 0xD0 | .ftn => 0xE0 | .cln => 0xF0 | .psh => 0x100 | .ksk => 0x110 | .bst => 0x120 | .prm => 0x200
  | .prc => 0x200 | .fly => 0x240 | .lne => 0x280

theorem ite_some {α : Type} {c : Prop} [Decidable c] {x : α} {y : Option α} {z : α} (h : (if c then some x else y) = some z) :
    (c ∧ x = z) ∨ (¬ c ∧ y = some z) := by
  by_cases hc : c
  · rw [if_pos hc] at h; exact .inl ⟨hc, Option.some.inj h⟩
  · rw [if_neg hc] at h; exact .inr ⟨hc, h⟩

theorem blkOf_cases {p : Nat} {b : Blk} {n : Nat} (h : blkOf p = some (b, n)) :
    (b ≠ .prc ∧ b ≠ .fly ∧ b ≠ .lne → p = Blk.base b) ∧
    (b = .prc → p = 0x200 + n ∧ 1 ≤ n ∧ n ≤ 16) ∧ (b = .fly → p = 0x240 + n ∧ n < 16) ∧ (b = .lne → p = 0x280 + n ∧ n < 64) := by
  unfold blkOf at h
  repeat
    rcases ite_some h with ⟨hp, he⟩ | ⟨_, h⟩
    · injection he with e1 e2; subst e1 e2; refine ⟨?_, ?_, ?_, ?_⟩ <;> simp [Blk.base] <;> omega
  cases h

theorem blkOf_page {p : Nat} {b : Blk} {n : Nat} (h : blkOf p = some (b, n)) (h1 : b ≠ .prc) (h2 : b ≠ .fly) (h3 : b ≠ .lne) :
    p = Blk.base b := (blkOf_cases h).1 ⟨h1, h2, h3⟩

/-- Blocks without per-port registers have no absent ones. -/
theorem absentPort_other {s : State} {b : Blk} {n o : Nat} (h1 : b ≠ .prc) (h2 : b ≠ .fly) : s.absentPort b n o = false := by
  cases b <;> first | rfl | contradiction

/-- A write to a register that only the access codes rule. -/
theorem blockWrite_plain {s : State} {port : Port} {p o : Nat} {v : Word} {b : Blk} {n : Nat}
    (hb : blkOf p = some (b, n)) (h : plainWritten b o = true) :
    s.blockWrite port b n p o v = s.plainWrite p o v := by
  cases b <;> simp only [plainWritten, Bool.and_eq_true, bne_iff_ne, ne_eq, Bool.false_eq_true] at h
  all_goals
    have hp := blkOf_page hb (by decide) (by decide) (by decide)
    simp only [Blk.base] at hp
    subst hp
  all_goals simp only [State.blockWrite, State.writeLodge, State.writeHostSide, State.writeNvm, State.writeBlv, State.writePav,
    State.writeStreams, State.writeFtn, State.writeCardSide, h, if_false]
  · have h' := of_decide_eq_true h.2
    rw [if_neg (by omega)]

theorem plainWritten_single {b : Blk} {o : Nat} (h : plainWritten b o = true) : b ≠ .prc ∧ b ≠ .fly ∧ b ≠ .lne := by
  cases b <;> simp_all [plainWritten]

/-- Registers after a page was cleared but for those kept. -/
theorem State.reg_clearPage (s : State) (p q u : Nat) (keep : Nat → Bool) (hu : u < 0x1000) :
    (s.clearPage p keep).reg q u = if q ≠ p ∨ keep u = true then s.reg q u else regReset q u := by
  have e1 : regKey q u / 0x1000 = q := by unfold regKey; omega
  have e2 : regKey q u % 0x1000 = u := by unfold regKey; omega
  have e3 : regDflt (regKey q u) = regReset q u := by unfold regDflt; rw [e1, e2]
  unfold State.clearPage State.reg
  rw [smGet_smKeep, e1, e2, e3]
  by_cases h : q = p <;> cases hk : keep u <;> simp [h]

/-- A REGISTER_WRITE to a register of a page. -/
theorem exec_regWrite (port : Port) {p o : Nat} (v : Word) (s : State) (hp : p < 0x1000) (ho : o < 0x1000) :
    exec (.registerWrite port (BitVec.ofNat 32 (regAt p o)) v) s = .next (s.done (s.start.portWrite port p o v)) := by
  rw [exec_registerWrite, regAt_lt hp ho]
  rfl

/-- Different registers have different keys. -/
theorem key_ne {q u p o : Nat} (hu : u < 0x1000) (ho : o < 0x1000) (h : ¬ (q = p ∧ u = o)) : regKey q u ≠ regKey p o := by
  intro e; exact h ((regKey_inj hu ho).mp e)

end Sys2Proof.Machine
end

