-- ==== Sys2Proof/Laws/Log.lean ====
section
/-!
SUPPORT. What a Gatehouse log entry changes (R501, R519): the log, FLT_STA of its page, vector 17, and nothing else.
-/
namespace Sys2Proof.Machine

@[simp] theorem State.gthLog_now (s : State) (k : Nat) (port : Option Port) (p o : Nat) : (s.gthLog k port p o).now = s.now := by
  unfold State.gthLog; dsimp only; (repeat' split) <;> rfl
@[simp] theorem State.gthLog_freeCtr (s : State) (k : Nat) (port : Option Port) (p o : Nat) : (s.gthLog k port p o).freeCtr = s.freeCtr := by
  unfold State.gthLog; dsimp only; (repeat' split) <;> rfl
@[simp] theorem State.gthLog_kfd (s : State) (k : Nat) (port : Option Port) (p o : Nat) : (s.gthLog k port p o).kfd = s.kfd := by
  unfold State.gthLog; dsimp only; (repeat' split) <;> rfl
@[simp] theorem State.gthLog_pwr (s : State) (k : Nat) (port : Option Port) (p o : Nat) : (s.gthLog k port p o).pwr = s.pwr := by
  unfold State.gthLog; dsimp only; (repeat' split) <;> rfl
@[simp] theorem State.gthLog_ldg (s : State) (k : Nat) (port : Option Port) (p o : Nat) : (s.gthLog k port p o).ldg = s.ldg := by
  unfold State.gthLog; dsimp only; (repeat' split) <;> rfl
@[simp] theorem State.gthLog_boot (s : State) (k : Nat) (port : Option Port) (p o : Nat) : (s.gthLog k port p o).boot = s.boot := by
  unfold State.gthLog; dsimp only; (repeat' split) <;> rfl
@[simp] theorem State.gthLog_hdg (s : State) (k : Nat) (port : Option Port) (p o : Nat) : (s.gthLog k port p o).hdg = s.hdg := by
  unfold State.gthLog; dsimp only; (repeat' split) <;> rfl
@[simp] theorem State.gthLog_well (s : State) (k : Nat) (port : Option Port) (p o : Nat) : (s.gthLog k port p o).well = s.well := by
  unfold State.gthLog; dsimp only; (repeat' split) <;> rfl
@[simp] theorem State.gthLog_sdl (s : State) (k : Nat) (port : Option Port) (p o : Nat) : (s.gthLog k port p o).sdl = s.sdl := by
  unfold State.gthLog; dsimp only; (repeat' split) <;> rfl
@[simp] theorem State.gthLog_prm (s : State) (k : Nat) (port : Option Port) (p o : Nat) : (s.gthLog k port p o).prm = s.prm := by
  unfold State.gthLog; dsimp only; (repeat' split) <;> rfl
@[simp] theorem State.gthLog_ptr (s : State) (k : Nat) (port : Option Port) (p o : Nat) : (s.gthLog k port p o).ptr = s.ptr := by
  unfold State.gthLog; dsimp only; (repeat' split) <;> rfl
@[simp] theorem State.gthLog_pgl (s : State) (k : Nat) (port : Option Port) (p o : Nat) : (s.gthLog k port p o).pgl = s.pgl := by
  unfold State.gthLog; dsimp only; (repeat' split) <;> rfl
@[simp] theorem State.gthLog_pav (s : State) (k : Nat) (port : Option Port) (p o : Nat) : (s.gthLog k port p o).pav = s.pav := by
  unfold State.gthLog; dsimp only; (repeat' split) <;> rfl
@[simp] theorem State.gthLog_engP (s : State) (k : Nat) (port : Option Port) (p o : Nat) : (s.gthLog k port p o).engP = s.engP := by
  unfold State.gthLog; dsimp only; (repeat' split) <;> rfl
@[simp] theorem State.gthLog_engC (s : State) (k : Nat) (port : Option Port) (p o : Nat) : (s.gthLog k port p o).engC = s.engC := by
  unfold State.gthLog; dsimp only; (repeat' split) <;> rfl
@[simp] theorem State.gthLog_mem (s : State) (k : Nat) (port : Option Port) (p o : Nat) : (s.gthLog k port p o).mem = s.mem := by
  unfold State.gthLog; dsimp only; (repeat' split) <;> rfl
@[simp] theorem State.gthLog_org (s : State) (k : Nat) (port : Option Port) (p o : Nat) : (s.gthLog k port p o).org = s.org := by
  unfold State.gthLog; dsimp only; (repeat' split) <;> rfl
@[simp] theorem State.gthLog_arb (s : State) (k : Nat) (port : Option Port) (p o : Nat) : (s.gthLog k port p o).arb = s.arb := by
  unfold State.gthLog; dsimp only; (repeat' split) <;> rfl
@[simp] theorem State.gthLog_ftn (s : State) (k : Nat) (port : Option Port) (p o : Nat) : (s.gthLog k port p o).ftn = s.ftn := by
  unfold State.gthLog; dsimp only; (repeat' split) <;> rfl
@[simp] theorem State.gthLog_cln (s : State) (k : Nat) (port : Option Port) (p o : Nat) : (s.gthLog k port p o).cln = s.cln := by
  unfold State.gthLog; dsimp only; (repeat' split) <;> rfl
@[simp] theorem State.gthLog_nvm (s : State) (k : Nat) (port : Option Port) (p o : Nat) : (s.gthLog k port p o).nvm = s.nvm := by
  unfold State.gthLog; dsimp only; (repeat' split) <;> rfl
@[simp] theorem State.gthLog_otp (s : State) (k : Nat) (port : Option Port) (p o : Nat) : (s.gthLog k port p o).otp = s.otp := by
  unfold State.gthLog; dsimp only; (repeat' split) <;> rfl
@[simp] theorem State.gthLog_psh (s : State) (k : Nat) (port : Option Port) (p o : Nat) : (s.gthLog k port p o).psh = s.psh := by
  unfold State.gthLog; dsimp only; (repeat' split) <;> rfl
@[simp] theorem State.gthLog_ksk (s : State) (k : Nat) (port : Option Port) (p o : Nat) : (s.gthLog k port p o).ksk = s.ksk := by
  unfold State.gthLog; dsimp only; (repeat' split) <;> rfl
@[simp] theorem State.gthLog_ccp (s : State) (k : Nat) (port : Option Port) (p o : Nat) : (s.gthLog k port p o).ccp = s.ccp := by
  unfold State.gthLog; dsimp only; (repeat' split) <;> rfl
@[simp] theorem State.gthLog_hif (s : State) (k : Nat) (port : Option Port) (p o : Nat) : (s.gthLog k port p o).hif = s.hif := by
  unfold State.gthLog; dsimp only; (repeat' split) <;> rfl
@[simp] theorem State.gthLog_dbg (s : State) (k : Nat) (port : Option Port) (p o : Nat) : (s.gthLog k port p o).dbg = s.dbg := by
  unfold State.gthLog; dsimp only; (repeat' split) <;> rfl
@[simp] theorem State.gthLog_bst (s : State) (k : Nat) (port : Option Port) (p o : Nat) : (s.gthLog k port p o).bst = s.bst := by
  unfold State.gthLog; dsimp only; (repeat' split) <;> rfl
@[simp] theorem State.gthLog_pending (s : State) (k : Nat) (port : Option Port) (p o : Nat) : (s.gthLog k port p o).pending = s.pending := by
  unfold State.gthLog; dsimp only; (repeat' split) <;> rfl
@[simp] theorem State.gthLog_errN (s : State) (k : Nat) (port : Option Port) (p o : Nat) : (s.gthLog k port p o).errN = s.errN := by
  unfold State.gthLog; dsimp only; (repeat' split) <;> rfl
@[simp] theorem State.gthLog_msIrqN (s : State) (k : Nat) (port : Option Port) (p o : Nat) : (s.gthLog k port p o).msIrqN = s.msIrqN := by
  unfold State.gthLog; dsimp only; (repeat' split) <;> rfl
@[simp] theorem State.gthLog_pairs (s : State) (k : Nat) (port : Option Port) (p o : Nat) : (s.gthLog k port p o).gate.pairs = s.gate.pairs := by
  unfold State.gthLog; dsimp only; (repeat' split) <;> rfl
@[simp] theorem State.gthLog_held (s : State) (k : Nat) (port : Option Port) (p o : Nat) : (s.gthLog k port p o).gate.held = s.gate.held := by
  unfold State.gthLog; dsimp only; (repeat' split) <;> rfl
@[simp] theorem State.gthLog_proxy (s : State) (k : Nat) (port : Option Port) (p o : Nat) : (s.gthLog k port p o).gate.proxy = s.gate.proxy := by
  unfold State.gthLog; dsimp only; (repeat' split) <;> rfl
@[simp] theorem State.gthLog_cur (s : State) (k : Nat) (port : Option Port) (p o : Nat) : (s.gthLog k port p o).gate.cur = s.gate.cur := by
  unfold State.gthLog; dsimp only; (repeat' split) <;> rfl
@[simp] theorem State.gthLog_bootDone (s : State) (k : Nat) (port : Option Port) (p o : Nat) : (s.gthLog k port p o).gate.bootDone = s.gate.bootDone := by
  unfold State.gthLog; dsimp only; (repeat' split) <;> rfl
@[simp] theorem State.gthLog_kept (s : State) (k : Nat) (port : Option Port) (p o : Nat) : (s.gthLog k port p o).gate.kept = s.gate.kept := by
  unfold State.gthLog; dsimp only; (repeat' split) <;> rfl

@[simp] theorem State.gthLog_acc (s : State) (k : Nat) (port : Option Port) (p o : Nat) :
    (s.gthLog k port p o).gate.acc = s.gate.acc ++ [k] := by
  unfold State.gthLog; dsimp only; (repeat' split) <;> rfl

@[simp] theorem State.gthLog_out (s : State) (k : Nat) (port : Option Port) (p o : Nat) :
    (s.gthLog k port p o).out = s.out ++ [.msix 17] := by
  unfold State.gthLog; dsimp only; (repeat' split) <;> rfl

/-- The log after an entry. -/
@[simp] theorem State.gthLog_log (s : State) (k : Nat) (port : Option Port) (p o : Nat) :
    (s.gthLog k port p o).gate.log = (if 32 ≤ s.gate.log.length then s.gate.log.drop 1 else s.gate.log) ++
      [⟨k, decide (32 ≤ s.gate.log.length), portCode port, p, o / 4 % 1024⟩] := by
  unfold State.gthLog; dsimp only
  simp only [decide_eq_true_eq]
  (repeat' split) <;> rfl

/-- The state before an entry's emission with its FLT_STA bits: the registers it leaves. -/
theorem State.gthLog_reg (s : State) (k : Nat) (port : Option Port) (p o q u : Nat) (h : regKey q u ≠ regKey pGth Reg.Hdr.FLT_STA) :
    (s.gthLog k port p o).reg q u = s.reg q u := by
  unfold State.gthLog; dsimp only
  simp only [State.emit_reg]
  (repeat' split) <;>
    first
      | rfl
      | (simp [State.fault, State.faultItem, State.faultWith, State.reg_setFlag, h]; done)
      | (simp [State.fault, State.faultItem, State.faultWith, State.reg_setFlag, h]; rfl)

/-- A logged kind sets its FLT_STA bit. -/
theorem State.gthLog_flag (s : State) (k : Nat) (port : Option Port) (p o : Nat) (h : k ≤ 4) :
    (s.gthLog k port p o).flag pGth Reg.Hdr.FLT_STA (k - 1) = true := by
  unfold State.gthLog; dsimp only
  simp only [State.flag, State.emit_reg, h, if_true]
  have h' : k - 1 < 32 := by omega
  split
  · simp only [State.fault, State.faultItem, State.faultWith, State.report_reg]
    rw [← State.flag_def, State.flag_setFlag _ _ _ _ _ _ _ _ (by decide)]
    split
    · rfl
    · rw [State.flag_def, State.report_reg, ← State.flag_def, State.flag_setFlag_same _ _ _ _ _ h']
  · rw [← State.flag_def]; exact State.fault_flag _ _ _ h'

/-- Registers after a report. -/
theorem State.fault_reg (s : State) (p n q u : Nat) (h : regKey q u ≠ regKey p Reg.Hdr.FLT_STA) :
    (s.fault p n).reg q u = s.reg q u := by
  simp [State.fault, State.faultItem, State.faultWith, State.reg_setFlag, h]

end Sys2Proof.Machine
end

