-- ==== Sys2Proof/Laws/Shadow.lean ====
section
/-!
SUPPORT. A write that arrives at its page, and shadow events (R18, R19, R449, R457).
-/
namespace Sys2Proof.Machine

/-- A write of a port whose authority the page admits arrives, unless it waits behind a pair. -/
theorem portWrite_deliver {s : State} {port : Port} {p o : Nat} {v : Word} {b : Blk} {n : Nat} {x : State}
    (hup : s.fabricUp = true) (hm : (s.masks (indexOf p)).writes port = true) (hb : blkOf p = some (b, n))
    (hf : ¬ (b = .fly ∧ port ≠ .host ∧ port ≠ .maint)) (ho : o < 0x1000) (h4 : o % 4 = 0) (hwt : s.heard.waits port p o = false)
    (hx : s.heard.deliver port b n p o v = x) (hh : x.gate.held = []) (hq : x.gate.proxy = none) :
    s.start.portWrite port p o v = x := by
  subst hx
  unfold State.portWrite State.busWrite
  simp only [regAt_regAddr (blkOf_lt hb) ho h4, regAt_pageNo ho, regAt_pageOfs ho]
  have e : ({ s.start with gate.acc := [] } : State) = s.heard := rfl
  have hup' : s.heard.fabricUp = true := hup
  have hm' : (s.heard.masks (indexOf p)).writes port = true := hm
  rw [e]
  simp only [hup', Bool.not_true, Bool.false_eq_true, if_false]
  have e2 : s.heard.writeAt port p o v = s.heard.deliver port b n p o v := by
    unfold State.writeAt
    simp only [hb]
    rw [if_neg hf]
    simp only [hm', Bool.not_true, Bool.false_eq_true, if_false]
    unfold State.passOn
    rw [hwt]
    simp only [Bool.false_eq_true, if_false]
  rw [e2, State.released_nil hh, State.proxyNet_none hq]

/-- What the fuses force follows the OTP row alone. -/
theorem hdgForced_congr {a b : State} (h : a.otp = b.otp) (i : Nat) : a.hdgForced i = b.hdgForced i := by
  unfold State.hdgForced State.hdgOff State.hdgForce State.hdgDisable State.otpMajority State.otpRaw
  rw [h]

/-- A raise whose zeroise is not forced leaves registers but for FLT_STA of HDG and CCP_IP. -/
theorem hdgRaise_facts (s : State) (i : Nat) (h : s.hdgForced i = false) :
    (s.hdgRaise i).gate = s.gate ∧ (s.hdgRaise i).hdg = s.hdg ∧ (s.hdgRaise i).mem = s.mem ∧
    (∀ q u, u < 0x1000 → ¬ (q = pHdg ∧ u = Reg.Hdr.FLT_STA) → ¬ (q = pCcp ∧ u = Reg.Ccp.CCP_IP) → (s.hdgRaise i).reg q u = s.reg q u) := by
  unfold State.hdgRaise
  simp only [h, Bool.false_eq_true, if_false]
  split
  · refine ⟨rfl, rfl, rfl, fun q u hu h1 h2 => ?_⟩
    unfold State.irq State.faultWith
    dsimp only
    rw [State.emit_reg, State.reg_setFlag, if_neg (key_ne hu (by decide) h2), State.report_reg, State.reg_setFlag,
      if_neg (key_ne hu (by decide) h1)]
  · refine ⟨rfl, rfl, rfl, fun q u hu h1 h2 => ?_⟩
    unfold State.faultWith
    dsimp only
    rw [State.report_reg, State.reg_setFlag, if_neg (key_ne hu (by decide) h1)]

/-- A shadow event where source 7's zeroise is not forced by fuse. -/
theorem shadowEvent_facts (s : State) (page off case : Nat) (h : s.hdgForced 7 = false) :
    (s.shadowEvent page off case).gate.pairs = s.gate.pairs ∧ (s.shadowEvent page off case).gate.held = s.gate.held ∧
    (s.shadowEvent page off case).gate.proxy = s.gate.proxy ∧ (s.shadowEvent page off case).hdg = s.hdg ∧
    (∀ q u, u < 0x1000 → q ≠ pHdg → q ≠ pCcp → (s.shadowEvent page off case).reg q u = s.reg q u) ∧
    (s.shadowEvent page off case).reg pHdg Reg.Hdg.SHD_LOG =
      BitVec.ofNat 32 (page % 4096 + off / 4 % 2048 * 2 ^ 12 + case % 8 * 2 ^ 24) ∧
    (s.shadowEvent page off case).fld pHdg Reg.Hdg.SHD_CNT 15 0 = min (s.fld pHdg Reg.Hdg.SHD_CNT 15 0 + 1) 65535 := by
  have h0 : ∃ s1 : State, (s1.otp = s.otp ∧ s1.gate.pairs = s.gate.pairs ∧ s1.gate.held = s.gate.held ∧ s1.gate.proxy = s.gate.proxy ∧ s1.hdg = s.hdg ∧ s1.regs = s.regs) ∧
    s.shadowEvent page off case = 
      (let s2 := (s1.setReg pHdg Reg.Hdg.SHD_LOG (BitVec.ofNat 32 (page % 4096 + off / 4 % 2048 * 2 ^ 12 + case % 8 * 2 ^ 24))).countFld pHdg Reg.Hdg.SHD_CNT 15 0 1
       if s2.hdgOff 7 || !s2.hdgEnabled 7 || s2.hdgSuppressed 7 then s2 else s2.hdgRaise 7) := by
    refine ⟨if case = 1 ∨ case = 3 ∨ case = 4 then s.accMark accPair else s, ?_, rfl⟩
    split <;> exact ⟨rfl, rfl, rfl, rfl, rfl, rfl⟩
  obtain ⟨s1, ⟨k0, k1, k2, k3, k4, k5⟩, e⟩ := h0
  rw [e]
  dsimp only
  generalize hs2 : (s1.setReg pHdg Reg.Hdg.SHD_LOG (BitVec.ofNat 32 (page % 4096 + off / 4 % 2048 * 2 ^ 12 + case % 8 * 2 ^ 24))).countFld pHdg Reg.Hdg.SHD_CNT 15 0 1 = s2
  have hr : ∀ q u, s1.reg q u = s.reg q u := fun q u => by unfold State.reg; rw [k5]
  have g1 : s2.gate = s1.gate := by subst hs2; rw [State.countFld_gate, State.setReg_gate]
  have g2 : s2.hdg = s1.hdg := by subst hs2; rw [State.countFld_hdg, State.setReg_hdg]
  have g3 : ∀ q u, u < 0x1000 → q ≠ pHdg → s2.reg q u = s.reg q u := by
    intro q u hu hq; subst hs2
    unfold State.countFld
    rw [State.reg_setFld, if_neg (key_ne hu (by decide) (fun h => hq h.1)), State.reg_setReg, if_neg (key_ne hu (by decide) (fun h => hq h.1)), hr]
  have g4 : s2.reg pHdg Reg.Hdg.SHD_LOG = BitVec.ofNat 32 (page % 4096 + off / 4 % 2048 * 2 ^ 12 + case % 8 * 2 ^ 24) := by
    subst hs2
    unfold State.countFld
    rw [State.reg_setFld, if_neg (key_ne (by decide) (by decide) (by decide)), State.reg_setReg_same]
  have g5 : s2.fld pHdg Reg.Hdg.SHD_CNT 15 0 = min (s.fld pHdg Reg.Hdg.SHD_CNT 15 0 + 1) 65535 := by
    subst hs2
    unfold State.countFld State.fld
    rw [State.reg_setFld_same, bits_putBits _ _ _ _ (by decide) (by decide)]
    rw [State.reg_setReg, if_neg (key_ne (by decide) (by decide) (by decide)), hr]
    unfold satAdd
    simp only [Nat.reduceAdd, Nat.reduceSub, Nat.reducePow]
    omega
  have g6 : s2.hdgForced 7 = false := by
    subst hs2; rw [hdgForced_congr (b := s) (by rw [State.countFld_otp, State.setReg_otp, k0])]; exact h
  have h7 := hdgRaise_facts s2 7 g6
  split
  · exact ⟨by rw [g1, k1], by rw [g1, k2], by rw [g1, k3], by rw [g2, k4], fun q u hu h1 _ => g3 q u hu h1, g4, g5⟩
  · refine ⟨by rw [h7.1, g1, k1], by rw [h7.1, g1, k2], by rw [h7.1, g1, k3], by rw [h7.2.1, g2, k4], fun q u hu h1 h2 => ?_, ?_, ?_⟩
    · rw [h7.2.2.2 q u hu (fun h => h1 h.1) (fun h => h2 h.1), g3 q u hu h1]
    · rw [h7.2.2.2 _ _ (by decide) (by decide) (by decide), g4]
    · unfold State.fld
      rw [h7.2.2.2 _ _ (by decide) (by decide) (by decide)]; exact g5

/-- Where a write goes that arrives at a page in service. -/
theorem deliver_eq {s : State} {port : Port} {p o : Nat} {v : Word} {b : Blk} {n : Nat}
    (h1 : s.flag p Reg.Hdr.STA 2 = false) (h2 : s.bst = none) (h3 : p = pPgl → s.flag pPgl Reg.Hdr.STA 8 = false) :
    s.deliver port b n p o v = match shadowOf p o with
      | some q => s.pairSecond port b p q v
      | none =>
        if o < 0x040 then s.hdrWrite port b p o v
        else match specOf p o with
          | none => s.accMark accLost
          | some r =>
            if s.absentPort b n o then s.accMark accLost
            else if State.ruledOut b port o then s.authRefusal port p o
            else if r.shadowed then s.pairFirst port p o v
            else s.blockWrite port b n p o v := by
  unfold State.deliver
  have hb : s.bstBlocks p o v = false := by unfold State.bstBlocks; rw [h2]
  rw [if_neg (by rw [h1]; simp), hb, if_neg (by decide), if_neg (by rintro ⟨a, c⟩; rw [h3 a] at c; cases c)]
  all_goals
    cases shadowOf p o with
    | some q => rfl
    | none => cases specOf p o <;> rfl

end Sys2Proof.Machine
end

