-- ==== Sys2Proof/Laws/Reset.lean ====
section
/-!
SUPPORT. What the reset of the main domain reaches (R61, R63): registers by `keptByReset`, every block, every SRAM.
-/
namespace Sys2Proof.Machine

theorem State.nvmCut_idle (s : State) (h : s.nvm.run = none) : s.nvmCut = s := by
  unfold State.nvmCut; rw [h]

/-- Registers after the main domain's reset, with no MRAM operation in progress. -/
theorem State.mainReset_reg (s : State) (h : s.nvm.run = none) (p o : Nat) (ho : o < 0x1000) :
    s.mainReset.reg p o = if keptByReset (regKey p o) = true then s.reg p o else regReset p o := by
  have e1 : regKey p o / 0x1000 = p := by unfold regKey; omega
  have e2 : regKey p o % 0x1000 = o := by unfold regKey; omega
  have e3 : regDflt (regKey p o) = regReset p o := by unfold regDflt; rw [e1, e2]
  unfold State.mainReset
  rw [State.nvmCut_idle _ h]
  unfold State.reg
  show smGet regDflt (smKeep s.regs keptByReset) (regKey p o) = _
  rw [smGet_smKeep, e3]

/-- The main domain's reset, with no MRAM operation in progress, reaches what R61 says. -/
theorem mainReset_reach {s s0 t0 : State} (h : s.nvm.run = none)
    (hr : ∀ p o : Nat, p < 0x1000 → o < 0x1000 → keptByReset (regKey p o) = true → ¬ (p = pLdg ∧ o = Reg.Ldg.RST_CAUSE) →
      ¬ (p = pSys ∧ o = Reg.Sys.PWR_STA) → s.reg p o = s0.reg p o)
    (hm : s.mem.mram = s0.mem.mram) (ho : s.otp = s0.otp) (hw : s.well = s0.well) (hh : s.blv.hist = s0.blv.hist) :
    ResetReach s0 (t0.done s.mainReset) := by
  refine ⟨?_, ?_, rfl, rfl, rfl, rfl, rfl, rfl, rfl, rfl, rfl, rfl, rfl, rfl, rfl, rfl, rfl, rfl, rfl, rfl, ?_, ?_, ?_, ?_⟩
  · intro p o hp ho' hk hne
    rw [State.done_reg_other _ _ _ _ (key_ne ho' (by decide) hne), State.mainReset_reg s h p o ho', if_neg (by rw [hk]; decide)]
  · intro p o hp ho' hk h1 h2
    by_cases hne : p = pCcp ∧ o = Reg.Ccp.CCP_IP
    · rw [hne.1, hne.2] at hk; exact absurd hk (by decide)
    · rw [State.done_reg_other _ _ _ _ (key_ne ho' (by decide) hne), State.mainReset_reg s h p o ho', if_pos hk]
      exact hr p o hp ho' hk h1 h2
  · unfold State.mainReset; rw [State.nvmCut_idle _ h]; exact hm
  · unfold State.mainReset; rw [State.nvmCut_idle _ h]; exact ho
  · unfold State.mainReset; rw [State.nvmCut_idle _ h]; exact hw
  · unfold State.mainReset; rw [State.nvmCut_idle _ h]; exact hh

/-- A device reset of a running device records its cause and resets the main domain. -/
theorem deviceReset_running (s : State) (h : s.ldg.phase = .running) (n : Nat) : s.deviceReset n = (s.cause n).mainReset := by
  unfold State.deviceReset
  show (match (s.cause n).ldg.phase with | .held => _ | .running => _) = _
  rw [show (s.cause n).ldg.phase = .running from h]

theorem cause_reg (s : State) (n p o : Nat) (ho : o < 0x1000) (h : ¬ (p = pLdg ∧ o = Reg.Ldg.RST_CAUSE)) :
    (s.cause n).reg p o = s.reg p o := by
  unfold State.cause; rw [State.reg_setFlag, if_neg (key_ne ho (by decide) h)]

/-- The cause of a reset stands after it. -/
theorem mainReset_cause (s : State) (h : s.nvm.run = none) (n : Nat) (hn : n < 32) :
    (s.cause n).mainReset.flag pLdg Reg.Ldg.RST_CAUSE n = true := by
  unfold State.flag
  rw [State.mainReset_reg (s.cause n) h _ _ (by decide), if_pos (by decide)]
  unfold State.cause
  rw [← State.flag_def, State.flag_setFlag_same _ _ _ _ _ hn]

end Sys2Proof.Machine
end

