-- ==== Sys2Proof/Laws/Frames.lean ====
section
/-!
SUPPORT. Frames of operations that several commands share: each leaves every field but the few it is about.
-/
namespace Sys2Proof.Machine

@[simp] theorem State.angleAdvance_regs (s : State) (t : Nat) : (s.angleAdvance t).regs = s.regs := by unfold State.angleAdvance; dsimp only; split <;> rfl
@[simp] theorem State.angleAdvance_now (s : State) (t : Nat) : (s.angleAdvance t).now = s.now := by unfold State.angleAdvance; dsimp only; split <;> rfl
@[simp] theorem State.angleAdvance_freeCtr (s : State) (t : Nat) : (s.angleAdvance t).freeCtr = s.freeCtr := by unfold State.angleAdvance; dsimp only; split <;> rfl
@[simp] theorem State.angleAdvance_out (s : State) (t : Nat) : (s.angleAdvance t).out = s.out := by unfold State.angleAdvance; dsimp only; split <;> rfl
@[simp] theorem State.angleAdvance_errN (s : State) (t : Nat) : (s.angleAdvance t).errN = s.errN := by unfold State.angleAdvance; dsimp only; split <;> rfl
@[simp] theorem State.angleAdvance_msIrqN (s : State) (t : Nat) : (s.angleAdvance t).msIrqN = s.msIrqN := by unfold State.angleAdvance; dsimp only; split <;> rfl
@[simp] theorem State.angleAdvance_kfd (s : State) (t : Nat) : (s.angleAdvance t).kfd = s.kfd := by unfold State.angleAdvance; dsimp only; split <;> rfl
@[simp] theorem State.angleAdvance_pwr (s : State) (t : Nat) : (s.angleAdvance t).pwr = s.pwr := by unfold State.angleAdvance; dsimp only; split <;> rfl
@[simp] theorem State.angleAdvance_ldg (s : State) (t : Nat) : (s.angleAdvance t).ldg = s.ldg := by unfold State.angleAdvance; dsimp only; split <;> rfl
@[simp] theorem State.angleAdvance_boot (s : State) (t : Nat) : (s.angleAdvance t).boot = s.boot := by unfold State.angleAdvance; dsimp only; split <;> rfl
@[simp] theorem State.angleAdvance_gate (s : State) (t : Nat) : (s.angleAdvance t).gate = s.gate := by unfold State.angleAdvance; dsimp only; split <;> rfl
@[simp] theorem State.angleAdvance_blv (s : State) (t : Nat) : (s.angleAdvance t).blv = s.blv := by unfold State.angleAdvance; dsimp only; split <;> rfl
@[simp] theorem State.angleAdvance_hdg (s : State) (t : Nat) : (s.angleAdvance t).hdg = s.hdg := by unfold State.angleAdvance; dsimp only; split <;> rfl
@[simp] theorem State.angleAdvance_well (s : State) (t : Nat) : (s.angleAdvance t).well = s.well := by unfold State.angleAdvance; dsimp only; split <;> rfl
@[simp] theorem State.angleAdvance_prm (s : State) (t : Nat) : (s.angleAdvance t).prm = s.prm := by unfold State.angleAdvance; dsimp only; split <;> rfl
@[simp] theorem State.angleAdvance_ptr (s : State) (t : Nat) : (s.angleAdvance t).ptr = s.ptr := by unfold State.angleAdvance; dsimp only; split <;> rfl
@[simp] theorem State.angleAdvance_pgl (s : State) (t : Nat) : (s.angleAdvance t).pgl = s.pgl := by unfold State.angleAdvance; dsimp only; split <;> rfl
@[simp] theorem State.angleAdvance_pav (s : State) (t : Nat) : (s.angleAdvance t).pav = s.pav := by unfold State.angleAdvance; dsimp only; split <;> rfl
@[simp] theorem State.angleAdvance_engP (s : State) (t : Nat) : (s.angleAdvance t).engP = s.engP := by unfold State.angleAdvance; dsimp only; split <;> rfl
@[simp] theorem State.angleAdvance_engC (s : State) (t : Nat) : (s.angleAdvance t).engC = s.engC := by unfold State.angleAdvance; dsimp only; split <;> rfl
@[simp] theorem State.angleAdvance_mem (s : State) (t : Nat) : (s.angleAdvance t).mem = s.mem := by unfold State.angleAdvance; dsimp only; split <;> rfl
@[simp] theorem State.angleAdvance_org (s : State) (t : Nat) : (s.angleAdvance t).org = s.org := by unfold State.angleAdvance; dsimp only; split <;> rfl
@[simp] theorem State.angleAdvance_arb (s : State) (t : Nat) : (s.angleAdvance t).arb = s.arb := by unfold State.angleAdvance; dsimp only; split <;> rfl
@[simp] theorem State.angleAdvance_ftn (s : State) (t : Nat) : (s.angleAdvance t).ftn = s.ftn := by unfold State.angleAdvance; dsimp only; split <;> rfl
@[simp] theorem State.angleAdvance_cln (s : State) (t : Nat) : (s.angleAdvance t).cln = s.cln := by unfold State.angleAdvance; dsimp only; split <;> rfl
@[simp] theorem State.angleAdvance_nvm (s : State) (t : Nat) : (s.angleAdvance t).nvm = s.nvm := by unfold State.angleAdvance; dsimp only; split <;> rfl
@[simp] theorem State.angleAdvance_otp (s : State) (t : Nat) : (s.angleAdvance t).otp = s.otp := by unfold State.angleAdvance; dsimp only; split <;> rfl
@[simp] theorem State.angleAdvance_psh (s : State) (t : Nat) : (s.angleAdvance t).psh = s.psh := by unfold State.angleAdvance; dsimp only; split <;> rfl
@[simp] theorem State.angleAdvance_ksk (s : State) (t : Nat) : (s.angleAdvance t).ksk = s.ksk := by unfold State.angleAdvance; dsimp only; split <;> rfl
@[simp] theorem State.angleAdvance_ccp (s : State) (t : Nat) : (s.angleAdvance t).ccp = s.ccp := by unfold State.angleAdvance; dsimp only; split <;> rfl
@[simp] theorem State.angleAdvance_hif (s : State) (t : Nat) : (s.angleAdvance t).hif = s.hif := by unfold State.angleAdvance; dsimp only; split <;> rfl
@[simp] theorem State.angleAdvance_dbg (s : State) (t : Nat) : (s.angleAdvance t).dbg = s.dbg := by unfold State.angleAdvance; dsimp only; split <;> rfl
@[simp] theorem State.angleAdvance_bst (s : State) (t : Nat) : (s.angleAdvance t).bst = s.bst := by unfold State.angleAdvance; dsimp only; split <;> rfl
@[simp] theorem State.angleAdvance_pending (s : State) (t : Nat) : (s.angleAdvance t).pending = s.pending := by unfold State.angleAdvance; dsimp only; split <;> rfl
@[simp] theorem State.angleAdvance_reg (s : State) (t : Nat) (p o : Nat) : (s.angleAdvance t).reg p o = s.reg p o := by
  unfold State.reg; rw [State.angleAdvance_regs]

@[simp] theorem State.tick_regs (s : State) (dt : Nat) : (s.tick dt).regs = s.regs := by unfold State.tick; exact State.angleAdvance_regs _ _
@[simp] theorem State.tick_freeCtr (s : State) (dt : Nat) : (s.tick dt).freeCtr = s.freeCtr := by unfold State.tick; exact State.angleAdvance_freeCtr _ _
@[simp] theorem State.tick_out (s : State) (dt : Nat) : (s.tick dt).out = s.out := by unfold State.tick; exact State.angleAdvance_out _ _
@[simp] theorem State.tick_errN (s : State) (dt : Nat) : (s.tick dt).errN = s.errN := by unfold State.tick; exact State.angleAdvance_errN _ _
@[simp] theorem State.tick_msIrqN (s : State) (dt : Nat) : (s.tick dt).msIrqN = s.msIrqN := by unfold State.tick; exact State.angleAdvance_msIrqN _ _
@[simp] theorem State.tick_kfd (s : State) (dt : Nat) : (s.tick dt).kfd = s.kfd := by unfold State.tick; exact State.angleAdvance_kfd _ _
@[simp] theorem State.tick_pwr (s : State) (dt : Nat) : (s.tick dt).pwr = s.pwr := by unfold State.tick; exact State.angleAdvance_pwr _ _
@[simp] theorem State.tick_ldg (s : State) (dt : Nat) : (s.tick dt).ldg = s.ldg := by unfold State.tick; exact State.angleAdvance_ldg _ _
@[simp] theorem State.tick_boot (s : State) (dt : Nat) : (s.tick dt).boot = s.boot := by unfold State.tick; exact State.angleAdvance_boot _ _
@[simp] theorem State.tick_gate (s : State) (dt : Nat) : (s.tick dt).gate = s.gate := by unfold State.tick; exact State.angleAdvance_gate _ _
@[simp] theorem State.tick_blv (s : State) (dt : Nat) : (s.tick dt).blv = s.blv := by unfold State.tick; exact State.angleAdvance_blv _ _
@[simp] theorem State.tick_hdg (s : State) (dt : Nat) : (s.tick dt).hdg = s.hdg := by unfold State.tick; exact State.angleAdvance_hdg _ _
@[simp] theorem State.tick_well (s : State) (dt : Nat) : (s.tick dt).well = s.well := by unfold State.tick; exact State.angleAdvance_well _ _
@[simp] theorem State.tick_prm (s : State) (dt : Nat) : (s.tick dt).prm = s.prm := by unfold State.tick; exact State.angleAdvance_prm _ _
@[simp] theorem State.tick_ptr (s : State) (dt : Nat) : (s.tick dt).ptr = s.ptr := by unfold State.tick; exact State.angleAdvance_ptr _ _
@[simp] theorem State.tick_pgl (s : State) (dt : Nat) : (s.tick dt).pgl = s.pgl := by unfold State.tick; exact State.angleAdvance_pgl _ _
@[simp] theorem State.tick_pav (s : State) (dt : Nat) : (s.tick dt).pav = s.pav := by unfold State.tick; exact State.angleAdvance_pav _ _
@[simp] theorem State.tick_engP (s : State) (dt : Nat) : (s.tick dt).engP = s.engP := by unfold State.tick; exact State.angleAdvance_engP _ _
@[simp] theorem State.tick_engC (s : State) (dt : Nat) : (s.tick dt).engC = s.engC := by unfold State.tick; exact State.angleAdvance_engC _ _
@[simp] theorem State.tick_mem (s : State) (dt : Nat) : (s.tick dt).mem = s.mem := by unfold State.tick; exact State.angleAdvance_mem _ _
@[simp] theorem State.tick_org (s : State) (dt : Nat) : (s.tick dt).org = s.org := by unfold State.tick; exact State.angleAdvance_org _ _
@[simp] theorem State.tick_arb (s : State) (dt : Nat) : (s.tick dt).arb = s.arb := by unfold State.tick; exact State.angleAdvance_arb _ _
@[simp] theorem State.tick_ftn (s : State) (dt : Nat) : (s.tick dt).ftn = s.ftn := by unfold State.tick; exact State.angleAdvance_ftn _ _
@[simp] theorem State.tick_cln (s : State) (dt : Nat) : (s.tick dt).cln = s.cln := by unfold State.tick; exact State.angleAdvance_cln _ _
@[simp] theorem State.tick_nvm (s : State) (dt : Nat) : (s.tick dt).nvm = s.nvm := by unfold State.tick; exact State.angleAdvance_nvm _ _
@[simp] theorem State.tick_otp (s : State) (dt : Nat) : (s.tick dt).otp = s.otp := by unfold State.tick; exact State.angleAdvance_otp _ _
@[simp] theorem State.tick_psh (s : State) (dt : Nat) : (s.tick dt).psh = s.psh := by unfold State.tick; exact State.angleAdvance_psh _ _
@[simp] theorem State.tick_ksk (s : State) (dt : Nat) : (s.tick dt).ksk = s.ksk := by unfold State.tick; exact State.angleAdvance_ksk _ _
@[simp] theorem State.tick_ccp (s : State) (dt : Nat) : (s.tick dt).ccp = s.ccp := by unfold State.tick; exact State.angleAdvance_ccp _ _
@[simp] theorem State.tick_hif (s : State) (dt : Nat) : (s.tick dt).hif = s.hif := by unfold State.tick; exact State.angleAdvance_hif _ _
@[simp] theorem State.tick_dbg (s : State) (dt : Nat) : (s.tick dt).dbg = s.dbg := by unfold State.tick; exact State.angleAdvance_dbg _ _
@[simp] theorem State.tick_bst (s : State) (dt : Nat) : (s.tick dt).bst = s.bst := by unfold State.tick; exact State.angleAdvance_bst _ _
@[simp] theorem State.tick_pending (s : State) (dt : Nat) : (s.tick dt).pending = s.pending := by unfold State.tick; exact State.angleAdvance_pending _ _
@[simp] theorem State.tick_reg (s : State) (dt : Nat) (p o : Nat) : (s.tick dt).reg p o = s.reg p o := by
  unfold State.reg; rw [State.tick_regs]

@[simp] theorem State.tickTo_regs (s : State) (t : Nat) : (s.tickTo t).regs = s.regs := State.tick_regs s _
@[simp] theorem State.tickTo_freeCtr (s : State) (t : Nat) : (s.tickTo t).freeCtr = s.freeCtr := State.tick_freeCtr s _
@[simp] theorem State.tickTo_out (s : State) (t : Nat) : (s.tickTo t).out = s.out := State.tick_out s _
@[simp] theorem State.tickTo_errN (s : State) (t : Nat) : (s.tickTo t).errN = s.errN := State.tick_errN s _
@[simp] theorem State.tickTo_msIrqN (s : State) (t : Nat) : (s.tickTo t).msIrqN = s.msIrqN := State.tick_msIrqN s _
@[simp] theorem State.tickTo_kfd (s : State) (t : Nat) : (s.tickTo t).kfd = s.kfd := State.tick_kfd s _
@[simp] theorem State.tickTo_pwr (s : State) (t : Nat) : (s.tickTo t).pwr = s.pwr := State.tick_pwr s _
@[simp] theorem State.tickTo_ldg (s : State) (t : Nat) : (s.tickTo t).ldg = s.ldg := State.tick_ldg s _
@[simp] theorem State.tickTo_boot (s : State) (t : Nat) : (s.tickTo t).boot = s.boot := State.tick_boot s _
@[simp] theorem State.tickTo_gate (s : State) (t : Nat) : (s.tickTo t).gate = s.gate := State.tick_gate s _
@[simp] theorem State.tickTo_blv (s : State) (t : Nat) : (s.tickTo t).blv = s.blv := State.tick_blv s _
@[simp] theorem State.tickTo_hdg (s : State) (t : Nat) : (s.tickTo t).hdg = s.hdg := State.tick_hdg s _
@[simp] theorem State.tickTo_well (s : State) (t : Nat) : (s.tickTo t).well = s.well := State.tick_well s _
@[simp] theorem State.tickTo_prm (s : State) (t : Nat) : (s.tickTo t).prm = s.prm := State.tick_prm s _
@[simp] theorem State.tickTo_ptr (s : State) (t : Nat) : (s.tickTo t).ptr = s.ptr := State.tick_ptr s _
@[simp] theorem State.tickTo_pgl (s : State) (t : Nat) : (s.tickTo t).pgl = s.pgl := State.tick_pgl s _
@[simp] theorem State.tickTo_pav (s : State) (t : Nat) : (s.tickTo t).pav = s.pav := State.tick_pav s _
@[simp] theorem State.tickTo_engP (s : State) (t : Nat) : (s.tickTo t).engP = s.engP := State.tick_engP s _
@[simp] theorem State.tickTo_engC (s : State) (t : Nat) : (s.tickTo t).engC = s.engC := State.tick_engC s _
@[simp] theorem State.tickTo_mem (s : State) (t : Nat) : (s.tickTo t).mem = s.mem := State.tick_mem s _
@[simp] theorem State.tickTo_org (s : State) (t : Nat) : (s.tickTo t).org = s.org := State.tick_org s _
@[simp] theorem State.tickTo_arb (s : State) (t : Nat) : (s.tickTo t).arb = s.arb := State.tick_arb s _
@[simp] theorem State.tickTo_ftn (s : State) (t : Nat) : (s.tickTo t).ftn = s.ftn := State.tick_ftn s _
@[simp] theorem State.tickTo_cln (s : State) (t : Nat) : (s.tickTo t).cln = s.cln := State.tick_cln s _
@[simp] theorem State.tickTo_nvm (s : State) (t : Nat) : (s.tickTo t).nvm = s.nvm := State.tick_nvm s _
@[simp] theorem State.tickTo_otp (s : State) (t : Nat) : (s.tickTo t).otp = s.otp := State.tick_otp s _
@[simp] theorem State.tickTo_psh (s : State) (t : Nat) : (s.tickTo t).psh = s.psh := State.tick_psh s _
@[simp] theorem State.tickTo_ksk (s : State) (t : Nat) : (s.tickTo t).ksk = s.ksk := State.tick_ksk s _
@[simp] theorem State.tickTo_ccp (s : State) (t : Nat) : (s.tickTo t).ccp = s.ccp := State.tick_ccp s _
@[simp] theorem State.tickTo_hif (s : State) (t : Nat) : (s.tickTo t).hif = s.hif := State.tick_hif s _
@[simp] theorem State.tickTo_dbg (s : State) (t : Nat) : (s.tickTo t).dbg = s.dbg := State.tick_dbg s _
@[simp] theorem State.tickTo_bst (s : State) (t : Nat) : (s.tickTo t).bst = s.bst := State.tick_bst s _
@[simp] theorem State.tickTo_pending (s : State) (t : Nat) : (s.tickTo t).pending = s.pending := State.tick_pending s _
@[simp] theorem State.tickTo_reg (s : State) (t : Nat) (p o : Nat) : (s.tickTo t).reg p o = s.reg p o := by
  unfold State.reg; rw [State.tickTo_regs]

@[simp] theorem State.advanceTo_regs (s : State) (t : Nat) : (s.advanceTo t).regs = s.regs := by unfold State.advanceTo; split; rfl; exact State.angleAdvance_regs _ _
@[simp] theorem State.advanceTo_freeCtr (s : State) (t : Nat) : (s.advanceTo t).freeCtr = s.freeCtr := by unfold State.advanceTo; split; rfl; exact State.angleAdvance_freeCtr _ _
@[simp] theorem State.advanceTo_out (s : State) (t : Nat) : (s.advanceTo t).out = s.out := by unfold State.advanceTo; split; rfl; exact State.angleAdvance_out _ _
@[simp] theorem State.advanceTo_errN (s : State) (t : Nat) : (s.advanceTo t).errN = s.errN := by unfold State.advanceTo; split; rfl; exact State.angleAdvance_errN _ _
@[simp] theorem State.advanceTo_msIrqN (s : State) (t : Nat) : (s.advanceTo t).msIrqN = s.msIrqN := by unfold State.advanceTo; split; rfl; exact State.angleAdvance_msIrqN _ _
@[simp] theorem State.advanceTo_kfd (s : State) (t : Nat) : (s.advanceTo t).kfd = s.kfd := by unfold State.advanceTo; split; rfl; exact State.angleAdvance_kfd _ _
@[simp] theorem State.advanceTo_pwr (s : State) (t : Nat) : (s.advanceTo t).pwr = s.pwr := by unfold State.advanceTo; split; rfl; exact State.angleAdvance_pwr _ _
@[simp] theorem State.advanceTo_ldg (s : State) (t : Nat) : (s.advanceTo t).ldg = s.ldg := by unfold State.advanceTo; split; rfl; exact State.angleAdvance_ldg _ _
@[simp] theorem State.advanceTo_boot (s : State) (t : Nat) : (s.advanceTo t).boot = s.boot := by unfold State.advanceTo; split; rfl; exact State.angleAdvance_boot _ _
@[simp] theorem State.advanceTo_gate (s : State) (t : Nat) : (s.advanceTo t).gate = s.gate := by unfold State.advanceTo; split; rfl; exact State.angleAdvance_gate _ _
@[simp] theorem State.advanceTo_blv (s : State) (t : Nat) : (s.advanceTo t).blv = s.blv := by unfold State.advanceTo; split; rfl; exact State.angleAdvance_blv _ _
@[simp] theorem State.advanceTo_hdg (s : State) (t : Nat) : (s.advanceTo t).hdg = s.hdg := by unfold State.advanceTo; split; rfl; exact State.angleAdvance_hdg _ _
@[simp] theorem State.advanceTo_well (s : State) (t : Nat) : (s.advanceTo t).well = s.well := by unfold State.advanceTo; split; rfl; exact State.angleAdvance_well _ _
@[simp] theorem State.advanceTo_prm (s : State) (t : Nat) : (s.advanceTo t).prm = s.prm := by unfold State.advanceTo; split; rfl; exact State.angleAdvance_prm _ _
@[simp] theorem State.advanceTo_ptr (s : State) (t : Nat) : (s.advanceTo t).ptr = s.ptr := by unfold State.advanceTo; split; rfl; exact State.angleAdvance_ptr _ _
@[simp] theorem State.advanceTo_pgl (s : State) (t : Nat) : (s.advanceTo t).pgl = s.pgl := by unfold State.advanceTo; split; rfl; exact State.angleAdvance_pgl _ _
@[simp] theorem State.advanceTo_pav (s : State) (t : Nat) : (s.advanceTo t).pav = s.pav := by unfold State.advanceTo; split; rfl; exact State.angleAdvance_pav _ _
@[simp] theorem State.advanceTo_engP (s : State) (t : Nat) : (s.advanceTo t).engP = s.engP := by unfold State.advanceTo; split; rfl; exact State.angleAdvance_engP _ _
@[simp] theorem State.advanceTo_engC (s : State) (t : Nat) : (s.advanceTo t).engC = s.engC := by unfold State.advanceTo; split; rfl; exact State.angleAdvance_engC _ _
@[simp] theorem State.advanceTo_mem (s : State) (t : Nat) : (s.advanceTo t).mem = s.mem := by unfold State.advanceTo; split; rfl; exact State.angleAdvance_mem _ _
@[simp] theorem State.advanceTo_org (s : State) (t : Nat) : (s.advanceTo t).org = s.org := by unfold State.advanceTo; split; rfl; exact State.angleAdvance_org _ _
@[simp] theorem State.advanceTo_arb (s : State) (t : Nat) : (s.advanceTo t).arb = s.arb := by unfold State.advanceTo; split; rfl; exact State.angleAdvance_arb _ _
@[simp] theorem State.advanceTo_ftn (s : State) (t : Nat) : (s.advanceTo t).ftn = s.ftn := by unfold State.advanceTo; split; rfl; exact State.angleAdvance_ftn _ _
@[simp] theorem State.advanceTo_cln (s : State) (t : Nat) : (s.advanceTo t).cln = s.cln := by unfold State.advanceTo; split; rfl; exact State.angleAdvance_cln _ _
@[simp] theorem State.advanceTo_nvm (s : State) (t : Nat) : (s.advanceTo t).nvm = s.nvm := by unfold State.advanceTo; split; rfl; exact State.angleAdvance_nvm _ _
@[simp] theorem State.advanceTo_otp (s : State) (t : Nat) : (s.advanceTo t).otp = s.otp := by unfold State.advanceTo; split; rfl; exact State.angleAdvance_otp _ _
@[simp] theorem State.advanceTo_psh (s : State) (t : Nat) : (s.advanceTo t).psh = s.psh := by unfold State.advanceTo; split; rfl; exact State.angleAdvance_psh _ _
@[simp] theorem State.advanceTo_ksk (s : State) (t : Nat) : (s.advanceTo t).ksk = s.ksk := by unfold State.advanceTo; split; rfl; exact State.angleAdvance_ksk _ _
@[simp] theorem State.advanceTo_ccp (s : State) (t : Nat) : (s.advanceTo t).ccp = s.ccp := by unfold State.advanceTo; split; rfl; exact State.angleAdvance_ccp _ _
@[simp] theorem State.advanceTo_hif (s : State) (t : Nat) : (s.advanceTo t).hif = s.hif := by unfold State.advanceTo; split; rfl; exact State.angleAdvance_hif _ _
@[simp] theorem State.advanceTo_dbg (s : State) (t : Nat) : (s.advanceTo t).dbg = s.dbg := by unfold State.advanceTo; split; rfl; exact State.angleAdvance_dbg _ _
@[simp] theorem State.advanceTo_bst (s : State) (t : Nat) : (s.advanceTo t).bst = s.bst := by unfold State.advanceTo; split; rfl; exact State.angleAdvance_bst _ _
@[simp] theorem State.advanceTo_pending (s : State) (t : Nat) : (s.advanceTo t).pending = s.pending := by unfold State.advanceTo; split; rfl; exact State.angleAdvance_pending _ _
@[simp] theorem State.advanceTo_reg (s : State) (t : Nat) (p o : Nat) : (s.advanceTo t).reg p o = s.reg p o := by
  unfold State.reg; rw [State.advanceTo_regs]

@[simp] theorem State.refreshBalls_regs (s : State) : (s.refreshBalls).regs = s.regs := rfl
@[simp] theorem State.refreshBalls_now (s : State) : (s.refreshBalls).now = s.now := rfl
@[simp] theorem State.refreshBalls_freeCtr (s : State) : (s.refreshBalls).freeCtr = s.freeCtr := rfl
@[simp] theorem State.refreshBalls_out (s : State) : (s.refreshBalls).out = s.out := rfl
@[simp] theorem State.refreshBalls_errN (s : State) : (s.refreshBalls).errN = s.errN := rfl
@[simp] theorem State.refreshBalls_msIrqN (s : State) : (s.refreshBalls).msIrqN = s.msIrqN := rfl
@[simp] theorem State.refreshBalls_kfd (s : State) : (s.refreshBalls).kfd = s.kfd := rfl
@[simp] theorem State.refreshBalls_pwr (s : State) : (s.refreshBalls).pwr = s.pwr := rfl
@[simp] theorem State.refreshBalls_boot (s : State) : (s.refreshBalls).boot = s.boot := rfl
@[simp] theorem State.refreshBalls_gate (s : State) : (s.refreshBalls).gate = s.gate := rfl
@[simp] theorem State.refreshBalls_blv (s : State) : (s.refreshBalls).blv = s.blv := rfl
@[simp] theorem State.refreshBalls_hdg (s : State) : (s.refreshBalls).hdg = s.hdg := rfl
@[simp] theorem State.refreshBalls_well (s : State) : (s.refreshBalls).well = s.well := rfl
@[simp] theorem State.refreshBalls_sdl (s : State) : (s.refreshBalls).sdl = s.sdl := rfl
@[simp] theorem State.refreshBalls_prm (s : State) : (s.refreshBalls).prm = s.prm := rfl
@[simp] theorem State.refreshBalls_ptr (s : State) : (s.refreshBalls).ptr = s.ptr := rfl
@[simp] theorem State.refreshBalls_pgl (s : State) : (s.refreshBalls).pgl = s.pgl := rfl
@[simp] theorem State.refreshBalls_pav (s : State) : (s.refreshBalls).pav = s.pav := rfl
@[simp] theorem State.refreshBalls_engP (s : State) : (s.refreshBalls).engP = s.engP := rfl
@[simp] theorem State.refreshBalls_engC (s : State) : (s.refreshBalls).engC = s.engC := rfl
@[simp] theorem State.refreshBalls_mem (s : State) : (s.refreshBalls).mem = s.mem := rfl
@[simp] theorem State.refreshBalls_org (s : State) : (s.refreshBalls).org = s.org := rfl
@[simp] theorem State.refreshBalls_arb (s : State) : (s.refreshBalls).arb = s.arb := rfl
@[simp] theorem State.refreshBalls_ftn (s : State) : (s.refreshBalls).ftn = s.ftn := rfl
@[simp] theorem State.refreshBalls_cln (s : State) : (s.refreshBalls).cln = s.cln := rfl
@[simp] theorem State.refreshBalls_nvm (s : State) : (s.refreshBalls).nvm = s.nvm := rfl
@[simp] theorem State.refreshBalls_otp (s : State) : (s.refreshBalls).otp = s.otp := rfl
@[simp] theorem State.refreshBalls_psh (s : State) : (s.refreshBalls).psh = s.psh := rfl
@[simp] theorem State.refreshBalls_ksk (s : State) : (s.refreshBalls).ksk = s.ksk := rfl
@[simp] theorem State.refreshBalls_ccp (s : State) : (s.refreshBalls).ccp = s.ccp := rfl
@[simp] theorem State.refreshBalls_hif (s : State) : (s.refreshBalls).hif = s.hif := rfl
@[simp] theorem State.refreshBalls_dbg (s : State) : (s.refreshBalls).dbg = s.dbg := rfl
@[simp] theorem State.refreshBalls_bst (s : State) : (s.refreshBalls).bst = s.bst := rfl
@[simp] theorem State.refreshBalls_pending (s : State) : (s.refreshBalls).pending = s.pending := rfl
@[simp] theorem State.refreshBalls_reg (s : State) (p o : Nat) : (s.refreshBalls).reg p o = s.reg p o := by
  unfold State.reg; rw [State.refreshBalls_regs]

@[simp] theorem State.ballsSafe_regs (s : State) : (s.ballsSafe).regs = s.regs := rfl
@[simp] theorem State.ballsSafe_now (s : State) : (s.ballsSafe).now = s.now := rfl
@[simp] theorem State.ballsSafe_freeCtr (s : State) : (s.ballsSafe).freeCtr = s.freeCtr := rfl
@[simp] theorem State.ballsSafe_out (s : State) : (s.ballsSafe).out = s.out := rfl
@[simp] theorem State.ballsSafe_errN (s : State) : (s.ballsSafe).errN = s.errN := rfl
@[simp] theorem State.ballsSafe_msIrqN (s : State) : (s.ballsSafe).msIrqN = s.msIrqN := rfl
@[simp] theorem State.ballsSafe_kfd (s : State) : (s.ballsSafe).kfd = s.kfd := rfl
@[simp] theorem State.ballsSafe_pwr (s : State) : (s.ballsSafe).pwr = s.pwr := rfl
@[simp] theorem State.ballsSafe_boot (s : State) : (s.ballsSafe).boot = s.boot := rfl
@[simp] theorem State.ballsSafe_gate (s : State) : (s.ballsSafe).gate = s.gate := rfl
@[simp] theorem State.ballsSafe_blv (s : State) : (s.ballsSafe).blv = s.blv := rfl
@[simp] theorem State.ballsSafe_hdg (s : State) : (s.ballsSafe).hdg = s.hdg := rfl
@[simp] theorem State.ballsSafe_well (s : State) : (s.ballsSafe).well = s.well := rfl
@[simp] theorem State.ballsSafe_sdl (s : State) : (s.ballsSafe).sdl = s.sdl := rfl
@[simp] theorem State.ballsSafe_prm (s : State) : (s.ballsSafe).prm = s.prm := rfl
@[simp] theorem State.ballsSafe_ptr (s : State) : (s.ballsSafe).ptr = s.ptr := rfl
@[simp] theorem State.ballsSafe_pgl (s : State) : (s.ballsSafe).pgl = s.pgl := rfl
@[simp] theorem State.ballsSafe_pav (s : State) : (s.ballsSafe).pav = s.pav := rfl
@[simp] theorem State.ballsSafe_engP (s : State) : (s.ballsSafe).engP = s.engP := rfl
@[simp] theorem State.ballsSafe_engC (s : State) : (s.ballsSafe).engC = s.engC := rfl
@[simp] theorem State.ballsSafe_mem (s : State) : (s.ballsSafe).mem = s.mem := rfl
@[simp] theorem State.ballsSafe_org (s : State) : (s.ballsSafe).org = s.org := rfl
@[simp] theorem State.ballsSafe_arb (s : State) : (s.ballsSafe).arb = s.arb := rfl
@[simp] theorem State.ballsSafe_ftn (s : State) : (s.ballsSafe).ftn = s.ftn := rfl
@[simp] theorem State.ballsSafe_cln (s : State) : (s.ballsSafe).cln = s.cln := rfl
@[simp] theorem State.ballsSafe_nvm (s : State) : (s.ballsSafe).nvm = s.nvm := rfl
@[simp] theorem State.ballsSafe_otp (s : State) : (s.ballsSafe).otp = s.otp := rfl
@[simp] theorem State.ballsSafe_psh (s : State) : (s.ballsSafe).psh = s.psh := rfl
@[simp] theorem State.ballsSafe_ksk (s : State) : (s.ballsSafe).ksk = s.ksk := rfl
@[simp] theorem State.ballsSafe_ccp (s : State) : (s.ballsSafe).ccp = s.ccp := rfl
@[simp] theorem State.ballsSafe_hif (s : State) : (s.ballsSafe).hif = s.hif := rfl
@[simp] theorem State.ballsSafe_dbg (s : State) : (s.ballsSafe).dbg = s.dbg := rfl
@[simp] theorem State.ballsSafe_bst (s : State) : (s.ballsSafe).bst = s.bst := rfl
@[simp] theorem State.ballsSafe_pending (s : State) : (s.ballsSafe).pending = s.pending := rfl
@[simp] theorem State.ballsSafe_reg (s : State) (p o : Nat) : (s.ballsSafe).reg p o = s.reg p o := by
  unfold State.reg; rw [State.ballsSafe_regs]

@[simp] theorem State.sdlEvent_now (s : State) (n : Nat) : (s.sdlEvent n).now = s.now := rfl
@[simp] theorem State.sdlEvent_freeCtr (s : State) (n : Nat) : (s.sdlEvent n).freeCtr = s.freeCtr := rfl
@[simp] theorem State.sdlEvent_out (s : State) (n : Nat) : (s.sdlEvent n).out = s.out := rfl
@[simp] theorem State.sdlEvent_errN (s : State) (n : Nat) : (s.sdlEvent n).errN = s.errN := rfl
@[simp] theorem State.sdlEvent_msIrqN (s : State) (n : Nat) : (s.sdlEvent n).msIrqN = s.msIrqN := rfl
@[simp] theorem State.sdlEvent_kfd (s : State) (n : Nat) : (s.sdlEvent n).kfd = s.kfd := rfl
@[simp] theorem State.sdlEvent_pwr (s : State) (n : Nat) : (s.sdlEvent n).pwr = s.pwr := rfl
@[simp] theorem State.sdlEvent_ldg (s : State) (n : Nat) : (s.sdlEvent n).ldg = s.ldg := rfl
@[simp] theorem State.sdlEvent_boot (s : State) (n : Nat) : (s.sdlEvent n).boot = s.boot := rfl
@[simp] theorem State.sdlEvent_gate (s : State) (n : Nat) : (s.sdlEvent n).gate = s.gate := rfl
@[simp] theorem State.sdlEvent_hdg (s : State) (n : Nat) : (s.sdlEvent n).hdg = s.hdg := rfl
@[simp] theorem State.sdlEvent_well (s : State) (n : Nat) : (s.sdlEvent n).well = s.well := rfl
@[simp] theorem State.sdlEvent_prm (s : State) (n : Nat) : (s.sdlEvent n).prm = s.prm := rfl
@[simp] theorem State.sdlEvent_ptr (s : State) (n : Nat) : (s.sdlEvent n).ptr = s.ptr := rfl
@[simp] theorem State.sdlEvent_pgl (s : State) (n : Nat) : (s.sdlEvent n).pgl = s.pgl := rfl
@[simp] theorem State.sdlEvent_pav (s : State) (n : Nat) : (s.sdlEvent n).pav = s.pav := rfl
@[simp] theorem State.sdlEvent_engP (s : State) (n : Nat) : (s.sdlEvent n).engP = s.engP := rfl
@[simp] theorem State.sdlEvent_engC (s : State) (n : Nat) : (s.sdlEvent n).engC = s.engC := rfl
@[simp] theorem State.sdlEvent_mem (s : State) (n : Nat) : (s.sdlEvent n).mem = s.mem := rfl
@[simp] theorem State.sdlEvent_org (s : State) (n : Nat) : (s.sdlEvent n).org = s.org := rfl
@[simp] theorem State.sdlEvent_arb (s : State) (n : Nat) : (s.sdlEvent n).arb = s.arb := rfl
@[simp] theorem State.sdlEvent_ftn (s : State) (n : Nat) : (s.sdlEvent n).ftn = s.ftn := rfl
@[simp] theorem State.sdlEvent_cln (s : State) (n : Nat) : (s.sdlEvent n).cln = s.cln := rfl
@[simp] theorem State.sdlEvent_nvm (s : State) (n : Nat) : (s.sdlEvent n).nvm = s.nvm := rfl
@[simp] theorem State.sdlEvent_otp (s : State) (n : Nat) : (s.sdlEvent n).otp = s.otp := rfl
@[simp] theorem State.sdlEvent_psh (s : State) (n : Nat) : (s.sdlEvent n).psh = s.psh := rfl
@[simp] theorem State.sdlEvent_ksk (s : State) (n : Nat) : (s.sdlEvent n).ksk = s.ksk := rfl
@[simp] theorem State.sdlEvent_ccp (s : State) (n : Nat) : (s.sdlEvent n).ccp = s.ccp := rfl
@[simp] theorem State.sdlEvent_hif (s : State) (n : Nat) : (s.sdlEvent n).hif = s.hif := rfl
@[simp] theorem State.sdlEvent_dbg (s : State) (n : Nat) : (s.sdlEvent n).dbg = s.dbg := rfl
@[simp] theorem State.sdlEvent_bst (s : State) (n : Nat) : (s.sdlEvent n).bst = s.bst := rfl
@[simp] theorem State.sdlEvent_pending (s : State) (n : Nat) : (s.sdlEvent n).pending = s.pending := rfl

@[simp] theorem State.ftnSet_now (s : State) (x : FtnState) : (s.ftnSet x).now = s.now := rfl
@[simp] theorem State.ftnSet_freeCtr (s : State) (x : FtnState) : (s.ftnSet x).freeCtr = s.freeCtr := rfl
@[simp] theorem State.ftnSet_out (s : State) (x : FtnState) : (s.ftnSet x).out = s.out := rfl
@[simp] theorem State.ftnSet_errN (s : State) (x : FtnState) : (s.ftnSet x).errN = s.errN := rfl
@[simp] theorem State.ftnSet_msIrqN (s : State) (x : FtnState) : (s.ftnSet x).msIrqN = s.msIrqN := rfl
@[simp] theorem State.ftnSet_kfd (s : State) (x : FtnState) : (s.ftnSet x).kfd = s.kfd := rfl
@[simp] theorem State.ftnSet_pwr (s : State) (x : FtnState) : (s.ftnSet x).pwr = s.pwr := rfl
@[simp] theorem State.ftnSet_ldg (s : State) (x : FtnState) : (s.ftnSet x).ldg = s.ldg := rfl
@[simp] theorem State.ftnSet_boot (s : State) (x : FtnState) : (s.ftnSet x).boot = s.boot := rfl
@[simp] theorem State.ftnSet_gate (s : State) (x : FtnState) : (s.ftnSet x).gate = s.gate := rfl
@[simp] theorem State.ftnSet_blv (s : State) (x : FtnState) : (s.ftnSet x).blv = s.blv := rfl
@[simp] theorem State.ftnSet_hdg (s : State) (x : FtnState) : (s.ftnSet x).hdg = s.hdg := rfl
@[simp] theorem State.ftnSet_well (s : State) (x : FtnState) : (s.ftnSet x).well = s.well := rfl
@[simp] theorem State.ftnSet_sdl (s : State) (x : FtnState) : (s.ftnSet x).sdl = s.sdl := rfl
@[simp] theorem State.ftnSet_prm (s : State) (x : FtnState) : (s.ftnSet x).prm = s.prm := rfl
@[simp] theorem State.ftnSet_ptr (s : State) (x : FtnState) : (s.ftnSet x).ptr = s.ptr := rfl
@[simp] theorem State.ftnSet_pgl (s : State) (x : FtnState) : (s.ftnSet x).pgl = s.pgl := rfl
@[simp] theorem State.ftnSet_pav (s : State) (x : FtnState) : (s.ftnSet x).pav = s.pav := rfl
@[simp] theorem State.ftnSet_engP (s : State) (x : FtnState) : (s.ftnSet x).engP = s.engP := rfl
@[simp] theorem State.ftnSet_engC (s : State) (x : FtnState) : (s.ftnSet x).engC = s.engC := rfl
@[simp] theorem State.ftnSet_mem (s : State) (x : FtnState) : (s.ftnSet x).mem = s.mem := rfl
@[simp] theorem State.ftnSet_org (s : State) (x : FtnState) : (s.ftnSet x).org = s.org := rfl
@[simp] theorem State.ftnSet_arb (s : State) (x : FtnState) : (s.ftnSet x).arb = s.arb := rfl
@[simp] theorem State.ftnSet_cln (s : State) (x : FtnState) : (s.ftnSet x).cln = s.cln := rfl
@[simp] theorem State.ftnSet_nvm (s : State) (x : FtnState) : (s.ftnSet x).nvm = s.nvm := rfl
@[simp] theorem State.ftnSet_otp (s : State) (x : FtnState) : (s.ftnSet x).otp = s.otp := rfl
@[simp] theorem State.ftnSet_psh (s : State) (x : FtnState) : (s.ftnSet x).psh = s.psh := rfl
@[simp] theorem State.ftnSet_ksk (s : State) (x : FtnState) : (s.ftnSet x).ksk = s.ksk := rfl
@[simp] theorem State.ftnSet_ccp (s : State) (x : FtnState) : (s.ftnSet x).ccp = s.ccp := rfl
@[simp] theorem State.ftnSet_hif (s : State) (x : FtnState) : (s.ftnSet x).hif = s.hif := rfl
@[simp] theorem State.ftnSet_dbg (s : State) (x : FtnState) : (s.ftnSet x).dbg = s.dbg := rfl
@[simp] theorem State.ftnSet_bst (s : State) (x : FtnState) : (s.ftnSet x).bst = s.bst := rfl
@[simp] theorem State.ftnSet_pending (s : State) (x : FtnState) : (s.ftnSet x).pending = s.pending := rfl

@[simp] theorem State.ftnStart_now (s : State) : (s.ftnStart).now = s.now := rfl
@[simp] theorem State.ftnStart_freeCtr (s : State) : (s.ftnStart).freeCtr = s.freeCtr := rfl
@[simp] theorem State.ftnStart_out (s : State) : (s.ftnStart).out = s.out := rfl
@[simp] theorem State.ftnStart_errN (s : State) : (s.ftnStart).errN = s.errN := rfl
@[simp] theorem State.ftnStart_msIrqN (s : State) : (s.ftnStart).msIrqN = s.msIrqN := rfl
@[simp] theorem State.ftnStart_kfd (s : State) : (s.ftnStart).kfd = s.kfd := rfl
@[simp] theorem State.ftnStart_pwr (s : State) : (s.ftnStart).pwr = s.pwr := rfl
@[simp] theorem State.ftnStart_ldg (s : State) : (s.ftnStart).ldg = s.ldg := rfl
@[simp] theorem State.ftnStart_boot (s : State) : (s.ftnStart).boot = s.boot := rfl
@[simp] theorem State.ftnStart_gate (s : State) : (s.ftnStart).gate = s.gate := rfl
@[simp] theorem State.ftnStart_blv (s : State) : (s.ftnStart).blv = s.blv := rfl
@[simp] theorem State.ftnStart_hdg (s : State) : (s.ftnStart).hdg = s.hdg := rfl
@[simp] theorem State.ftnStart_well (s : State) : (s.ftnStart).well = s.well := rfl
@[simp] theorem State.ftnStart_sdl (s : State) : (s.ftnStart).sdl = s.sdl := rfl
@[simp] theorem State.ftnStart_prm (s : State) : (s.ftnStart).prm = s.prm := rfl
@[simp] theorem State.ftnStart_ptr (s : State) : (s.ftnStart).ptr = s.ptr := rfl
@[simp] theorem State.ftnStart_pgl (s : State) : (s.ftnStart).pgl = s.pgl := rfl
@[simp] theorem State.ftnStart_pav (s : State) : (s.ftnStart).pav = s.pav := rfl
@[simp] theorem State.ftnStart_engP (s : State) : (s.ftnStart).engP = s.engP := rfl
@[simp] theorem State.ftnStart_engC (s : State) : (s.ftnStart).engC = s.engC := rfl
@[simp] theorem State.ftnStart_mem (s : State) : (s.ftnStart).mem = s.mem := rfl
@[simp] theorem State.ftnStart_org (s : State) : (s.ftnStart).org = s.org := rfl
@[simp] theorem State.ftnStart_arb (s : State) : (s.ftnStart).arb = s.arb := rfl
@[simp] theorem State.ftnStart_cln (s : State) : (s.ftnStart).cln = s.cln := rfl
@[simp] theorem State.ftnStart_nvm (s : State) : (s.ftnStart).nvm = s.nvm := rfl
@[simp] theorem State.ftnStart_otp (s : State) : (s.ftnStart).otp = s.otp := rfl
@[simp] theorem State.ftnStart_psh (s : State) : (s.ftnStart).psh = s.psh := rfl
@[simp] theorem State.ftnStart_ksk (s : State) : (s.ftnStart).ksk = s.ksk := rfl
@[simp] theorem State.ftnStart_ccp (s : State) : (s.ftnStart).ccp = s.ccp := rfl
@[simp] theorem State.ftnStart_hif (s : State) : (s.ftnStart).hif = s.hif := rfl
@[simp] theorem State.ftnStart_dbg (s : State) : (s.ftnStart).dbg = s.dbg := rfl
@[simp] theorem State.ftnStart_bst (s : State) : (s.ftnStart).bst = s.bst := rfl
@[simp] theorem State.ftnStart_pending (s : State) : (s.ftnStart).pending = s.pending := rfl

@[simp] theorem State.ftnCount_now (s : State) : (s.ftnCount).now = s.now := by unfold State.ftnCount; dsimp only; split <;> rfl
@[simp] theorem State.ftnCount_freeCtr (s : State) : (s.ftnCount).freeCtr = s.freeCtr := by unfold State.ftnCount; dsimp only; split <;> rfl
@[simp] theorem State.ftnCount_out (s : State) : (s.ftnCount).out = s.out := by unfold State.ftnCount; dsimp only; split <;> rfl
@[simp] theorem State.ftnCount_errN (s : State) : (s.ftnCount).errN = s.errN := by unfold State.ftnCount; dsimp only; split <;> rfl
@[simp] theorem State.ftnCount_msIrqN (s : State) : (s.ftnCount).msIrqN = s.msIrqN := by unfold State.ftnCount; dsimp only; split <;> rfl
@[simp] theorem State.ftnCount_kfd (s : State) : (s.ftnCount).kfd = s.kfd := by unfold State.ftnCount; dsimp only; split <;> rfl
@[simp] theorem State.ftnCount_pwr (s : State) : (s.ftnCount).pwr = s.pwr := by unfold State.ftnCount; dsimp only; split <;> rfl
@[simp] theorem State.ftnCount_ldg (s : State) : (s.ftnCount).ldg = s.ldg := by unfold State.ftnCount; dsimp only; split <;> rfl
@[simp] theorem State.ftnCount_boot (s : State) : (s.ftnCount).boot = s.boot := by unfold State.ftnCount; dsimp only; split <;> rfl
@[simp] theorem State.ftnCount_gate (s : State) : (s.ftnCount).gate = s.gate := by unfold State.ftnCount; dsimp only; split <;> rfl
@[simp] theorem State.ftnCount_blv (s : State) : (s.ftnCount).blv = s.blv := by unfold State.ftnCount; dsimp only; split <;> rfl
@[simp] theorem State.ftnCount_hdg (s : State) : (s.ftnCount).hdg = s.hdg := by unfold State.ftnCount; dsimp only; split <;> rfl
@[simp] theorem State.ftnCount_well (s : State) : (s.ftnCount).well = s.well := by unfold State.ftnCount; dsimp only; split <;> rfl
@[simp] theorem State.ftnCount_sdl (s : State) : (s.ftnCount).sdl = s.sdl := by unfold State.ftnCount; dsimp only; split <;> rfl
@[simp] theorem State.ftnCount_prm (s : State) : (s.ftnCount).prm = s.prm := by unfold State.ftnCount; dsimp only; split <;> rfl
@[simp] theorem State.ftnCount_ptr (s : State) : (s.ftnCount).ptr = s.ptr := by unfold State.ftnCount; dsimp only; split <;> rfl
@[simp] theorem State.ftnCount_pgl (s : State) : (s.ftnCount).pgl = s.pgl := by unfold State.ftnCount; dsimp only; split <;> rfl
@[simp] theorem State.ftnCount_pav (s : State) : (s.ftnCount).pav = s.pav := by unfold State.ftnCount; dsimp only; split <;> rfl
@[simp] theorem State.ftnCount_engP (s : State) : (s.ftnCount).engP = s.engP := by unfold State.ftnCount; dsimp only; split <;> rfl
@[simp] theorem State.ftnCount_engC (s : State) : (s.ftnCount).engC = s.engC := by unfold State.ftnCount; dsimp only; split <;> rfl
@[simp] theorem State.ftnCount_mem (s : State) : (s.ftnCount).mem = s.mem := by unfold State.ftnCount; dsimp only; split <;> rfl
@[simp] theorem State.ftnCount_org (s : State) : (s.ftnCount).org = s.org := by unfold State.ftnCount; dsimp only; split <;> rfl
@[simp] theorem State.ftnCount_arb (s : State) : (s.ftnCount).arb = s.arb := by unfold State.ftnCount; dsimp only; split <;> rfl
@[simp] theorem State.ftnCount_ftn (s : State) : (s.ftnCount).ftn = s.ftn := by unfold State.ftnCount; dsimp only; split <;> rfl
@[simp] theorem State.ftnCount_cln (s : State) : (s.ftnCount).cln = s.cln := by unfold State.ftnCount; dsimp only; split <;> rfl
@[simp] theorem State.ftnCount_nvm (s : State) : (s.ftnCount).nvm = s.nvm := by unfold State.ftnCount; dsimp only; split <;> rfl
@[simp] theorem State.ftnCount_otp (s : State) : (s.ftnCount).otp = s.otp := by unfold State.ftnCount; dsimp only; split <;> rfl
@[simp] theorem State.ftnCount_psh (s : State) : (s.ftnCount).psh = s.psh := by unfold State.ftnCount; dsimp only; split <;> rfl
@[simp] theorem State.ftnCount_ksk (s : State) : (s.ftnCount).ksk = s.ksk := by unfold State.ftnCount; dsimp only; split <;> rfl
@[simp] theorem State.ftnCount_ccp (s : State) : (s.ftnCount).ccp = s.ccp := by unfold State.ftnCount; dsimp only; split <;> rfl
@[simp] theorem State.ftnCount_hif (s : State) : (s.ftnCount).hif = s.hif := by unfold State.ftnCount; dsimp only; split <;> rfl
@[simp] theorem State.ftnCount_dbg (s : State) : (s.ftnCount).dbg = s.dbg := by unfold State.ftnCount; dsimp only; split <;> rfl
@[simp] theorem State.ftnCount_bst (s : State) : (s.ftnCount).bst = s.bst := by unfold State.ftnCount; dsimp only; split <;> rfl
@[simp] theorem State.ftnCount_pending (s : State) : (s.ftnCount).pending = s.pending := by unfold State.ftnCount; dsimp only; split <;> rfl

@[simp] theorem State.sdlStatus_now (s : State) : (s.sdlStatus).now = s.now := rfl
@[simp] theorem State.sdlStatus_freeCtr (s : State) : (s.sdlStatus).freeCtr = s.freeCtr := rfl
@[simp] theorem State.sdlStatus_out (s : State) : (s.sdlStatus).out = s.out := rfl
@[simp] theorem State.sdlStatus_errN (s : State) : (s.sdlStatus).errN = s.errN := rfl
@[simp] theorem State.sdlStatus_msIrqN (s : State) : (s.sdlStatus).msIrqN = s.msIrqN := rfl
@[simp] theorem State.sdlStatus_kfd (s : State) : (s.sdlStatus).kfd = s.kfd := rfl
@[simp] theorem State.sdlStatus_pwr (s : State) : (s.sdlStatus).pwr = s.pwr := rfl
@[simp] theorem State.sdlStatus_ldg (s : State) : (s.sdlStatus).ldg = s.ldg := rfl
@[simp] theorem State.sdlStatus_boot (s : State) : (s.sdlStatus).boot = s.boot := rfl
@[simp] theorem State.sdlStatus_gate (s : State) : (s.sdlStatus).gate = s.gate := rfl
@[simp] theorem State.sdlStatus_blv (s : State) : (s.sdlStatus).blv = s.blv := rfl
@[simp] theorem State.sdlStatus_hdg (s : State) : (s.sdlStatus).hdg = s.hdg := rfl
@[simp] theorem State.sdlStatus_well (s : State) : (s.sdlStatus).well = s.well := rfl
@[simp] theorem State.sdlStatus_sdl (s : State) : (s.sdlStatus).sdl = s.sdl := rfl
@[simp] theorem State.sdlStatus_prm (s : State) : (s.sdlStatus).prm = s.prm := rfl
@[simp] theorem State.sdlStatus_ptr (s : State) : (s.sdlStatus).ptr = s.ptr := rfl
@[simp] theorem State.sdlStatus_pgl (s : State) : (s.sdlStatus).pgl = s.pgl := rfl
@[simp] theorem State.sdlStatus_pav (s : State) : (s.sdlStatus).pav = s.pav := rfl
@[simp] theorem State.sdlStatus_engP (s : State) : (s.sdlStatus).engP = s.engP := rfl
@[simp] theorem State.sdlStatus_engC (s : State) : (s.sdlStatus).engC = s.engC := rfl
@[simp] theorem State.sdlStatus_mem (s : State) : (s.sdlStatus).mem = s.mem := rfl
@[simp] theorem State.sdlStatus_org (s : State) : (s.sdlStatus).org = s.org := rfl
@[simp] theorem State.sdlStatus_arb (s : State) : (s.sdlStatus).arb = s.arb := rfl
@[simp] theorem State.sdlStatus_ftn (s : State) : (s.sdlStatus).ftn = s.ftn := rfl
@[simp] theorem State.sdlStatus_cln (s : State) : (s.sdlStatus).cln = s.cln := rfl
@[simp] theorem State.sdlStatus_nvm (s : State) : (s.sdlStatus).nvm = s.nvm := rfl
@[simp] theorem State.sdlStatus_otp (s : State) : (s.sdlStatus).otp = s.otp := rfl
@[simp] theorem State.sdlStatus_psh (s : State) : (s.sdlStatus).psh = s.psh := rfl
@[simp] theorem State.sdlStatus_ksk (s : State) : (s.sdlStatus).ksk = s.ksk := rfl
@[simp] theorem State.sdlStatus_ccp (s : State) : (s.sdlStatus).ccp = s.ccp := rfl
@[simp] theorem State.sdlStatus_hif (s : State) : (s.sdlStatus).hif = s.hif := rfl
@[simp] theorem State.sdlStatus_dbg (s : State) : (s.sdlStatus).dbg = s.dbg := rfl
@[simp] theorem State.sdlStatus_bst (s : State) : (s.sdlStatus).bst = s.bst := rfl
@[simp] theorem State.sdlStatus_pending (s : State) : (s.sdlStatus).pending = s.pending := rfl

@[simp] theorem State.setArmed_now (s : State) (n : Nat) (a : Option Armed) : (s.setArmed n a).now = s.now := by cases a <;> rfl
@[simp] theorem State.setArmed_freeCtr (s : State) (n : Nat) (a : Option Armed) : (s.setArmed n a).freeCtr = s.freeCtr := by cases a <;> rfl
@[simp] theorem State.setArmed_out (s : State) (n : Nat) (a : Option Armed) : (s.setArmed n a).out = s.out := by cases a <;> rfl
@[simp] theorem State.setArmed_errN (s : State) (n : Nat) (a : Option Armed) : (s.setArmed n a).errN = s.errN := by cases a <;> rfl
@[simp] theorem State.setArmed_msIrqN (s : State) (n : Nat) (a : Option Armed) : (s.setArmed n a).msIrqN = s.msIrqN := by cases a <;> rfl
@[simp] theorem State.setArmed_kfd (s : State) (n : Nat) (a : Option Armed) : (s.setArmed n a).kfd = s.kfd := by cases a <;> rfl
@[simp] theorem State.setArmed_pwr (s : State) (n : Nat) (a : Option Armed) : (s.setArmed n a).pwr = s.pwr := by cases a <;> rfl
@[simp] theorem State.setArmed_ldg (s : State) (n : Nat) (a : Option Armed) : (s.setArmed n a).ldg = s.ldg := by cases a <;> rfl
@[simp] theorem State.setArmed_boot (s : State) (n : Nat) (a : Option Armed) : (s.setArmed n a).boot = s.boot := by cases a <;> rfl
@[simp] theorem State.setArmed_gate (s : State) (n : Nat) (a : Option Armed) : (s.setArmed n a).gate = s.gate := by cases a <;> rfl
@[simp] theorem State.setArmed_blv (s : State) (n : Nat) (a : Option Armed) : (s.setArmed n a).blv = s.blv := by cases a <;> rfl
@[simp] theorem State.setArmed_hdg (s : State) (n : Nat) (a : Option Armed) : (s.setArmed n a).hdg = s.hdg := by cases a <;> rfl
@[simp] theorem State.setArmed_well (s : State) (n : Nat) (a : Option Armed) : (s.setArmed n a).well = s.well := by cases a <;> rfl
@[simp] theorem State.setArmed_prm (s : State) (n : Nat) (a : Option Armed) : (s.setArmed n a).prm = s.prm := by cases a <;> rfl
@[simp] theorem State.setArmed_ptr (s : State) (n : Nat) (a : Option Armed) : (s.setArmed n a).ptr = s.ptr := by cases a <;> rfl
@[simp] theorem State.setArmed_pgl (s : State) (n : Nat) (a : Option Armed) : (s.setArmed n a).pgl = s.pgl := by cases a <;> rfl
@[simp] theorem State.setArmed_pav (s : State) (n : Nat) (a : Option Armed) : (s.setArmed n a).pav = s.pav := by cases a <;> rfl
@[simp] theorem State.setArmed_engP (s : State) (n : Nat) (a : Option Armed) : (s.setArmed n a).engP = s.engP := by cases a <;> rfl
@[simp] theorem State.setArmed_engC (s : State) (n : Nat) (a : Option Armed) : (s.setArmed n a).engC = s.engC := by cases a <;> rfl
@[simp] theorem State.setArmed_mem (s : State) (n : Nat) (a : Option Armed) : (s.setArmed n a).mem = s.mem := by cases a <;> rfl
@[simp] theorem State.setArmed_org (s : State) (n : Nat) (a : Option Armed) : (s.setArmed n a).org = s.org := by cases a <;> rfl
@[simp] theorem State.setArmed_arb (s : State) (n : Nat) (a : Option Armed) : (s.setArmed n a).arb = s.arb := by cases a <;> rfl
@[simp] theorem State.setArmed_ftn (s : State) (n : Nat) (a : Option Armed) : (s.setArmed n a).ftn = s.ftn := by cases a <;> rfl
@[simp] theorem State.setArmed_cln (s : State) (n : Nat) (a : Option Armed) : (s.setArmed n a).cln = s.cln := by cases a <;> rfl
@[simp] theorem State.setArmed_nvm (s : State) (n : Nat) (a : Option Armed) : (s.setArmed n a).nvm = s.nvm := by cases a <;> rfl
@[simp] theorem State.setArmed_otp (s : State) (n : Nat) (a : Option Armed) : (s.setArmed n a).otp = s.otp := by cases a <;> rfl
@[simp] theorem State.setArmed_psh (s : State) (n : Nat) (a : Option Armed) : (s.setArmed n a).psh = s.psh := by cases a <;> rfl
@[simp] theorem State.setArmed_ksk (s : State) (n : Nat) (a : Option Armed) : (s.setArmed n a).ksk = s.ksk := by cases a <;> rfl
@[simp] theorem State.setArmed_ccp (s : State) (n : Nat) (a : Option Armed) : (s.setArmed n a).ccp = s.ccp := by cases a <;> rfl
@[simp] theorem State.setArmed_hif (s : State) (n : Nat) (a : Option Armed) : (s.setArmed n a).hif = s.hif := by cases a <;> rfl
@[simp] theorem State.setArmed_dbg (s : State) (n : Nat) (a : Option Armed) : (s.setArmed n a).dbg = s.dbg := by cases a <;> rfl
@[simp] theorem State.setArmed_bst (s : State) (n : Nat) (a : Option Armed) : (s.setArmed n a).bst = s.bst := by cases a <;> rfl
@[simp] theorem State.setArmed_pending (s : State) (n : Nat) (a : Option Armed) : (s.setArmed n a).pending = s.pending := by cases a <;> rfl

@[simp] theorem State.setChan_regs (s : State) (e : Nat) (c : Chan) : (s.setChan e c).regs = s.regs := rfl
@[simp] theorem State.setChan_now (s : State) (e : Nat) (c : Chan) : (s.setChan e c).now = s.now := rfl
@[simp] theorem State.setChan_freeCtr (s : State) (e : Nat) (c : Chan) : (s.setChan e c).freeCtr = s.freeCtr := rfl
@[simp] theorem State.setChan_out (s : State) (e : Nat) (c : Chan) : (s.setChan e c).out = s.out := rfl
@[simp] theorem State.setChan_errN (s : State) (e : Nat) (c : Chan) : (s.setChan e c).errN = s.errN := rfl
@[simp] theorem State.setChan_msIrqN (s : State) (e : Nat) (c : Chan) : (s.setChan e c).msIrqN = s.msIrqN := rfl
@[simp] theorem State.setChan_kfd (s : State) (e : Nat) (c : Chan) : (s.setChan e c).kfd = s.kfd := rfl
@[simp] theorem State.setChan_pwr (s : State) (e : Nat) (c : Chan) : (s.setChan e c).pwr = s.pwr := rfl
@[simp] theorem State.setChan_ldg (s : State) (e : Nat) (c : Chan) : (s.setChan e c).ldg = s.ldg := rfl
@[simp] theorem State.setChan_boot (s : State) (e : Nat) (c : Chan) : (s.setChan e c).boot = s.boot := rfl
@[simp] theorem State.setChan_gate (s : State) (e : Nat) (c : Chan) : (s.setChan e c).gate = s.gate := rfl
@[simp] theorem State.setChan_blv (s : State) (e : Nat) (c : Chan) : (s.setChan e c).blv = s.blv := rfl
@[simp] theorem State.setChan_hdg (s : State) (e : Nat) (c : Chan) : (s.setChan e c).hdg = s.hdg := rfl
@[simp] theorem State.setChan_well (s : State) (e : Nat) (c : Chan) : (s.setChan e c).well = s.well := rfl
@[simp] theorem State.setChan_sdl (s : State) (e : Nat) (c : Chan) : (s.setChan e c).sdl = s.sdl := rfl
@[simp] theorem State.setChan_prm (s : State) (e : Nat) (c : Chan) : (s.setChan e c).prm = s.prm := rfl
@[simp] theorem State.setChan_ptr (s : State) (e : Nat) (c : Chan) : (s.setChan e c).ptr = s.ptr := rfl
@[simp] theorem State.setChan_pgl (s : State) (e : Nat) (c : Chan) : (s.setChan e c).pgl = s.pgl := rfl
@[simp] theorem State.setChan_engP (s : State) (e : Nat) (c : Chan) : (s.setChan e c).engP = s.engP := rfl
@[simp] theorem State.setChan_engC (s : State) (e : Nat) (c : Chan) : (s.setChan e c).engC = s.engC := rfl
@[simp] theorem State.setChan_mem (s : State) (e : Nat) (c : Chan) : (s.setChan e c).mem = s.mem := rfl
@[simp] theorem State.setChan_org (s : State) (e : Nat) (c : Chan) : (s.setChan e c).org = s.org := rfl
@[simp] theorem State.setChan_arb (s : State) (e : Nat) (c : Chan) : (s.setChan e c).arb = s.arb := rfl
@[simp] theorem State.setChan_ftn (s : State) (e : Nat) (c : Chan) : (s.setChan e c).ftn = s.ftn := rfl
@[simp] theorem State.setChan_cln (s : State) (e : Nat) (c : Chan) : (s.setChan e c).cln = s.cln := rfl
@[simp] theorem State.setChan_nvm (s : State) (e : Nat) (c : Chan) : (s.setChan e c).nvm = s.nvm := rfl
@[simp] theorem State.setChan_otp (s : State) (e : Nat) (c : Chan) : (s.setChan e c).otp = s.otp := rfl
@[simp] theorem State.setChan_psh (s : State) (e : Nat) (c : Chan) : (s.setChan e c).psh = s.psh := rfl
@[simp] theorem State.setChan_ksk (s : State) (e : Nat) (c : Chan) : (s.setChan e c).ksk = s.ksk := rfl
@[simp] theorem State.setChan_ccp (s : State) (e : Nat) (c : Chan) : (s.setChan e c).ccp = s.ccp := rfl
@[simp] theorem State.setChan_hif (s : State) (e : Nat) (c : Chan) : (s.setChan e c).hif = s.hif := rfl
@[simp] theorem State.setChan_dbg (s : State) (e : Nat) (c : Chan) : (s.setChan e c).dbg = s.dbg := rfl
@[simp] theorem State.setChan_bst (s : State) (e : Nat) (c : Chan) : (s.setChan e c).bst = s.bst := rfl
@[simp] theorem State.setChan_pending (s : State) (e : Nat) (c : Chan) : (s.setChan e c).pending = s.pending := rfl
@[simp] theorem State.setChan_reg (s : State) (e : Nat) (c : Chan) (p o : Nat) : (s.setChan e c).reg p o = s.reg p o := by
  unfold State.reg; rw [State.setChan_regs]

@[simp] theorem State.noteOutcome_regs (s : State) (e i : Nat) : (s.noteOutcome e i).regs = s.regs := rfl
@[simp] theorem State.noteOutcome_now (s : State) (e i : Nat) : (s.noteOutcome e i).now = s.now := rfl
@[simp] theorem State.noteOutcome_freeCtr (s : State) (e i : Nat) : (s.noteOutcome e i).freeCtr = s.freeCtr := rfl
@[simp] theorem State.noteOutcome_out (s : State) (e i : Nat) : (s.noteOutcome e i).out = s.out := rfl
@[simp] theorem State.noteOutcome_errN (s : State) (e i : Nat) : (s.noteOutcome e i).errN = s.errN := rfl
@[simp] theorem State.noteOutcome_msIrqN (s : State) (e i : Nat) : (s.noteOutcome e i).msIrqN = s.msIrqN := rfl
@[simp] theorem State.noteOutcome_kfd (s : State) (e i : Nat) : (s.noteOutcome e i).kfd = s.kfd := rfl
@[simp] theorem State.noteOutcome_pwr (s : State) (e i : Nat) : (s.noteOutcome e i).pwr = s.pwr := rfl
@[simp] theorem State.noteOutcome_ldg (s : State) (e i : Nat) : (s.noteOutcome e i).ldg = s.ldg := rfl
@[simp] theorem State.noteOutcome_boot (s : State) (e i : Nat) : (s.noteOutcome e i).boot = s.boot := rfl
@[simp] theorem State.noteOutcome_gate (s : State) (e i : Nat) : (s.noteOutcome e i).gate = s.gate := rfl
@[simp] theorem State.noteOutcome_blv (s : State) (e i : Nat) : (s.noteOutcome e i).blv = s.blv := rfl
@[simp] theorem State.noteOutcome_hdg (s : State) (e i : Nat) : (s.noteOutcome e i).hdg = s.hdg := rfl
@[simp] theorem State.noteOutcome_well (s : State) (e i : Nat) : (s.noteOutcome e i).well = s.well := rfl
@[simp] theorem State.noteOutcome_sdl (s : State) (e i : Nat) : (s.noteOutcome e i).sdl = s.sdl := rfl
@[simp] theorem State.noteOutcome_prm (s : State) (e i : Nat) : (s.noteOutcome e i).prm = s.prm := rfl
@[simp] theorem State.noteOutcome_ptr (s : State) (e i : Nat) : (s.noteOutcome e i).ptr = s.ptr := rfl
@[simp] theorem State.noteOutcome_pgl (s : State) (e i : Nat) : (s.noteOutcome e i).pgl = s.pgl := rfl
@[simp] theorem State.noteOutcome_engP (s : State) (e i : Nat) : (s.noteOutcome e i).engP = s.engP := rfl
@[simp] theorem State.noteOutcome_engC (s : State) (e i : Nat) : (s.noteOutcome e i).engC = s.engC := rfl
@[simp] theorem State.noteOutcome_mem (s : State) (e i : Nat) : (s.noteOutcome e i).mem = s.mem := rfl
@[simp] theorem State.noteOutcome_org (s : State) (e i : Nat) : (s.noteOutcome e i).org = s.org := rfl
@[simp] theorem State.noteOutcome_arb (s : State) (e i : Nat) : (s.noteOutcome e i).arb = s.arb := rfl
@[simp] theorem State.noteOutcome_ftn (s : State) (e i : Nat) : (s.noteOutcome e i).ftn = s.ftn := rfl
@[simp] theorem State.noteOutcome_cln (s : State) (e i : Nat) : (s.noteOutcome e i).cln = s.cln := rfl
@[simp] theorem State.noteOutcome_nvm (s : State) (e i : Nat) : (s.noteOutcome e i).nvm = s.nvm := rfl
@[simp] theorem State.noteOutcome_otp (s : State) (e i : Nat) : (s.noteOutcome e i).otp = s.otp := rfl
@[simp] theorem State.noteOutcome_psh (s : State) (e i : Nat) : (s.noteOutcome e i).psh = s.psh := rfl
@[simp] theorem State.noteOutcome_ksk (s : State) (e i : Nat) : (s.noteOutcome e i).ksk = s.ksk := rfl
@[simp] theorem State.noteOutcome_ccp (s : State) (e i : Nat) : (s.noteOutcome e i).ccp = s.ccp := rfl
@[simp] theorem State.noteOutcome_hif (s : State) (e i : Nat) : (s.noteOutcome e i).hif = s.hif := rfl
@[simp] theorem State.noteOutcome_dbg (s : State) (e i : Nat) : (s.noteOutcome e i).dbg = s.dbg := rfl
@[simp] theorem State.noteOutcome_bst (s : State) (e i : Nat) : (s.noteOutcome e i).bst = s.bst := rfl
@[simp] theorem State.noteOutcome_pending (s : State) (e i : Nat) : (s.noteOutcome e i).pending = s.pending := rfl
@[simp] theorem State.noteOutcome_reg (s : State) (e i : Nat) (p o : Nat) : (s.noteOutcome e i).reg p o = s.reg p o := by
  unfold State.reg; rw [State.noteOutcome_regs]

@[simp] theorem State.cause_now (s : State) (n : Nat) : (s.cause n).now = s.now := rfl
@[simp] theorem State.cause_freeCtr (s : State) (n : Nat) : (s.cause n).freeCtr = s.freeCtr := rfl
@[simp] theorem State.cause_out (s : State) (n : Nat) : (s.cause n).out = s.out := rfl
@[simp] theorem State.cause_errN (s : State) (n : Nat) : (s.cause n).errN = s.errN := rfl
@[simp] theorem State.cause_msIrqN (s : State) (n : Nat) : (s.cause n).msIrqN = s.msIrqN := rfl
@[simp] theorem State.cause_kfd (s : State) (n : Nat) : (s.cause n).kfd = s.kfd := rfl
@[simp] theorem State.cause_pwr (s : State) (n : Nat) : (s.cause n).pwr = s.pwr := rfl
@[simp] theorem State.cause_ldg (s : State) (n : Nat) : (s.cause n).ldg = s.ldg := rfl
@[simp] theorem State.cause_boot (s : State) (n : Nat) : (s.cause n).boot = s.boot := rfl
@[simp] theorem State.cause_gate (s : State) (n : Nat) : (s.cause n).gate = s.gate := rfl
@[simp] theorem State.cause_blv (s : State) (n : Nat) : (s.cause n).blv = s.blv := rfl
@[simp] theorem State.cause_hdg (s : State) (n : Nat) : (s.cause n).hdg = s.hdg := rfl
@[simp] theorem State.cause_well (s : State) (n : Nat) : (s.cause n).well = s.well := rfl
@[simp] theorem State.cause_sdl (s : State) (n : Nat) : (s.cause n).sdl = s.sdl := rfl
@[simp] theorem State.cause_prm (s : State) (n : Nat) : (s.cause n).prm = s.prm := rfl
@[simp] theorem State.cause_ptr (s : State) (n : Nat) : (s.cause n).ptr = s.ptr := rfl
@[simp] theorem State.cause_pgl (s : State) (n : Nat) : (s.cause n).pgl = s.pgl := rfl
@[simp] theorem State.cause_pav (s : State) (n : Nat) : (s.cause n).pav = s.pav := rfl
@[simp] theorem State.cause_engP (s : State) (n : Nat) : (s.cause n).engP = s.engP := rfl
@[simp] theorem State.cause_engC (s : State) (n : Nat) : (s.cause n).engC = s.engC := rfl
@[simp] theorem State.cause_mem (s : State) (n : Nat) : (s.cause n).mem = s.mem := rfl
@[simp] theorem State.cause_org (s : State) (n : Nat) : (s.cause n).org = s.org := rfl
@[simp] theorem State.cause_arb (s : State) (n : Nat) : (s.cause n).arb = s.arb := rfl
@[simp] theorem State.cause_ftn (s : State) (n : Nat) : (s.cause n).ftn = s.ftn := rfl
@[simp] theorem State.cause_cln (s : State) (n : Nat) : (s.cause n).cln = s.cln := rfl
@[simp] theorem State.cause_nvm (s : State) (n : Nat) : (s.cause n).nvm = s.nvm := rfl
@[simp] theorem State.cause_otp (s : State) (n : Nat) : (s.cause n).otp = s.otp := rfl
@[simp] theorem State.cause_psh (s : State) (n : Nat) : (s.cause n).psh = s.psh := rfl
@[simp] theorem State.cause_ksk (s : State) (n : Nat) : (s.cause n).ksk = s.ksk := rfl
@[simp] theorem State.cause_ccp (s : State) (n : Nat) : (s.cause n).ccp = s.ccp := rfl
@[simp] theorem State.cause_hif (s : State) (n : Nat) : (s.cause n).hif = s.hif := rfl
@[simp] theorem State.cause_dbg (s : State) (n : Nat) : (s.cause n).dbg = s.dbg := rfl
@[simp] theorem State.cause_bst (s : State) (n : Nat) : (s.cause n).bst = s.bst := rfl
@[simp] theorem State.cause_pending (s : State) (n : Nat) : (s.cause n).pending = s.pending := rfl

@[simp] theorem State.setUnmasked_now (s : State) (b : Bool) : (s.setUnmasked b).now = s.now := rfl
@[simp] theorem State.setUnmasked_freeCtr (s : State) (b : Bool) : (s.setUnmasked b).freeCtr = s.freeCtr := rfl
@[simp] theorem State.setUnmasked_out (s : State) (b : Bool) : (s.setUnmasked b).out = s.out := rfl
@[simp] theorem State.setUnmasked_errN (s : State) (b : Bool) : (s.setUnmasked b).errN = s.errN := rfl
@[simp] theorem State.setUnmasked_msIrqN (s : State) (b : Bool) : (s.setUnmasked b).msIrqN = s.msIrqN := rfl
@[simp] theorem State.setUnmasked_kfd (s : State) (b : Bool) : (s.setUnmasked b).kfd = s.kfd := rfl
@[simp] theorem State.setUnmasked_pwr (s : State) (b : Bool) : (s.setUnmasked b).pwr = s.pwr := rfl
@[simp] theorem State.setUnmasked_ldg (s : State) (b : Bool) : (s.setUnmasked b).ldg = s.ldg := rfl
@[simp] theorem State.setUnmasked_boot (s : State) (b : Bool) : (s.setUnmasked b).boot = s.boot := rfl
@[simp] theorem State.setUnmasked_gate (s : State) (b : Bool) : (s.setUnmasked b).gate = s.gate := rfl
@[simp] theorem State.setUnmasked_blv (s : State) (b : Bool) : (s.setUnmasked b).blv = s.blv := rfl
@[simp] theorem State.setUnmasked_hdg (s : State) (b : Bool) : (s.setUnmasked b).hdg = s.hdg := rfl
@[simp] theorem State.setUnmasked_well (s : State) (b : Bool) : (s.setUnmasked b).well = s.well := rfl
@[simp] theorem State.setUnmasked_sdl (s : State) (b : Bool) : (s.setUnmasked b).sdl = s.sdl := rfl
@[simp] theorem State.setUnmasked_prm (s : State) (b : Bool) : (s.setUnmasked b).prm = s.prm := rfl
@[simp] theorem State.setUnmasked_ptr (s : State) (b : Bool) : (s.setUnmasked b).ptr = s.ptr := rfl
@[simp] theorem State.setUnmasked_pgl (s : State) (b : Bool) : (s.setUnmasked b).pgl = s.pgl := rfl
@[simp] theorem State.setUnmasked_pav (s : State) (b : Bool) : (s.setUnmasked b).pav = s.pav := rfl
@[simp] theorem State.setUnmasked_engP (s : State) (b : Bool) : (s.setUnmasked b).engP = s.engP := rfl
@[simp] theorem State.setUnmasked_engC (s : State) (b : Bool) : (s.setUnmasked b).engC = s.engC := rfl
@[simp] theorem State.setUnmasked_mem (s : State) (b : Bool) : (s.setUnmasked b).mem = s.mem := rfl
@[simp] theorem State.setUnmasked_org (s : State) (b : Bool) : (s.setUnmasked b).org = s.org := rfl
@[simp] theorem State.setUnmasked_arb (s : State) (b : Bool) : (s.setUnmasked b).arb = s.arb := rfl
@[simp] theorem State.setUnmasked_ftn (s : State) (b : Bool) : (s.setUnmasked b).ftn = s.ftn := rfl
@[simp] theorem State.setUnmasked_cln (s : State) (b : Bool) : (s.setUnmasked b).cln = s.cln := rfl
@[simp] theorem State.setUnmasked_nvm (s : State) (b : Bool) : (s.setUnmasked b).nvm = s.nvm := rfl
@[simp] theorem State.setUnmasked_otp (s : State) (b : Bool) : (s.setUnmasked b).otp = s.otp := rfl
@[simp] theorem State.setUnmasked_psh (s : State) (b : Bool) : (s.setUnmasked b).psh = s.psh := rfl
@[simp] theorem State.setUnmasked_ksk (s : State) (b : Bool) : (s.setUnmasked b).ksk = s.ksk := rfl
@[simp] theorem State.setUnmasked_ccp (s : State) (b : Bool) : (s.setUnmasked b).ccp = s.ccp := rfl
@[simp] theorem State.setUnmasked_hif (s : State) (b : Bool) : (s.setUnmasked b).hif = s.hif := rfl
@[simp] theorem State.setUnmasked_dbg (s : State) (b : Bool) : (s.setUnmasked b).dbg = s.dbg := rfl
@[simp] theorem State.setUnmasked_bst (s : State) (b : Bool) : (s.setUnmasked b).bst = s.bst := rfl
@[simp] theorem State.setUnmasked_pending (s : State) (b : Bool) : (s.setUnmasked b).pending = s.pending := rfl

@[simp] theorem State.reportCode_regs (s : State) (page kind item cause cls addr : Nat) (inj : Bool) : (s.reportCode page kind item cause cls addr inj).regs = s.regs := rfl
@[simp] theorem State.reportCode_now (s : State) (page kind item cause cls addr : Nat) (inj : Bool) : (s.reportCode page kind item cause cls addr inj).now = s.now := rfl
@[simp] theorem State.reportCode_freeCtr (s : State) (page kind item cause cls addr : Nat) (inj : Bool) : (s.reportCode page kind item cause cls addr inj).freeCtr = s.freeCtr := rfl
@[simp] theorem State.reportCode_out (s : State) (page kind item cause cls addr : Nat) (inj : Bool) : (s.reportCode page kind item cause cls addr inj).out = s.out := rfl
@[simp] theorem State.reportCode_errN (s : State) (page kind item cause cls addr : Nat) (inj : Bool) : (s.reportCode page kind item cause cls addr inj).errN = s.errN := rfl
@[simp] theorem State.reportCode_msIrqN (s : State) (page kind item cause cls addr : Nat) (inj : Bool) : (s.reportCode page kind item cause cls addr inj).msIrqN = s.msIrqN := rfl
@[simp] theorem State.reportCode_kfd (s : State) (page kind item cause cls addr : Nat) (inj : Bool) : (s.reportCode page kind item cause cls addr inj).kfd = s.kfd := rfl
@[simp] theorem State.reportCode_pwr (s : State) (page kind item cause cls addr : Nat) (inj : Bool) : (s.reportCode page kind item cause cls addr inj).pwr = s.pwr := rfl
@[simp] theorem State.reportCode_ldg (s : State) (page kind item cause cls addr : Nat) (inj : Bool) : (s.reportCode page kind item cause cls addr inj).ldg = s.ldg := rfl
@[simp] theorem State.reportCode_boot (s : State) (page kind item cause cls addr : Nat) (inj : Bool) : (s.reportCode page kind item cause cls addr inj).boot = s.boot := rfl
@[simp] theorem State.reportCode_gate (s : State) (page kind item cause cls addr : Nat) (inj : Bool) : (s.reportCode page kind item cause cls addr inj).gate = s.gate := rfl
@[simp] theorem State.reportCode_hdg (s : State) (page kind item cause cls addr : Nat) (inj : Bool) : (s.reportCode page kind item cause cls addr inj).hdg = s.hdg := rfl
@[simp] theorem State.reportCode_well (s : State) (page kind item cause cls addr : Nat) (inj : Bool) : (s.reportCode page kind item cause cls addr inj).well = s.well := rfl
@[simp] theorem State.reportCode_sdl (s : State) (page kind item cause cls addr : Nat) (inj : Bool) : (s.reportCode page kind item cause cls addr inj).sdl = s.sdl := rfl
@[simp] theorem State.reportCode_prm (s : State) (page kind item cause cls addr : Nat) (inj : Bool) : (s.reportCode page kind item cause cls addr inj).prm = s.prm := rfl
@[simp] theorem State.reportCode_ptr (s : State) (page kind item cause cls addr : Nat) (inj : Bool) : (s.reportCode page kind item cause cls addr inj).ptr = s.ptr := rfl
@[simp] theorem State.reportCode_pgl (s : State) (page kind item cause cls addr : Nat) (inj : Bool) : (s.reportCode page kind item cause cls addr inj).pgl = s.pgl := rfl
@[simp] theorem State.reportCode_pav (s : State) (page kind item cause cls addr : Nat) (inj : Bool) : (s.reportCode page kind item cause cls addr inj).pav = s.pav := rfl
@[simp] theorem State.reportCode_engP (s : State) (page kind item cause cls addr : Nat) (inj : Bool) : (s.reportCode page kind item cause cls addr inj).engP = s.engP := rfl
@[simp] theorem State.reportCode_engC (s : State) (page kind item cause cls addr : Nat) (inj : Bool) : (s.reportCode page kind item cause cls addr inj).engC = s.engC := rfl
@[simp] theorem State.reportCode_mem (s : State) (page kind item cause cls addr : Nat) (inj : Bool) : (s.reportCode page kind item cause cls addr inj).mem = s.mem := rfl
@[simp] theorem State.reportCode_org (s : State) (page kind item cause cls addr : Nat) (inj : Bool) : (s.reportCode page kind item cause cls addr inj).org = s.org := rfl
@[simp] theorem State.reportCode_arb (s : State) (page kind item cause cls addr : Nat) (inj : Bool) : (s.reportCode page kind item cause cls addr inj).arb = s.arb := rfl
@[simp] theorem State.reportCode_ftn (s : State) (page kind item cause cls addr : Nat) (inj : Bool) : (s.reportCode page kind item cause cls addr inj).ftn = s.ftn := rfl
@[simp] theorem State.reportCode_cln (s : State) (page kind item cause cls addr : Nat) (inj : Bool) : (s.reportCode page kind item cause cls addr inj).cln = s.cln := rfl
@[simp] theorem State.reportCode_nvm (s : State) (page kind item cause cls addr : Nat) (inj : Bool) : (s.reportCode page kind item cause cls addr inj).nvm = s.nvm := rfl
@[simp] theorem State.reportCode_otp (s : State) (page kind item cause cls addr : Nat) (inj : Bool) : (s.reportCode page kind item cause cls addr inj).otp = s.otp := rfl
@[simp] theorem State.reportCode_psh (s : State) (page kind item cause cls addr : Nat) (inj : Bool) : (s.reportCode page kind item cause cls addr inj).psh = s.psh := rfl
@[simp] theorem State.reportCode_ksk (s : State) (page kind item cause cls addr : Nat) (inj : Bool) : (s.reportCode page kind item cause cls addr inj).ksk = s.ksk := rfl
@[simp] theorem State.reportCode_ccp (s : State) (page kind item cause cls addr : Nat) (inj : Bool) : (s.reportCode page kind item cause cls addr inj).ccp = s.ccp := rfl
@[simp] theorem State.reportCode_hif (s : State) (page kind item cause cls addr : Nat) (inj : Bool) : (s.reportCode page kind item cause cls addr inj).hif = s.hif := rfl
@[simp] theorem State.reportCode_dbg (s : State) (page kind item cause cls addr : Nat) (inj : Bool) : (s.reportCode page kind item cause cls addr inj).dbg = s.dbg := rfl
@[simp] theorem State.reportCode_bst (s : State) (page kind item cause cls addr : Nat) (inj : Bool) : (s.reportCode page kind item cause cls addr inj).bst = s.bst := rfl
@[simp] theorem State.reportCode_pending (s : State) (page kind item cause cls addr : Nat) (inj : Bool) : (s.reportCode page kind item cause cls addr inj).pending = s.pending := rfl
@[simp] theorem State.reportCode_reg (s : State) (page kind item cause cls addr : Nat) (inj : Bool) (p o : Nat) : (s.reportCode page kind item cause cls addr inj).reg p o = s.reg p o := by
  unfold State.reg; rw [State.reportCode_regs]

end Sys2Proof.Machine
end

