-- ==== Sys2Proof/Laws/PerInstr.lean ====
section
/-!
SUPPORT. What holds of every command as syntax, one lemma per constructor: a command whose row puts no condition on its operands
is well formed whatever they are.
-/
namespace Sys2Proof.Laws.Operands
open Sys2Proof.Machine

/-- The row puts a condition on its operands: a length a protocol fixes, the range of a code or measurement. -/
def checked : Instr → Bool
  | .tempConversion _ => true
  | .stateTransferReceived _ => true
  | .digestRecordReceived _ => true
  | .forwardedFrameReceived _ => true
  | .slotRecordReceived _ _ _ _ _ => true
  | .sequenceCheckReceived _ => true
  | .keyReplicationReceived _ => true
  | .backupTempSample _ _ => true
  | .anticollision _ _ _ => true
  | .select _ _ _ => true
  | .noteStage _ _ _ _ => true
  | .pwdAuth _ _ _ => true
  | .auth2 _ _ _ _ => true
  | .proxyAnswerReceived _ => true
  | .unlockResp _ => true
  | .pcieLinkUp _ _ _ => true
  | _ => false

/-- A command without such a condition is well formed. -/
def Statement (i : Instr) : Prop := checked i = false → i.wf = true

theorem registerWrite (port : Port) (addr : Word) (value : Word) : Statement (.registerWrite port addr value) := fun _ => rfl
theorem malformedAccess (port : Port) (addr : Word) (read : Bool) : Statement (.malformedAccess port addr read) := fun _ => rfl
theorem blockEnable (port : Port) (page : Fin 4096) : Statement (.blockEnable port page) := fun _ => rfl
theorem blockReset (port : Port) (page : Fin 4096) : Statement (.blockReset port page) := fun _ => rfl
theorem blockResetComplete (page : Fin 4096) : Statement (.blockResetComplete page) := fun _ => rfl
theorem claimWrite (port : Port) (page : Fin 4096) (value : Word) : Statement (.claimWrite port page value) := fun _ => rfl
theorem lockWrite (port : Port) (page : Fin 4096) : Statement (.lockWrite port page) := fun _ => rfl
theorem shadowPrimaryWrite (port : Port) (page : Fin 4096) (offset : Fin 2048) (value : Word) : Statement (.shadowPrimaryWrite port page offset value) := fun _ => rfl
theorem shadowInverseWrite (port : Port) (page : Fin 4096) (offset : Fin 2048) (value : Word) : Statement (.shadowInverseWrite port page offset value) := fun _ => rfl
theorem shadowWindowExpiry (page : Fin 4096) : Statement (.shadowWindowExpiry page) := fun _ => rfl
theorem shadowMismatch (page : Fin 4096) (offset : Fin 2048) : Statement (.shadowMismatch page offset) := fun _ => rfl
theorem prfWrite (port : Port) (value : Word) : Statement (.prfWrite port value) := fun _ => rfl
theorem powerUp (inOrder : Bool) : Statement (.powerUp inOrder) := fun _ => rfl
theorem supplyDip (x : Supply) : Statement (.supplyDip x) := fun _ => rfl
theorem supplyRecovery (x : Supply) : Statement (.supplyRecovery x) := fun _ => rfl
theorem brownOutReset (x : Supply) : Statement (.brownOutReset x) := fun _ => rfl
theorem vddio18Loss : Statement (.vddio18Loss) := fun _ => rfl
theorem rstNLow : Statement (.rstNLow) := fun _ => rfl
theorem rstNRelease : Statement (.rstNRelease) := fun _ => rfl
theorem deviceResetRelease : Statement (.deviceResetRelease) := fun _ => rfl
theorem bootSequence (sel : Fin 4) (twinB : Bool) (ftnOk : Bool) (avsOk : Bool) (dt : Nat) : Statement (.bootSequence sel twinB ftnOk avsOk dt) := fun _ => rfl
theorem bootSourcePoll (dt : Nat) : Statement (.bootSourcePoll dt) := fun _ => rfl
theorem bootDoorbell (port : Port) (value : Word) : Statement (.bootDoorbell port value) := fun _ => rfl
theorem avsRequest (mv : Fin 1024) : Statement (.avsRequest mv) := fun _ => rfl
theorem avsNoAck : Statement (.avsNoAck) := fun _ => rfl
theorem refclkLoss (refclkB : Bool) : Statement (.refclkLoss refclkB) := fun _ => rfl
theorem sysclkLoss : Statement (.sysclkLoss) := fun _ => rfl
theorem sysclkRecovery : Statement (.sysclkRecovery) := fun _ => rfl
theorem ref10mLoss : Statement (.ref10mLoss) := fun _ => rfl
theorem tempConversion (temps : List Int) : Statement (.tempConversion temps) := fun h => Bool.noConfusion h
theorem rstReqWrite (port : Port) : Statement (.rstReqWrite port) := fun _ => rfl
theorem zrqWrite (port : Port) : Statement (.zrqWrite port) := fun _ => rfl
theorem wdgKick (port : Port) : Statement (.wdgKick port) := fun _ => rfl
theorem wdgPreTimeout : Statement (.wdgPreTimeout) := fun _ => rfl
theorem watchdogExpiry : Statement (.watchdogExpiry) := fun _ => rfl
theorem livenessLoss (x : Strobe) : Statement (.livenessLoss x) := fun _ => rfl
theorem pkgCmdWrite (port : Port) : Statement (.pkgCmdWrite port) := fun _ => rfl
theorem pkgAcceptComplete : Statement (.pkgAcceptComplete) := fun _ => rfl
theorem ptpMessageReceived (eport : Fin 256) (domain : Fin 256) (m : PtpMsg) : Statement (.ptpMessageReceived eport domain m) := fun _ => rfl
theorem ptpMessageTransmit (eport : Fin 256) (kind : Fin 3) : Statement (.ptpMessageTransmit eport kind) := fun _ => rfl
theorem ptpSourceTimeout (announce : Bool) : Statement (.ptpSourceTimeout announce) := fun _ => rfl
theorem ppsEdge (second : Bool) : Statement (.ppsEdge second) := fun _ => rfl
theorem irigFrame (second : Bool) (frame : IrigFrame) : Statement (.irigFrame second frame) := fun _ => rfl
theorem ppsLoss (second : Bool) : Statement (.ppsLoss second) := fun _ => rfl
theorem holdExpired : Statement (.holdExpired) := fun _ => rfl
theorem setCmd (port : Port) : Statement (.setCmd port) := fun _ => rfl
theorem ppsOutRise : Statement (.ppsOutRise) := fun _ => rfl
theorem ppsOutFall : Statement (.ppsOutFall) := fun _ => rfl
theorem sundialEnable (port : Port) : Statement (.sundialEnable port) := fun _ => rfl
theorem sundialDisable (port : Port) : Statement (.sundialDisable port) := fun _ => rfl
theorem refSampleTimeout (second : Bool) : Statement (.refSampleTimeout second) := fun _ => rfl
theorem slotStart (ref10m : Int) (sysclk : Int) : Statement (.slotStart ref10m sysclk) := fun _ => rfl
theorem swapTimer (at_ : Nat) : Statement (.swapTimer at_) := fun _ => rfl
theorem retireExpiry (at_ : Nat) : Statement (.retireExpiry at_) := fun _ => rfl
theorem slotInputFix : Statement (.slotInputFix) := fun _ => rfl
theorem budgetWindowRestart : Statement (.budgetWindowRestart) := fun _ => rfl
theorem cmpArm (port : Port) (unit : Fin 64) (value : Word) : Statement (.cmpArm port unit value) := fun _ => rfl
theorem cmpCancel (port : Port) (unit : Fin 64) (value : Word) : Statement (.cmpCancel port unit value) := fun _ => rfl
theorem cmpReconversion (unit : Fin 64) : Statement (.cmpReconversion unit) := fun _ => rfl
theorem cmpFirstEdge (unit : Fin 64) : Statement (.cmpFirstEdge unit) := fun _ => rfl
theorem cmpReturnEdge (unit : Fin 64) : Statement (.cmpReturnEdge unit) := fun _ => rfl
theorem timeSLoRead (port : Port) : Statement (.timeSLoRead port) := fun _ => rfl
theorem angleRead (port : Port) : Statement (.angleRead port) := fun _ => rfl
theorem sdlEvtRead (port : Port) : Statement (.sdlEvtRead port) := fun _ => rfl
theorem frameReceived (eport : Fin 256) (octets : List Byte) (lead : Nat) : Statement (.frameReceived eport octets lead) := fun _ => rfl
theorem frameTransmit (eport : Fin 256) : Statement (.frameTransmit eport) := fun _ => rfl
theorem laneSignalChange (lane : Fin 64) (sig : Bool) (cdr : Bool) (blk : Bool) (link : Bool) (fec : Bool) (corr : Nat) (uncorr : Nat) : Statement (.laneSignalChange lane sig cdr blk link fec corr uncorr) := fun _ => rfl
theorem phyStatusChange (eport : Fin 256) (link : Bool) (speed : Fin 8) : Statement (.phyStatusChange eport link speed) := fun _ => rfl
theorem gclConfigChange (port : Port) (eport : Fin 256) (value : Word) : Statement (.gclConfigChange port eport value) := fun _ => rfl
theorem gateCycleStart (eport : Fin 256) : Statement (.gateCycleStart eport) := fun _ => rfl
theorem gateEntryExpiry (eport : Fin 256) : Statement (.gateEntryExpiry eport) := fun _ => rfl
theorem gclDataAccess (port : Port) (group : Fin 16) (write : Option Word) : Statement (.gclDataAccess port group write) := fun _ => rfl
theorem pairEnable (port : Port) (pair : Fin 32) (value : Word) : Statement (.pairEnable port pair value) := fun _ => rfl
theorem pairDisable (port : Port) (pair : Fin 32) (value : Word) : Statement (.pairDisable port pair value) := fun _ => rfl
theorem supervisionTx (pair : Fin 32) : Statement (.supervisionTx pair) := fun _ => rfl
theorem fdbAgeOut (index : Fin 65536) : Statement (.fdbAgeOut index) := fun _ => rfl
theorem tblRead (port : Port) (table : Fin 3) (index : Fin 65536) : Statement (.tblRead port table index) := fun _ => rfl
theorem tblWrite (port : Port) (table : Fin 3) (index : Fin 65536) : Statement (.tblWrite port table index) := fun _ => rfl
theorem tblDelete (port : Port) (table : Fin 3) (index : Fin 65536) : Statement (.tblDelete port table index) := fun _ => rfl
theorem tblSearch (port : Port) (table : Fin 3) (index : Fin 65536) : Statement (.tblSearch port table index) := fun _ => rfl
theorem portCfgWrite (port : Port) (eport : Fin 256) (value : Word) : Statement (.portCfgWrite port eport value) := fun _ => rfl
theorem follyRunStart (port : Port) (eport : Fin 256) (value : Word) : Statement (.follyRunStart port eport value) := fun _ => rfl
theorem follyRunStop (port : Port) (eport : Fin 256) (value : Word) : Statement (.follyRunStop port eport value) := fun _ => rfl
theorem follyReorderTimeout (eport : Fin 256) : Statement (.follyReorderTimeout eport) := fun _ => rfl
theorem follyDelayRelease (eport : Fin 256) : Statement (.follyDelayRelease eport) := fun _ => rfl
theorem frameWalk (second : Bool) (dt : Nat) : Statement (.frameWalk second dt) := fun _ => rfl
theorem tagCheckDone (n : Nat) (dt : Nat) : Statement (.tagCheckDone n dt) := fun _ => rfl
theorem gooseStale (sub : Fin 8192) : Statement (.gooseStale sub) := fun _ => rfl
theorem fmtDataHiWrite (port : Port) (value : Word) : Statement (.fmtDataHiWrite port value) := fun _ => rfl
theorem idDataHiWrite (port : Port) (value : Word) : Statement (.idDataHiWrite port value) := fun _ => rfl
theorem excRead (port : Port) (goose : Bool) : Statement (.excRead port goose) := fun _ => rfl
theorem gooseRetransmit (pub : Fin 1024) : Statement (.gooseRetransmit pub) := fun _ => rfl
theorem svFrameBuild (pub : Fin 256) : Statement (.svFrameBuild pub) := fun _ => rfl
theorem pubFrameHandover (dt : Nat) : Statement (.pubFrameHandover dt) := fun _ => rfl
theorem pergolaEnable (port : Port) : Statement (.pergolaEnable port) := fun _ => rfl
theorem enableCheckComplete (dt : Nat) : Statement (.enableCheckComplete dt) := fun _ => rfl
theorem pergolaDisable (port : Port) : Statement (.pergolaDisable port) := fun _ => rfl
theorem firstDispatch : Statement (.firstDispatch) := fun _ => rfl
theorem runDispatch : Statement (.runDispatch) := fun _ => rfl
theorem budgetPreempt : Statement (.budgetPreempt) := fun _ => rfl
theorem schDataWrite (port : Port) (value : Word) : Statement (.schDataWrite port value) := fun _ => rfl
theorem ovrLogRead (port : Port) : Statement (.ovrLogRead port) := fun _ => rfl
theorem bundleIssue (cpu : Cpu) : Statement (.bundleIssue cpu) := fun _ => rfl
theorem resultLand (cpu : Cpu) : Statement (.resultLand cpu) := fun _ => rfl
theorem interruptEntry : Statement (.interruptEntry) := fun _ => rfl
theorem nmiEntry : Statement (.nmiEntry) := fun _ => rfl
theorem controlTransferTaken (cpu : Cpu) : Statement (.controlTransferTaken cpu) := fun _ => rfl
theorem aluAdd (cpu : Cpu) (unit : Fin 4) (o : Word) (t : Word) : Statement (.aluAdd cpu unit o t) := fun _ => rfl
theorem aluSub (cpu : Cpu) (unit : Fin 4) (o : Word) (t : Word) : Statement (.aluSub cpu unit o t) := fun _ => rfl
theorem aluAdds (cpu : Cpu) (unit : Fin 4) (o : Word) (t : Word) : Statement (.aluAdds cpu unit o t) := fun _ => rfl
theorem aluSubs (cpu : Cpu) (unit : Fin 4) (o : Word) (t : Word) : Statement (.aluSubs cpu unit o t) := fun _ => rfl
theorem aluAnd (cpu : Cpu) (unit : Fin 4) (o : Word) (t : Word) : Statement (.aluAnd cpu unit o t) := fun _ => rfl
theorem aluOr (cpu : Cpu) (unit : Fin 4) (o : Word) (t : Word) : Statement (.aluOr cpu unit o t) := fun _ => rfl
theorem aluXor (cpu : Cpu) (unit : Fin 4) (o : Word) (t : Word) : Statement (.aluXor cpu unit o t) := fun _ => rfl
theorem aluAndn (cpu : Cpu) (unit : Fin 4) (o : Word) (t : Word) : Statement (.aluAndn cpu unit o t) := fun _ => rfl
theorem aluShl (cpu : Cpu) (unit : Fin 4) (o : Word) (t : Word) : Statement (.aluShl cpu unit o t) := fun _ => rfl
theorem aluShr (cpu : Cpu) (unit : Fin 4) (o : Word) (t : Word) : Statement (.aluShr cpu unit o t) := fun _ => rfl
theorem aluSra (cpu : Cpu) (unit : Fin 4) (o : Word) (t : Word) : Statement (.aluSra cpu unit o t) := fun _ => rfl
theorem aluMin (cpu : Cpu) (unit : Fin 4) (o : Word) (t : Word) : Statement (.aluMin cpu unit o t) := fun _ => rfl
theorem aluMax (cpu : Cpu) (unit : Fin 4) (o : Word) (t : Word) : Statement (.aluMax cpu unit o t) := fun _ => rfl
theorem aluMinu (cpu : Cpu) (unit : Fin 4) (o : Word) (t : Word) : Statement (.aluMinu cpu unit o t) := fun _ => rfl
theorem aluMaxu (cpu : Cpu) (unit : Fin 4) (o : Word) (t : Word) : Statement (.aluMaxu cpu unit o t) := fun _ => rfl
theorem aluEq (cpu : Cpu) (unit : Fin 4) (o : Word) (t : Word) : Statement (.aluEq cpu unit o t) := fun _ => rfl
theorem aluNe (cpu : Cpu) (unit : Fin 4) (o : Word) (t : Word) : Statement (.aluNe cpu unit o t) := fun _ => rfl
theorem aluLt (cpu : Cpu) (unit : Fin 4) (o : Word) (t : Word) : Statement (.aluLt cpu unit o t) := fun _ => rfl
theorem aluLtu (cpu : Cpu) (unit : Fin 4) (o : Word) (t : Word) : Statement (.aluLtu cpu unit o t) := fun _ => rfl
theorem aluGe (cpu : Cpu) (unit : Fin 4) (o : Word) (t : Word) : Statement (.aluGe cpu unit o t) := fun _ => rfl
theorem aluGeu (cpu : Cpu) (unit : Fin 4) (o : Word) (t : Word) : Statement (.aluGeu cpu unit o t) := fun _ => rfl
theorem aluAbs (cpu : Cpu) (unit : Fin 4) (o : Word) (t : Word) : Statement (.aluAbs cpu unit o t) := fun _ => rfl
theorem aluPass (cpu : Cpu) (unit : Fin 4) (o : Word) (t : Word) : Statement (.aluPass cpu unit o t) := fun _ => rfl
theorem macMacq (cpu : Cpu) (unit : Fin 8) (o : Word) (t : Word) : Statement (.macMacq cpu unit o t) := fun _ => rfl
theorem macMul (cpu : Cpu) (unit : Fin 8) (o : Word) (t : Word) : Statement (.macMul cpu unit o t) := fun _ => rfl
theorem macMulh (cpu : Cpu) (unit : Fin 8) (o : Word) (t : Word) : Statement (.macMulh cpu unit o t) := fun _ => rfl
theorem macMulq (cpu : Cpu) (unit : Fin 8) (o : Word) (t : Word) : Statement (.macMulq cpu unit o t) := fun _ => rfl
theorem macMac (cpu : Cpu) (unit : Fin 8) (o : Word) (t : Word) : Statement (.macMac cpu unit o t) := fun _ => rfl
theorem macClr (cpu : Cpu) (unit : Fin 8) (o : Word) (t : Word) : Statement (.macClr cpu unit o t) := fun _ => rfl
theorem macLd (cpu : Cpu) (unit : Fin 8) (o : Word) (t : Word) : Statement (.macLd cpu unit o t) := fun _ => rfl
theorem macRdh (cpu : Cpu) (unit : Fin 8) (o : Word) (t : Word) : Statement (.macRdh cpu unit o t) := fun _ => rfl
theorem fmaFma (cpu : Cpu) (unit : Fin 4) (o : Word) (o2 : Word) (t : Word) : Statement (.fmaFma cpu unit o o2 t) := fun _ => rfl
theorem fmaFadd (cpu : Cpu) (unit : Fin 4) (o : Word) (o2 : Word) (t : Word) : Statement (.fmaFadd cpu unit o o2 t) := fun _ => rfl
theorem fmaFsub (cpu : Cpu) (unit : Fin 4) (o : Word) (o2 : Word) (t : Word) : Statement (.fmaFsub cpu unit o o2 t) := fun _ => rfl
theorem fmaFmul (cpu : Cpu) (unit : Fin 4) (o : Word) (o2 : Word) (t : Word) : Statement (.fmaFmul cpu unit o o2 t) := fun _ => rfl
theorem fmaFmin (cpu : Cpu) (unit : Fin 4) (o : Word) (o2 : Word) (t : Word) : Statement (.fmaFmin cpu unit o o2 t) := fun _ => rfl
theorem fmaFmax (cpu : Cpu) (unit : Fin 4) (o : Word) (o2 : Word) (t : Word) : Statement (.fmaFmax cpu unit o o2 t) := fun _ => rfl
theorem fmaFabs (cpu : Cpu) (unit : Fin 4) (o : Word) (o2 : Word) (t : Word) : Statement (.fmaFabs cpu unit o o2 t) := fun _ => rfl
theorem fmaItof (cpu : Cpu) (unit : Fin 4) (o : Word) (o2 : Word) (t : Word) : Statement (.fmaItof cpu unit o o2 t) := fun _ => rfl
theorem fmaQtof (cpu : Cpu) (unit : Fin 4) (o : Word) (o2 : Word) (t : Word) : Statement (.fmaQtof cpu unit o o2 t) := fun _ => rfl
theorem fmaFtoq (cpu : Cpu) (unit : Fin 4) (o : Word) (o2 : Word) (t : Word) : Statement (.fmaFtoq cpu unit o o2 t) := fun _ => rfl
theorem fmaFtoi (cpu : Cpu) (unit : Fin 4) (o : Word) (o2 : Word) (t : Word) : Statement (.fmaFtoi cpu unit o o2 t) := fun _ => rfl
theorem fmaFlt (cpu : Cpu) (unit : Fin 4) (o : Word) (o2 : Word) (t : Word) : Statement (.fmaFlt cpu unit o o2 t) := fun _ => rfl
theorem fmaFeq (cpu : Cpu) (unit : Fin 4) (o : Word) (o2 : Word) (t : Word) : Statement (.fmaFeq cpu unit o o2 t) := fun _ => rfl
theorem corSincos (cpu : Cpu) (unit : Fin 2) (o : Word) (o2 : Word) (t : Word) : Statement (.corSincos cpu unit o o2 t) := fun _ => rfl
theorem corAtan2 (cpu : Cpu) (unit : Fin 2) (o : Word) (o2 : Word) (t : Word) : Statement (.corAtan2 cpu unit o o2 t) := fun _ => rfl
theorem corRot (cpu : Cpu) (unit : Fin 2) (o : Word) (o2 : Word) (t : Word) : Statement (.corRot cpu unit o o2 t) := fun _ => rfl
theorem divDiv (cpu : Cpu) (unit : Fin 2) (o : Word) (t : Word) : Statement (.divDiv cpu unit o t) := fun _ => rfl
theorem divDivu (cpu : Cpu) (unit : Fin 2) (o : Word) (t : Word) : Statement (.divDivu cpu unit o t) := fun _ => rfl
theorem divDivq (cpu : Cpu) (unit : Fin 2) (o : Word) (t : Word) : Statement (.divDivq cpu unit o t) := fun _ => rfl
theorem winLw (unit : Fin 2) (o : Word) (d : Word) (t : Word) : Statement (.winLw unit o d t) := fun _ => rfl
theorem winLc (unit : Fin 2) (o : Word) (d : Word) (t : Word) : Statement (.winLc unit o d t) := fun _ => rfl
theorem winLt (unit : Fin 2) (o : Word) (d : Word) (t : Word) : Statement (.winLt unit o d t) := fun _ => rfl
theorem winLg (unit : Fin 2) (o : Word) (d : Word) (t : Word) : Statement (.winLg unit o d t) := fun _ => rfl
theorem winLo (unit : Fin 2) (o : Word) (d : Word) (t : Word) : Statement (.winLo unit o d t) := fun _ => rfl
theorem winCrv (unit : Fin 2) (o : Word) (d : Word) (t : Word) : Statement (.winCrv unit o d t) := fun _ => rfl
theorem winFsm (unit : Fin 2) (o : Word) (d : Word) (t : Word) : Statement (.winFsm unit o d t) := fun _ => rfl
theorem winSc (unit : Fin 2) (o : Word) (d : Word) (t : Word) : Statement (.winSc unit o d t) := fun _ => rfl
theorem winSo (unit : Fin 2) (o : Word) (d : Word) (t : Word) : Statement (.winSo unit o d t) := fun _ => rfl
theorem winSs (unit : Fin 2) (o : Word) (d : Word) (t : Word) : Statement (.winSs unit o d t) := fun _ => rfl
theorem winSq (unit : Fin 2) (o : Word) (d : Word) (t : Word) : Statement (.winSq unit o d t) := fun _ => rfl
theorem winSa (unit : Fin 2) (o : Word) (d : Word) (t : Word) : Statement (.winSa unit o d t) := fun _ => rfl
theorem winSe (unit : Fin 2) (o : Word) (d : Word) (t : Word) : Statement (.winSe unit o d t) := fun _ => rfl
theorem lsuLw (o : Word) (t : Word) : Statement (.lsuLw o t) := fun _ => rfl
theorem lsuLh (o : Word) (t : Word) : Statement (.lsuLh o t) := fun _ => rfl
theorem lsuLhu (o : Word) (t : Word) : Statement (.lsuLhu o t) := fun _ => rfl
theorem lsuLb (o : Word) (t : Word) : Statement (.lsuLb o t) := fun _ => rfl
theorem lsuLbu (o : Word) (t : Word) : Statement (.lsuLbu o t) := fun _ => rfl
theorem lsuSw (o : Word) (d : Word) (t : Word) : Statement (.lsuSw o d t) := fun _ => rfl
theorem lsuSh (o : Word) (d : Word) (t : Word) : Statement (.lsuSh o d t) := fun _ => rfl
theorem lsuSb (o : Word) (d : Word) (t : Word) : Statement (.lsuSb o d t) := fun _ => rfl
theorem lsuSync : Statement (.lsuSync) := fun _ => rfl
theorem storeComplete : Statement (.storeComplete) := fun _ => rfl
theorem ctlJmp (cpu : Cpu) (t : Word) : Statement (.ctlJmp cpu t) := fun _ => rfl
theorem ctlBr (cpu : Cpu) (t : Word) : Statement (.ctlBr cpu t) := fun _ => rfl
theorem ctlCall (cpu : Cpu) (t : Word) : Statement (.ctlCall cpu t) := fun _ => rfl
theorem ctlCallr (cpu : Cpu) (t : Word) : Statement (.ctlCallr cpu t) := fun _ => rfl
theorem ctlRet (cpu : Cpu) : Statement (.ctlRet cpu) := fun _ => rfl
theorem ctlEnd (cpu : Cpu) : Statement (.ctlEnd cpu) := fun _ => rfl
theorem ctlBrk (cpu : Cpu) : Statement (.ctlBrk cpu) := fun _ => rfl
theorem ctlEret (cpu : Cpu) : Statement (.ctlEret cpu) := fun _ => rfl
theorem ctlWfi (cpu : Cpu) : Statement (.ctlWfi cpu) := fun _ => rfl
theorem wfiResume : Statement (.wfiResume) := fun _ => rfl
theorem stkPush (cpu : Cpu) (t : Word) : Statement (.stkPush cpu t) := fun _ => rfl
theorem stkPop (cpu : Cpu) : Statement (.stkPop cpu) := fun _ => rfl
theorem stkPeek (cpu : Cpu) (t : Word) : Statement (.stkPeek cpu t) := fun _ => rfl
theorem repT (cpu : Cpu) (t : Word) : Statement (.repT cpu t) := fun _ => rfl
theorem repTn (cpu : Cpu) (t : Word) : Statement (.repTn cpu t) := fun _ => rfl
theorem bndChk (cpu : Cpu) (lo : Word) (hi : Word) (t : Word) : Statement (.bndChk cpu lo hi t) := fun _ => rfl
theorem bndChku (cpu : Cpu) (lo : Word) (hi : Word) (t : Word) : Statement (.bndChku cpu lo hi t) := fun _ => rfl
theorem bndClp (cpu : Cpu) (lo : Word) (hi : Word) (t : Word) : Statement (.bndClp cpu lo hi t) := fun _ => rfl
theorem captureBlockCopy (dfn : Fin 8) : Statement (.captureBlockCopy dfn) := fun _ => rfl
theorem ctxDataAccess (port : Port) (write : Option Word) : Statement (.ctxDataAccess port write) := fun _ => rfl
theorem trapLogRead (port : Port) : Statement (.trapLogRead port) := fun _ => rfl
theorem evqRead (port : Port) : Statement (.evqRead port) := fun _ => rfl
theorem load (port : Port) (nxt : Bool) (slot : Fin 8192) : Statement (.load port nxt slot) := fun _ => rfl
theorem transportLoadComplete : Statement (.transportLoadComplete) := fun _ => rfl
theorem swapAt (port : Port) (slot : Fin 8192) : Statement (.swapAt port slot) := fun _ => rfl
theorem erase (port : Port) (nxt : Bool) (both : Bool) (slot : Fin 8192) : Statement (.erase port nxt both slot) := fun _ => rfl
theorem exportBlob (port : Port) (nxt : Bool) (slot : Fin 8192) : Statement (.exportBlob port nxt slot) := fun _ => rfl
theorem bbrGen (port : Port) : Statement (.bbrGen port) := fun _ => rfl
theorem kekDerive (port : Port) : Statement (.kekDerive port) := fun _ => rfl
theorem ringHeadWrite (port : Port) (ring : Fin 4) (value : Word) : Statement (.ringHeadWrite port ring value) := fun _ => rfl
theorem ringDisable (port : Port) (ring : Fin 4) (value : Word) : Statement (.ringDisable port ring value) := fun _ => rfl
theorem coreTakeDescriptor : Statement (.coreTakeDescriptor) := fun _ => rfl
theorem descriptorComplete (cpu : Fin 48) : Statement (.descriptorComplete cpu) := fun _ => rfl
theorem hash (port : Port) : Statement (.hash port) := fun _ => rfl
theorem p256Verify (port : Port) : Statement (.p256Verify port) := fun _ => rfl
theorem p256Sign (port : Port) (ksrc : Fin 4) (esel : Fin 4) : Statement (.p256Sign port ksrc esel) := fun _ => rfl
theorem p256Ecdh (port : Port) (ksrc : Fin 4) (esel : Fin 4) : Statement (.p256Ecdh port ksrc esel) := fun _ => rfl
theorem p256Keygen (port : Port) (ksrc : Fin 4) (esel : Fin 4) : Statement (.p256Keygen port ksrc esel) := fun _ => rfl
theorem attest (port : Port) : Statement (.attest port) := fun _ => rfl
theorem modadd (port : Port) (masked : Bool) (words : Fin 32) : Statement (.modadd port masked words) := fun _ => rfl
theorem modsub (port : Port) (masked : Bool) (words : Fin 32) : Statement (.modsub port masked words) := fun _ => rfl
theorem modmul (port : Port) (masked : Bool) (words : Fin 32) : Statement (.modmul port masked words) := fun _ => rfl
theorem modexp (port : Port) (masked : Bool) (words : Fin 32) : Statement (.modexp port masked words) := fun _ => rfl
theorem clear (port : Port) : Statement (.clear port) := fun _ => rfl
theorem abort (port : Port) : Statement (.abort port) := fun _ => rfl
theorem arbTimedPhaseStart : Statement (.arbTimedPhaseStart) := fun _ => rfl
theorem arbOperationComplete : Statement (.arbOperationComplete) := fun _ => rfl
theorem arbPreempt : Statement (.arbPreempt) := fun _ => rfl
theorem scrDataAccess (port : Port) (write : Option Word) : Statement (.scrDataAccess port write) := fun _ => rfl
theorem fountainReady : Statement (.fountainReady) := fun _ => rfl
theorem fountainStartupTimeout : Statement (.fountainStartupTimeout) := fun _ => rfl
theorem healthTestFail (cause : HealthFail) : Statement (.healthTestFail cause) := fun _ => rfl
theorem ftnRequestServed : Statement (.ftnRequestServed) := fun _ => rfl
theorem ftnOut0Read (port : Port) : Statement (.ftnOut0Read port) := fun _ => rfl
theorem ftnReseed (port : Port) : Statement (.ftnReseed port) := fun _ => rfl
theorem clnEnable (port : Port) : Statement (.clnEnable port) := fun _ => rfl
theorem peerHeartbeatSeen (side : Fin 2) (peer : PeerState) (delay : Nat) : Statement (.peerHeartbeatSeen side peer delay) := fun _ => rfl
theorem waitTimeout : Statement (.waitTimeout) := fun _ => rfl
theorem attachRetry : Statement (.attachRetry) := fun _ => rfl
theorem attachMessageReceived (m : AttachMsg) : Statement (.attachMessageReceived m) := fun _ => rfl
theorem stateTransferReceived (item : XferItem) : Statement (.stateTransferReceived item) := fun h => Bool.noConfusion h
theorem digestRecordReceived (d : PeerDigest) : Statement (.digestRecordReceived d) := fun h => Bool.noConfusion h
theorem forwardTimeout : Statement (.forwardTimeout) := fun _ => rfl
theorem forwardedFrameReceived (frame : FwdFrame) : Statement (.forwardedFrameReceived frame) := fun h => Bool.noConfusion h
theorem slotRecordReceived (rec_ : List Word) (roles : Fin 32) (handed : Fin 32) (leaving : Bool) (ofs : Int) : Statement (.slotRecordReceived rec_ roles handed leaving ofs) := fun h => Bool.noConfusion h
theorem slotRecordSplit : Statement (.slotRecordSplit) := fun _ => rfl
theorem sequenceCheckReceived (counters : List (Nat × Nat × Nat)) : Statement (.sequenceCheckReceived counters) := fun h => Bool.noConfusion h
theorem timeOffsetAlarm (ofs : Int) : Statement (.timeOffsetAlarm ofs) := fun _ => rfl
theorem sideLoss (side : Fin 2) : Statement (.sideLoss side) := fun _ => rfl
theorem peerLoss (us : Nat) : Statement (.peerLoss us) := fun _ => rfl
theorem attach (port : Port) : Statement (.attach port) := fun _ => rfl
theorem detach (port : Port) : Statement (.detach port) := fun _ => rfl
theorem handRoles (port : Port) : Statement (.handRoles port) := fun _ => rfl
theorem keysync (port : Port) : Statement (.keysync port) := fun _ => rfl
theorem keyReplicationReceived (m : KeyMsg) : Statement (.keyReplicationReceived m) := fun h => Bool.noConfusion h
theorem zeroisePropagationReceived : Statement (.zeroisePropagationReceived) := fun _ => rfl
theorem certAddrWrite (port : Port) (value : Word) : Statement (.certAddrWrite port value) := fun _ => rfl
theorem certVerifyComplete : Statement (.certVerifyComplete) := fun _ => rfl
theorem takeLogRead (port : Port) : Statement (.takeLogRead port) := fun _ => rfl
theorem nvmErase (port : Port) : Statement (.nvmErase port) := fun _ => rfl
theorem nvmProgram (port : Port) : Statement (.nvmProgram port) := fun _ => rfl
theorem nvmVerify (port : Port) (margin : Fin 4) (cmpSrc : Bool) : Statement (.nvmVerify port margin cmpSrc) := fun _ => rfl
theorem nvmUnitDone : Statement (.nvmUnitDone) := fun _ => rfl
theorem nvmRunResume : Statement (.nvmRunResume) := fun _ => rfl
theorem patrolScrubRead (region : Fin 16) (word : Nat) : Statement (.patrolScrubRead region word) := fun _ => rfl
theorem reactionStep (dt : Nat) : Statement (.reactionStep dt) := fun _ => rfl
theorem fenceCmd (port : Port) : Statement (.fenceCmd port) := fun _ => rfl
theorem fenceLift (peer : Option (Word × Nat)) : Statement (.fenceLift peer) := fun _ => rfl
theorem histClr (port : Port) : Statement (.histClr port) := fun _ => rfl
theorem hist0Read (port : Port) : Statement (.hist0Read port) := fun _ => rfl
theorem lightMesh (nanoamps : Nat) : Statement (.lightMesh nanoamps) := fun _ => rfl
theorem lightCellRefresh (decayed : Fin 4097) : Statement (.lightCellRefresh decayed) := fun _ => rfl
theorem lightDisagree : Statement (.lightDisagree) := fun _ => rfl
theorem supplyGlitch (ns : Nat) : Statement (.supplyGlitch ns) := fun _ => rfl
theorem clockGlitch : Statement (.clockGlitch) := fun _ => rfl
theorem backupTempSample (temp : Int) (ticks : Nat) : Statement (.backupTempSample temp ticks) := fun h => Bool.noConfusion h
theorem backupAlarm (mask : Fin 256) (ticks : Nat) : Statement (.backupAlarm mask ticks) := fun _ => rfl
theorem cardInsertion : Statement (.cardInsertion) := fun _ => rfl
theorem cardRemoval : Statement (.cardRemoval) := fun _ => rfl
theorem cardResponse (answer : CardAnswer) (detHigh : Bool) : Statement (.cardResponse answer detHigh) := fun _ => rfl
theorem cardBusyRelease : Statement (.cardBusyRelease) := fun _ => rfl
theorem cardBusyTimeout (detHigh : Bool) : Statement (.cardBusyTimeout detHigh) := fun _ => rfl
theorem read (port : Port) (count : Fin 256) : Statement (.read port count) := fun _ => rfl
theorem write (port : Port) (count : Fin 256) : Statement (.write port count) := fun _ => rfl
theorem sleepClk (port : Port) : Statement (.sleepClk port) := fun _ => rfl
theorem sleepOff (port : Port) : Statement (.sleepOff port) := fun _ => rfl
theorem wake (port : Port) : Statement (.wake port) := fun _ => rfl
theorem discard (port : Port) : Statement (.discard port) := fun _ => rfl
theorem fieldAppear (strong : Bool) : Statement (.fieldAppear strong) := fun _ => rfl
theorem fieldCollapse : Statement (.fieldCollapse) := fun _ => rfl
theorem reqa : Statement (.reqa) := fun _ => rfl
theorem wupa : Statement (.wupa) := fun _ => rfl
theorem anticollision (level : Fin 3) (k : Fin 40) (uid : List Byte) : Statement (.anticollision level k uid) := fun h => Bool.noConfusion h
theorem select (level : Fin 3) (uid : List Byte) (crcOk : Bool) : Statement (.select level uid crcOk) := fun h => Bool.noConfusion h
theorem hlta (crcOk : Bool) (mac : List Byte) : Statement (.hlta crcOk mac) := fun _ => rfl
theorem invalidTagFrame : Statement (.invalidTagFrame) := fun _ => rfl
theorem invBegin (haltToo : Bool) (crcOk : Bool) : Statement (.invBegin haltToo crcOk) := fun _ => rfl
theorem invNext (crcOk : Bool) : Statement (.invNext crcOk) := fun _ => rfl
theorem invAck (handle : Fin 65536) (crcOk : Bool) : Statement (.invAck handle crcOk) := fun _ => rfl
theorem invTree (crcOk : Bool) : Statement (.invTree crcOk) := fun _ => rfl
theorem readRec (rec_ : Fin 256) (ofs : Fin 256) (crcOk : Bool) (mac : List Byte) : Statement (.readRec rec_ ofs crcOk mac) := fun _ => rfl
theorem noteStage (ofs : Fin 256) (data : List Byte) (crcOk : Bool) (mac : List Byte) : Statement (.noteStage ofs data crcOk mac) := fun h => Bool.noConfusion h
theorem noteCommit (seq : Fin 65536) (cut : Option Nat) (crcOk : Bool) (mac : List Byte) : Statement (.noteCommit seq cut crcOk mac) := fun _ => rfl
theorem pwdAuth (pwd : List Byte) (crcOk : Bool) (mac : List Byte) : Statement (.pwdAuth pwd crcOk mac) := fun h => Bool.noConfusion h
theorem pwdHoldoffExpiry : Statement (.pwdHoldoffExpiry) := fun _ => rfl
theorem auth1 (keyNo : Fin 256) (crcOk : Bool) (mac : List Byte) : Statement (.auth1 keyNo crcOk mac) := fun _ => rfl
theorem auth2 (na : List Byte) (tr : List Byte) (crcOk : Bool) (mac : List Byte) : Statement (.auth2 na tr crcOk mac) := fun h => Bool.noConfusion h
theorem regRd (addr : Word) (crcOk : Bool) (mac : List Byte) : Statement (.regRd addr crcOk mac) := fun _ => rfl
theorem regWr (pair : Bool) (addr : Word) (value : Word) (crcOk : Bool) (mac : List Byte) : Statement (.regWr pair addr value crcOk mac) := fun _ => rfl
theorem kskReadRec (port : Port) (rec_ : Fin 8) : Statement (.kskReadRec port rec_) := fun _ => rfl
theorem kskWriteRec (port : Port) (rec_ : Fin 8) : Statement (.kskWriteRec port rec_) := fun _ => rfl
theorem keyFromSlot (port : Port) (slot : Fin 8192) : Statement (.keyFromSlot port slot) := fun _ => rfl
theorem keyClear (port : Port) : Statement (.keyClear port) := fun _ => rfl
theorem pwdSet (port : Port) : Statement (.pwdSet port) := fun _ => rfl
theorem pwdUnblock (port : Port) : Statement (.pwdUnblock port) := fun _ => rfl
theorem gthNarrowWrite (port : Port) (clrW : BitVec 9) (clrR : BitVec 9) (all : Bool) : Statement (.gthNarrowWrite port clrW clrR all) := fun _ => rfl
theorem proxyRead (port : Port) (twin : Bool) : Statement (.proxyRead port twin) := fun _ => rfl
theorem proxyWrite (port : Port) (pair : Bool) (twin : Bool) : Statement (.proxyWrite port pair twin) := fun _ => rfl
theorem proxyAccessReceived (write : Bool) (pair : Bool) (addr : Word) (value : Word) : Statement (.proxyAccessReceived write pair addr value) := fun _ => rfl
theorem proxyAnswerReceived (answer : Option (Nat × Word)) : Statement (.proxyAnswerReceived answer) := fun h => Bool.noConfusion h
theorem gthLogRead (port : Port) : Statement (.gthLogRead port) := fun _ => rfl
theorem lockstepError (parity : Bool) : Statement (.lockstepError parity) := fun _ => rfl
theorem rekey (port : Port) : Statement (.rekey port) := fun _ => rfl
theorem pcieReset (perst : Bool) : Statement (.pcieReset perst) := fun _ => rfl
theorem bar2Access (offset : Fin 0x8000000) (count : Fin 1025) (write : Option (List Byte)) : Statement (.bar2Access offset count write) := fun _ => rfl
theorem hifF2hSetWrite (port : Port) (value : Word) : Statement (.hifF2hSetWrite port value) := fun _ => rfl
theorem hifTransferStart (port : Port) : Statement (.hifTransferStart port) := fun _ => rfl
theorem hifTransferDone : Statement (.hifTransferDone) := fun _ => rfl
theorem dmaStart (port : Port) : Statement (.dmaStart port) := fun _ => rfl
theorem dmaDone : Statement (.dmaDone) := fun _ => rfl
theorem uartTxWrite (port : Port) (data : Byte) : Statement (.uartTxWrite port data) := fun _ => rfl
theorem uartRxRead (port : Port) : Statement (.uartRxRead port) := fun _ => rfl
theorem uartRxOctet (data : Byte) : Statement (.uartRxOctet data) := fun _ => rfl
theorem msRead (addr : Word) (count : Nat) : Statement (.msRead addr count) := fun _ => rfl
theorem msWrite (addr : Word) (words : List Word) (cut : Bool) : Statement (.msWrite addr words cut) := fun _ => rfl
theorem paired (addr : Word) (value : Word) (inverse : Word) (cut : Bool) : Statement (.paired addr value inverse cut) := fun _ => rfl
theorem rdsr : Statement (.rdsr) := fun _ => rfl
theorem stage (offset : Fin 0x1000000) (data : List Byte) : Statement (.stage offset data) := fun _ => rfl
theorem bootdb (value : Word) : Statement (.bootdb value) := fun _ => rfl
theorem ident : Statement (.ident) := fun _ => rfl
theorem idcode : Statement (.idcode) := fun _ => rfl
theorem bypass (octets : List Byte) : Statement (.bypass octets) := fun _ => rfl
theorem unlockChal : Statement (.unlockChal) := fun _ => rfl
theorem unlockResp (response : List Byte) : Statement (.unlockResp response) := fun h => Bool.noConfusion h
theorem unlockVerifyComplete : Statement (.unlockVerifyComplete) := fun _ => rfl
theorem unlockSta : Statement (.unlockSta) := fun _ => rfl
theorem dbgAcc (op : Fin 4) (addr : Word) (data : Word) : Statement (.dbgAcc op addr data) := fun _ => rfl
theorem dbgCore (op : Fin 4) : Statement (.dbgCore op) := fun _ => rfl
theorem laneNear (port : Port) : Statement (.laneNear port) := fun _ => rfl
theorem laneFar (port : Port) : Statement (.laneFar port) := fun _ => rfl
theorem clnNear (port : Port) : Statement (.clnNear port) := fun _ => rfl
theorem kskLoop (port : Port) : Statement (.kskLoop port) := fun _ => rfl
theorem refSupply (port : Port) : Statement (.refSupply port) := fun _ => rfl
theorem refTemp (port : Port) : Statement (.refTemp port) := fun _ => rfl
theorem refHedge (port : Port) : Statement (.refHedge port) := fun _ => rfl
theorem lbist (port : Port) : Statement (.lbist port) := fun _ => rfl
theorem bstTestComplete (outcome : TestOutcome) : Statement (.bstTestComplete outcome) := fun _ => rfl
theorem ref10mRecovery : Statement (.ref10mRecovery) := fun _ => rfl
theorem vbatLoss : Statement (.vbatLoss) := fun _ => rfl
theorem cdVioOutOfRange : Statement (.cdVioOutOfRange) := fun _ => rfl
theorem sideRecovery (side : Fin 2) : Statement (.sideRecovery side) := fun _ => rfl
theorem hedgeConditionAbsent (source : Fin 8) : Statement (.hedgeConditionAbsent source) := fun _ => rfl
theorem cardTimeout (detHigh : Bool) : Statement (.cardTimeout detHigh) := fun _ => rfl
theorem pcieLinkUp (speed : Fin 5) (width : Fin 5) (bme : Bool) : Statement (.pcieLinkUp speed width bme) := fun h => Bool.noConfusion h
theorem uartTxOctetSent : Statement (.uartTxOctetSent) := fun _ => rfl

end Sys2Proof.Laws.Operands
end

