-- ==== Sys2Proof/Laws/Units.lean ====
section
/-!
SUPPORT. Single operations of the Ndear cores: what an operation of a unit does once its core acts and its port exists.
-/
namespace Sys2Proof.Machine

@[simp] theorem State.eng_setEng (s : State) (c : Cpu) (g : Engine) : (s.setEng c g).eng c = g := by cases c <;> rfl
@[simp] theorem State.setEng_setEng (s : State) (c : Cpu) (g h : Engine) : (s.setEng c g).setEng c h = s.setEng c h := by
  cases c <;> rfl
@[simp] theorem State.eng_start (s : State) (c : Cpu) : s.start.eng c = s.eng c := by cases c <;> rfl
@[simp] theorem State.opnd_setEng (s : State) (c : Cpu) (g : Engine) (p : Nat) :
    (s.setEng c g).opnd c p = smGet (fun _ => 0) g.opnd p := by cases c <;> rfl

theorem Engine.takeXfer_idle (g : Engine) (h : ∀ x, g.xfer = some x → x.left ≠ 0) : g.takeXfer = g := by
  unfold Engine.takeXfer
  split
  · rename_i x hx
    rw [if_neg]
    simp [h x hx]
  · rfl

theorem Engine.takeC_idle (g : Engine) (h : ∀ x, g.xfer = some x → x.left ≠ 0) : g.takeC = g := by
  unfold Engine.takeC
  split
  · rename_i x hx
    rw [if_neg (by simp [h x hx]), Engine.takeXfer_idle _ h]
  · rfl

theorem State.transferTaken_idle (s : State) (c : Cpu) (h : ∀ x, (s.eng c).xfer = some x → x.left ≠ 0) : s.transferTaken c = s := by
  cases c
  · show { s with engP := s.engP.takeXfer } = s
    rw [show s.engP.takeXfer = s.engP from Engine.takeXfer_idle _ h]
  · show { s with engC := s.engC.takeC } = s
    rw [show s.engC.takeC = s.engC from Engine.takeC_idle _ h]

/-- A trigger outside lsu0, the control and the repeat ports, at a port the core has, raises nothing by itself. -/
theorem State.unitChecks_none (s : State) (c : Cpu) (p : Nat) (hd : dstOk c p = true) (hr : isCtlRep p = false)
    (hs : sysPort p = false) : s.unitChecks c p = [] := by
  have h27 : p ≠ 0x27 := by intro h; rw [h] at hr; revert hr; decide
  have h28 : p ≠ 0x28 := by intro h; rw [h] at hr; revert hr; decide
  have h9 : p ≠ 0x9 := by intro h; rw [h] at hr; revert hr; decide
  have hA : p ≠ 0xA := by intro h; rw [h] at hr; revert hr; decide
  have ht : isTransfer p = false := by
    unfold isCtlRep at hr
    unfold isTransfer
    simp only [Bool.or_eq_false_iff, Bool.and_eq_false_iff, decide_eq_false_iff_not, beq_eq_false_iff_ne] at hr ⊢
    omega
  unfold State.unitChecks
  simp only [portTrap, hd, if_true, List.nil_append, repTrap, List.find?_cons, hr, List.find?_nil, ht]
  cases c <;> simp [privTrap, hs, h27, h28, h9, hA]

/-- A unit free in the cycle in progress begins no other. -/
theorem State.freeUnit_free (s : State) (c : Cpu) (p : Nat)
    (h : (s.eng c).use = .ops → (s.eng c).trig.contains ((triggerUnit p).getD 0) = false) : s.freeUnit c p = s := by
  unfold State.freeUnit State.closeOps
  split
  · rename_i ht
    refine if_neg (fun hu => ?_)
    rw [h hu] at ht
    cases ht
  · rfl

theorem State.setEng_eng (s : State) (c : Cpu) : s.setEng c (s.eng c) = s := by cases c <;> rfl

/-- A move to an operand port is latched. -/
theorem State.writePort_opnd (s : State) (c : Cpu) (p : Nat) (v : Word) (h : 7 < p ∧ (p < 0x80 ∨ 0x100 ≤ p)) :
    s.writePort c p v = s.setEng c { s.eng c with opnd := smSet (fun _ => 0) (s.eng c).opnd p v } := by
  unfold State.writePort
  repeat rw [if_neg (by omega)]

theorem State.writePorts_opnd (c : Cpu) (ws : List (Nat × Word)) (h : ∀ w ∈ ws, 7 < w.1 ∧ (w.1 < 0x80 ∨ 0x100 ≤ w.1)) (s : State) :
    ws.foldl (fun s w => s.writePort c w.1 w.2) s =
      s.setEng c { s.eng c with opnd := ws.foldl (fun m w => smSet (fun _ => 0) m w.1 w.2) (s.eng c).opnd } := by
  induction ws generalizing s with
  | nil => exact (State.setEng_eng s c).symm
  | cons w ws ih =>
    simp only [List.foldl_cons]
    rw [State.writePort_opnd s c w.1 w.2 (h w (List.mem_cons_self ..)), ih (fun x hx => h x (List.mem_cons_of_mem _ hx))]
    simp

/-- The traps and the state of a trigger, operand ports latched. -/
def State.trig (s : State) (c : Cpu) (pend : Bool) (p : Nat) (t : Word) : List TrapAt × State := match c with
  | .pav => s.trigP pend 0 p t
  | .core => s.trigC pend 0 p t

theorem State.opnd_self (s : State) (c : Cpu) (g : Engine) (p : Nat) (v : Word) (m : Sparse Word)
    (h : g.opnd = smSet (fun _ => 0) m p v) : (s.setEng c g).opnd c p = v := by
  rw [State.opnd_setEng, h]; simp

theorem State.opnd_other (s : State) (c : Cpu) (g : Engine) (p q : Nat) (v w : Word) (m : Sparse Word)
    (h : g.opnd = smSet (fun _ => 0) (smSet (fun _ => 0) m p v) q w) (hn : p ≠ q) : (s.setEng c g).opnd c p = v := by
  rw [State.opnd_setEng, h]; simp [hn]

theorem State.unitOp_of (s : State) (c : Cpu) (ws : List (Nat × Word)) (p : Nat) (t : Word)
    (h : UnitReady s c ((triggerUnit p).getD 0))
    (hd : dstOk c p = true) (hr : isCtlRep p = false) (hs : sysPort p = false) (hl : p < 0x380 ∨ c = .pav)
    (hw : ∀ w ∈ ws, 7 < w.1 ∧ (w.1 < 0x80 ∨ 0x100 ≤ w.1)) {x : State}
    (hx : (s.start.setEng c ((s.eng c).joined ((triggerUnit p).getD 0) ws)).trig c (s.eng c).xfer.isSome p t = ([], x)) :
    s.start.whenUp (fun s => s.unitOp c ws p t) = x := by
  have h25 : p ≠ 0x25 := by intro hh; rw [hh] at hr; revert hr; decide
  obtain ⟨hu, ha, hx', hfree⟩ := h
  have hdue : ∀ x, (s.eng c).xfer = some x → x.left ≠ 0 := by
    intro x hx
    rw [hx] at hx'
    simpa using hx'
  rw [State.whenUp_up (by exact hu)]
  unfold State.unitOp
  rw [State.freeUnit_free _ _ _ (by rw [State.eng_start]; exact hfree)]
  dsimp only
  have ha' : s.start.coreActs c = true := by rw [← ha]; cases c <;> rfl
  rw [ha', Bool.not_true, if_neg (by decide)]
  have e1 : (s.start.joinCycle c p).transferTaken c = s.start.joinCycle c p :=
    State.transferTaken_idle _ _ (by unfold State.joinCycle; rw [State.eng_setEng]; exact fun x hx => hdue x (by simpa using hx))
  simp only [e1]
  have e0 : c = .core → (s.start.joinCycle c p).lsuStalls [⟨0, none, 0, p⟩] = false := by
    intro hc
    have hp : p < 0x380 := hl.resolve_right (by rw [hc]; decide)
    have a1 : ¬ 0x382 ≤ p := by omega
    have a2 : ¬ 0x387 ≤ p := by omega
    have a3 : p ≠ 0x38A := by omega
    simp [State.lsuStalls, a1, a2, a3]
  have e2 : (if c = .core then (s.start.joinCycle c p).lsuSettle [⟨0, none, 0, p⟩] else ([], s.start.joinCycle c p)) =
      ([], s.start.joinCycle c p) := by
    split
    · rename_i hc
      unfold State.lsuSettle
      rw [e0 hc]; rfl
    · rfl
  simp only [e2]
  have e4 : (decide (c = .core) && (s.start.joinCycle c p).lsuStalls [⟨0, none, 0, p⟩]) = false := by
    by_cases hc : c = .core
    · rw [e0 hc, Bool.and_false]
    · rw [decide_eq_false hc, Bool.false_and]
  rw [e4, State.unitChecks_none _ _ _ hd hr hs]
  have e3 : (s.start.joinCycle c p).unitMoves c ws p t = ([], x) := by
    unfold State.unitMoves
    rw [State.writePorts_opnd c ws hw, ← hx]
    unfold State.joinCycle Engine.joined
    simp only [State.eng_setEng, State.setEng_setEng, State.eng_start]
    cases c <;> rfl
  simp only [List.isEmpty_nil, Bool.not_true, Bool.false_eq_true, if_false, if_true, e3, h25, ne_eq, not_false_eq_true, decide_true,
    Bool.and_self]

theorem unit_alu (s : State) (c : Cpu) (u : Fin 4) (op : Nat) (o t : Word) (h : UnitReady s c (aluPort u)) (hu : u.val < nAlu c)
    (h2 : 2 ≤ op) (h3 : op ≤ 0x18) :
    s.start.whenUp (fun s => s.unitOp c [(aluPort u, o)] (aluPort u + op) t) =
      s.start.setEng c ((s.eng c).operates (aluPort u) [(aluPort u, o)] 1 [(aluPort u + 0x1E, aluOp op o t), (aluPort u + 0x1F, 0)]) := by
  have hd : ∀ op : Fin 0x19, 2 ≤ op.val → ∀ u : Fin 4, u.val < nAlu c → dstOk c (aluPort u + op) = true ∧ isCtlRep (aluPort u + op) = false ∧
      sysPort (aluPort u + op) = false ∧ (triggerUnit (aluPort u + op)).getD 0 = aluPort u := by cases c <;> decide
  obtain ⟨d1, d2, d3, d4⟩ := hd ⟨op, by omega⟩ h2 u hu
  have hp : aluPort u + op < 0x180 ∧ 0x100 ≤ aluPort u + op ∧ (aluPort u + op) % 32 = op ∧ (aluPort u + op - 0x100) / 32 = u := by
    have := u.isLt; unfold aluPort; omega
  obtain ⟨p1, p2, p3, p4⟩ := hp
  generalize hpp : aluPort u + op = p at *
  have ht : ∀ (x : State) (b : Bool), x.unitTrig c b 0 p t = ([], x.aluTrig c u op t) := by
    intro x b
    unfold State.unitTrig
    repeat rw [if_neg (by omega)]
    rw [if_pos (by omega), p3, p4]
  apply State.unitOp_of s c _ p t (by rw [d4]; exact h) d1 d2 d3 (.inl (by omega))
  · intro w hw; simp only [List.mem_singleton] at hw; subst hw; unfold aluPort; constructor
    · show 7 < 0x100 + _; omega
    · right; show 0x100 ≤ 0x100 + _; omega
  · rw [d4]
    cases c
    · simp only [State.trig, State.trigP]
      repeat rw [if_neg (by omega)]
      rw [ht]
      simp only [State.aluTrig, State.fly, State.eng_setEng, State.setEng_setEng]
      rw [State.opnd_self _ _ _ _ o _ rfl]; rfl
    · simp only [State.trig, State.trigC]
      repeat rw [if_neg (by omega)]
      rw [ht]
      simp only [State.aluTrig, State.fly, State.eng_setEng, State.setEng_setEng]
      rw [State.opnd_self _ _ _ _ o _ rfl]; rfl

/-- Any unit of ports below 0x380. -/
theorem unit_any (s : State) (c : Cpu) (p : Nat) (ws : List (Nat × Word)) (t : Word) (w : Nat) (h : UnitReady s c w)
    (hd : dstOk c p = true ∧ (triggerUnit p).getD 0 = w) (h0 : 0x100 ≤ p) (h1 : p < 0x380) (hw : ∀ w ∈ ws, 0x100 ≤ w.1) {x : State}
    (hx : (s.start.setEng c ((s.eng c).joined w ws)).unitTrig c (s.eng c).xfer.isSome 0 p t = ([], x)) :
    s.start.whenUp (fun s => s.unitOp c ws p t) = x := by
  obtain ⟨hd, rfl⟩ := hd
  apply State.unitOp_of s c ws p t h hd _ _ (.inl h1)
  · intro w hw'; have := hw w hw'; exact ⟨by omega, .inr this⟩
  · cases c
    · simp only [State.trig, State.trigP]
      have h25 : p ≠ 0x25 := by omega
      rw [if_neg (by omega), if_neg h25]; exact hx
    · simp only [State.trig, State.trigC]
      repeat rw [if_neg (by omega)]
      exact hx
  · unfold isCtlRep
    have : ¬ p ≤ 0x28 := by omega
    have h2 : p ≠ 9 := by omega
    have h3 : p ≠ 10 := by omega
    simp [this, h2, h3]
  · unfold sysPort; have : ¬ p ≤ 0x4F := by omega
    simp [this]

theorem unit_mac (s : State) (c : Cpu) (u : Fin 8) (op : Nat) (o t : Word) (h : UnitReady s c (macPort u)) (hu : u.val < nMac c)
    (h2 : 2 ≤ op) (h3 : op ≤ 9) :
    ∀ m, m = macOp op ((s.eng c).accOf u) ((s.eng c).sticky.contains u.val) o t →
    s.start.whenUp (fun s => s.unitOp c [(macPort u, o)] (macPort u + op) t) =
      s.start.setEng c { (s.eng c).operates (macPort u) [(macPort u, o)] 3 [(macPort u + 0x1E, m.2.2.1), (macPort u + 0x1F, BitVec.ofNat 32 (b2n m.2.1 + b2n m.2.2.2 * 2))] with
        acc := (u.val, m.1) :: (s.eng c).acc.filter (fun (e : Nat × Int) => e.1 ≠ u.val)
        sticky := if m.2.1 then u.val :: (s.eng c).sticky.filter (· ≠ u.val) else (s.eng c).sticky.filter (· ≠ u.val) } := by
  intro m hm
  have hd : ∀ op : Fin 10, 2 ≤ op.val → ∀ u : Fin 8, u.val < nMac c → dstOk c (macPort u + op) = true ∧ (triggerUnit (macPort u + op)).getD 0 = macPort u := by cases c <;> decide
  have d1 := hd ⟨op, by omega⟩ h2 u hu
  have hp : macPort u + op < 0x280 ∧ 0x180 ≤ macPort u + op ∧ (macPort u + op) % 32 = op ∧ (macPort u + op - 0x180) / 32 = u := by
    have := u.isLt; unfold macPort; omega
  obtain ⟨p1, p2, p3, p4⟩ := hp
  generalize hpp : macPort u + op = p at *
  apply unit_any s c p _ t _ h d1 (by omega) (by omega)
  · intro w hw; simp only [List.mem_singleton] at hw; subst hw; show 0x100 ≤ macPort u; unfold macPort; omega
  · unfold State.unitTrig
    repeat rw [if_neg (by omega)]
    rw [if_pos (by omega), p3, p4]
    simp only [State.macTrig, State.fly, State.eng_setEng, State.setEng_setEng]
    rw [State.opnd_self _ _ _ _ o _ rfl]
    have e1 : macOp op (((s.eng c).joined (macPort u) [(macPort u, o)]).accOf u)
        (((s.eng c).joined (macPort u) [(macPort u, o)]).sticky.contains u.val) o t = m := hm.symm
    simp only [e1]
    rfl
theorem unit_div (s : State) (c : Cpu) (u : Fin 2) (op : Nat) (o t : Word) (h : UnitReady s c (divPort u)) (hu : u.val < nDiv c)
    (h2 : 2 ≤ op) (h3 : op ≤ 4) :
    s.start.whenUp (fun s => s.unitOp c [(divPort u, o)] (divPort u + op) t) =
      s.start.setEng c ((s.eng c).operates (divPort u) [(divPort u, o)] 18 [(divPort u + 0x1E, (divOp op o t).1), (divPort u + 0x1D, (divOp op o t).2.1), (divPort u + 0x1F, BitVec.ofNat 32 (divOp op o t).2.2)]) := by
  have hd : ∀ op : Fin 5, 2 ≤ op.val → ∀ u : Fin 2, u.val < nDiv c → dstOk c (divPort u + op) = true ∧ (triggerUnit (divPort u + op)).getD 0 = divPort u := by cases c <;> decide
  have d1 := hd ⟨op, by omega⟩ h2 u hu
  have hp : divPort u + op < 0x380 ∧ 0x340 ≤ divPort u + op ∧ (divPort u + op) % 32 = op ∧ (divPort u + op - 0x340) / 32 = u := by
    have := u.isLt; unfold divPort; omega
  obtain ⟨p1, p2, p3, p4⟩ := hp
  generalize hpp : divPort u + op = p at *
  apply unit_any s c p _ t _ h d1 (by omega) (by omega)
  · intro w hw; simp only [List.mem_singleton] at hw; subst hw; show 0x100 ≤ divPort u; unfold divPort; omega
  · unfold State.unitTrig
    repeat rw [if_neg (by omega)]
    rw [if_pos (by omega), p3, p4]
    simp only [State.divTrig, State.fly, State.eng_setEng, State.setEng_setEng]
    rw [State.opnd_self _ _ _ _ o _ rfl]
    rfl

theorem unit_fma (s : State) (u : Fin 4) (op : Nat) (o o2 t : Word) (h : UnitReady s .pav (fmaPort u)) 
    (h2 : 2 ≤ op) (h3 : op ≤ 0xE) :
    s.start.whenUp (fun s => s.unitOp .pav [(fmaPort u, o), (fmaPort u + 1, o2)] (fmaPort u + op) t) =
      s.start.setEng .pav ((s.eng .pav).operates (fmaPort u) [(fmaPort u, o), (fmaPort u + 1, o2)] 4 [(fmaPort u + 0x1E, (fmaOp op o o2 t).1), (fmaPort u + 0x1F, BitVec.ofNat 32 (fmaOp op o o2 t).2)]) := by
  have hd : ∀ op : Fin 15, 2 ≤ op.val → ∀ u : Fin 4, dstOk .pav (fmaPort u + op) = true ∧ (triggerUnit (fmaPort u + op)).getD 0 = fmaPort u := by decide
  have d1 := hd ⟨op, by omega⟩ h2 u
  have hp : fmaPort u + op < 0x300 ∧ 0x280 ≤ fmaPort u + op ∧ (fmaPort u + op) % 32 = op ∧ (fmaPort u + op - 0x280) / 32 = u := by
    have := u.isLt; unfold fmaPort; omega
  obtain ⟨p1, p2, p3, p4⟩ := hp
  generalize hpp : fmaPort u + op = p at *
  apply unit_any s .pav p _ t _ h d1 (by omega) (by omega)
  · intro w hw; simp only [List.mem_cons, List.not_mem_nil, or_false] at hw
    rcases hw with rfl | rfl
    · show 0x100 ≤ fmaPort u; unfold fmaPort; omega
    · show 0x100 ≤ fmaPort u + 1; unfold fmaPort; omega
  · unfold State.unitTrig
    repeat rw [if_neg (by omega)]
    rw [if_pos (by omega), p3, p4]
    simp only [State.fmaTrig, State.fly, State.eng_setEng, State.setEng_setEng]
    rw [State.opnd_other _ _ _ (fmaPort u) (fmaPort u + 1) o o2 _ rfl (by omega), State.opnd_self _ _ _ (fmaPort u + 1) o2 _ rfl]
    rfl

theorem unit_cor (s : State) (u : Fin 2) (op : Nat) (o o2 t : Word) (h : UnitReady s .pav (corPort u)) 
    (h2 : 2 ≤ op) (h3 : op ≤ 4) :
    s.start.whenUp (fun s => s.unitOp .pav [(corPort u, o), (corPort u + 1, o2)] (corPort u + op) t) =
      s.start.setEng .pav ((s.eng .pav).operates (corPort u) [(corPort u, o), (corPort u + 1, o2)] 12 [(corPort u + 0x1E, (corOp op o o2 t).1), (corPort u + 0x1D, (corOp op o o2 t).2.1), (corPort u + 0x1F, BitVec.ofNat 32 (corOp op o o2 t).2.2)]) := by
  have hd : ∀ op : Fin 5, 2 ≤ op.val → ∀ u : Fin 2, dstOk .pav (corPort u + op) = true ∧ (triggerUnit (corPort u + op)).getD 0 = corPort u := by decide
  have d1 := hd ⟨op, by omega⟩ h2 u
  have hp : corPort u + op < 0x340 ∧ 0x300 ≤ corPort u + op ∧ (corPort u + op) % 32 = op ∧ (corPort u + op - 0x300) / 32 = u := by
    have := u.isLt; unfold corPort; omega
  obtain ⟨p1, p2, p3, p4⟩ := hp
  generalize hpp : corPort u + op = p at *
  apply unit_any s .pav p _ t _ h d1 (by omega) (by omega)
  · intro w hw; simp only [List.mem_cons, List.not_mem_nil, or_false] at hw
    rcases hw with rfl | rfl
    · show 0x100 ≤ corPort u; unfold corPort; omega
    · show 0x100 ≤ corPort u + 1; unfold corPort; omega
  · unfold State.unitTrig
    repeat rw [if_neg (by omega)]
    rw [if_pos (by omega), p3, p4]
    simp only [State.corTrig, State.fly, State.eng_setEng, State.setEng_setEng]
    rw [State.opnd_other _ _ _ (corPort u) (corPort u + 1) o o2 _ rfl (by omega), State.opnd_self _ _ _ (corPort u + 1) o2 _ rfl]
    rfl

end Sys2Proof.Machine
end

