-- ==== Sys2Proof/Tests/Slice0.lean ====
section
/-!
SUPPORT. Witnesses for the hypotheses of the statements, the refusals of ill-formed commands, and small checks of single steps.
-/
set_option Elab.async false
namespace Sys2Proof.Tests
open Sys2Proof.Machine

/-! The states the witnesses stand in: the state after reset with fields and registers replaced. -/

/-- The state after reset. -/
def s0 : State := State.reset
/-- A register of the state after reset replaced. -/
def r0 (p o : Nat) (v : Word) : State := s0.setReg p o v
/-- The main domain held in reset. -/
def held : State := { s0 with ldg.phase := .held }
def aout : RegSpec := (specOf pLdg (Reg.Ldg.AOUT_SAFE 0)).getD ⟨0, 0, 0, []⟩
/-- A shadow pair of AOUT_SAFE in progress. -/
def pairOn : State := { s0 with gate.pairs := [⟨pLdg, Reg.Ldg.AOUT_SAFE 0, 5, .core⟩] }
def busy : State := ((((r0 pLdg Reg.Ldg.WDG_CFG 0x100001).setReg pOrg Reg.Hdr.CTL 1).setReg pHdg Reg.Hdg.SHD_LOG 7).setReg pSys Reg.Sys.PRF 2).setReg (pLne 33) Reg.Lne.LN_MODE 4
/-- VDDIO18 lost, the main domain held. -/
def lost : State := { held with pwr.low := [.vddio18], pwr.vddio18Lost := true }
/-- A public key, its scalar being 1. -/
def pubG : List Byte := match p256G with | some (x, y) => natOctetsBE 32 x ++ natOctetsBE 32 y | none => []
/-- An image of kind fw with an empty body, signed under scalar 1. -/
def image (fw : Bool) (flags : Nat) (sig : Nat) : List Byte :=
  ascii (if fw then "BNLF" else "BNLC") ++ natOctets 4 1 ++ zeros 8 ++ natOctets 4 0 ++ natOctets 4 0x10000100 ++ zeros 4 ++
    natOctets 4 flags ++ pubG ++ sha256 [] ++ natOctetsBE 64 sig ++ zeros 0x40
def pkgImage : List Byte := image false 0x100
  4260531635778674157409802389126950721792302607421963258133790195781380542157151534703777766362708534703039432848912100757984791609219364271875212222460293
/-- An OTP row with both key hashes of that key, a device secret, and a lifecycle state. -/
def otpOf (life : Byte) : Sparse Byte :=
  memWrite zeroOctet (memWrite zeroOctet [] 0x20 (sha256 pubG ++ sha256 pubG ++ List.replicate 32 0x5A)) 0x80 [life, life, life]
/-- BOOT_STA shows source n. -/
def sel (n : Nat) (s : State) : State := s.setFld pLdg Reg.Ldg.BOOT_STA 5 4 n
/-- A source is being streamed. -/
def host1 : State := { s0 with boot.stream := some ⟨.host, 0, 0, zeros 32⟩ }
def mnt1 : State := sel 2 { s0 with boot.stream := some ⟨.maint, 0, 0, zeros 32⟩ }
def tPk : State := { s0 with otp.row := otpOf 1, mem.mram := memWrite (fun _ => 0xFF) [] 0 pkgImage, arb.cur := some (.req .package) }
def tPr : State := { s0 with otp.row := otpOf 1, gate.cur := [(1, ⟨0x1FF, 0x1FF⟩)] }
/-- The key it holds. -/
def key1 : KeyPos := ⟨1, 1, 1, 0, List.replicate 16 0x11⟩
def tk (s : State) : State := s.start.tick 0
/-- Ports 0 and 4 at 10 Gbit/s, ENABLED, with link. -/
def netUp : State :=
  [0, 4].foldl (fun s e => (s.setReg (portPage e) (Reg.Prc.PORT_CFG e) 1).setReg (portPage e) (Reg.Prc.PORT_STA e) 7)
    ((((s0.setReg (pPrc 0) Reg.Hdr.CTL 1).setReg (pLne 0) Reg.Lne.LN_MODE 4).setReg (pLne 1) Reg.Lne.LN_MODE 4).setReg pPrm Reg.Hdr.CTL 1)

/-! Registers and the fabric. -/

theorem test_hyp_StepRunsFrontCommand :
    (({ s0 with pending := [.rstNLow] }) : State).pending = (.rstNLow : Instr) :: ([] : List Instr) ∧ s0.pending = [] := by decide +kernel
theorem test_hyp_CommandsAnswer :
    (.rstNLow : Instr).wf = true ∧ ((.tempConversion [0]) : Instr).wf = false := by decide +kernel
theorem test_hyp_WriteWithoutAuthority :
    s0.fabricUp = true ∧ s0.quiet ∧ blkOf pOrg = some ((.org : Blk), (0 : Nat)) ∧ (.org : Blk) ≠ .fly ∧ (Reg.Org.ORG_CFG : Nat) < 0x1000 ∧
    (Reg.Org.ORG_CFG : Nat) % 4 = 0 ∧ (s0.masks (indexOf pOrg)).writes (.host : Port) = false := by decide +kernel
theorem test_hyp_MalformedAccessIsLogged :
    s0.fabricUp = true ∧ held.fabricUp = false := by decide +kernel
theorem test_hyp_HeaderEnableResetLock :
    (WriteReaches (({ s0 with blv.fences := [⟨0xD0, pArb, 0⟩] }) : State) (.core : Port) (⟨pArb, by decide⟩ : Fin 4096) Reg.Hdr.CTL ∧
     blkOf (⟨pArb, by decide⟩ : Fin 4096) = some ((.arb : Blk), (0 : Nat)) ∧
     (({ s0 with blv.fences := [⟨0xD0, pArb, 0⟩] }) : State).fencedPage (⟨pArb, by decide⟩ : Fin 4096) = true ∧
     WriteReaches s0 (.core : Port) (0x200 : Fin 4096) Reg.Hdr.CTL ∧ blkOf (0x200 : Fin 4096) = some ((.prm : Blk), (0 : Nat)) ∧
     s0.fencedPage (0x200 : Fin 4096) = false ∧ (0x200 : Fin 4096).val ≠ pPgl ∧ (0x200 : Fin 4096).val ≠ pCln) ∧
    ((0x200 : Fin 4096).val ≠ pPsh ∧ (0x200 : Fin 4096).val ≠ pSdl ∧ (.prm : Blk) ≠ .prc ∧ WriteReaches s0 (.core : Port) (0x201 : Fin 4096) Reg.Hdr.CTL ∧
     blkOf (0x201 : Fin 4096) = some ((.prc : Blk), (1 : Nat)) ∧ s0.fencedPage (0x201 : Fin 4096) = false ∧ (.prc : Blk) = .prc ∧
     s0.enabled (0x201 : Fin 4096) = false) ∧
    (s0.badLanes ((0x201 : Fin 4096).val - 0x201) = [] ∧ WriteReaches s0 (.core : Port) (⟨pPsh, by decide⟩ : Fin 4096) Reg.Hdr.CTL ∧
     blkOf (⟨pPsh, by decide⟩ : Fin 4096) = some ((.psh : Blk), (0 : Nat)) ∧ s0.fencedPage (⟨pPsh, by decide⟩ : Fin 4096) = false ∧
     (⟨pPsh, by decide⟩ : Fin 4096).val = pPsh ∧ s0.enabled (⟨pPsh, by decide⟩ : Fin 4096) = false ∧ bankOf s0.engC.pc ≠ some 3 ∧
     bankOf s0.engC.tvec.toNat ≠ some 3) ∧
    (s0.psh.inserted = false ∧ WriteReaches s0 (.core : Port) (⟨pSdl, by decide⟩ : Fin 4096) Reg.Hdr.CTL ∧
     blkOf (⟨pSdl, by decide⟩ : Fin 4096) = some ((.sdl : Blk), (0 : Nat)) ∧ (⟨pSdl, by decide⟩ : Fin 4096).val = pSdl ∧
     WriteReaches s0 (.core : Port) (⟨pPgl, by decide⟩ : Fin 4096) Reg.Hdr.CTL ∧ blkOf (⟨pPgl, by decide⟩ : Fin 4096) = some ((.pgl : Blk), (0 : Nat)) ∧
     (⟨pPgl, by decide⟩ : Fin 4096).val = pPgl ∧ WriteReaches s0 (.core : Port) (⟨pCln, by decide⟩ : Fin 4096) Reg.Hdr.CTL) ∧
    (blkOf (⟨pCln, by decide⟩ : Fin 4096) = some ((.cln : Blk), (0 : Nat)) ∧ (⟨pCln, by decide⟩ : Fin 4096).val = pCln ∧
     WriteReaches ((r0 pOrg Reg.Hdr.CTL 1) : State) (.core : Port) (⟨pOrg, by decide⟩ : Fin 4096) Reg.Hdr.CTL ∧
     blkOf (⟨pOrg, by decide⟩ : Fin 4096) = some ((.org : Blk), (0 : Nat)) ∧
     WriteReaches ((r0 pSys Reg.Sys.THERM_CFG 5) : State) (.core : Port) (⟨pSys, by decide⟩ : Fin 4096) Reg.Hdr.CTL ∧
     blkOf (⟨pSys, by decide⟩ : Fin 4096) = some ((.sys : Blk), (0 : Nat)) ∧
     ((r0 pOrg Reg.Hdr.STA 4) : State).flag (⟨pOrg, by decide⟩ : Fin 4096) Reg.Hdr.STA 2 = true ∧ (⟨pOrg, by decide⟩ : Fin 4096).val ≠ pFtn) ∧
    (((r0 pFtn Reg.Hdr.STA 4) : State).flag (⟨pFtn, by decide⟩ : Fin 4096) Reg.Hdr.STA 2 = true ∧ (⟨pFtn, by decide⟩ : Fin 4096).val = pFtn ∧
     WriteReaches ((r0 pOrg Reg.Hdr.LOCK 1) : State) (.core : Port) (⟨pOrg, by decide⟩ : Fin 4096) Reg.Hdr.LOCK ∧
     ((r0 pOrg Reg.Hdr.LOCK 1) : State).locked (⟨pOrg, by decide⟩ : Fin 4096) = true ∧
     WriteReaches s0 (.core : Port) (⟨pOrg, by decide⟩ : Fin 4096) Reg.Hdr.LOCK ∧ s0.locked (⟨pOrg, by decide⟩ : Fin 4096) = false ∧ (.org : Blk) ≠ .ptr0 ∧
     (.org : Blk) ≠ .pav) ∧
    (WriteReaches s0 (.core : Port) (⟨pPtr0, by decide⟩ : Fin 4096) Reg.Hdr.LOCK ∧
     blkOf (⟨pPtr0, by decide⟩ : Fin 4096) = some ((.ptr0 : Blk), (0 : Nat)) ∧ s0.locked (⟨pPtr0, by decide⟩ : Fin 4096) = false ∧ (.ptr0 : Blk) = .ptr0 ∧
     WriteReaches s0 (.core : Port) (⟨pPav, by decide⟩ : Fin 4096) Reg.Hdr.LOCK ∧ blkOf (⟨pPav, by decide⟩ : Fin 4096) = some ((.pav : Blk), (0 : Nat)) ∧
     s0.locked (⟨pPav, by decide⟩ : Fin 4096) = false ∧ (.pav : Blk) = .pav) := by
  iterate 6 refine ⟨by decide +kernel, ?_⟩
  decide +kernel
theorem test_hyp_FirstClaimWins :
    WriteReaches ((r0 pSdl Reg.Hdr.CLAIM 1) : State) (.core : Port) (⟨pPrm, by decide⟩ : Fin 4096) Reg.Hdr.CLAIM ∧
    blkOf (⟨pPrm, by decide⟩ : Fin 4096) = some ((.prm : Blk), (0 : Nat)) ∧ ((.prm : Blk) = .prm ∨ (.prm : Blk) = .fly) ∧
    WriteReaches s0 (.host : Port) (⟨pFly 0, by decide⟩ : Fin 4096) Reg.Hdr.CLAIM ∧
    blkOf (⟨pFly 0, by decide⟩ : Fin 4096) = some ((.fly : Blk), (0 : Nat)) ∧ ((.fly : Blk) = .prm ∨ (.fly : Blk) = .fly) := by decide +kernel
theorem test_hyp_ShadowPairs :
    (WriteReaches s0 (.core : Port) (⟨pLdg, by decide⟩ : Fin 4096) (⟨Reg.Ldg.AOUT_SAFE 0, by decide⟩ : Fin 2048) ∧
     blkOf (⟨pLdg, by decide⟩ : Fin 4096) = some ((.ldg : Blk), (0 : Nat)) ∧ 0x40 ≤ (⟨Reg.Ldg.AOUT_SAFE 0, by decide⟩ : Fin 2048).val ∧
     (⟨Reg.Ldg.AOUT_SAFE 0, by decide⟩ : Fin 2048).val % 4 = 0 ∧
     specOf (⟨pLdg, by decide⟩ : Fin 4096) (⟨Reg.Ldg.AOUT_SAFE 0, by decide⟩ : Fin 2048) = some aout ∧ aout.shadowed = true ∧
     s0.absentPort (.ldg : Blk) (0 : Nat) (⟨Reg.Ldg.AOUT_SAFE 0, by decide⟩ : Fin 2048) = false ∧
     WriteReaches { pairOn with gate.pairs := [] } (.core : Port) (⟨pLdg, by decide⟩ : Fin 4096) (⟨Reg.Ldg.AOUT_SAFE 0, by decide⟩ : Fin 2048)) ∧
    (pairOn.gate.pairs = [⟨(⟨pLdg, by decide⟩ : Fin 4096), (⟨Reg.Ldg.AOUT_SAFE 0, by decide⟩ : Fin 2048), (5 : Word), (.core : Port)⟩] ∧
     pairOn.gate.pairs = [(⟨pLdg, Reg.Ldg.AOUT_SAFE 0, 5, .core⟩ : PendingPair)] ∧
     (⟨pLdg, Reg.Ldg.AOUT_SAFE 0, 5, .core⟩ : PendingPair).page = (⟨pLdg, by decide⟩ : Fin 4096) ∧ pairOn.gate.held = [] ∧ pairOn.hdgForced 7 = false ∧
     s0.hdg.mismatch.contains (regKey (⟨pLdg, by decide⟩ : Fin 4096) (⟨Reg.Ldg.AOUT_SAFE 0, by decide⟩ : Fin 2048)) = false ∧ s0.hdgForced 7 = false ∧
     (({ s0 with hdg.mismatch := [regKey pLdg (Reg.Ldg.AOUT_SAFE 0)] }) : State).hdg.mismatch.contains (regKey (⟨pLdg, by decide⟩ : Fin 4096) (⟨Reg.Ldg.AOUT_SAFE 0, by decide⟩ : Fin 2048)) = true) :=
  ⟨by decide +kernel, by decide +kernel⟩
theorem test_hyp_ProfileIsFixedWhileScheduled :
    WriteReaches s0 (.core : Port) pSys Reg.Sys.PRF ∧ s0.pglOn = false ∧ s0.locked pSys = false ∧
    WriteReaches ((r0 pPgl Reg.Hdr.CTL 1) : State) (.core : Port) pSys Reg.Sys.PRF ∧ ((r0 pPgl Reg.Hdr.CTL 1) : State).pglOn = true := by decide +kernel
theorem test_hyp_AccessCodesOfAWrite :
    WriteReaches s0 .core pSys Reg.Sys.THERM_CFG ∧ blkOf pSys = some (.sys, 0) ∧ plainReg pSys Reg.Sys.THERM_CFG = true ∧
    plainWritten .sys Reg.Sys.THERM_CFG = true ∧ (specOf pSys Reg.Sys.THERM_CFG).any (fun r => (List.range 32).all (fun i =>
      !(bitAt (r.mask .w1c) i && (bitAt (r.mask .rw) i || bitAt (r.mask .rwl) i)))) = true := by decide +kernel
theorem test_hyp_StepKeepsPinsSettled :
    s0.settled ∧ (match step { s0 with pending := [.rstNLow] } with | .next t => t.ldg.rstNLow | _ => false) = true := by
  decide +kernel

/-! Supplies and clocks. -/

def lowV : State := { s0 with pwr.low := [.vdd], nvm.dip := true }
def low2 : State := { s0 with pwr.low := [.vdd, .vddio33], nvm.dip := true }

theorem test_hyp_SupplyEvents :
    (s0.pwr.low.contains (.vdd : Supply) = false ∧ (.vdd : Supply) ≠ .vddio33 ∧ s0.pwr.low.contains (.vddio33 : Supply) = false ∧
     (.vddio33 : Supply) = .vddio33 ∧ low2.pwr.low.contains (.vdd : Supply) = true ∧ (((.vdd : Supply) = .vddio18 → low2.pwr.vddio18Lost = false)) ∧
     low2.nvm.deferred = [] ∧ low2.pwr.low.filter (· ≠ (.vdd : Supply)) ≠ []) ∧
    (lowV.pwr.low = [(.vdd : Supply)] ∧ (((.vdd : Supply) = .vddio18 → lowV.pwr.vddio18Lost = false)) ∧ lowV.nvm.run = none ∧ lowV.nvm.deferred = [] ∧
     s0.pwr.vddio18Lost = false ∧ s0.nvm.run = none ∧ s0.ksk.field = false ∧ (({s0 with pwr.vbatOk := false}) : State).pwr.vddio18Lost = false) ∧
    ((({s0 with pwr.vbatOk := false}) : State).nvm.run = none ∧ (({s0 with pwr.vbatOk := false}) : State).ksk.field = false ∧
     (({s0 with well.onVbat := true}) : State).well.onVbat = true ∧ s0.well.onVbat = false ∧ (({s0 with psh.pwrEn := true}) : State).fabricUp = true ∧
     (({s0 with psh.pwrEn := true}) : State).psh.pwrEn = true ∧ s0.pwr.ref10mLost = false) :=
  ⟨by decide +kernel, by decide +kernel, by decide +kernel⟩
theorem test_hyp_VoltageAndTemperature :
    s0.fabricUp = true ∧ s0.pwr.avsSilent = false ∧ (({s0 with pwr.avsAsked := true}) : State).fabricUp = true ∧
    (({s0 with pwr.avsAsked := true}) : State).pwr.avsSilent = false ∧ (({s0 with pwr.avsSilent := true}) : State).pwr.avsSilent = true ∧
    tempConversionOk ([1, 2, 3, 4, 5, 6, 7, 8] : List Int) = true ∧
    ((∀ x ∈ ([1, 2, 3, 4, 5, 6, 7, 8] : List Int), x < temp12 (s0.fld pHdg Reg.Hdg.TEMP_CFG 11 0) ∧ temp12 (s0.fld pHdg Reg.Hdg.TEMP_CFG 27 16) < x)) := by decide +kernel
theorem test_hyp_HeldResetIsReleased :
    (held.ldg.phase = .held ∧ held.ldg.t4 = true ∧ held.pwr.sysclkLost = false ∧ held.pwr.low = [] ∧ held.pwr.vddio18Lost = false ∧
     held.ldg.rstNLow = false ∧ (({held with ldg.rstNLow := true}) : State).ldg.phase = .held ∧
     (({held with ldg.rstNLow := true}) : State).ldg.rstNLow = true) ∧
    ((({held with pwr.sysclkLost := true}) : State).pwr.sysclkLost = true ∧ (({held with pwr.sysclkLost := true}) : State).ldg.phase = .held ∧
     (({held with pwr.sysclkLost := true}) : State).ldg.rstNLow = false ∧ (({held with pwr.sysclkLost := true}) : State).pwr.low = [] ∧
     (({held with pwr.sysclkLost := true}) : State).pwr.vddio18Lost = false ∧ lost.pwr.vddio18Lost = true ∧ lost.ldg.phase = .held ∧
     lost.ldg.rstNLow = false) ∧
    (lost.pwr.sysclkLost = false) :=
  ⟨by decide +kernel, by decide +kernel, by decide +kernel⟩
theorem test_hyp_ResetTriggersReachTheMainDomain :
    (busy.ldg.phase = .running ∧ busy.nvm.run = none ∧ busy.pwr.vddio18Lost = false ∧ lost.pwr.vddio18Lost = true ∧
     WriteReaches busy (.core : Port) pLdg Reg.Ldg.RST_REQ ∧ busy.flag pLdg Reg.Ldg.WDG_CFG 0 = true ∧ busy.strobeExpected (.core : Strobe) = true ∧
     busy.pwr.sysclkLost = false) ∧
    ((({busy with pwr.low := [.vdd]}) : State).nvm.run = none ∧ (({busy with pwr.low := [.vdd]}) : State).pwr.low.contains (.vdd : Supply) = true ∧
     (({busy with pwr.low := [.vdd]}) : State).pwr.vddio18Lost = false) :=
  ⟨by decide +kernel, by decide +kernel⟩

/-! Units, windows and cores. -/

/-- A run of entry 0. -/
def run0 : Run := ⟨0, 0, 1000, [], [], [], [], []⟩
/-- Ndear-P in a run of entry 0: 32 context words from 0, 16 of them stack, output words 0 to 7, AOUT ball 0; word 3 an SVBUF. -/
def pavUp : State :=
  { s0 with
    pgl.run := some run0, pgl.owners := [(0, 8, 0)], pav.desc := [(0, 0x20000), (1, 16), (3, 1)], pav.ow := [(2, ⟨7, 0, false, 0, 0⟩), (3, ⟨0, 6, false, 0, 0⟩)]
    engP := { Engine.reset with dsBase := 16, dsLimit := 32, depth := 1 } }
/-- Ndear-C in firmware at the base of control SRAM, its stack of 4 words there. -/
def coreUp : State :=
  { s0 with boot.entered := true, engC := { Engine.coreReset with pc := 0x20000000, dsb := 0x20000100, dsl := 0x20000110, depth := 1 } }
def pavOps : State := { pavUp with engP.use := .ops, engP.trig := [0x120], engP.opnd := [(3, 5)], engP.flight := [⟨9, [(1, 1)], none⟩] }
def coreOps : State := { coreUp with engC.use := .ops, engC.trig := [0x120], engC.opnd := [(3, 5)], engC.flight := [⟨9, [(1, 1)], none⟩] }
/-- Stream 0 enabled with the slot's head at 5; GOOSE block 0 enabled with one member; curve 0 of two points. -/
def winUp : State :=
  { pavUp with
    ptr.cfg1 := [(0, 1)], ptr.sv := [(0, { pavUp.stream 0 with fixed := some 5, head := some 5 })], ptr.cfg2 := [(0, 0x401), (6, 0xFFFFFF00)]
    mem.table := memWrite zeroOctet (memWrite zeroOctet [] 0x600000 (wordOctets 10 ++ wordOctets 1 ++ wordOctets 20 ++ wordOctets 2))
      0x6C0000 (wordOctets 0x80000002) }
/-- A run that has written an output word and a state word. -/
def pavSt : State := { pavUp with pgl.run := some { run0 with words := [(0, 9), (1, 8)] } }
/-- A transfer due in each core, and a return from an exception. -/
def pavXf : State := { pavUp with engP.xfer := some ⟨77, 0, false⟩ }
def corEr : State := { coreUp with engC.xfer := some ⟨77, 0, true⟩, engC.epc := 0x20000080, engC.erep := 0x20003, engC.st := 8 }
/-- Two unguarded immediate moves, the second to r5 of file 0. -/
def bndC : List Byte := wordOctets (BitVec.ofNat 32 (2 ^ 26 + 7 * 2 ^ 10 + (0x80 + 3))) ++ wordOctets (BitVec.ofNat 32 (2 ^ 26 + 0xFFFF * 2 ^ 10 + (0x80 + 5)))
def coreB : State := { coreUp with mem.csram := memWrite zeroOctet [] 0 bndC }
def pavB : State := { pavUp with mem.table := memWrite zeroOctet [] 0x400000 bndC }
/-- Interrupts enabled and one pending, an NMI too. -/
def coreIrq : State := ({ coreUp with engC.st := 2, ccp.nmi := 2 }.setReg pCcp Reg.Ccp.CCP_IP 3).setReg pCcp Reg.Ccp.CCP_IE 3

theorem test_hyp_AluOperations :
    UnitReady coreUp (.core : Cpu) (aluPort (0 : Fin 4)) ∧ (0 : Fin 4).val < nAlu (.core : Cpu) := by decide +kernel
theorem test_hyp_MacOperations :
    UnitReady pavOps (.pav : Cpu) (macPort (7 : Fin 8)) ∧ (7 : Fin 8).val < nMac (.pav : Cpu) := by decide +kernel
theorem test_hyp_DivOperations :
    UnitReady pavOps (.pav : Cpu) (divPort (1 : Fin 2)) ∧ (1 : Fin 2).val < nDiv (.pav : Cpu) := by decide +kernel
theorem test_hyp_FloatOperations :
    UnitReady pavOps .pav (fmaPort (2 : Fin 4)) := by decide +kernel
theorem test_hyp_CordicOperations :
    UnitReady pavUp .pav (corPort (2 : Fin 2)) := by decide +kernel
theorem test_hyp_WindowLoads :
    (UnitReady winUp .pav (lsPort (0 : Fin 2)) ∧ winUp.pgl.run = some run0 ∧ winUp.clean ∧ bits (0x20000 : Word) 31 18 = 0 ∧
     (((bits (0x20000 : Word) 12 0) < 4096 ∨ winUp.focusStreams = true)) ∧ bitAt (0x20000 : Word) 17 = true ∧ UnitReady winUp .pav (lsPort (1 : Fin 2)) ∧
     bits (0x00001 : Word) 31 18 = 0) ∧
    ((((bits (0x00001 : Word) 12 0) < 4096 ∨ winUp.focusStreams = true)) ∧ bitAt (0x00001 : Word) 17 = false ∧
     bitAt (winUp.svCfg (bits (0x00001 : Word) 12 0) 0) 0 = false ∧ (0x00001 : Word).toNat < 8192 ∧ (9 : Word).toNat < 16 ∧
     bitAt (winUp.gooseCfg (0x00001 : Word).toNat 0) 0 = false ∧ bits (0x00000 : Word) 31 18 = 0 ∧
     (((bits (0x00000 : Word) 12 0) < 4096 ∨ winUp.focusStreams = true))) ∧
    (bitAt (0x00000 : Word) 17 = false ∧ bitAt (winUp.svCfg (bits (0x00000 : Word) 12 0) 0) 0 = true ∧
     ((winUp.stream (bits (0x00000 : Word) 12 0)).fixed).isSome = true ∧ (((0x00000 : Word) + (2 : Word)).toNat) < winUp.progWords run0.entry ∧
     (((0x00000 : Word) + (2 : Word)).toNat) ≤ 0xFFBF ∧ (((0x00000 : Word) + (2 : Word)).toNat) < 16384 ∧
     winUp.ownerOf (((0x00000 : Word) + (2 : Word)).toNat) ≠ none ∧ (winUp.outWord (((0x00000 : Word) + (2 : Word)).toNat)).never = false) ∧
    ((0x00000 : Word).toNat < 8192 ∧ (2 : Word).toNat < 16 ∧ bitAt (winUp.gooseCfg (0x00000 : Word).toNat 0) 0 = true ∧ ((0x00000 : Word).toNat) < 64 ∧
     bitAt (winUp.peekWord rgTable (0x6C0000 + 4 * ((0x00000 : Word).toNat))) 31 = true ∧
     2 ≤ (bits (winUp.peekWord rgTable (0x6C0000 + 4 * ((0x00000 : Word).toNat))) 8 0) ∧
     ((2 : Word).toInt) < (winUp.curvePt ((0x00000 : Word).toNat) 0).1 ∧ bitAt (winUp.peekWord rgTable (0x6C0000 + 4 * ((0x00000 : Word).toNat))) 9 = false) ∧
    ((0x00000 : Word).toNat < 32 ∧ bits (2 : Word) 31 12 = 0 ∧ 0xFFF0 ≤ (((0xFFF0 : Word) + (3 : Word)).toNat) ∧
     (((0xFFF0 : Word) + (3 : Word)).toNat) ≤ 0xFFF7 ∧ (((0xFFF0 : Word) + (8 : Word)).toNat) = 0xFFF8 ∧ (((0xFFF0 : Word) + (9 : Word)).toNat) = 0xFFF9 ∧
     0xFFFA ≤ (((0xFFFA : Word) + (0 : Word)).toNat) ∧ (((0xFFFA : Word) + (0 : Word)).toNat) ≤ 0xFFFF) ∧
    (((0 : Word).toNat) < 64 ∧ bitAt (winUp.peekWord rgTable (0x6C0000 + 4 * ((0 : Word).toNat))) 31 = true ∧
     2 ≤ (bits (winUp.peekWord rgTable (0x6C0000 + 4 * ((0 : Word).toNat))) 8 0) ∧ (winUp.curvePt ((0 : Word).toNat) 0).1 ≤ ((25 : Word).toInt) ∧
     (winUp.curvePt ((0 : Word).toNat) ((bits (winUp.peekWord rgTable (0x6C0000 + 4 * ((0 : Word).toNat))) 8 0) - 1)).1 ≤ ((25 : Word).toInt) ∧
     bitAt (winUp.peekWord rgTable (0x6C0000 + 4 * ((0 : Word).toNat))) 10 = false) := by
  iterate 5 refine ⟨by decide +kernel, ?_⟩
  decide +kernel
theorem test_hyp_WindowStores :
    (UnitReady pavOps .pav (lsPort (1 : Fin 2)) ∧ pavOps.pgl.run = some run0 ∧ ((0 : Word) + (5 : Word)).toNat < pavOps.progWords run0.entry ∧
     pavOps.ownerOf (0 : Word).toNat = some run0.entry ∧ (pavOps.outWord (0 : Word).toNat).typ ≠ 6 ∧
     ((pavOps.runStores.1.length < 256 ∨ (0 : Word).toNat ∈ pavOps.runStores.1)) ∧ bits (0 : Word) 31 25 = 0 ∧
     bitAt (pavOps.chn run0.entry 3) (bits (0 : Word) 4 0) = true) ∧
    (pavOps.runStores.2.2 < 8 ∧ (0 : Word).toNat < 4096 ∧ pavOps.ownerOf (3 : Word).toNat = some run0.entry ∧ (pavOps.outWord (3 : Word).toNat).typ = 6 ∧
     pavOps.runStores.2.1 < 1024) :=
  ⟨by decide +kernel, by decide +kernel⟩
theorem test_hyp_WindowAddressTraps :
    UnitReady pavUp .pav (lsPort (0 : Fin 2)) ∧ pavUp.pgl.run = some run0 ∧ pavUp.engP.defer = [] ∧ pavUp.engP.flight = [] := by decide +kernel
theorem test_hyp_BoundsStackAndRepeat :
    (UnitReady pavOps (.pav : Cpu) 0x30 ∧ UnitReady pavOps (.pav : Cpu) 0x18 ∧ (.pav : Cpu) = .pav ∧
     pavOps.engP.dsBase + pavOps.engP.depth < pavOps.engP.dsLimit ∧ pavOps.clean ∧ 0 < (pavOps.eng (.pav : Cpu)).depth ∧
     (pavOps.dsPlace (.pav : Cpu) ((pavOps.eng (.pav : Cpu)).depth - 1)).isSome = true ∧ UnitReady pavOps (.pav : Cpu) 9) ∧
    ((pavOps.eng (.pav : Cpu)).rep = none ∧ (pavOps.eng (.pav : Cpu)).xfer = none ∧ (5 : Word).toNat ≤ 65535 ∧ (5 : Word).toNat ≤ 256 ∧
     UnitReady coreUp (.core : Cpu) 0x18 ∧ (.core : Cpu) = .core ∧ inCsram (coreUp.engC.dsb.toNat / 4 * 4 + 4 * coreUp.engC.depth) 4 = true ∧
     (coreUp.engC.dsb.toNat / 4 * 4 + 4 * coreUp.engC.depth) + 4 ≤ coreUp.engC.dsl.toNat / 4 * 4) ∧
    (coreUp.clean ∧ UnitReady coreOps (.core : Cpu) 0x18 ∧ coreOps.clean ∧ (0 : Word).toNat < (coreOps.eng (.core : Cpu)).depth ∧
     (coreOps.dsPlace (.core : Cpu) ((coreOps.eng (.core : Cpu)).depth - 1 - (0 : Word).toNat)).isSome = true) :=
  ⟨by decide +kernel, by decide +kernel, by decide +kernel⟩
theorem test_hyp_ControlTransfers :
    (UnitReady pavUp (.pav : Cpu) 0x20 ∧ (pavUp.eng (.pav : Cpu)).xfer = none ∧ (pavUp.eng (.pav : Cpu)).rep = none ∧
     (pavUp.eng (.pav : Cpu)).nextRep = none ∧ (pavUp.eng (.pav : Cpu)).rs.length < (if (.pav : Cpu) = .pav then 16 else 32) ∧
     UnitReady (({pavOps with engP.rs := [5, 6]}) : State) (.pav : Cpu) 0x20 ∧ ((({pavOps with engP.rs := [5, 6]}) : State).eng (.pav : Cpu)).xfer = none ∧
     ((({pavOps with engP.rs := [5, 6]}) : State).eng (.pav : Cpu)).rep = none) ∧
    (((({pavOps with engP.rs := [5, 6]}) : State).eng (.pav : Cpu)).nextRep = none ∧
     ((({pavOps with engP.rs := [5, 6]}) : State).eng (.pav : Cpu)).rs ≠ [] ∧ UnitReady (({coreOps with engC.rs := [5, 6]}) : State) (.core : Cpu) 0x20 ∧
     ((({coreOps with engC.rs := [5, 6]}) : State).eng (.core : Cpu)).xfer = none ∧
     ((({coreOps with engC.rs := [5, 6]}) : State).eng (.core : Cpu)).rep = none ∧
     ((({coreOps with engC.rs := [5, 6]}) : State).eng (.core : Cpu)).nextRep = none ∧ (.core : Cpu) = .core ∧
     bitAt (({coreOps with engC.rs := [5, 6]}) : State).engC.st 0 = true) ∧
    (pavXf.fabricUp = true ∧ (pavXf.eng (.pav : Cpu)).xfer = some ⟨(77 : Nat), 0, false⟩ ∧ corEr.fabricUp = true ∧
     corEr.engC.xfer = some ⟨(77 : Nat), 0, true⟩ ∧ corEr.engC.exfer = 0) :=
  ⟨by decide +kernel, by decide +kernel, by decide +kernel⟩
theorem test_hyp_RunEnds :
    UnitReady pavSt .pav 0x20 ∧ pavSt.pgl.run = some ({run0 with words := [(0, 9), (1, 8)]} : Run) ∧ pavSt.engP.defer = [] ∧ pavSt.engP.flight = [] ∧
    pavSt.engP.rep = none ∧ UnitReady coreUp .core 0x20 ∧ coreUp.engC.flight = [] ∧ coreUp.engC.rep = none := by decide +kernel
theorem test_hyp_InterruptsAreTakenBetweenBundles :
    (coreIrq.engC.use ≠ .ops ∧ coreIrq.canInterrupt = true ∧ coreIrq.engC.xfer = none ∧ coreIrq.engC.longLoad = none ∧ bitAt coreIrq.engC.st 1 = true ∧
     coreIrq.ipend = true ∧ ({coreUp with engC.waiting := true, ccp.nmi := 2} : State).fabricUp = true ∧
     ({coreUp with engC.waiting := true, ccp.nmi := 2} : State).engC.waiting = true) ∧
    (((({coreUp with engC.waiting := true, ccp.nmi := 2} : State).ipend = true ∨ ({coreUp with engC.waiting := true, ccp.nmi := 2} : State).ccp.nmi ≠ 0))) :=
  ⟨by decide +kernel, by decide +kernel⟩
theorem test_hyp_CoreLoadsAndStores :
    (UnitReady coreUp .core 0x380 ∧ coreUp.engC.longLoad = none ∧ (0x20000004 : Nat) = ((0x20000000 : Word) + (4 : Word)).toNat ∧
     inCsram (0x20000004 : Nat) 4 = true ∧ coreUp.clean ∧ coreUp.engC.stores = [] ∧
     ((inCsram (0x20000004 : Nat) 4 = true ∨ 0x34000000 ≤ (0x20000004 : Nat) ∧ (0x20000004 : Nat) < 0x36800000)) ∧ coreUp.engC.stores.length < 8) ∧
    (coreUp.engC.flight = [] ∧ ((∀ x ∈ coreUp.engC.stores, inCsram x.addr x.width = true)) ∧
     (0x34000004 : Nat) = ((0x34000000 : Word) + (4 : Word)).toNat ∧ 0x30000000 ≤ (0x34000004 : Nat) ∧ (0x34000004 : Nat) < 0x36800000 ∧
     (({coreUp with engC.stores := [⟨0x20000008, 2, 0x12345678⟩, ⟨0x20000018, 2, 0x12345678⟩]}) : State).fabricUp = true ∧
     (({coreUp with engC.stores := [⟨0x20000008, 2, 0x12345678⟩, ⟨0x20000018, 2, 0x12345678⟩]}) : State).engC.stores = (⟨0x20000008, 2, 0x12345678⟩ : PostedStore) :: ([⟨0x20000018, 2, 0x12345678⟩] : List PostedStore) ∧
     inCsram (⟨0x20000008, 2, 0x12345678⟩ : PostedStore).addr (⟨0x20000008, 2, 0x12345678⟩ : PostedStore).width = true) ∧
    ((⟨0x20000008, 2, 0x12345678⟩ : PostedStore).width ≤ 4 ∧
     (({coreUp with engC.stores := [⟨0x20000008, 2, 0x12345678⟩, ⟨0x20000018, 2, 0x12345678⟩]}) : State).clean ∧
     (({coreUp with engC.stores := [⟨regAt pSys 0x40, 4, 0x12345678⟩]}) : State).fabricUp = true ∧
     (({coreUp with engC.stores := [⟨regAt pSys 0x40, 4, 0x12345678⟩]}) : State).engC.stores = (⟨regAt pSys 0x40, 4, 0x12345678⟩ : PostedStore) :: ([] : List PostedStore) ∧
     inPages (⟨regAt pSys 0x40, 4, 0x12345678⟩ : PostedStore).addr = true ∧ (⟨regAt pSys 0x40, 4, 0x12345678⟩ : PostedStore).width = 4) :=
  ⟨by decide +kernel, by decide +kernel, by decide +kernel⟩
theorem test_hyp_BundlesAndLandings :
    (coreB.fabricUp = true ∧ coreB.coreRuns = true ∧ coreB.engC.use ≠ .ops ∧ coreB.engC.xfer = none ∧ coreB.engC.rep = none ∧ coreB.engC.nextRep = none ∧
     coreB.engC.flight = [] ∧ (3 : Fin 64) ≠ (5 : Fin 64)) ∧
    ({ coreB.start with engC.use := .bundle }.fetchC coreB.engC.pc = (.inl [BitVec.ofNat 32 (2 ^ 26 + (7 : BitVec 16).toNat * 2 ^ 10 + (0x80 + (3 : Fin 64).val)), BitVec.ofNat 32 (2 ^ 26 + (0xFFFF : BitVec 16).toNat * 2 ^ 10 + (0x80 + (5 : Fin 64).val))], { coreB.start with engC.use := .bundle }) ∧
     pavB.fabricUp = true ∧ pavB.pgl.run = some run0 ∧ pavB.budgetSpent run0 = false ∧ pavB.engP.use ≠ .ops ∧ pavB.engP.xfer = none ∧
     pavB.engP.rep = none ∧ pavB.engP.nextRep = none) ∧
    (pavB.engP.flight = [] ∧ pavB.engP.defer = [] ∧
     { pavB.start with engP.use := .bundle }.fetchP pavB.engP.pc = (.inl (BitVec.ofNat 32 (2 ^ 26 + (7 : BitVec 16).toNat * 2 ^ 10 + (0x80 + (3 : Fin 64).val)) :: BitVec.ofNat 32 (2 ^ 26 + (0xFFFF : BitVec 16).toNat * 2 ^ 10 + (0x80 + (5 : Fin 64).val)) :: List.replicate 14 0), { pavB.start with engP.use := .bundle }) ∧
     (({pavOps with engP.flight := [⟨0, [(0x11E, 6)], none⟩]}) : State).fabricUp = true ∧
     (({pavOps with engP.flight := [⟨0, [(0x11E, 6)], none⟩]}) : State).pgl.run = some run0 ∧
     (({pavOps with engP.flight := [⟨0, [(0x11E, 6)], none⟩]}) : State).budgetSpent run0 = false ∧
     (({pavOps with engP.flight := [⟨0, [(0x11E, 6)], none⟩]}) : State).engP.use = .ops ∧
     (({pavOps with engP.flight := [⟨0, [(0x11E, 6)], none⟩]}) : State).engP.xfer = none) ∧
    ((({pavOps with engP.flight := [⟨0, [(0x11E, 6)], none⟩]}) : State).engP.rep = none ∧
     (({pavOps with engP.flight := [⟨0, [(0x11E, 6)], none⟩]}) : State).engP.nextRep = none ∧
     (({pavOps with engP.flight := [⟨0, [(0x11E, 6)], none⟩]}) : State).engP.defer = [] ∧
     (({pavOps with engP.flight := [⟨0, [(0x11E, 6)], none⟩]}) : State).engP.flight = [(⟨0, [(0x11E, 6)], none⟩ : Landing)] ∧
     (⟨0, [(0x11E, 6)], none⟩ : Landing).poison = none ∧
     (⟨0, [(0x11E, 6)], none⟩ : Landing).due = (({pavOps with engP.flight := [⟨0, [(0x11E, 6)], none⟩]}) : State).engP.cycle ∧
     (⟨0, [(0x11E, 6)], none⟩ : Landing).writes = [((0x11E : Nat), (6 : Word))] ∧
     (({coreOps with engC.flight := [⟨5, [(0x11E, 6)], none⟩]}) : State).fabricUp = true) ∧
    ((({coreOps with engC.flight := [⟨5, [(0x11E, 6)], none⟩]}) : State).coreRuns = true ∧
     (({coreOps with engC.flight := [⟨5, [(0x11E, 6)], none⟩]}) : State).engC.use = .ops ∧
     (({coreOps with engC.flight := [⟨5, [(0x11E, 6)], none⟩]}) : State).engC.longLoad = none ∧
     (({coreOps with engC.flight := [⟨5, [(0x11E, 6)], none⟩]}) : State).engC.xfer = none ∧
     (({coreOps with engC.flight := [⟨5, [(0x11E, 6)], none⟩]}) : State).engC.rep = none ∧
     (({coreOps with engC.flight := [⟨5, [(0x11E, 6)], none⟩]}) : State).engC.nextRep = none ∧
     (({coreOps with engC.flight := [⟨5, [(0x11E, 6)], none⟩]}) : State).engC.flight = [(⟨5, [(0x11E, 6)], none⟩ : Landing)] ∧
     (⟨5, [(0x11E, 6)], none⟩ : Landing).poison = none) ∧
    ((({coreOps with engC.flight := [⟨5, [(0x11E, 6)], none⟩]}) : State).engC.cycle ≤ (⟨5, [(0x11E, 6)], none⟩ : Landing).due ∧
     (⟨5, [(0x11E, 6)], none⟩ : Landing).writes = [((0x11E : Nat), (6 : Word))]) := by
  iterate 5 refine ⟨by decide +kernel, ?_⟩
  decide +kernel

/-! Boot and Lodge. -/

theorem tPk_image : tPk.start.mramImage false tPk.boot.pkgOff = (pkgImage, false, tPk.start) :=
  Prod.ext (by decide +kernel) (Prod.ext (by decide +kernel) (by decide +kernel))

theorem test_hyp_BootTakesItsSources :
    (s0.ldg.phase = .running ∧ s0.boot.entered = false ∧ s0.boot.polling = false ∧ s0.boot.stream = none ∧ s0.boot.card = none ∧ s0.otp.bad = [] ∧
     s0.lifecycle ≠ 3 ∧ s0.clean) ∧
    (s0.peekMem (mramRegion reqSector) reqSector 4 ≠ ascii "BNLR" ∧ (List.range 4096).all (fun n => !s0.xoSector n) = true ∧ mnt1.ldg.phase = .running ∧
     mnt1.boot.entered = false ∧ (mnt1.boot.stream).isSome = true ∧ ((sel 3 { s0 with boot.polling := true }) : State).ldg.phase = .running ∧
     ((sel 3 { s0 with boot.polling := true }) : State).boot.entered = false ∧ ((sel 3 { s0 with boot.polling := true }) : State).boot.stream = none) ∧
    (((sel 3 { s0 with boot.polling := true }) : State).boot.polling = true ∧
     2 ≤ ((sel 3 { s0 with boot.polling := true }) : State).fld pLdg Reg.Ldg.BOOT_STA 5 4 ∧
     ((.host : Port) = .host ∧ WriteReaches host1 .host pHif Reg.Hif.HIF_BOOT_DB ∨ (.host : Port) = .maint ∧ host1.pwr.vddio18Lost = false) ∧
     host1.boot.stream = some (⟨.host, 0, 0, zeros 32⟩ : BootStream) ∧
     (⟨.host, 0, 0, zeros 32⟩ : BootStream).src = (if (.host : Port) = .maint then .maint else .host) ∧ bitAt (0x80000040 : Word) 31 = true ∧
     (⟨.host, 0, 0, zeros 32⟩ : BootStream).got ≠ [] ∧ bitAt (0x80000040 : Word) 18 = false) ∧
    (bits (0x80000040 : Word) 17 17 = (⟨.host, 0, 0, zeros 32⟩ : BootStream).kind ∧ 0 < bits (0x80000040 : Word) 16 0 ∧
     bits (0x80000040 : Word) 16 0 % 32 = 0 ∧ bits (0x80000040 : Word) 16 0 ≤ 65536 ∧
     (⟨.host, 0, 0, zeros 32⟩ : BootStream).base + (⟨.host, 0, 0, zeros 32⟩ : BootStream).got.length + bits (0x80000040 : Word) 16 0 ≤ 0x1000000 ∧
     host1.clean ∧ bitAt (0x80000041 : Word) 31 = true ∧ bits (0x80000041 : Word) 16 0 % 32 ≠ 0) ∧
    (WriteReaches mnt1 .host pHif Reg.Hif.HIF_BOOT_DB ∧ mnt1.boot.stream = some (⟨.maint, 0, 0, zeros 32⟩ : BootStream) ∧
     (⟨.maint, 0, 0, zeros 32⟩ : BootStream).src = .maint) := by
  iterate 4 refine ⟨by decide +kernel, ?_⟩
  decide +kernel
theorem test_hyp_LodgeCommands :
    (WriteReaches s0 (.core : Port) pLdg Reg.Ldg.WDG_KICK ∧ ((r0 pLdg Reg.Ldg.WDG_CFG 3) : State).flag pLdg Reg.Ldg.WDG_CFG 0 = true ∧
     ((r0 pLdg Reg.Ldg.WDG_CFG 3) : State).flag pLdg Reg.Ldg.WDG_CFG 1 = true ∧ WriteReaches s0 (.core : Port) pLdg Reg.Ldg.ZRQ ∧
     WriteReaches s0 .core pLdg Reg.Ldg.PKG_CMD ∧ s0.flag pLdg Reg.Ldg.PKG_CMD 31 = false ∧ WriteReaches tPr .core pLdg Reg.Ldg.PKG_CMD ∧
     tPr.flag pLdg Reg.Ldg.PKG_CMD 31 = false) ∧
    (tPr.boot.accepted = none ∧ tPr.keysPermitted = true ∧ tPr.fld pLdg Reg.Ldg.PKG_ADDR 23 0 % 32 = 0 ∧ tPr.fld pLdg Reg.Ldg.PKG_ADDR 23 0 ≤ 0xFFFF00 ∧
     tPk.fabricUp = true ∧ tPk.arb.cur = some (.req .package) ∧ tPk.boot.pkgOff + 0x100 + hdrWord (pkgImage.take 0x100) 0x0C ≤ 0x1000000 ∧
     tPk.checkImage false pkgImage false = 0) ∧
    (tPk.start.mramImage false tPk.boot.pkgOff = (pkgImage, false, tPk.start)) :=
  ⟨by decide +kernel, by decide +kernel, tPk_image⟩

/-! Time. -/

/-- Port 0 a live slave port of an ordinary clock: its lane carries one port, cluster and fabric are on, it is ENABLED with PTP_EN and linked. -/
def ptpUp : State :=
  ((((((r0 (portPage 0) (Reg.Prc.PORT_CFG 0) 0x41).setReg (portPage 0) (Reg.Prc.PORT_STA 0) 0x91).setReg pSdl Reg.Sdl.PTP_CFG 1).setReg (pLne 0) Reg.Lne.LN_MODE 4).setReg
    (portPage 0) Reg.Hdr.CTL 1).setReg pPrm Reg.Hdr.CTL 1)
/-- An announced grandmaster. -/
def gm : PtpSet := ⟨128, 6, 0x21, 0, 128, 5, 1, 7, some 37⟩
/-- It has announced itself, and fifteen Sync intervals have held. -/
def ptpSlave : State := { ptpUp with sdl.erbest := [(0, gm)], sdl.ptp := ⟨15, false, none, false, 0, some 50⟩, sdl.time := 1000 }
def ptpMaster : State := ptpUp.setPtpState 0 6
/-- PPS_IN enabled, its last edge at 7 ns. -/
def ppsOn : State := { (r0 pSdl Reg.Sdl.SRC_CFG 8) with sdl.pps := ⟨2, false, some 7, true, 2, none⟩, now := 1000000007 }
def ppsFresh : State := { ppsOn with sdl.pps.matched := false }
/-- A frame of 2026, and one that did not decode. -/
def irig : IrigFrame := ⟨4, true, 0, 2026, 1, 0, 0⟩
def irigBad : IrigFrame := { irig with valid := false }
def holding : State := { (r0 pSdl Reg.Sdl.HOLD_CFG 0x20000) with sdl.state := .holdover, sdl.lastSrc := .pps }
def locked : State := { s0 with sdl.pri.st := .locked }
def setUp : State := { ((r0 pSdl Reg.Sdl.SET_S_LO 1790000000).setReg pSdl Reg.Sdl.SET_NS 5) with sdl.time := 1234, sdl.slew := 7 }
/-- The Pergola promises and station time is LOCKED. -/
def promised : State := { (r0 pPgl Reg.Hdr.CTL 1) with sdl.state := .locked }
/-- The Sundial runs, a slot started at 1 s. -/
def slotted : State := { (r0 pSdl Reg.Hdr.CTL 1) with sdl.slotAt := some 1000000000, sdl.time := 1000000000, sdl.freq := 50 * 65536, pgl.winAt := 1000000000 }
def refsOn : State := (r0 pSdl Reg.Sdl.REF_PRI 0x10000).setReg pSdl Reg.Sdl.REF_SEC 0x10000
def firstSlot : State := { slotted with sdl.slotAt := none }
/-- SDL holds every group; unit 0 drives ball 0, with a target 1 ms ahead; and an action armed for it. -/
def cmpUp : State :=
  { ((((r0 pSdl Reg.Hdr.CLAIM 0xFFFF).setReg pSdl (Reg.Sdl.CMP_CFG 0) 0x20).setReg pSdl (Reg.Sdl.CMP_TGT_LO 0) 1000000).setReg pSdl Reg.Hdr.CTL 1).setReg pSdl Reg.Sdl.AOUT_OE 1 with
    sdl.freq := 50 * 65536 }
def act : Armed := ⟨none, 1000, 1, 5, false, .z, none⟩
def cmpAct : State := { cmpUp with sdl.cmp := [(0, act)] }
def cmpAng : State := { cmpUp with sdl.cmp := [(0, { act with angle := some 0x100000000 })] }
def cmpPls : State := { cmpUp with sdl.cmp := [(0, { act with placed := true, prior := .low })] }

theorem test_hyp_PtpMessagesDisciplineTime :
    (s0.fabricUp = true ∧ s0.ptpLive (0 : Fin 256) = false ∧ ptpUp.fabricUp = true ∧ ptpUp.ptpLive (0 : Fin 256) = true ∧
     (((3 : Fin 256).val ≠ ptpUp.fld pSdl Reg.Sdl.PTP_CFG 15 8 ∨ (.unsupported : PtpMsg) = .unsupported)) ∧
     (0 : Fin 256).val = ptpUp.fld pSdl Reg.Sdl.PTP_CFG 15 8 ∧ ((natOctetsBE 10 77) : List Byte) = natOctetsBE 10 (77 : Nat) ∧
     ((ptpUp.setReg pSdl Reg.Sdl.PTP_CFG 3) : State).fabricUp = true) ∧
    (((ptpUp.setReg pSdl Reg.Sdl.PTP_CFG 3) : State).ptpLive (0 : Fin 256) = true ∧
     (0 : Fin 256).val = ((ptpUp.setReg pSdl Reg.Sdl.PTP_CFG 3) : State).fld pSdl Reg.Sdl.PTP_CFG 15 8 ∧
     ((ptpUp.setReg pSdl Reg.Sdl.PTP_CFG 3) : State).ptpRole = 3 ∧ ptpUp.ptpRole ≠ 3 ∧ ptpSlave.fabricUp = true ∧ ptpSlave.ptpLive (0 : Fin 256) = true ∧
     (0 : Fin 256).val = ptpSlave.fld pSdl Reg.Sdl.PTP_CFG 15 8 ∧ (60 : Int) = (ptpSlave.adjusted (0 : Fin 256) 15 0 : Int) - (940 : Nat)) ∧
    (true = (match ptpSlave.sdl.ptp.off with | none => false | some o => decide ((if ptpSlave.sdl.src = .ptp then (60 : Int) else (60 : Int) - o).natAbs ≤ 100)) ∧
     ptpSlave.ptpState (0 : Fin 256) = 9 ∧ (ptpSlave.sdl.erbest.find? (fun e => e.1 = (0 : Fin 256).val)).any (fun e => e.2.identity = (5 : Nat)) = true ∧
     ptpMaster.fabricUp = true ∧ ptpMaster.ptpLive (0 : Fin 256) = true ∧ (0 : Fin 256).val = ptpMaster.fld pSdl Reg.Sdl.PTP_CFG 15 8 ∧
     ((-40) : Int) = (ptpMaster.adjusted (0 : Fin 256) 15 0 : Int) - (40 : Nat) ∧
     false = (match ptpMaster.sdl.ptp.off with | none => false | some o => decide ((if ptpMaster.sdl.src = .ptp then ((-40) : Int) else ((-40) : Int) - o).natAbs ≤ 100))) ∧
    ((ptpMaster.ptpState (0 : Fin 256) ≠ 9 ∨ (ptpMaster.sdl.erbest.find? (fun e => e.1 = (0 : Fin 256).val)).any (fun e => e.2.identity = (5 : Nat)) = false) ∧
     (ptpUp.ptpLive (0 : Fin 256) = false ∨ (0 : Fin 3).val ≠ 2 ∧ ptpUp.ptpState (0 : Fin 256) ≠ 6) ∧
     (((2 : Fin 3).val = 2 ∨ ptpUp.ptpState (0 : Fin 256) = 6)) ∧ (0 : Nat) = smGet (fun _ => 0) ptpUp.sdl.ptpSeq ((0 : Fin 256) * 8 + (2 : Fin 3))) := by
  iterate 3 refine ⟨by decide +kernel, ?_⟩
  decide +kernel
theorem test_hyp_PulseSourcesAndHoldover :
    (s0.fabricUp = true ∧ s0.srcEnabled (ppsSrc false) = false ∧ ppsOn.fabricUp = true ∧ (.pps : TimeSrc) = ppsSrc false ∧
     ppsOn.srcEnabled (.pps : TimeSrc) = true ∧
     true = (ppsOn.qual (.pps : TimeSrc)).lastEdge.any (fun l => decide (999999000 ≤ ppsOn.now - l) && decide (ppsOn.now - l ≤ 1000001000)) ∧
     ppsFresh.fabricUp = true ∧ ppsFresh.srcEnabled (.pps : TimeSrc) = true) ∧
    (ppsFresh.irigValid irig = true ∧ (ppsFresh.qual (.pps : TimeSrc)).lastEdge.isSome = true ∧ (ppsFresh.qual (.pps : TimeSrc)).matched = false ∧
     ppsOn.irigValid irig = true ∧ ((ppsOn.qual (.pps : TimeSrc)).lastEdge = none ∨ (ppsOn.qual (.pps : TimeSrc)).matched = true) ∧
     ppsOn.irigValid irigBad = false ∧ ((ppsOn.setReg pSdl Reg.Sdl.PIN_ALT 1) : State).fabricUp = true ∧
     ((ppsOn.setReg pSdl Reg.Sdl.PIN_ALT 1) : State).srcEnabled (.pps : TimeSrc) = true) ∧
    (((ppsOn.setReg pSdl Reg.Sdl.PIN_ALT 1) : State).irigValid irig = true ∧
     ((ppsOn.setReg pSdl Reg.Sdl.PIN_ALT 1) : State).flag pSdl Reg.Sdl.PIN_ALT 0 = true ∧
     (({ ppsOn with sdl.src := .pps, sdl.state := .locked }) : State).fabricUp = true ∧
     (({ ppsOn with sdl.src := .pps, sdl.state := .locked }) : State).srcEnabled (.pps : TimeSrc) = true ∧ s0.sdl.state ≠ .holdover ∧
     holding.fabricUp = true ∧ holding.sdl.state = .holdover ∧ (s0.sdl.sec : RefChan) = (if true then s0.sdl.sec else s0.sdl.pri)) ∧
    ((s0.sdl.sec : RefChan).st ≠ .locked ∧ locked.fabricUp = true ∧ (locked.sdl.pri : RefChan) = (if false then locked.sdl.sec else locked.sdl.pri) ∧
     (locked.sdl.pri : RefChan).st = .locked) := by
  iterate 3 refine ⟨by decide +kernel, ?_⟩
  decide +kernel
theorem test_hyp_StationTimeIsSetAndShown :
    (WriteReaches promised (.core : Port) pSdl Reg.Sdl.SET_CMD ∧ promised.setRefused = true ∧ WriteReaches setUp (.core : Port) pSdl Reg.Sdl.SET_CMD ∧
     setUp.setRefused = false ∧ (((setUp.setReg pSdl Reg.Sdl.UTC_OFS 0x10000)) : State).fabricUp = true ∧
     (0 : Nat) = (((setUp.setReg pSdl Reg.Sdl.UTC_OFS 0x10000)) : State).fld pSdl Reg.Sdl.UTC_OFS 15 0 ∧
     (1 : Nat) = ((((setUp.setReg pSdl Reg.Sdl.UTC_OFS 0x10000)) : State).sdl.time + 999999999) / 1000000000 - (0 : Nat) ∧ setUp.fabricUp = true) ∧
    (setUp.sdl.ppsOut = false ∧ (({ setUp with sdl.ppsOut := true }) : State).fabricUp = true ∧
     (({ setUp with sdl.ppsOut := true }) : State).sdl.ppsOut = true ∧ ReadReaches setUp (.core : Port) pSdl ∧ setUp.sdl.evt = [] ∧
     ReadReaches (({ setUp with sdl.evt := [⟨7, true, 9⟩] }) : State) (.core : Port) pSdl ∧
     (({ setUp with sdl.evt := [⟨7, true, 9⟩] }) : State).sdl.evt ≠ []) :=
  ⟨by decide +kernel, by decide +kernel⟩
theorem test_hyp_SlotsStartOnTheSundial :
    (WriteReaches refsOn (.core : Port) pSdl Reg.Hdr.CTL ∧ refsOn.fencedPage pSdl = false ∧ refsOn.enabled pSdl = false ∧
     WriteReaches slotted (.core : Port) pSdl Reg.Hdr.CTL ∧ slotted.enabled pSdl = true ∧ s0.fabricUp = true ∧ s0.enabled pSdl = false ∧
     slotted.fabricUp = true) ∧
    (slotted.sdl.slotAt = some (1000000000 : Nat) ∧
     ((1000000000 + slotted.slotLength) : Nat) = max slotted.sdl.time ((1000000000 : Nat) + slotted.slotLength) ∧
     ((1000000000 + slotted.slotLength) : Nat) = ((((1000000000 + slotted.slotLength) : Nat) : Int) + slotted.sdl.step.getD 0).toNat ∧
     slotted.cln.adopt = none ∧ slotted.engP.rep = none ∧ firstSlot.fabricUp = true ∧ firstSlot.enabled pSdl = true ∧ firstSlot.sdl.slotAt = none) ∧
    ((1000000000 : Nat) = ((firstSlot.sdl.time : Int) + firstSlot.sdl.step.getD 0).toNat ∧ firstSlot.cln.adopt = none ∧ firstSlot.engP.rep = none ∧
     s0.ptr.fixWait = false ∧ (({ slotted with ptr.fixWait := true }) : State).fabricUp = true ∧
     (({ slotted with ptr.fixWait := true }) : State).sdl.slotAt = some (1000000000 : Nat) ∧
     (({ slotted with ptr.fixWait := true }) : State).ptr.fixWait = true ∧ s0.psh.held = false) ∧
    ((s0.sdl.slotAt = none ∨ s0.nextSlotAt ≤ s0.pgl.winAt + s0.lMin) ∧ slotted.psh.held = false ∧ slotted.sdl.slotAt.isSome = true ∧
     slotted.pgl.winAt + slotted.lMin < slotted.nextSlotAt ∧ (({ slotted with psh.held := true }) : State).fabricUp = true ∧
     (({ slotted with psh.held := true }) : State).psh.held = true ∧ (({ slotted with psh.held := true }) : State).sdl.slotAt.isSome = true ∧
     (({ slotted with psh.held := true }) : State).pgl.winAt + (({ slotted with psh.held := true }) : State).lMin < (({ slotted with psh.held := true }) : State).nextSlotAt) := by
  iterate 3 refine ⟨by decide +kernel, ?_⟩
  decide +kernel
theorem test_hyp_CompareUnitsAct :
    (WriteReaches s0 (.core : Port) pSdl (Reg.Sdl.CMP_ACT (0 : Fin 64)) ∧ s0.groupOwner ((0 : Fin 64) / 4) ≠ 1 ∧
     WriteReaches cmpUp (.core : Port) pSdl (Reg.Sdl.CMP_ACT (0 : Fin 64)) ∧ cmpUp.groupOwner ((0 : Fin 64) / 4) = 1 ∧ cmpUp.armed (0 : Fin 64) = none ∧
     (1000000 : Nat) = (cmpUp.reg pSdl (Reg.Sdl.CMP_TGT_HI (0 : Fin 64))).toNat * 1000000000 + (cmpUp.reg pSdl (Reg.Sdl.CMP_TGT_LO (0 : Fin 64))).toNat ∧
     cmpUp.flag pSdl (Reg.Sdl.CMP_CFG (0 : Fin 64)) 5 = true ∧ ((bitAt (0x40000005 : Word) 30 = true ∨ bitAt (0x40000005 : Word) 29 = true))) ∧
    (cmpUp.sdl.time < 2 ^ 32 * 1000000000 ∧
     ((bitAt (0x40000005 : Word) 30 = true ∨ cmpUp.sdl.time + 20000 ≤ (1000000 : Nat) ∧ (1000000 : Nat) ≤ cmpUp.sdl.time + 2000000000)) ∧
     WriteReaches ((cmpUp.setReg pSdl (Reg.Sdl.CMP_TGT_LO 0) 19999) : State) (.core : Port) pSdl (Reg.Sdl.CMP_ACT (0 : Fin 64)) ∧
     ((cmpUp.setReg pSdl (Reg.Sdl.CMP_TGT_LO 0) 19999) : State).groupOwner ((0 : Fin 64) / 4) = 1 ∧
     ((cmpUp.setReg pSdl (Reg.Sdl.CMP_TGT_LO 0) 19999) : State).armed (0 : Fin 64) = none ∧
     (19999 : Nat) = (((cmpUp.setReg pSdl (Reg.Sdl.CMP_TGT_LO 0) 19999) : State).reg pSdl (Reg.Sdl.CMP_TGT_HI (0 : Fin 64))).toNat * 1000000000 + (((cmpUp.setReg pSdl (Reg.Sdl.CMP_TGT_LO 0) 19999) : State).reg pSdl (Reg.Sdl.CMP_TGT_LO (0 : Fin 64))).toNat ∧
     ((cmpUp.setReg pSdl (Reg.Sdl.CMP_TGT_LO 0) 19999) : State).flag pSdl (Reg.Sdl.CMP_CFG (0 : Fin 64)) 5 = true ∧
     ((bitAt (0x20000005 : Word) 30 = true ∨ bitAt (0x20000005 : Word) 29 = true))) ∧
    (((cmpUp.setReg pSdl (Reg.Sdl.CMP_TGT_LO 0) 19999) : State).sdl.time < 2 ^ 32 * 1000000000 ∧ bitAt (0x20000005 : Word) 30 = false ∧
     ((cmpUp.setReg pSdl (Reg.Sdl.CMP_TGT_LO 0) 19999) : State).sdl.time ≤ (19999 : Nat) ∧
     (((19999 : Nat) < ((cmpUp.setReg pSdl (Reg.Sdl.CMP_TGT_LO 0) 19999) : State).sdl.time + 20000 ∨ ((cmpUp.setReg pSdl (Reg.Sdl.CMP_TGT_LO 0) 19999) : State).sdl.time + 2000000000 < (19999 : Nat) ∧ (19999 : Nat) < 2 ^ 32 * 1000000000)) ∧
     WriteReaches ((cmpUp.setReg pSdl (Reg.Sdl.CMP_TGT_HI 0) 1) : State) (.core : Port) pSdl (Reg.Sdl.CMP_ACT (0 : Fin 64)) ∧
     ((cmpUp.setReg pSdl (Reg.Sdl.CMP_TGT_HI 0) 1) : State).groupOwner ((0 : Fin 64) / 4) = 1 ∧
     ((cmpUp.setReg pSdl (Reg.Sdl.CMP_TGT_HI 0) 1) : State).armed (0 : Fin 64) = none ∧
     (0x1000F4240 : Nat) = (((cmpUp.setReg pSdl (Reg.Sdl.CMP_TGT_HI 0) 1) : State).reg pSdl (Reg.Sdl.CMP_TGT_HI (0 : Fin 64))).toNat * 2 ^ 32 + (((cmpUp.setReg pSdl (Reg.Sdl.CMP_TGT_HI 0) 1) : State).reg pSdl (Reg.Sdl.CMP_TGT_LO (0 : Fin 64))).toNat) ∧
    ((0x1000F4240 : Nat) = ((0x1000F4240 : Nat) + 2 ^ 64 - ((cmpUp.setReg pSdl (Reg.Sdl.CMP_TGT_HI 0) 1) : State).sdl.ang) % 2 ^ 64 ∧
     ((cmpUp.angleDue 0x1000F4240) : Nat) = ((cmpUp.setReg pSdl (Reg.Sdl.CMP_TGT_HI 0) 1) : State).angleDue (0x1000F4240 : Nat) ∧
     ((cmpUp.setReg pSdl (Reg.Sdl.CMP_TGT_HI 0) 1) : State).flag pSdl (Reg.Sdl.CMP_CFG (0 : Fin 64)) 5 = true ∧ bitAt (5 : Word) 30 = false ∧
     bitAt (5 : Word) 29 = false ∧ ((cmpUp.setReg pSdl (Reg.Sdl.CMP_TGT_HI 0) 1) : State).enabled pSdl = true ∧
     ((cmpUp.setReg pSdl (Reg.Sdl.CMP_TGT_HI 0) 1) : State).sdl.freq ≠ 0 ∧ (0x1000F4240 : Nat) ≤ 64 * 2 ^ 32) ∧
    (((cmpUp.setReg pSdl (Reg.Sdl.CMP_TGT_HI 0) 1) : State).sdl.time + 20000 ≤ ((cmpUp.angleDue 0x1000F4240) : Nat) ∧
     WriteReaches ((cmpUp.setReg pSdl (Reg.Sdl.CMP_TGT_HI 0) 65) : State) (.core : Port) pSdl (Reg.Sdl.CMP_ACT (0 : Fin 64)) ∧
     ((cmpUp.setReg pSdl (Reg.Sdl.CMP_TGT_HI 0) 65) : State).groupOwner ((0 : Fin 64) / 4) = 1 ∧
     ((cmpUp.setReg pSdl (Reg.Sdl.CMP_TGT_HI 0) 65) : State).armed (0 : Fin 64) = none ∧
     (0x41000F4240 : Nat) = (((cmpUp.setReg pSdl (Reg.Sdl.CMP_TGT_HI 0) 65) : State).reg pSdl (Reg.Sdl.CMP_TGT_HI (0 : Fin 64))).toNat * 2 ^ 32 + (((cmpUp.setReg pSdl (Reg.Sdl.CMP_TGT_HI 0) 65) : State).reg pSdl (Reg.Sdl.CMP_TGT_LO (0 : Fin 64))).toNat ∧
     (0x41000F4240 : Nat) = ((0x41000F4240 : Nat) + 2 ^ 64 - ((cmpUp.setReg pSdl (Reg.Sdl.CMP_TGT_HI 0) 65) : State).sdl.ang) % 2 ^ 64 ∧
     ((cmpUp.angleDue 0x41000F4240) : Nat) = ((cmpUp.setReg pSdl (Reg.Sdl.CMP_TGT_HI 0) 65) : State).angleDue (0x41000F4240 : Nat) ∧
     ((cmpUp.setReg pSdl (Reg.Sdl.CMP_TGT_HI 0) 65) : State).flag pSdl (Reg.Sdl.CMP_CFG (0 : Fin 64)) 5 = true) ∧
    (((cmpUp.setReg pSdl (Reg.Sdl.CMP_TGT_HI 0) 65) : State).enabled pSdl = true ∧ ((cmpUp.setReg pSdl (Reg.Sdl.CMP_TGT_HI 0) 65) : State).sdl.freq ≠ 0 ∧
     (64 * 2 ^ 32 < (0x41000F4240 : Nat) ∨ ((cmpUp.angleDue 0x41000F4240) : Nat) < ((cmpUp.setReg pSdl (Reg.Sdl.CMP_TGT_HI 0) 65) : State).sdl.time + 20000) ∧
     WriteReaches ((cmpUp.setReg pSdl (Reg.Sdl.CMP_CFG 0) 0) : State) (.core : Port) pSdl (Reg.Sdl.CMP_ACT (0 : Fin 64)) ∧
     ((cmpUp.setReg pSdl (Reg.Sdl.CMP_CFG 0) 0) : State).groupOwner ((0 : Fin 64) / 4) = 1 ∧
     ((cmpUp.setReg pSdl (Reg.Sdl.CMP_CFG 0) 0) : State).armed (0 : Fin 64) = none ∧
     ((cmpUp.setReg pSdl (Reg.Sdl.CMP_CFG 0) 0) : State).flag pSdl (Reg.Sdl.CMP_CFG (0 : Fin 64)) 5 = false ∧ bitAt (0x40000005 : Word) 30 = true) ∧
    (WriteReaches cmpAct (.core : Port) pSdl (Reg.Sdl.CMP_ACT (0 : Fin 64)) ∧ cmpAct.groupOwner ((0 : Fin 64) / 4) = 1 ∧
     (cmpAct.armed (0 : Fin 64)).isSome = true ∧ cmpUp.fabricUp = true ∧ cmpAng.fabricUp = true ∧
     cmpAng.armed (0 : Fin 64) = some ({ act with angle := some 0x100000000 } : Armed) ∧
     ({ act with angle := some 0x100000000 } : Armed).angle = some (0x100000000 : Nat) ∧ ({ act with angle := some 0x100000000 } : Armed).placed = false) ∧
    (cmpAct.fabricUp = true ∧ cmpAct.armed (0 : Fin 64) = some act ∧ (0 : Nat) = cmpAct.fld pSdl (Reg.Sdl.CMP_CFG (0 : Fin 64)) 4 0 ∧
     (1000 : Nat) = max cmpAct.sdl.time act.due ∧
     (⟨0, 1000, cmpAct.ball 0, []⟩ : EdgeTick) = (cmpAct.edgeAt (0 : Nat) (1000 : Nat)).getD ⟨(0 : Nat), (1000 : Nat), cmpAct.ball (0 : Nat), []⟩ ∧
     act.placed = false ∧ ((act.angle = none ∨ cmpAct.enabled pSdl = true)) ∧ cmpAct.ldg.aout.length = 32) ∧
    (cmpPls.fabricUp = true ∧ cmpPls.armed (0 : Fin 64) = some ({ act with placed := true, prior := .low } : Armed) ∧
     (0 : Nat) = cmpPls.fld pSdl (Reg.Sdl.CMP_CFG (0 : Fin 64)) 4 0 ∧
     (6000 : Nat) = max cmpPls.sdl.time (({ act with placed := true, prior := .low } : Armed).due + 1000 * ({ act with placed := true, prior := .low } : Armed).pulse) ∧
     ({ act with placed := true, prior := .low } : Armed).placed = true ∧ cmpPls.ldg.aout.length = 32) := by
  iterate 8 refine ⟨by decide +kernel, ?_⟩
  decide +kernel

/-! Keys. -/

/-- The plaintext of a blob: an AES-128 key for FW use, any slot, KEYID 1, no expiry. -/
def plain1 : List Byte := [1, 1, 0xFF, 0xFF] ++ natOctets 4 1 ++ zeros 8 ++ List.replicate 16 0x11
/-- The octet at place b of a table of 256 octets written as one number; the tables of the inverse S-box and of the products by 14, 11, 13
and 9, whose agreement with the definitions is checked octet by octet. -/
def octetAt (t : Nat) (b : Byte) : Byte := BitVec.ofNat 8 (t / 2 ^ (8 * b.toNat))
def tabInv : Nat :=
  0x7D0C2155631469E126D677BA7E042B17619953833CBBEBC8B0F52AAE4D3BE0A0EF9CC9939F7AE52D0D4AB519A97F51605FEC8027591012B131C7078833A8DD1FF45ACD78FEC0DB9A2079D2C64B3E56FC1BBE18AA0E62B76F89C5291D711AF1476EDF751CE837F9E28535ADE72274AC9673E6B4F0CECFF297EADC674F4111913A6B8A130103BDAFC1020F3FCA8F1E2CD00645B3B80558E4F70AD3BC8C00ABD890849D8DA75746155EDAB9EDFD5048706C92B6655DCC5CA4D41698688664F6F87225D18B6D49A25B76B224D92866A12E084EC3FA420B954CEE3D23C2A632947B54CBE9DEC444438E3487FF2F9B8239E37CFBD7F3819EA340BF38A53630D56A0952
def tab14 : Nat :=
  0x8D83919FB5BBA9A7FDF3E1EFC5CBD9D76D63717F555B49471D13010F252B393756584A446E60727C26283A341E10020CB6B8AAA48E80929CC6C8DAD4FEF0E2EC202E3C321816040A505E4C426866747AC0CEDCD2F8F6E4EAB0BEACA28886949AFBF5E7E9C3CDDFD18B859799B3BDAFA11B150709232D3F316B657779535D4F41CCC2D0DEF4FAE8E6BCB2A0AE848A98962C22303E141A08065C52404E646A787617190B052F21333D67697B755F51434DF7F9EBE5CFC1D3DD87899B95BFB1A3AD616F7D735957454B111F0D032927353B818F9D93B9B7A5ABF1FFEDE3C9C7D5DBBAB4A6A8828C9E90CAC4D6D8F2FCEEE05A544648626C7E702A243638121C0E00
def tab11 : Nat :=
  0xA3A8B5BE8F849992FBF0EDE6D7DCC1CA1318050E3F3429224B405D56676C717AD8D3CEC5F4FFE2E9808B969DACA7BAB168637E75444F5259303B262D1C170A01555E434879726F640D061B10212A373CE5EEF3F8C9C2DFD4BDB6ABA0919A878C2E2538330209141F767D606B5A514C479E958883B2B9A4AFC6CDD0DBEAE1FCF7545F424978736E650C071A11202B363DE4EFF2F9C8C3DED5BCB7AAA1909B868D2F2439320308151E777C616A5B504D469F948982B3B8A5AEC7CCD1DAEBE0FDF6A2A9B4BF8E859893FAF1ECE7D6DDC0CB1219040F3E3528234A415C57666D707BD9D2CFC4F5FEE3E8818A979CADA6BBB069627F74454E5358313A272C1D160B00
def tab13 : Nat :=
  0x979A8D80A3AEB9B4FFF2E5E8CBC6D1DC474A5D50737E69642F2235381B16010C2C21363B1815020F44495E53707D6A67FCF1E6EBC8C5D2DF94998E83A0ADBAB7FAF7E0EDCEC3D4D9929F8885A6ABBCB12A27303D1E130409424F5855767B6C61414C5B5675786F622924333E1D10070A919C8B86A5A8BFB2F9F4E3EECDC0D7DA4D40575A7974636E25283F32111C0B069D90878AA9A4B3BEF5F8EFE2C1CCDBD6F6FBECE1C2CFD8D59E938489AAA7B0BD262B3C31121F08054E4354597A77606D202D3A3714190E034845525F7C71666BF0FDEAE7C4C9DED39895828FACA1B6BB9B96818CAFA2B5B8F3FEE9E4C7CADDD04B46515C7F726568232E3934171A0D00
def tab9 : Nat :=
  0x464F545D626B70790E071C152A233831D6DFC4CDF2FBE0E99E978C85BAB3A8A17D746F6659504B42353C272E1118030AEDE4FFF6C9C0DBD2A5ACB7BE8188939A3039222B141D060F78716A635C554E47A0A9B2BB848D969FE8E1FAF3CCC5DED70B0219102F263D34434A5158676E757C9B928980BFB6ADA4D3DAC1C8F7FEE5ECAAA3B8B18E879C95E2EBF0F9C6CFD4DD3A3328211E170C05727B6069565F444D9198838AB5BCA7AED9D0CBC2FDF4EFE60108131A252C373E49405B526D647F76DCD5CEC7F8F1EAE3949D868FB0B9A2AB4C455E5768617A73040D161F2029323BE7EEF5FCC3CAD1D8AFA6BDB48B829990777E656C535A41483F362D241B120900
theorem tabInv_eq : ∀ b : Byte, aesInvSub b = octetAt tabInv b := by decide +kernel
theorem tab14_eq : ∀ b : Byte, gmul 14#8 b = octetAt tab14 b := by decide +kernel
theorem tab11_eq : ∀ b : Byte, gmul 11#8 b = octetAt tab11 b := by decide +kernel
theorem tab13_eq : ∀ b : Byte, gmul 13#8 b = octetAt tab13 b := by decide +kernel
theorem tab9_eq : ∀ b : Byte, gmul 9#8 b = octetAt tab9 b := by decide +kernel
/-- A column of the inverse MixColumns, and the rounds of decryption, by those tables. -/
def tabColumn (c : List Byte) : List Byte :=
  (List.range 4).map (fun r => (List.range 4).foldl (fun acc k => acc ^^^ octetAt (nth [tab14, tab11, tab13, tab9] ((k + 4 - r) % 4) 0) (nth c k 0)) 0)
def tabRounds : List (List Byte) → List Byte → List Byte
  | [], s => s
  | [k], s => xorOctets ((aesInvShift s).map (octetAt tabInv)) k
  | k :: ks, s => tabRounds ks ((chunks 4 (xorOctets ((aesInvShift s).map (octetAt tabInv)) k)).flatMap tabColumn)
theorem tabColumn_eq (c : List Byte) : mixColumn [14, 11, 13, 9] c = tabColumn c := by
  simp [mixColumn, tabColumn, List.range, List.range.loop, nth, tab14_eq, tab11_eq, tab13_eq, tab9_eq]
theorem tabRounds_eq (ks : List (List Byte)) (s : List Byte) : aesDecRounds ks s = tabRounds ks s := by
  have h : aesInvSub = octetAt tabInv := funext tabInv_eq
  have g : mixColumn [14, 11, 13, 9] = tabColumn := funext tabColumn_eq
  induction ks generalizing s with
  | nil => rfl
  | cons k ks ih =>
    cases ks with
    | nil => simp only [aesDecRounds, tabRounds, h]
    | cons l ks => simp only [aesDecRounds, tabRounds, aesMix, h, g] at ih ⊢; exact ih _
/-- KEK of the witnesses: KEK_T of a transport blob with scalar 1, a nonce of zeros and the point G. -/
def kek1 : List Byte := natOctetsBE 32 0x5AF8841C3343D2CF7FAEE0A9D319DD735C2590DFE028F1CD156D53ABB69F7223
/-- Its round keys, and decryption under it. -/
def roundKeys1 : List (List Byte) := chunks 16 (natOctetsBE 240 0x5AF8841C3343D2CF7FAEE0A9D319DD735C2590DFE028F1CD156D53ABB69F722380B8A252B3FB709DCC5590341F4C4D479C0C737F7C2482B26949D119DFD6A33A74B222CCC74952510B1CC26514508F22665F00EC1A7B825E73325347ACE4F07D193EDD5DDE778F0CD56B4D69C13BC24B1EBD255F04C6A70177F4F446DB10043BDBCC3FE405BBB0E8D0D0FD8111EB3FCA9C54502B9892F72AEF66036C34760757F30964FCF6B2D414266229953789165F06F317E49E61E0CE7107E3A24571E4F57060829286D25686A0B07F139739694C8EE1EECD10800E036187EDA124F609547261A2A4F4B3F42254038B31C33AE27D)
theorem kek1_keys : aesKeys kek1 = roundKeys1 := by decide +kernel
def dec1 (blk : List Byte) : List Byte := tabRounds (roundKeys1.reverse.drop 1) (xorOctets blk (roundKeys1.reverse.headD []))
theorem aesDec_kek1 (blk : List Byte) : aesDec kek1 blk = dec1 blk := by
  have h : roundKeys1.reverse = roundKeys1.reverse.headD [] :: roundKeys1.reverse.drop 1 := by decide +kernel
  unfold aesDec
  rw [kek1_keys, h]
  simp only [tabRounds_eq]
  rfl
/-- A key wrapped under it. -/
def wrapped1 : List Byte := natOctetsBE 40 0x8A6C8C8E50AD9D719738A16B740EFB1ACC608272A5852DA9E7245073EBF0595C687AF84D03BD3DA8
theorem unwrapPass_cons {key : List Byte} {t : Nat} {a r b af : List Byte} {rs out : List (List Byte)}
    (h : aesDec key (xorOctets a (natOctetsBE 8 t) ++ r) = b) (g : unwrapPass key (t - 1) (b.take 8) rs = (af, out)) :
    unwrapPass key t a (r :: rs) = (af, b.drop 8 :: out) := by simp only [unwrapPass, h, g]
theorem unwrapPasses_succ {key : List Byte} {n j t : Nat} {a a' : List Byte} {rs rs' : List (List Byte)} {x : List Byte × List (List Byte)}
    (h : unwrapPass key t a rs = (a', rs')) (g : unwrapPasses key n j (t - n) a' rs' = x) : unwrapPasses key n (j + 1) t a rs = x := by
  simp only [unwrapPasses, h, g]
/-- Octets of one AES block. -/
def o16 (n : Nat) : List Byte := natOctetsBE 16 n
theorem unwrap1_pass1 : unwrapPass kek1 24 (natOctetsBE 8 0x8A6C8C8E50AD9D71)
    [natOctetsBE 8 0x687AF84D03BD3DA8,
      natOctetsBE 8 0xE7245073EBF0595C,
      natOctetsBE 8 0xCC608272A5852DA9,
      natOctetsBE 8 0x9738A16B740EFB1A] =
    (((o16 0x3C36E43EC72F29AAA2D7A2DDBE6BAE61).take 8),
      [(o16 0xAFFB0F9579962E6F9455BE38ADE1B24D).drop 8,
      (o16 0x0B616B21B823855A52F51F4A0E303A08).drop 8,
      (o16 0x1E1936D83932767596EEADDCF96D0C3D).drop 8,
      (o16 0x3C36E43EC72F29AAA2D7A2DDBE6BAE61).drop 8]) := by
  refine unwrapPass_cons ((aesDec_kek1 _).trans ?_) (unwrapPass_cons ((aesDec_kek1 _).trans ?_)
    (unwrapPass_cons ((aesDec_kek1 _).trans ?_) (unwrapPass_cons ((aesDec_kek1 _).trans ?_) rfl))) <;> decide +kernel
theorem unwrap1_pass2 : unwrapPass kek1 20 ((o16 0x3C36E43EC72F29AAA2D7A2DDBE6BAE61).take 8)
    [(o16 0xAFFB0F9579962E6F9455BE38ADE1B24D).drop 8,
      (o16 0x0B616B21B823855A52F51F4A0E303A08).drop 8,
      (o16 0x1E1936D83932767596EEADDCF96D0C3D).drop 8,
      (o16 0x3C36E43EC72F29AAA2D7A2DDBE6BAE61).drop 8] =
    (((o16 0x75F03662D8D80BA6652D0A1B651D07AC).take 8),
      [(o16 0x6EBED1E5CB6E8D567B26CB376FE95941).drop 8,
      (o16 0xA86FA432BE99853DDA27A83F8E84BCF8).drop 8,
      (o16 0x874DB6F1F0D930F9E070555EBAD463F5).drop 8,
      (o16 0x75F03662D8D80BA6652D0A1B651D07AC).drop 8]) := by
  refine unwrapPass_cons ((aesDec_kek1 _).trans ?_) (unwrapPass_cons ((aesDec_kek1 _).trans ?_)
    (unwrapPass_cons ((aesDec_kek1 _).trans ?_) (unwrapPass_cons ((aesDec_kek1 _).trans ?_) rfl))) <;> decide +kernel
theorem unwrap1_pass3 : unwrapPass kek1 16 ((o16 0x75F03662D8D80BA6652D0A1B651D07AC).take 8)
    [(o16 0x6EBED1E5CB6E8D567B26CB376FE95941).drop 8,
      (o16 0xA86FA432BE99853DDA27A83F8E84BCF8).drop 8,
      (o16 0x874DB6F1F0D930F9E070555EBAD463F5).drop 8,
      (o16 0x75F03662D8D80BA6652D0A1B651D07AC).drop 8] =
    (((o16 0x2517A9DD0AA254830DB930DA116614DC).take 8),
      [(o16 0xA119AD478FAE7F1708D7D8DFB9C43CB4).drop 8,
      (o16 0xBCD147CB290072F4F9CC381FC6A744C3).drop 8,
      (o16 0x12E3B3F7B772B720E16B560AED57A6BF).drop 8,
      (o16 0x2517A9DD0AA254830DB930DA116614DC).drop 8]) := by
  refine unwrapPass_cons ((aesDec_kek1 _).trans ?_) (unwrapPass_cons ((aesDec_kek1 _).trans ?_)
    (unwrapPass_cons ((aesDec_kek1 _).trans ?_) (unwrapPass_cons ((aesDec_kek1 _).trans ?_) rfl))) <;> decide +kernel
theorem unwrap1_pass4 : unwrapPass kek1 12 ((o16 0x2517A9DD0AA254830DB930DA116614DC).take 8)
    [(o16 0xA119AD478FAE7F1708D7D8DFB9C43CB4).drop 8,
      (o16 0xBCD147CB290072F4F9CC381FC6A744C3).drop 8,
      (o16 0x12E3B3F7B772B720E16B560AED57A6BF).drop 8,
      (o16 0x2517A9DD0AA254830DB930DA116614DC).drop 8] =
    (((o16 0x5B55843E7A1BCED237FDDDAF42132EF7).take 8),
      [(o16 0x9329FB2852124BB7769B358AE55C8F5E).drop 8,
      (o16 0x475EC97474509FDF2366A251E84D687C).drop 8,
      (o16 0xB3B91BD6B4759CFA9A069EC45CBF3C07).drop 8,
      (o16 0x5B55843E7A1BCED237FDDDAF42132EF7).drop 8]) := by
  refine unwrapPass_cons ((aesDec_kek1 _).trans ?_) (unwrapPass_cons ((aesDec_kek1 _).trans ?_)
    (unwrapPass_cons ((aesDec_kek1 _).trans ?_) (unwrapPass_cons ((aesDec_kek1 _).trans ?_) rfl))) <;> decide +kernel
theorem unwrap1_pass5 : unwrapPass kek1 8 ((o16 0x5B55843E7A1BCED237FDDDAF42132EF7).take 8)
    [(o16 0x9329FB2852124BB7769B358AE55C8F5E).drop 8,
      (o16 0x475EC97474509FDF2366A251E84D687C).drop 8,
      (o16 0xB3B91BD6B4759CFA9A069EC45CBF3C07).drop 8,
      (o16 0x5B55843E7A1BCED237FDDDAF42132EF7).drop 8] =
    (((o16 0xD0BA75537312CA05FECD29240FF547DD).take 8),
      [(o16 0xE9D2AF24764BB5DE7A3E90343BBCD388).drop 8,
      (o16 0x7B656CFAB24B23DE85FFBD65022B8349).drop 8,
      (o16 0x9092D804CE116049201D4A5E9317727E).drop 8,
      (o16 0xD0BA75537312CA05FECD29240FF547DD).drop 8]) := by
  refine unwrapPass_cons ((aesDec_kek1 _).trans ?_) (unwrapPass_cons ((aesDec_kek1 _).trans ?_)
    (unwrapPass_cons ((aesDec_kek1 _).trans ?_) (unwrapPass_cons ((aesDec_kek1 _).trans ?_) rfl))) <;> decide +kernel
theorem unwrap1_pass6 : unwrapPass kek1 4 ((o16 0xD0BA75537312CA05FECD29240FF547DD).take 8)
    [(o16 0xE9D2AF24764BB5DE7A3E90343BBCD388).drop 8,
      (o16 0x7B656CFAB24B23DE85FFBD65022B8349).drop 8,
      (o16 0x9092D804CE116049201D4A5E9317727E).drop 8,
      (o16 0xD0BA75537312CA05FECD29240FF547DD).drop 8] =
    (((o16 0xA65959A6000000200101FFFF01000000).take 8),
      [(o16 0xF10F5C8E5A6688691111111111111111).drop 8,
      (o16 0x402F58F29A6A4D3D1111111111111111).drop 8,
      (o16 0xD06A78E72481014A0000000000000000).drop 8,
      (o16 0xA65959A6000000200101FFFF01000000).drop 8]) := by
  refine unwrapPass_cons ((aesDec_kek1 _).trans ?_) (unwrapPass_cons ((aesDec_kek1 _).trans ?_)
    (unwrapPass_cons ((aesDec_kek1 _).trans ?_) (unwrapPass_cons ((aesDec_kek1 _).trans ?_) rfl))) <;> decide +kernel
theorem unwrap1_passes : unwrapPasses kek1 4 6 24 (natOctetsBE 8 0x8A6C8C8E50AD9D71)
    [natOctetsBE 8 0x687AF84D03BD3DA8, natOctetsBE 8 0xE7245073EBF0595C, natOctetsBE 8 0xCC608272A5852DA9, natOctetsBE 8 0x9738A16B740EFB1A] = (((o16 0xA65959A6000000200101FFFF01000000).take 8), [(o16 0xF10F5C8E5A6688691111111111111111).drop 8, (o16 0x402F58F29A6A4D3D1111111111111111).drop 8, (o16 0xD06A78E72481014A0000000000000000).drop 8, (o16 0xA65959A6000000200101FFFF01000000).drop 8]) :=
  unwrapPasses_succ unwrap1_pass1 (unwrapPasses_succ unwrap1_pass2 (unwrapPasses_succ unwrap1_pass3 (unwrapPasses_succ unwrap1_pass4
    (unwrapPasses_succ unwrap1_pass5 (unwrapPasses_succ unwrap1_pass6 rfl)))))
theorem unwrap1 : kwpUnwrap kek1 wrapped1 = some plain1 := by
  have h : unwrapPasses kek1 (wrapped1.length / 8 - 1) 6 (6 * (wrapped1.length / 8 - 1)) (wrapped1.take 8) (chunks 8 (wrapped1.drop 8)).reverse =
      (((o16 0xA65959A6000000200101FFFF01000000).take 8), [(o16 0xF10F5C8E5A6688691111111111111111).drop 8, (o16 0x402F58F29A6A4D3D1111111111111111).drop 8, (o16 0xD06A78E72481014A0000000000000000).drop 8, (o16 0xA65959A6000000200101FFFF01000000).drop 8]) := by
    have e : wrapped1.length / 8 - 1 = 4 ∧ wrapped1.take 8 = natOctetsBE 8 0x8A6C8C8E50AD9D71 ∧ (chunks 8 (wrapped1.drop 8)).reverse =
        [natOctetsBE 8 0x687AF84D03BD3DA8, natOctetsBE 8 0xE7245073EBF0595C, natOctetsBE 8 0xCC608272A5852DA9, natOctetsBE 8 0x9738A16B740EFB1A] := by decide +kernel
    rw [e.1, e.2.1, e.2.2]
    exact unwrap1_passes
  unfold kwpUnwrap
  rw [if_neg (by decide +kernel), if_neg (by decide +kernel)]
  simp only [h]
  decide +kernel
/-- Its storage blob, for DEVICE_ID zero. -/
def blobS : List Byte := ascii "BNLK" ++ [1, 1] ++ zeros 18 ++ natOctets 4 40 ++ zeros 4 ++ wrapped1
/-- Ready for key commands, in PROVISIONED, with the storage blob at the base of control SRAM and slot 7 in use. -/
def keyUp : State :=
  { s0 with
    otp.row := otpOf 1, gate.cur := [(indexOf pOrg, ⟨0x1FF, 0x1FF⟩)], org.kekS := some kek1
    mem.csram := memWrite zeroOctet [] 0 blobS, org.slots := [(7, ⟨some key1, none, false, none, false, none⟩)] }.setReg
    pOrg Reg.Org.KEY_ADDR 0x20000000
/-- The blob, as read; the state in which no keys are permitted; in which BBR is there; in a pair. -/
def blob1 : BlobIn := (blobAt keyUp 0x20000000).getD ⟨false, [], [], [], []⟩
def bbrUp : State := { keyUp with well.bbr := some 5 }.setFlag pLdg Reg.Ldg.BOOT_STA 11 true
def pairUp : State := { keyUp with cln.st := .inStep, cln.session := true }
/-- A transport LOAD waits for the Arbour, for scalar 1, the point G and a nonce of zeros. -/
def keyT : KeyCmd := ⟨1, 0, false, 5, pubG, zeros 16, wrapped1⟩
def tranUp : State := { s0 with org.dKA := some 1, org.keyCmd := some keyT, arb.cur := some (.req .transportLoad), arb.phase := .timed }
/-- A ring of one entry with a hash of 0 octets, class 0 permitted. -/
def ringUp (w0 : Word) : State :=
  { (((s0.setReg pOrg Reg.Org.ORG_CFG 0x10000).setReg pOrg (Reg.Org.RING_CTL 0) 0x80000000).setReg pOrg (Reg.Org.RING_BASE 0) 0x20000000) with
    org.queue := [⟨0, 0⟩]
    mem.csram := memWrite zeroOctet [] 0 (wordOctets w0 ++ zeros 4 ++ wordOctets 0x20001000 ++ zeros 4 ++ wordOctets 0x20002000 ++ zeros 12) }
/-- A slot whose swap is set; one that holds a retired key. -/
def swapK : KeySlot := ⟨some key1, some key1, false, some 3, false, none⟩
def missK : KeySlot := ⟨some key1, none, false, some 3, false, none⟩
def swapS : State := { s0 with org.slots := [(8191, swapK)] }
def retiK : KeySlot := ⟨some key1, some key1, true, none, false, some 9⟩
def retiS : State := { s0 with org.slots := [(0, retiK)] }
def ring3 : State := r0 pOrg (Reg.Org.RING_CTL 3) 0x80000001
/-- A hash of no octets, at work on SHA core 32. -/
def hashJob : CoreJob := ⟨32, ⟨0, 0⟩, (ringUp 8).peekDesc ⟨0, 0⟩, []⟩
def hashS : State := { ringUp 8 with org.queue := [], org.jobs := [hashJob] }

theorem test_hyp_KeyCommandsChangeTheirSlot_forms :
    (WriteReaches s0 (.core : Port) pOrg Reg.Org.KEY_CMD ∧ s0.flag pOrg Reg.Org.KEY_CMD 31 = false ∧ s0.pairKeys = false ∧
     (s0.keysPermitted = false ∨ inCsram (0 : Nat) 32 = false ∨ (0 : Nat) % 8 ≠ 0) ∧ WriteReaches keyUp (.core : Port) pOrg Reg.Org.KEY_CMD ∧
     keyUp.flag pOrg Reg.Org.KEY_CMD 31 = false ∧ keyUp.pairKeys = false ∧ keyUp.keysPermitted = true) ∧
    (inCsram (0x20000000 : Nat) (blobLen keyUp (0x20000000 : Nat)) = true ∧ inCsram (0x20000000 : Nat) 32 = true ∧ (0x20000000 : Nat) % 8 = 0 ∧
     keyUp.clean ∧ blobAt keyUp (0x20000000 : Nat) = some blob1 ∧ blob1.devId = keyUp.deviceId ∧ keyUp.org.kekS = some kek1 ∧ blob1.transport = false) ∧
    (blobPos keyUp plain1 true (7 : Fin 8192) = some key1 ∧ ((key1.notAfter = 0 ∨ keyUp.sdl.time / 1000000000 < key1.notAfter)) ∧
     ((true = true → (keyUp.slot (7 : Fin 8192)).cur ≠ none)) ∧
     (if false then (keyUp.slot (7 : Fin 8192)).nxt else (keyUp.slot (7 : Fin 8192)).cur) = some key1 ∧
     key1.key.length = (if key1.typ = 1 then 16 else 32) ∧ inCsram (0x20000000 : Nat) (if key1.typ = 1 then 72 else 88) = true ∧
     WriteReaches (({ keyUp with ftn.st := .ready }) : State) (.core : Port) pOrg Reg.Org.KEY_CMD ∧
     (({ keyUp with ftn.st := .ready }) : State).flag pOrg Reg.Org.KEY_CMD 31 = false) ∧
    ((({ keyUp with ftn.st := .ready }) : State).well.bbr = none ∧ (({ keyUp with ftn.st := .ready }) : State).ftn.st = .ready ∧
     (({ keyUp with ftn.st := .ready }) : State).keysPermitted = true ∧ WriteReaches bbrUp (.core : Port) pOrg Reg.Org.KEY_CMD ∧
     bbrUp.flag pOrg Reg.Org.KEY_CMD 31 = false ∧ (bbrUp.well.bbr.isSome = true ∨ bbrUp.ftn.st ≠ .ready ∨ bbrUp.keysPermitted = false) ∧
     (keyUp.keysPermitted = false ∨ keyUp.flag pLdg Reg.Ldg.BOOT_STA 11 = false ∨ keyUp.secret = none ∨ keyUp.well.bbr = none) ∧
     bbrUp.secret = some ((bbrUp.secret.getD []) : List Byte)) ∧
    (bbrUp.well.bbr = some (5 : BitVec 256) ∧ bbrUp.keysPermitted = true ∧ bbrUp.flag pLdg Reg.Ldg.BOOT_STA 11 = true ∧ tranUp.fabricUp = true ∧
     tranUp.pairKeys = false ∧ tranUp.org.keyCmd = some keyT ∧ tranUp.arb.cur = some (.req .transportLoad) ∧ tranUp.arb.phase = .timed) ∧
    (blobPos tranUp plain1 (keyT.pos == 1) keyT.slot = some key1 ∧ ((key1.notAfter = 0 ∨ tranUp.sdl.time / 1000000000 < key1.notAfter)) ∧
     ((keyT.pos = 1 → (tranUp.slot keyT.slot).cur ≠ none)) ∧ s0.fabricUp = true ∧ s0.org.keyCmd = none ∧
     WriteReaches ((pairUp.setReg pCln Reg.Cln.ROLE_STA 0xFF) : State) (.core : Port) pOrg Reg.Org.KEY_CMD ∧
     ((pairUp.setReg pCln Reg.Cln.ROLE_STA 0xFF) : State).flag pOrg Reg.Org.KEY_CMD 31 = false ∧
     ((pairUp.setReg pCln Reg.Cln.ROLE_STA 0xFF) : State).pairKeys = true) ∧
    (((pairUp.setReg pCln Reg.Cln.ROLE_STA 0xFF) : State).hasRole 3 = true ∧ WriteReaches pairUp (.core : Port) pOrg Reg.Org.KEY_CMD ∧
     pairUp.flag pOrg Reg.Org.KEY_CMD 31 = false ∧ pairUp.pairKeys = true ∧ pairUp.hasRole 3 = false) := by
  iterate 6 refine ⟨by decide +kernel, ?_⟩
  decide +kernel
theorem test_hyp_KeyCommandsChangeTheirSlot :
    ((WriteReaches s0 (.core : Port) pOrg Reg.Org.KEY_CMD ∧ s0.flag pOrg Reg.Org.KEY_CMD 31 = false ∧ s0.pairKeys = false ∧
     (s0.keysPermitted = false ∨ inCsram (0 : Nat) 32 = false ∨ (0 : Nat) % 8 ≠ 0) ∧ WriteReaches keyUp (.core : Port) pOrg Reg.Org.KEY_CMD ∧
     keyUp.flag pOrg Reg.Org.KEY_CMD 31 = false ∧ keyUp.pairKeys = false ∧ keyUp.keysPermitted = true) ∧
    (inCsram (0x20000000 : Nat) (blobLen keyUp (0x20000000 : Nat)) = true ∧ inCsram (0x20000000 : Nat) 32 = true ∧ (0x20000000 : Nat) % 8 = 0 ∧
     keyUp.clean ∧ blobAt keyUp (0x20000000 : Nat) = some blob1 ∧ blob1.devId = keyUp.deviceId ∧ keyUp.org.kekS = some kek1 ∧ blob1.transport = false) ∧
    (blobPos keyUp plain1 true (7 : Fin 8192) = some key1 ∧ ((key1.notAfter = 0 ∨ keyUp.sdl.time / 1000000000 < key1.notAfter)) ∧
     ((true = true → (keyUp.slot (7 : Fin 8192)).cur ≠ none)) ∧
     (if false then (keyUp.slot (7 : Fin 8192)).nxt else (keyUp.slot (7 : Fin 8192)).cur) = some key1 ∧
     key1.key.length = (if key1.typ = 1 then 16 else 32) ∧ inCsram (0x20000000 : Nat) (if key1.typ = 1 then 72 else 88) = true ∧
     WriteReaches (({ keyUp with ftn.st := .ready }) : State) (.core : Port) pOrg Reg.Org.KEY_CMD ∧
     (({ keyUp with ftn.st := .ready }) : State).flag pOrg Reg.Org.KEY_CMD 31 = false) ∧
    ((({ keyUp with ftn.st := .ready }) : State).well.bbr = none ∧ (({ keyUp with ftn.st := .ready }) : State).ftn.st = .ready ∧
     (({ keyUp with ftn.st := .ready }) : State).keysPermitted = true ∧ WriteReaches bbrUp (.core : Port) pOrg Reg.Org.KEY_CMD ∧
     bbrUp.flag pOrg Reg.Org.KEY_CMD 31 = false ∧ (bbrUp.well.bbr.isSome = true ∨ bbrUp.ftn.st ≠ .ready ∨ bbrUp.keysPermitted = false) ∧
     (keyUp.keysPermitted = false ∨ keyUp.flag pLdg Reg.Ldg.BOOT_STA 11 = false ∨ keyUp.secret = none ∨ keyUp.well.bbr = none) ∧
     bbrUp.secret = some ((bbrUp.secret.getD []) : List Byte)) ∧
    (bbrUp.well.bbr = some (5 : BitVec 256) ∧ bbrUp.keysPermitted = true ∧ bbrUp.flag pLdg Reg.Ldg.BOOT_STA 11 = true ∧ tranUp.fabricUp = true ∧
     tranUp.pairKeys = false ∧ tranUp.org.keyCmd = some keyT ∧ tranUp.arb.cur = some (.req .transportLoad) ∧ tranUp.arb.phase = .timed) ∧
    (blobPos tranUp plain1 (keyT.pos == 1) keyT.slot = some key1 ∧ ((key1.notAfter = 0 ∨ tranUp.sdl.time / 1000000000 < key1.notAfter)) ∧
     ((keyT.pos = 1 → (tranUp.slot keyT.slot).cur ≠ none)) ∧ s0.fabricUp = true ∧ s0.org.keyCmd = none ∧
     WriteReaches ((pairUp.setReg pCln Reg.Cln.ROLE_STA 0xFF) : State) (.core : Port) pOrg Reg.Org.KEY_CMD ∧
     ((pairUp.setReg pCln Reg.Cln.ROLE_STA 0xFF) : State).flag pOrg Reg.Org.KEY_CMD 31 = false ∧
     ((pairUp.setReg pCln Reg.Cln.ROLE_STA 0xFF) : State).pairKeys = true) ∧
    (((pairUp.setReg pCln Reg.Cln.ROLE_STA 0xFF) : State).hasRole 3 = true ∧ WriteReaches pairUp (.core : Port) pOrg Reg.Org.KEY_CMD ∧
     pairUp.flag pOrg Reg.Org.KEY_CMD 31 = false ∧ pairUp.pairKeys = true ∧ pairUp.hasRole 3 = false)) ∧
    kwpUnwrap kek1 blob1.wrapped = some plain1 ∧ kwpUnwrap (tranUp.kekT keyT) keyT.wrapped = some plain1 :=
  ⟨test_hyp_KeyCommandsChangeTheirSlot_forms, (show blob1.wrapped = wrapped1 by decide +kernel) ▸ unwrap1,
    (show tranUp.kekT keyT = kek1 by decide +kernel) ▸ unwrap1⟩
theorem test_hyp_KeysSwapExpireAndServe :
    (swapS.fabricUp = true ∧ swapS.pglOn = false ∧ swapS.org.slots = [((8191 : Nat), swapK)] ∧ swapK.swapAt = some (3 : Nat) ∧ swapK.nxt = some key1 ∧
     swapK.retired = false ∧ (3 : Nat) * 1000000000 ≤ (5000000000 : Nat) ∧ swapS.sdl.time ≤ (5000000000 : Nat)) ∧
    ((({ s0 with org.slots := [(8191, missK)] }) : State).fabricUp = true ∧ (({ s0 with org.slots := [(8191, missK)] }) : State).pglOn = false ∧
     (({ s0 with org.slots := [(8191, missK)] }) : State).org.slots = [((8191 : Nat), missK)] ∧ missK.swapAt = some (3 : Nat) ∧
     ((missK.nxt = none ∨ missK.retired = true)) ∧ ((swapS.setReg pPgl Reg.Hdr.CTL 1) : State).fabricUp = true ∧
     ((swapS.setReg pPgl Reg.Hdr.CTL 1) : State).pglOn = true ∧ retiS.fabricUp = true) ∧
    (retiS.org.slots = [((0 : Nat), retiK)] ∧ retiK.retireAt = some (9 : Nat) ∧ (9 : Nat) ≤ (9 : Nat) ∧ retiK.retired = true ∧
     WriteReaches ring3 (.core : Port) pOrg (Reg.Org.RING_HEAD (3 : Fin 4)) ∧ (2 : Nat) < ((3 : Nat) + 4096 - (0 : Nat)) % 4096 ∧
     WriteReaches ((r0 pOrg (Reg.Org.RING_CTL 3) 1) : State) (.core : Port) pOrg (Reg.Org.RING_HEAD (3 : Fin 4)) ∧
     ((2 : Nat) + 4096 - (0 : Nat)) % 4096 ≤ (2 : Nat)) ∧
    (((r0 pOrg (Reg.Org.RING_CTL 3) 1) : State).flag pOrg (Reg.Org.RING_CTL (3 : Fin 4)) 31 = false ∧
     ring3.flag pOrg (Reg.Org.RING_CTL (3 : Fin 4)) 31 = true ∧ ((0 : Nat) + 4096 - (0 : Nat)) % 4096 ≤ ((2 : Nat) + 4096 - (0 : Nat)) % 4096 ∧
     WriteReaches ((ringUp 8) : State) (.core : Port) pOrg (Reg.Org.RING_CTL (0 : Fin 4)) ∧ ((ringUp 8) : State).fabricUp = true ∧
     ((ringUp 8) : State).org.queue = [(⟨0, 0⟩ : Desc)] ∧ ((ringUp 8) : State).clean ∧
     (((ringUp 8) : State).freeCore (opHash (opOf (((ringUp 8).peekDesc ⟨0, 0⟩) : List Word)))).isSome = true) ∧
    ((((ringUp 8).setReg pBlv Reg.Blv.DEG_SHA 0xFFFF) : State).fabricUp = true ∧
     (((ringUp 8).setReg pBlv Reg.Blv.DEG_SHA 0xFFFF) : State).org.queue = [(⟨0, 0⟩ : Desc)] ∧
     (((ringUp 8).setReg pBlv Reg.Blv.DEG_SHA 0xFFFF) : State).clean ∧
     (((ringUp 8).setReg pBlv Reg.Blv.DEG_SHA 0xFFFF) : State).freeCore (opHash (opOf (((ringUp 8).peekDesc ⟨0, 0⟩) : List Word))) = none ∧
     ((((ringUp 8).setReg pBlv Reg.Blv.DEG_SHA 0xFFFF) : State).descCheck (((ringUp 8).peekDesc ⟨0, 0⟩) : List Word)).1 = 0 ∧
     ((ringUp 0) : State).fabricUp = true ∧ ((ringUp 0) : State).org.queue = [(⟨0, 0⟩ : Desc)] ∧ ((ringUp 0) : State).clean) ∧
    ((((ringUp 0) : State).descCheck (((ringUp 0).peekDesc ⟨0, 0⟩) : List Word)).1 ≠ 0 ∧ (⟨0, 0⟩ : Desc).ring < 4 ∧ hashS.fabricUp = true ∧
     hashS.org.jobs = [hashJob] ∧ hashJob.core = (32 : Fin 48).val ∧ opOf (((ringUp 8).peekDesc ⟨0, 0⟩) : List Word) = 8 ∧ hashS.clean ∧
     inCsram (0x20002000 : Nat) 32 = true) ∧
    (((hashS.ringEntry hashJob.desc.ring hashJob.desc.index + 32 ≤ (0x20002000 : Nat) - 0x20000000 ∨ (0x20002000 : Nat) - 0x20000000 + 32 ≤ hashS.ringEntry hashJob.desc.ring hashJob.desc.index)) ∧
     hashS.ringEntry hashJob.desc.ring hashJob.desc.index + 32 ≤ 0x200000) := by
  iterate 6 refine ⟨by decide +kernel, ?_⟩
  decide +kernel

/-! Self-tests. -/

/-- A self-test in progress. -/
def bstOn (n : Nat) : State := { s0 with bst := some ⟨n, 1, 1, [], 0, 0, 0, false⟩ }
def bstB (n : Nat) : SelfTest := ⟨n, 1, 1, [], 0, 0, 0, false⟩
/-- ARG0 and ARG1 as the tests of target 1 need them; a link lane in use. -/
def bstA : State := ((r0 pBst Reg.Bst.BST_ARG0 1).setReg pBst Reg.Bst.BST_ARG1 1)

theorem test_hyp_SelfTestsStartAndEnd :
    (WriteReaches bstA (.core : Port) pBst Reg.Bst.BST_CMD ∧ WriteReaches (((r0 pBst Reg.Bst.BST_ARG0 2)) : State) (.core : Port) pBst Reg.Bst.BST_CMD ∧
     bstArgsOk 7 (2 : Nat) 0 = true ∧ (1 : Nat) < 8 ∧ (2 : Nat).testBit (1 : Nat) = true ∧ ((∀ j ∈ List.range (1 : Nat), (2 : Nat).testBit j = false)) ∧
     (((r0 pBst Reg.Bst.BST_ARG0 2)) : State).hdgDisable.testBit (1 : Nat) = false ∧ (1 : Nat) ∉ (((r0 pBst Reg.Bst.BST_ARG0 2)) : State).hdg.active) ∧
    (WriteReaches s0 (.core : Port) pBst Reg.Bst.BST_CMD ∧ bstArgsOk 7 (0 : Nat) 0 = true ∧
     ((∀ j ∈ List.range 8, (0 : Nat).testBit j = true → s0.hdgDisable.testBit j = true ∨ j ∈ s0.hdg.active)) ∧ ((bstOn 1) : State).fabricUp = true ∧
     ((bstOn 1) : State).bst = some ((bstB 1) : SelfTest) ∧ 1 ≤ ((bstB 1) : SelfTest).test ∧ ((bstB 1) : SelfTest).test ≤ 4 ∧
     ((bstOn 5) : State).fabricUp = true) ∧
    (((bstOn 5) : State).bst = some ((bstB 5) : SelfTest) ∧ 4 < ((bstB 5) : SelfTest).test ∧ ((bstB 5) : SelfTest).test = 5 ∧
     ((bstOn 8) : State).fabricUp = true ∧ ((bstOn 8) : State).bst = some ((bstB 8) : SelfTest) ∧ ((bstB 8) : SelfTest).test ≠ 5 ∧
     ((bstB 8) : SelfTest).test = 8 ∧ ((bstB 5) : SelfTest).test ≠ 8) ∧
    (((bstOn 6) : State).fabricUp = true ∧ ((bstOn 6) : State).bst = some ((bstB 6) : SelfTest) ∧ ((bstB 6) : SelfTest).test = 6 ∧
     ((bstB 5) : SelfTest).test ≠ 6 ∧ ((bstOn 7) : State).fabricUp = true ∧ ((bstOn 7) : State).bst = some ((bstB 7) : SelfTest) ∧
     ((bstB 7) : SelfTest).test = 7 ∧ ((bstB 7) : SelfTest).source < 8) ∧
    (((∀ j ∈ List.range 8, ((bstB 7) : SelfTest).source < j → ((bstB 7) : SelfTest).target.testBit j = false)) ∧ ((bstB 5) : SelfTest).test ≠ 7) := by
  iterate 4 refine ⟨by decide +kernel, ?_⟩
  decide +kernel

/-! Maintenance port and debug. -/

def noV18 : State := { s0 with pwr.vddio18Lost := true }
/-- A response of the root key's holder to a challenge taken; the TAP unlocked; a verification that ends well, and one that does not. -/
def respG : List Byte := pubG ++ zeros 64
def chalUp : State := { s0 with otp.row := otpOf 0, dbg.chalReady := true }
def tapOn : State := { s0 with dbg.unlocked := true, dbg.last := zeros 9 }
def verUp (r : List Byte) : State :=
  { s0 with arb.cur := some (.req .unlockVerify), arb.phase := .timed, dbg.verifying := true, dbg.challenge := [0], dbg.resp := r }
def goodResp : List Byte := natOctetsBE 64 0xEDE6E98212448B93CC2A51B195103F33F9F465EC150CAF7E8BE0315FC43845E9FB3E516486B56D892E06A99BD42FAF6DE30CB2CE89079FB8B32F88E78F446B3E ++
          natOctetsBE 64 0xF93C2745F6FA82147BF7562A73C552F5CD489E17F8E8FBC7E57A8535BC2C97F3F93C2745F6FA82147BF7562A73C552F5CD489E17F8E8FBC7E57A8535BC2C97F3

theorem test_hyp_MaintSpiFrames :
    (s0.pwr.vddio18Lost = false ∧ inPages (0 : Word).toNat = false ∧ inPages ((BitVec.ofNat 32 (regAt pSys Reg.Sys.THERM_CFG)) : Word).toNat = true ∧
     WriteReaches s0 .maint pLdg (Reg.Ldg.AOUT_SAFE (1 : Fin 2)) ∧ WriteReaches s0 .maint pLdg (Reg.Ldg.AOUT_SAFE (0 : Fin 2)) ∧
     mnt1.pwr.vddio18Lost = false ∧ mnt1.maintStream = true ∧ (0xFFE0 : Fin 0x1000000).val % 32 = 0) ∧
    ((0xFFE0 : Fin 0x1000000).val + ((zeros 32) : List Byte).length ≤ 0x10000 ∧
     (s0.maintStream = false ∨ (0xFFE0 : Fin 0x1000000).val % 32 ≠ 0 ∨ 0x10000 < (0xFFE0 : Fin 0x1000000).val + ((zeros 32) : List Byte).length) ∧
     s0.maintStream = false ∧ mnt1.boot.stream = some (⟨.maint, 0, 0, zeros 32⟩ : BootStream) ∧ (⟨.maint, 0, 0, zeros 32⟩ : BootStream).src = .maint ∧
     noV18.pwr.vddio18Lost = true) :=
  ⟨by decide +kernel, by decide +kernel⟩
theorem test_hyp_TapUnlocksAndDebugs :
    (s0.pwr.vddio18Lost = false ∧ (({ s0 with ftn.st := .ready }) : State).pwr.vddio18Lost = false ∧ respG.length = 128 ∧
     (4 ≤ s0.dbg.fails ∨ s0.dbg.chalReady = false ∨ s0.dbg.verifying = true) ∧ chalUp.pwr.vddio18Lost = false ∧ chalUp.dbg.fails < 4 ∧
     chalUp.dbg.chalReady = true ∧ chalUp.dbg.verifying = false) ∧
    (chalUp.unlockKey (respG.take 64) = true ∧ (({ s0 with dbg.chalReady := true }) : State).pwr.vddio18Lost = false ∧
     (({ s0 with dbg.chalReady := true }) : State).dbg.fails < 4 ∧ (({ s0 with dbg.chalReady := true }) : State).dbg.chalReady = true ∧
     (({ s0 with dbg.chalReady := true }) : State).dbg.verifying = false ∧
     (({ s0 with dbg.chalReady := true }) : State).unlockKey (respG.take 64) = false ∧ s0.dbg.unlocked = false ∧ tapOn.pwr.vddio18Lost = false) ∧
    (tapOn.dbg.unlocked = true ∧ inPages ((BitVec.ofNat 32 (regAt pSys Reg.Sys.THERM_CFG)) : Word).toNat = true ∧
     ((verUp goodResp) : State).fabricUp = true ∧ ((verUp goodResp) : State).arb.cur = some (.req .unlockVerify) ∧
     ((verUp goodResp) : State).arb.phase = .timed ∧ ((verUp goodResp) : State).dbg.verifying = true ∧ ((verUp respG) : State).fabricUp = true ∧
     ((verUp respG) : State).arb.cur = some (.req .unlockVerify)) ∧
    (((verUp respG) : State).arb.phase = .timed ∧ ((verUp respG) : State).dbg.verifying = true ∧ s0.fabricUp = true ∧ s0.arb.cur = none ∧
     noV18.pwr.vddio18Lost = true) := by
  iterate 3 refine ⟨by decide +kernel, ?_⟩
  decide +kernel

/-! Host. -/

/-- A session with the peer, an access of the proxy with it, and one waiting to go. -/
def sess : State := { s0 with cln.session := true, cln.st := .inStep }
def prx (a : Nat) (t : State) : State := t.setReg pGth Reg.Gth.GTH_PROXY_ADDR (BitVec.ofNat 32 a)
def prxBusy (w : Bool) : State := { sess.setFlag pGth Reg.Gth.GTH_PROXY_CMD 31 true with gate.proxy := some ⟨false, w, false, 0, 5⟩ }
/-- A link with BAR2 windows open, a streaming boot from the host, transfers that run and ones cut short by their class. -/
def winUpI (w : Word) : State := { r0 pHif Reg.Hif.HIF_WIN w with hif.up := true }
def hostStream : State := { winUpI 0 with boot.stream := some ⟨.host, 0, 0, []⟩ }
def bme (t : State) : State := t.setFlag pHif Reg.Hdr.STA 15 true
def xfRegs (a n : Word) : State := bme ((r0 pHif Reg.Hif.XF_SRC a).setReg pHif Reg.Hif.XF_LEN n)
def dmaRegs (a b n : Word) : State := ((r0 pCcp Reg.Ccp.DMA_SRC a).setReg pCcp Reg.Ccp.DMA_DST b).setReg pCcp Reg.Ccp.DMA_LEN n
def filled (t : State) : State := (t.writeMem rgCsram 0 (List.replicate 64 9)).writeMem rgPacket 0 (List.replicate 32 7)
def xfUp (t : Transfer) : State := filled { s0 with hif.xfer := some t }
def dmUp (t : Transfer) : State := filled { s0 with hif.dma := some t }

theorem test_hyp_GatehouseCommands :
    (WriteReaches s0 (.core : Port) pGth Reg.Gth.GTH_NARROW ∧
     WriteReaches ((prx (regAt pOrg Reg.Org.ORG_CFG) s0) : State) (.core : Port) pGth Reg.Gth.GTH_PROXY_CMD ∧
     ((prx (regAt pOrg Reg.Org.ORG_CFG) s0) : State).flag pGth Reg.Gth.GTH_PROXY_CMD 31 = false ∧ pOrg < 0x1000 ∧ (Reg.Org.ORG_CFG : Nat) < 0x1000 ∧
     (Reg.Org.ORG_CFG : Nat) % 4 = 0 ∧
     (((prx (regAt pOrg Reg.Org.ORG_CFG) s0) : State).reg pGth Reg.Gth.GTH_PROXY_ADDR).toNat = regAt pOrg (Reg.Org.ORG_CFG : Nat) ∧ pOrg ≠ pGth) ∧
    (WriteReaches ((prx 0x20000000 s0) : State) (.core : Port) pGth Reg.Gth.GTH_PROXY_CMD ∧
     ((prx 0x20000000 s0) : State).flag pGth Reg.Gth.GTH_PROXY_CMD 31 = false ∧
     regAddr (((prx 0x20000000 s0) : State).reg pGth Reg.Gth.GTH_PROXY_ADDR).toNat = false ∧
     WriteReaches ((prx 0x40000040 sess) : State) (.core : Port) pGth Reg.Gth.GTH_PROXY_CMD ∧
     ((prx 0x40000040 sess) : State).flag pGth Reg.Gth.GTH_PROXY_CMD 31 = false ∧ ((prx 0x40000040 sess) : State).proxyPeer = true ∧
     WriteReaches ((prx 0x40000040 s0) : State) (.core : Port) pGth Reg.Gth.GTH_PROXY_CMD ∧
     ((prx 0x40000040 s0) : State).flag pGth Reg.Gth.GTH_PROXY_CMD 31 = false) ∧
    (((prx 0x40000040 s0) : State).proxyPeer = false ∧ WriteReaches ((prxBusy true) : State) (.core : Port) pGth Reg.Gth.GTH_PROXY_CMD ∧
     ((prxBusy true) : State).flag pGth Reg.Gth.GTH_PROXY_CMD 31 = true ∧ ((prxBusy false) : State).fabricUp = true ∧
     ((prxBusy false) : State).gate.proxy = some (⟨false, false, false, 0, 5⟩ : ProxyReq) ∧ (⟨false, false, false, 0, 5⟩ : ProxyReq).net = false ∧
     ((some (4, 7)) : Option (Nat × Word)).all (fun (a : Nat × Word) => decide (a.1 < 5)) = true ∧
     none.all (fun (a : Nat × Word) => decide (a.1 < 5)) = true) ∧
    ((s0.gate.proxy = none ∨ s0.fabricUp = false) ∧ sess.cln.session = true ∧ sess.fabricUp = true ∧ sess.quiet ∧
     regAddr (0x20000000 : Word).toNat = false ∧ (({ held with cln.session := true }) : State).cln.session = true ∧
     (({ held with cln.session := true }) : State).fabricUp = false ∧
     ReadReaches (({ s0 with gate.log := [⟨1, false, 0, 0, 0⟩] }) : State) (.core : Port) pGth) ∧
    ((({ s0 with gate.log := [⟨1, false, 0, 0, 0⟩] }) : State).gate.log = (⟨1, false, 0, 0, 0⟩ : GthEntry) :: ([] : List GthEntry) ∧
     ReadReaches s0 (.core : Port) pGth ∧ s0.gate.log = [] ∧ s0.fabricUp = true ∧ held.fabricUp = false ∧
     WriteReaches (({ s0 with ftn.st := .ready }) : State) (.core : Port) pCcp Reg.Ccp.CCP_MASK ∧
     (({ s0 with ftn.st := .ready }) : State).ftn.st = .ready ∧ WriteReaches s0 (.core : Port) pCcp Reg.Ccp.CCP_MASK) ∧
    (s0.ftn.st ≠ .ready) := by
  iterate 5 refine ⟨by decide +kernel, ?_⟩
  decide +kernel
theorem test_hyp_HostWindowsAndTransfers :
    ((4 : Fin 5) ≠ 0 ∧ s0.ldg.phase ≠ .held ∧ held.ldg.phase = .held ∧ ((filled (winUpI 5)) : State).ldg.phase ≠ .held ∧
     ((filled (winUpI 5)) : State).hif.up = true ∧ ((filled (winUpI 5)) : State).clean ∧
     (((filled (winUpI 5)) : State).fld pHif Reg.Hif.HIF_WIN 1 0 = 1 ∨ ((filled (winUpI 5)) : State).fld pHif Reg.Hif.HIF_WIN 1 0 = 2) ∧
     (0 : Fin 0x8000000).val + 4 * (2 : Fin 1025) ≤ 0x200000) ∧
    (((winUpI 5) : State).ldg.phase ≠ .held ∧ ((winUpI 5) : State).hif.up = true ∧ ((winUpI 5) : State).clean ∧
     ((winUpI 5) : State).flag pHif Reg.Hif.HIF_WIN 2 = true ∧ 0x4000000 ≤ (0x4000000 : Fin 0x8000000).val ∧
     (0x4000000 : Fin 0x8000000).val + 4 * (2 : Fin 1025) ≤ 0x8000000 ∧ ((winUpI 5) : State).focusLatency = false ∧ ((winUpI 2) : State).ldg.phase ≠ .held) ∧
    (((winUpI 2) : State).hif.up = true ∧ ((winUpI 2) : State).clean ∧ ((winUpI 2) : State).fld pHif Reg.Hif.HIF_WIN 1 0 = 2 ∧
     (0x1FFFFC : Fin 0x8000000).val + ([1, 2, 3, 4] : List Byte).length ≤ 0x200000 ∧ hostStream.ldg.phase ≠ .held ∧ hostStream.hif.up = true ∧
     hostStream.clean ∧ hostStream.boot.stream = some (⟨.host, 0, 0, []⟩ : BootStream)) ∧
    ((⟨.host, 0, 0, []⟩ : BootStream).src = .host ∧ 0x100000 ≤ (0x10FFFC : Fin 0x8000000).val ∧
     (0x10FFFC : Fin 0x8000000).val + ([1, 2, 3, 4] : List Byte).length ≤ 0x110000 ∧ ((winUpI 0) : State).fabricUp = true ∧
     ((winUpI 0) : State).hif.up = true ∧
     ((((winUpI 0) : State).fld pHif Reg.Hif.HIF_WIN 1 0 = 0 ∨ 0x200000 < (0 : Fin 0x8000000).val + 4 * (2 : Fin 1025))) ∧
     ((((winUpI 0) : State).flag pHif Reg.Hif.HIF_WIN 2 = false ∨ (0 : Fin 0x8000000).val < 0x4000000 ∨ 0x8000000 < (0 : Fin 0x8000000).val + 4 * (2 : Fin 1025))) ∧
     ((winUpI 1) : State).fabricUp = true) ∧
    (((winUpI 1) : State).hif.up = true ∧ ((winUpI 1) : State).boot.stream = none ∧
     (((winUpI 1) : State).fld pHif Reg.Hif.HIF_WIN 1 0 < 2 ∨ 0x200000 < (0 : Fin 0x8000000).val + ([1] : List Byte).length) ∧
     (s0.ldg.phase = .held ∨ s0.hif.up = false) ∧ WriteReaches s0 (.core : Port) pHif Reg.Hif.HIF_F2H_SET ∧
     WriteReaches s0 (.core : Port) pHif Reg.Hif.XF_CMD ∧ s0.hif.xfer = none ∧ s0.flag pHif Reg.Hdr.STA 15 = false) ∧
    (WriteReaches ((xfRegs 0x20000002 0x10000) : State) (.core : Port) pHif Reg.Hif.XF_CMD ∧ ((xfRegs 0x20000002 0x10000) : State).hif.xfer = none ∧
     ((xfRegs 0x20000002 0x10000) : State).flag pHif Reg.Hdr.STA 15 = true ∧
     (inCsram (0x20000002 : Nat) (0x10000 : Nat) = false ∨ (0x20000002 : Nat) % 4 ≠ 0 ∨ (0x10000 : Nat) % 4 ≠ 0 ∨ (0x10000 : Nat) < 4 ∨ 65536 < (0x10000 : Nat)) ∧
     WriteReaches ((xfRegs 0x20000000 0x10000) : State) (.core : Port) pHif Reg.Hif.XF_CMD ∧ ((xfRegs 0x20000000 0x10000) : State).hif.xfer = none ∧
     ((xfRegs 0x20000000 0x10000) : State).flag pHif Reg.Hdr.STA 15 = true ∧ inCsram (0x20000000 : Nat) (0x10000 : Nat) = true) ∧
    ((0x20000000 : Nat) % 4 = 0 ∧ (0x10000 : Nat) % 4 = 0 ∧ 4 ≤ (0x10000 : Nat) ∧ (0x10000 : Nat) ≤ 65536 ∧
     WriteReaches ((xfUp ⟨0x20000000, 0, 64, 32⟩) : State) (.core : Port) pHif Reg.Hif.XF_CMD ∧ ((xfUp ⟨0x20000000, 0, 64, 32⟩) : State).hif.xfer ≠ none ∧
     ((xfUp ⟨0x20000000, 0, 36, 0⟩) : State).fabricUp = true ∧ ((xfUp ⟨0x20000000, 0, 36, 0⟩) : State).hif.xfer = some (⟨0x20000000, 0, 36, 0⟩ : Transfer)) ∧
    (((xfUp ⟨0x20000000, 0, 36, 0⟩) : State).clean ∧ (s0.fabricUp = false ∨ s0.hif.xfer = none) ∧
     WriteReaches ((dmaRegs 0x20000000 0x34000000 0x200000) : State) (.core : Port) pCcp Reg.Ccp.DMA_CMD ∧
     ((dmaRegs 0x20000000 0x34000000 0x200000) : State).hif.dma = none ∧ (0x20000000 : Nat) % 32 = 0 ∧ (0x34000000 : Nat) % 32 = 0 ∧
     (0x200000 : Nat) % 32 = 0 ∧ (0x200000 : Nat) ≤ 0x200000) ∧
    (dmaArea (0x20000000 : Nat) (0x200000 : Nat) ≠ none ∧ dmaArea (0x34000000 : Nat) (0x200000 : Nat) ≠ none ∧
     WriteReaches ((dmaRegs 0x20000000 0x14000000 0x200000) : State) (.core : Port) pCcp Reg.Ccp.DMA_CMD ∧
     ((dmaRegs 0x20000000 0x14000000 0x200000) : State).hif.dma = none ∧
     (dmaArea (0x20000000 : Nat) (0x200000 : Nat) = none ∨ dmaArea (0x14000000 : Nat) (0x200000 : Nat) = none ∨ (0x20000000 : Nat) % 32 ≠ 0 ∨ (0x14000000 : Nat) % 32 ≠ 0 ∨ (0x200000 : Nat) % 32 ≠ 0 ∨ 0x200000 < (0x200000 : Nat)) ∧
     WriteReaches ((dmUp ⟨0x20000000, 0x34000000, 64, 32⟩) : State) (.core : Port) pCcp Reg.Ccp.DMA_CMD ∧
     ((dmUp ⟨0x20000000, 0x34000000, 64, 32⟩) : State).hif.dma ≠ none ∧ ((dmUp ⟨0x20000000, 0x34000000, 64, 0⟩) : State).fabricUp = true) ∧
    (((dmUp ⟨0x20000000, 0x34000000, 64, 0⟩) : State).hif.dma = some (⟨0x20000000, 0x34000000, 64, 0⟩ : Transfer) ∧
     ((dmUp ⟨0x20000000, 0x34000000, 64, 0⟩) : State).clean ∧ dmaArea (0x20000000 : Nat) (32 * (2 : Nat)) = some rgCsram ∧
     dmaArea (0x34000000 : Nat) (32 * (2 : Nat)) = some rgPacket ∧
     ((rgCsram = rgSample → ((dmUp ⟨0x20000000, 0x34000000, 64, 0⟩) : State).focusLatency = false)) ∧ (s0.fabricUp = false ∨ s0.hif.dma = none) ∧
     WriteReaches s0 (.core : Port) pCcp Reg.Ccp.UART_TX ∧ (({ s0 with ccp.txq := [1, 2] }) : State).fabricUp = true) ∧
    ((({ s0 with ccp.txq := [1, 2] }) : State).ccp.txq = (1 : Byte) :: ([2] : List Byte) ∧ (s0.fabricUp = false ∨ s0.ccp.txq = []) ∧ s0.fabricUp = true ∧
     s0.ccp.rxq.length < 16 ∧ (({ s0 with ccp.rxq := List.replicate 16 0 }) : State).fabricUp = true ∧
     16 ≤ (({ s0 with ccp.rxq := List.replicate 16 0 }) : State).ccp.rxq.length ∧
     ReadReaches (({ s0 with ccp.rxq := [1, 2] }) : State) (.core : Port) pCcp ∧
     (({ s0 with ccp.rxq := [1, 2] }) : State).ccp.rxq = (1 : Byte) :: ([2] : List Byte)) ∧
    (ReadReaches s0 (.core : Port) pCcp ∧ s0.ccp.rxq = []) := by
  iterate 11 refine ⟨by decide +kernel, ?_⟩
  decide +kernel

/-! Tag. -/

/-- A tag in ACTIVE with a record 4 of zeros, SEQ 7; in READY; in each other state. -/
def tagUp : State :=
  { (s0.writeRecord 4 (some (false, 6, [])) (zeros 64) none).2 with ksk := { s0.ksk with st := .active, field := true } }
def tagIn (st : TagState) : State := { s0 with ksk.st := st, ksk.field := true }
def tagReady (n : Nat) (star : Bool) : State := { tagIn .ready with ksk.level := n, ksk.star := star }
def tagInv (h c : Nat) : State := { tagIn .inventory with ksk.handle := h, ksk.slotCtr := c }
/-- The same tag in SECURED_PWD with a whole note staged, and in SECURED_AES; one that knows a password and a key. -/
def tagPwd : State := { tagUp with ksk.auth := .pwd, ksk.staging := [(0, zeros 16), (1, List.replicate 16 1), (2, zeros 16), (3, zeros 16)] }
def tagAes : State := { r0 pKsk Reg.Ksk.KSK_CFG 7 with ksk.st := .active, ksk.auth := .aes, ksk.ks := some (zeros 16), ksk.field := true }
def tagKnows : State := { r0 pKsk Reg.Ksk.KSK_CFG 3 with ksk := { tagUp.ksk with pwd := [1, 2, 3, 4], pwdSet := true, key := some (zeros 16), nb := some (zeros 16) } }
def noMain (t : State) : State := { t with pwr.vddio18Lost := true }
def rdMac (a : Nat) : List Byte := tagAes.tagMac (0x9A :: natOctets 4 a)
def wrMac (p : Byte) (a : Nat) : List Byte := tagAes.tagMac ([0x9C, p] ++ natOctets 4 a ++ wordOctets 5)
def fwSlot (u : Nat) : State := { s0 with org.slots := [(8191, ⟨some ⟨1, u, 1, 0, zeros 16⟩, none, false, none, false, none⟩)] }
/-- Some answer is wrong, whatever the UID makes the right one. -/
theorem wrong_answer (c : List Byte) : ∃ r ∈ [zeros 16, List.replicate 16 1], r ≠ c := by
  by_cases h : zeros 16 = c
  · exact ⟨List.replicate 16 1, by simp, fun k => absurd (h.trans k.symm) (by decide)⟩
  · exact ⟨zeros 16, by simp, h⟩

theorem test_hyp_TagStatesAndInventory :
    (tagUp.ksk.field = true ∧ s0.ksk.field = false ∧ ((tagIn .idle) : State).ksk.st = .idle ∧ ((tagIn .halt) : State).ksk.st = .halt ∧
     (((tagReady 1 true) : State).ksk.st = .ready ∨ ((tagReady 1 true) : State).ksk.st = .active) ∧ ((tagIn .inventory) : State).ksk.st ≠ .ready ∧
     ((tagIn .inventory) : State).ksk.st ≠ .active ∧ ((tagIn .inventory) : State).ksk.st ≠ .idle) ∧
    (((tagIn .inventory) : State).ksk.st ≠ .halt ∧ (2 : Fin 3) ≠ 0 ∧ ((s0.uidCl 2) : List Byte).length = 5 ∧ ((tagReady 2 true) : State).ksk.st = .ready ∧
     ((tagReady 2 true) : State).ksk.level = (2 : Fin 3).val ∧
     sameBits (((tagReady 2 true) : State).uidCl (2 : Fin 3)) ((s0.uidCl 2) : List Byte) (39 : Fin 40) = true ∧ ([0, 0, 0, 0, 0] : List Byte).length = 5 ∧
     (tagUp.ksk.st ≠ .ready ∨ tagUp.ksk.level ≠ (2 : Fin 3).val ∨ sameBits (tagUp.uidCl (2 : Fin 3)) ([0, 0, 0, 0, 0] : List Byte) (1 : Fin 40) = false)) ∧
    ((1 : Fin 3) ≠ 0 ∧ ((s0.uidCl 1) : List Byte).length = 5 ∧ ((tagReady 1 true) : State).ksk.st = .ready ∧
     ((tagReady 1 true) : State).ksk.level = (1 : Fin 3).val ∧ (2 : Fin 3) = 2 ∧
     (tagUp.ksk.st ≠ .ready ∨ tagUp.ksk.level ≠ (1 : Fin 3).val ∨ ([0, 0, 0, 0, 0] : List Byte) ≠ tagUp.uidCl (1 : Fin 3) ∨ true = false) ∧
     tagUp.tagTakes [0x50, 0x00] ([] : List Byte) ∧
     (((tagIn .idle) : State).ksk.st = .idle ∨ ((tagIn .idle) : State).ksk.st = .inventory ∨ (((tagIn .idle) : State).ksk.st = .halt ∧ false = true))) ∧
    (((tagInv 0x12 1) : State).ksk.st = .inventory ∧ ((tagInv 0x12 2) : State).ksk.st = .inventory ∧
     ((tagInv 0x12 2) : State).ksk.handle % 16 = ((tagInv 0x12 2) : State).ksk.slotCtr ∧ (0x12 : Fin 65536).val = ((tagInv 0x12 2) : State).ksk.handle ∧
     (((tagInv 0x12 2) : State).ksk.handle % 16 ≠ ((tagInv 0x12 2) : State).ksk.slotCtr ∨ (0x22 : Fin 65536).val ≠ ((tagInv 0x12 2) : State).ksk.handle) ∧
     ((tagInv 0x12 3) : State).ksk.st = .inventory ∧ ((tagInv 0x12 3) : State).ksk.handle % 16 ≠ ((tagInv 0x12 3) : State).ksk.slotCtr ∧
     (((tagIn .halt) : State).ksk.st ≠ .active ∨ true = true)) ∧
    (((tagIn .halt) : State).ksk.st ≠ .idle ∧ ((tagIn .halt) : State).ksk.st ≠ .inventory ∧ ((((tagIn .halt) : State).ksk.st ≠ .halt ∨ false = false)) ∧
     (((tagIn .halt) : State).ksk.st ≠ .inventory ∨ true = false) ∧ (((tagIn .halt) : State).ksk.st ≠ .active ∨ false = true) ∧ false = false ∧
     ((tagReady 2 true) : State).ksk.st ≠ .active ∧ ((zeros 16) : List Byte).length = 16) ∧
    (((zeros 4) : List Byte).length = 4) := by
  iterate 5 refine ⟨by decide +kernel, ?_⟩
  decide +kernel
theorem test_hyp_TagCommandsInActive :
    (tagUp.tagTakes [0x3C, BitVec.ofNat 8 (4 : Fin 256), BitVec.ofNat 8 (3 : Fin 256)] ([] : List Byte) ∧ (4 : Fin 256).val < 5 ∧
     16 * (3 : Fin 256).val < recLen (4 : Fin 256) ∧ tagUp.tagTakes [0x3C, BitVec.ofNat 8 (0 : Fin 256), BitVec.ofNat 8 (4 : Fin 256)] ([] : List Byte) ∧
     (5 ≤ (0 : Fin 256).val ∨ recLen (0 : Fin 256) ≤ 16 * (4 : Fin 256).val) ∧ tagAes.ksk.st = .active ∧ ((zeros 16) : List Byte).length = 16 ∧
     ((zeros 4) : List Byte).length = 4) ∧
    (tagPwd.tagTakes ([0x6A, BitVec.ofNat 8 (3 : Fin 256)] ++ ((zeros 16) : List Byte)) ([] : List Byte) ∧ tagPwd.ksk.auth ≠ .open ∧
     (3 : Fin 256).val < 4 ∧ tagPwd.tagTakes ([0x6A, BitVec.ofNat 8 (4 : Fin 256)] ++ ((zeros 16) : List Byte)) ([] : List Byte) ∧ 4 ≤ (4 : Fin 256).val ∧
     tagUp.tagTakes ([0x6A, BitVec.ofNat 8 (3 : Fin 256)] ++ ((zeros 16) : List Byte)) ([] : List Byte) ∧ tagUp.ksk.auth = .open ∧
     tagUp.tagTakes ([0x6C] ++ natOctets 2 (7 : Fin 65536)) ([] : List Byte)) ∧
    (tagUp.clean ∧ tagPwd.tagTakes ([0x6C] ++ natOctets 2 (8 : Fin 65536)) ([] : List Byte) ∧ tagPwd.clean ∧
     (tagPwd.record 4).elim (Config.emptySeq 4).toNat (·.1) ≠ (8 : Fin 65536).val ∧
     ((noMain tagPwd) : State).tagTakes ([0x6C] ++ natOctets 2 (7 : Fin 65536)) ([] : List Byte) ∧ ((noMain tagPwd) : State).clean ∧
     ((noMain tagPwd) : State).ksk.auth ≠ .open ∧ (((noMain tagPwd) : State).record 4).elim (Config.emptySeq 4).toNat (·.1) = (7 : Fin 65536).val) ∧
    (((noMain tagPwd) : State).canWriteTag = false ∧ tagPwd.tagTakes ([0x6C] ++ natOctets 2 (7 : Fin 65536)) ([] : List Byte) ∧
     tagPwd.ksk.staging.all (fun e => decide (e.2.length = 16)) = true ∧ tagPwd.canWriteTag = true ∧
     (tagPwd.record 4).elim (Config.emptySeq 4).toNat (·.1) = (7 : Fin 65536).val ∧ tagPwd.ksk.field = true ∧
     tagPwd.tagTakes ([0x74] ++ ((zeros 4) : List Byte)) ([] : List Byte) ∧
     (({ tagKnows with ksk.holdoff := true }) : State).tagTakes ([0x74] ++ ((zeros 4) : List Byte)) ([] : List Byte)) ∧
    ((({ tagKnows with ksk.holdoff := true }) : State).ksk.auth = .open ∧ (({ tagKnows with ksk.holdoff := true }) : State).ksk.holdoff = true ∧
     ([1, 2, 3, 4] : List Byte).length = 4 ∧ tagKnows.tagTakes ([0x74] ++ ([1, 2, 3, 4] : List Byte)) ([] : List Byte) ∧ tagKnows.ksk.auth = .open ∧
     tagKnows.ksk.holdoff = false ∧ tagKnows.flag pKsk Reg.Ksk.KSK_CFG 0 = true ∧ tagKnows.ksk.pwdSet = true) ∧
    (tagKnows.ksk.blocked = false ∧ (({ tagKnows with ksk.fails := 7 }) : State).tagTakes ([0x74] ++ ((zeros 4) : List Byte)) ([] : List Byte) ∧
     (({ tagKnows with ksk.fails := 7 }) : State).ksk.auth = .open ∧ (({ tagKnows with ksk.fails := 7 }) : State).ksk.holdoff = false ∧
     ((({ tagKnows with ksk.fails := 7 }) : State).flag pKsk Reg.Ksk.KSK_CFG 0 = false ∨ (({ tagKnows with ksk.fails := 7 }) : State).ksk.pwdSet = false ∨ (({ tagKnows with ksk.fails := 7 }) : State).ksk.blocked = true ∨ ((zeros 4) : List Byte) ≠ (({ tagKnows with ksk.fails := 7 }) : State).ksk.pwd) ∧
     tagKnows.tagTakes [0x82, BitVec.ofNat 8 (0 : Fin 256)] ([] : List Byte) ∧ tagKnows.flag pKsk Reg.Ksk.KSK_CFG 1 = true ∧ tagKnows.ksk.key.isSome = true) ∧
    (tagKnows.tagTakes [0x82, BitVec.ofNat 8 (1 : Fin 256)] ([] : List Byte) ∧ (1 : Fin 256) ≠ 0 ∧
     tagUp.tagTakes [0x82, BitVec.ofNat 8 (0 : Fin 256)] ([] : List Byte) ∧
     (tagUp.ksk.auth ≠ .open ∨ tagUp.flag pKsk Reg.Ksk.KSK_CFG 1 = false ∨ tagUp.ksk.key = none) ∧ tagKnows.ksk.st = .active ∧
     tagKnows.ksk.key = some ((zeros 16) : List Byte) ∧ tagKnows.ksk.nb = some ((zeros 16) : List Byte) ∧
     ((cmac (zeros 16) ([0x01] ++ s0.uid ++ zeros 16 ++ zeros 16)) : List Byte).length = 16) ∧
    (tagUp.tagTakes ([0x84] ++ ((zeros 16) : List Byte) ++ ((zeros 16) : List Byte)) ([] : List Byte) ∧
     (tagUp.ksk.auth ≠ .open ∨ tagUp.ksk.key = none ∨ tagUp.ksk.nb = none) ∧ tagAes.ksk.auth = .aes ∧ tagAes.flag pKsk Reg.Ksk.KSK_CFG 2 = true ∧
     tagAes.mainUp = true ∧ tagAes.fabricUp = true ∧ 0x40000000 ≤ (0x40000000 : Word).toNat ∧ 0x40000000 ≤ (0x40000044 : Word).toNat) ∧
    (0x40000000 ≤ ((BitVec.ofNat 32 (regAt pSys Reg.Sys.THERM_CFG)) : Word).toNat ∧
     pageOfs ((BitVec.ofNat 32 (regAt pSys Reg.Sys.THERM_CFG)) : Word).toNat < 0x800 ∧
     tagUp.tagTakes (0x9A :: natOctets 4 (0x40000000 : Word).toNat) ([] : List Byte) ∧
     (tagUp.ksk.auth ≠ .aes ∨ tagUp.flag pKsk Reg.Ksk.KSK_CFG 2 = false) ∧
     tagUp.tagTakes (0x9C :: BitVec.ofNat 8 (b2n true) :: natOctets 4 (0x40000000 : Word).toNat ++ wordOctets (5 : Word)) ([] : List Byte) ∧
     ((noMain tagAes) : State).ksk.auth = .aes ∧ ((noMain tagAes) : State).flag pKsk Reg.Ksk.KSK_CFG 2 = true ∧
     (((noMain tagAes) : State).mainUp = false ∨ ((noMain tagAes) : State).fabricUp = false)) ∧
    (((cmac (zeros 16) ([0x01] ++ s0.uid ++ zeros 16 ++ zeros 16)) : List Byte) = cmac ((zeros 16) : List Byte) ([0x01] ++ tagKnows.uid ++ ((zeros 16) : List Byte) ++ ((zeros 16) : List Byte))) ∧
    (∃ r ∈ [zeros 16, List.replicate 16 1], r ≠ cmac ((zeros 16) : List Byte) ([0x01] ++ tagKnows.uid ++ ((zeros 16) : List Byte) ++ ((zeros 16) : List Byte))) ∧
    (tagAes.tagTakes (0x9A :: natOctets 4 (0x40000000 : Word).toNat) ((rdMac 0x40000000) : List Byte)) ∧
    (tagAes.tagTakes ([0x9C, 0] ++ natOctets 4 (0x40000044 : Word).toNat ++ wordOctets (5 : Word)) ((wrMac 0 0x40000044) : List Byte)) ∧
    (tagAes.tagTakes ([0x9C, 1] ++ natOctets 4 ((BitVec.ofNat 32 (regAt pSys Reg.Sys.THERM_CFG)) : Word).toNat ++ wordOctets (5 : Word)) ((wrMac 1 (regAt pSys Reg.Sys.THERM_CFG)) : List Byte)) ∧
    (((noMain tagAes) : State).tagTakes (0x9A :: natOctets 4 (0x40000000 : Word).toNat) ((rdMac 0x40000000) : List Byte)) ∧
    (((noMain tagAes) : State).tagTakes (0x9C :: BitVec.ofNat 8 (b2n true) :: natOctets 4 (0x40000000 : Word).toNat ++ wordOctets (5 : Word)) ((wrMac 1 0x40000000) : List Byte)) := by
  iterate 9 refine ⟨by decide +kernel, ?_⟩
  exact ⟨rfl, wrong_answer _, ⟨by decide +kernel, fun _ => rfl⟩, ⟨by decide +kernel, fun _ => rfl⟩, ⟨by decide +kernel, fun _ => rfl⟩,
    ⟨by decide +kernel, fun _ => rfl⟩, ⟨by decide +kernel, fun _ => rfl⟩⟩
theorem test_hyp_KioskCommandsOfTheCore :
    (WriteReaches tagUp (.core : Port) pKsk Reg.Ksk.KSK_CMD ∧ (4 : Fin 8).val < 5 ∧ tagUp.clean ∧ WriteReaches s0 (.core : Port) pKsk Reg.Ksk.KSK_CMD ∧
     5 ≤ (5 : Fin 8).val ∧ WriteReaches ((fwSlot 8) : State) (.core : Port) pKsk Reg.Ksk.KSK_CMD ∧
     (((fwSlot 8) : State).slot (8191 : Fin 8192)).cur = some (⟨1, 8, 1, 0, zeros 16⟩ : KeyPos) ∧ (⟨1, 8, 1, 0, zeros 16⟩ : KeyPos).typ = 1) ∧
    ((⟨1, 8, 1, 0, zeros 16⟩ : KeyPos).usage.testBit useFw = true ∧ WriteReaches ((fwSlot 4) : State) (.core : Port) pKsk Reg.Ksk.KSK_CMD ∧
     (((fwSlot 4) : State).slot (8191 : Fin 8192)).cur.all (fun k => decide (k.typ ≠ 1) || !k.usage.testBit useFw) = true) :=
  ⟨by decide +kernel, by decide +kernel⟩

/-! Card and non-volatile memory. -/

/-- A Shed with a card at a job; one that is enabled; a journal entry of one block; the same with the SEQ and hash of a card. -/
def cardAt (j : CardJob) : State := { (r0 pPsh Reg.Hdr.CTL 1) with psh.job := some j, psh.inserted := true, psh.pwrEn := true, psh.st := .xfer }
def busyOn (t : State) : State := t.setFlag pPsh Reg.Psh.PSH_CMD 31 true
def entryOf (j : Nat) (hash : List Byte) (t : State) : State :=
  { t with mem.mram := memWrite (fun _ => 0xFF) t.mem.mram (jBase j) (jBits [0] ++ jHeader 7 hash [5]) }
def startAt (n tries mode : Nat) (r : Bool) : State := cardAt (.start n tries mode r)
def want18 (t : State) : State := t.setReg pPsh Reg.Psh.PSH_CFG 5
def hash0 : List Byte := sha256 []
def csd2 : List Byte := 0x40 :: zeros 15
/-- A card that is READY, of 1024 blocks; buffer and list at the base of control SRAM, the list naming block 5. -/
def cardUp : State :=
  { (s0.setReg pPsh Reg.Psh.PSH_BUF 0x20001000).setReg pPsh Reg.Psh.PSH_LIST 0x20000000 with
    psh.st := .ready, psh.inserted := true, psh.pwrEn := true, mem.csram := memWrite zeroOctet [] 0 (natOctets 4 5) }
def stIn (st : CardState) : State := { cardUp with psh.st := st }
def wr (step dn : Nat) (l : List Nat) : State := { busyOn (cardAt (.write step 0 0x20000000 dn)) with psh.lbas := l }
def rs (step dn : Nat) (b : Bool) : State := entryOf 0 hash0 (cardAt (.restore step 0 dn b))
def dirOf (n : Nat) : List Byte := ascii "BNLD" ++ natOctets 4 1 ++ natOctets 4 3 ++ natOctets 4 1 ++ natOctets 4 n ++ zeros 12 ++ [1, 1, 0, 0] ++
  natOctets 4 9 ++ natOctets 4 4 ++ zeros 468
def dirCard (d : List Byte) : State := { cardAt (.boot 0 2 d) with boot.card := some ⟨1, (0, 0), none⟩ }
def dirGood : List Byte := dirOf 3072750272
def nvmBusy : State := r0 pNvm Reg.Nvm.NVM_CMD 0x80000000
def nvmAt (a n c : Word) : State := ((r0 pNvm Reg.Nvm.NVM_ADDR a).setReg pNvm Reg.Nvm.NVM_CNT n).setReg pNvm Reg.Nvm.NVM_SRC c
def prog (b : Byte) : State := { nvmAt 0 1 0x20000000 with mem.csram := memWrite zeroOctet [] 0 (List.replicate 32 b) }
def zeroed (t : State) : State := { t with mem.mram := memWrite (fun _ => 0xFF) [] 0 (zeros 32) }
def runOf (r : NvmRun) : State := { s0 with nvm.run := some r }
/-- The CRC of a directory, a quarter at a time. -/
theorem crc_parts {p c c' r : Nat} {a b : List Byte} (h : crcOctets p c a = c') (k : crcOctets p c' b = r) : crcOctets p c (a ++ b) = r := by
  simp only [crcOctets, List.foldl_append] at *
  rw [h, k]
theorem crc_dir : crcOctets 0xEDB88320 0xFFFFFFFF (dirOf 0) = 1222217023 := by
  have h : dirOf 0 = (dirOf 0).take 128 ++ (((dirOf 0).drop 128).take 128 ++ (((dirOf 0).drop 256).take 128 ++ (dirOf 0).drop 384)) := by decide +kernel
  rw [h]
  exact crc_parts (c' := 3901758077) (by decide +kernel) (crc_parts (c' := 3505593072) (by decide +kernel)
    (crc_parts (c' := 439813366) (by decide +kernel) (by decide +kernel)))
theorem crc32_of {bs : List Byte} {n : Nat} (h : crcOctets 0xEDB88320 0xFFFFFFFF bs = n) : crc32 bs = n ^^^ 0xFFFFFFFF := by
  unfold crc32
  rw [h]
theorem dirValid_of {d : List Byte} {n : Nat} (h1 : d.take 4 = ascii "BNLD") (h2 : hdrWord d 4 = 1)
    (h3 : crc32 (d.take 0x10 ++ zeros 4 ++ d.drop 0x14) = n) (h4 : hdrWord d 0x10 = n) : dirValid d = true := by
  unfold dirValid
  rw [h3]
  simp [h1, h2, h4]
theorem dirGood_crc : crc32 (dirGood.take 0x10 ++ zeros 4 ++ dirGood.drop 0x14) = 1222217023 ^^^ 0xFFFFFFFF :=
  (congrArg crc32 (show dirGood.take 0x10 ++ zeros 4 ++ dirGood.drop 0x14 = dirOf 0 by decide +kernel)).trans (crc32_of crc_dir)
theorem dirGood_valid : dirValid dirGood = true := dirValid_of (by decide +kernel) (by decide +kernel) dirGood_crc (by decide +kernel)
theorem cardDir_first {a b : List Byte} (h : dirValid a = true) (k : dirValid b = false) : cardDir a b = some a := by
  simp [cardDir, h, k]
theorem dirGood_used : cardDir dirGood (zeros 512) = some dirGood := cardDir_first dirGood_valid (by decide +kernel)

theorem test_hyp_CardLifeAndTransfers :
    (s0.fabricUp = true ∧ s0.boot.card = none ∧ ((busyOn (cardAt (.read 0 0x20000000 2 1))) : State).fabricUp = true ∧
     ((busyOn (cardAt (.read 0 0x20000000 2 1))) : State).boot.card = none ∧ held.fabricUp = false ∧ s0.cardAsked = false ∧
     ((startAt 1 0 0 false) : State).fabricUp = true ∧ ((startAt 1 0 0 false) : State).boot.card = none) ∧
    (((startAt 1 0 0 false) : State).psh.job = some (.start 1 (0 : Nat) (0 : Nat) false) ∧ ((startAt 1 0 0 false) : State).psh.held = false ∧
     ((startAt 2 0 0 false) : State).fabricUp = true ∧ ((startAt 2 0 0 false) : State).boot.card = none ∧
     ((startAt 2 0 0 false) : State).psh.job = some (.start 2 (0 : Nat) (0 : Nat) false) ∧ ((startAt 2 0 0 false) : State).psh.held = false ∧
     (0x1AA : Nat) = 0x1AA ∧ (0x1AB : Nat) ≠ 0x1AA) ∧
    (((startAt 3 99 0 false) : State).fabricUp = true ∧ ((startAt 3 99 0 false) : State).boot.card = none ∧
     ((startAt 3 99 0 false) : State).psh.job = some (.start 3 (99 : Nat) (0 : Nat) false) ∧ ((startAt 3 99 0 false) : State).psh.held = false ∧
     (99 : Nat) < 100 ∧ false = false ∧ ((startAt 3 100 0 false) : State).fabricUp = true ∧ ((startAt 3 100 0 false) : State).boot.card = none) ∧
    (((startAt 3 100 0 false) : State).psh.job = some (.start 3 (100 : Nat) (0 : Nat) false) ∧ ((startAt 3 100 0 false) : State).psh.held = false ∧
     100 ≤ (100 : Nat) ∧ ((want18 (startAt 3 1 0 false)) : State).fabricUp = true ∧ ((want18 (startAt 3 1 0 false)) : State).boot.card = none ∧
     ((want18 (startAt 3 1 0 false)) : State).psh.job = some (.start 3 (1 : Nat) (0 : Nat) false) ∧
     ((want18 (startAt 3 1 0 false)) : State).psh.held = false ∧ ((want18 (startAt 3 1 0 false)) : State).wants18 false = true) ∧
    (((startAt 3 1 0 true) : State).fabricUp = true ∧ ((startAt 3 1 0 true) : State).boot.card = none ∧
     ((startAt 3 1 0 true) : State).psh.job = some (.start 3 (1 : Nat) (0 : Nat) true) ∧ ((startAt 3 1 0 true) : State).psh.held = false ∧
     (true = false ∨ ((startAt 3 1 0 true) : State).wants18 true = false) ∧ ((startAt 13 4 0 false) : State).fabricUp = true ∧
     ((startAt 13 4 0 false) : State).boot.card = none ∧ ((startAt 13 4 0 false) : State).psh.held = false) ∧
    (((startAt 13 4 0 false) : State).psh.job = some (.start 13 (4 : Nat) (0 : Nat) false) ∧ ((startAt 4 0 0 false) : State).fabricUp = true ∧
     ((startAt 4 0 0 false) : State).boot.card = none ∧ ((startAt 4 0 0 false) : State).psh.held = false ∧
     ((startAt 4 0 0 false) : State).psh.job = some (.start 4 (0 : Nat) (0 : Nat) false) ∧
     (((startAt 4 0 0 false) : State).psh.job = some (.start 4 (0 : Nat) (0 : Nat) false) ∨ ((startAt 4 0 0 false) : State).psh.job = some (.start 24 (0 : Nat) (0 : Nat) false)) ∧
     ((startAt 14 0 0 false) : State).fabricUp = true ∧ ((startAt 14 0 0 false) : State).boot.card = none) ∧
    (((startAt 14 0 0 false) : State).psh.held = false ∧ ((startAt 14 0 0 false) : State).psh.job = some (.start 14 (0 : Nat) (0 : Nat) false) ∧
     ((startAt 24 0 0 false) : State).fabricUp = true ∧ ((startAt 24 0 0 false) : State).boot.card = none ∧
     ((startAt 24 0 0 false) : State).psh.held = false ∧ ((startAt 24 0 0 false) : State).psh.job = some (.start 24 (0 : Nat) (0 : Nat) false) ∧
     ((startAt 0 0 0 true) : State).fabricUp = true ∧ ((startAt 0 0 0 true) : State).boot.card = none) ∧
    (((startAt 0 0 0 true) : State).psh.held = false ∧ ((startAt 0 0 0 true) : State).psh.job = some (.start 0 (0 : Nat) (0 : Nat) true) ∧
     ((startAt 5 0 0 false) : State).fabricUp = true ∧ ((startAt 5 0 0 false) : State).boot.card = none ∧
     ((startAt 5 0 0 false) : State).psh.held = false ∧ ((startAt 5 0 0 false) : State).psh.job = some (.start 5 (0 : Nat) (0 : Nat) false) ∧
     ((zeros 16) : List Byte).length = 16 ∧ csdV2 csd2 = true) ∧
    (csdV2 ((zeros 16) : List Byte) = false ∧ (({ want18 (startAt 6 0 0 false) with psh.vsel := true }) : State).fabricUp = true ∧
     (({ want18 (startAt 6 0 0 false) with psh.vsel := true }) : State).boot.card = none ∧
     (({ want18 (startAt 6 0 0 false) with psh.vsel := true }) : State).psh.held = false ∧
     (({ want18 (startAt 6 0 0 false) with psh.vsel := true }) : State).psh.job = some (.start 6 (0 : Nat) (0 : Nat) false) ∧
     (({ want18 (startAt 6 0 0 false) with psh.vsel := true }) : State).tunes ((({ want18 (startAt 6 0 0 false) with psh.vsel := true }) : State).pickMode (63 : Nat)) = true ∧
     (({ (startAt 7 0 5 false).setReg pPsh Reg.Psh.PSH_CFG 0x15 with psh.vsel := true }) : State).fabricUp = true ∧
     (({ (startAt 7 0 5 false).setReg pPsh Reg.Psh.PSH_CFG 0x15 with psh.vsel := true }) : State).boot.card = none) ∧
    ((({ (startAt 7 0 5 false).setReg pPsh Reg.Psh.PSH_CFG 0x15 with psh.vsel := true }) : State).psh.held = false ∧
     (({ (startAt 7 0 5 false).setReg pPsh Reg.Psh.PSH_CFG 0x15 with psh.vsel := true }) : State).psh.job = some (.start 7 (0 : Nat) (5 : Nat) false) ∧
     (({ (startAt 7 0 5 false).setReg pPsh Reg.Psh.PSH_CFG 0x15 with psh.vsel := true }) : State).tunes ((5 : Nat) - 1) = true ∧
     (({ (startAt 7 0 5 false).setReg pPsh Reg.Psh.PSH_CFG 0x15 with psh.vsel := true }) : State).jAny = false ∧
     ((entryOf 1 hash0 (startAt 7 0 5 false)) : State).fabricUp = true ∧ ((entryOf 1 hash0 (startAt 7 0 5 false)) : State).boot.card = none ∧
     ((entryOf 1 hash0 (startAt 7 0 5 false)) : State).psh.held = false ∧
     ((entryOf 1 hash0 (startAt 7 0 5 false)) : State).psh.job = some (.start 7 (0 : Nat) (5 : Nat) false)) ∧
    ((1 : Nat) < 3 ∧ ((entryOf 1 hash0 (startAt 7 0 5 false)) : State).jPending (1 : Nat) = true ∧
     (List.range (1 : Nat)).all (fun i => !((entryOf 1 hash0 (startAt 7 0 5 false)) : State).jPending i) = true ∧
     ((entryOf 1 hash0 (startAt 7 0 5 false)) : State).jHash (1 : Nat) = sha256 (((entryOf 1 hash0 (startAt 7 0 5 false)) : State).psh.cid ++ ((entryOf 1 hash0 (startAt 7 0 5 false)) : State).psh.csd) ∧
     0 < ((entryOf 1 hash0 (startAt 7 0 5 false)) : State).jCount (1 : Nat) ∧ ((entryOf 1 (zeros 32) (startAt 7 0 5 false)) : State).fabricUp = true ∧
     ((entryOf 1 (zeros 32) (startAt 7 0 5 false)) : State).boot.card = none ∧ ((entryOf 1 (zeros 32) (startAt 7 0 5 false)) : State).psh.held = false) ∧
    (((entryOf 1 (zeros 32) (startAt 7 0 5 false)) : State).psh.job = some (.start 7 (0 : Nat) (5 : Nat) false) ∧
     ((entryOf 1 (zeros 32) (startAt 7 0 5 false)) : State).jPending (1 : Nat) = true ∧
     (List.range 3).all (fun i => !((entryOf 1 (zeros 32) (startAt 7 0 5 false)) : State).jPending i || ((entryOf 1 (zeros 32) (startAt 7 0 5 false)) : State).jHash i != sha256 (((entryOf 1 (zeros 32) (startAt 7 0 5 false)) : State).psh.cid ++ ((entryOf 1 (zeros 32) (startAt 7 0 5 false)) : State).psh.csd)) = true ∧
     WriteReaches s0 (.core : Port) pPsh Reg.Psh.PSH_CMD ∧ s0.pshBusy = false ∧ s0.psh.st ≠ .ready ∧ s0.psh.st ≠ .sleepClk ∧ s0.psh.st ≠ .sleepOff) ∧
    (WriteReaches ((busyOn cardUp) : State) (.core : Port) pPsh Reg.Psh.PSH_CMD ∧ ((busyOn cardUp) : State).pshBusy = true ∧
     WriteReaches cardUp (.core : Port) pPsh Reg.Psh.PSH_CMD ∧ cardUp.pshBusy = false ∧ cardUp.psh.st = .ready ∧ 1 ≤ (128 : Fin 256).val ∧
     (128 : Fin 256).val ≤ 128 ∧ (0 : Nat) + (128 : Fin 256) ≤ cardUp.cardBlocks) ∧
    (cardAddrOk (0x20001000 : Nat) (512 * (128 : Fin 256)) = true ∧
     ((129 : Fin 256).val = 0 ∨ 128 < (129 : Fin 256).val ∨ cardUp.cardBlocks < (0 : Nat) + (129 : Fin 256)) ∧
     WriteReaches ((cardUp.setReg pPsh Reg.Psh.PSH_BUF 0x20001004) : State) (.core : Port) pPsh Reg.Psh.PSH_CMD ∧
     ((cardUp.setReg pPsh Reg.Psh.PSH_BUF 0x20001004) : State).pshBusy = false ∧
     ((cardUp.setReg pPsh Reg.Psh.PSH_BUF 0x20001004) : State).psh.st = .ready ∧ 1 ≤ (1 : Fin 256).val ∧ (1 : Fin 256).val ≤ 128 ∧
     (0 : Nat) + (1 : Fin 256) ≤ ((cardUp.setReg pPsh Reg.Psh.PSH_BUF 0x20001004) : State).cardBlocks) ∧
    (cardAddrOk (0x20001004 : Nat) (512 * (1 : Fin 256)) = false ∧ cardUp.clean ∧ (cardUp.cln.st = .off ∨ cardUp.hasRole 4 = true) ∧
     cardAddrOk (0x20000000 : Nat) (4 * (1 : Fin 256)) = true ∧ cardAddrOk (0x20001000 : Nat) (512 * (1 : Fin 256)) = true ∧ ([5] : List Nat).Nodup ∧
     ([5] : List Nat).all (fun l => decide (l < cardUp.cardBlocks)) = true ∧ cardUp.jAny = false) ∧
    (WriteReaches ((entryOf 1 hash0 cardUp) : State) (.core : Port) pPsh Reg.Psh.PSH_CMD ∧ ((entryOf 1 hash0 cardUp) : State).pshBusy = false ∧
     ((entryOf 1 hash0 cardUp) : State).clean ∧ ((entryOf 1 hash0 cardUp) : State).psh.st = .ready ∧
     (((entryOf 1 hash0 cardUp) : State).cln.st = .off ∨ ((entryOf 1 hash0 cardUp) : State).hasRole 4 = true) ∧
     ([5] : List Nat).all (fun l => decide (l < ((entryOf 1 hash0 cardUp) : State).cardBlocks)) = true ∧ ((entryOf 1 hash0 cardUp) : State).jAny = true ∧
     1 ≤ (3 : Fin 256).val) ∧
    ((3 : Fin 256).val ≤ 128 ∧ cardAddrOk (0x20000000 : Nat) (4 * (3 : Fin 256)) = true ∧ cardAddrOk (0x20001000 : Nat) (512 * (3 : Fin 256)) = true ∧
     (¬ ([5, 0, 0] : List Nat).Nodup ∨ ([5, 0, 0] : List Nat).any (fun l => decide (cardUp.cardBlocks ≤ l)) = true) ∧
     ((cardUp.setReg pPsh Reg.Psh.PSH_BUF 0x20001004) : State).clean ∧
     (((cardUp.setReg pPsh Reg.Psh.PSH_BUF 0x20001004) : State).cln.st = .off ∨ ((cardUp.setReg pPsh Reg.Psh.PSH_BUF 0x20001004) : State).hasRole 4 = true) ∧
     (cardAddrOk (0x20000000 : Nat) (4 * (1 : Fin 256)) = false ∨ cardAddrOk (0x20001004 : Nat) (512 * (1 : Fin 256)) = false) ∧
     WriteReaches (({ cardUp with cln.st := .inStep }) : State) (.core : Port) pPsh Reg.Psh.PSH_CMD) ∧
    ((({ cardUp with cln.st := .inStep }) : State).pshBusy = false ∧ (({ cardUp with cln.st := .inStep }) : State).psh.st = .ready ∧
     (({ cardUp with cln.st := .inStep }) : State).cln.st = .inStep ∧ (({ cardUp with cln.st := .inStep }) : State).hasRole 4 = false ∧
     cardUp.cln.st = .off ∧ ((129 : Fin 256).val = 0 ∨ 128 < (129 : Fin 256).val) ∧ (.core : Port) = .core ∧
     ((entryOf 1 hash0 cardUp) : State).nvm.dip = false) ∧
    (WriteReaches ((stIn .sleepClk) : State) (.core : Port) pPsh Reg.Psh.PSH_CMD ∧ ((stIn .sleepClk) : State).pshBusy = false ∧
     ((stIn .sleepClk) : State).psh.st = .sleepClk ∧ ((stIn .sleepClk) : State).fld pPsh Reg.Psh.CARD_INFO 2 0 ≠ 5 ∧
     WriteReaches (((stIn .sleepClk).setReg pPsh Reg.Psh.CARD_INFO 5) : State) (.core : Port) pPsh Reg.Psh.PSH_CMD ∧
     (((stIn .sleepClk).setReg pPsh Reg.Psh.CARD_INFO 5) : State).pshBusy = false ∧
     (((stIn .sleepClk).setReg pPsh Reg.Psh.CARD_INFO 5) : State).psh.st = .sleepClk ∧
     (((stIn .sleepClk).setReg pPsh Reg.Psh.CARD_INFO 5) : State).fld pPsh Reg.Psh.CARD_INFO 2 0 = 5) ∧
    (WriteReaches ((stIn .sleepOff) : State) (.core : Port) pPsh Reg.Psh.PSH_CMD ∧ ((stIn .sleepOff) : State).pshBusy = false ∧
     ((stIn .sleepOff) : State).psh.st = .sleepOff ∧ WriteReaches ((entryOf 1 hash0 cardUp) : State) (.boot : Port) pPsh Reg.Psh.PSH_CMD ∧
     (.boot : Port) ≠ .core ∧ ((busyOn (cardAt (.read 0 0x20000000 2 1))) : State).psh.held = false ∧
     ((busyOn (cardAt (.read 0 0x20000000 2 1))) : State).psh.job = some (.read (0 : Nat) (0x20000000 : Nat) (2 : Nat) (1 : Nat)) ∧
     ((List.replicate 512 7) : List Byte).length = 512) ∧
    (((busyOn (cardAt (.read 0 0x20000000 2 1))) : State).clean ∧ ((wr 2 0 [5, 6]) : State).fabricUp = true ∧ ((wr 2 0 [5, 6]) : State).boot.card = none ∧
     ((wr 2 0 [5, 6]) : State).psh.held = false ∧ ((zeros 512) : List Byte).length = 512 ∧
     ((wr 2 0 [5, 6]) : State).psh.job = some (.write 2 (0 : Nat) (0x20000000 : Nat) (0 : Nat)) ∧
     (0 : Nat) + 1 < ((wr 2 0 [5, 6]) : State).psh.lbas.length ∧ ((wr 2 1 [5, 6]) : State).fabricUp = true) ∧
    (((wr 2 1 [5, 6]) : State).boot.card = none ∧ ((wr 2 1 [5, 6]) : State).psh.held = false ∧
     ((wr 2 1 [5, 6]) : State).psh.job = some (.write 2 (0 : Nat) (0x20000000 : Nat) (1 : Nat)) ∧
     ((wr 2 1 [5, 6]) : State).psh.lbas.length ≤ (1 : Nat) + 1 ∧ ((wr 2 1 [5, 6]) : State).nvm.run = none ∧ ((wr 4 0 [5, 6]) : State).fabricUp = true ∧
     ((wr 4 0 [5, 6]) : State).boot.card = none ∧ ((wr 4 0 [5, 6]) : State).psh.held = false) ∧
    (((wr 4 0 [5, 6]) : State).psh.job = some (.write 4 (0 : Nat) (0x20000000 : Nat) (0 : Nat)) ∧
     (0 : Nat) + 1 < ((wr 4 0 [5, 6]) : State).psh.lbas.length ∧ ((wr 4 1 [5, 6]) : State).fabricUp = true ∧ ((wr 4 1 [5, 6]) : State).boot.card = none ∧
     ((wr 4 1 [5, 6]) : State).psh.held = false ∧ ((wr 4 1 [5, 6]) : State).psh.job = some (.write 4 (0 : Nat) (0x20000000 : Nat) (1 : Nat)) ∧
     ((wr 4 1 [5, 6]) : State).psh.lbas.length ≤ (1 : Nat) + 1 ∧ ((wr 4 1 [5, 6]) : State).nvm.run = none) ∧
    (((wr 5 0 [5, 6]) : State).fabricUp = true ∧ ((wr 5 0 [5, 6]) : State).boot.card = none ∧ ((wr 5 0 [5, 6]) : State).psh.held = false ∧
     ((wr 5 0 [5, 6]) : State).psh.job = some (.write 5 (0 : Nat) (0x20000000 : Nat) (0 : Nat)) ∧ ((wr 51 0 [5, 6]) : State).fabricUp = true ∧
     ((wr 51 0 [5, 6]) : State).boot.card = none ∧ ((wr 51 0 [5, 6]) : State).psh.held = false ∧
     ((wr 51 0 [5, 6]) : State).psh.job = some (.write 51 (0 : Nat) (0x20000000 : Nat) (0 : Nat))) ∧
    (((wr 51 0 [5, 6]) : State).nvm.run = none ∧ ((wr 6 1 [5, 6]) : State).fabricUp = true ∧ ((wr 6 1 [5, 6]) : State).boot.card = none ∧
     ((wr 6 1 [5, 6]) : State).psh.held = false ∧ ((wr 6 1 [5, 6]) : State).psh.job = some (.write 6 (0 : Nat) (0x20000000 : Nat) (1 : Nat)) ∧
     ((wr 6 1 [5, 6]) : State).psh.lbas.length ≤ (1 : Nat) + 1 ∧ ((entryOf 0 hash0 (wr 4 0 [5])) : State).fabricUp = true ∧
     ((entryOf 0 hash0 (wr 4 0 [5])) : State).boot.card = none) ∧
    (((entryOf 0 hash0 (wr 4 0 [5])) : State).psh.held = false ∧
     ((entryOf 0 hash0 (wr 4 0 [5])) : State).psh.job = some (.write (4 : Nat) (0 : Nat) (0x20000000 : Nat) (0 : Nat)) ∧
     0 < ((entryOf 0 hash0 (wr 4 0 [5])) : State).jCount (0 : Nat) ∧ (4 : Nat) = 4 ∧ ((entryOf 0 hash0 (wr 4 0 [5])) : State).cardAsked = true ∧
     ((entryOf 0 hash0 (wr 4 0 [5])) : State).pshBusy = true ∧ ((entryOf 0 hash0 (wr 5 0 [5])) : State).fabricUp = true ∧
     ((entryOf 0 hash0 (wr 5 0 [5])) : State).boot.card = none) ∧
    (((entryOf 0 hash0 (wr 5 0 [5])) : State).psh.held = false ∧
     ((entryOf 0 hash0 (wr 5 0 [5])) : State).psh.job = some (.write (5 : Nat) (0 : Nat) (0x20000000 : Nat) (0 : Nat)) ∧
     0 < ((entryOf 0 hash0 (wr 5 0 [5])) : State).jCount (0 : Nat) ∧ (5 : Nat) = 5 ∧ ((entryOf 0 hash0 (wr 51 0 [5])) : State).fabricUp = true ∧
     ((entryOf 0 hash0 (wr 51 0 [5])) : State).boot.card = none ∧ ((entryOf 0 hash0 (wr 51 0 [5])) : State).psh.held = false ∧
     ((entryOf 0 hash0 (wr 51 0 [5])) : State).psh.job = some (.write (51 : Nat) (0 : Nat) (0x20000000 : Nat) (0 : Nat))) ∧
    (0 < ((entryOf 0 hash0 (wr 51 0 [5])) : State).jCount (0 : Nat) ∧ (51 : Nat) = 51 ∧ ((entryOf 0 hash0 (wr 2 0 [5])) : State).fabricUp = true ∧
     ((entryOf 0 hash0 (wr 2 0 [5])) : State).boot.card = none ∧ ((entryOf 0 hash0 (wr 2 0 [5])) : State).psh.held = false ∧
     ((entryOf 0 hash0 (wr 2 0 [5])) : State).psh.job = some (.write (2 : Nat) (0 : Nat) (0x20000000 : Nat) (0 : Nat)) ∧
     0 < ((entryOf 0 hash0 (wr 2 0 [5])) : State).jCount (0 : Nat) ∧ (2 : Nat) = 2) ∧
    (((rs 4 0 true) : State).fabricUp = true ∧ ((rs 4 0 true) : State).boot.card = none ∧ ((rs 4 0 true) : State).psh.held = false ∧
     ((rs 4 0 true) : State).psh.job = some (.restore 4 (0 : Nat) (0 : Nat) true) ∧ ((rs 5 0 false) : State).fabricUp = true ∧
     ((rs 5 0 false) : State).boot.card = none ∧ ((rs 5 0 false) : State).psh.held = false ∧
     ((rs 5 0 false) : State).psh.job = some (.restore 5 (0 : Nat) (0 : Nat) false)) ∧
    (((rs 51 0 false) : State).fabricUp = true ∧ ((rs 51 0 false) : State).boot.card = none ∧ ((rs 51 0 false) : State).psh.held = false ∧
     ((rs 51 0 false) : State).psh.job = some (.restore 51 (0 : Nat) (0 : Nat) false) ∧ ((rs 51 0 false) : State).nvm.run = none ∧
     s0.psh.job.all (fun j => match j with | .write 5 .. => false | .restore 5 .. => false | _ => true) = true ∧
     ((dirCard dirGood) : State).fabricUp = true ∧ ((dirCard dirGood) : State).boot.card = some (⟨1, (0, 0), none⟩ : CardBoot)) ∧
    ((⟨1, (0, 0), none⟩ : CardBoot).phase = 1 ∧ ((dirCard dirGood) : State).psh.held = false ∧
     ((dirCard dirGood) : State).psh.job = some (.boot 0 2 dirGood) ∧ dirGood.length = 512 ∧
     ((dirCard dirGood) : State).fld pLdg Reg.Ldg.BOOT_STA 5 4 ≤ 1 ∧ dirEntry 1 dirGood = some ((9, 4) : Nat × Nat) ∧
     ((dirCard (zeros 512)) : State).fabricUp = true ∧ ((dirCard (zeros 512)) : State).boot.card = some (⟨1, (0, 0), none⟩ : CardBoot)) ∧
    (((dirCard (zeros 512)) : State).psh.held = false ∧ ((dirCard (zeros 512)) : State).psh.job = some (.boot 0 2 ((zeros 512) : List Byte)) ∧
     ((dirCard (zeros 512)) : State).fld pLdg Reg.Ldg.BOOT_STA 5 4 ≤ 1 ∧ cardDir ((zeros 512) : List Byte) ((zeros 512) : List Byte) = none) ∧
    (cardDir dirGood ((zeros 512) : List Byte) = some dirGood) := by
  iterate 32 refine ⟨by decide +kernel, ?_⟩
  exact dirGood_used
theorem test_hyp_NvmRunsAndScrubs :
    (WriteReaches nvmBusy (.core : Port) pNvm Reg.Nvm.NVM_CMD ∧ nvmBusy.flag pNvm Reg.Nvm.NVM_CMD 31 = true ∧
     WriteReaches ((nvmAt 0 65 0) : State) (.core : Port) pNvm Reg.Nvm.NVM_CMD ∧ ((nvmAt 0 65 0) : State).flag pNvm Reg.Nvm.NVM_CMD 31 = false ∧
     nvmRange ≠ nvmOk ∧ (1 : Nat) = 1 ∧ WriteReaches ((nvmAt 0 1 0x20000004) : State) (.core : Port) pNvm Reg.Nvm.NVM_CMD ∧
     ((nvmAt 0 1 0x20000004) : State).flag pNvm Reg.Nvm.NVM_CMD 31 = false) ∧
    (nvmAddr ≠ nvmOk ∧ (2 : Nat) = 2 ∧ WriteReaches ((nvmAt 0 0 0) : State) (.core : Port) pNvm Reg.Nvm.NVM_CMD ∧
     ((nvmAt 0 0 0) : State).flag pNvm Reg.Nvm.NVM_CMD 31 = false ∧ (3 : Nat) = 3 ∧
     WriteReaches ((nvmAt 0xFFF000 1 0) : State) (.core : Port) pNvm Reg.Nvm.NVM_CMD ∧
     ((nvmAt 0xFFF000 1 0) : State).flag pNvm Reg.Nvm.NVM_CMD 31 = false ∧ nvmRangeOk 1 (0xFFF000 : Nat) (1 : Nat) = true) ∧
    (((nvmAt 0xFFF000 1 0) : State).nvmXoOk 1 (0xFFF000 : Nat) (1 : Nat) false = true ∧
     bankOf ((nvmAt 0xFFF000 1 0) : State).engC.pc ≠ some ((0xFFF000 : Nat) / 0x400000) ∧
     bankOf ((nvmAt 0xFFF000 1 0) : State).engC.tvec.toNat ≠ some ((0xFFF000 : Nat) / 0x400000) ∧
     WriteReaches ((prog 5) : State) (.core : Port) pNvm Reg.Nvm.NVM_CMD ∧ ((prog 5) : State).flag pNvm Reg.Nvm.NVM_CMD 31 = false ∧
     nvmRangeOk 2 (0 : Nat) (1 : Nat) = true ∧ ((prog 5) : State).nvmXoOk 2 (0 : Nat) (1 : Nat) false = true ∧
     bankOf ((prog 5) : State).engC.pc ≠ some ((0 : Nat) / 0x400000)) ∧
    (bankOf ((prog 5) : State).engC.tvec.toNat ≠ some ((0 : Nat) / 0x400000) ∧ inCsram (0x20000000 : Nat) (32 * (1 : Nat)) = true ∧
     (0x20000000 : Nat) % 32 = 0 ∧ ((prog 5) : State).clean ∧
     ((List.range (1 : Nat)).all (fun i => programmable (((prog 5) : State).peekMem (mramRegion (0 : Nat)) ((0 : Nat) + 32 * i) 32) ((((List.replicate 32 5) : List Byte).drop (32 * i)).take 32)) = true) ∧
     WriteReaches ((zeroed (prog 5)) : State) (.core : Port) pNvm Reg.Nvm.NVM_CMD ∧ ((zeroed (prog 5)) : State).flag pNvm Reg.Nvm.NVM_CMD 31 = false ∧
     ((zeroed (prog 5)) : State).nvmXoOk 2 (0 : Nat) (1 : Nat) false = true) ∧
    (bankOf ((zeroed (prog 5)) : State).engC.pc ≠ some ((0 : Nat) / 0x400000) ∧
     bankOf ((zeroed (prog 5)) : State).engC.tvec.toNat ≠ some ((0 : Nat) / 0x400000) ∧ ((zeroed (prog 5)) : State).clean ∧
     WriteReaches ((nvmAt 0 1 0) : State) (.core : Port) pNvm Reg.Nvm.NVM_CMD ∧ ((nvmAt 0 1 0) : State).flag pNvm Reg.Nvm.NVM_CMD 31 = false ∧
     nvmRangeOk 3 (0 : Nat) (1 : Nat) = true ∧ bankOf ((nvmAt 0 1 0) : State).engC.pc ≠ some ((0 : Nat) / 0x400000) ∧
     bankOf ((nvmAt 0 1 0) : State).engC.tvec.toNat ≠ some ((0 : Nat) / 0x400000)) ∧
    (((nvmAt 0 1 0) : State).clean ∧ WriteReaches ((prog 0xFF) : State) (.core : Port) pNvm Reg.Nvm.NVM_CMD ∧
     ((prog 0xFF) : State).flag pNvm Reg.Nvm.NVM_CMD 31 = false ∧ bankOf ((prog 0xFF) : State).engC.pc ≠ some ((0 : Nat) / 0x400000) ∧
     bankOf ((prog 0xFF) : State).engC.tvec.toNat ≠ some ((0 : Nat) / 0x400000) ∧ ((prog 0xFF) : State).clean ∧
     ((prog 0xFF) : State).nvmXoOk 3 (0 : Nat) (1 : Nat) true = true ∧
     (List.range (1 : Nat)).all (fun i => ((prog 0xFF) : State).peekMem (mramRegion (0 : Nat)) ((0 : Nat) + 32 * i) 32 == ((prog 0xFF) : State).peekMem rgCsram ((0x20000000 : Nat) - 0x20000000 + 32 * i) 32) = true) ∧
    (((prog 5) : State).nvmXoOk 3 (0 : Nat) (1 : Nat) true = true ∧ ((runOf ⟨1, 0xFFF000, 1, 0, [], true, false⟩) : State).fabricUp = true ∧
     ((runOf ⟨1, 0xFFF000, 1, 0, [], true, false⟩) : State).nvm.run = some (⟨1, 0xFFF000, 1, 0, [], true, false⟩ : NvmRun) ∧
     (⟨1, 0xFFF000, 1, 0, [], true, false⟩ : NvmRun).unitOn = true ∧ (⟨1, 0xFFF000, 1, 0, [], true, false⟩ : NvmRun).journal = false ∧
     ((runOf ⟨1, 0xFFF000, 1, 0, [], true, false⟩) : State).nvm.jwait = none ∧ ((runOf ⟨1, 0xFFF000, 1, 0, [], true, false⟩) : State).boot.card = none ∧
     (0xFFF000 : Nat) < 0x1000000) ∧
    ((0xFFF000 : Nat) % nvmUnit (⟨1, 0xFFF000, 1, 0, [], true, false⟩ : NvmRun).op = 0 ∧
     (({ wr 41 0 [5] with nvm.run := some ⟨2, jBase 0, 1, 0, jBits [1], true, true⟩ }) : State).fabricUp = true ∧
     (({ wr 41 0 [5] with nvm.run := some ⟨2, jBase 0, 1, 0, jBits [1], true, true⟩ }) : State).nvm.run = some (⟨2, jBase 0, 1, 0, jBits [1], true, true⟩ : NvmRun) ∧
     (⟨2, jBase 0, 1, 0, jBits [1], true, true⟩ : NvmRun).unitOn = true ∧ (⟨2, jBase 0, 1, 0, jBits [1], true, true⟩ : NvmRun).journal = true ∧
     (⟨2, jBase 0, 1, 0, jBits [1], true, true⟩ : NvmRun).done + 1 = (⟨2, jBase 0, 1, 0, jBits [1], true, true⟩ : NvmRun).count ∧
     (({ wr 41 0 [5] with nvm.run := some ⟨2, jBase 0, 1, 0, jBits [1], true, true⟩ }) : State).boot.card = none ∧
     (({ wr 41 0 [5] with nvm.run := some ⟨2, jBase 0, 1, 0, jBits [1], true, true⟩ }) : State).psh.job = some (.write 41 (0 : Nat) (0x20000000 : Nat) (0 : Nat))) ∧
    ((({ wr 61 0 [5] with nvm.run := some ⟨2, jBase 0, 1, 0, jBits [3], true, true⟩ }) : State).fabricUp = true ∧
     (({ wr 61 0 [5] with nvm.run := some ⟨2, jBase 0, 1, 0, jBits [3], true, true⟩ }) : State).nvm.run = some (⟨2, jBase 0, 1, 0, jBits [3], true, true⟩ : NvmRun) ∧
     (⟨2, jBase 0, 1, 0, jBits [3], true, true⟩ : NvmRun).unitOn = true ∧ (⟨2, jBase 0, 1, 0, jBits [3], true, true⟩ : NvmRun).journal = true ∧
     (⟨2, jBase 0, 1, 0, jBits [3], true, true⟩ : NvmRun).done + 1 = (⟨2, jBase 0, 1, 0, jBits [3], true, true⟩ : NvmRun).count ∧
     (({ wr 61 0 [5] with nvm.run := some ⟨2, jBase 0, 1, 0, jBits [3], true, true⟩ }) : State).boot.card = none ∧
     (({ wr 61 0 [5] with nvm.run := some ⟨2, jBase 0, 1, 0, jBits [3], true, true⟩ }) : State).psh.job = some (.write 61 (0 : Nat) (0x20000000 : Nat) (0 : Nat)) ∧
     (({ busyOn (rs 61 0 false) with nvm.run := some ⟨2, jBase 0, 1, 0, jBits [3, 4], true, true⟩ }) : State).fabricUp = true) ∧
    ((({ busyOn (rs 61 0 false) with nvm.run := some ⟨2, jBase 0, 1, 0, jBits [3, 4], true, true⟩ }) : State).nvm.run = some (⟨2, jBase 0, 1, 0, jBits [3, 4], true, true⟩ : NvmRun) ∧
     (⟨2, jBase 0, 1, 0, jBits [3, 4], true, true⟩ : NvmRun).unitOn = true ∧ (⟨2, jBase 0, 1, 0, jBits [3, 4], true, true⟩ : NvmRun).journal = true ∧
     (⟨2, jBase 0, 1, 0, jBits [3, 4], true, true⟩ : NvmRun).done + 1 = (⟨2, jBase 0, 1, 0, jBits [3, 4], true, true⟩ : NvmRun).count ∧
     (({ busyOn (rs 61 0 false) with nvm.run := some ⟨2, jBase 0, 1, 0, jBits [3, 4], true, true⟩ }) : State).boot.card = none ∧
     (({ busyOn (rs 61 0 false) with nvm.run := some ⟨2, jBase 0, 1, 0, jBits [3, 4], true, true⟩ }) : State).psh.job = some (.restore 61 (0 : Nat) (0 : Nat) false) ∧
     s0.fabricUp = true ∧ s0.nvm.run = none) ∧
    (s0.nvm.jwait = none ∧ s0.boot.card = none ∧ ((runOf ⟨1, 0xFFF000, 1, 0, [], false, false⟩) : State).fabricUp = true ∧
     ((runOf ⟨1, 0xFFF000, 1, 0, [], false, false⟩) : State).nvm.run = some (⟨1, 0xFFF000, 1, 0, [], false, false⟩ : NvmRun) ∧
     (⟨1, 0xFFF000, 1, 0, [], false, false⟩ : NvmRun).unitOn = false ∧ ((runOf ⟨1, 0xFFF000, 1, 0, [], false, false⟩) : State).nvm.dip = false ∧
     ((runOf ⟨1, 0xFFF000, 1, 0, [], false, false⟩) : State).nvm.deferred = [] ∧ s0.nvm.dip = false) ∧
    (s0.nvm.deferred = [] ∧ (({ s0 with nvm.deferred := [(0, [5, 6], false)] }) : State).fabricUp = true ∧
     (({ s0 with nvm.deferred := [(0, [5, 6], false)] }) : State).nvm.run = none ∧
     (({ s0 with nvm.deferred := [(0, [5, 6], false)] }) : State).nvm.dip = false ∧
     (({ s0 with nvm.deferred := [(0, [5, 6], false)] }) : State).nvm.deferred = [((0 : Nat), ([5, 6] : List Byte), false)] ∧
     ((⟨1, 0xFFF000, 1, 0, [], true, false⟩ : NvmRun).unitOn = true ∨ ((runOf ⟨1, 0xFFF000, 1, 0, [], true, false⟩) : State).nvm.dip = true) ∧
     ((runOf ⟨1, 0xFFF000, 1, 0, [], true, false⟩) : State).nvm.deferred = [] ∧ held.fabricUp = false) ∧
    ((s0.fabricUp = false ∨ s0.mark (4 : Fin 16) (0 : Nat) = none ∨ ¬ ((4 : Fin 16).val ≤ 4 ∨ (4 : Fin 16).val = 9)) ∧
     (({ s0 with mem.marks := [(0, ⟨2, false, false⟩)] }) : State).fabricUp = true ∧
     (({ s0 with mem.marks := [(0, ⟨2, false, false⟩)] }) : State).mark (0 : Fin 16) (0 : Nat) = some (⟨2, false, false⟩ : Mark) ∧
     ((0 : Fin 16).val ≤ 4 ∨ (0 : Fin 16).val = 9) ∧ (⟨2, false, false⟩ : Mark).poisoned = false) := by
  iterate 12 refine ⟨by decide +kernel, ?_⟩
  decide +kernel

/-! Belvedere and Hedge. -/

/-- A report of a page, kind, item and cause, of a class, asking for reactions. -/
def rep (page kind item cause cls want : Nat) : Report :=
  { page := page, kind := kind, item := item, cause := cause, cls := cls, addr := 0, inj := false, masked := false, want := want, fencePage := none, hdgReset := false }
def with1 (r : Report) : State := { s0 with blv.incoming := [r] }
def on (s : State) (r : Report) : State := { s with blv.incoming := [r] }
/-- An entry of the history, and a history that holds 64 of a class. -/
def ent (r : Report) : Hist := newHist r 0 0 0 false
def fullOf (cls : Nat) : State := { s0 with blv.hist := (List.range 64).map (fun i => ent (rep pOrg 0 i 6 cls 0)) }
/-- The Orangery's page fenced for its cause 6, pending or past. -/
def fen : Fence := ⟨BitVec.ofNat 32 pOrg, pOrg, 6⟩
def fenced (t : State) : State := { t.setReg pBlv Reg.Blv.FENCE_TGT (BitVec.ofNat 32 pOrg) with blv.fences := [fen] }
/-- Every Hedge source enabled, in normal operation and in backup. -/
def hdgUp : State := (List.range 8).foldl (fun s i => s.setReg pHdg (srcCfgOff i) 0x23) s0
def hi0 : Int := (BitVec.ofNat 12 (s0.fld pHdg Reg.Hdg.TEMP_CFG 11 0)).toInt
def lo0 : Int := (BitVec.ofNat 12 (s0.fld pHdg Reg.Hdg.TEMP_CFG 27 16)).toInt
def hdgVbat : State := { hdgUp with well.onVbat := true }

theorem test_hyp_BelvedereReacts :
    (((tk (with1 (rep pOrg 0 0 6 1 1))) : State).blv.incoming = [((rep pOrg 0 0 6 1 1) : Report)] ∧ ((rep pOrg 0 0 6 1 1) : Report).old = false ∧
     ((rep pOrg 0 0 6 1 1) : Report).masked = false ∧ ((tk (with1 (rep pOrg 0 0 6 1 1))) : State).coalesces ((rep pOrg 0 0 6 1 1) : Report) = none ∧
     ((tk (with1 (rep pOrg 0 0 6 1 1))) : State).blv.hist.length < 64 ∧
     ((tk (with1 (rep pPav 0 0 6 1 1))) : State).blv.incoming = [((rep pPav 0 0 6 1 1) : Report)] ∧ ((rep pPav 0 0 6 1 1) : Report).old = false ∧
     ((rep pPav 0 0 6 1 1) : Report).masked = false) ∧
    (((tk (with1 (rep pPav 0 0 6 1 1))) : State).coalesces ((rep pPav 0 0 6 1 1) : Report) = none ∧
     ((tk (with1 (rep pPav 0 0 6 1 1))) : State).blv.recent = [] ∧ (1 : Nat) = 1 ∧ isHaltPage ((rep pPav 0 0 6 1 1) : Report).target = true ∧
     ((tk (with1 (rep pPav 0 0 6 1 1))) : State).blv.halted = false ∧
     ((tk (with1 (rep pPav 1 5 1 1 1))) : State).blv.incoming = [((rep pPav 1 5 1 1 1) : Report)] ∧ ((rep pPav 1 5 1 1 1) : Report).old = false ∧
     ((rep pPav 1 5 1 1 1) : Report).masked = false) ∧
    (((tk (with1 (rep pPav 1 5 1 1 1))) : State).coalesces ((rep pPav 1 5 1 1 1) : Report) = none ∧
     ((tk (with1 (rep pPav 1 5 1 1 1))) : State).blv.recent = [] ∧ isChannel ((rep pPav 1 5 1 1 1) : Report).target = true ∧
     ((tk (with1 (rep pPav 1 5 1 1 9))) : State).blv.incoming = [((rep pPav 1 5 1 1 9) : Report)] ∧ ((rep pPav 1 5 1 1 9) : Report).old = false ∧
     ((rep pPav 1 5 1 1 9) : Report).masked = false ∧ ((tk (with1 (rep pPav 1 5 1 1 9))) : State).coalesces ((rep pPav 1 5 1 1 9) : Report) = none ∧
     ((tk (with1 (rep pPav 1 5 1 1 9))) : State).blv.recent = []) ∧
    ((9 : Nat) = 9 ∧ isChannel ((rep pPav 1 5 1 1 9) : Report).target = true ∧
     ((tk (with1 (rep pOrg 7 23 1 1 2))) : State).blv.incoming = [((rep pOrg 7 23 1 1 2) : Report)] ∧ ((rep pOrg 7 23 1 1 2) : Report).old = false ∧
     ((rep pOrg 7 23 1 1 2) : Report).masked = false ∧ ((tk (with1 (rep pOrg 7 23 1 1 2))) : State).coalesces ((rep pOrg 7 23 1 1 2) : Report) = none ∧
     ((tk (with1 (rep pOrg 7 23 1 1 2))) : State).blv.recent = [] ∧ (2 : Nat) = 2) ∧
    (isCore ((rep pOrg 7 23 1 1 2) : Report).origin = true ∧ itemOf ((rep pOrg 7 23 1 1 2) : Report).origin < 24 ∧
     ((tk (with1 (rep pOrg 0 0 6 1 4))) : State).blv.incoming = ((rep pOrg 0 0 6 1 4) : Report) :: ([] : List Report) ∧
     ((rep pOrg 0 0 6 1 4) : Report).old = false ∧ ((rep pOrg 0 0 6 1 4) : Report).masked = false ∧
     ((tk (with1 (rep pOrg 0 0 6 1 4))) : State).coalesces ((rep pOrg 0 0 6 1 4) : Report) = none ∧
     (((tk (with1 (rep pOrg 0 0 6 1 4))) : State).requested ((rep pOrg 0 0 6 1 4) : Report)).testBit 2 = true ∧
     ((tk (with1 (rep pOrg 0 0 6 1 16))) : State).blv.incoming = ((rep pOrg 0 0 6 1 16) : Report) :: ([] : List Report)) ∧
    (((rep pOrg 0 0 6 1 16) : Report).old = false ∧ ((rep pOrg 0 0 6 1 16) : Report).masked = false ∧
     ((tk (with1 (rep pOrg 0 0 6 1 16))) : State).coalesces ((rep pOrg 0 0 6 1 16) : Report) = none ∧
     (((tk (with1 (rep pOrg 0 0 6 1 16))) : State).requested ((rep pOrg 0 0 6 1 16) : Report)).testBit 4 = true ∧
     ((tk (on (fullOf 1) (rep pOrg 5 0 6 2 0))) : State).blv.incoming = [((rep pOrg 5 0 6 2 0) : Report)] ∧ ((rep pOrg 5 0 6 2 0) : Report).old = false ∧
     ((rep pOrg 5 0 6 2 0) : Report).masked = false ∧ ((tk (on (fullOf 1) (rep pOrg 5 0 6 2 0))) : State).coalesces ((rep pOrg 5 0 6 2 0) : Report) = none) ∧
    (64 ≤ ((tk (on (fullOf 1) (rep pOrg 5 0 6 2 0))) : State).blv.hist.length ∧
     (((tk (on (fullOf 1) (rep pOrg 5 0 6 2 0))) : State).requested ((rep pOrg 5 0 6 2 0) : Report)).testBit 4 = false ∧
     ((tk (on (fullOf 1) (rep pOrg 5 0 6 2 0))) : State).requested ((rep pOrg 5 0 6 2 0) : Report) ≤ 1 ∧
     noTarget ((rep pOrg 5 0 6 2 0) : Report).target = true ∧
     replaced ((tk (on (fullOf 1) (rep pOrg 5 0 6 2 0))) : State).blv.hist ((rep pOrg 5 0 6 2 0) : Report).cls = some (63 : Nat) ∧
     ((tk (on (fullOf 3) (rep pOrg 5 0 6 1 0))) : State).blv.incoming = [((rep pOrg 5 0 6 1 0) : Report)] ∧ ((rep pOrg 5 0 6 1 0) : Report).old = false ∧
     ((rep pOrg 5 0 6 1 0) : Report).masked = false) ∧
    (((tk (on (fullOf 3) (rep pOrg 5 0 6 1 0))) : State).coalesces ((rep pOrg 5 0 6 1 0) : Report) = none ∧
     64 ≤ ((tk (on (fullOf 3) (rep pOrg 5 0 6 1 0))) : State).blv.hist.length ∧
     (((tk (on (fullOf 3) (rep pOrg 5 0 6 1 0))) : State).requested ((rep pOrg 5 0 6 1 0) : Report)).testBit 4 = false ∧
     ((tk (on (fullOf 3) (rep pOrg 5 0 6 1 0))) : State).requested ((rep pOrg 5 0 6 1 0) : Report) ≤ 1 ∧
     noTarget ((rep pOrg 5 0 6 1 0) : Report).target = true ∧
     replaced ((tk (on (fullOf 3) (rep pOrg 5 0 6 1 0))) : State).blv.hist ((rep pOrg 5 0 6 1 0) : Report).cls = none ∧
     ((tk { with1 (rep pOrg 0 0 6 1 0) with blv.hist := [ent (rep pOrg 0 0 6 1 0)] }) : State).blv.incoming = [((rep pOrg 0 0 6 1 0) : Report)] ∧
     ((rep pOrg 0 0 6 1 0) : Report).old = false) ∧
    (((rep pOrg 0 0 6 1 0) : Report).masked = false ∧
     ((tk { with1 (rep pOrg 0 0 6 1 0) with blv.hist := [ent (rep pOrg 0 0 6 1 0)] }) : State).coalesces ((rep pOrg 0 0 6 1 0) : Report) = some ((0 : Nat), ((ent (rep pOrg 0 0 6 1 0)) : Hist)) ∧
     ((tk { with1 (rep pOrg 0 0 6 1 0) with blv.hist := [ent (rep pOrg 0 0 6 1 0)] }) : State).requested ((rep pOrg 0 0 6 1 0) : Report) = ((ent (rep pOrg 0 0 6 1 0)) : Hist).taken ∧
     ((rep pOrg 0 0 6 1 0) : Report).cls ≠ 3 ∧
     ((tk (with1 { rep pOrg 0 0 6 1 0 with masked := true })) : State).blv.incoming = [(({ rep pOrg 0 0 6 1 0 with masked := true }) : Report)] ∧
     (({ rep pOrg 0 0 6 1 0 with masked := true }) : Report).old = false ∧ (({ rep pOrg 0 0 6 1 0 with masked := true }) : Report).masked = true ∧
     (({ rep pOrg 0 0 6 1 0 with masked := true }) : Report).want = 0) ∧
    ((s0.start.tick (10 : Nat)).blv.incoming = [] ∧ WriteReaches (({ s0 with blv.halted := true }) : State) (.core : Port) pBlv Reg.Blv.FENCE_CMD ∧
     (({ s0 with blv.halted := true }) : State).blv.halted = true ∧ WriteReaches s0 (.core : Port) pBlv Reg.Blv.FENCE_CMD ∧ s0.blv.halted = false ∧
     s0.blv.fences.all (fun f => f.target != (0 : Word)) = true ∧
     WriteReaches ((fenced (r0 pOrg Reg.Hdr.FLT_STA 0x40)) : State) (.core : Port) pBlv Reg.Blv.FENCE_CMD ∧
     ((fenced (r0 pOrg Reg.Hdr.FLT_STA 0x40)) : State).blv.halted = false) ∧
    (((fenced (r0 pOrg Reg.Hdr.FLT_STA 0x40)) : State).blv.fences.find? (fun g => g.target = ((BitVec.ofNat 32 pOrg) : Word)) = some fen ∧
     fen.cause < 0x20 ∧ ((fenced (r0 pOrg Reg.Hdr.FLT_STA 0x40)) : State).flag fen.page Reg.Hdr.FLT_STA fen.cause = true ∧
     WriteReaches ((fenced s0) : State) (.core : Port) pBlv Reg.Blv.FENCE_CMD ∧ ((fenced s0) : State).blv.halted = false ∧
     ((fenced s0) : State).blv.fences.find? (fun g => g.target = ((BitVec.ofNat 32 pOrg) : Word)) = some fen ∧
     (0x20 ≤ fen.cause ∨ ((fenced s0) : State).flag fen.page Reg.Hdr.FLT_STA fen.cause = false) ∧
     (({ fenced s0 with blv.lift := [(BitVec.ofNat 32 pOrg, none), (5, some 7)] }) : State).fabricUp = true) ∧
    ((({ s0 with cln.st := .inStep, cln.session := true }) : State).fabricUp = true ∧
     (({ s0 with cln.st := .inStep, cln.session := true }) : State).cln.st = .inStep ∧
     (({ s0 with cln.st := .inStep, cln.session := true }) : State).cln.session = true ∧ s0.fabricUp = true ∧
     (s0.cln.st ≠ .inStep ∨ s0.cln.session = false) ∧ held.fabricUp = false ∧ WriteReaches ((fullOf 1) : State) (.core : Port) pBlv Reg.Blv.HIST_CLR ∧
     ReadReaches ((fullOf 1) : State) (.core : Port) pBlv) := by
  iterate 11 refine ⟨by decide +kernel, ?_⟩
  decide +kernel
theorem test_hyp_HedgeSourcesRaise :
    (hdgUp.well.onVbat = false ∧ hdgVbat.well.onVbat = true ∧ (({ hdgUp with hdg.lightWait := some 1 }) : State).hdg.lightWait = some (1 : Nat) ∧
     (({ hdgUp with hdg.lightWait := some 1 }) : State).hdgEnabled 0 = true ∧ (({ hdgUp with hdg.lightWait := some 1 }) : State).hdgEnabled 1 = true ∧
     (({ hdgUp with hdg.lightWait := some 1 }) : State).hdgEnabled 2 = true ∧ (({ hdgUp with hdg.lightWait := some 1 }) : State).hdgSuppressed 2 = false ∧
     (hdgUp.hdg.lightWait = none ∨ hdgUp.hdgEnabled 0 = false ∨ hdgUp.hdgEnabled 1 = false ∨ hdgUp.hdgEnabled 2 = false)) ∧
    ((({ hdgUp with hdg.raised := [3], hdg.active := [3] }) : State).tempInside (3 : Fin 8) = true ∧ (3 : Fin 8).val ≠ 5 ∧ (3 : Fin 8).val ≠ 6 ∧
     (({ hdgUp with pwr.temps := [2047] }) : State).tempInside (5 : Fin 8) = false ∧ (6 : Nat) < 8 ∧ (0x69 : Fin 256).val.testBit (6 : Nat) = true ∧
     hdgVbat.backupOn (6 : Nat) = true ∧ (6 : Nat) ∉ hdgVbat.hdg.raised) ∧
    ((hdgUp.well.onVbat = false ∨ (List.range 8).all (fun j => !(0x69 : Fin 256).val.testBit j || !hdgUp.backupOn j || hdgUp.hdg.raised.contains j) = true) ∧
     -2048 ≤ (2047 : Int) ∧ (2047 : Int) < 2048 ∧ hi0 ≤ (2047 : Int) ∧ hdgVbat.backupOn 5 = true ∧ 5 ∉ hdgVbat.hdg.raised ∧ -2048 ≤ ((-2048) : Int) ∧
     ((-2048) : Int) < 2048) ∧
    (((-2048) : Int) ≤ lo0 ∧ hdgVbat.backupOn 6 = true ∧ 6 ∉ hdgVbat.hdg.raised ∧ -2048 ≤ (200 : Int) ∧ (200 : Int) < 2048 ∧
     ((200 : Int) < hi0 ∨ hdgVbat.backupOn 5 = false ∨ 5 ∈ hdgVbat.hdg.raised) ∧ (lo0 < (200 : Int) ∨ hdgVbat.backupOn 6 = false ∨ 6 ∈ hdgVbat.hdg.raised)) := by
  iterate 3 refine ⟨by decide +kernel, ?_⟩
  decide +kernel

/-! Arbour and Fountain. -/

/-- Scratch with 5 in A, 3 in B, 2 in D and 7 in C, one word of 32 octets each. -/
def arbUp : State :=
  { s0 with mem.scratch := memWrite zeroOctet (memWrite zeroOctet (memWrite zeroOctet (memWrite zeroOctet [] (areaA + 31) [5]) (areaB + 31) [3]) (areaC + 31) [7]) (areaD + 31) [2] }
def arbPoint : State := { s0 with mem.scratch := memWrite zeroOctet (memWrite zeroOctet [] areaB pubG) (areaC + 31) [2] }
/-- An operation in its timed phase. -/
def timed (s : State) (o : ArbOp) : State := { s with arb.phase := .timed, arb.cur := some o, arb.src := 0x20000000, arb.len := 3, arb.rnd := zeros 80 }
def waits (s : State) (r : List ArbReq) : State := { s with arb.waiting := r }
def ftnUp : State := { s0 with ftn.st := .ready, ftn.waiting := [.attach, .arbour], arb.cur := some (.fw 5 false 0 0 0), arb.phase := .random, boot.entered := true }
def att : AttachRun := { back := .solo, peerCert := [], peerQE := [], peerNonce := [], nonce := [], qE := [], sent := false, attested := false }

theorem test_hyp_ArbourOperations :
    (WriteReaches arbUp (.core : Port) pArb Reg.Arb.ARB_CMD ∧ arbUp.flag pArb Reg.Hdr.STA 8 = false ∧ arbUp.arb.cur = none ∧ arbUp.arb.waiting = [] ∧
     WriteReaches ((r0 pArb Reg.Hdr.STA 0x100) : State) (.core : Port) pArb Reg.Arb.ARB_CMD ∧
     ((r0 pArb Reg.Hdr.STA 0x100) : State).flag pArb Reg.Hdr.STA 8 = true ∧ (({ s0 with arb.phase := .random, arb.rnd := [1] }) : State).fabricUp = true ∧
     (({ s0 with arb.phase := .random, arb.rnd := [1] }) : State).arb.phase = .random) ∧
    ((({ s0 with arb.phase := .random, arb.rnd := [1] }) : State).arb.rnd ≠ [] ∧
     (({ s0 with arb.phase := .random, arb.rnd := [1] }) : State).arb.phase ≠ .timed ∧ s0.fabricUp = true ∧ (s0.arb.phase ≠ .random ∨ s0.arb.rnd = []) ∧
     ((timed arbUp (.fw 7 false 0 0 1)) : State).fabricUp = true ∧ ((timed arbUp (.fw 7 false 0 0 1)) : State).arb.phase = .timed ∧
     ((timed arbUp (.fw 7 false 0 0 1)) : State).arb.cur = some (.fw (7 : Nat) false (0 : Nat) (0 : Nat) (1 : Nat)) ∧
     ((timed s0 (.fw 1 false 0 0 0)) : State).fabricUp = true) ∧
    (((timed s0 (.fw 1 false 0 0 0)) : State).arb.phase = .timed ∧
     ((timed s0 (.fw 1 false 0 0 0)) : State).arb.cur = some (.fw 1 false (0 : Nat) (0 : Nat) (0 : Nat)) ∧ ((timed s0 (.fw 1 false 0 0 0)) : State).clean ∧
     inCsram ((timed s0 (.fw 1 false 0 0 0)) : State).arb.src ((timed s0 (.fw 1 false 0 0 0)) : State).arb.len = true ∧
     (({ timed s0 (.fw 1 false 0 0 0) with arb.src := 0x10000000 }) : State).fabricUp = true ∧
     (({ timed s0 (.fw 1 false 0 0 0) with arb.src := 0x10000000 }) : State).arb.phase = .timed ∧
     (({ timed s0 (.fw 1 false 0 0 0) with arb.src := 0x10000000 }) : State).arb.cur = some (.fw 1 false (0 : Nat) (0 : Nat) (0 : Nat)) ∧
     (({ timed s0 (.fw 1 false 0 0 0) with arb.src := 0x10000000 }) : State).clean) ∧
    (inMram (({ timed s0 (.fw 1 false 0 0 0) with arb.src := 0x10000000 }) : State).arb.src (({ timed s0 (.fw 1 false 0 0 0) with arb.src := 0x10000000 }) : State).arb.len = true ∧
     ((timed arbPoint (.fw 2 false 0 0 0)) : State).fabricUp = true ∧ ((timed arbPoint (.fw 2 false 0 0 0)) : State).arb.phase = .timed ∧
     ((timed arbPoint (.fw 2 false 0 0 0)) : State).clean ∧
     ((timed arbPoint (.fw 2 false 0 0 0)) : State).arb.cur = some (.fw 2 false (0 : Nat) (0 : Nat) (0 : Nat)) ∧
     ((timed arbPoint (.fw 3 false 0 0 0)) : State).fabricUp = true ∧ ((timed arbPoint (.fw 3 false 0 0 0)) : State).arb.phase = .timed ∧
     ((timed arbPoint (.fw 3 false 0 0 0)) : State).clean) ∧
    (((timed arbPoint (.fw 3 false 0 0 0)) : State).arb.cur = some (.fw 3 false (0 : Nat) (0 : Nat) (0 : Nat)) ∧
     ((timed arbPoint (.fw 5 false 0 0 0)) : State).fabricUp = true ∧ ((timed arbPoint (.fw 5 false 0 0 0)) : State).arb.phase = .timed ∧
     ((timed arbPoint (.fw 5 false 0 0 0)) : State).clean ∧
     ((timed arbPoint (.fw 5 false 0 0 0)) : State).arb.cur = some (.fw 5 false 0 (0 : Nat) (0 : Nat)) ∧
     ((timed arbPoint (.fw 5 false 1 2 0)) : State).fabricUp = true ∧ ((timed arbPoint (.fw 5 false 1 2 0)) : State).arb.phase = .timed ∧
     ((timed arbPoint (.fw 5 false 1 2 0)) : State).clean) ∧
    ((1 : Nat) ≠ 0 ∧ ((timed arbPoint (.fw 5 false 1 2 0)) : State).arb.cur = some (.fw 5 false (1 : Nat) (2 : Nat) (0 : Nat)) ∧
     ((timed arbPoint (.fw 4 false 0 0 0)) : State).fabricUp = true ∧ ((timed arbPoint (.fw 4 false 0 0 0)) : State).arb.phase = .timed ∧
     ((timed arbPoint (.fw 4 false 0 0 0)) : State).clean ∧
     ((timed arbPoint (.fw 4 false 0 0 0)) : State).arb.cur = some (.fw 4 false 0 (0 : Nat) (0 : Nat)) ∧
     (({ timed arbPoint (.fw 4 false 1 2 0) with arb.eph := [none, none, some 9, none] }) : State).fabricUp = true ∧
     (({ timed arbPoint (.fw 4 false 1 2 0) with arb.eph := [none, none, some 9, none] }) : State).arb.phase = .timed) ∧
    ((({ timed arbPoint (.fw 4 false 1 2 0) with arb.eph := [none, none, some 9, none] }) : State).clean ∧
     (({ timed arbPoint (.fw 4 false 1 2 0) with arb.eph := [none, none, some 9, none] }) : State).arb.cur = some (.fw 4 false 1 (2 : Nat) (0 : Nat)) ∧
     nth (({ timed arbPoint (.fw 4 false 1 2 0) with arb.eph := [none, none, some 9, none] }) : State).arb.eph (2 : Nat) none = some (9 : Nat) ∧
     ((timed s0 (.fw 6 false 0 0 0)) : State).fabricUp = true ∧ ((timed s0 (.fw 6 false 0 0 0)) : State).arb.phase = .timed ∧
     ((timed s0 (.fw 6 false 0 0 0)) : State).clean ∧ ((timed s0 (.fw 6 false 0 0 0)) : State).arb.cur = some (.fw 6 false (0 : Nat) (0 : Nat) (0 : Nat)) ∧
     ((s0.attestStatement (s0.scr areaA 32)) : List Byte).length = 128) ∧
    (((timed arbUp (.fw 7 false 0 0 1)) : State).clean ∧ (1 : Nat) ≤ 16 ∧ ((timed arbUp (.fw 14 false 0 0 0)) : State).fabricUp = true ∧
     ((timed arbUp (.fw 14 false 0 0 0)) : State).arb.phase = .timed ∧
     ((timed arbUp (.fw 14 false 0 0 0)) : State).arb.cur = some (.fw 14 false (0 : Nat) (0 : Nat) (0 : Nat)) ∧
     (({ timed s0 (.req .qKA) with org.dKA := some 2 }) : State).fabricUp = true ∧
     (({ timed s0 (.req .qKA) with org.dKA := some 2 }) : State).arb.phase = .timed ∧
     (({ timed s0 (.req .qKA) with org.dKA := some 2 }) : State).arb.cur = some (.req .qKA)) ∧
    ((({ timed s0 (.req .qKA) with org.dKA := some 2 }) : State).org.dKA = some (2 : Nat) ∧
     (({ timed s0 (.req .qID) with arb.dID := some 2 }) : State).fabricUp = true ∧
     (({ timed s0 (.req .qID) with arb.dID := some 2 }) : State).arb.phase = .timed ∧
     (({ timed s0 (.req .qID) with arb.dID := some 2 }) : State).arb.cur = some (.req .qID) ∧
     (({ timed s0 (.req .qID) with arb.dID := some 2 }) : State).arb.dID = some (2 : Nat) ∧
     WriteReaches ((waits (timed arbUp (.fw 5 false 0 0 0)) [.qKA]) : State) (.core : Port) pArb Reg.Arb.ARB_CMD ∧
     ((waits (timed arbUp (.fw 5 false 0 0 0)) [.package, .qKA]) : State).fabricUp = true ∧
     ((waits (timed arbUp (.fw 5 false 0 0 0)) [.package, .qKA]) : State).arb.cur = some (.fw (5 : Nat) false (0 : Nat) (0 : Nat) (0 : Nat))) ∧
    ((((waits (timed arbUp (.fw 5 false 0 0 0)) [.package, .qKA]) : State).arb.waiting.find? (·.preempts)).isSome = true ∧
     ((waits (timed arbUp (.fw 5 false 0 0 0)) [.package]) : State).fabricUp = true ∧
     ((waits (timed arbUp (.fw 5 false 0 0 0)) [.package]) : State).arb.cur = some (.fw (5 : Nat) false (0 : Nat) (0 : Nat) (0 : Nat)) ∧
     ((waits (timed arbUp (.fw 5 false 0 0 0)) [.package]) : State).arb.waiting.find? (·.preempts) = none ∧ ((waits s0 [.qKA]) : State).fabricUp = true ∧
     ((waits s0 [.qKA]) : State).arb.cur = none ∧ WriteReaches arbUp (.core : Port) pArb Reg.Arb.SCR_DATA ∧ arbUp.arb.phase = .idle) ∧
    ((4 * (0 : Nat) < 0x0A00 ∨ 0x1000 ≤ 4 * (0 : Nat)) ∧ ReadReaches arbUp (.core : Port) pArb ∧ arbUp.clean ∧
     WriteReaches ((arbUp.setReg pArb Reg.Arb.SCR_ADDR 0x280) : State) (.core : Port) pArb Reg.Arb.SCR_DATA ∧
     (((arbUp.setReg pArb Reg.Arb.SCR_ADDR 0x280) : State).arb.phase ≠ .idle ∨ (0x0A00 ≤ 4 * (0x280 : Nat) ∧ 4 * (0x280 : Nat) < 0x1000)) ∧
     ReadReaches ((arbUp.setReg pArb Reg.Arb.SCR_ADDR 0x280) : State) (.core : Port) pArb) := by
  iterate 10 refine ⟨by decide +kernel, ?_⟩
  decide +kernel
theorem test_hyp_FountainServesAndFails :
    ((({ s0 with ftn.st := .startup }) : State).fabricUp = true ∧ (({ s0 with ftn.st := .startup }) : State).ftn.st = .startup ∧ s0.fabricUp = true ∧
     s0.ftn.st ≠ .startup ∧ ftnUp.fabricUp = true ∧ ((.startup : HealthFail) ≠ .startup ∨ ftnUp.boot.entered = true) ∧ ftnUp.arb.phase = .random ∧
     ftnUp.arb.cur = some (.fw (5 : Nat) false (0 : Nat) (0 : Nat) (0 : Nat))) ∧
    ((({ s0 with ftn.st := .startup }) : State).boot.entered = false ∧ (({ s0 with ftn.st := .startup }) : State).boot.ftnFails < 3 ∧
     (({ s0 with boot.ftnFails := 3 }) : State).fabricUp = true ∧ (({ s0 with boot.ftnFails := 3 }) : State).boot.entered = false ∧
     3 ≤ (({ s0 with boot.ftnFails := 3 }) : State).boot.ftnFails ∧ ftnUp.ftn.st = .ready ∧ nextRequest ftnUp.ftn.waiting = some .arbour ∧
     ftnUp.arb.cur = some ((.fw 5 false 0 0 0) : ArbOp)) ∧
    ((({ ftnUp with ftn.waiting := [.arbour, .rekey] }) : State).fabricUp = true ∧
     (({ ftnUp with ftn.waiting := [.arbour, .rekey] }) : State).ftn.st = .ready ∧
     .rekey ∈ (({ ftnUp with ftn.waiting := [.arbour, .rekey] }) : State).ftn.waiting ∧
     (({ ftnUp with ftn.waiting := [.attach], cln.attach := some att }) : State).fabricUp = true ∧
     (({ ftnUp with ftn.waiting := [.attach], cln.attach := some att }) : State).ftn.st = .ready ∧
     nextRequest (({ ftnUp with ftn.waiting := [.attach], cln.attach := some att }) : State).ftn.waiting = some .attach ∧
     (({ ftnUp with ftn.waiting := [.attach], cln.attach := some att }) : State).cln.attach = some att ∧ att.qE = []) ∧
    ((({ ftnUp with ftn.waiting := [] }) : State).fabricUp = true ∧ (({ ftnUp with ftn.waiting := [] }) : State).ftn.st = .ready ∧
     (({ ftnUp with ftn.waiting := [] }) : State).ftn.waiting = [] ∧ s0.ftn.st ≠ .ready ∧ ReadReaches ftnUp (.host : Port) pFtn ∧
     ReadReaches s0 (.host : Port) pFtn ∧ WriteReaches ftnUp (.core : Port) pFtn Reg.Ftn.FTN_CMD ∧ WriteReaches s0 (.core : Port) pFtn Reg.Ftn.FTN_CMD) := by
  iterate 3 refine ⟨by decide +kernel, ?_⟩
  decide +kernel

/-! Pergola. -/

/-- Before the enable: a package accepted for profile 0, the Sundial enabled, PTR 0 locked, the check running. -/
def admUp : State :=
  { ((((s0.setReg pSdl Reg.Hdr.CTL 1).setReg pPtr0 Reg.Hdr.LOCK 1).setReg pPgl Reg.Hdr.STA 0x100).setFld pSdl Reg.Sdl.SDL_FMAX 6 0 60) with
    boot.accepted := some ⟨0, []⟩ }
/-- A dispatch that may come: entry 5 due, first of its slot or a later one. -/
def dueUp : State := { s0 with pgl.due := [5, 7], pgl.sched := [(20, 0x19001), (21, 0x40)], sdl.slotAt := some 0 }
def dueLater : State := { dueUp with pgl.open5 := true }
def run5 : Run := ⟨5, 100, 100, [], [], [], [], []⟩
def onPgl (s : State) : State := s.setReg pPgl Reg.Hdr.CTL 1
def enb (s : State) (a : Word) : State := { s.setReg pPgl Reg.Pgl.SCH_ADDR a with pgl.everEnabled := true }
def cap7 : Capture := { dfn := 7, base := 0, len := 132, pre := 1, streams := [0], heads := [some 5], vis := [some 5], start := 0, left := [0], head0 := 0 }
def capUp : State := { s0 with pav.caps := [cap7], pav.starts := 1, ptr.sv := [(0, { s0.stream 0 with fixed := some 5, head := some 5 })] }

theorem test_hyp_PergolaPromiseAndRuns :
    (WriteReaches s0 (.core : Port) pPgl Reg.Hdr.CTL ∧ s0.pglOn = false ∧ s0.blv.halted = false ∧ s0.fencedPage pPgl = false ∧
     WriteReaches (({ s0 with blv.halted := true }) : State) (.core : Port) pPgl Reg.Hdr.CTL ∧
     ((({ s0 with blv.halted := true }) : State).blv.halted = true ∨ (({ s0 with blv.halted := true }) : State).fencedPage pPgl = true) ∧
     WriteReaches ((onPgl s0) : State) (.core : Port) pPgl Reg.Hdr.CTL ∧ ((onPgl s0) : State).pglOn = true) ∧
    (admUp.fabricUp = true ∧ admUp.flag pPgl Reg.Hdr.STA 8 = true ∧ ((tk admUp) : State).causeBefore = none ∧
     ((tk admUp) : State).admFigures.causeAfter = none ∧ ((r0 pPgl Reg.Hdr.STA 0x100) : State).fabricUp = true ∧
     ((r0 pPgl Reg.Hdr.STA 0x100) : State).flag pPgl Reg.Hdr.STA 8 = true ∧ (((tk (r0 pPgl Reg.Hdr.STA 0x100)) : State).causeBefore).isSome = true ∧
     ((admUp.setFld pPgl (Reg.Pgl.ICLS 0) 15 0 0xFFFF) : State).fabricUp = true) ∧
    (((admUp.setFld pPgl (Reg.Pgl.ICLS 0) 15 0 0xFFFF) : State).flag pPgl Reg.Hdr.STA 8 = true ∧
     ((tk (admUp.setFld pPgl (Reg.Pgl.ICLS 0) 15 0 0xFFFF)) : State).causeBefore = none ∧
     (((tk (admUp.setFld pPgl (Reg.Pgl.ICLS 0) 15 0 0xFFFF)) : State).admFigures.causeAfter).isSome = true ∧ s0.fabricUp = true ∧
     s0.flag pPgl Reg.Hdr.STA 8 = false ∧ dueUp.fabricUp = true ∧ dueUp.sdl.slotAt = some (0 : Nat) ∧
     (({ dueLater with pgl.run := some run5 }) : State).fabricUp = true) ∧
    ((({ dueLater with pgl.run := some run5 }) : State).sdl.slotAt = some (0 : Nat) ∧ dueUp.pgl.open5 = false ∧ dueLater.fabricUp = true ∧
     (dueLater.pgl.open5 = true ∨ dueLater.sdl.slotAt = none) ∧ (({ s0 with pgl.run := some run5 }) : State).fabricUp = true ∧
     (({ s0 with pgl.run := some run5 }) : State).pgl.run = some run5 ∧ (({ s0 with pgl.run := some run5 }) : State).budgetSpent run5 = true ∧
     (({ s0 with pgl.run := some { run5 with charged := 5 } }) : State).fabricUp = true) ∧
    ((({ s0 with pgl.run := some { run5 with charged := 5 } }) : State).pgl.run = some (({ run5 with charged := 5 }) : Run) ∧
     (({ s0 with pgl.run := some { run5 with charged := 5 } }) : State).budgetSpent (({ run5 with charged := 5 }) : Run) = false ∧ s0.pgl.run = none ∧
     WriteReaches ((r0 pPgl Reg.Pgl.SCH_ADDR 5) : State) (.core : Port) pPgl Reg.Pgl.SCH_DATA ∧ (.core : Port) = .core ∧ (0 : Nat) < 2 ∧
     ((r0 pPgl Reg.Pgl.SCH_ADDR 5) : State).pgl.everEnabled = false ∧ WriteReaches ((enb dueUp 5) : State) (.core : Port) pPgl Reg.Pgl.SCH_DATA) ∧
    (((enb dueUp 5) : State).pgl.everEnabled = true ∧ (0 : Nat) = 0 ∧ bitAt (((enb dueUp 5) : State).sch (5 : Nat) 0) 0 = true ∧
     (5 : Nat) ∉ ((enb dueUp 5) : State).pgl.clearing ∧ (0x19000 : Word) &&& schMask 0 = putBits (((enb dueUp 5) : State).sch (5 : Nat) 0) 0 0 0 ∧
     ((0 : Nat) = 1 ∨ ((0 : Nat) = 0 ∧ (0x18000 : Word) &&& schMask 0 ≠ putBits (((enb dueUp 5) : State).sch (5 : Nat) 0) 0 0 0)) ∧
     WriteReaches (({ s0 with gate.cur := [(indexOf pPgl, ⟨511, 511⟩)] }) : State) (.host : Port) pPgl Reg.Pgl.SCH_DATA ∧ (.host : Port) ≠ .core) ∧
    (WriteReaches ((enb dueUp 0x20005) : State) (.core : Port) pPgl Reg.Pgl.SCH_DATA ∧ 2 ≤ (2 : Nat) ∧
     ReadReaches (({ s0 with pgl.log := [⟨5, 1, false, 9⟩, ⟨6, 1, false, 9⟩] }) : State) (.core : Port) pPgl ∧
     ReadReaches (({ s0 with pav.traps := [{ code := 3, multi := true, preempt := false, lost := false, entry := 5, bundle := 4, mslot := 2, slot := 9, tval := 7 }] }) : State) (.core : Port) pPav ∧
     ReadReaches (({ s0 with pav.evq := [{ event := 3, entry := 5, stale := true, lost := false, record := false, value := 7, slot := 9, time := 5000000000 }] }) : State) (.core : Port) pPav ∧
     capUp.fabricUp = true ∧ capUp.pav.caps.find? (fun q => q.dfn = (7 : Fin 8).val) = some cap7 ∧ cap7.left.find? (capUp.capReady cap7) = some (0 : Nat)) ∧
    ((capUp.start.background pCcp 2).1 = true ∧ ((onPgl capUp) : State).fabricUp = true ∧
     ((onPgl capUp) : State).pav.caps.find? (fun q => q.dfn = (7 : Fin 8).val) = some cap7 ∧
     cap7.left.find? (((onPgl capUp) : State).capReady cap7) = some (0 : Nat) ∧ (((onPgl capUp) : State).start.background pCcp 2).1 = false ∧
     (capUp.pav.caps.find? (fun q => q.dfn = (6 : Fin 8).val)).bind (fun q => q.left.find? (capUp.capReady q)) = none ∧
     ReadReaches ((r0 pPav Reg.Pav.CTX_ADDR 0xFFFFF) : State) (.core : Port) pPav ∧ ((r0 pPav Reg.Pav.CTX_ADDR 0xFFFFF) : State).clean) ∧
    (((.core : Port) ≠ .core ∨ ((r0 pPav Reg.Pav.CTX_ADDR 0xFFFFF) : State).ctlHeld = false) ∧
     ReadReaches (({ dueUp with pgl.stall := dueUp.stallLimit }) : State) (.core : Port) pPav ∧
     (({ dueUp with pgl.stall := dueUp.stallLimit }) : State).ctlHeld = true ∧ WriteReaches s0 (.core : Port) pPav Reg.Pav.CTX_DATA ∧
     s0.pavOpen (.core : Port) = true ∧ WriteReaches ((r0 pPav Reg.Hdr.LOCK 1) : State) (.core : Port) pPav Reg.Pav.CTX_DATA ∧
     ((r0 pPav Reg.Hdr.LOCK 1) : State).pavOpen (.core : Port) = false) := by
  iterate 8 refine ⟨by decide +kernel, ?_⟩
  decide +kernel

/-! Streams. -/

/-- The Parterre enabled with format slot 0 for EtherType 0x88B8, whose first steps are the ones given; GOOSE block 0 and stream 0 in use. -/
def walkUp (st : List Nat) : State :=
  { (s0.setReg pPtr0 Reg.Hdr.CTL 1).setReg pPtr0 (Reg.Ptr0.FMT_MATCH 0) 0x88B8 with
    mem.table := memWrite zeroOctet [] (stepOffset 0 0) (st.flatMap (natOctets 8)), ptr.cfg2 := [(0, 1)], ptr.cfg1 := [(0, 1), (1, 4000), (5, 0xFFFFFF)] }
/-- A frame of that EtherType in pipeline 0, with or without its receive timestamp agreed. -/
def gFrame : List Byte := zeros 12 ++ [0x88, 0xB8] ++ zeros 46
def pin : ParseIn := { port := 0, octets := gFrame, ts := 0, dup := none, agreed := none, late := false }
def piped (s : State) (p : ParseIn) : State := { s with prm.pipe0 := [p] }
/-- Steps that accept as GOOSE, and that accept an SV record of one value. -/
def stGoose : List Nat := [2 ^ 32]
def gRec : GooseRecord := Walk.start.gooseRecord
/-- The state the frame leaves its pipeline in, and after its walk. -/
def tg (s : State) (p : ParseIn) : State := (tk s).unqueued false p
def wk (s : State) (p : ParseIn) : WalkEnd × Walk × State := (tg s p).walk gFrame 0
def gv (s : State) (p : ParseIn) (k : Nat) : Gathered × State := (wk s p).2.2.gather gFrame 0 k (wk s p).2.1
def rejUp : State := piped (walkUp [7 * 2 ^ 61]) pin
def fwdUp : State := piped (walkUp [2 ^ 33]) pin
def goUp (p : ParseIn) : State := piped (walkUp stGoose) p
/-- The Pergola enabled: no class has a budget. -/
def broke : State := (goUp pin).setReg pPgl Reg.Hdr.CTL 1
def tagUpO : State := { goUp pin with ptr.cfg2 := [(0, 1), (2, 0x300)] }
/-- A frame that waits for its tag check under the key of slot 0. -/
def wait (m : Matched) (good : Bool) (d : Option (Nat × Nat × Nat)) : TagWait :=
  ⟨false, [m], ⟨if good then some (tagOver true (zeros 16) (zeros 12) [] 8) else none, some 1, zeros 12, []⟩, 0, gFrame, d, some 7⟩
def chk (w : TagWait) : State :=
  { walkUp stGoose with
    org.slots := [(0, ⟨some ⟨1, 15, 1, 0, zeros 16⟩, none, false, none, false, none⟩)], ptr.cfg2 := [(0, 1), (2, 0x300)]
    ptr.cfg1 := [(0, 1), (1, 0x600000 + 4000), (5, 0xFFFFFF)], ptr.tagWait := [w] }
def chkT (w : TagWait) : State := { tk (chk w) with ptr.tagWait := [] }
def wG : TagWait := wait (.goose 0 gRec) true none
def wF : TagWait := wait (.goose 0 gRec) false none
def wD : TagWait := wait (.goose 0 gRec) true (some (3, 5, 9))
/-- The copy of the pair was entered before. -/
def seen (s : State) : State := (s.setFld pPrm Reg.Prm.DD_AGE 11 0 400).dupEnter 3 5 9 0
def held0 (s : State) : State := { s with ptr.goose := [(0, { s0.block 0 with recvd := true, live.stale := false, deadline := 70 })] }
def pubUp : State := { s0 with ptr.cfg3 := [(0, 1), (2 ^ 20, 1)], ptr.goosePub := [(0, { s0.goosePub 0 with due := some 5 })], ptr.svPub := [(0, ⟨1, [], 0⟩)] }
def fr (i : Nat) : PubFrame := { sv := false, index := i, stNum := 3, sqNum := 0, octets := gFrame, simOctets := gFrame, made := 0 }
def handUp (i : Nat) : State := { netUp with ptr.built := [fr i, fr 9], ptr.goosePub := [(i, { s0.goosePub 0 with stNum := 3 })], ptr.cfg3 := [(32 + 4, 0x2000)] }
def reserved : State := { handUp 0 with prm.queues := [(7, [⟨List.replicate 1048560 0, .reserve, none, false, false, 0⟩])] }
theorem reserveFree_of {s : State} {n : Nat} (h : s.bufferUsed .reserve = n) : s.reserveFree = 1048576 - n := by
  unfold State.reserveFree
  rw [h]
theorem bufferUsed_one {s : State} {o : List Byte} (h : s.prm.queues = [(7, [⟨o, .reserve, none, false, false, 0⟩])]) :
    s.bufferUsed .reserve = o.length := by
  unfold State.bufferUsed
  rw [h]
  simp [heldIn]
theorem reserved_free : reserved.reserveFree = 16 :=
  reserveFree_of ((bufferUsed_one (by simp only [reserved])).trans (List.length_replicate (n := 1048560) (a := (0 : Byte))))
theorem reserved_short : reserved.reserveFree < (reserved.copyFor (fr 0) 0).length := by
  rw [reserved_free]
  decide +kernel

theorem test_hyp_StreamCommandsOfTheParterre :
    (s0.fabricUp = true ∧ nextIn (if false then s0.prm.pipe1 else s0.prm.pipe0) = none ∧ ((piped s0 pin) : State).fabricUp = true ∧
     (nextIn (if false then ((piped s0 pin) : State).prm.pipe1 else ((piped s0 pin) : State).prm.pipe0)).isSome = true ∧ rejUp.fabricUp = true ∧
     rejUp.clean ∧ nextIn (if false then rejUp.prm.pipe1 else rejUp.prm.pipe0) = some pin ∧ ((tg rejUp pin) : State).walking = true) ∧
    (((tg rejUp pin) : State).formatSlot pin.octets = some (0 : Nat) ∧ isSealed pin.octets = false ∧
     (((tg rejUp pin) : State).walk pin.octets (0 : Nat)).1 = .reject (0 : Nat) fmtBad ∧ fwdUp.fabricUp = true ∧ fwdUp.clean ∧
     nextIn (if false then fwdUp.prm.pipe1 else fwdUp.prm.pipe0) = some pin ∧ ((tg fwdUp pin) : State).walking = true ∧
     ((tg fwdUp pin) : State).formatSlot pin.octets = some (0 : Nat)) ∧
    ((((tg fwdUp pin) : State).walk pin.octets (0 : Nat)).1 = .accept (2 : Nat) ∧ 2 ≤ (2 : Nat) ∧ broke.fabricUp = true ∧ broke.clean ∧
     nextIn (if false then broke.prm.pipe1 else broke.prm.pipe0) = some pin ∧ ((tg broke pin) : State).walking = true ∧
     ((tg broke pin) : State).formatSlot pin.octets = some (0 : Nat) ∧ (((tg broke pin) : State).walk pin.octets (0 : Nat)).1 = .accept (1 : Nat)) ∧
    ((1 : Nat) < 2 ∧ pin.late = false ∧ (((gv broke pin 1).2 : State).chargeIngest ((gv broke pin 1).1 : Gathered).1).1 = false ∧
     ((goUp pin) : State).fabricUp = true ∧ ((goUp pin) : State).clean ∧
     nextIn (if false then ((goUp pin) : State).prm.pipe1 else ((goUp pin) : State).prm.pipe0) = some pin ∧ ((tg (goUp pin) pin) : State).walking = true ∧
     ((tg (goUp pin) pin) : State).formatSlot pin.octets = some (0 : Nat)) ∧
    ((((tg (goUp pin) pin) : State).walk pin.octets (0 : Nat)).1 = .accept (1 : Nat) ∧
     (((wk (goUp pin) pin).2.2 : State).gather pin.octets (0 : Nat) (1 : Nat) ((wk (goUp pin) pin).2.1 : Walk)).1 = ([(0 : Nat)], [((Matched.goose 0 gRec) : Matched)]) ∧
     (pin.late = true ∨ (((gv (goUp pin) pin 1).2 : State).chargeIngest [(0 : Nat)]).1 = true) ∧ ((gv (goUp pin) pin 1).2 : State).exchanging = false ∧
     tagUpO.fabricUp = true ∧ tagUpO.clean ∧ nextIn (if false then tagUpO.prm.pipe1 else tagUpO.prm.pipe0) = some pin ∧ ((tg tagUpO pin) : State).walking = true) ∧
    (((tg tagUpO pin) : State).formatSlot pin.octets = some (0 : Nat) ∧ (((tg tagUpO pin) : State).walk pin.octets (0 : Nat)).1 = .accept (1 : Nat) ∧
     (((wk tagUpO pin).2.2 : State).gather pin.octets (0 : Nat) (1 : Nat) ((wk tagUpO pin).2.1 : Walk)).1 = ([(0 : Nat)], [((Matched.goose 0 gRec) : Matched)]) ∧
     (pin.late = true ∨ (((gv tagUpO pin 1).2 : State).chargeIngest [(0 : Nat)]).1 = true) ∧ ((gv tagUpO pin 1).2 : State).exchanging = false ∧
     ((gv tagUpO pin 1).2 : State).wantsTag ((Matched.goose 0 gRec) : Matched) = true ∧ pin.agreed = none ∧ s0.ptr.tagWait[(0 : Nat)]? = none) ∧
    (((chk wG) : State).fabricUp = true ∧ ((chk wG) : State).ptr.tagWait[(0 : Nat)]? = some wG ∧ wG.recs = [((.goose 0 gRec) : Matched)] ∧
     (((chkT wG) : State).tagCheck wG ((.goose 0 gRec) : Matched)).1 = .ok ∧ wG.dup = none ∧
     ((((chkT wG).tagCheck wG (.goose 0 gRec)).2 : State).exchanging = false ∨ wG.agreed.isSome = true) ∧ ((seen (chk wD)) : State).fabricUp = true ∧
     ((seen (chk wD)) : State).ptr.tagWait[(0 : Nat)]? = some wD) ∧
    (wD.recs = [((.goose 0 gRec) : Matched)] ∧ (((seen (chkT wD)) : State).tagCheck wD ((.goose 0 gRec) : Matched)).1 = .ok ∧
     wD.dup.any (fun d => ((((seen (chkT wD)).tagCheck wD (.goose 0 gRec)).2 : State).dupEntry d.1 d.2.1 d.2.2).isSome) = true ∧
     ((chk wF) : State).fabricUp = true ∧ ((chk wF) : State).ptr.tagWait[(0 : Nat)]? = some wF ∧ wF.recs = [((.goose 0 gRec) : Matched)] ∧
     (((chkT wF) : State).tagCheck wF ((.goose 0 gRec) : Matched)).1 ≠ .ok ∧ ((held0 (walkUp stGoose)) : State).fabricUp = true) ∧
    ((((held0 (walkUp stGoose)) : State).block (0 : Fin 8192)).recvd = true ∧
     (((held0 (walkUp stGoose)) : State).block (0 : Fin 8192)).live.stale = false ∧
     bitAt (((held0 (walkUp stGoose)) : State).gooseCfg (0 : Fin 8192) 0) 0 = true ∧ ((held0 (walkUp stGoose)) : State).ptr.fixWait = false ∧
     ((held0 (walkUp stGoose)) : State).ptr.gooseNotes = [] ∧ (({ held0 (walkUp stGoose) with ptr.fixWait := true }) : State).fabricUp = true ∧
     ((({ held0 (walkUp stGoose) with ptr.fixWait := true }) : State).block (0 : Fin 8192)).recvd = true ∧
     ((({ held0 (walkUp stGoose) with ptr.fixWait := true }) : State).block (0 : Fin 8192)).live.stale = false) ∧
    (bitAt ((({ held0 (walkUp stGoose) with ptr.fixWait := true }) : State).gooseCfg (0 : Fin 8192) 0) 0 = true ∧
     (({ held0 (walkUp stGoose) with ptr.fixWait := true }) : State).ptr.fixWait = true ∧
     ((0 : Fin 8192).val, true) ∉ (({ held0 (walkUp stGoose) with ptr.fixWait := true }) : State).ptr.gooseNotes ∧
     ((s0.block (0 : Fin 8192)).recvd = false ∨ (s0.block (0 : Fin 8192)).live.stale = true ∨ bitAt (s0.gooseCfg (0 : Fin 8192) 0) 0 = false) ∧
     WriteReaches ((r0 pPtr0 Reg.Ptr0.FMT_ADDR 0x7C3) : State) (.core : Port) pPtr0 Reg.Ptr0.FMT_DATA_HI ∧ (.core : Port) = .core ∧
     ((r0 pPtr0 Reg.Ptr0.FMT_ADDR 0x7C3) : State).fmtOpen = true ∧
     WriteReaches ((r0 pPtr0 Reg.Hdr.LOCK 1) : State) (.core : Port) pPtr0 Reg.Ptr0.FMT_DATA_HI) ∧
    (((.core : Port) ≠ .core ∨ ((r0 pPtr0 Reg.Hdr.LOCK 1) : State).fmtOpen = false) ∧
     WriteReaches ((r0 pPtr1 Reg.Ptr1.ID_ADDR 7) : State) (.core : Port) pPtr1 Reg.Ptr1.ID_DATA_HI ∧ ReadReaches s0 (.core : Port) pPtr2 ∧
     ReadReaches s0 (.core : Port) pPtr1 ∧ pubUp.fabricUp = true ∧ ((pubUp.goosePub 0) : GoosePub).due = some (5 : Nat) ∧ pubUp.blv.halted = false ∧
     pubUp.pubOn false (0 : Fin 1024) = true) ∧
    (((pubUp.goosePub (1 : Fin 1024)).due = none ∨ pubUp.blv.halted = true ∨ pubUp.pubOn false (1 : Fin 1024) = false) ∧
     pubUp.svPub (0 : Fin 256) = some (⟨1, [], 0⟩ : SvPub) ∧ pubUp.pubOn true (0 : Fin 256) = true ∧
     (pubUp.svPub (1 : Fin 256) = none ∨ pubUp.blv.halted = true ∨ pubUp.pubOn true (1 : Fin 256) = false) ∧ s0.ptr.built = [] ∧
     ((handUp 0) : State).fabricUp = true ∧ ((handUp 0) : State).ptr.built = ((fr 0) : PubFrame) :: ([fr 9] : List PubFrame) ∧
     ((handUp 0) : State).withheld = false) ∧
    (((handUp 0) : State).blv.halted = false ∧ ((handUp 0) : State).clean ∧
     bitAt (((handUp 0) : State).pubCfg ((fr 0) : PubFrame).sv ((fr 0) : PubFrame).index 4) 13 = false ∧ ((handUp 0) : State).portUp (0 : Nat) = true ∧
     (((handUp 0) : State).copyFor ((fr 0) : PubFrame) (0 : Nat)).length ≤ ((handUp 0) : State).reserveFree ∧ reserved.fabricUp = true ∧
     reserved.ptr.built = ((fr 0) : PubFrame) :: ([fr 9] : List PubFrame) ∧ reserved.withheld = false) ∧
    (reserved.blv.halted = false ∧ reserved.clean ∧ bitAt (reserved.pubCfg ((fr 0) : PubFrame).sv ((fr 0) : PubFrame).index 4) 13 = false ∧
     reserved.portUp (0 : Nat) = true ∧ (reserved.copyFor ((fr 0) : PubFrame) (0 : Nat)).length ≤ reserved.poolFree ∧
     (({ s0 with ptr.built := [fr 0] }) : State).fabricUp = true ∧
     (({ s0 with ptr.built := [fr 0] }) : State).ptr.built = ((fr 0) : PubFrame) :: ([] : List PubFrame) ∧
     (({ s0 with ptr.built := [fr 0] }) : State).withheld = false) ∧
    ((({ s0 with ptr.built := [fr 0] }) : State).blv.halted = false ∧ (({ s0 with ptr.built := [fr 0] }) : State).clean ∧
     bitAt ((({ s0 with ptr.built := [fr 0] }) : State).pubCfg ((fr 0) : PubFrame).sv ((fr 0) : PubFrame).index 4) 13 = false ∧
     (({ s0 with ptr.built := [fr 0] }) : State).portUp (0 : Nat) = false) ∧
    (reserved.reserveFree < (reserved.copyFor ((fr 0) : PubFrame) (0 : Nat)).length) := by
  iterate 15 refine ⟨by decide +kernel, ?_⟩
  exact reserved_short

/-! The pair. -/

/-- An identity certificate of DEVICE_ID zero, ESTATE 0, twin A, signed under scalar 1. -/
def certB : List Byte := ascii "BNLI" ++ [1, 0, 0, 0] ++ zeros 24 ++ zeros 64 ++ pubG
def certA : List Byte := certB ++ natOctetsBE 64
  4260531635778674157409802389126950721792302607421963258133790195781380542157253855737734266568447405452243319435102620318586318252812861337555138916816072
/-- The certificate at the base of the MRAM, PAIR_EN, addresses and the promise in force. -/
def certUp : State :=
  { (((s0.setReg pCln Reg.Cln.CLN_CFG 1).setReg pCln Reg.Cln.CERT_ADDR 0x10000000).setReg pPgl Reg.Hdr.STA 0x200) with
    otp.row := otpOf 0, mem.mram := memWrite (fun _ => 0xFF) [] 0 certA, cln.latchMac := some 1 }
/-- An attach in ATTACH_ID as joiner with a peer's certificate and a proof of it. -/
def peerCert : List Byte :=
  zeros 32 ++ natOctetsBE 64 0x88C265BCC608E240E12E9DB3CE329D8A4151FF694A9A769D759C383A4FF761AE3BDB9B5468A86A185033B1EEE95E700CFEB344FA6054E2689A2DD110AD089992 ++ zeros 128
def proofSt : List Byte := ascii "BNLA" ++ [1, 0, 0, 0] ++ zeros 88 ++ sha256 (ascii "BNL-CA")
def proofSig : List Byte :=
  natOctetsBE 64 0x580D8D7898AA22763326EA71122356BEDA5F887A529B7DCC7F6913DA9BBAE714580D8D7898AA22763326EA71122356BEDA5F887A529B7DCC7F6913DA9BBAE714
def attRun : AttachRun := ⟨[], [], true, true, peerCert, [], [], .wait⟩
def attUp (a : AttachRun) : State := { s0 with cln.st := .attachId, cln.attach := some a }
/-- In a state, the side 0 heartbeat present, every role. -/
def twinIn (st : PairState) : State := { (s0.sideUp 0 true).setReg pCln Reg.Cln.ROLE_STA 31 with cln.st := st, cln.session := true }
def twinUp : State := twinIn .inStep
def noFtn (s : State) : State := { s with ftn.st := .failed }
/-- Twin B in ATTACH_ID with a run, the certificate of twin A being good. -/
def attB (a : AttachRun) : State := { certUp with cln.st := .attachId, cln.attach := some a }.setFlag pLdg Reg.Ldg.BOOT_STA 6 true
def attFresh : AttachRun := { attRun with peerCert := [], sent := false }
def attSent : AttachRun := { attRun with peerCert := [], attested := false }
/-- A joiner that receives the bulk. -/
def joinUp : State := twinIn .attachXfer
/-- A GOOSE frame's digest record made here: block 0, stNum 1, sqNum 0, placed at 1000. -/
def ownRec : DigestRec := ⟨true, 0, 65536, 900, 1000, zeros 16, [1, 2, 3], 1, false, false⟩
/-- What the peer tells of that frame, placed there at the instant given. -/
def peerDig (placed : Nat) : PeerDigest := ⟨true, 0, 65536, 901, placed, List.replicate 16 1⟩
def peerRec (placed : Nat) : DigestRec := ⟨true, 0, 65536, 901, placed, List.replicate 16 1, [], 0, false, false⟩
/-- A twin in step that waits for the peer's match of that record. -/
def digUp : State := { twinUp with cln.records := [ownRec], ptr.goose := [(0, { s0.block 0 with recvd := true, stNum := 1 })] }
/-- A frame of the pair's own address, which comes from ESTATE. -/
def pairFrame : List Byte := zeros 6 ++ [0x0A, 0x64, 0, 7, 0, 0]
/-- Port 0 alone of pair 0 on this device, with link. -/
def splitUp : State := { (netUp.setReg pPrm (Reg.Prm.PAIR_CFG 0) 0x80040000).setReg pCln Reg.Cln.ESTATE 0x10007 with cln.st := .inStep, cln.session := true }
/-- Another device's record of the slot. -/
def otherRec : List Word := [9, 0, 0, 0, 0, 0, 0, 0]
def headed : State := { joinUp with ptr.sv := [(0, { s0.stream 0 with head := some 700 })], cln.heads0 := [(0, 690)] }
def proxyFull : State := { splitUp.setReg pCln Reg.Cln.ROLE_STA 2 with prm.proxy := (List.range 512).map (fun i => (i, ⟨i + 1, 1, 0, 5⟩)) }
def sameRec : DigestRec := { ownRec with digest := twinUp.digestOf [1, 2, 3] }
def splitRec : State := { twinUp with cln.peerRec := some otherRec, sdl.slotAt := some 0 }
def snapped : State := { twinUp with cln.seqSnap := [(5, 31, 65535)] }
/-- In step as the KEY holder with one used slot, and the state key of the session. -/
def keysUp : State :=
  { twinUp with
    org.slots := [(7, ⟨some key1, some key1, false, none, false, some 99⟩)], cln.keys := [[], [], [], List.replicate 32 7] }
def waitKey : State := { keysUp with cln.keyWait := some 3, org.keyCmd := some ⟨3, 1, false, 7, [], [], []⟩ }
/-- The signature of the certificate, checked once. -/
theorem certA_verifies : ecdsaVerify (certSigner certA) (sha256 (certA.take 0xA0)) (certA.drop 0xA0) = true := by decide +kernel
theorem certA_signed (s : State) (h : s.ownerHash = sha256 pubG) : s.certSigned certA = true := by
  have e : certA.length = 224 ∧ (certA.take 8 == ascii "BNLI" ++ [1, 0, 0, 0]) = true ∧ (sha256 (certSigner certA) == sha256 pubG) = true := by decide +kernel
  unfold State.certSigned
  rw [h, e.2.1, e.2.2, certA_verifies, e.1]
  rfl
theorem certUp_checks : certUp.heard.checkCert.1 = (true, certA) := by
  have e : certUp.heard.ownCert.1 = certA ∧ certUp.heard.ownCert.2.ownerHash = sha256 pubG ∧
      (certDevice certA == certUp.heard.ownCert.2.deviceId) = true ∧ (certTwin certA == b2n certUp.heard.ownCert.2.twinB) = true := by decide +kernel
  unfold State.checkCert
  simp only [e.1, certA_signed _ e.2.1, e.2.2.1, e.2.2.2, Bool.and_self]
theorem proxyFull_free : proxyFull.proxyFree = none := by
  unfold State.proxyFree
  rw [List.find?_eq_none]
  intro i hi
  have h : proxyFull.prm.proxy = (List.range 512).map (fun i => (i, ⟨i + 1, 1, 0, 5⟩)) := by simp only [proxyFull]
  rw [h]
  simpa using hi
theorem proxyFull_none : (proxyFull.proxySeq (srcMac (zeros 12)) 1 0).1 = none := by
  have h : proxyFull.prm.proxy.find? (fun e => e.2.mac = srcMac (zeros 12) ∧ e.2.pair = 0) = none := by decide +kernel
  unfold State.proxySeq
  rw [h, proxyFull_free]
/-- A joiner, and a twin in step, whose session has that state key. -/
def joinKey : State := { joinUp with cln.keys := [[], [], [], kek1] }
def stepKey : State := { twinUp with cln.keys := [[], [], [], kek1] }

theorem test_hyp_TwinsAttachAndPart :
    (WriteReaches certUp (.core : Port) pCln Reg.Hdr.CTL ∧ certUp.fencedPage pCln = false ∧ certUp.enabled pCln = false ∧
     certUp.flag pCln Reg.Cln.CLN_CFG 0 = true ∧ (0 : Nat) = 0 ∧ WriteReaches ((r0 pCln Reg.Cln.CLN_CFG 1) : State) (.core : Port) pCln Reg.Hdr.CTL ∧
     ((r0 pCln Reg.Cln.CLN_CFG 1) : State).fencedPage pCln = false ∧ ((r0 pCln Reg.Cln.CLN_CFG 1) : State).enabled pCln = false) ∧
    (((r0 pCln Reg.Cln.CLN_CFG 1) : State).flag pCln Reg.Cln.CLN_CFG 0 = true ∧
     ((r0 pCln Reg.Cln.CLN_CFG 1) : State).heard.checkCert.1 = (false, ([] : List Byte)) ∧ (1 : Nat) ≠ 0 ∧
     WriteReaches s0 (.core : Port) pCln Reg.Hdr.CTL ∧ (s0.fencedPage pCln = true ∨ s0.enabled pCln = true ∨ s0.flag pCln Reg.Cln.CLN_CFG 0 = false) ∧
     (({ s0 with pwr.refBLost := true }) : State).fabricUp = true ∧ (({ s0 with pwr.refBLost := true }) : State).sideAble (1 : Fin 2) = false ∧
     (({ s0 with cln.st := .wait }) : State).fabricUp = true) ∧
    ((({ s0 with cln.st := .wait }) : State).sideAble (1 : Fin 2) = true ∧
     ((({ s0 with cln.st := .wait }) : State).cln.st = .wait ∨ (({ s0 with cln.st := .wait }) : State).cln.st = .solo ∨ (({ s0 with cln.st := .wait }) : State).cln.st = .withdrawn) ∧
     (({ s0 with cln.st := .wait }) : State).ftn.st ≠ .failed ∧ ((noFtn { s0 with cln.st := .withdrawn }) : State).fabricUp = true ∧
     ((noFtn { s0 with cln.st := .withdrawn }) : State).sideAble (1 : Fin 2) = true ∧
     (((noFtn { s0 with cln.st := .withdrawn }) : State).cln.st = .wait ∨ ((noFtn { s0 with cln.st := .withdrawn }) : State).cln.st = .solo ∨ ((noFtn { s0 with cln.st := .withdrawn }) : State).cln.st = .withdrawn) ∧
     ((noFtn { s0 with cln.st := .withdrawn }) : State).ftn.st = .failed ∧ twinUp.fabricUp = true) ∧
    (twinUp.sideAble (1 : Fin 2) = true ∧ (twinUp.cln.st = .off ∨ twinUp.cln.st = .attachId ∨ twinUp.cln.st = .attachXfer ∨ twinUp.cln.st = .inStep) ∧
     (({ s0 with cln.st := .wait }) : State).cln.st = .wait ∧ (({ s0 with cln.st := .wait }) : State).anyHb = false ∧ s0.fabricUp = true ∧
     (s0.cln.st ≠ .wait ∨ s0.anyHb = true) ∧ ((attUp { attRun with peerCert := [] }) : State).fabricUp = true ∧
     ((attUp { attRun with peerCert := [] }) : State).cln.st = .attachId) ∧
    (((attUp { attRun with peerCert := [] }) : State).cln.attach = some ({ attRun with peerCert := [] } : AttachRun) ∧
     ((attUp { attRun with peerCert := [] }) : State).refusalOf ({ attRun with peerCert := [] } : AttachRun) ((.hello [] [] []) : AttachMsg) = some (6 : Nat) ∧
     ((attB attFresh) : State).fabricUp = true ∧ ((attB attFresh) : State).cln.st = .attachId ∧ ((attB attFresh) : State).cln.attach = some attFresh ∧
     attFresh.peerCert = [] ∧ onCurve (pointOf pubG).1 (pointOf pubG).2 = true ∧ pubG.length = 64) ∧
    (((zeros 32) : List Byte).length = 32 ∧ certEstate certA = ((attB attFresh) : State).fld pCln Reg.Cln.ESTATE 15 0 ∧
     certTwin certA ≠ b2n ((attB attFresh) : State).twinB ∧ attFresh.sent = false ∧ ((attB attSent) : State).fabricUp = true ∧
     ((attB attSent) : State).cln.st = .attachId ∧ ((attB attSent) : State).cln.attach = some attSent ∧ attSent.peerCert = []) ∧
    (certEstate certA = ((attB attSent) : State).fld pCln Reg.Cln.ESTATE 15 0 ∧ certTwin certA ≠ b2n ((attB attSent) : State).twinB ∧ attSent.sent = true ∧
     attSent.attested = false ∧ ((attUp attRun) : State).fabricUp = true ∧ ((attUp attRun) : State).cln.st = .attachId ∧
     ((attUp attRun) : State).cln.attach = some attRun ∧ attRun.attested = true) ∧
    (((attUp attRun) : State).cln.session = false ∧ proofOk attRun proofSt proofSig = true ∧
     (proofSt.drop 64).take 32 = ((attUp attRun) : State).octetRegs pLdg (Reg.Ldg.CFG_HASH 0) 8 ∧
     (({ attUp attRun with cln.session := true }) : State).fabricUp = true ∧ (({ attUp attRun with cln.session := true }) : State).cln.st = .attachId ∧
     (({ attUp attRun with cln.session := true }) : State).cln.attach = some attRun ∧
     (({ attUp attRun with cln.session := true }) : State).cln.session = true ∧
     (s0.cln.st ≠ .attachId ∨ s0.cln.attach.all (fun a => match ((.proof [] []) : AttachMsg) with | .hello _ _ _ => !a.peerCert.isEmpty | .proof _ _ => !a.attested || s0.cln.session | .items _ _ _ _ _ => !s0.cln.session) = true)) ∧
    (WriteReaches s0 (.core : Port) pCln Reg.Cln.CERT_ADDR ∧ s0.locked pCln = false ∧ s0.arb.cur = none ∧
     WriteReaches (({ s0 with arb.cur := some (.fw 5 false 0 0 0), arb.phase := .timed }) : State) (.core : Port) pCln Reg.Cln.CERT_ADDR ∧
     (({ s0 with arb.cur := some (.fw 5 false 0 0 0), arb.phase := .timed }) : State).locked pCln = false ∧
     (({ s0 with arb.cur := some (.fw 5 false 0 0 0), arb.phase := .timed }) : State).arb.cur ≠ none ∧
     WriteReaches ((r0 pCln Reg.Hdr.LOCK 1) : State) (.core : Port) pCln Reg.Cln.CERT_ADDR ∧ ((r0 pCln Reg.Hdr.LOCK 1) : State).locked pCln = true) ∧
    ((({ s0 with arb.cur := some (.req .certCheck), arb.phase := .timed, arb.waiting := [.qKA] }) : State).fabricUp = true ∧
     (({ s0 with arb.cur := some (.req .certCheck), arb.phase := .timed, arb.waiting := [.qKA] }) : State).arb.cur = some (.req .certCheck) ∧
     (({ s0 with arb.cur := some (.req .certCheck), arb.phase := .timed, arb.waiting := [.qKA] }) : State).arb.phase = .timed ∧
     (s0.arb.cur ≠ some (.req .certCheck) ∨ s0.arb.phase ≠ .timed) ∧ s0.sideAble (1 : Fin 2) = true ∧
     (s0.cln.st = .off ∨ (s0.sideHb (1 : Fin 2) = false ∧ s0.flag pCln Reg.Cln.SIDE_STA (1 : Fin 2).val = false)) ∧ twinUp.cln.st ≠ .off ∧
     twinUp.sideHb (0 : Fin 2) = true) ∧
    (WriteReaches twinUp (.core : Port) pCln Reg.Cln.CLN_CMD ∧ twinUp.cln.st = .inStep ∧
     WriteReaches ((twinIn .solo) : State) (.core : Port) pCln Reg.Cln.CLN_CMD ∧ ((twinIn .solo) : State).cln.st ≠ .inStep ∧
     ((twinIn .solo) : State).cln.st ≠ .off ∧ WriteReaches s0 (.core : Port) pCln Reg.Cln.CLN_CMD ∧ s0.cln.st = .off ∧
     ReadReaches (({ s0 with cln.takes := [⟨1, false, 5, 9⟩, ⟨2, false, 5, 9⟩] }) : State) (.core : Port) pCln) ∧
    (certUp.heard.checkCert.1 = (true, certA)) ∧
    (((attB attFresh) : State).certSigned certA = true) ∧
    (((attB attSent) : State).certSigned certA = true) := by
  iterate 11 refine ⟨by decide +kernel, ?_⟩
  exact ⟨certUp_checks, certA_signed _ (by decide +kernel), certA_signed _ (by decide +kernel)⟩
theorem test_hyp_TwinsAgree_forms :
    (s0.fabricUp = true ∧ (.complete : XferItem).fits = true ∧ (s0.cln.st ≠ .attachXfer ∨ s0.cln.attach.isSome = true) ∧
     (({ joinUp with cln.donor := true }) : State).fabricUp = true ∧ ((.svPub 0 0 0) : XferItem).fits = true ∧
     (({ joinUp with cln.donor := true }) : State).cln.donor = true ∧ ((.svPub 0 0 0) : XferItem) ≠ .complete ∧ joinUp.fabricUp = true) ∧
    (joinUp.cln.st = .attachXfer ∧ joinUp.cln.attach = none ∧ joinUp.joins ∧ (65535 : Nat) < 65536 ∧ (4294967295 : Nat) < 2 ^ 32 ∧
     ((zeros 64) : List Byte).length = 64 ∧ joinUp.newerUnit (65535 : Nat) (4294967295 : Nat) = true ∧ joinUp.clean) ∧
    ((({ joinUp with cln.unitVer := [(0, 6)] }) : State).fabricUp = true ∧ (({ joinUp with cln.unitVer := [(0, 6)] }) : State).joins ∧ (0 : Nat) < 65536 ∧
     (2 : Nat) < 2 ^ 32 ∧ (({ joinUp with cln.unitVer := [(0, 6)] }) : State).newerUnit (0 : Nat) (2 : Nat) = false ∧
     (({ joinUp with pgl.owners := [(5, 10, 3)] }) : State).fabricUp = true ∧ (({ joinUp with pgl.owners := [(5, 10, 3)] }) : State).joins ∧
     (7 : Nat) < 65536) ∧
    ((1 : Nat) < 2 ^ 32 ∧ (({ joinUp with pgl.owners := [(5, 10, 3)] }) : State).newerUnit (2 ^ 20 + (7 : Nat)) (1 : Nat) = true ∧
     (({ joinUp with cln.unitVer := [(1048576, 6)] }) : State).fabricUp = true ∧ (({ joinUp with cln.unitVer := [(1048576, 6)] }) : State).joins ∧
     (({ joinUp with cln.unitVer := [(1048576, 6)] }) : State).newerUnit (2 ^ 20 + (0 : Nat)) (2 : Nat) = false ∧ (8191 : Nat) < 8192 ∧
     ([5] : List Word).length ≤ 8 ∧ (0x1200 : Nat) < 65536) ∧
    ((joinUp.stream (8191 : Nat)).head = none ∧ headed.fabricUp = true ∧ headed.joins ∧ (0 : Nat) < 8192 ∧
     (headed.stream (0 : Nat)).head = some (700 : Nat) ∧ (700 : Nat) < (703 : Nat) ∧
     ((100 : Nat) + headed.winDepth ≤ (700 : Nat) ∨ ((100 : Nat) ≤ (700 : Nat) ∧ (match headed.cln.heads0.find? (fun e => e.1 = (0 : Nat)) with | some e => e.2 | none => 0) < (100 : Nat) ∧ (headed.flagOf (0 : Nat) (100 : Nat)).testBit 8 = false)) ∧
     ((List.replicate 16 3) : List Word).length = 16) ∧
    (((joinUp.block (8191 : Nat)).recvd = false ∨ (notOlder (1 : Nat) (joinUp.block (8191 : Nat)).stNum = true ∧ ((1 : Nat) ≠ (joinUp.block (8191 : Nat)).stNum ∨ notOlder (2 : Nat) (joinUp.block (8191 : Nat)).sqNum = true))) ∧
     (({ joinUp with ptr.goose := [(0, { s0.block 0 with recvd := true, stNum := 5 })] }) : State).fabricUp = true ∧
     (({ joinUp with ptr.goose := [(0, { s0.block 0 with recvd := true, stNum := 5 })] }) : State).joins ∧ (4 : Nat) < 2 ^ 32 ∧
     ((({ joinUp with ptr.goose := [(0, { s0.block 0 with recvd := true, stNum := 5 })] }) : State).block (0 : Nat)).recvd = true ∧
     notOlder (4 : Nat) ((({ joinUp with ptr.goose := [(0, { s0.block 0 with recvd := true, stNum := 5 })] }) : State).block (0 : Nat)).stNum = false ∧
     (1023 : Nat) < 1024 ∧ (({ joinUp with ptr.svPub := [(255, ⟨1, [2], 3⟩)] }) : State).fabricUp = true) ∧
    ((({ joinUp with ptr.svPub := [(255, ⟨1, [2], 3⟩)] }) : State).joins ∧ (255 : Nat) < 256 ∧ (281474976710655 : Nat) < 2 ^ 48 ∧ (31 : Nat) < 32 ∧
     (4095 : Nat) < 4096 ∧ (511 : Nat) < 512 ∧ (({ joinUp with sdl.time := 1500 }) : State).fabricUp = true ∧
     (({ joinUp with sdl.time := 1500 }) : State).joins) ∧
    ((5 : Nat) < 2 ^ 64 ∧ (3276800 : Nat) < 2 ^ 32 ∧ otherRec.length = 8 ∧ ((peerDig 5) : PeerDigest).fits = true ∧ s0.exchanging = false ∧
     twinUp.fabricUp = true ∧ twinUp.exchanging = true ∧
     twinUp.cln.records.find? (fun r => r.same ((peerRec 5) : DigestRec) && !r.matched && decide (twinUp.sdl.time ≤ r.placed + 20000)) = none) ∧
    (digUp.fabricUp = true ∧ digUp.exchanging = true ∧ ((peerDig 1001) : PeerDigest).fits = true ∧
     digUp.cln.records.find? (fun r => r.same ((peerRec 1001) : DigestRec) && !r.matched && decide (digUp.sdl.time ≤ r.placed + 20000)) = some ownRec ∧
     (ownRec.placed < ((peerDig 1001) : PeerDigest).placed ∨ (ownRec.placed = ((peerDig 1001) : PeerDigest).placed ∧ digUp.twinB = false)) ∧
     ((peerDig 999) : PeerDigest).fits = true ∧
     digUp.cln.records.find? (fun r => r.same ((peerRec 999) : DigestRec) && !r.matched && decide (digUp.sdl.time ≤ r.placed + 20000)) = some ownRec ∧
     (((peerDig 999) : PeerDigest).placed < ownRec.placed ∨ (ownRec.placed = ((peerDig 999) : PeerDigest).placed ∧ digUp.twinB = true ∧ ((peerDig 999) : PeerDigest).rx ≠ ownRec.rx))) ∧
    (digUp.cln.records.find? (fun ownRec => !ownRec.matched && !ownRec.forwarded && !ownRec.frame.isEmpty) = some ownRec ∧
     (s0.exchanging = false ∨ s0.cln.records.find? (fun r => !r.matched && !r.forwarded && !r.frame.isEmpty) = none) ∧ s0.cln.session = false ∧
     ((.transit 31 []) : FwdFrame).fits = true ∧ splitUp.fabricUp = true ∧ splitUp.cln.session = true ∧ (0 : Nat) < 32 ∧ (0 : Nat) < 4096) ∧
    (srcMac pairFrame = splitUp.pairMac ∧ splitUp.hasRole 1 = false ∧ (({ splitUp with prm.proxy := [(3, ⟨0, 1, 0, 5⟩)] }) : State).fabricUp = true ∧
     (({ splitUp with prm.proxy := [(3, ⟨0, 1, 0, 5⟩)] }) : State).cln.session = true ∧
     srcMac ((zeros 12) : List Byte) ≠ (({ splitUp with prm.proxy := [(3, ⟨0, 1, 0, 5⟩)] }) : State).pairMac ∧
     ((splitUp.setReg (portPage 0) (Reg.Prc.PORT_STA 0) 0) : State).fabricUp = true ∧
     ((splitUp.setReg (portPage 0) (Reg.Prc.PORT_STA 0) 0) : State).cln.session = true ∧
     (((splitUp.setReg (portPage 0) (Reg.Prc.PORT_STA 0) 0) : State).pairPorts (0 : Nat)).all (fun e => !((splitUp.setReg (portPage 0) (Reg.Prc.PORT_STA 0) 0) : State).portUp e) = true) ∧
    (proxyFull.fabricUp = true ∧ proxyFull.cln.session = true ∧ (1 : Nat) < 4096 ∧ proxyFull.hasRole 1 = true ∧
     ((splitUp.setReg pCln Reg.Cln.ROLE_STA 2) : State).fabricUp = true ∧ ((splitUp.setReg pCln Reg.Cln.ROLE_STA 2) : State).cln.session = true ∧
     ((splitUp.setReg pCln Reg.Cln.ROLE_STA 2) : State).hasRole 1 = true ∧ splitUp.pairPorts (0 : Nat) = [(0 : Nat)]) ∧
    (splitUp.portUp (0 : Nat) = true ∧ pairFrame.length ≤ splitUp.poolFree ∧
     ((splitUp.setReg (portPage 0) (Reg.Prc.PORT_STA 0) 0) : State).pairPorts (0 : Nat) = [(0 : Nat)] ∧
     ((splitUp.setReg (portPage 0) (Reg.Prc.PORT_STA 0) 0) : State).portUp (0 : Nat) = false ∧
     (({ twinUp with cln.records := [sameRec] }) : State).fabricUp = true ∧ (({ twinUp with cln.records := [sameRec] }) : State).cln.session = true ∧
     (65536 : Nat) < 2 ^ 32 ∧ (({ twinUp with cln.records := [sameRec] }) : State).exchanging = true) ∧
    ((({ twinUp with cln.records := [sameRec] }) : State).cln.records.find? (fun r => r.goose == true && r.sub == (0 : Nat) && r.key == (65536 : Nat) && decide ((({ twinUp with cln.records := [sameRec] }) : State).sdl.time ≤ r.placed + 20000)) = some sameRec ∧
     (sameRec.digest = (({ twinUp with cln.records := [sameRec] }) : State).digestOf ([1, 2, 3] : List Byte) ∨ sameRec.frame = []) ∧
     (({ s0 with cln.session := true }) : State).fabricUp = true ∧ (({ s0 with cln.session := true }) : State).cln.session = true ∧
     (({ s0 with cln.session := true }) : State).exchanging = false ∧ twinUp.cln.session = true ∧
     twinUp.cln.records.find? (fun r => r.goose == true && r.sub == (8191 : Nat) && r.key == (4294967295 : Nat) && decide (twinUp.sdl.time ≤ r.placed + 20000)) = none ∧
     ((twinUp.setReg pCln Reg.Cln.ROLE_STA 1) : State).fabricUp = true) ∧
    (((twinUp.setReg pCln Reg.Cln.ROLE_STA 1) : State).exchanging = true ∧ true = true ∧ twinUp.cln.st = .inStep ∧
     (({ splitRec with cln.peerRec := some s0.pav.slotRec }) : State).fabricUp = true ∧
     (({ splitRec with cln.peerRec := some s0.pav.slotRec }) : State).cln.st = .inStep ∧
     (({ splitRec with cln.peerRec := some s0.pav.slotRec }) : State).cln.peerRec = some (s0.pav.slotRec : List Word) ∧
     (({ splitRec with cln.peerRec := some s0.pav.slotRec }) : State).sdl.slotAt = some (0 : Nat) ∧
     (s0.pav.slotRec : List Word) = (({ splitRec with cln.peerRec := some s0.pav.slotRec }) : State).pav.slotRec) ∧
    (splitRec.fabricUp = true ∧ splitRec.cln.st = .inStep ∧ splitRec.cln.peerRec = some otherRec ∧ splitRec.sdl.slotAt = some (0 : Nat) ∧
     otherRec ≠ splitRec.pav.slotRec ∧ (twinUp.cln.st ≠ .inStep ∨ twinUp.cln.peerRec = none ∨ twinUp.sdl.slotAt = none) ∧ snapped.fabricUp = true ∧
     ([(5, 31, 65535)] : List (Nat × Nat × Nat)).all (fun c => decide (c.2.1 < 32) && decide (c.2.2 < 65536)) = true) ∧
    ((snapped.cln.st ≠ .inStep ∨ ([] : List (Nat × Nat × Nat)) = []) ∧
     ([(5, 31, 3)] : List (Nat × Nat × Nat)).all (fun c => decide (c.2.1 < 32) && decide (c.2.2 < 65536)) = true ∧ snapped.cln.st = .inStep ∧
     ([(5, 31, 3)] : List (Nat × Nat × Nat)) ≠ [] ∧ ((snapped.setReg pCln Reg.Cln.ROLE_STA 29) : State).fabricUp = true ∧
     ((snapped.setReg pCln Reg.Cln.ROLE_STA 29) : State).cln.st = .inStep ∧ (3 : Nat) < 65536 ∧
     ((snapped.setReg pCln Reg.Cln.ROLE_STA 29) : State).cln.seqSnap = [((5 : Nat), (31 : Nat), (65535 : Nat))]) ∧
    ((65535 : Nat) ≠ (3 : Nat) ∧ ((snapped.setReg pCln Reg.Cln.ROLE_STA 29) : State).hasRole 1 = false ∧ 200 < ((-201) : Int).natAbs ∧
     (twinUp.cln.st ≠ .inStep ∨ (200 : Int).natAbs ≤ 200) ∧ WriteReaches keysUp (.core : Port) pCln Reg.Cln.CLN_CMD ∧ keysUp.pairKeys = true ∧
     keysUp.hasRole 3 = true ∧ keysUp.usedSlots = [(7 : Nat)]) ∧
    ((keysUp.slot (7 : Nat)).cur = some key1 ∧ WriteReaches ((keysUp.setReg pCln Reg.Cln.ROLE_STA 0) : State) (.core : Port) pCln Reg.Cln.CLN_CMD ∧
     (((keysUp.setReg pCln Reg.Cln.ROLE_STA 0) : State).pairKeys = false ∨ ((keysUp.setReg pCln Reg.Cln.ROLE_STA 0) : State).hasRole 3 = false ∨ ((keysUp.setReg pCln Reg.Cln.ROLE_STA 0) : State).usedSlots = []) ∧
     (.grant : KeyMsg).fits = true ∧ s0.pairKeys = false ∧ keysUp.fabricUp = true ∧ (7 : Nat) < 8192 ∧ (1 : Nat) < 8) ∧
    (((keysUp.setReg pCln Reg.Cln.ROLE_STA 0) : State).fabricUp = true ∧ ((keysUp.setReg pCln Reg.Cln.ROLE_STA 0) : State).pairKeys = true ∧
     ((keysUp.setReg pCln Reg.Cln.ROLE_STA 0) : State).hasRole 3 = false ∧ (({ keysUp with cln.keyWait := some 1 }) : State).fabricUp = true ∧
     (({ keysUp with cln.keyWait := some 1 }) : State).pairKeys = true ∧ (({ keysUp with cln.keyWait := some 1 }) : State).cln.keyWait = some (1 : Nat) ∧
     (({ keysUp with cln.keyWait := some 1 }) : State).org.keyCmd = none ∧ waitKey.fabricUp = true) ∧
    (waitKey.pairKeys = true ∧ waitKey.cln.keyWait = some (3 : Nat) ∧ waitKey.org.keyCmd = some (⟨3, 1, false, 7, [], [], []⟩ : KeyCmd) ∧
     (⟨3, 1, false, 7, [], [], []⟩ : KeyCmd).op = 3 ∧ ((⟨3, 1, false, 7, [], [], []⟩ : KeyCmd).slot < 8192) ∧ keysUp.cln.keyWait = none ∧
     keysUp.cln.session = true) ∧
    ((proxyFull.proxySeq (srcMac ((zeros 12) : List Byte)) (1 : Nat) (0 : Nat)).1 = none) := by
  iterate 21 refine ⟨by decide +kernel, ?_⟩
  exact proxyFull_none
theorem test_hyp_TwinsAgree :
    ((s0.fabricUp = true ∧ (.complete : XferItem).fits = true ∧ (s0.cln.st ≠ .attachXfer ∨ s0.cln.attach.isSome = true) ∧
     (({ joinUp with cln.donor := true }) : State).fabricUp = true ∧ ((.svPub 0 0 0) : XferItem).fits = true ∧
     (({ joinUp with cln.donor := true }) : State).cln.donor = true ∧ ((.svPub 0 0 0) : XferItem) ≠ .complete ∧ joinUp.fabricUp = true) ∧
    (joinUp.cln.st = .attachXfer ∧ joinUp.cln.attach = none ∧ joinUp.joins ∧ (65535 : Nat) < 65536 ∧ (4294967295 : Nat) < 2 ^ 32 ∧
     ((zeros 64) : List Byte).length = 64 ∧ joinUp.newerUnit (65535 : Nat) (4294967295 : Nat) = true ∧ joinUp.clean) ∧
    ((({ joinUp with cln.unitVer := [(0, 6)] }) : State).fabricUp = true ∧ (({ joinUp with cln.unitVer := [(0, 6)] }) : State).joins ∧ (0 : Nat) < 65536 ∧
     (2 : Nat) < 2 ^ 32 ∧ (({ joinUp with cln.unitVer := [(0, 6)] }) : State).newerUnit (0 : Nat) (2 : Nat) = false ∧
     (({ joinUp with pgl.owners := [(5, 10, 3)] }) : State).fabricUp = true ∧ (({ joinUp with pgl.owners := [(5, 10, 3)] }) : State).joins ∧
     (7 : Nat) < 65536) ∧
    ((1 : Nat) < 2 ^ 32 ∧ (({ joinUp with pgl.owners := [(5, 10, 3)] }) : State).newerUnit (2 ^ 20 + (7 : Nat)) (1 : Nat) = true ∧
     (({ joinUp with cln.unitVer := [(1048576, 6)] }) : State).fabricUp = true ∧ (({ joinUp with cln.unitVer := [(1048576, 6)] }) : State).joins ∧
     (({ joinUp with cln.unitVer := [(1048576, 6)] }) : State).newerUnit (2 ^ 20 + (0 : Nat)) (2 : Nat) = false ∧ (8191 : Nat) < 8192 ∧
     ([5] : List Word).length ≤ 8 ∧ (0x1200 : Nat) < 65536) ∧
    ((joinUp.stream (8191 : Nat)).head = none ∧ headed.fabricUp = true ∧ headed.joins ∧ (0 : Nat) < 8192 ∧
     (headed.stream (0 : Nat)).head = some (700 : Nat) ∧ (700 : Nat) < (703 : Nat) ∧
     ((100 : Nat) + headed.winDepth ≤ (700 : Nat) ∨ ((100 : Nat) ≤ (700 : Nat) ∧ (match headed.cln.heads0.find? (fun e => e.1 = (0 : Nat)) with | some e => e.2 | none => 0) < (100 : Nat) ∧ (headed.flagOf (0 : Nat) (100 : Nat)).testBit 8 = false)) ∧
     ((List.replicate 16 3) : List Word).length = 16) ∧
    (((joinUp.block (8191 : Nat)).recvd = false ∨ (notOlder (1 : Nat) (joinUp.block (8191 : Nat)).stNum = true ∧ ((1 : Nat) ≠ (joinUp.block (8191 : Nat)).stNum ∨ notOlder (2 : Nat) (joinUp.block (8191 : Nat)).sqNum = true))) ∧
     (({ joinUp with ptr.goose := [(0, { s0.block 0 with recvd := true, stNum := 5 })] }) : State).fabricUp = true ∧
     (({ joinUp with ptr.goose := [(0, { s0.block 0 with recvd := true, stNum := 5 })] }) : State).joins ∧ (4 : Nat) < 2 ^ 32 ∧
     ((({ joinUp with ptr.goose := [(0, { s0.block 0 with recvd := true, stNum := 5 })] }) : State).block (0 : Nat)).recvd = true ∧
     notOlder (4 : Nat) ((({ joinUp with ptr.goose := [(0, { s0.block 0 with recvd := true, stNum := 5 })] }) : State).block (0 : Nat)).stNum = false ∧
     (1023 : Nat) < 1024 ∧ (({ joinUp with ptr.svPub := [(255, ⟨1, [2], 3⟩)] }) : State).fabricUp = true) ∧
    ((({ joinUp with ptr.svPub := [(255, ⟨1, [2], 3⟩)] }) : State).joins ∧ (255 : Nat) < 256 ∧ (281474976710655 : Nat) < 2 ^ 48 ∧ (31 : Nat) < 32 ∧
     (4095 : Nat) < 4096 ∧ (511 : Nat) < 512 ∧ (({ joinUp with sdl.time := 1500 }) : State).fabricUp = true ∧
     (({ joinUp with sdl.time := 1500 }) : State).joins) ∧
    ((5 : Nat) < 2 ^ 64 ∧ (3276800 : Nat) < 2 ^ 32 ∧ otherRec.length = 8 ∧ ((peerDig 5) : PeerDigest).fits = true ∧ s0.exchanging = false ∧
     twinUp.fabricUp = true ∧ twinUp.exchanging = true ∧
     twinUp.cln.records.find? (fun r => r.same ((peerRec 5) : DigestRec) && !r.matched && decide (twinUp.sdl.time ≤ r.placed + 20000)) = none) ∧
    (digUp.fabricUp = true ∧ digUp.exchanging = true ∧ ((peerDig 1001) : PeerDigest).fits = true ∧
     digUp.cln.records.find? (fun r => r.same ((peerRec 1001) : DigestRec) && !r.matched && decide (digUp.sdl.time ≤ r.placed + 20000)) = some ownRec ∧
     (ownRec.placed < ((peerDig 1001) : PeerDigest).placed ∨ (ownRec.placed = ((peerDig 1001) : PeerDigest).placed ∧ digUp.twinB = false)) ∧
     ((peerDig 999) : PeerDigest).fits = true ∧
     digUp.cln.records.find? (fun r => r.same ((peerRec 999) : DigestRec) && !r.matched && decide (digUp.sdl.time ≤ r.placed + 20000)) = some ownRec ∧
     (((peerDig 999) : PeerDigest).placed < ownRec.placed ∨ (ownRec.placed = ((peerDig 999) : PeerDigest).placed ∧ digUp.twinB = true ∧ ((peerDig 999) : PeerDigest).rx ≠ ownRec.rx))) ∧
    (digUp.cln.records.find? (fun ownRec => !ownRec.matched && !ownRec.forwarded && !ownRec.frame.isEmpty) = some ownRec ∧
     (s0.exchanging = false ∨ s0.cln.records.find? (fun r => !r.matched && !r.forwarded && !r.frame.isEmpty) = none) ∧ s0.cln.session = false ∧
     ((.transit 31 []) : FwdFrame).fits = true ∧ splitUp.fabricUp = true ∧ splitUp.cln.session = true ∧ (0 : Nat) < 32 ∧ (0 : Nat) < 4096) ∧
    (srcMac pairFrame = splitUp.pairMac ∧ splitUp.hasRole 1 = false ∧ (({ splitUp with prm.proxy := [(3, ⟨0, 1, 0, 5⟩)] }) : State).fabricUp = true ∧
     (({ splitUp with prm.proxy := [(3, ⟨0, 1, 0, 5⟩)] }) : State).cln.session = true ∧
     srcMac ((zeros 12) : List Byte) ≠ (({ splitUp with prm.proxy := [(3, ⟨0, 1, 0, 5⟩)] }) : State).pairMac ∧
     ((splitUp.setReg (portPage 0) (Reg.Prc.PORT_STA 0) 0) : State).fabricUp = true ∧
     ((splitUp.setReg (portPage 0) (Reg.Prc.PORT_STA 0) 0) : State).cln.session = true ∧
     (((splitUp.setReg (portPage 0) (Reg.Prc.PORT_STA 0) 0) : State).pairPorts (0 : Nat)).all (fun e => !((splitUp.setReg (portPage 0) (Reg.Prc.PORT_STA 0) 0) : State).portUp e) = true) ∧
    (proxyFull.fabricUp = true ∧ proxyFull.cln.session = true ∧ (1 : Nat) < 4096 ∧ proxyFull.hasRole 1 = true ∧
     ((splitUp.setReg pCln Reg.Cln.ROLE_STA 2) : State).fabricUp = true ∧ ((splitUp.setReg pCln Reg.Cln.ROLE_STA 2) : State).cln.session = true ∧
     ((splitUp.setReg pCln Reg.Cln.ROLE_STA 2) : State).hasRole 1 = true ∧ splitUp.pairPorts (0 : Nat) = [(0 : Nat)]) ∧
    (splitUp.portUp (0 : Nat) = true ∧ pairFrame.length ≤ splitUp.poolFree ∧
     ((splitUp.setReg (portPage 0) (Reg.Prc.PORT_STA 0) 0) : State).pairPorts (0 : Nat) = [(0 : Nat)] ∧
     ((splitUp.setReg (portPage 0) (Reg.Prc.PORT_STA 0) 0) : State).portUp (0 : Nat) = false ∧
     (({ twinUp with cln.records := [sameRec] }) : State).fabricUp = true ∧ (({ twinUp with cln.records := [sameRec] }) : State).cln.session = true ∧
     (65536 : Nat) < 2 ^ 32 ∧ (({ twinUp with cln.records := [sameRec] }) : State).exchanging = true) ∧
    ((({ twinUp with cln.records := [sameRec] }) : State).cln.records.find? (fun r => r.goose == true && r.sub == (0 : Nat) && r.key == (65536 : Nat) && decide ((({ twinUp with cln.records := [sameRec] }) : State).sdl.time ≤ r.placed + 20000)) = some sameRec ∧
     (sameRec.digest = (({ twinUp with cln.records := [sameRec] }) : State).digestOf ([1, 2, 3] : List Byte) ∨ sameRec.frame = []) ∧
     (({ s0 with cln.session := true }) : State).fabricUp = true ∧ (({ s0 with cln.session := true }) : State).cln.session = true ∧
     (({ s0 with cln.session := true }) : State).exchanging = false ∧ twinUp.cln.session = true ∧
     twinUp.cln.records.find? (fun r => r.goose == true && r.sub == (8191 : Nat) && r.key == (4294967295 : Nat) && decide (twinUp.sdl.time ≤ r.placed + 20000)) = none ∧
     ((twinUp.setReg pCln Reg.Cln.ROLE_STA 1) : State).fabricUp = true) ∧
    (((twinUp.setReg pCln Reg.Cln.ROLE_STA 1) : State).exchanging = true ∧ true = true ∧ twinUp.cln.st = .inStep ∧
     (({ splitRec with cln.peerRec := some s0.pav.slotRec }) : State).fabricUp = true ∧
     (({ splitRec with cln.peerRec := some s0.pav.slotRec }) : State).cln.st = .inStep ∧
     (({ splitRec with cln.peerRec := some s0.pav.slotRec }) : State).cln.peerRec = some (s0.pav.slotRec : List Word) ∧
     (({ splitRec with cln.peerRec := some s0.pav.slotRec }) : State).sdl.slotAt = some (0 : Nat) ∧
     (s0.pav.slotRec : List Word) = (({ splitRec with cln.peerRec := some s0.pav.slotRec }) : State).pav.slotRec) ∧
    (splitRec.fabricUp = true ∧ splitRec.cln.st = .inStep ∧ splitRec.cln.peerRec = some otherRec ∧ splitRec.sdl.slotAt = some (0 : Nat) ∧
     otherRec ≠ splitRec.pav.slotRec ∧ (twinUp.cln.st ≠ .inStep ∨ twinUp.cln.peerRec = none ∨ twinUp.sdl.slotAt = none) ∧ snapped.fabricUp = true ∧
     ([(5, 31, 65535)] : List (Nat × Nat × Nat)).all (fun c => decide (c.2.1 < 32) && decide (c.2.2 < 65536)) = true) ∧
    ((snapped.cln.st ≠ .inStep ∨ ([] : List (Nat × Nat × Nat)) = []) ∧
     ([(5, 31, 3)] : List (Nat × Nat × Nat)).all (fun c => decide (c.2.1 < 32) && decide (c.2.2 < 65536)) = true ∧ snapped.cln.st = .inStep ∧
     ([(5, 31, 3)] : List (Nat × Nat × Nat)) ≠ [] ∧ ((snapped.setReg pCln Reg.Cln.ROLE_STA 29) : State).fabricUp = true ∧
     ((snapped.setReg pCln Reg.Cln.ROLE_STA 29) : State).cln.st = .inStep ∧ (3 : Nat) < 65536 ∧
     ((snapped.setReg pCln Reg.Cln.ROLE_STA 29) : State).cln.seqSnap = [((5 : Nat), (31 : Nat), (65535 : Nat))]) ∧
    ((65535 : Nat) ≠ (3 : Nat) ∧ ((snapped.setReg pCln Reg.Cln.ROLE_STA 29) : State).hasRole 1 = false ∧ 200 < ((-201) : Int).natAbs ∧
     (twinUp.cln.st ≠ .inStep ∨ (200 : Int).natAbs ≤ 200) ∧ WriteReaches keysUp (.core : Port) pCln Reg.Cln.CLN_CMD ∧ keysUp.pairKeys = true ∧
     keysUp.hasRole 3 = true ∧ keysUp.usedSlots = [(7 : Nat)]) ∧
    ((keysUp.slot (7 : Nat)).cur = some key1 ∧ WriteReaches ((keysUp.setReg pCln Reg.Cln.ROLE_STA 0) : State) (.core : Port) pCln Reg.Cln.CLN_CMD ∧
     (((keysUp.setReg pCln Reg.Cln.ROLE_STA 0) : State).pairKeys = false ∨ ((keysUp.setReg pCln Reg.Cln.ROLE_STA 0) : State).hasRole 3 = false ∨ ((keysUp.setReg pCln Reg.Cln.ROLE_STA 0) : State).usedSlots = []) ∧
     (.grant : KeyMsg).fits = true ∧ s0.pairKeys = false ∧ keysUp.fabricUp = true ∧ (7 : Nat) < 8192 ∧ (1 : Nat) < 8) ∧
    (((keysUp.setReg pCln Reg.Cln.ROLE_STA 0) : State).fabricUp = true ∧ ((keysUp.setReg pCln Reg.Cln.ROLE_STA 0) : State).pairKeys = true ∧
     ((keysUp.setReg pCln Reg.Cln.ROLE_STA 0) : State).hasRole 3 = false ∧ (({ keysUp with cln.keyWait := some 1 }) : State).fabricUp = true ∧
     (({ keysUp with cln.keyWait := some 1 }) : State).pairKeys = true ∧ (({ keysUp with cln.keyWait := some 1 }) : State).cln.keyWait = some (1 : Nat) ∧
     (({ keysUp with cln.keyWait := some 1 }) : State).org.keyCmd = none ∧ waitKey.fabricUp = true) ∧
    (waitKey.pairKeys = true ∧ waitKey.cln.keyWait = some (3 : Nat) ∧ waitKey.org.keyCmd = some (⟨3, 1, false, 7, [], [], []⟩ : KeyCmd) ∧
     (⟨3, 1, false, 7, [], [], []⟩ : KeyCmd).op = 3 ∧ ((⟨3, 1, false, 7, [], [], []⟩ : KeyCmd).slot < 8192) ∧ keysUp.cln.keyWait = none ∧
     keysUp.cln.session = true) ∧
    ((proxyFull.proxySeq (srcMac ((zeros 12) : List Byte)) (1 : Nat) (0 : Nat)).1 = none)) ∧
    (joinKey.fabricUp = true ∧ joinKey.joins ∧ kwpUnwrap joinKey.stateKey wrapped1 = some plain1 ∧ blobPos joinKey plain1 false 7 = some key1) ∧
    stepKey.fabricUp = true ∧ stepKey.pairKeys = true ∧ kwpUnwrap stepKey.stateKey wrapped1 = some plain1 ∧ blobPos stepKey.start plain1 false 8191 = some key1 :=
  ⟨test_hyp_TwinsAgree_forms, ⟨by decide +kernel, by decide +kernel, unwrap1, by decide +kernel⟩, by decide +kernel, by decide +kernel, unwrap1, by decide +kernel⟩

/-! The network. -/

/-- Port 0 in VLAN 5 with port 4, untagged there, PVID 5; the addresses come from ESTATE. -/
def vlanUp : State := { (netUp.setReg pCln Reg.Cln.ESTATE 0x10007).setReg (portPage 0) (Reg.Prc.PORT_CFG 0) 0x501 with prm.vlan := [(5, ⟨17, 1, true⟩)], prm.fdb := [(3, ⟨0x0200000000AA, 5, 4, false, false, 0, 0⟩)] }
/-- A frame to that entry, without FCS, and one in a queue. -/
def swFrame : List Byte := [2, 0, 0, 0, 0, 0xAA, 2, 0, 0, 0, 0, 0xBB, 8, 0] ++ zeros 46
def outFrame : QFrame := ⟨swFrame, .pool, none, true, false, 0⟩
def queued (c : Nat) : State := { netUp with prm.queues := [(0 * 16 + c, [outFrame])] }
/-- MACsec on port 0 with no association. -/
def secUp (s : State) : State := s.setReg (portPage 0) (Reg.Prc.PORT_CFG 0) 0xD
/-- The gates of port 0 enabled with one admin entry of 1000 ns in unit 0, and GCL_CTL as given. -/
def gateUp (ctl : Word) : State :=
  { (netUp.setReg pPrm Reg.Hdr.CLAIM 1).setPortReg 0 0x10 ctl with
    prm.gcl := [(0, ⟨255, 1000⟩)] }
/-- An oper list in progress. -/
def gates1 : GateRun := ⟨255, 0, 1000, false, 5000, 0, 0, false, true⟩
def gates2 : GateRun := ⟨255, 0, 1000, false, 0, 0, 0, true, false⟩
def gates3 : GateRun := ⟨255, 0, 1000, false, 0, 0, 0, false, true⟩
def running (ctl : Word) (g : GateRun) : State := { gateUp ctl with prm.gates := [(0, g)] }
/-- Lane 0 in SGMII. -/
def sgmiiUp (m : Word) : State := (netUp.setReg (pLne 0) Reg.Lne.LN_MODE m).setReg (pLne 0) Reg.Hdr.STA 0xB00
def elsewhere : State := (gateUp 0).setReg pPrm Reg.Hdr.CLAIM 0
/-- Pair 0 over ports 0 and 4 in PRP mode, and port 0 in the STATE given. -/
def pairUpQ : State := (netUp.setReg pPrm (Reg.Prm.PAIR_CFG 0) 0x80000400).setReg pCln Reg.Cln.ESTATE 0x10007
def portIn (st : Word) : State := netUp.setReg (portPage 0) (Reg.Prc.PORT_CFG 0) st
/-- A static and a dynamic database entry. -/
def dynE : FdbEntry := ⟨0, 0, 4, false, false, 0, 0⟩
def statE : FdbEntry := ⟨5, 0, 4, true, false, 0, 0⟩
def fdbUp : State := { s0.setReg pPrm Reg.Prm.FDB_AGE 300 with prm.fdb := [(65535, dynE), (3, statE)], prm.proxy := [(511, ⟨0, 0, 3, 9⟩)] }
def fdbRun : State := { fdbUp with pgl.everEnabled := true }
/-- Folly at port 0 with the quarter buffer 0 claimed, in TEST, and a program that holds one frame and delays one. -/
def follyUp : State := (portIn 2).setReg (flyPage 0) Reg.Hdr.CLAIM 0x10000
def h1 : FollyHeld := ⟨[1], 0, 0, 1⟩
def d1 : FollyDelayed := ⟨[2], 0, 0, 5⟩
def fprog : FollyRun := ⟨1, [h1], [d1]⟩
def follyRunning (c : Word) : State := { follyUp.setReg (flyPage 0) (Reg.Fly.FLY_CTL 0) c with prm.folly := [(0, fprog)] }
def pairRefd (s : State) (w : Word) (n : Nat) : State := s.heard.setReg pPrm (Reg.Prm.PAIR_CFG n) (w &&& 0x003FFFFF)

theorem test_hyp_FramesLanesAndGates :
    (s0.fabricUp = true ∧ s0.portUp (255 : Fin 256) = false ∧ vlanUp.fabricUp = true ∧ vlanUp.portUp (0 : Fin 256) = true ∧
     vlanUp.follyRun (0 : Fin 256) = none ∧
     (((zeros 63) : List Byte).length < 64 ∨ vlanUp.fld pPrm Reg.Prm.FAB_CFG 13 0 < ((zeros 63) : List Byte).length ∨ (fcsGood ((zeros 63) : List Byte) = false ∧ vlanUp.flag pPrm Reg.Prm.FAB_CFG 14 = false)) ∧
     64 ≤ ((withFcs swFrame) : List Byte).length ∧ ((withFcs swFrame) : List Byte).length ≤ vlanUp.fld pPrm Reg.Prm.FAB_CFG 13 0) ∧
    (fcsGood ((withFcs swFrame) : List Byte) = true ∧ vlanUp.portCfg (0 : Fin 256) 2 2 = 0 ∧ vlanUp.pairOf (0 : Fin 256) = none ∧
     vlanUp.ilkOf (0 : Fin 256) = none ∧ beNat ((swFrame.drop 12).take 2) ≠ 0x888E ∧
     vlanUp.classify (0 : Fin 256) swFrame = some ((5 : Nat), (0 : Nat), swFrame) ∧ vlanUp.enabled pPrm = true ∧ vlanUp.transparent = false) ∧
    (linkLocal (dstMac swFrame) = false ∧ dstMac swFrame ≠ vlanUp.mgmtMac ∧ dstMac swFrame ≠ vlanUp.pairMac ∧ vlanUp.pairsOn = [] ∧
     (vlanUp.learn (srcMac swFrame) (5 : Nat) (0 : Fin 256)).egressOf (dstMac swFrame) (5 : Nat) = [(4 : Nat)] ∧ (4 : Nat) ≠ (0 : Fin 256).val ∧
     vlanUp.portUp (4 : Nat) = true ∧ vlanUp.ilkOf (4 : Nat) = none) ∧
    ((vlanUp.formOn (5 : Nat) (0 : Nat) (4 : Nat) swFrame).length ≤ vlanUp.poolFree ∧ ((secUp vlanUp) : State).fabricUp = true ∧
     ((secUp vlanUp) : State).portUp (0 : Fin 256) = true ∧ ((secUp vlanUp) : State).follyRun (0 : Fin 256) = none ∧
     ((withFcs swFrame) : List Byte).length ≤ ((secUp vlanUp) : State).fld pPrm Reg.Prm.FAB_CFG 13 0 ∧
     (((secUp vlanUp) : State).msVerify (0 : Fin 256) swFrame).1 = none ∧ (s0.portUp (255 : Fin 256) = false ∨ s0.nextQueue (255 : Fin 256) = none) ∧
     ((queued 7) : State).fabricUp = true) ∧
    (((queued 7) : State).portUp (0 : Fin 256) = true ∧ ((queued 7) : State).queue (0 : Fin 256) (7 : Nat) = outFrame :: ([] : List QFrame) ∧
     ((queued 7) : State).transparent = false ∧ ((queued 7) : State).follyRun (0 : Fin 256) = none ∧ ((queued 7) : State).portCfg (0 : Fin 256) 2 2 = 0 ∧
     outFrame.badFcs = false ∧ ((secUp (queued 0)) : State).fabricUp = true ∧ ((secUp (queued 0)) : State).portUp (0 : Fin 256) = true) ∧
    (((secUp (queued 0)) : State).queue (0 : Fin 256) (0 : Nat) = outFrame :: ([] : List QFrame) ∧ ((secUp (queued 0)) : State).transparent = false ∧
     ((secUp (queued 0)) : State).follyRun (0 : Fin 256) = none ∧
     ((((secUp (queued 0)) : State).start.setQueue (0 : Fin 256) (0 : Nat) ([] : List QFrame)).msProtect (0 : Fin 256) (pad60 outFrame.octets)).1 = none ∧
     (s0.laneMode (63 : Fin 64) = 0 ∨ s0.enabled (pPrc ((63 : Fin 64).val / 4)) = false ∨ s0.laneClocked (63 : Fin 64) = false) ∧ netUp.fabricUp = true ∧
     netUp.laneMode (0 : Fin 64) ≠ 0 ∧ netUp.enabled (pPrc ((0 : Fin 64).val / 4)) = true) ∧
    (netUp.laneClocked (0 : Fin 64) = true ∧
     ((netUp.laneMode ((0 : Fin 256).val / 4) ≠ 2 ∧ netUp.laneMode ((0 : Fin 256).val / 4) ≠ 3) ∨ netUp.portExists (0 : Fin 256) = false ∨ netUp.enabled (portPage (0 : Fin 256)) = false) ∧
     ((sgmiiUp 2) : State).fabricUp = true ∧
     (((sgmiiUp 2) : State).laneMode ((0 : Fin 256).val / 4) = 2 ∨ ((sgmiiUp 2) : State).laneMode ((0 : Fin 256).val / 4) = 3) ∧
     ((sgmiiUp 2) : State).portExists (0 : Fin 256) = true ∧ ((sgmiiUp 2) : State).enabled (portPage (0 : Fin 256)) = true ∧
     ((sgmiiUp 2) : State).fencedItem 4 (0 : Fin 256) = false ∧
     WriteReaches ((gateUp 0) : State) (.core : Port) (portPage (0 : Fin 256)) (Reg.Prc.GCL_CTL ((0 : Fin 256).val % 16))) ∧
    ((((gateUp 0).heard.setPortReg 0 0x10 0x101) : State).gclRefused (0 : Fin 256) = false ∧
     (((gateUp 0).heard.setPortReg 0 0x10 0x1) : State).gclRefused (0 : Fin 256) = true ∧
     WriteReaches ((elsewhere.setReg pSdl Reg.Hdr.CLAIM 1) : State) (.core : Port) (portPage (0 : Fin 256)) (Reg.Prc.GCL_CTL ((0 : Fin 256).val % 16)) ∧
     ((elsewhere.setReg pSdl Reg.Hdr.CLAIM 1) : State).groupElsewhere pPrm (bits (0x80000101 : Word) 7 2 / 4) = true ∧
     (s0.gateEn (255 : Fin 256) = false ∨ (s0.gclPending (255 : Fin 256) = false ∧ s0.operStart (255 : Fin 256) = none)) ∧
     ((gateUp 0x40000101) : State).fabricUp = true ∧ ((gateUp 0x40000101) : State).gateEn (0 : Fin 256) = true ∧
     ((gateUp 0x40000101) : State).gclPending (0 : Fin 256) = true) ∧
    (bitAt (((gateUp 0x40000101) : State).gclCtl (0 : Fin 256)) 1 = false ∧
     (((gateUp 0x40000101) : State).operStart (0 : Fin 256)).any (fun c => decide (c < (0 : Nat))) = false ∧
     1 ≤ ((gateUp 0x40000101) : State).adminLen (0 : Fin 256) ∧ ((gateUp 0x40000101) : State).adminLen (0 : Fin 256) ≤ 128 ∧
     ((gateUp 0x40000001) : State).fabricUp = true ∧ ((gateUp 0x40000001) : State).gateEn (0 : Fin 256) = true ∧
     ((gateUp 0x40000001) : State).gclPending (0 : Fin 256) = true ∧ bitAt (((gateUp 0x40000001) : State).gclCtl (0 : Fin 256)) 1 = false) ∧
    ((((gateUp 0x40000001) : State).operStart (0 : Fin 256)).any (fun c => decide (c < (0 : Nat))) = false ∧
     (((gateUp 0x40000001) : State).adminLen (0 : Fin 256) = 0 ∨ 128 < ((gateUp 0x40000001) : State).adminLen (0 : Fin 256)) ∧
     (({ gateUp 0x40000103 with sdl.slotAt := some 700, sdl.time := 900 }) : State).fabricUp = true ∧
     (({ gateUp 0x40000103 with sdl.slotAt := some 700, sdl.time := 900 }) : State).gateEn (0 : Fin 256) = true ∧
     (({ gateUp 0x40000103 with sdl.slotAt := some 700, sdl.time := 900 }) : State).gclPending (0 : Fin 256) = true ∧
     bitAt ((({ gateUp 0x40000103 with sdl.slotAt := some 700, sdl.time := 900 }) : State).gclCtl (0 : Fin 256)) 1 = true ∧
     (({ gateUp 0x40000103 with sdl.slotAt := some 700, sdl.time := 900 }) : State).sdl.slotAt = some (700 : Nat) ∧
     (({ gateUp 0x40000103 with sdl.slotAt := some 700, sdl.time := 900 }) : State).adminBase (0 : Fin 256) ≤ (700 : Nat)) ∧
    (1 ≤ (({ gateUp 0x40000103 with sdl.slotAt := some 700, sdl.time := 900 }) : State).adminLen (0 : Fin 256) ∧
     (({ gateUp 0x40000103 with sdl.slotAt := some 700, sdl.time := 900 }) : State).adminLen (0 : Fin 256) ≤ 128 ∧
     ((({ gateUp 0x40000103 with sdl.slotAt := some 700 }).setPortReg 0 0x1C 701) : State).fabricUp = true ∧
     ((({ gateUp 0x40000103 with sdl.slotAt := some 700 }).setPortReg 0 0x1C 701) : State).gateEn (0 : Fin 256) = true ∧
     ((({ gateUp 0x40000103 with sdl.slotAt := some 700 }).setPortReg 0 0x1C 701) : State).gclPending (0 : Fin 256) = true ∧
     bitAt (((({ gateUp 0x40000103 with sdl.slotAt := some 700 }).setPortReg 0 0x1C 701) : State).gclCtl (0 : Fin 256)) 1 = true ∧
     ((({ gateUp 0x40000103 with sdl.slotAt := some 700 }).setPortReg 0 0x1C 701) : State).sdl.slotAt = some (700 : Nat) ∧
     (700 : Nat) < ((({ gateUp 0x40000103 with sdl.slotAt := some 700 }).setPortReg 0 0x1C 701) : State).adminBase (0 : Fin 256)) ∧
    (((({ gateUp 0x40000103 with sdl.slotAt := some 700 }).setPortReg 0 0x1C 701) : State).gateRun (0 : Fin 256) = none ∧
     ((running 0x10101 gates1) : State).fabricUp = true ∧ ((running 0x10101 gates1) : State).gateEn (0 : Fin 256) = true ∧
     ((running 0x10101 gates1) : State).gateRun (0 : Fin 256) = some gates1 ∧
     ((running 0x10101 gates1) : State).operStart (0 : Fin 256) = some (5000 : Nat) ∧
     (((running 0x10101 gates1) : State).gclPending (0 : Fin 256) = false ∨ (bitAt (((running 0x10101 gates1) : State).gclCtl (0 : Fin 256)) 1 = false ∧ (5000 : Nat) < cycleFrom (((running 0x10101 gates1) : State).adminBase (0 : Fin 256)) (((running 0x10101 gates1) : State).adminCycle (0 : Fin 256)) ((running 0x10101 gates1) : State).sdl.time)) ∧
     gates1.baseSel = false ∧ gates1.cycleNs ≠ 0) ∧
    ((({ running 0x10101 gates2 with sdl.slotAt := some 700 }) : State).gateRun (0 : Fin 256) = some gates2 ∧ gates2.baseSel = true ∧
     (({ running 0x10101 gates2 with sdl.slotAt := some 700 }) : State).sdl.slotAt = some (700 : Nat) ∧
     (gates2.startAt < (700 : Nat) ∨ gates2.started = false) ∧ ((running 0x10101 gates3) : State).gateRun (0 : Fin 256) = some gates3 ∧
     gates3.baseSel = false ∧ gates3.cycleNs = 0 ∧ ((running 0x10101 gates2) : State).gateRun (0 : Fin 256) = some gates2) ∧
    (((running 0x10101 gates2) : State).sdl.slotAt = none ∧
     (s0.gateEn (255 : Fin 256) = false ∨ s0.gateRun (255 : Fin 256) = none ∨ (s0.gateRun (255 : Fin 256)).any (·.held) = true) ∧
     ((running 0x20101 gates1) : State).fabricUp = true ∧ ((running 0x20101 gates1) : State).gateEn (0 : Fin 256) = true ∧
     ((running 0x20101 gates1) : State).gateRun (0 : Fin 256) = some gates1 ∧ gates1.held = false ∧
     gates1.entry + 1 < ((running 0x20101 gates1) : State).operLen (0 : Fin 256) ∧
     ((running 0x10101 gates1) : State).operLen (0 : Fin 256) ≤ gates1.entry + 1) ∧
    (ReadReaches s0 (.core : Port) (pPrc (15 : Fin 16)) ∧
     WriteReaches ((r0 (pPrc 15) Reg.Prc.GCL_ADDR 0x17FF) : State) (.core : Port) (pPrc (15 : Fin 16)) Reg.Prc.GCL_DATA ∧ bitAt (0x17FF : Word) 12 = true ∧
     WriteReaches s0 (.core : Port) (pPrc (15 : Fin 16)) Reg.Prc.GCL_DATA ∧ bitAt (0 : Word) 12 = false) := by
  iterate 14 refine ⟨by decide +kernel, ?_⟩
  decide +kernel
theorem test_hyp_PairsTablesAndFolly :
    (WriteReaches pairUpQ (.core : Port) pPrm (Reg.Prm.PAIR_CFG (0 : Fin 32)) ∧ pairUpQ.pairOn (0 : Fin 32) = true ∧
     WriteReaches netUp (.core : Port) pPrm (Reg.Prm.PAIR_CFG (0 : Fin 32)) ∧ netUp.pairOn (0 : Fin 32) = false ∧
     ((pairRefd netUp 0x80000400 0) : State).pairRefusal (0 : Fin 32) (0x80000400 : Word) = 0 ∧
     WriteReaches s0 (.core : Port) pPrm (Reg.Prm.PAIR_CFG (31 : Fin 32)) ∧ s0.pairOn (31 : Fin 32) = false ∧
     ((pairRefd s0 0x80000400 31) : State).pairRefusal (31 : Fin 32) (0x80000400 : Word) ≠ 0) ∧
    (s0.fabricUp = true ∧ (s0.pairOn (31 : Fin 32) = false ∨ s0.enabled pPrm = false ∨ s0.numbersAlone = false ∨ s0.withheld = true) ∧
     pairUpQ.fabricUp = true ∧ pairUpQ.enabled pPrm = true ∧ pairUpQ.numbersAlone = true ∧ pairUpQ.withheld = false ∧
     pairUpQ.supervised (0 : Fin 32) = [((pairUpQ.pairMac) : Nat)] ∧
     ((pairUpQ.pairCopies (0 : Fin 32) (supervisionFrame ((pairUpQ.pairMac) : Nat) ((pairUpQ.pairMac) : Nat) (0 : Nat) (pairUpQ.pairHsr (0 : Fin 32))) (0 : Nat) none).map (·.1)).Nodup) ∧
    ((pairUpQ.pairCopies (0 : Fin 32) (supervisionFrame ((pairUpQ.pairMac) : Nat) ((pairUpQ.pairMac) : Nat) (0 : Nat) (pairUpQ.pairHsr (0 : Fin 32))) (0 : Nat) none).all (fun e => pairUpQ.portUp e.1) = true ∧
     (pairUpQ.pairCopies (0 : Fin 32) (supervisionFrame ((pairUpQ.pairMac) : Nat) ((pairUpQ.pairMac) : Nat) (0 : Nat) (pairUpQ.pairHsr (0 : Fin 32))) (0 : Nat) none).all (fun e => pairUpQ.bufferRoom (pairUpQ.copyHome (0 : Fin 32) e.1 .pool) (some ((0 : Fin 32).val, ((pairUpQ.pairMac) : Nat), (0 : Nat))) e.2.length) = true ∧
     fdbUp.fabricUp = true ∧ (fdbUp.prm.fdb.find? (fun e => e.1 = (7 : Fin 65536).val) = none ∨ fdbUp.fld pPrm Reg.Prm.FDB_AGE 15 0 = 0) ∧
     (fdbUp.prm.fdb.find? (fun e => e.1 = (65535 : Fin 65536).val)).isSome = true ∧ WriteReaches fdbUp (.core : Port) pPrm Reg.Prm.TBL_CMD ∧
     (3 : Fin 65536).val < 4096 ∧ (fdbUp.prm.fdb.find? (fun e => e.1 = (3 : Fin 65536).val)).isSome = true) ∧
    (4096 ≤ (4096 : Fin 65536).val ∧ fdbUp.prm.fdb.find? (fun e => e.1 = (4095 : Fin 65536).val) = none ∧
     (fdbUp.prm.proxy.find? (fun e => e.1 = (511 : Fin 65536).val)).isSome = true ∧ (fdbUp.fdbFind fdbUp.dataMac fdbUp.dataVid).isSome = true ∧
     ((fdbUp.prm.proxy.find? (fun e => e.2.mac = fdbUp.dataMac ∧ e.2.vid = fdbUp.dataVid)).isSome = true) ∧
     WriteReaches s0 (.core : Port) pPrm Reg.Prm.TBL_CMD ∧ s0.fdbFind s0.dataMac s0.dataVid = none ∧
     (fdbUp.tblOpen (.core : Port) = true ∨ (fdbUp.fdbStatic (3 : Fin 65536) = false ∧ (⟨0, 0, 0, false, false, 0, 0⟩ : FdbEntry).static = false))) ∧
    ((fdbUp.tblOpen (.core : Port) = true ∨ fdbUp.fdbStatic (3 : Fin 65536) = false) ∧ WriteReaches fdbRun (.core : Port) pPrm Reg.Prm.TBL_CMD ∧
     fdbRun.tblOpen (.core : Port) = false ∧ (fdbRun.fdbStatic (3 : Fin 65536) = true ∨ (⟨0, 0, 0, false, false, 0, 0⟩ : FdbEntry).static = true) ∧
     fdbRun.fdbStatic (3 : Fin 65536) = true ∧ fdbUp.tblOpen (.core : Port) = true ∧ (0 : Fin 65536).val < 4096 ∧ (0 : Fin 65536).val < 512) ∧
    (WriteReaches s0 (.core : Port) (portPage (255 : Fin 256)) ((Reg.Prc.PORT_CFG 15) : Nat) ∧ s0.portExists (255 : Fin 256) = false ∧
     WriteReaches ((portIn 1) : State) (.core : Port) (portPage (0 : Fin 256)) ((Reg.Prc.PORT_CFG 0) : Nat) ∧
     ((portIn 1) : State).portExists (0 : Fin 256) = true ∧
     (bits (0xF00101 : Word) 1 0 = ((portIn 1) : State).portState (0 : Fin 256) ∨ bits (0xF00101 : Word) 1 0 = 3) ∧ bits (0xF00101 : Word) 1 0 < 2 ∧
     ((portIn 1) : State).portState (0 : Fin 256) < 2 ∧ (.core : Port) ≠ .host) ∧
    ((.core : Port) ≠ .maint ∧
     ((bits (0x102 : Word) 1 0 = 2 ∧ ((portIn 1) : State).portState (0 : Fin 256) < 2) ∨ (bits (0x102 : Word) 1 0 < 2 ∧ ((portIn 1) : State).portState (0 : Fin 256) = 2)) ∧
     WriteReaches ((portIn 1) : State) (.maint : Port) (portPage (0 : Fin 256)) ((Reg.Prc.PORT_CFG 0) : Nat) ∧
     ((.maint : Port) = .host ∨ (.maint : Port) = .maint) ∧ bits (0x102 : Word) 1 0 = 2 ∧
     WriteReaches ((portIn 2) : State) (.maint : Port) (portPage (0 : Fin 256)) ((Reg.Prc.PORT_CFG 0) : Nat) ∧
     ((portIn 2) : State).portExists (0 : Fin 256) = true ∧ bits (0x101 : Word) 1 0 < 2) ∧
    (((portIn 2) : State).portState (0 : Fin 256) = 2 ∧ WriteReaches follyUp (.maint : Port) (flyPage (0 : Fin 256)) ((Reg.Fly.FLY_CTL 0) : Nat) ∧
     follyUp.follyRun (0 : Fin 256) = none ∧ follyUp.follyRefused (0 : Fin 256) (((0 : Word) ||| 1) &&& 0xFFFF0FFF) = false ∧
     WriteReaches ((portIn 2) : State) (.maint : Port) (flyPage (0 : Fin 256)) ((Reg.Fly.FLY_CTL 0) : Nat) ∧
     ((portIn 2) : State).follyRun (0 : Fin 256) = none ∧
     ((portIn 2) : State).follyRefused (0 : Fin 256) (((0xFFFFF000 : Word) ||| 1) &&& 0xFFFF0FFF) = true ∧
     WriteReaches ((follyRunning 3) : State) (.maint : Port) (flyPage (0 : Fin 256)) ((Reg.Fly.FLY_CTL 0) : Nat)) ∧
    (((follyRunning 3) : State).follyRun (0 : Fin 256) = some fprog ∧ ((follyRunning 3) : State).fabricUp = true ∧
     fprog.held = h1 :: ([] : List FollyHeld) ∧ bitAt (((follyRunning 3) : State).flyReg (0 : Fin 256) 0) 8 = false ∧
     bitAt (((follyRunning 3) : State).flyReg (0 : Fin 256) 0) 1 = true ∧ ((follyRunning 1) : State).fabricUp = true ∧
     ((follyRunning 1) : State).follyRun (0 : Fin 256) = some fprog ∧ bitAt (((follyRunning 1) : State).flyReg (0 : Fin 256) 0) 8 = false) ∧
    (bitAt (((follyRunning 1) : State).flyReg (0 : Fin 256) 0) 1 = false ∧ ((follyRunning 0x101) : State).fabricUp = true ∧
     ((follyRunning 0x101) : State).follyRun (0 : Fin 256) = some fprog ∧ bitAt (((follyRunning 0x101) : State).flyReg (0 : Fin 256) 0) 8 = true ∧
     FollyRun.load { fprog with held := ([] : List FollyHeld) } + h1.octets.length ≤ 65536 ∧ fprog.delayed = d1 :: ([] : List FollyDelayed) ∧
     (s0.follyRun (255 : Fin 256) = none ∨ (s0.follyRun (255 : Fin 256)).any (·.held.isEmpty) = true) ∧
     (s0.follyRun (255 : Fin 256) = none ∨ (s0.follyRun (255 : Fin 256)).any (·.delayed.isEmpty) = true)) := by
  iterate 9 refine ⟨by decide +kernel, ?_⟩
  decide +kernel

/-! Ill-formed commands: each check of WellFormed refuses one. -/

theorem test_wf_tempConversion : Instr.wf (.tempConversion (List.replicate 7 0)) = false := by decide +kernel
theorem test_wf_tempConversion_range : Instr.wf (.tempConversion (List.replicate 8 2048)) = false := by decide +kernel
theorem test_wf_stateTransferReceived : Instr.wf (.stateTransferReceived (.ctx 65536 0 (zeros 64))) = false := by decide +kernel
theorem test_wf_digestRecordReceived : Instr.wf (.digestRecordReceived ⟨true, 0, 0, 0, 0, zeros 15⟩) = false := by decide +kernel
theorem test_wf_forwardedFrameReceived : Instr.wf (.forwardedFrameReceived (.numbered 32 0 [])) = false := by decide +kernel
theorem test_wf_slotRecordReceived : Instr.wf (.slotRecordReceived (List.replicate 7 0) 0 0 false 0) = false := by decide +kernel
theorem test_wf_sequenceCheckReceived : Instr.wf (.sequenceCheckReceived [(0, 32, 0)]) = false := by decide +kernel
theorem test_wf_keyReplicationReceived : Instr.wf (.keyReplicationReceived (.swapAt 8192 0)) = false := by decide +kernel
theorem test_wf_backupTempSample : Instr.wf (.backupTempSample 2048 0) = false := by decide +kernel
theorem test_wf_anticollision : Instr.wf (.anticollision 0 0 (zeros 5)) = false := by decide +kernel
theorem test_wf_select : Instr.wf (.select 1 (zeros 4) true) = false := by decide +kernel
theorem test_wf_noteStage : Instr.wf (.noteStage 0 (zeros 15) true []) = false := by decide +kernel
theorem test_wf_pwdAuth : Instr.wf (.pwdAuth (zeros 5) true []) = false := by decide +kernel
theorem test_wf_auth2 : Instr.wf (.auth2 (zeros 16) (zeros 15) true []) = false := by decide +kernel
theorem test_wf_proxyAnswerReceived : Instr.wf (.proxyAnswerReceived (some (5, 0))) = false := by decide +kernel
theorem test_wf_unlockResp : Instr.wf (.unlockResp (zeros 127)) = false := by decide +kernel
theorem test_wf_pcieLinkUp : Instr.wf (.pcieLinkUp 1 3 true) = false := by decide +kernel

end Sys2Proof.Tests
end

section
/-!
SUPPORT. What the Gatehouse does after an access where nothing waits at it, what it does with an access it refuses, and what a
register written under its access codes holds.
-/
namespace Sys2Proof.Machine

/-- Nothing at the Gatehouse goes on after an access: no write is held there (R499), and no proxy access is left to be performed as
NET (R500). -/
def State.gateIdle (s : State) : Prop := s.gate.held = [] ∧ s.gate.proxy.all (fun q => !q.net) = true

theorem State.quiet.gateIdle {s : State} (h : s.quiet) : s.gateIdle := by
  obtain ⟨_, hheld, hproxy, _⟩ := h
  exact ⟨hheld, hproxy⟩

theorem State.gateIdle_congr {s x : State} (hh : x.gate.held = s.gate.held) (hq : x.gate.proxy = s.gate.proxy) (h : s.gateIdle) :
    x.gateIdle := by
  unfold State.gateIdle
  rw [hh, hq]
  exact h

theorem State.proxyNet_peer {s : State} (h : s.gate.proxy.all (fun q => !q.net) = true) : s.proxyNet = s := by
  unfold State.proxyNet
  split
  · rfl
  · rename_i q hq
    rw [hq] at h
    rw [if_pos (by simpa using h)]

/-- With the Gatehouse idle nothing goes on after an access. -/
theorem State.gateIdle.released_proxyNet {x : State} (h : x.gateIdle) : x.released.proxyNet = x := by
  rw [State.released_nil h.1, State.proxyNet_peer h.2]

/-- An access at a register address is the fabric's write, where that leaves the Gatehouse idle. -/
theorem portWrite_writeAt {s x : State} {port : Port} {p o : Nat} {v : Word} (hup : s.fabricUp = true) (hp : p < 0x1000)
    (ho : o < 0x1000) (h4 : o % 4 = 0) (hx : s.heard.writeAt port p o v = x) (hi : x.gateIdle) :
    s.start.portWrite port p o v = x := by
  have hup' : s.heard.fabricUp = true := hup
  show (if !regAddr (regAt p o) then _ else if !s.heard.fabricUp then _
    else (s.heard.writeAt port (pageNo (regAt p o)) (pageOfs (regAt p o)) v).released.proxyNet) = x
  simp only [regAt_regAddr hp ho h4, regAt_pageNo ho, regAt_pageOfs ho, hup', hx, Bool.not_true, Bool.false_eq_true, if_false]
  exact hi.released_proxyNet

/-- A write that reaches a plain register under its access codes alone. -/
theorem portWrite_accessCodes {s : State} {port : Port} {p o n : Nat} {b : Blk} {v : Word} {r : RegSpec}
    (h : WriteReaches s port p o) (hb : blkOf p = some (b, n)) (hs : specOf p o = some r) (hr : plainReg p o = true)
    (hw : plainWritten b o = true) :
    s.start.portWrite port p o v = s.heard.setReg p o (r.merge (s.locked p) (s.reg p o) v) := by
  obtain ⟨hprc, hfly, _⟩ := plainWritten_single hw
  have hq : s.quiet := h.2.1
  have he : s.heard.blockWrite port b n p o v = s.heard.setReg p o (r.merge (s.locked p) (s.reg p o) v) := by
    rw [blockWrite_plain hb hw]
    unfold State.plainWrite
    rw [hs]
    rfl
  rw [busWrite_reaches (s := s.start) h hb hr (absentPort_other hprc hfly)]
  show (s.heard.blockWrite port b n p o v).released.proxyNet = _
  rw [he]
  exact State.gateIdle.released_proxyNet (State.gateIdle_congr (s := s) rfl rfl hq.gateIdle)

/-- Each bit of a register written under the access codes of R6. -/
theorem RegSpec.bitAt_merge (r : RegSpec) (locked : Bool) (old v : Word) (i : Nat)
    (h : ¬ (bitAt (r.mask .w1c) i = true ∧ (bitAt (r.mask .rw) i = true ∨ bitAt (r.mask .rwl) i = true))) (hi : i < 32) :
    bitAt (r.merge locked old v) i =
      if bitAt (r.mask .rw) i = true ∨ (bitAt (r.mask .rwl) i = true ∧ locked = false) then bitAt v i
      else if bitAt (r.mask .w1c) i = true then bitAt old i && !bitAt v i
      else bitAt old i := by
  have hw : bitAt (r.writable locked) i = (bitAt (r.mask .rw) i || (bitAt (r.mask .rwl) i && !locked)) := by
    cases locked <;> simp [bitAt, RegSpec.writable]
  have hm : bitAt (r.merge locked old v) i =
      (((bitAt old i && !bitAt (r.writable locked) i) || (bitAt v i && bitAt (r.writable locked) i)) &&
        !(bitAt v i && bitAt (r.mask .w1c) i)) := by
    simp [bitAt, RegSpec.merge, hi]
  rw [hm, hw]
  split
  · rename_i hset
    have h1 : bitAt (r.mask .w1c) i = false := by grind
    rcases hset with h2 | ⟨h2, h3⟩ <;> simp [*]
  · rename_i hkeep
    have h2 : (bitAt (r.mask .rw) i || (bitAt (r.mask .rwl) i && !locked)) = false := by grind
    split <;> simp [*]

/-- A write on the register fabric whose port the current write mask does not admit (FLY pages apart). -/
theorem writeAt_noMask {s : State} {port : Port} {p o n : Nat} {b : Blk} {v : Word} (hb : blkOf p = some (b, n)) (hf : b ≠ .fly)
    (hm : (s.masks (indexOf p)).writes port = false) : s.writeAt port p o v = s.authRefusal port p o := by
  unfold State.writeAt
  simp only [hb]
  rw [if_neg (fun h => hf h.1), hm]
  rfl

/-- A log entry leaves the Gatehouse idle where it was. -/
theorem State.gthLog_gateIdle {s : State} (k : Nat) (port : Option Port) (p o : Nat) (h : s.gateIdle) :
    (s.gthLog k port p o).gateIdle := State.gateIdle_congr (by simp) (by simp) h

/-- Registers after a command that logs: FLT_STA of GTH and CCP_IP apart, they read as before. -/
theorem State.done_gthLog_reg (s x : State) (k : Nat) (port : Option Port) (p o q u : Nat) (hu : u < 0x1000)
    (h1 : ¬ (q = pGth ∧ u = Reg.Hdr.FLT_STA)) (h2 : ¬ (q = pCcp ∧ u = Reg.Ccp.CCP_IP)) :
    (s.done (x.gthLog k port p o)).reg q u = x.reg q u := by
  rw [State.done_reg_other _ _ _ _ (key_ne hu (by decide) h2), State.gthLog_reg _ _ _ _ _ _ _ (key_ne hu (by decide) h1)]

/-- The FLT_STA bit of a logged kind stands after the command. -/
theorem State.done_gthLog_flag (s x : State) (k : Nat) (port : Option Port) (p o : Nat) (h : k ≤ 4) :
    (s.done (x.gthLog k port p o)).flag pGth Reg.Hdr.FLT_STA (k - 1) = true := by
  rw [State.done_flag_other _ _ _ _ _ (by decide), State.gthLog_flag _ _ _ _ _ h]

/-- The log after a command that logs an access of a port, at an offset of a page. -/
theorem State.done_gthLog_log (s x : State) (k : Nat) (port : Port) (p o : Nat) (ho : o < 0x1000) :
    (s.done (x.gthLog k (some port) p o)).gate.log = (if 32 ≤ x.gate.log.length then x.gate.log.drop 1 else x.gate.log) ++
      [⟨k, decide (32 ≤ x.gate.log.length), port.bit, p, o / 4⟩] := by
  rw [State.done_gate, State.gthLog_log, Nat.mod_eq_of_lt (show o / 4 < 1024 by omega)]
  rfl

/-- A malformed access while the fabric completes accesses: it is logged, and a read answers 0. -/
theorem State.badAccess_up {s : State} (port : Port) (a : Nat) (read : Bool) (h : s.fabricUp = true) :
    s.badAccess port a read = if read then (s.malformed port (pageNo a) (pageOfs a)).emit (.value 0)
      else s.malformed port (pageNo a) (pageOfs a) := by
  unfold State.badAccess
  rw [h]
  rfl

/-- A malformed access while the main domain is in reset: it is not logged. -/
theorem State.badAccess_down {s : State} (port : Port) (a : Nat) (read : Bool) (h : s.fabricUp = false) :
    s.badAccess port a read = if read then s.emit (.value 0) else s := by
  unfold State.badAccess
  rw [h]
  rfl

/-- The wires after a command that logs: vector 17 is sent where the link is up (R508). -/
theorem State.done_gthLog_out (s x : State) (k : Nat) (port : Option Port) (p o : Nat) (h : x.out = []) :
    (s.done (x.gthLog k port p o)).out = if x.hif.up then [.msix 17] else [] := by
  rw [State.done_out, State.gthLog_out, State.gthLog_hif, h]
  cases x.hif.up <;> rfl

/-- A word answered to a port reaches it with or without a link. -/
theorem State.done_emit_value_out (s x : State) (w : Word) : (s.done (x.emit (.value w))).out = (s.done x).out ++ [.value w] := by
  rw [State.done_out, State.emit_out, List.filter_append, State.emit_hif, State.done_out]
  rfl

theorem pageOfs_lt (a : Nat) : pageOfs a < 0x1000 := Nat.mod_lt _ (by decide)

end Sys2Proof.Machine
end

section
namespace Sys2Proof.Proofs
open Sys2Proof.Machine

/-- Settles O1: both cases of the queue are the two branches of `step`. -/
theorem stepRunsFrontCommand : Obligations.StepRunsFrontCommand := by
  unfold Obligations.StepRunsFrontCommand
  constructor
  · intro s c rest h
    unfold step
    rw [h]
  · intro s h
    unfold step
    rw [h]

/-- Settles O2: a well-formed command runs an effect, which `State.done` settles; any other ends in `illFormed`. -/
theorem commandsAnswer : Obligations.CommandsAnswer := by
  unfold Obligations.CommandsAnswer
  constructor
  · intro c s h
    obtain ⟨f, hf⟩ := exec_runs s c h
    exact ⟨s.done (f s.start), hf.trans (run_done s f), State.done_pending _ _, State.done_settled _ _⟩
  · intro c s h
    exact exec_illFormed s c h

/-- Settles O6: the write reaches its register, which takes the word merged bit by bit under its access codes. -/
theorem accessCodesOfAWrite : Obligations.AccessCodesOfAWrite := by
  unfold Obligations.AccessCodesOfAWrite
  intro s port p o n b r v hw hb hs hr hplain hbits
  have ho : o < 0x1000 := by
    simp only [plainReg, Bool.and_eq_true, decide_eq_true_eq] at hr
    omega
  refine ⟨r.merge (s.locked p) (s.reg p o) v, ?_, fun i hi => r.bitAt_merge _ _ _ i (hbits i hi) hi⟩
  rw [exec_regWrite port v s (blkOf_lt hb) ho, portWrite_accessCodes hw hb hs hr hplain]

/-- Settles O7: the refused write logs, and a log entry changes the log, FLT_STA of GTH and the level interrupt alone. -/
theorem writeWithoutAuthority : Obligations.WriteWithoutAuthority := by
  unfold Obligations.WriteWithoutAuthority
  intro s port p o n b v hup hq hb hf ho h4 hm
  refine ⟨s.done (s.heard.gthLog 1 (some port) p o), ?_, State.done_gthLog_log _ _ _ _ _ _ ho, State.done_gthLog_flag _ _ _ _ _ _ (by decide),
    fun q u hu h1 h2 => State.done_gthLog_reg _ _ _ _ _ _ _ _ hu h1 h2, ?_⟩
  · rw [exec_regWrite port v s (blkOf_lt hb) ho]
    exact congrArg (fun x => Host.Outcome.next (s.done x)) (portWrite_writeAt hup (blkOf_lt hb) ho h4
      (writeAt_noMask (s := s.heard) hb hf hm) (State.gthLog_gateIdle _ _ _ _ hq.gateIdle))
  · simp [State.heard]

/-- Settles O8: the access is one log entry, and a read one answer besides. -/
theorem malformedAccessIsLogged : Obligations.MalformedAccessIsLogged := by
  unfold Obligations.MalformedAccessIsLogged
  constructor
  · intro s port addr read hup
    have ho := pageOfs_lt addr.toNat
    refine ⟨_, exec_malformedAccess port addr read s, ?_⟩
    rw [State.badAccess_up (s := s.start) port addr.toNat read hup]
    unfold State.malformed
    have hout := State.done_gthLog_out s s.start logMalformed (some port) (pageNo addr.toNat) (pageOfs addr.toNat) rfl
    cases read with
    | false =>
      refine ⟨State.done_gthLog_log _ _ _ _ _ _ ho, State.done_gthLog_flag _ _ _ _ _ _ (by decide), ?_,
        fun q u hu h1 h2 => State.done_gthLog_reg _ _ _ _ _ _ _ _ hu h1 h2, State.gthLog_mem ..⟩
      exact hout.trans (List.append_nil _).symm
    | true =>
      refine ⟨State.done_gthLog_log s s.start _ _ _ _ ho, State.done_gthLog_flag s s.start 3 _ _ _ (by decide), ?_,
        fun q u hu h1 h2 => State.done_gthLog_reg s s.start _ _ _ _ _ _ hu h1 h2, State.gthLog_mem s.start ..⟩
      exact (State.done_emit_value_out _ _ _).trans (congrArg (· ++ _) hout)
  · intro s port addr read hdown
    rw [exec_malformedAccess, State.badAccess_down (s := s.start) port addr.toNat read hdown]

end Sys2Proof.Proofs
end

section
/-!
SUPPORT. A write of CLAIM bit by bit (R17): what one bit does, and what the bits up to k leave.
-/
namespace Sys2Proof.Machine

/-- Bit i of a write of CLAIM, with what was refused so far, where `old` is the state before the write (R17). -/
def State.claimStep (old : State) (b : Blk) (p : Nat) (v : Word) (x : Bool × State) (i : Nat) : Bool × State :=
  if !b.claimMask.testBit i then x
  else if !bitAt v i then (x.1, x.2.setFlag p Reg.Hdr.CLAIM i false)
  else if x.2.flag p Reg.Hdr.CLAIM i then x
  else if old.claimTaken b p i || x.2.claimTaken b p i then (true, x.2)
  else (x.1, x.2.setFlag p Reg.Hdr.CLAIM i true)

/-- The bits of a write of CLAIM below k. -/
def State.claimBits (s : State) (b : Blk) (p : Nat) (v : Word) (k : Nat) : Bool × State :=
  (List.range k).foldl (s.claimStep b p v) (false, s)

/-- A write of CLAIM of a page other than the Sundial's is its 24 bits, and a log entry where one was refused. -/
theorem State.claimWrite_eq (s : State) (port : Port) (b : Blk) (p : Nat) (v : Word) (h : b ≠ .sdl) :
    s.claimWrite port b p v = if (s.claimBits b p v 24).1 then (s.claimBits b p v 24).2.gthLog logClaim (some port) p Reg.Hdr.CLAIM
      else (s.claimBits b p v 24).2 := by
  show (if b = .sdl then _ else _) = _
  rw [if_neg h]
  rfl

/-- Bit i of a write of CLAIM is refused: the page does not hold it and it is held elsewhere. -/
def State.claimRefused (s : State) (b : Blk) (p : Nat) (v : Word) (i : Nat) : Bool :=
  b.claimMask.testBit i && bitAt v i && !s.flag p Reg.Hdr.CLAIM i && s.claimTaken b p i

/-- What bit i of CLAIM reads after a write. -/
def State.claimAfter (s : State) (b : Blk) (p : Nat) (v : Word) (i : Nat) : Bool :=
  if b.claimMask.testBit i then bitAt v i && (s.flag p Reg.Hdr.CLAIM i || !s.claimTaken b p i) else s.flag p Reg.Hdr.CLAIM i

/-- What the bits below k of a write of CLAIM leave: each has its value and its refusal, and nothing else changed. -/
structure State.ClaimedTo (s : State) (b : Blk) (p : Nat) (v : Word) (k : Nat) (x : Bool × State) : Prop where
  refused : x.1 = (List.range k).any (s.claimRefused b p v)
  flags : ∀ j, x.2.flag p Reg.Hdr.CLAIM j = if j < k then s.claimAfter b p v j else s.flag p Reg.Hdr.CLAIM j
  others : ∀ q u, u < 0x1000 → q ≠ p → x.2.reg q u = s.reg q u
  gate : x.2.gate = s.gate

/-- Whether a claim of the fabric page or a FLY page is taken is up to the other pages. -/
theorem State.claimTaken_congr {s t : State} {b : Blk} {p n : Nat} (hb : blkOf p = some (b, n)) (hpf : b = .prm ∨ b = .fly)
    (h : ∀ q u, u < 0x1000 → q ≠ p → t.reg q u = s.reg q u) (i : Nat) : t.claimTaken b p i = s.claimTaken b p i := by
  have hflag : ∀ q, q ≠ p → t.flag q Reg.Hdr.CLAIM i = s.flag q Reg.Hdr.CLAIM i := fun q hq => by
    unfold State.flag
    rw [h q _ (by decide) hq]
  have hfly : (List.range 16).any (fun c => decide (pFly c ≠ p) && t.flag (pFly c) Reg.Hdr.CLAIM i) =
      (List.range 16).any (fun c => decide (pFly c ≠ p) && s.flag (pFly c) Reg.Hdr.CLAIM i) := by
    congr 1
    funext c
    by_cases hc : pFly c = p
    · simp [hc]
    · rw [hflag _ hc]
  obtain ⟨hpage, _, hflyPage, _⟩ := blkOf_cases hb
  unfold State.claimTaken
  rcases hpf with rfl | rfl
  · have hp : p = 0x200 := hpage (by decide)
    simp only [hfly, hflag pSdl (by rw [hp]; decide)]
  · obtain ⟨hp, _⟩ := hflyPage rfl
    simp only [hfly, hflag pSdl (show 0x080 ≠ p by omega), hflag pPrm (show 0x200 ≠ p by omega)]

/-- Setting a bit of CLAIM changes that bit alone. -/
theorem State.ClaimedTo.set {s : State} {b : Blk} {p k : Nat} {v : Word} {x : Bool × State} (h : s.ClaimedTo b p v k x) (hk : k < 32)
    (w : Bool) (hw : w = s.claimAfter b p v k) (hr : s.claimRefused b p v k = false) :
    s.ClaimedTo b p v (k + 1) (x.1, x.2.setFlag p Reg.Hdr.CLAIM k w) where
  refused := by rw [List.range_succ, List.any_append, ← h.refused]; simp [hr]
  flags j := by
    show (x.2.setFlag p Reg.Hdr.CLAIM k w).flag p Reg.Hdr.CLAIM j = _
    rw [State.flag_setFlag _ _ _ _ _ _ _ _ hk, h.flags]
    rcases Nat.lt_trichotomy j k with hj | rfl | hj
    · rw [if_neg (by omega), if_pos hj, if_pos (by omega)]
    · rw [if_pos ⟨rfl, rfl⟩, if_pos (by omega), hw]
    · rw [if_neg (by omega), if_neg (by omega), if_neg (by omega)]
  others q u hu hq := by
    show (x.2.setFlag p Reg.Hdr.CLAIM k w).reg q u = _
    rw [State.reg_setFlag, if_neg (key_ne hu (by decide) (fun e => hq e.1)), h.others q u hu hq]
  gate := (State.setFlag_gate ..).trans h.gate

/-- Leaving a bit of CLAIM as it is, refused or not. -/
theorem State.ClaimedTo.keep {s : State} {b : Blk} {p k : Nat} {v : Word} {x : Bool × State} (h : s.ClaimedTo b p v k x)
    (hw : s.flag p Reg.Hdr.CLAIM k = s.claimAfter b p v k) (y : Bool) (hr : y = (x.1 || s.claimRefused b p v k)) :
    s.ClaimedTo b p v (k + 1) (y, x.2) where
  refused := by rw [List.range_succ, List.any_append, ← h.refused]; simp [hr]
  flags j := by
    show x.2.flag p Reg.Hdr.CLAIM j = _
    rw [h.flags]
    rcases Nat.lt_trichotomy j k with hj | rfl | hj
    · rw [if_pos hj, if_pos (by omega)]
    · rw [if_neg (by omega), if_pos (by omega), hw]
    · rw [if_neg (by omega), if_neg (by omega)]
  others := h.others
  gate := h.gate

/-- One more bit of a write of CLAIM of the fabric page or a FLY page. -/
theorem State.ClaimedTo.step {s : State} {b : Blk} {p n k : Nat} {v : Word} {x : Bool × State} (hb : blkOf p = some (b, n))
    (hpf : b = .prm ∨ b = .fly) (hk : k < 32) (h : s.ClaimedTo b p v k x) : s.ClaimedTo b p v (k + 1) (s.claimStep b p v x k) := by
  have htaken : x.2.claimTaken b p k = s.claimTaken b p k := State.claimTaken_congr hb hpf h.others k
  have hheld : x.2.flag p Reg.Hdr.CLAIM k = s.flag p Reg.Hdr.CLAIM k := by rw [h.flags, if_neg (by omega)]
  unfold State.claimStep
  rw [htaken, hheld, Bool.or_self]
  by_cases hm : b.claimMask.testBit k = true
  · rw [hm, Bool.not_true, if_neg (by decide)]
    by_cases hv : bitAt v k = true
    · rw [hv, Bool.not_true, if_neg (by decide)]
      by_cases hf : s.flag p Reg.Hdr.CLAIM k = true
      · rw [if_pos hf]
        exact h.keep (by simp [State.claimAfter, hm, hv, hf]) _ (by simp [State.claimRefused, hf])
      · rw [if_neg hf]
        have hf' : s.flag p Reg.Hdr.CLAIM k = false := by simpa using hf
        by_cases ht : s.claimTaken b p k = true
        · rw [if_pos ht]
          exact h.keep (by simp [State.claimAfter, hm, hv, hf', ht]) _ (by simp [State.claimRefused, hm, hv, hf', ht])
        · rw [if_neg ht]
          exact h.set hk _ (by simp [State.claimAfter, hm, hv, ht]) (by simp [State.claimRefused, ht])
    · rw [if_pos (by simpa using hv)]
      exact h.set hk _ (by simp [State.claimAfter, hm, hv]) (by simp [State.claimRefused, hv])
  · rw [if_pos (by simpa using hm)]
    exact h.keep (by simp [State.claimAfter, hm]) _ (by simp [State.claimRefused, hm])

/-- The bits below k of a write of CLAIM of the fabric page or a FLY page. -/
theorem State.claimBits_claimedTo (s : State) {b : Blk} {p n : Nat} (v : Word) (hb : blkOf p = some (b, n))
    (hpf : b = .prm ∨ b = .fly) : ∀ k, k ≤ 32 → s.ClaimedTo b p v k (s.claimBits b p v k)
  | 0, _ => ⟨rfl, fun j => by rw [if_neg (by omega)]; rfl, fun _ _ _ _ => rfl, rfl⟩
  | k + 1, hk => by
    unfold State.claimBits
    rw [List.range_succ, List.foldl_append]
    exact (s.claimBits_claimedTo v hb hpf k (by omega)).step hb hpf (by omega)

/-- A write of CLAIM that reaches the header. -/
theorem portWrite_claim {s : State} {port : Port} {p n : Nat} {b : Blk} {v : Word} (h : WriteReaches s port p Reg.Hdr.CLAIM)
    (hb : blkOf p = some (b, n)) (hi : (s.heard.claimWrite port b p v).gateIdle) :
    s.start.portWrite port p Reg.Hdr.CLAIM v = s.heard.claimWrite port b p v := by
  rw [busWrite_header (s := s.start) h hb (blkOf_lt hb) (by decide) (by decide)]
  exact hi.released_proxyNet

end Sys2Proof.Machine
end

section
namespace Sys2Proof.Proofs
open Sys2Proof.Machine

/-- Settles O10: the write of CLAIM bit by bit, each bit up to the pages that hold it before the write. -/
theorem firstClaimWins : Obligations.FirstClaimWins := by
  unfold Obligations.FirstClaimWins
  intro s port p n b v hw hb hpf
  have hc := s.heard.claimBits_claimedTo v hb hpf 24 (by decide)
  have hsdl : b ≠ .sdl := by rintro rfl; simp at hpf
  obtain ⟨⟨bad, x⟩, hx⟩ : ∃ y, y = s.heard.claimBits b p v 24 := ⟨_, rfl⟩
  have he := s.heard.claimWrite_eq port b p v hsdl
  rw [← hx] at hc he
  obtain ⟨hbad, hflags, _, hgate⟩ := hc
  dsimp only at hbad hflags hgate he
  have hidle : x.gateIdle := State.gateIdle_congr (s := s) (by rw [hgate]; rfl) (by rw [hgate]; rfl) hw.2.1.gateIdle
  have hflag : ∀ i < 24, (s.done (s.heard.claimWrite port b p v)).flag p Reg.Hdr.CLAIM i = s.claimAfter b p v i := fun i hi => by
    rw [State.done_flag_other _ _ _ _ _ (key_ne (by decide) (by decide) (by rintro ⟨_, h⟩; exact absurd h (by decide))), he]
    have hxi := hflags i
    rw [if_pos hi] at hxi
    split
    · unfold State.flag
      rw [State.gthLog_reg _ _ _ _ _ _ _ (key_ne (by decide) (by decide) (by rintro ⟨_, h⟩; exact absurd h (by decide)))]
      exact hxi
    · exact hxi
  refine ⟨s.done (s.heard.claimWrite port b p v), ?_, fun i hi hm => ?_, fun i hi hm => ?_, ?_, ?_⟩
  · rw [exec_claimWrite, portWrite_claim hw hb]
    rw [he]
    split
    · exact State.gthLog_gateIdle _ _ _ _ hidle
    · exact hidle
  · rw [hflag i hi, State.claimAfter, if_pos hm]
  · rw [hflag i hi, State.claimAfter, if_neg (by rw [hm]; decide)]
  · rintro ⟨i, hi, hm, hv, hf, ht⟩
    have hb' : bad = true := by
      rw [hbad, List.any_eq_true]
      refine ⟨i, List.mem_range.2 hi, ?_⟩
      show s.claimRefused b p v i = true
      simp [State.claimRefused, hm, hv, hf, ht]
    rw [he, if_pos hb', State.done_gthLog_log _ _ _ _ _ _ (by decide), hgate]
    rfl
  · intro hall
    have hb' : bad = false := by
      rw [hbad, List.any_eq_false]
      intro i hi
      show ¬ s.claimRefused b p v i = true
      simp only [State.claimRefused, Bool.and_eq_true, Bool.not_eq_true', not_and, Bool.not_eq_true, and_imp]
      intro hm hv hf
      rcases hall i (List.mem_range.1 hi) hm hv with h | h
      · rw [hf] at h; cases h
      · exact h
    rw [he, hb', if_neg (by decide), State.done_gate, hgate]
    rfl

end Sys2Proof.Proofs
end

section
/-!
SUPPORT. The shadow protocol (R18, R19): a write that arrives at its page, the two steps of a pair, and a pair of AOUT_SAFE.
-/
namespace Sys2Proof.Machine

/-- What the register rules of a page that admit a write say of its block. -/
theorem portAdmits_rules {port : Port} {p o n : Nat} {b : Blk} (h : portAdmits port p o = true) (hb : blkOf p = some (b, n)) :
    State.ruledOut b port o = false ∧ ¬ (b = .fly ∧ port ≠ .host ∧ port ≠ .maint) := by
  simp only [portAdmits, hb, Bool.and_eq_true, Bool.or_eq_true, Bool.not_eq_true', bne_iff_ne, ne_eq, beq_iff_eq] at h
  refine ⟨h.1, ?_⟩
  rintro ⟨hfly, hhost, hmaint⟩
  exact h.2.elim (fun h => h.elim (· hfly) hhost) hmaint

/-- A write of a port whose authority the page admits arrives, unless it waits behind a pair. -/
theorem writeAt_deliver {s : State} {port : Port} {p o n : Nat} {b : Blk} {v : Word} (hb : blkOf p = some (b, n))
    (hf : ¬ (b = .fly ∧ port ≠ .host ∧ port ≠ .maint)) (hm : (s.masks (indexOf p)).writes port = true)
    (hw : s.waits port p o = false) : s.writeAt port p o v = s.deliver port b n p o v := by
  unfold State.writeAt
  simp only [hb]
  rw [if_neg hf, hm, Bool.not_true, if_neg (by decide)]
  unfold State.passOn
  rw [hw, if_neg (by decide)]

/-- No write waits behind a pair of its own port, the only one pending. -/
theorem State.waits_own {s : State} {port : Port} {p o u : Nat} {v : Word} (h : s.gate.pairs = [⟨p, u, v, port⟩]) :
    s.waits port p o = false := by
  unfold State.waits
  rw [h]
  simp

/-- The inverted shadow of a shadowed register. -/
theorem shadowOf_shadowed {p o : Nat} {r : RegSpec} (hs : specOf p o = some r) (hr : r.shadowed = true) :
    shadowOf p (0x800 + o) = some o := by
  unfold shadowOf
  rw [if_neg (by omega), Nat.add_sub_cancel_left, hs]
  exact if_pos hr

/-- The first step of a pair where none is pending. -/
theorem State.pairFirst_none {s : State} {port : Port} {p o : Nat} {v : Word} (h : s.gate.pairs = []) :
    s.pairFirst port p o v = { s with gate.pairs := [⟨p, o, v, port⟩] } := by
  have hp : s.pairIn p = none := by unfold State.pairIn; rw [h]; rfl
  unfold State.pairFirst
  rw [hp]
  show ({ s with gate.pairs := _ :: s.gate.pairs } : State) = _
  rw [h]

/-- Dropping the only pair pending leaves none. -/
theorem State.dropPair_only {s : State} {q : PendingPair} (h : s.gate.pairs = [q]) :
    s.dropPair q.page = { s with gate.pairs := [] } := by
  unfold State.dropPair
  rw [h]
  simp

theorem State.pairIn_only {s : State} {q : PendingPair} (h : s.gate.pairs = [q]) : s.pairIn q.page = some q := by
  unfold State.pairIn
  rw [h]
  simp

/-- The second step of the only pair pending: the exact inverse completes it, any other word is an event of case 1. -/
theorem State.pairSecond_only {s : State} {port port' : Port} {b : Blk} {p o : Nat} {v w : Word} (h : s.gate.pairs = [⟨p, o, v, port'⟩]) :
    s.pairSecond port b p o w = if w = ~~~v then ({ s with gate.pairs := [] } : State).pairDone port b p o v
      else ({ s with gate.pairs := [] } : State).shadowEvent p o 1 := by
  have hp : s.pairIn p = some ⟨p, o, v, port'⟩ := State.pairIn_only h
  have hd : s.dropPair p = { s with gate.pairs := [] } := State.dropPair_only h
  unfold State.pairSecond
  rw [hp]
  dsimp only
  rw [hd]
  by_cases hw : w = ~~~v
  · rw [if_pos ⟨rfl, hw⟩, if_pos hw]
  · rw [if_neg (fun h => hw h.2), if_neg hw]

/-- A first step that reaches its page. -/
theorem portWrite_pairFirst {s : State} {port : Port} {p o n : Nat} {b : Blk} {v : Word} {r : RegSpec} (h : WriteReaches s port p o)
    (hb : blkOf p = some (b, n)) (ho : 0x40 ≤ o) (ho' : o < 0x800) (h4 : o % 4 = 0) (hs : specOf p o = some r) (hr : r.shadowed = true)
    (ha : s.absentPort b n o = false) :
    s.start.portWrite port p o v = { s.heard with gate.pairs := [⟨p, o, v, port⟩] } := by
  obtain ⟨hup, hq, hm, hadm, hbusy, hchk⟩ := h
  obtain ⟨hpairs, _, _, hbst⟩ := id hq
  obtain ⟨hrule, hfly⟩ := portAdmits_rules hadm hb
  refine portWrite_writeAt hup (blkOf_lt hb) (by omega) h4 ?_ (State.gateIdle_congr (s := s) rfl rfl hq.gateIdle)
  have hwait : s.heard.waits port p o = false := by
    unfold State.waits
    rw [show s.heard.gate.pairs = [] from hpairs]
    simp
  have ha' : s.heard.absentPort b n o = false := ha
  rw [writeAt_deliver (s := s.heard) hb hfly hm hwait, deliver_eq (s := s.heard) hbusy hbst hchk, shadowOf_low ho']
  simp only [show ¬ o < 0x040 by omega, if_false, hs, ha', hrule, hr, Bool.false_eq_true, if_true]
  exact State.pairFirst_none (s := s.heard) hpairs

/-- A second step of a port's own pair, the only one pending, that reaches its page. -/
theorem portWrite_pairSecond {s x : State} {port : Port} {p o n : Nat} {b : Blk} {v w : Word} {r : RegSpec}
    (h : WriteReaches { s with gate.pairs := [] } port p o) (hpair : s.gate.pairs = [⟨p, o, v, port⟩]) (hb : blkOf p = some (b, n))
    (ho : o < 0x800) (h4 : o % 4 = 0) (hs : specOf p o = some r) (hr : r.shadowed = true)
    (hx : s.heard.pairSecond port b p o w = x) (hh : x.gate.held = s.gate.held) (hp : x.gate.proxy = s.gate.proxy) :
    s.start.portWrite port p (0x800 + o) w = x := by
  obtain ⟨hup, hq, hm, hadm, hbusy, hchk⟩ := h
  obtain ⟨_, _, _, hbst⟩ := id hq
  have hidle : s.gateIdle := State.quiet.gateIdle (s := { s with gate.pairs := [] }) hq
  obtain ⟨_, hfly⟩ := portAdmits_rules hadm hb
  refine portWrite_writeAt hup (blkOf_lt hb) (by omega) (by omega) ?_ (State.gateIdle_congr hh hp hidle)
  rw [writeAt_deliver (s := s.heard) hb hfly hm (State.waits_own (s := s.heard) hpair),
    deliver_eq (s := s.heard) hbusy hbst hchk, shadowOf_shadowed hs hr]
  exact hx

/-- The end of a difference found in a register is the Hedge's alone. -/
theorem State.mismatchOver_keeps (s : State) (k : Nat) : (s.mismatchOver k).gate = s.gate ∧ (s.mismatchOver k).regs = s.regs := by
  unfold State.mismatchOver
  dsimp only
  split <;> exact ⟨rfl, rfl⟩

/-- A difference found for the first time is noted, source 7 is active, and the event is one of case 5. -/
theorem State.shadowMismatch_new {s : State} {p o : Nat} (h : s.hdg.mismatch.contains (regKey p o) = false) :
    ∃ x : State, x.hdg.mismatch = regKey p o :: s.hdg.mismatch ∧ x.hdg.active.contains 7 = true ∧ x.otp = s.otp ∧
      s.shadowMismatch p o = x.shadowEvent p o 5 := by
  obtain ⟨s1, hs1⟩ : ∃ s1 : State, s1 = { s with hdg.mismatch := regKey p o :: s.hdg.mismatch } := ⟨_, rfl⟩
  obtain ⟨x, hx⟩ : ∃ x : State, x = if s1.hdg.active.contains 7 then s1 else { s1 with hdg.active := 7 :: s1.hdg.active } := ⟨_, rfl⟩
  have he : s.shadowMismatch p o = if s.hdg.mismatch.contains (regKey p o) then s else x.shadowEvent p o 5 := by
    rw [hx, hs1]
    rfl
  refine ⟨x, ?_, ?_, ?_, by rw [he, h, if_neg (by decide)]⟩
  · rw [hx]
    split <;> rw [hs1]
  · rw [hx]
    split
    · assumption
    · rfl
  · rw [hx]
    split <;> rw [hs1]

/-- AOUT_SAFE is shadowed in every bit (R83). -/
theorem aoutSafe_mask {o : Nat} (ho : o = Reg.Ldg.AOUT_SAFE 0 ∨ o = Reg.Ldg.AOUT_SAFE 1) :
    ∃ r, specOf pLdg o = some r ∧ r.mask .rwp = BitVec.allOnes 32 := by
  rcases ho with rfl | rfl
  · exact ⟨_, rfl, by decide⟩
  · exact ⟨_, rfl, by decide⟩

/-- A completed pair of AOUT_SAFE: the register takes the whole word, and nothing else but the balls and the Hedge's difference
follows. -/
theorem State.pairDone_aoutSafe (s : State) (port : Port) (o : Nat) (v : Word)
    (ho : o = Reg.Ldg.AOUT_SAFE 0 ∨ o = Reg.Ldg.AOUT_SAFE 1) :
    (s.pairDone port .ldg pLdg o v).gate = s.gate ∧
      ∀ q u, (s.pairDone port .ldg pLdg o v).reg q u = if regKey q u = regKey pLdg o then v else s.reg q u := by
  obtain ⟨r, hs, hmask⟩ := aoutSafe_mask ho
  obtain ⟨hgate, hregs⟩ := s.mismatchOver_keeps (regKey pLdg o)
  have hw : o ≠ Reg.Ldg.WDG_CFG := by rcases ho with rfl | rfl <;> decide
  have hd : s.pairDone port .ldg pLdg o v = ((s.mismatchOver (regKey pLdg o)).setReg pLdg o v).refreshBalls := by
    unfold State.pairDone
    dsimp only
    rw [if_neg hw]
    unfold State.pairStore
    rw [hs]
    dsimp only
    rw [hmask, BitVec.not_allOnes, BitVec.and_zero, BitVec.zero_or, BitVec.and_allOnes]
  rw [hd]
  refine ⟨hgate, fun q u => ?_⟩
  rw [State.refreshBalls_reg, State.reg_setReg]
  simp only [State.reg, hregs]

end Sys2Proof.Machine
end

section
namespace Sys2Proof.Proofs
open Sys2Proof.Machine

/-- Settles O11: each step of the protocol from the state of the pair in its page, its events by `shadowEvent_facts`. -/
theorem shadowPairs : Obligations.ShadowPairs := by
  unfold Obligations.ShadowPairs
  refine ⟨?_, ?_, ?_, ?_, ?_⟩
  · intro s port p o v b n r h hb ho h4 hs hr ha
    rw [exec_shadowPrimaryWrite, portWrite_pairFirst h hb ho o.isLt h4 hs hr ha]
  · intro s port p o v w b n r h hpair hb h4 hs hr
    refine ⟨_, exec_shadowInverseWrite port p o w s, ?_, ?_⟩
    · rintro rfl rfl ho
      have hp : p.val = pLdg := blkOf_page hb (by decide) (by decide) (by decide)
      obtain ⟨hgate, hreg⟩ := ({ s.heard with gate.pairs := [] } : State).pairDone_aoutSafe port o v ho
      rw [hp] at h hpair hb hs ⊢
      rw [portWrite_pairSecond h hpair hb o.isLt h4 hs hr ((State.pairSecond_only (s := s.heard) hpair).trans (if_pos rfl))
        (by rw [hgate]; rfl) (by rw [hgate]; rfl)]
      have ho' : o.val < 0x1000 := by omega
      refine ⟨by rw [State.done_gate, hgate], ?_, fun q u hu h1 h2 => ?_⟩
      · rw [State.done_reg_other _ _ _ _ (key_ne ho' (by decide) (by rintro ⟨h, _⟩; exact absurd h (by decide))), hreg, if_pos rfl]
      · rw [State.done_reg_other _ _ _ _ (key_ne hu (by decide) h2), hreg, if_neg (key_ne hu ho' h1)]
        rfl
    · intro hw hforced
      obtain ⟨hpairs, hheld, hproxy, _, hreg, hlog, _⟩ := shadowEvent_facts { s.heard with gate.pairs := [] } p o 1 hforced
      rw [portWrite_pairSecond h hpair hb o.isLt h4 hs hr ((State.pairSecond_only (s := s.heard) hpair).trans (if_neg hw)) hheld hproxy]
      refine ⟨hpairs, ?_, fun q u hu h1 h2 => ?_⟩
      · rw [State.done_reg_other _ _ _ _ (by decide), hlog, Nat.mod_eq_of_lt p.isLt]
      · rw [State.done_reg_other _ _ _ _ (key_ne hu (by decide) (fun e => h2 e.1)), hreg q u hu h1 h2]
        rfl
  · intro s p q hpair hpage hheld hforced
    obtain ⟨hpairs, hheld', _, _, _, hlog, hcnt⟩ := shadowEvent_facts { s.start with gate.pairs := [] } p q.off 2 hforced
    have he : s.start.windowExpiry p = ({ s.start with gate.pairs := [] } : State).shadowEvent p q.off 2 := by
      unfold State.windowExpiry
      rw [← hpage, State.pairIn_only (s := s.start) hpair]
      dsimp only
      rw [State.dropPair_only (s := s.start) hpair, hpage, State.released_nil (hheld'.trans hheld)]
    refine ⟨_, exec_shadowWindowExpiry p s, ?_⟩
    rw [he]
    refine ⟨hpairs, ?_, ?_⟩
    · rw [State.done_reg_other _ _ _ _ (by decide), hlog, Nat.mod_eq_of_lt p.isLt]
    · rw [State.done_fld_other _ _ _ _ _ _ (by decide), hcnt]
      rfl
  · intro s p o hnew hforced
    obtain ⟨x, hmis, hact, hotp, he⟩ := State.shadowMismatch_new (s := s.start) hnew
    obtain ⟨_, _, _, hhdg, _, hlog, _⟩ := shadowEvent_facts x p o 5 ((hdgForced_congr hotp 7).trans hforced)
    refine ⟨_, exec_shadowMismatch p o s, ?_⟩
    rw [he]
    refine ⟨by rw [State.done_hdg, hhdg, hmis]; rfl, by rw [State.done_hdg, hhdg]; exact hact, ?_⟩
    rw [State.done_reg_other _ _ _ _ (by decide), hlog, Nat.mod_eq_of_lt p.isLt]
  · intro s p o hold
    rw [exec_shadowMismatch]
    unfold State.shadowMismatch
    dsimp only
    rw [State.start_hdg, hold, if_pos rfl]

end Sys2Proof.Proofs
end

section
/-!
SUPPORT. What the operations that a block reset runs leave as it was: the Gatehouse, and the header of a page but for STA and
FLT_STA. The two are one value, `State.frame p`, so that an operation's frame is one equation.
-/
namespace Sys2Proof.Machine

/-- The offsets of a page header but for STA and FLT_STA. -/
def framedOffsets : List Nat := (List.range 0x40).filter (fun o => o != Reg.Hdr.STA && o != Reg.Hdr.FLT_STA)

/-- The Gatehouse, and the header of page p but for STA and FLT_STA. -/
def State.frame (p : Nat) (s : State) : Gate × List Word := (s.gate, framedOffsets.map (s.reg p))

theorem mem_framedOffsets {o : Nat} : o ∈ framedOffsets ↔ o < 0x40 ∧ o ≠ Reg.Hdr.STA ∧ o ≠ Reg.Hdr.FLT_STA := by
  simp [framedOffsets]

theorem State.frame_gate {p : Nat} {s t : State} (h : t.frame p = s.frame p) : t.gate = s.gate := congrArg Prod.fst h

theorem State.frame_reg {p : Nat} {s t : State} (h : t.frame p = s.frame p) {o : Nat} (ho : o < 0x40) (h1 : o ≠ Reg.Hdr.STA)
    (h2 : o ≠ Reg.Hdr.FLT_STA) : t.reg p o = s.reg p o :=
  List.map_inj_left.1 (congrArg Prod.snd h) o (mem_framedOffsets.2 ⟨ho, h1, h2⟩)

/-- A fold of an operation that keeps a part of the state keeps it. -/
theorem foldl_keeps {σ α β : Type} (f : σ → α → σ) (π : σ → β) (h : ∀ s a, π (f s a) = π s) (l : List α) (s : σ) :
    π (l.foldl f s) = π s := by
  induction l generalizing s with
  | nil => rfl
  | cons a l ih => exact (ih (f s a)).trans (h s a)

/-- What changes neither the Gatehouse nor a register keeps every page's frame. -/
theorem State.frame_congr {p : Nat} {s t : State} (hg : t.gate = s.gate) (hr : t.regs = s.regs) : t.frame p = s.frame p := by
  unfold State.frame State.reg
  rw [hg, hr]

/-- A choice between operations that both keep a page's frame. -/
theorem State.frame_ite {p : Nat} {c : Prop} [Decidable c] {s a b : State} (ha : a.frame p = s.frame p) (hb : b.frame p = s.frame p) :
    (if c then a else b).frame p = s.frame p := by
  split
  · exact ha
  · exact hb

/-! Register writes -/

/-- A write outside the framed header of a page. -/
theorem State.setReg_frame {p q u : Nat} (s : State) (w : Word) (h : ∀ o ∈ framedOffsets, regKey p o ≠ regKey q u) :
    (s.setReg q u w).frame p = s.frame p := by
  unfold State.frame
  rw [State.setReg_gate, List.map_inj_left.2 (fun o ho => by rw [State.reg_setReg, if_neg (h o ho)])]

/-- A write outside a page header, or to STA or FLT_STA. -/
theorem State.setReg_frame_body {p q u : Nat} (s : State) (w : Word)
    (h : (0x40 ≤ u ∧ u < 0x1000) ∨ u = Reg.Hdr.STA ∨ u = Reg.Hdr.FLT_STA) : (s.setReg q u w).frame p = s.frame p := by
  refine s.setReg_frame w (fun o ho => key_ne ?_ ?_ ?_)
  · have := (mem_framedOffsets.1 ho).1
    omega
  · rcases h with h | rfl | rfl
    · exact h.2
    · decide
    · decide
  · rintro ⟨_, rfl⟩
    obtain ⟨h1, h2, h3⟩ := mem_framedOffsets.1 ho
    rcases h with h | h | h
    · omega
    · exact h2 h
    · exact h3 h

/-- A write to another page. -/
theorem State.setReg_frame_page {p q u : Nat} (s : State) (w : Word) (h : p ≠ q) (hu : u < 0x1000) :
    (s.setReg q u w).frame p = s.frame p :=
  s.setReg_frame w (fun o ho => key_ne (by have := (mem_framedOffsets.1 ho).1; omega) hu (fun e => h e.1))

theorem State.setFld_frame_body {p q u : Nat} (s : State) (hi lo v : Nat)
    (h : (0x40 ≤ u ∧ u < 0x1000) ∨ u = Reg.Hdr.STA ∨ u = Reg.Hdr.FLT_STA) : (s.setFld q u hi lo v).frame p = s.frame p :=
  s.setReg_frame_body _ h

theorem State.setFlag_frame_body {p q u : Nat} (s : State) (i : Nat) (b : Bool)
    (h : (0x40 ≤ u ∧ u < 0x1000) ∨ u = Reg.Hdr.STA ∨ u = Reg.Hdr.FLT_STA) : (s.setFlag q u i b).frame p = s.frame p :=
  s.setReg_frame_body _ h

theorem State.countFld_frame_body {p q u : Nat} (s : State) (hi lo n : Nat)
    (h : (0x40 ≤ u ∧ u < 0x1000) ∨ u = Reg.Hdr.STA ∨ u = Reg.Hdr.FLT_STA) : (s.countFld q u hi lo n).frame p = s.frame p :=
  s.setReg_frame_body _ h

theorem State.setFlag_frame_page {p q u : Nat} (s : State) (i : Nat) (b : Bool) (h : p ≠ q) (hu : u < 0x1000) :
    (s.setFlag q u i b).frame p = s.frame p := s.setReg_frame_page _ h hu

/-- Registers written one after the other, all of them behind the header of page p. -/
theorem State.setRegs_frame {p q : Nat} (u stride : Nat) (ws : List Word) (s : State) (h : regKey p 0x40 ≤ regKey q u) :
    (s.setRegs q u stride ws).frame p = s.frame p := by
  induction ws generalizing s u with
  | nil => rfl
  | cons w ws ih =>
    unfold regKey at h
    refine (ih (u + stride) (s.setReg q u w) (by unfold regKey; omega)).trans (s.setReg_frame w (fun o ho => ?_))
    have := (mem_framedOffsets.1 ho).1
    unfold regKey
    omega

theorem State.setOctetRegs_frame {p q u : Nat} (s : State) (bs : List Byte) (h : regKey p 0x40 ≤ regKey q u) :
    (s.setOctetRegs q u bs).frame p = s.frame p := State.setRegs_frame u 4 _ s h

/-! Reports, interrupts and emissions -/

@[simp] theorem State.report_frame (p : Nat) (s : State) (r : Report) : (s.report r).frame p = s.frame p := rfl
@[simp] theorem State.reportCode_frame (p : Nat) (s : State) (q kind item cause cls addr : Nat) (inj : Bool) :
    (s.reportCode q kind item cause cls addr inj).frame p = s.frame p := rfl
@[simp] theorem State.emit_frame (p : Nat) (s : State) (e : Emission) : (s.emit e).frame p = s.frame p := rfl
@[simp] theorem State.irq_frame (p : Nat) (s : State) (i : Nat) : (s.irq i).frame p = s.frame p :=
  s.setFlag_frame_body _ _ (.inl (by decide))
@[simp] theorem State.faultItem_frame (p : Nat) (s : State) (q n kind item want : Nat) :
    (s.faultItem q n kind item want).frame p = s.frame p := s.setFlag_frame_body _ _ (.inr (.inr rfl))
@[simp] theorem State.fault_frame (p : Nat) (s : State) (q n : Nat) : (s.fault q n).frame p = s.frame p := s.faultItem_frame p q n 0 0 0
@[simp] theorem State.refreshBalls_frame (p : Nat) (s : State) : s.refreshBalls.frame p = s.frame p := rfl

/-! Memories, for the header of the Pergola's page: it owns none, so no injection waits there for one -/

theorem regionPage_ne_pgl (r : Nat) : pPgl ≠ regionPage r := by
  unfold regionPage
  repeat' split
  all_goals decide

@[simp] theorem State.setMark_frame (p : Nat) (s : State) (r w : Nat) (m : Option Mark) : (s.setMark r w m).frame p = s.frame p := by
  cases m <;> rfl

@[simp] theorem State.codeEvent_frame (p : Nat) (s : State) (r w cause : Nat) (inj : Bool) :
    (s.codeEvent r w cause inj).frame p = s.frame p := by
  unfold State.codeEvent
  refine (State.reportCode_frame ..).trans ?_
  split <;> exact s.setFlag_frame_body _ _ (.inl (by decide))

@[simp] theorem State.mramEvent_frame (p : Nat) (s : State) (r w : Nat) (unc inj : Bool) :
    (s.mramEvent r w unc inj).frame p = s.frame p := by
  unfold State.mramEvent
  refine (State.report_frame ..).trans ((State.setReg_frame_body _ _ (.inl (by decide))).trans ?_)
  have hsta : ∀ n, (s.setFlag pNvm Reg.Hdr.FLT_STA n true).frame p = s.frame p := fun n =>
    s.setFlag_frame_body _ _ (.inr (.inr rfl))
  split <;> exact (State.countFld_frame_body _ _ _ _ (.inl (by decide))).trans (hsta _)

@[simp] theorem State.decodeWord_frame (p : Nat) (s : State) (r w : Nat) : (s.decodeWord r w).2.frame p = s.frame p := by
  unfold State.decodeWord
  split
  · rfl
  · dsimp only
    (repeat' split) <;> simp

@[simp] theorem State.decodeWords_frame (p : Nat) (s : State) (r w n : Nat) : (s.decodeWords r w n).2.frame p = s.frame p := by
  induction n generalizing s w with
  | zero => rfl
  | succ n ih => exact (ih (s.decodeWord (wordHome r w).1 (wordHome r w).2).2 (w + 1)).trans (State.decodeWord_frame ..)

@[simp] theorem State.sendFlit_frame {p q : Nat} (h : p ≠ q) (s : State) : (s.sendFlit q).2.frame p = s.frame p := by
  have hset : ((s.setFlag q Reg.Hdr.FLT_INJ 16 false).setFlag q Reg.Hdr.FLT_INJ 17 true).frame p = s.frame p :=
    (State.setFlag_frame_page _ _ _ h (by decide)).trans (s.setFlag_frame_page _ _ h (by decide))
  unfold State.sendFlit
  dsimp only
  repeat' split
  · exact hset
  · exact hset
  · rfl

@[simp] theorem State.readMem_frame (s : State) (r a n : Nat) : (s.readMem r a n).2.2.frame pPgl = s.frame pPgl :=
  (State.sendFlit_frame (regionPage_ne_pgl r) _).trans (s.decodeWords_frame ..)

@[simp] theorem State.readWord_frame (s : State) (r a : Nat) : (s.readWord r a).2.2.frame pPgl = s.frame pPgl :=
  s.readMem_frame r a 4

@[simp] theorem State.storeCheck_frame (s : State) (r w : Nat) : (s.storeCheck r w).frame pPgl = s.frame pPgl := by
  unfold State.storeCheck
  split
  · exact s.setMark_frame ..
  · exact (State.setMark_frame ..).trans ((State.setFlag_frame_page _ _ _ (regionPage_ne_pgl r) (by decide)).trans
      (s.setFlag_frame_page _ _ (regionPage_ne_pgl r) (by decide)))

@[simp] theorem State.writeWordCode_frame (s : State) (r w : Nat) (whole : Bool) :
    (s.writeWordCode r w whole).frame pPgl = s.frame pPgl := by
  have hd := s.decodeWord_frame pPgl r w
  unfold State.writeWordCode
  split
  · exact s.storeCheck_frame r w
  · split
    · rename_i t ht
      rw [ht] at hd
      exact hd
    · rename_i t ht
      rw [ht] at hd
      exact (t.storeCheck_frame r w).trans hd

@[simp] theorem State.writeWordsCode_frame (s : State) (r a n w k : Nat) : (s.writeWordsCode r a n w k).frame pPgl = s.frame pPgl := by
  induction k generalizing s w with
  | zero => rfl
  | succ k ih => exact (ih _ _).trans (s.writeWordCode_frame ..)

@[simp] theorem State.writeMem_frame (s : State) (r a : Nat) (bs : List Byte) : (s.writeMem r a bs).frame pPgl = s.frame pPgl :=
  s.writeWordsCode_frame ..

@[simp] theorem State.writeWord_frame (s : State) (r a : Nat) (w : Word) : (s.writeWord r a w).frame pPgl = s.frame pPgl :=
  s.writeMem_frame ..

@[simp] theorem State.csramWrite_frame (s : State) (a : Nat) (bs : List Byte) : (s.csramWrite a bs).frame pPgl = s.frame pPgl :=
  s.writeMem_frame ..

@[simp] theorem State.poisonRead_frame (p : Nat) (s : State) (r a n : Nat) (control : Bool) :
    (s.poisonRead r a n control).frame p = s.frame p := rfl

end Sys2Proof.Machine
end

section
/-!
SUPPORT. Frames of what ends a channel program's run: events and captures, what it read and saved, and publications it completes.
-/
namespace Sys2Proof.Machine

/-! Budgets -/

@[simp] theorem State.noteHeld_frame (p : Nat) (s : State) : s.noteHeld.frame p = s.frame p := by
  unfold State.noteHeld
  split
  · rfl
  · exact s.fault_frame p pPgl 6

@[simp] theorem State.noteOver_frame (s : State) (c : Nat) : (s.noteOver c).frame pPgl = s.frame pPgl := by
  have hcnt : (State.countFld { s with pgl.exceeded := c :: s.pgl.exceeded } pPgl (Reg.Pgl.CLS_OVR (c - 0x10)) 15 0 1).frame pPgl =
      s.frame pPgl := State.setReg_frame _ _ (fun o ho => by
    have := (mem_framedOffsets.1 ho).1
    unfold regKey pPgl Reg.Pgl.CLS_OVR
    omega)
  unfold State.noteOver
  dsimp only
  split
  · rfl
  · (repeat' split) <;> simp [hcnt]

@[simp] theorem State.chargeWork_frame (s : State) (c n : Nat) : (s.chargeWork c n).2.frame pPgl = s.frame pPgl := by
  unfold State.chargeWork
  dsimp only
  repeat' split
  · rfl
  · rfl
  · exact (s.addCharge c n).noteOver_frame c

/-! Publications -/

@[simp] theorem State.setGoosePub_frame (p : Nat) (s : State) (i : Nat) (q : GoosePub) : (s.setGoosePub i q).frame p = s.frame p := rfl

@[simp] theorem State.pubSec_frame (p : Nat) (s : State) (sv : Bool) (i counter : Nat) : (s.pubSec sv i counter).2.frame p = s.frame p := by
  unfold State.pubSec
  dsimp only
  (repeat' split) <;> simp

@[simp] theorem State.pubCharge_frame (s : State) (q : PubSec) (n : Nat) : (s.pubCharge q n).frame pPgl = s.frame pPgl := by
  unfold State.pubCharge
  split
  · rfl
  · exact s.chargeWork_frame ..

@[simp] theorem State.pubBuilt_frame (s : State) (sv : Bool) (i st sq counter number : Nat) (apdu : Bool → List Byte) :
    (s.pubBuilt sv i st sq counter number apdu).frame pPgl = s.frame pPgl :=
  (State.pubCharge_frame (s.pubSec sv i counter).2 _ _).trans (s.pubSec_frame ..)

@[simp] theorem State.gooseBuild_frame (s : State) (i : Nat) : (s.gooseBuild i).frame pPgl = s.frame pPgl := by
  unfold State.gooseBuild
  exact s.pubBuilt_frame ..

@[simp] theorem State.gooseEval_frame (s : State) (i : Nat) : (s.gooseEval i).frame pPgl = s.frame pPgl := by
  unfold State.gooseEval
  dsimp only
  repeat' split
  · rfl
  · rfl
  · exact (State.gooseBuild_frame ..).trans (s.setGoosePub_frame ..)

@[simp] theorem State.evalAfter_frame (s : State) (e : Nat) : (s.evalAfter e).frame pPgl = s.frame pPgl := by
  unfold State.evalAfter
  refine foldl_keeps _ (State.frame pPgl) (fun s i => ?_) _ s
  dsimp only
  (repeat' split) <;> simp

/-! Events, captures and what a read of CTX_DATA does -/

@[simp] theorem State.stallHeld_frame (p : Nat) (s : State) : s.stallHeld.frame p = s.frame p := by
  unfold State.stallHeld
  split
  · exact State.fault_frame ..
  · rfl

@[simp] theorem State.stallOne_frame (p : Nat) (s : State) : s.stallOne.frame p = s.frame p := by
  unfold State.stallOne
  split <;> rfl

@[simp] theorem State.showCaps_frame (p : Nat) (s : State) : s.showCaps.frame p = s.frame p :=
  (State.setFlag_frame_body _ _ _ (.inr (.inl rfl))).trans (s.setFld_frame_body _ _ _ (.inl (by decide)))

@[simp] theorem State.capPut_frame (s : State) (ofs : Nat) (bs : List Byte) : (s.capPut ofs bs).frame pPgl = s.frame pPgl := by
  unfold State.capPut
  dsimp only
  (repeat' split) <;> simp

@[simp] theorem State.capTrigger_frame (s : State) (e : RingEvt) (d : Nat) : (s.capTrigger e d).frame pPgl = s.frame pPgl := by
  have hcnt : (s.countFld pPav Reg.Pav.CAP_STA 31 16 1).frame pPgl = s.frame pPgl := s.countFld_frame_body _ _ _ (.inl (by decide))
  have hwr : ∀ v, (s.setFld pPav Reg.Pav.CAP_WR 20 0 v).frame pPgl = s.frame pPgl :=
    fun v => s.setFld_frame_body _ _ v (.inl (by decide))
  unfold State.capTrigger
  exact State.frame_ite ((State.faultItem_frame ..).trans hcnt)
    ((State.showCaps_frame ..).trans ((State.capPut_frame ..).trans (hwr _)))

@[simp] theorem State.eventIn_frame (s : State) (entry : Nat) (stale : Bool) (q : EvtReq) :
    (s.eventIn entry stale q).frame pPgl = s.frame pPgl := by
  have hlost : (s.countFld pPav Reg.Pav.EVQ_STA 31 16 1).frame pPgl = s.frame pPgl := s.countFld_frame_body _ _ _ (.inl (by decide))
  have hin : ∀ (b : Bool) (t : State) (e : RingEvt) (d : Nat), t.frame pPgl = s.frame pPgl →
      (if b then t.capTrigger e d else t).frame pPgl = s.frame pPgl :=
    fun b t e d h => State.frame_ite ((t.capTrigger_frame e d).trans h) h
  unfold State.eventIn
  exact hin _ _ _ _ (State.frame_ite ((State.fault_frame ..).trans hlost) rfl)

@[simp] theorem State.handOver_frame (s : State) (entry : Nat) (stale : Bool) (q : EvtReq) :
    (s.handOver entry stale q).frame pPgl = s.frame pPgl := by
  unfold State.handOver
  split
  · exact s.stallHeld_frame pPgl
  · exact (State.eventIn_frame ..).trans (s.stallOne_frame pPgl)

@[simp] theorem State.releaseEvents_frame (s : State) (r : Run) (stale : Bool) : (s.releaseEvents r stale).frame pPgl = s.frame pPgl :=
  foldl_keeps _ (State.frame pPgl) (fun s q => s.handOver_frame r.entry stale q) _ s

@[simp] theorem State.ctxRead_frame (s : State) : s.ctxRead.2.frame pPgl = s.frame pPgl := by
  have hr := s.readWord_frame rgCtx (4 * s.fld pPav Reg.Pav.CTX_ADDR 19 0)
  unfold State.ctxRead
  exact (State.setFld_frame_body _ _ _ _ (.inl (by decide))).trans (State.frame_ite ((State.poisonRead_frame ..).trans hr) hr)

@[simp] theorem State.ctlPerform_frame (s : State) (q : CtlReq) : (s.ctlPerform q).frame pPgl = s.frame pPgl := by
  cases q with
  | event e stale q => exact s.eventIn_frame e stale q
  | ctx => exact s.ctxRead_frame

@[simp] theorem State.ctlServe_frame (s : State) : s.ctlServe.frame pPgl = s.frame pPgl := by
  unfold State.ctlServe
  split
  · rfl
  · exact foldl_keeps _ (State.frame pPgl) State.ctlPerform_frame _ _

/-! The end of a run -/

@[simp] theorem State.saveRegs_frame (s : State) (e : Nat) : (s.saveRegs e).frame pPgl = s.frame pPgl := by
  unfold State.saveRegs
  exact s.writeMem_frame ..

@[simp] theorem State.closeRun_frame (s : State) (r : Run) (last : Nat) (stale : Bool) :
    (s.closeRun r last stale).frame pPgl = s.frame pPgl := by
  refine Eq.trans ?_ (s.saveRegs_frame r.entry)
  unfold State.closeRun
  generalize s.saveRegs r.entry = t
  rfl

@[simp] theorem State.sendRun_frame (p : Nat) (s : State) (r : Run) : (s.sendRun r).frame p = s.frame p := by
  unfold State.sendRun
  dsimp only
  split
  · exact (foldl_keeps _ (State.frame p) (fun s w => s.emit_frame ..) _ _).trans
      (foldl_keeps _ (State.frame p) (fun s u => s.emit_frame ..) _ _)
  · rfl

@[simp] theorem State.failRun_frame (s : State) (r : Run) (last : Nat) : (s.failRun r last).frame pPgl = s.frame pPgl := by
  simp [State.failRun]

@[simp] theorem State.cutRun_frame (s : State) : s.cutRun.frame pPgl = s.frame pPgl := by
  unfold State.cutRun
  split
  · exact s.failRun_frame ..
  · rfl

end Sys2Proof.Machine
end

section
/-!
SUPPORT. Frames of the key store, the Arbour and the Fountain, as far as a block reset runs them.
-/
namespace Sys2Proof.Machine

/-! Descriptors and the well -/

@[simp] theorem State.postDesc_frame (s : State) (d : Desc) (status : Nat) (pass : Bool) :
    (s.postDesc d status pass).frame pPgl = s.frame pPgl := by
  unfold State.postDesc
  exact State.frame_ite ((State.irq_frame ..).trans (s.writeWord_frame ..)) (s.writeWord_frame ..)

@[simp] theorem State.showCores_frame (p : Nat) (s : State) : s.showCores.frame p = s.frame p :=
  (State.setReg_frame_body _ _ (.inl (by decide))).trans (s.setReg_frame_body _ (.inl (by decide)))

@[simp] theorem State.endDescs_frame (s : State) (sel : Desc → Bool) (status : Nat) :
    (s.endDescs sel status).frame pPgl = s.frame pPgl :=
  (State.showCores_frame ..).trans (foldl_keeps _ (State.frame pPgl) (fun s d => s.postDesc_frame d status false) _ _)

theorem State.showWell_frame {p : Nat} (s : State) (h : p ≤ pOrg) : s.showWell.frame p = s.frame p := by
  have hk : regKey p 0x40 ≤ regKey pOrg (Reg.Org.IMP_NONCE 0) := by
    unfold regKey
    unfold pOrg at *
    unfold Reg.Org.IMP_NONCE
    omega
  have hsta : ∀ (t : State) (i : Nat) (b : Bool), (t.setFlag pOrg Reg.Org.KEK_STA i b).frame p = t.frame p :=
    fun t i b => t.setFlag_frame_body i b (.inl (by decide))
  have hcnt : ∀ (t : State) (w : Word), (t.setReg pOrg Reg.Org.ZCNT w).frame p = t.frame p :=
    fun t w => t.setReg_frame_body w (.inl (by decide))
  unfold State.showWell
  rw [State.setOctetRegs_frame _ _ hk, hcnt, hsta, hsta]

/-! The Arbour and its requests -/

@[simp] theorem State.arbStatus_frame (p : Nat) (s : State) : s.arbStatus.frame p = s.frame p := by
  unfold State.arbStatus
  exact (foldl_keeps _ (State.frame p) (fun t j => t.setFlag_frame_body _ _ (.inr (.inl rfl))) _ _).trans
    (s.setFlag_frame_body _ _ (.inr (.inl rfl)))

@[simp] theorem State.ftnAsk_frame (p : Nat) (s : State) (r : FtnReq) : (s.ftnAsk r).frame p = s.frame p := by
  unfold State.ftnAsk
  exact State.frame_ite rfl rfl

@[simp] theorem State.arbBegin_frame (p : Nat) (s : State) (o : ArbOp) : (s.arbBegin o).frame p = s.frame p := by
  unfold State.arbBegin
  exact (State.arbStatus_frame ..).trans (State.frame_ite rfl (State.ftnAsk_frame ..))

@[simp] theorem State.arbNext_frame (p : Nat) (s : State) : s.arbNext.frame p = s.frame p := by
  unfold State.arbNext
  dsimp only
  split
  · exact State.arbStatus_frame ..
  · exact State.arbBegin_frame ..

@[simp] theorem State.arbRequest_frame (p : Nat) (s : State) (r : ArbReq) : (s.arbRequest r).frame p = s.frame p := by
  unfold State.arbRequest
  split
  · exact State.arbBegin_frame ..
  · rfl

@[simp] theorem State.arbEnd_frame (p : Nat) (s : State) (status : Nat) (pass : Bool) (cycles : Nat) :
    (s.arbEnd status pass cycles).frame p = s.frame p := by
  have hres : ((s.setReg pArb Reg.Arb.ARB_RES (BitVec.ofNat 32 (status + b2n pass * 256))).setReg pArb Reg.Arb.ARB_CYC
      (BitVec.ofNat 32 cycles)).frame p = s.frame p :=
    (State.setReg_frame_body _ _ (.inl (by decide))).trans (s.setReg_frame_body _ (.inl (by decide)))
  have hfault : ∀ (c : Prop) [Decidable c] (t : State) (n : Nat), t.frame p = s.frame p →
      (if c then t.fault pArb n else t).frame p = s.frame p := fun _ _ t n h => State.frame_ite ((t.fault_frame ..).trans h) h
  have hok : ∀ (c : Prop) [Decidable c] (t : State) (n : Nat), t.frame p = s.frame p →
      (if c then t else t.fault pArb n).frame p = s.frame p := fun _ _ t n h => State.frame_ite h ((t.fault_frame ..).trans h)
  have hirq : ∀ (c : Prop) [Decidable c] (t : State) (n : Nat), t.frame p = s.frame p →
      (if c then t.irq n else t).frame p = s.frame p := fun _ _ t n h => State.frame_ite ((t.irq_frame ..).trans h) h
  unfold State.arbEnd
  exact (State.arbNext_frame ..).trans (hirq _ _ _ (hfault _ _ _ (hok _ _ _ hres)))

@[simp] theorem State.arbStop_frame (p : Nat) (s : State) (status : Nat) : (s.arbStop status).frame p = s.frame p := by
  unfold State.arbStop
  split
  · exact State.arbEnd_frame ..
  · exact State.arbEnd_frame ..

@[simp] theorem State.arbWipe_frame (p : Nat) (s : State) : s.arbWipe.frame p = s.frame p :=
  s.setFlag_frame_body _ _ (.inr (.inl rfl))

@[simp] theorem State.arbBlockReset_frame (p : Nat) (s : State) : s.arbBlockReset.frame p = s.frame p := by
  unfold State.arbBlockReset
  dsimp only
  split
  · exact (State.arbStop_frame ..).trans ((State.fault_frame ..).trans (s.arbWipe_frame p))
  · exact (State.arbStatus_frame ..).trans (s.arbWipe_frame p)

@[simp] theorem State.ftnDraw_frame (p : Nat) (s : State) (n : Nat) : (s.ftnDraw n).2.frame p = s.frame p := by
  show s.ftnCount.frame p = s.frame p
  unfold State.ftnCount
  dsimp only
  split
  · exact (State.setReg_frame_body _ _ (.inl (by decide))).trans (s.countFld_frame_body _ _ _ (.inl (by decide)))
  · exact s.setReg_frame_body _ (.inl (by decide))

/-! Key commands -/

@[simp] theorem State.keyBusy_frame (p : Nat) (s : State) (b : Bool) : (s.keyBusy b).frame p = s.frame p :=
  (State.setFlag_frame_body _ _ _ (.inr (.inl rfl))).trans (s.setFlag_frame_body _ _ (.inl (by decide)))

@[simp] theorem State.keyEnd_frame (p : Nat) (s : State) (op res : Nat) : (s.keyEnd op res).frame p = s.frame p := by
  have hres : ∀ w, (s.setReg pOrg Reg.Org.KEY_RES w).frame p = s.frame p := fun w => s.setReg_frame_body w (.inl (by decide))
  have hbusy : ((State.setFlag { s.setReg pOrg Reg.Org.KEY_RES (BitVec.ofNat 32 res) with org.keyCmd := none } pOrg
      Reg.Org.KEY_CMD 31 false).setFlag pOrg Reg.Hdr.STA 9 false).frame p = s.frame p :=
    (State.keyBusy_frame p { s.setReg pOrg Reg.Org.KEY_RES (BitVec.ofNat 32 res) with org.keyCmd := none } false).trans (hres _)
  unfold State.keyEnd
  exact State.frame_ite ((State.fault_frame ..).trans hbusy) hbusy

@[simp] theorem State.deriveKek_frame {p : Nat} (h : p ≤ pOrg) (s : State) (ds : List Byte) (bbr : BitVec 256) :
    (s.deriveKek ds bbr).frame p = s.frame p := by
  have hk : regKey p 0x40 ≤ regKey pOrg (Reg.Org.KA_PUB 0) := by
    unfold regKey
    unfold pOrg at *
    unfold Reg.Org.KA_PUB
    omega
  unfold State.deriveKek
  refine (State.arbRequest_frame ..).trans ((State.setFlag_frame_body _ _ _ (.inl (by decide))).trans ?_)
  refine (State.setOctetRegs_frame _ _ hk).trans ((State.setFlag_frame_body _ _ _ (.inl (by decide))).trans ?_)
  exact State.setFlag_frame_body _ _ _ (.inl (by decide))

@[simp] theorem State.kekDerive_frame {p : Nat} (h : p ≤ pOrg) (s : State) : s.kekDerive.2.frame p = s.frame p := by
  unfold State.kekDerive
  repeat' split
  · rfl
  · rfl
  · exact s.deriveKek_frame h ..
  · rfl

@[simp] theorem State.bbrGen_frame {p : Nat} (h : p ≤ pOrg) (s : State) : s.bbrGen.2.frame p = s.frame p := by
  have hd := s.ftnDraw_frame p 48
  unfold State.bbrGen
  split
  · rfl
  split
  · rfl
  split
  · rfl
  exact (State.kekDerive_frame h _).trans ((State.showWell_frame _ h).trans hd)

@[simp] theorem State.loadUnder_frame (p : Nat) (s : State) (kek wrapped : List Byte) (nxt : Bool) (slot : Nat) :
    (s.loadUnder kek wrapped nxt slot).2.frame p = s.frame p := by
  unfold State.loadUnder
  dsimp only
  (repeat' split) <;> rfl

@[simp] theorem State.keyLoad_frame (s : State) (nxt : Bool) (slot : Nat) : (s.keyLoad nxt slot).frame pPgl = s.frame pPgl := by
  have hread : ∀ a n, (s.readMem rgCsram a n).2.2.frame pPgl = s.frame pPgl := s.readMem_frame rgCsram
  have hbusy : ∀ (t : State) (k : KeyCmd), ((State.setFlag { t with org.keyCmd := some k } pOrg Reg.Org.KEY_CMD 31 true).setFlag pOrg
      Reg.Hdr.STA 9 true).frame pPgl = t.frame pPgl := fun t k => State.keyBusy_frame pPgl { t with org.keyCmd := some k } true
  unfold State.keyLoad
  dsimp only
  repeat' split
  all_goals simp [hread, hbusy]

@[simp] theorem State.keySwapAt_frame (p : Nat) (s : State) (slot : Nat) : (s.keySwapAt slot).frame p = s.frame p :=
  State.keyEnd_frame ..

@[simp] theorem State.keyErase_frame (p : Nat) (s : State) (nxt both : Bool) (slot : Nat) :
    (s.keyErase nxt both slot).frame p = s.frame p := State.keyEnd_frame ..

@[simp] theorem State.keyExport_frame (s : State) (nxt : Bool) (slot : Nat) : (s.keyExport nxt slot).frame pPgl = s.frame pPgl := by
  unfold State.keyExport
  dsimp only
  (repeat' split) <;> simp

@[simp] theorem State.keyCommand_frame (s : State) (v : Word) : (s.keyCommand v).frame pPgl = s.frame pPgl := by
  unfold State.keyCommand
  dsimp only
  split
  · exact s.keyLoad_frame ..
  · exact s.keySwapAt_frame ..
  · exact s.keyErase_frame ..
  · exact s.keyExport_frame ..
  · exact (State.keyEnd_frame ..).trans (s.bbrGen_frame (by decide))
  · exact (State.keyEnd_frame ..).trans (s.kekDerive_frame (by decide))
  · rfl

end Sys2Proof.Machine
end

section
/-!
SUPPORT. Frames of the Colonnade, the Sundial, the clusters, the MRAM port and the card slot, as far as a block reset runs them.
-/
namespace Sys2Proof.Machine

/-! The Sundial's sources and the PTP ports -/

@[simp] theorem State.sdlStatus_frame (p : Nat) (s : State) : s.sdlStatus.frame p = s.frame p :=
  s.setFld_frame_body _ _ _ (.inr (.inl rfl))

@[simp] theorem State.sdlEvent_frame (p : Nat) (s : State) (n : Nat) : (s.sdlEvent n).frame p = s.frame p := by
  unfold State.sdlEvent
  exact State.fault_frame ..

@[simp] theorem State.selectSrc_frame (p : Nat) (s : State) : s.selectSrc.frame p = s.frame p := by
  unfold State.selectSrc
  split
  · exact State.frame_ite rfl (State.sdlStatus_frame ..)
  · exact State.frame_ite rfl ((State.sdlStatus_frame ..).trans (State.sdlEvent_frame ..))

@[simp] theorem State.ptpNoSlave_frame (p : Nat) (s : State) : s.ptpNoSlave.frame p = s.frame p := by
  have hflag : (s.setFlag pSdl Reg.Sdl.PTP_STA 24 false).frame p = s.frame p := s.setFlag_frame_body _ _ (.inl (by decide))
  unfold State.ptpNoSlave
  exact State.frame_ite hflag ((State.selectSrc_frame ..).trans hflag)

theorem State.portSta_frame (p q : Nat) (s : State) (i hi lo v : Nat) :
    (s.setFld q (Reg.Prc.PORT_STA (i % 16)) hi lo v).frame p = s.frame p :=
  s.setFld_frame_body _ _ _ (.inl (by unfold Reg.Prc.PORT_STA; omega))

@[simp] theorem State.setPtpState_frame (p : Nat) (s : State) (port v : Nat) : (s.setPtpState port v).frame p = s.frame p :=
  State.portSta_frame ..

@[simp] theorem State.bmca_frame (p : Nat) (s : State) : s.bmca.frame p = s.frame p := by
  have hports : ∀ (on : Bool), ((List.range 256).foldl (fun s p =>
      if on && s.ptpPort p then (if s.ptpFollower then s else s.setPtpState p (s.recommend p))
      else if s.ptpState p = 0 then s else s.setPtpState p 3) s).frame p = s.frame p := fun on =>
    foldl_keeps _ (State.frame p) (fun t i => State.frame_ite (State.frame_ite rfl (t.setPtpState_frame ..))
      (State.frame_ite rfl (t.setPtpState_frame ..))) _ s
  unfold State.bmca
  dsimp only
  split
  · exact (State.setFlag_frame_body _ _ _ (.inl (by decide))).trans
      ((State.setFld_frame_body _ _ _ _ (.inl (by decide))).trans (hports _))
  · exact (State.ptpNoSlave_frame ..).trans (hports _)

/-! The clusters -/

@[simp] theorem State.portDown_frame (p : Nat) (s : State) (port : Nat) : (s.portDown port).frame p = s.frame p :=
  State.portSta_frame ..

@[simp] theorem State.setPortLink_frame (p : Nat) (s : State) (port : Nat) (link : Bool) (speed : Nat) :
    (s.setPortLink port link speed).frame p = s.frame p := State.portSta_frame ..

@[simp] theorem State.portsFollow_frame (p : Nat) (s : State) (n : Nat) : (s.portsFollow n).frame p = s.frame p := by
  unfold State.portsFollow
  dsimp only
  split
  · exact foldl_keeps _ (State.frame p) (fun t i => t.setPortLink_frame ..) _ s
  · exact State.frame_ite rfl (foldl_keeps _ (State.frame p) (fun t i => t.portDown_frame ..) _ s)

@[simp] theorem State.clusterOff_frame (p : Nat) (s : State) (g : Nat) : (s.clusterOff g).frame p = s.frame p := by
  unfold State.clusterOff
  exact foldl_keeps _ (State.frame p) (fun t i => (State.portsFollow_frame ..).trans (t.setFld_frame_body _ _ _ (.inr (.inl rfl)))) _ s

@[simp] theorem State.setFolly_frame (p : Nat) (s : State) (port : Nat) (r : Option FollyRun) :
    (s.setFolly port r).frame p = s.frame p := by
  cases r <;> rfl

@[simp] theorem State.follyStop_frame (p : Nat) (s : State) (port : Nat) : (s.follyStop port).frame p = s.frame p := by
  have hctl : ∀ (t : State), (t.setFlag (flyPage port) (Reg.Fly.FLY_CTL (port % 16)) 0 false).frame p = t.frame p :=
    fun t => t.setFlag_frame_body _ _ (.inl (by unfold Reg.Fly.FLY_CTL; omega))
  unfold State.follyStop
  dsimp only
  split
  · exact hctl s
  · exact (hctl _).trans ((State.setFolly_frame ..).trans (s.countFld_frame_body _ _ _ (.inl (by unfold Reg.Prc.PORT_STA; omega))))

@[simp] theorem State.follyStopAll_frame (p : Nat) (s : State) (g : Nat) : (s.follyStopAll g).frame p = s.frame p :=
  foldl_keeps _ (State.frame p) (fun t _ => t.follyStop_frame ..) _ s

/-! The Sundial's compare units -/

theorem State.disarmAll_gate (s : State) : s.disarmAll.gate = s.gate := by
  unfold State.disarmAll
  exact foldl_keeps _ State.gate (fun t (c : Nat × Armed) => t.setArmed_gate c.1 none) _ s

theorem State.cancelUnit_gate (s : State) (n : Nat) : (s.cancelUnit n).gate = s.gate := by
  unfold State.cancelUnit
  split
  · rfl
  · dsimp only
    split <;> exact s.setArmed_gate n none

theorem State.cancelUnits_gate (s : State) (sel : Armed → Bool) : (s.cancelUnits sel).gate = s.gate := by
  unfold State.cancelUnits
  refine foldl_keeps _ State.gate (fun t n => ?_) _ s
  split
  · split
    · exact t.cancelUnit_gate n
    · rfl
  · rfl

/-! The Colonnade -/

@[simp] theorem State.sendPosition_frame (p : Nat) (s : State) (slot : Nat) (nxt : Bool) : (s.sendPosition slot nxt).frame p = s.frame p := by
  unfold State.sendPosition
  split
  · exact State.emit_frame ..
  · rfl

@[simp] theorem State.sendSwapAt_frame (p : Nat) (s : State) (slot : Nat) : (s.sendSwapAt slot).frame p = s.frame p := by
  unfold State.sendSwapAt
  split
  · exact State.emit_frame ..
  · rfl

theorem State.keyPair_frame {p : Nat} {s : State} {f : State → State} (hf : (f s).frame p = s.frame p) (op slot : Nat) (nxt both : Bool) :
    (s.keyPair op slot nxt both f).frame p = s.frame p := by
  have hsend : ∀ m, (if op = 1 then (f s).sendPosition slot nxt else if op = 2 then (f s).sendSwapAt slot
      else (f s).emit m).frame p = s.frame p := fun m =>
    (State.frame_ite (State.sendPosition_frame ..) (State.frame_ite (State.sendSwapAt_frame ..) (State.emit_frame ..))).trans hf
  unfold State.keyPair
  exact State.frame_ite hf ((State.keyBusy_frame ..).trans ((State.setReg_frame_body _ _ (.inl (by decide))).trans (hsend _)))

@[simp] theorem State.keyTurn_frame (s : State) (k : KeyCmd) : (s.keyTurn k).frame pPgl = s.frame pPgl := by
  have hidle : (State.keyBusy { s with org.keyCmd := none, cln.keyWait := none } false).frame pPgl = s.frame pPgl := State.keyBusy_frame ..
  unfold State.keyTurn
  exact State.frame_ite ((State.keyPair_frame (State.keyCommand_frame ..) ..).trans hidle) ((State.keyCommand_frame ..).trans hidle)

@[simp] theorem State.keyLocal_frame (s : State) : s.keyLocal.frame pPgl = s.frame pPgl := by
  unfold State.keyLocal
  dsimp only
  split
  · exact State.keyTurn_frame ..
  · exact State.keyEnd_frame ..
  · rfl

@[simp] theorem State.clearSession_frame (p : Nat) (s : State) : s.clearSession.frame p = s.frame p := rfl

@[simp] theorem State.setRoles_frame (p : Nat) (s : State) (own peer : Nat) : (s.setRoles own peer).frame p = s.frame p :=
  (State.setFld_frame_body _ _ _ _ (.inl (by decide))).trans (s.setFld_frame_body _ _ _ (.inl (by decide)))

@[simp] theorem State.setPair_frame (p : Nat) (s : State) (st : PairState) (donor : Bool) : (s.setPair st donor).frame p = s.frame p := by
  have hsta : ((State.setFld { s with cln.st := st, cln.donor := donor } pCln Reg.Hdr.STA 10 8 st.code).setFlag pCln Reg.Hdr.STA 11
      donor).frame p = s.frame p :=
    (State.setFlag_frame_body _ _ _ (.inr (.inl rfl))).trans (State.setFld_frame_body _ _ _ _ (.inr (.inl rfl)))
  unfold State.setPair
  exact State.frame_ite ((State.bmca_frame ..).trans ((State.irq_frame ..).trans hsta)) hsta

@[simp] theorem State.attachEnd_frame (p : Nat) (s : State) (joiner : PairState) : (s.attachEnd joiner).frame p = s.frame p := by
  unfold State.attachEnd
  dsimp only
  have hpair : ∀ {t : State} (d : Bool), t.frame p = s.frame p →
      (if d then (t.setRoles 31 0).setPair .solo false else t.setPair joiner false).frame p = s.frame p := fun d ht =>
    (State.frame_ite ((State.setPair_frame ..).trans (State.setRoles_frame ..)) (State.setPair_frame ..)).trans ht
  refine hpair _ ?_
  split
  · exact State.arbNext_frame ..
  · exact State.arbStatus_frame ..

theorem State.withdraw_gate (s : State) : s.withdraw.gate = s.gate := by
  have h0 : (s.fault pCln 2).keyLocal.clearSession.gate = s.gate := State.frame_gate ((State.clearSession_frame pPgl _).trans
    ((State.keyLocal_frame _).trans (s.fault_frame ..)))
  have h1 : ∀ t : State, (((t.setRoles 0 0).setPair .withdrawn false).takeLog 4 0).gate = t.gate := fun t =>
    State.frame_gate (p := pPgl) ((State.setPair_frame ..).trans (t.setRoles_frame ..))
  unfold State.withdraw
  exact (h1 _).trans ((State.disarmAll_gate _).trans h0)

@[simp] theorem State.clnOff_frame (s : State) : s.clnOff.frame pPgl = s.frame pPgl := by
  have hen : (s.setFlag pCln Reg.Hdr.CTL 0 false).frame pPgl = s.frame pPgl := s.setFlag_frame_page _ _ (by decide) (by decide)
  unfold State.clnOff
  exact (State.setRoles_frame ..).trans ((State.attachEnd_frame ..).trans ((State.keyLocal_frame _).trans hen))

theorem State.clnReset_gate (s : State) : s.clnReset.gate = s.gate := by
  unfold State.clnReset
  show (if s.cln.st == .inStep then s.withdraw else if s.cln.st != .off then s.clnOff else s).gate = s.gate
  split
  · exact s.withdraw_gate
  · split
    · exact State.frame_gate s.clnOff_frame
    · rfl

/-! The MRAM port and the card slot -/

@[simp] theorem State.nvmWriteUnit_frame (s : State) (r : NvmRun) : (s.nvmWriteUnit r).frame pPgl = s.frame pPgl := by
  unfold State.nvmWriteUnit
  exact State.frame_ite (State.writeMem_frame ..) (State.writeMem_frame ..)

@[simp] theorem State.nvmCut_frame (s : State) : s.nvmCut.frame pPgl = s.frame pPgl := by
  unfold State.nvmCut
  split
  · rfl
  · rename_i r _
    have h : (if r.unitOn then s.nvmWriteUnit r else s).frame pPgl = s.frame pPgl := State.frame_ite (s.nvmWriteUnit_frame r) rfl
    exact h

@[simp] theorem State.nvmQuiet_frame (p : Nat) (s : State) : s.nvmQuiet.frame p = s.frame p :=
  (State.setFlag_frame_body (s.nvmShow false 3) 9 false (.inr (.inl rfl))).trans ((State.setFld_frame_body _ _ _ _ (.inr (.inl rfl))).trans
    ((State.setFlag_frame_body _ _ _ (.inr (.inl rfl))).trans (s.setFlag_frame_body _ _ (.inl (by decide)))))

@[simp] theorem State.jCut_frame (s : State) : s.jCut.frame pPgl = s.frame pPgl := by
  unfold State.jCut
  dsimp only
  split
  · exact State.frame_ite ((State.nvmQuiet_frame ..).trans (State.nvmCut_frame _)) rfl
  · rfl

@[simp] theorem State.pshEnd_frame (p : Nat) (s : State) (res : Nat) : (s.pshEnd res).frame p = s.frame p :=
  (State.irq_frame ..).trans ((State.setFlag_frame_body _ _ _ (.inl (by decide))).trans (s.setFld_frame_body _ _ _ (.inl (by decide))))

@[simp] theorem State.clearCard_frame (s : State) : s.clearCard.frame pPgl = s.frame pPgl :=
  (State.setReg_frame_body _ _ (.inl (by decide))).trans (s.setRegs_frame _ _ _ (by decide))

@[simp] theorem State.pshState_frame (p : Nat) (s : State) (st : CardState) : (s.pshState st).frame p = s.frame p :=
  (State.setFlag_frame_body _ _ _ (.inr (.inl rfl))).trans ((State.setFlag_frame_body _ _ _ (.inr (.inl rfl))).trans
    ((State.setFlag_frame_body _ _ _ (.inr (.inl rfl))).trans (State.setFld_frame_body _ _ _ _ (.inr (.inl rfl)))))

@[simp] theorem State.pshStop_frame (s : State) : s.pshStop.frame pPgl = s.frame pPgl := by
  unfold State.pshStop
  exact (State.pshState_frame ..).trans ((State.clearCard_frame _).trans ((State.jCut_frame _).trans
    (State.frame_ite (State.pshEnd_frame ..) rfl)))

end Sys2Proof.Machine
end

section
/-!
SUPPORT. What a block reset leaves (R11): the Gatehouse as idle as it was, and the header of the page at its reset values.
-/
namespace Sys2Proof.Machine

/-- A state that follows the reset of page p in another. -/
structure State.ResetTo (p : Nat) (s t : State) : Prop where
  /-- Nothing more waits at the Gatehouse. -/
  idle : s.gateIdle → t.gateIdle
  /-- The header of the page, but for STA, FLT_STA and what the reset keeps, reads its reset values. -/
  header : ∀ o < 0x40, o ≠ Reg.Hdr.STA → o ≠ Reg.Hdr.FLT_STA → keptByBlockReset p o = false → t.reg p o = regReset p o

/-- A register that a block reset does not keep. -/
theorem State.resetRegs_reg (s : State) {p o : Nat} (ho : o < 0x1000) (hk : keptByBlockReset p o = false) :
    (s.resetRegs p).reg p o = regReset p o := by
  unfold State.resetRegs
  rw [State.reg_clearPage _ _ _ _ _ ho, hk, if_neg (by simp)]

theorem State.gateIdle_gate {s t : State} (h : t.gate = s.gate) (hs : s.gateIdle) : t.gateIdle :=
  State.gateIdle_congr (by rw [h]) (by rw [h]) hs

/-- Registers reset after what keeps the Gatehouse, and before what keeps it and the header. -/
theorem State.ResetTo.of_frame {p : Nat} {s x t : State} (hx : x.gate = s.gate) (ht : t.frame p = (x.resetRegs p).frame p) :
    State.ResetTo p s t where
  idle := State.gateIdle_gate ((State.frame_gate ht).trans hx)
  header _ ho h1 h2 hk := (State.frame_reg ht ho h1 h2).trans (x.resetRegs_reg (by omega) hk)

/-- What follows a reset and keeps the page's frame. -/
theorem State.ResetTo.congr {p : Nat} {s t u : State} (h : State.ResetTo p s t) (hu : u.frame p = t.frame p) : State.ResetTo p s u where
  idle hs := State.gateIdle_gate (State.frame_gate hu) (h.idle hs)
  header o ho h1 h2 hk := (State.frame_reg hu ho h1 h2).trans (h.header o ho h1 h2 hk)

/-! The reset of each page with state of its own -/

theorem State.pglReset_resetTo (s : State) : State.ResetTo pPgl s s.pglReset :=
  .of_frame (x := s.cutRun) (State.frame_gate s.cutRun_frame) (State.ctlServe_frame _)

theorem State.pavReset_resetTo (s : State) : State.ResetTo pPav s s.pavReset :=
  .of_frame (x := s.cutRun) (State.frame_gate s.cutRun_frame) rfl

theorem State.orgReset_resetTo (s : State) : State.ResetTo pOrg s s.orgReset :=
  .of_frame (x := s.endDescs (fun _ => true) dsAborted) (State.frame_gate (s.endDescs_frame ..))
    ((State.showWell_frame _ (Nat.le_refl _)).trans (State.setFlag_frame_body _ _ _ (.inl (by decide))))

theorem State.arbReset_resetTo (s : State) : State.ResetTo pArb s s.arbReset := by
  have hx := State.frame_gate (s.arbBlockReset_frame pArb)
  have ht : ∀ t : State, (t.setFlag pArb Reg.Hdr.STA 10 (s.flag pArb Reg.Hdr.STA 10)).arbStatus.frame pArb = t.frame pArb :=
    fun t => (State.arbStatus_frame ..).trans (t.setFlag_frame_body _ _ (.inr (.inl rfl)))
  unfold State.arbReset
  exact .of_frame hx (ht _)

theorem State.ftnReset_resetTo (s : State) : State.ResetTo pFtn s s.ftnReset :=
  .of_frame (x := s) rfl (State.setFlag_frame_body (s.resetRegs pFtn) 10 false (.inl (by decide)))

theorem State.sdlReset_resetTo (s : State) : State.ResetTo pSdl s s.sdlReset := by
  have hunit : ∀ (t : State) (n : Nat), (t.setFlag pSdl (Reg.Sdl.CMP_CFG n) 9 true).frame pSdl = t.frame pSdl := fun t n =>
    t.setReg_frame _ (fun o ho => by
      have := (mem_framedOffsets.1 ho).1
      unfold regKey Reg.Sdl.CMP_CFG
      omega)
  exact .of_frame (s.cancelUnits_gate _) (foldl_keeps _ (State.frame pSdl) hunit _ _)

theorem State.fabricReset_resetTo (s : State) : State.ResetTo pPrm s s.fabricReset := .of_frame (x := s) rfl rfl

theorem State.clusterReset_resetTo (s : State) (g : Nat) : State.ResetTo (pPrc g) s (s.clusterReset g) := by
  have hx : ((s.clusterOff g).follyStopAll g).gate = s.gate :=
    (State.frame_gate ((s.clusterOff g).follyStopAll_frame 0 g)).trans (State.frame_gate (s.clusterOff_frame 0 g))
  unfold State.clusterReset
  dsimp only
  generalize (s.clusterOff g).follyStopAll g = x at hx ⊢
  exact .of_frame hx ((State.bmca_frame ..).trans (State.frame_congr rfl rfl))

theorem State.follyReset_resetTo (s : State) (p : Nat) :
    State.ResetTo p s (((s.follyStopAll (p - 0x240)).lfsrReset (p - 0x240)).resetRegs p) := by
  have hx := State.frame_gate (s.follyStopAll_frame 0 (p - 0x240))
  generalize s.follyStopAll (p - 0x240) = x at hx ⊢
  exact .of_frame (x := x.lfsrReset (p - 0x240)) hx rfl

theorem State.ptrReset_resetTo (s : State) (p : Nat) : State.ResetTo p s (s.ptrReset p) := by
  refine .of_frame (x := s) rfl ?_
  unfold State.ptrReset
  exact State.frame_ite rfl (State.frame_ite rfl (State.frame_ite rfl rfl))

theorem State.kskReset_resetTo (s : State) : State.ResetTo pKsk s s.kskReset := .of_frame (x := s.tagOpen) rfl rfl

theorem State.ccpReset_resetTo (s : State) : State.ResetTo pCcp s s.ccpReset :=
  .of_frame (x := s) rfl (State.frame_ite ((State.fault_frame ..).trans (State.setFld_frame_body _ _ _ _ (.inl (by decide)))) rfl)

theorem State.hifReset_resetTo (s : State) : State.ResetTo pHif s s.hifReset :=
  .of_frame (x := s) rfl (State.frame_ite ((State.fault_frame ..).trans (State.setFld_frame_body _ _ _ _ (.inl (by decide)))) rfl)

theorem State.gthReset_resetTo (s : State) : State.ResetTo pGth s { s.resetRegs pGth with gate.log := [], gate.proxy := none } where
  idle h := ⟨h.1, rfl⟩
  header _ ho _ _ hk := s.resetRegs_reg (by omega) hk

theorem State.ResetTo.ite {p : Nat} {c : Prop} [Decidable c] {s a b : State} (ha : c → State.ResetTo p s a)
    (hb : State.ResetTo p s b) : State.ResetTo p s (if c then a else b) := by
  split
  · next h => exact ha h
  · exact hb

theorem pPrc_sub {p : Nat} (h : 0x201 ≤ p) : pPrc (p - 0x201) = p := by
  show 0x201 + (p - 0x201) = p
  omega

theorem State.pageReset_resetTo (s : State) (p : Nat) : State.ResetTo p s (s.pageReset p) := by
  unfold State.pageReset
  refine .ite (fun h => h ▸ s.pglReset_resetTo) ?_
  refine .ite (fun h => h ▸ s.pavReset_resetTo) ?_
  refine .ite (fun h => h ▸ s.orgReset_resetTo) ?_
  refine .ite (fun h => h ▸ s.arbReset_resetTo) ?_
  refine .ite (fun h => h ▸ s.ftnReset_resetTo) ?_
  refine .ite (fun h => h ▸ s.sdlReset_resetTo) ?_
  refine .ite (fun h => h ▸ s.fabricReset_resetTo) ?_
  refine .ite (fun h => ?_) ?_
  · have hc := s.clusterReset_resetTo (p - 0x201)
    rwa [pPrc_sub h.1] at hc
  refine .ite (fun _ => s.follyReset_resetTo p) ?_
  refine .ite (fun _ => .of_frame (x := s) rfl (State.portsFollow_frame ..)) ?_
  refine .ite (fun _ => s.ptrReset_resetTo p) ?_
  refine .ite (fun h => h ▸ .of_frame s.clnReset_gate rfl) ?_
  refine .ite (fun h => h ▸ .of_frame (State.frame_gate s.pshStop_frame) rfl) ?_
  refine .ite (fun h => h ▸ .of_frame (State.frame_gate s.nvmCut_frame) rfl) ?_
  refine .ite (fun h => h ▸ s.kskReset_resetTo) ?_
  refine .ite (fun h => h ▸ s.ccpReset_resetTo) ?_
  refine .ite (fun h => h ▸ s.hifReset_resetTo) ?_
  refine .ite (fun h => h ▸ .of_frame (x := s.blvReset) rfl rfl) ?_
  refine .ite (fun h => h ▸ .of_frame (x := s) rfl rfl) ?_
  refine .ite (fun h => h ▸ s.gthReset_resetTo) ?_
  exact .of_frame (x := s) rfl rfl

/-- The pages of which O9 states the reset of every register. -/
def wholeReset (p : Nat) : Prop := p = pSys ∨ p = pLdg ∨ p = pHif ∨ p = pCcp ∨ p = pKsk

/-- The end of a run that a reset cut short: its result and a fault. -/
theorem State.cutResult_reg (s : State) {p u o : Nat} (hi lo v n : Nat) (ho : o < 0x1000) (hu : u < 0x1000) (h1 : o ≠ Reg.Hdr.FLT_STA)
    (h2 : o ≠ u) : ((s.setFld p u hi lo v).fault p n).reg p o = s.reg p o := by
  show ((s.setFld p u hi lo v).setFlag p Reg.Hdr.FLT_STA n true).reg p o = s.reg p o
  rw [State.reg_setFlag, if_neg (key_ne ho (by decide) (fun e => h1 e.2)), State.reg_setFld, if_neg (key_ne ho hu (fun e => h2 e.2))]

theorem State.pageReset_whole (s : State) {p o : Nat} (hp : wholeReset p) (ho : o < 0x1000) (h1 : o ≠ Reg.Hdr.FLT_STA)
    (h2 : o ≠ Reg.Ccp.DMA_CMD) (h3 : o ≠ Reg.Hif.XF_CMD) (hk : keptByBlockReset p o = false) :
    (s.pageReset p).reg p o = regReset p o := by
  rcases hp with rfl | rfl | rfl | rfl | rfl
  · exact s.resetRegs_reg ho hk
  · exact s.resetRegs_reg ho hk
  · show s.hifReset.reg pHif o = _
    have h := s.resetRegs_reg ho hk
    unfold State.hifReset
    dsimp only
    split
    · exact (State.cutResult_reg _ _ _ _ _ ho (by decide) h1 h3).trans h
    · exact h
  · show s.ccpReset.reg pCcp o = _
    have h := s.resetRegs_reg ho hk
    unfold State.ccpReset
    dsimp only
    split
    · exact (State.cutResult_reg _ _ _ _ _ ho (by decide) h1 h2).trans h
    · exact h
  · exact State.resetRegs_reg s.tagOpen ho hk

end Sys2Proof.Machine
end

section
/-!
SUPPORT. The header's writes: CTL.EN (R11), CTL.SRST (R11) and LOCK.LOCKED (R15).
-/
namespace Sys2Proof.Machine

/-- A write that reaches a page's header, where it leaves the Gatehouse idle. -/
theorem portWrite_header_idle {s x : State} {port : Port} {p o n : Nat} {b : Blk} {v : Word} (h : WriteReaches s port p o)
    (hb : blkOf p = some (b, n)) (ho : o < 0x40) (h4 : o % 4 = 0) (hx : s.heard.hdrWrite port b p o v = x)
    (hi : s.gateIdle → x.gateIdle) : s.start.portWrite port p o v = x := by
  have hq : s.quiet := h.2.1
  rw [busWrite_header (s := s.start) h hb (blkOf_lt hb) ho h4]
  show (s.heard.hdrWrite port b p o v).released.proxyNet = x
  rw [hx]
  exact (hi hq.gateIdle).released_proxyNet

theorem hdrWrite_enable (s : State) (port : Port) (b : Blk) (p : Nat) :
    s.hdrWrite port b p Reg.Hdr.CTL 1 = s.pageEnable port p := rfl

theorem hdrWrite_reset (s : State) (port : Port) (b : Blk) (p : Nat) :
    s.hdrWrite port b p Reg.Hdr.CTL 2 = s.blockReset p := rfl

theorem hdrWrite_lock (s : State) (port : Port) (b : Blk) (p : Nat) :
    s.hdrWrite port b p Reg.Hdr.LOCK 1 = s.lockWrite b p 1 := rfl

/-! CTL.EN -/

/-- The pages of the clusters. -/
theorem blkOf_prc_iff {p : Nat} {b : Blk} {n : Nat} (h : blkOf p = some (b, n)) : b = .prc ↔ 0x201 ≤ p ∧ p ≤ 0x210 := by
  constructor
  · intro hb
    obtain ⟨hp, h1, h16⟩ := (blkOf_cases h).2.1 hb
    omega
  · intro hp
    have hprc : blkOf p = some (.prc, p - 0x200) := by
      unfold blkOf
      simp only [show ¬ p = 0x000 by omega, show ¬ p = 0x010 by omega, show ¬ p = 0x020 by omega, show ¬ p = 0x030 by omega,
        show ¬ p = 0x040 by omega, show ¬ p = 0x050 by omega, show ¬ p = 0x060 by omega, show ¬ p = 0x070 by omega,
        show ¬ p = 0x080 by omega, show ¬ p = 0x090 by omega, show ¬ p = 0x0A0 by omega, show ¬ p = 0x0B0 by omega,
        show ¬ p = 0x0B1 by omega, show ¬ p = 0x0B2 by omega, show ¬ p = 0x0B3 by omega, show ¬ p = 0x0C0 by omega,
        show ¬ p = 0x0D0 by omega, show ¬ p = 0x0E0 by omega, show ¬ p = 0x0F0 by omega, show ¬ p = 0x100 by omega,
        show ¬ p = 0x110 by omega, show ¬ p = 0x120 by omega, show ¬ p = 0x200 by omega, if_false]
      exact if_pos hp
    rw [hprc] at h
    exact (congrArg Prod.fst (Option.some.inj h)).symm

/-- A choice all of whose branches are one state. -/
theorem ite_same {c : Prop} [Decidable c] {s a b : State} (ha : c → a = s) (hb : ¬ c → b = s) : (if c then a else b) = s := by
  split
  · next h => exact ha h
  · next h => exact hb h

/-- No page is enabled while it is fenced. -/
theorem State.pageEnable_fenced {s : State} {p : Nat} (port : Port) (h : s.fencedPage p = true) :
    s.pageEnable port p = s.refuseWrite port p Reg.Hdr.CTL := by
  unfold State.pageEnable
  refine ite_same ?_ (fun _ => ite_same ?_ (fun _ => ite_same ?_ (fun _ => ite_same ?_ (fun _ => ite_same ?_ (fun _ => ?_)))))
  · rintro rfl
    unfold State.pglEnable
    rw [h, Bool.or_true, if_pos rfl]
  · rintro rfl
    unfold State.clnEnable
    exact if_pos h
  · exact fun _ => if_pos h
  · exact fun _ => if_pos h
  · rintro ⟨hp, _⟩
    unfold State.clusterEnable
    rw [pPrc_sub hp]
    exact if_pos h
  · exact if_pos h

/-- A page without a check of its own is enabled at once. -/
theorem State.pageEnable_plain {s : State} {p : Nat} (port : Port) (h : s.fencedPage p = false) (h1 : p ≠ pPgl) (h2 : p ≠ pCln)
    (h3 : p ≠ pPsh) (h4 : p ≠ pSdl) (h5 : ¬ (0x201 ≤ p ∧ p ≤ 0x210)) : s.pageEnable port p = s.setFlag p Reg.Hdr.CTL 0 true := by
  unfold State.pageEnable
  rw [if_neg h1, if_neg h2, if_neg h3, if_neg h4, if_neg h5]
  unfold State.plainEnable
  rw [h, if_neg (by decide)]

/-- A cluster that is off and whose lanes agree is enabled. -/
theorem State.pageEnable_cluster {s : State} {p : Nat} (port : Port) (h : s.fencedPage p = false) (hp : 0x201 ≤ p ∧ p ≤ 0x210)
    (hoff : s.enabled p = false) (hlanes : s.badLanes (p - 0x201) = []) :
    s.pageEnable port p = s.setFlag p Reg.Hdr.CTL 0 true := by
  have hcheck : s.clusterCheck (p - 0x201) = (true, s) := by
    unfold State.clusterCheck
    rw [hlanes]
    rfl
  have hpage : ∀ q, q < 0x201 → p ≠ q := fun q hq => by omega
  unfold State.pageEnable
  rw [if_neg (hpage pPgl (by decide)), if_neg (hpage pCln (by decide)), if_neg (hpage pPsh (by decide)),
    if_neg (hpage pSdl (by decide)), if_pos hp]
  unfold State.clusterEnable
  rw [hcheck, pPrc_sub hp.1, h, hoff]
  rfl

/-- The card slot's page is enabled where no card waits and Ndear-C does not run from bank 3. -/
theorem State.pageEnable_psh {s : State} (port : Port) (h : s.fencedPage pPsh = false) (hoff : s.enabled pPsh = false)
    (hpc : bankOf s.engC.pc ≠ some 3) (htv : bankOf s.engC.tvec.toNat ≠ some 3) (hcard : s.psh.inserted = false) :
    s.pageEnable port pPsh = s.setFlag pPsh Reg.Hdr.CTL 0 true := by
  have hins : (s.setFlag pPsh Reg.Hdr.CTL 0 true).psh.inserted = false := hcard
  unfold State.pageEnable
  rw [if_neg (by decide), if_neg (by decide), if_pos rfl, h, if_neg (by decide)]
  unfold State.pshEnable
  rw [hoff, if_neg (by decide), if_neg (fun e => e.elim hpc htv)]
  dsimp only
  rw [hins, Bool.false_and, if_neg (by decide)]

/-- A page enabled by a write that reaches it. -/
theorem exec_blockEnable_set {s : State} {port : Port} {p : Fin 4096} {b : Blk} {n : Nat} (h : WriteReaches s port p Reg.Hdr.CTL)
    (hb : blkOf p = some (b, n)) (he : s.heard.pageEnable port p = s.heard.setFlag p Reg.Hdr.CTL 0 true) :
    exec (.blockEnable port p) s = .next (s.done (s.heard.setFlag p Reg.Hdr.CTL 0 true)) := by
  rw [exec_blockEnable, portWrite_header_idle h hb (by decide) (by decide) ((hdrWrite_enable ..).trans he)
    (fun hs => State.gateIdle_congr (s := s) rfl rfl hs)]

/-! CTL.SRST -/

/-- The state without the pairs that pend in a page. -/
def State.withoutPairsOf (p : Nat) (s : State) : State := { s with gate.pairs := s.gate.pairs.filter (fun q => q.page ≠ p) }

/-- What a block reset outside a self-test leaves, but for STA.RST_BUSY: of the BST page, BST_RES keeps its value. -/
def State.pageResetOnly (s : State) (p : Nat) : State :=
  if p = pBst then ((s.withoutPairsOf p).pageReset p).setReg pBst Reg.Bst.BST_RES (s.reg pBst Reg.Bst.BST_RES)
  else (s.withoutPairsOf p).pageReset p

/-- A block reset outside a self-test. -/
theorem State.blockReset_eq {s : State} (p : Nat) (h : s.bst = none) :
    s.blockReset p = ((s.pageResetOnly p).setFlag p Reg.Hdr.STA 2 true).refreshBalls := by
  have hreset : s.bstBlockReset p = s := by
    unfold State.bstBlockReset
    rw [h]
  have habort : (if p = pBst then s.bstAbort bstReset else s) = s := by
    unfold State.bstAbort
    rw [h, ite_self]
  unfold State.blockReset
  rw [hreset]
  dsimp only
  rw [habort]
  rfl

theorem State.blockReset_resetTo {s : State} (p : Nat) (h : s.bst = none) : State.ResetTo p s (s.blockReset p) := by
  have hpage : State.ResetTo p s ((s.withoutPairsOf p).pageReset p) :=
    have ht := (s.withoutPairsOf p).pageReset_resetTo p
    ⟨fun hs => ht.idle hs, ht.header⟩
  have hres : (((s.withoutPairsOf p).pageReset p).setReg pBst Reg.Bst.BST_RES (s.reg pBst Reg.Bst.BST_RES)).frame p =
      ((s.withoutPairsOf p).pageReset p).frame p := State.setReg_frame_body _ _ (.inl (by decide))
  have honly : State.ResetTo p s (s.pageResetOnly p) := .ite (fun _ => hpage.congr hres) hpage
  rw [State.blockReset_eq p h]
  exact honly.congr ((State.refreshBalls_frame ..).trans (State.setFlag_frame_body _ _ _ (.inr (.inl rfl))))

theorem State.blockReset_busy {s : State} (p : Nat) (h : s.bst = none) : (s.blockReset p).flag p Reg.Hdr.STA 2 = true := by
  rw [State.blockReset_eq p h]
  exact State.flag_setFlag_same _ _ _ _ _ (by decide)

theorem State.blockReset_whole {s : State} {p o : Nat} (h : s.bst = none) (hp : wholeReset p) (ho : o < 0x1000) (h0 : o ≠ Reg.Hdr.STA)
    (h1 : o ≠ Reg.Hdr.FLT_STA) (h2 : o ≠ Reg.Ccp.DMA_CMD) (h3 : o ≠ Reg.Hif.XF_CMD) (hk : keptByBlockReset p o = false) :
    (s.blockReset p).reg p o = regReset p o := by
  have hbst : p ≠ pBst := by
    rcases hp with rfl | rfl | rfl | rfl | rfl <;> decide
  rw [State.blockReset_eq p h, State.refreshBalls_reg, State.reg_setFlag, if_neg (key_ne ho (by decide) (fun e => h0 e.2))]
  unfold State.pageResetOnly
  rw [if_neg hbst]
  exact State.pageReset_whole _ hp ho h1 h2 h3 hk

/-! LOCK.LOCKED -/

theorem State.lockWrite_locked {s : State} {p : Nat} (b : Blk) (h : s.locked p = true) : s.lockWrite b p 1 = s := by
  unfold State.lockWrite
  rw [h, Bool.or_true, if_pos rfl]

/-- LOCK of a page without a digest. -/
theorem State.lockWrite_plain {s : State} {p : Nat} {b : Blk} (h : s.locked p = false) (h1 : b ≠ .ptr0) (h2 : b ≠ .pav) :
    s.lockWrite b p 1 = s.setFlag p Reg.Hdr.LOCK 0 true := by
  unfold State.lockWrite
  rw [h, Bool.or_false, if_neg (by decide)]
  dsimp only
  split
  · exact absurd rfl h1
  · exact absurd rfl h2
  · rfl

/-- The format page's digest is of the step memory and of FMT_MATCH. -/
theorem State.fmtDigest_congr {s t : State} (hm : t.mem = s.mem)
    (hr : ∀ n < 32, t.reg pPtr0 (Reg.Ptr0.FMT_MATCH n) = s.reg pPtr0 (Reg.Ptr0.FMT_MATCH n)) : t.fmtDigest = s.fmtDigest := by
  have hpeek : t.peekMem = s.peekMem := by
    unfold State.peekMem
    rw [hm]
  have hword : ∀ n ∈ List.range 32, s.peekMem rgTable (stepOffset n 0) 512 ++ wordOctets (t.reg pPtr0 (Reg.Ptr0.FMT_MATCH n)) =
      s.peekMem rgTable (stepOffset n 0) 512 ++ wordOctets (s.reg pPtr0 (Reg.Ptr0.FMT_MATCH n)) :=
    fun n hn => by rw [hr n (List.mem_range.1 hn)]
  unfold State.fmtDigest
  rw [hpeek, List.flatMap_def, List.map_congr_left hword, ← List.flatMap_def]

theorem State.tblDigest_congr {s t : State} (hm : t.mem = s.mem) : t.tblDigest = s.tblDigest := by
  have hpeek : t.peekMem = s.peekMem := by
    unfold State.peekMem
    rw [hm]
  unfold State.tblDigest
  rw [hpeek]

theorem State.lockWrite_fmt {s : State} {p : Nat} (h : s.locked p = false) :
    s.lockWrite .ptr0 p 1 =
      (s.setFlag p Reg.Hdr.LOCK 0 true).setOctetRegs pPtr0 (Reg.Ptr0.FMT_DIGEST 0) s.fmtDigest := by
  have hd : (s.setFlag p Reg.Hdr.LOCK 0 true).fmtDigest = s.fmtDigest := State.fmtDigest_congr (State.setFlag_mem ..) (fun n hn => by
    have hu : Reg.Ptr0.FMT_MATCH n < 0x1000 ∧ Reg.Ptr0.FMT_MATCH n ≠ Reg.Hdr.LOCK := by
      unfold Reg.Ptr0.FMT_MATCH Reg.Hdr.LOCK
      omega
    rw [State.reg_setFlag, if_neg (key_ne hu.1 (by decide) (fun e => hu.2 e.2))])
  unfold State.lockWrite
  rw [h, Bool.or_false, if_neg (by decide)]
  dsimp only
  unfold State.fmtLock
  rw [hd]

theorem State.lockWrite_tbl {s : State} {p : Nat} (h : s.locked p = false) :
    s.lockWrite .pav p 1 =
      (s.setFlag p Reg.Hdr.LOCK 0 true).setOctetRegs pPav (Reg.Pav.TBL_DIGEST 0) s.tblDigest := by
  have hd : (s.setFlag p Reg.Hdr.LOCK 0 true).tblDigest = s.tblDigest := State.tblDigest_congr (State.setFlag_mem ..)
  unfold State.lockWrite
  rw [h, Bool.or_false, if_neg (by decide)]
  dsimp only
  unfold State.tblLock
  rw [hd]

theorem State.setRegs_gate (s : State) (p o stride : Nat) (ws : List Word) : (s.setRegs p o stride ws).gate = s.gate := by
  induction ws generalizing s o with
  | nil => rfl
  | cons w ws ih => exact ih ..

/-- A page locked by a write that reaches it. -/
theorem exec_lockWrite_lock {s x : State} {port : Port} {p : Fin 4096} {b : Blk} {n : Nat} (h : WriteReaches s port p Reg.Hdr.LOCK)
    (hb : blkOf p = some (b, n)) (hx : s.heard.lockWrite b p 1 = x) (hg : x.gate = s.heard.gate) :
    exec (.lockWrite port p) s = .next (s.done x) := by
  rw [exec_lockWrite, portWrite_header_idle h hb (by decide) (by decide) ((hdrWrite_lock ..).trans hx)
    (fun hs => State.gateIdle_gate hg (State.gateIdle_congr (s := s) rfl rfl hs))]

end Sys2Proof.Machine
end

section
/-!
SUPPORT. The commands of the header: a refused enable, a reset, and the end of a reset.
-/
namespace Sys2Proof.Machine

/-- A page that is fenced refuses and logs the write that would enable it (R429). -/
theorem exec_blockEnable_fenced {s : State} {port : Port} {p : Fin 4096} {b : Blk} {n : Nat} (h : WriteReaches s port p Reg.Hdr.CTL)
    (hb : blkOf p = some (b, n)) (hf : s.fencedPage p = true) :
    exec (.blockEnable port p) s = .next (s.done (s.heard.gthLog 2 (some port) p Reg.Hdr.CTL)) := by
  rw [exec_blockEnable, portWrite_header_idle h hb (by decide) (by decide)
    ((hdrWrite_enable ..).trans (State.pageEnable_fenced (s := s.heard) port hf))
    (fun hs => State.gthLog_gateIdle _ _ _ _ (State.gateIdle_congr (s := s) rfl rfl hs))]
  rfl

/-- A BLOCK_RESET that reaches its page: RST_BUSY stands, and the registers that are not kept read their reset values. -/
theorem exec_blockReset_resets {s : State} {port : Port} {p : Fin 4096} {b : Blk} {n : Nat} (h : WriteReaches s port p Reg.Hdr.CTL)
    (hb : blkOf p = some (b, n)) :
    ∃ t, exec (.blockReset port p) s = .next t ∧ t.flag p Reg.Hdr.STA 2 = true ∧
      ∀ o : Nat, o < 0x1000 → o ≠ Reg.Hdr.STA → o ≠ Reg.Hdr.FLT_STA → keptByBlockReset p o = false →
        (o < 0x40 → t.reg p o = regReset p o) ∧
        (wholeReset p.val →
          o ≠ Reg.Ccp.DMA_CMD → o ≠ Reg.Hif.XF_CMD → (p.val = pCcp → o ≠ Reg.Ccp.CCP_IP) → t.reg p o = regReset p o) := by
  obtain ⟨_, ⟨_, _, _, hnone⟩, _⟩ := id h
  have hbst : s.heard.bst = none := hnone
  have hreset := State.blockReset_resetTo (s := s.heard) p hbst
  refine ⟨s.done (s.heard.blockReset p), ?_, ?_, fun o ho h0 h1 hk => ⟨fun hhdr => ?_, fun hp h2 h3 hip => ?_⟩⟩
  · rw [exec_blockReset, portWrite_header_idle h hb (by decide) (by decide) (hdrWrite_reset ..)
      (fun hs => hreset.idle (State.gateIdle_congr (s := s) rfl rfl hs))]
  · rw [State.done_flag_other _ _ _ _ _ (key_ne (by decide) (by decide) (fun e => absurd e.2 (by decide)))]
    exact State.blockReset_busy p hbst
  · have hne : o ≠ Reg.Ccp.CCP_IP := by
      rintro rfl
      exact absurd hhdr (by decide)
    rw [State.done_reg_other _ _ _ _ (key_ne ho (by decide) (fun e => hne e.2))]
    exact hreset.header o hhdr h0 h1 hk
  · rw [State.done_reg_other _ _ _ _ (key_ne ho (by decide) (fun e => hip e.1 e.2))]
    exact State.blockReset_whole hbst hp ho h0 h1 h2 h3 hk

/-- BLOCK_RESET_COMPLETE while the page is busy resetting. -/
theorem State.blockResetEnd_busy {s : State} {p : Nat} (h : s.flag p Reg.Hdr.STA 2 = true) :
    s.blockResetEnd p = if p = pFtn then (s.setFlag p Reg.Hdr.STA 2 false).ftnStart else s.setFlag p Reg.Hdr.STA 2 false := by
  unfold State.blockResetEnd
  rw [h, Bool.not_true, if_neg (by decide)]

end Sys2Proof.Machine
end

section
namespace Sys2Proof.Proofs
open Sys2Proof.Machine

/-- Settles O9: each write reaches the page's header, and each is one of its cases there. -/
theorem headerEnableResetLock : Obligations.HeaderEnableResetLock := by
  unfold Obligations.HeaderEnableResetLock
  refine ⟨fun s port p b n h hb => ?_, fun s port p b n h hb => exec_blockReset_resets h hb, ?_, ?_⟩
  · refine ⟨fun hf => ?_, fun hf h1 h2 h3 h4 h5 => ?_, fun hf hc hoff hl => ?_, fun hf hp hoff hpc htv hcard => ?_, fun hp => ?_,
      fun hp => ?_, fun hp => ?_⟩
    · refine ⟨_, exec_blockEnable_fenced h hb hf, ?_, State.done_gthLog_log _ _ _ _ _ _ (by decide)⟩
      unfold State.flag
      rw [State.done_gthLog_reg _ _ _ _ _ _ _ _ (by decide) (fun e => absurd e.2 (by decide)) (fun e => absurd e.2 (by decide))]
      rfl
    · exact exec_blockEnable_set h hb (State.pageEnable_plain (s := s.heard) port hf h1 h2 h3 h4 (mt (blkOf_prc_iff hb).2 h5))
    · exact exec_blockEnable_set h hb (State.pageEnable_cluster (s := s.heard) port hf ((blkOf_prc_iff hb).1 hc) hoff hl)
    · refine exec_blockEnable_set h hb ?_
      rw [hp] at hf hoff ⊢
      exact State.pageEnable_psh (s := s.heard) port hf hoff hpc htv hcard
    · rw [exec_blockEnable, exec_sundialEnable, hp]
    · rw [exec_blockEnable, exec_pergolaEnable, hp]
    · rw [exec_blockEnable, exec_clnEnable, hp]
  · intro s p hbusy
    have he := State.blockResetEnd_busy (s := s.start) hbusy
    refine ⟨fun hp => ?_, fun hp => ?_⟩
    · rw [exec_blockResetComplete, he, if_neg hp]
    · rw [exec_blockResetComplete, he, if_pos hp]
  · intro s port p b n h hb
    refine ⟨fun hl => ?_, fun hl h1 h2 => ?_, fun hl hf => ?_, fun hl ht => ?_⟩
    · exact exec_lockWrite_lock h hb (State.lockWrite_locked (s := s.heard) b hl) rfl
    · exact exec_lockWrite_lock h hb (State.lockWrite_plain (s := s.heard) hl h1 h2) rfl
    · subst hf
      exact exec_lockWrite_lock h hb (State.lockWrite_fmt (s := s.heard) hl) (State.setRegs_gate ..)
    · subst ht
      exact exec_lockWrite_lock h hb (State.lockWrite_tbl (s := s.heard) hl) (State.setRegs_gate ..)

end Sys2Proof.Proofs
end

section
/-!
SUPPORT. A write of a block register that leaves the Gatehouse idle, a field that the access codes let a write reach, and PRF (R20, R21).
-/
namespace Sys2Proof.Machine

/-- A write that reaches a plain register of a page, where it leaves the Gatehouse idle. -/
theorem portWrite_block_idle {s x : State} {port : Port} {p o n : Nat} {b : Blk} {v : Word} (h : WriteReaches s port p o)
    (hb : blkOf p = some (b, n)) (hr : plainReg p o = true) (ha : s.absentPort b n o = false)
    (hx : s.heard.blockWrite port b n p o v = x) (hi : s.gateIdle → x.gateIdle) : s.start.portWrite port p o v = x := by
  have hq : s.quiet := h.2.1
  rw [busWrite_reaches (s := s.start) h hb hr ha]
  show (s.heard.blockWrite port b n p o v).released.proxyNet = x
  rw [hx]
  exact (hi hq.gateIdle).released_proxyNet

/-- Bit i of a register takes the written value: it is RW, or RWL on a page that is not locked, and writing 1 does not clear it (R6). -/
def RegSpec.takes (r : RegSpec) (locked : Bool) (i : Nat) : Prop :=
  bitAt (r.mask .w1c) i = false ∧ (bitAt (r.mask .rw) i = true ∨ (bitAt (r.mask .rwl) i = true ∧ locked = false))

/-- A field whose bits all take the written value holds what was written. -/
theorem RegSpec.bits_merge_takes (r : RegSpec) {locked : Bool} {hi lo : Nat} (old v : Word) (h : hi < 32)
    (ht : ∀ i, lo ≤ i → i ≤ hi → r.takes locked i) : bits (r.merge locked old v) hi lo = bits v hi lo := by
  refine bits_congr fun i h1 h2 => ?_
  obtain ⟨hw, hset⟩ := ht i h1 h2
  rw [r.bitAt_merge locked old v i (fun hc => Bool.false_ne_true (hw.symm.trans hc.1)) (by omega), if_pos hset]

/-- A field that admits the values passing a test, all its bits taking the written value: it takes such a value, and otherwise keeps its own. -/
theorem State.fieldWrite_takes (s : State) {p o hi lo : Nat} {r : RegSpec} (ok : Nat → Bool) (v : Word) (hs : specOf p o = some r)
    (h : hi < 32) (hl : lo ≤ hi) (ht : ∀ i, lo ≤ i → i ≤ hi → r.takes (s.locked p) i) :
    ∃ w, s.fieldWrite p o hi lo ok v = s.setReg p o w ∧
      bits w hi lo = if ok (bits v hi lo) then bits v hi lo else s.fld p o hi lo := by
  refine ⟨r.merge (s.locked p) (s.reg p o) (if ok (bits v hi lo) then v else putBits v hi lo (s.fld p o hi lo)), ?_, ?_⟩
  · unfold State.fieldWrite State.plainWrite
    rw [hs]
  · rw [r.bits_merge_takes _ _ h ht]
    split
    · rfl
    · rw [bits_putBits _ _ _ _ h hl]
      exact Nat.mod_mod _ _

theorem specOf_prf : specOf pSys Reg.Sys.PRF = some ⟨0x040, 0x004, 1, [⟨1, 0, .rwl, 0⟩, ⟨9, 8, .ro, 0⟩]⟩ := rfl

/-- Both bits of PRF_SEL take the written value on a page that is not locked (R20). -/
theorem prf_takes {i : Nat} (h : i ≤ 1) :
    RegSpec.takes ⟨0x040, 0x004, 1, [⟨1, 0, .rwl, 0⟩, ⟨9, 8, .ro, 0⟩]⟩ false i := by
  have hi : i = 0 ∨ i = 1 := by omega
  rcases hi with rfl | rfl
  · exact ⟨by decide, .inr ⟨by decide, rfl⟩⟩
  · exact ⟨by decide, .inr ⟨by decide, rfl⟩⟩

/-- PRF written while the Pergola is off and the page is not locked: PRF_SEL takes any value but 3 (R20). -/
theorem State.prfWrite_off {s : State} (port : Port) (v : Word) (hoff : s.pglOn = false) (hl : s.locked pSys = false) :
    ∃ w, s.prfWrite port v = s.setReg pSys Reg.Sys.PRF w ∧
      bits w 1 0 = if bits v 1 0 = 3 then s.fld pSys Reg.Sys.PRF 1 0 else bits v 1 0 := by
  obtain ⟨w, hw, hsel⟩ := s.fieldWrite_takes (hi := 1) (lo := 0) (fun x => x ≠ 3) v specOf_prf (by decide) (by decide) (by
    rw [hl]
    exact fun i _ hi => prf_takes hi)
  refine ⟨w, ?_, ?_⟩
  · unfold State.prfWrite
    rw [hoff]
    exact hw
  · rw [hsel]
    simp only [ne_eq, decide_eq_true_eq, ite_not]

/-- PRF written while the Pergola is on: the write is refused and logged (R21). -/
theorem State.prfWrite_on {s : State} (port : Port) (v : Word) (hon : s.pglOn = true) :
    s.prfWrite port v = s.gthLog 2 (some port) pSys Reg.Sys.PRF := by
  unfold State.prfWrite
  rw [hon]
  rfl

/-- A write of PRF that reaches it, where it leaves the Gatehouse idle. -/
theorem exec_prfWrite_reaches {s x : State} {port : Port} {v : Word} (h : WriteReaches s port pSys Reg.Sys.PRF)
    (hx : s.heard.prfWrite port v = x) (hi : s.gateIdle → x.gateIdle) : exec (.prfWrite port v) s = .next (s.done x) := by
  rw [exec_prfWrite, portWrite_block_idle (b := .sys) (n := 0) h rfl (by decide) rfl hx hi]

end Sys2Proof.Machine
end

section
namespace Sys2Proof.Proofs
open Sys2Proof.Machine

/-- Settles O12: the write reaches PRF, and the Pergola's enable decides between its field write and its refusal. -/
theorem profileIsFixedWhileScheduled : Obligations.ProfileIsFixedWhileScheduled := by
  unfold Obligations.ProfileIsFixedWhileScheduled
  constructor
  · intro s port v h hoff hl
    obtain ⟨w, hw, hsel⟩ := State.prfWrite_off (s := s.heard) port v hoff hl
    exact ⟨w, exec_prfWrite_reaches h hw (fun hs => State.gateIdle_congr (s := s) rfl rfl hs), hsel⟩
  · intro s port v h hon
    refine ⟨_, exec_prfWrite_reaches h (State.prfWrite_on (s := s.heard) port v hon)
      (fun hs => State.gthLog_gateIdle _ _ _ _ (State.gateIdle_congr (s := s) rfl rfl hs)), ?_, ?_⟩
    · exact State.done_gthLog_reg _ _ _ _ _ _ _ _ (by decide) (by decide) (by decide)
    · exact State.done_gthLog_log _ _ _ _ _ _ (by decide)

end Sys2Proof.Proofs
end

section
/-!
SUPPORT. What a supply dip, its recovery and a loss of VDDIO18 leave (R44, R45, R450, R540), and what an event of the Sundial records.
-/
namespace Sys2Proof.Machine

/-! Dips -/

theorem State.supplyDip_new {s : State} {x : Supply} (h : s.pwr.low.contains x = false) :
    s.supplyDip x = if x = .vddio33 then ({ s with pwr.low := x :: s.pwr.low, nvm.dip := true } : State).refreshBalls
      else { s with pwr.low := x :: s.pwr.low, nvm.dip := true } := by
  unfold State.supplyDip
  rw [h, if_neg (by decide)]

/-- Without VDDIO33 every ball is high-impedance (R45). -/
theorem State.refreshBalls_dark {s : State} (h : s.pwr.low.contains .vddio33 = true) :
    s.refreshBalls = { s with ldg.aout := List.replicate 32 .z } := by
  have hball : s.ballNow = fun _ => .z := funext fun b => by
    unfold State.ballNow
    rw [if_pos h]
  unfold State.refreshBalls
  rw [hball, List.map_const', List.length_range]

/-- The end of a dip with no MRAM operation held. -/
theorem State.supplyRecovery_undeferred {s : State} (x : Supply) (h : s.nvm.deferred = []) : s.supplyRecovery x = s.supplyBack x := by
  unfold State.supplyRecovery
  rw [h]
  rfl

/-- The supply's own dip over, before anything resumes. -/
def State.dipOver (s : State) (x : Supply) : State :=
  { s with pwr.low := s.pwr.low.filter (fun y => y ≠ x), nvm.dip := !(s.pwr.low.filter (fun y => y ≠ x)).isEmpty }

theorem State.supplyBack_low {s : State} {x : Supply} (h : s.pwr.low.contains x = true) (hl : x = .vddio18 → s.pwr.vddio18Lost = false) :
    s.supplyBack x = if (s.pwr.low.filter (fun y => y ≠ x)).isEmpty
      then (if x = .vddio33 then (s.dipOver x).refreshBalls else s.dipOver x).nvmDipped.nvmResume
      else if x = .vddio33 then (s.dipOver x).refreshBalls else s.dipOver x := by
  have hgo : (!s.pwr.low.contains x || (x == .vddio18 && s.pwr.vddio18Lost)) = false := by
    rw [h]
    by_cases hx : x = .vddio18
    · simp [hl hx]
    · simp [hx]
  unfold State.supplyBack
  rw [hgo, if_neg (by decide)]
  rfl

/-- With another supply still low nothing resumes (R44). -/
theorem State.supplyBack_others {s : State} {x : Supply} (h : s.pwr.low.contains x = true)
    (hl : x = .vddio18 → s.pwr.vddio18Lost = false) (ho : s.pwr.low.filter (fun y => y ≠ x) ≠ []) :
    s.supplyBack x = if x = .vddio33 then (s.dipOver x).refreshBalls else s.dipOver x := by
  rw [State.supplyBack_low h hl, if_neg (by simpa only [List.isEmpty_iff] using ho)]

/-- With no operation in progress and none held, the end of a dip has nothing to resume. -/
theorem State.resume_idle {s : State} (hr : s.nvm.run = none) (hd : s.nvm.deferred = []) : s.nvmDipped.nvmResume = s := by
  have hkeep : ({ s with nvm.deferred := [] } : State) = s := by rw [← hd]
  have hdip : s.nvmDipped = s := by
    unfold State.nvmDipped
    rw [hr]
  dsimp only at hkeep
  rw [hdip]
  unfold State.nvmResume
  simp only [hd, List.foldl_nil, hkeep, ite_self]
  rw [hr]

/-- The end of the only dip (R44). -/
theorem State.supplyBack_last {s : State} {x : Supply} (h : s.pwr.low = [x]) (hx : x ≠ .vddio33)
    (hl : x = .vddio18 → s.pwr.vddio18Lost = false) (hr : s.nvm.run = none) (hd : s.nvm.deferred = []) :
    s.supplyBack x = { s with pwr.low := [], nvm.dip := false } := by
  have hf : s.pwr.low.filter (fun y => y ≠ x) = [] := by simp [h]
  have hover : s.dipOver x = { s with pwr.low := [], nvm.dip := false } := by
    unfold State.dipOver
    rw [hf]
    rfl
  rw [State.supplyBack_low (by simp [h]) hl, if_pos (by rw [hf]; rfl), if_neg hx, State.resume_idle (s := s.dipOver x) hr hd, hover]

/-! A loss of VDDIO18 -/

/-- VDDIO18 lost, before the reset it causes: the well has changed over and no source counts as raised. -/
def State.vddio18Gone (s : State) : State :=
  { s.changeover with
    pwr.low := if s.pwr.low.contains .vddio18 then s.pwr.low else .vddio18 :: s.pwr.low, pwr.vddio18Lost := true, hdg.raised := [] }

theorem State.vddio18Loss_eq {s : State} (h : s.pwr.vddio18Lost = false) : s.vddio18Loss = s.vddio18Gone.lodgeLoss := by
  unfold State.vddio18Loss
  rw [h, if_neg (by decide)]
  rfl

theorem State.changeover_held {s : State} (h : s.pwr.vbatOk = true) :
    s.changeover.well =
      { s.well with onVbat := true, ticks := 0, staLoss := if s.sdl.state = .free then none else some s.sdl.time } := by
  unfold State.changeover
  rw [h]
  rfl

theorem State.changeover_lost {s : State} (h : s.pwr.vbatOk = false) :
    s.changeover.well = { Well.reset with pattern := false, onVbat := true } := by
  unfold State.changeover
  rw [h]
  rfl

theorem State.changeover_onVbat (s : State) : s.changeover.well.onVbat = true := by
  unfold State.changeover
  split <;> rfl

theorem State.changeover_keeps (s : State) : s.changeover.nvm = s.nvm ∧ s.changeover.ksk = s.ksk ∧ s.changeover.regs = s.regs := by
  unfold State.changeover
  split <;> exact ⟨rfl, rfl, rfl⟩

/-- Registers after a loss of VDDIO18, with no field at the tag: those that both the reset and the well keep (R540). -/
theorem State.lodgeLoss_reg {s : State} (hr : s.nvm.run = none) (hf : s.ksk.field = false) (p o : Nat) (ho : o < 0x1000) :
    s.lodgeLoss.reg p o =
      if (keptByReset (regKey p o) && keptByWell false (regKey p o)) = true then s.reg p o else regReset p o := by
  have hk : s.mainReset.ksk.field = false := by
    unfold State.mainReset
    rw [State.nvmCut_idle _ hr]
    exact hf
  have e1 : regKey p o / 0x1000 = p := by unfold regKey; omega
  have e2 : regKey p o % 0x1000 = o := by unfold regKey; omega
  have e3 : regDflt (regKey p o) = regReset p o := by unfold regDflt; rw [e1, e2]
  have hm := State.mainReset_reg s hr p o ho
  unfold State.lodgeLoss
  dsimp only
  rw [hk]
  show smGet regDflt (smKeep s.mainReset.regs (keptByWell false)) (regKey p o) = _
  rw [smGet_smKeep, e3]
  show (if _ then s.mainReset.reg p o else _) = _
  rw [hm]
  cases keptByReset (regKey p o) <;> cases keptByWell false (regKey p o) <;> rfl

/-- The well and the supplies stand through it. -/
theorem State.lodgeLoss_keeps {s : State} (hr : s.nvm.run = none) :
    s.lodgeLoss.well = s.well ∧ s.lodgeLoss.pwr = { s.pwr with avsSilent := false, avsAsked := false } := by
  have hw : s.lodgeLoss.well = s.nvmCut.well := rfl
  have hp : s.lodgeLoss.pwr = { s.nvmCut.pwr with avsSilent := false, avsAsked := false } := rfl
  rw [hw, hp, State.nvmCut_idle _ hr]
  exact ⟨rfl, rfl⟩

/-- VDDIO18 counts as low once it is lost. -/
theorem State.vddio18Gone_low (s : State) : s.vddio18Gone.pwr.low.contains .vddio18 = true := by
  unfold State.vddio18Gone
  dsimp only
  split
  · assumption
  · rfl

/-- SRC_CFG_s is a register that the well holds (R455). -/
theorem srcCfg_kept {i : Nat} (h : i < 8) :
    srcCfgOff i < 0x1000 ∧ (keptByReset (regKey pHdg (srcCfgOff i)) && keptByWell false (regKey pHdg (srcCfgOff i))) = true := by
  revert i
  decide

/-! Losses of VBAT, CD_VIO and REF10M -/

theorem State.vbatLoss_backup {s : State} (h : s.well.onVbat = true) :
    s.vbatLoss = { s with pwr.vbatOk := false, well := { Well.reset with pattern := false, onVbat := true } } := by
  unfold State.vbatLoss State.onBackup
  dsimp only
  rw [if_pos h]

theorem State.vbatLoss_supplied {s : State} (h : s.well.onVbat = false) : s.vbatLoss = { s with pwr.vbatOk := false } := by
  unfold State.vbatLoss State.onBackup
  dsimp only
  rw [if_neg (ne_true_of_eq_false h)]

theorem State.cdVioOut_powered {s : State} (h : s.psh.pwrEn = true) :
    s.cdVioOut = ({ s with pwr.cdVioOk := false } : State).fault pSys 5 := by
  unfold State.cdVioOut
  dsimp only
  rw [if_pos h]

theorem State.ref10mLoss_present {s : State} (h : s.pwr.ref10mLost = false) :
    s.ref10mLoss = ({ s with pwr.ref10mLost := true } : State).sdlEvent 7 := by
  unfold State.ref10mLoss
  rw [if_neg (ne_true_of_eq_false h)]

/-- The newest entry of EVT after an event (R138). -/
theorem State.sdlEvent_last (s : State) (n : Nat) :
    (s.sdlEvent n).sdl.evt.getLast? = some ⟨n, decide (16 ≤ s.sdl.evt.length), s.sdl.slotCnt % 2 ^ 24⟩ :=
  List.getLast?_concat ..

end Sys2Proof.Machine
end

section
namespace Sys2Proof.Proofs
open Sys2Proof.Machine

/-- Settles O15: each event is its own operation, and a loss of VDDIO18 the main domain's reset cut down to what the well holds. -/
theorem supplyEvents : Obligations.SupplyEvents := by
  unfold Obligations.SupplyEvents
  refine ⟨fun s x h => ?_, fun s x h hl hd ho => ?_, fun s x h hx hl hr hd => ?_, fun s hl hr hf => ?_, fun s h => ?_, fun s h => ?_,
    fun s hu hp => ?_, fun s h => ?_, fun s => exec_ref10mRecovery s⟩
  · have he := State.supplyDip_new (s := s.start) h
    refine ⟨fun hx => ?_, fun hx => ?_⟩
    · rw [exec_supplyDip, he, if_neg hx]
      rfl
    · rw [exec_supplyDip, he, if_pos hx, State.refreshBalls_dark (by simp [hx])]
      rfl
  · refine ⟨_, exec_supplyRecovery x s, ?_⟩
    rw [State.supplyRecovery_undeferred (s := s.start) x hd, State.supplyBack_others (s := s.start) h hl ho]
    have hdip : (s.start.dipOver x).nvm.dip = true := by
      show (!(s.pwr.low.filter (fun y => y ≠ x)).isEmpty) = true
      rw [Bool.not_eq_true', List.isEmpty_eq_false_iff]
      exact ho
    split <;> exact ⟨rfl, hdip, rfl, rfl⟩
  · rw [exec_supplyRecovery, State.supplyRecovery_undeferred (s := s.start) x hd,
      State.supplyBack_last (s := s.start) h hx hl hr hd]
  · obtain ⟨hnvm, hksk, hregs⟩ := s.start.changeover_keeps
    have hrun : s.start.vddio18Gone.nvm.run = none := (congrArg Nvm.run hnvm).trans hr
    have hreg := State.lodgeLoss_reg hrun ((congrArg Kiosk.field hksk).trans hf)
    obtain ⟨hwell, hpwr⟩ := State.lodgeLoss_keeps hrun
    refine ⟨_, exec_vddio18Loss s, ?_⟩
    rw [State.vddio18Loss_eq (s := s.start) hl]
    refine ⟨?_, ?_, ?_, fun hv => ?_, fun hv => ?_, rfl, rfl, fun p o hp ho hk hne => ?_, fun i hi => ?_⟩
    · rw [State.done_pwr, hpwr]
      rfl
    · rw [State.done_pwr, hpwr]
      exact State.vddio18Gone_low _
    · exact (congrArg Well.onVbat hwell).trans (State.changeover_onVbat _)
    · exact hwell.trans (State.changeover_held (s := s.start) hv)
    · have hlost := hwell.trans (State.changeover_lost (s := s.start) hv)
      exact ⟨(congrArg Well.bbr hlost :), (congrArg Well.pattern hlost :)⟩
    · rw [State.done_reg_other _ _ _ _ (key_ne ho (by decide) hne), hreg p o ho, if_neg (by rw [hk]; decide)]
    · obtain ⟨ho, hk⟩ := srcCfg_kept hi
      rw [State.done_reg_other _ _ _ _ (key_ne ho (by decide) (by rintro ⟨h, _⟩; exact absurd h (by decide))), hreg _ _ ho, if_pos hk]
      unfold State.reg
      exact congrArg (fun r => smGet regDflt r _) hregs
  · rw [exec_vbatLoss, State.vbatLoss_backup (s := s.start) h]
  · rw [exec_vbatLoss, State.vbatLoss_supplied (s := s.start) h]
  · rw [exec_cdVioOutOfRange s hu, State.cdVioOut_powered (s := s.start) hp]
  · refine ⟨_, exec_ref10mLoss s, ?_⟩
    rw [State.ref10mLoss_present (s := s.start) h]
    refine ⟨rfl, ?_, State.sdlEvent_last _ _⟩
    rw [State.done_flag_other _ _ _ _ _ (by decide)]
    exact State.fault_flag _ _ _ (by decide)

end Sys2Proof.Proofs
end

section
/-!
SUPPORT. Lanes that lose their reference clock (R50, R176, R177), and the sides of the Colonnade that go with REFCLK_B (R390, R391).
-/
namespace Sys2Proof.Machine

/-! Lanes -/

/-- A lane's reference clock is lost: nothing where it has no mode; else its link goes, and FLT_STA bit 2 stands. -/
def State.laneUnclocked (s : State) (n : Nat) : State :=
  if s.laneMode n = 0 then s else (s.laneLost n).fault (pLne n) 2

/-- A reference clock is lost, before any lane hears of it: SYS FLT_STA bit 2 or 3 (R50, R60). -/
def State.refLost (s : State) (b : Bool) : State :=
  (if b then ({ s with pwr.refBLost := true } : State) else { s with pwr.refALost := true }).fault pSys (if b then 3 else 2)

theorem State.refLanesLost_eq (s : State) (b : Bool) :
    s.refLanesLost b = (refLanes b).foldl State.laneUnclocked (s.refLost b) := rfl

theorem pLne_inj {m n : Nat} : pLne m = pLne n ↔ m = n := Nat.add_left_cancel_iff

/-- The lanes' pages are the last. -/
theorem ne_pLne {p n : Nat} (h : p < 0x280) : p ≠ pLne n := by
  unfold pLne
  omega

theorem pLne_clear (n : Nat) : pLne n < 0x201 ∨ 0x210 < pLne n := by
  unfold pLne
  omega

theorem refLanes_lt {b : Bool} {n : Nat} (h : n ∈ refLanes b) : n < 64 := by
  obtain ⟨i, hi, rfl⟩ := List.mem_map.1 h
  have := List.mem_range.1 hi
  split <;> omega

/-- The ports of a lane lie in the clusters' pages. -/
theorem portPage_lanePorts {m n p : Nat} (hn : n < 64) (h : p ∈ lanePorts m n) : 0x201 ≤ portPage p ∧ portPage p ≤ 0x210 := by
  have hp : p < 256 := by
    unfold lanePorts at h
    split at h
    · cases h
    · split at h
      · simp only [List.mem_cons, List.not_mem_nil, or_false] at h
        omega
      · split at h <;> (rw [List.mem_singleton] at h; omega)
  unfold portPage pPrc
  omega

theorem State.portDown_reg (s : State) (port q u : Nat) (hu : u < 0x1000) (h : q ≠ portPage port) :
    (s.portDown port).reg q u = s.reg q u := by
  unfold State.portDown
  rw [State.reg_setFld, if_neg (key_ne hu (by unfold Reg.Prc.PORT_STA; omega) (fun e => h e.1))]

/-- A lost lane changes its own page and pages of clusters alone; of its own page STA and FLT_STA. -/
theorem State.laneLost_reg (s : State) {n q u : Nat} (hn : n < 64) (hu : u < 0x1000) (hq : q < 0x201 ∨ 0x210 < q)
    (h : q = pLne n → u ≠ Reg.Hdr.STA ∧ u ≠ Reg.Hdr.FLT_STA) : (s.laneLost n).reg q u = s.reg q u := by
  have hports : ((lanePorts (s.laneMode n) n).foldl State.portDown (s.laneDown n)).reg q u = s.reg q u := by
    refine List.foldlRecOn (motive := fun t : State => t.reg q u = s.reg q u) _ _ ?_ (fun t ht p hp => ?_)
    · unfold State.laneDown
      rw [State.reg_setFld, if_neg (key_ne hu (by decide) (fun e => (h e.1).1 e.2))]
    · have := portPage_lanePorts hn hp
      rw [State.portDown_reg _ _ _ _ hu (by omega), ht]
  unfold State.laneLost
  dsimp only
  split
  · rw [State.fault_reg _ _ _ _ _ (key_ne hu (by decide) (fun e => (h e.1).2 e.2))]
    exact hports
  · exact hports

/-- The link bits of a lost lane. -/
theorem State.laneLost_sta (s : State) {n : Nat} (hn : n < 64) : (s.laneLost n).fld (pLne n) Reg.Hdr.STA 12 9 = 0 := by
  have hports : ((lanePorts (s.laneMode n) n).foldl State.portDown (s.laneDown n)).reg (pLne n) Reg.Hdr.STA =
      (s.laneDown n).reg (pLne n) Reg.Hdr.STA := by
    refine List.foldlRecOn (motive := fun t : State => t.reg (pLne n) Reg.Hdr.STA = (s.laneDown n).reg (pLne n) Reg.Hdr.STA) _ _ rfl
      (fun t ht p hp => ?_)
    have := portPage_lanePorts hn hp
    rw [State.portDown_reg _ _ _ _ (by decide) (by unfold pLne; omega), ht]
  have hdown : (s.laneDown n).fld (pLne n) Reg.Hdr.STA 12 9 = 0 := by
    unfold State.fld State.laneDown
    rw [State.reg_setFld_same, bits_putBits _ _ _ _ (by decide) (by decide), Nat.zero_mod]
  unfold State.laneLost State.fld
  dsimp only
  split
  · rw [State.fault_reg _ _ _ _ _ (key_ne (by decide) (by decide) (fun e => absurd e.2 (by decide)))]
    exact (congrArg (bits · 12 9) hports).trans hdown
  · exact (congrArg (bits · 12 9) hports).trans hdown

theorem State.laneUnclocked_reg (s : State) {n q u : Nat} (hn : n < 64) (hu : u < 0x1000) (hq : q < 0x201 ∨ 0x210 < q)
    (h : q = pLne n → u ≠ Reg.Hdr.STA ∧ u ≠ Reg.Hdr.FLT_STA) : (s.laneUnclocked n).reg q u = s.reg q u := by
  unfold State.laneUnclocked
  split
  · rfl
  · rw [State.fault_reg _ _ _ _ _ (key_ne hu (by decide) (fun e => (h e.1).2 e.2)), State.laneLost_reg s hn hu hq h]

theorem State.laneUnclocked_mode (s : State) {n m : Nat} (hn : n < 64) : (s.laneUnclocked n).laneMode m = s.laneMode m := by
  unfold State.laneMode State.fld
  rw [State.laneUnclocked_reg s hn (by decide) (pLne_clear m) (fun _ => by decide)]

/-- The lane shows the loss of its reference clock: LNE FLT_STA bit 2, and no link status. -/
def State.unclocked (s : State) (n : Nat) : Prop :=
  s.flag (pLne n) Reg.Hdr.FLT_STA 2 = true ∧ s.fld (pLne n) Reg.Hdr.STA 12 9 = 0

theorem State.unclocked_congr {s t : State} {n : Nat} (h : ∀ o < 0x1000, t.reg (pLne n) o = s.reg (pLne n) o) (hs : s.unclocked n) :
    t.unclocked n := by
  unfold State.unclocked State.flag State.fld at hs ⊢
  rw [h _ (by decide), h _ (by decide)]
  exact hs

theorem State.laneUnclocked_unclocked (s : State) {n : Nat} (hn : n < 64) (h : s.laneMode n ≠ 0) : (s.laneUnclocked n).unclocked n := by
  unfold State.laneUnclocked
  rw [if_neg h]
  refine ⟨State.fault_flag _ _ _ (by decide), ?_⟩
  unfold State.fld
  rw [State.fault_reg _ _ _ _ _ (key_ne (by decide) (by decide) (fun e => absurd e.2 (by decide)))]
  exact s.laneLost_sta hn

/-- A lane that shows the loss still shows it after another loss, its own or another lane's. -/
theorem State.laneUnclocked_keeps {s : State} {n m : Nat} (hn : n < 64) (h : s.unclocked m) : (s.laneUnclocked n).unclocked m := by
  by_cases hm : m = n
  · subst hm
    by_cases h0 : s.laneMode m = 0
    · unfold State.laneUnclocked
      rwa [if_pos h0]
    · exact s.laneUnclocked_unclocked hn h0
  · refine State.unclocked_congr (fun o ho => s.laneUnclocked_reg hn ho (pLne_clear m) (fun e => ?_)) h
    exact absurd (pLne_inj.1 e) hm

/-- Registers of other pages than the lanes' of a list and the clusters'. -/
theorem State.lanesUnclocked_reg {ns : List Nat} (hns : ∀ n ∈ ns, n < 64) (s : State) {q u : Nat} (hu : u < 0x1000)
    (hq : q < 0x201 ∨ 0x210 < q) (h : ∀ n ∈ ns, q ≠ pLne n) : (ns.foldl State.laneUnclocked s).reg q u = s.reg q u :=
  List.foldlRecOn (motive := fun t : State => t.reg q u = s.reg q u) _ _ rfl
    (fun t ht n hn => (t.laneUnclocked_reg (hns n hn) hu hq (fun e => absurd e (h n hn))).trans ht)

/-- Every lane of a list that has a mode shows the loss. -/
theorem State.lanesUnclocked_unclocked {ns : List Nat} (hns : ∀ n ∈ ns, n < 64) (s : State) {m : Nat} (hm : m ∈ ns)
    (h : s.laneMode m ≠ 0) : (ns.foldl State.laneUnclocked s).unclocked m := by
  induction ns generalizing s with
  | nil => cases hm
  | cons n ns ih =>
    have hn : n < 64 := hns n (List.mem_cons_self ..)
    have hrest : ∀ k ∈ ns, k < 64 := fun k hk => hns k (List.mem_cons_of_mem _ hk)
    rw [List.foldl_cons]
    rcases List.mem_cons.1 hm with rfl | hm
    · exact List.foldlRecOn (motive := fun t : State => t.unclocked m) _ _ (s.laneUnclocked_unclocked hn h)
        (fun t ht k hk => State.laneUnclocked_keeps (hrest k hk) ht)
    · exact ih hrest (s.laneUnclocked n) hm (by rwa [State.laneUnclocked_mode s hn])

theorem State.laneUnclocked_pwr (s : State) (n : Nat) : (s.laneUnclocked n).pwr = s.pwr := by
  have hports : ((lanePorts (s.laneMode n) n).foldl State.portDown (s.laneDown n)).pwr = s.pwr :=
    foldl_keeps State.portDown State.pwr (fun _ _ => rfl) _ _
  unfold State.laneUnclocked State.laneLost
  dsimp only
  split
  · rfl
  · split <;> exact hports

/-! Sides of the Colonnade -/

/-- A side that goes: its own bits of SIDE_STA and the links of its lanes. -/
theorem State.sideDown_eq (s : State) (side : Nat) :
    s.sideUp side false = (sideLanes side).foldl (fun s l => s.setFlag pCln (Reg.Cln.CL_STA l) 3 false)
      ((s.setFlag pCln Reg.Cln.SIDE_STA side false).setFlag pCln Reg.Cln.SIDE_STA (side + 2) false) := rfl

theorem State.sideDown_other (s : State) {side q u : Nat} (hs : side < 2) (hu : u < 0x1000) (h : q ≠ pCln) :
    (s.sideUp side false).reg q u = s.reg q u := by
  rw [State.sideDown_eq]
  refine List.foldlRecOn (motive := fun t : State => t.reg q u = s.reg q u) _ _ ?_ (fun t ht l hl => ?_)
  · rw [State.reg_setFlag, if_neg (key_ne hu (by decide) (fun e => h e.1)), State.reg_setFlag,
      if_neg (key_ne hu (by decide) (fun e => h e.1))]
  · obtain ⟨i, hi, rfl⟩ := List.mem_map.1 hl
    have := List.mem_range.1 hi
    rw [State.reg_setFlag, if_neg (key_ne hu (by unfold Reg.Cln.CL_STA; omega) (fun e => h e.1)), ht]

theorem State.sideDown_pwr (s : State) (side : Nat) : (s.sideUp side false).pwr = s.pwr := by
  rw [State.sideDown_eq]
  exact foldl_keeps (fun s l => s.setFlag pCln (Reg.Cln.CL_STA l) 3 false) State.pwr (fun _ _ => rfl) _ _

/-- Clearing a flag sets none. -/
theorem State.flag_clear {s : State} {q u j : Nat} (p o i : Nat) (hi : i < 32) (h : s.flag q u j = false) :
    (s.setFlag p o i false).flag q u j = false := by
  rw [State.flag_setFlag _ _ _ _ _ _ _ _ hi, h, ite_self]

theorem State.linksDown_clear {s : State} {q u j : Nat} (ls : List Nat) (h : s.flag q u j = false) :
    (ls.foldl (fun s l => s.setFlag pCln (Reg.Cln.CL_STA l) 3 false) s).flag q u j = false :=
  List.foldlRecOn (motive := fun t : State => t.flag q u j = false) _ _ h (fun _ ht _ _ => State.flag_clear _ _ _ (by decide) ht)

/-- A side that goes sets no flag. -/
theorem State.sideDown_clear {s : State} {q u j : Nat} (side : Nat) (hs : side < 2) (h : s.flag q u j = false) :
    (s.sideUp side false).flag q u j = false := by
  rw [State.sideDown_eq]
  exact State.linksDown_clear _ (State.flag_clear _ _ _ (by omega) (State.flag_clear _ _ _ (by omega) h))

/-- A side that goes has neither link nor heartbeat. -/
theorem State.sideDown_sta (s : State) {side : Nat} (hs : side < 2) :
    (s.sideUp side false).flag pCln Reg.Cln.SIDE_STA side = false ∧
      (s.sideUp side false).flag pCln Reg.Cln.SIDE_STA (side + 2) = false := by
  rw [State.sideDown_eq]
  exact ⟨State.linksDown_clear _ (State.flag_clear _ _ _ (by omega) (State.flag_setFlag_same _ _ _ _ _ (by omega))),
    State.linksDown_clear _ (State.flag_setFlag_same _ _ _ _ _ (by omega))⟩

/-- The lanes of a side that goes have no link. -/
theorem State.sideDown_link (s : State) {side l : Nat} (hl : l ∈ sideLanes side) :
    (s.sideUp side false).flag pCln (Reg.Cln.CL_STA l) 3 = false := by
  obtain ⟨before, after, hsplit⟩ := List.append_of_mem hl
  rw [State.sideDown_eq, hsplit, List.foldl_append, List.foldl_cons]
  exact State.linksDown_clear _ (State.flag_setFlag_same _ _ _ _ _ (by decide))

theorem mem_sideLanes {l : Nat} : l ∈ sideLanes (l / 4) :=
  List.mem_map.2 ⟨l % 4, List.mem_range.2 (Nat.mod_lt _ (by decide)), by omega⟩

/-- A field whose bits are all clear is 0. -/
theorem State.fld_zero {s : State} {p o hi lo : Nat} (h : ∀ j, lo ≤ j → j ≤ hi → s.flag p o j = false) : s.fld p o hi lo = 0 := by
  unfold State.fld
  rw [bits_congr (b := 0) (fun j h1 h2 => (h j h1 h2).trans (by simp [bitAt]))]
  simp [bits]

/-- Both sides gone: no link and no heartbeat, and no lane of the first side linked. -/
theorem State.sidesDown (s : State) :
    ((s.sideUp 0 false).sideUp 1 false).fld pCln Reg.Cln.SIDE_STA 3 0 = 0 ∧
      ∀ l < 4, ((s.sideUp 0 false).sideUp 1 false).flag pCln (Reg.Cln.CL_STA l) 3 = false := by
  obtain ⟨h0, h2⟩ := s.sideDown_sta (side := 0) (by decide)
  obtain ⟨h1, h3⟩ := (s.sideUp 0 false).sideDown_sta (side := 1) (by decide)
  refine ⟨State.fld_zero (fun j _ hj => ?_), fun l hl => State.sideDown_clear 1 (by decide) (s.sideDown_link ?_)⟩
  · have hj : j = 0 ∨ j = 1 ∨ j = 2 ∨ j = 3 := by omega
    rcases hj with rfl | rfl | rfl | rfl
    · exact State.sideDown_clear 1 (by decide) h0
    · exact h1
    · exact State.sideDown_clear 1 (by decide) h2
    · exact h3
  · have := mem_sideLanes (l := l)
    rwa [Nat.div_eq_of_lt hl] at this

/-- Pages other than the Colonnade's after the loss of a reference clock. -/
theorem State.refclkLoss_reg (s : State) (b : Bool) {q u : Nat} (hu : u < 0x1000) (h : q ≠ pCln) :
    (s.refclkLoss b).reg q u = (s.refLanesLost b).reg q u := by
  unfold State.refclkLoss
  dsimp only
  split
  · rw [State.sideDown_other _ (by decide) hu h, State.sideDown_other _ (by decide) hu h]
  · rfl

theorem State.refclkLoss_pwr (s : State) (b : Bool) :
    (s.refclkLoss b).pwr = if b then { s.pwr with refBLost := true } else { s.pwr with refALost := true } := by
  have hlanes : (s.refLanesLost b).pwr = if b then { s.pwr with refBLost := true } else { s.pwr with refALost := true } := by
    rw [State.refLanesLost_eq]
    refine (foldl_keeps _ State.pwr State.laneUnclocked_pwr _ _).trans ?_
    cases b <;> rfl
  cases b with
  | false =>
    show (s.refLanesLost false).pwr = _
    exact hlanes
  | true =>
    show (((s.refLanesLost true).sideUp 0 false).sideUp 1 false).pwr = _
    rw [State.sideDown_pwr, State.sideDown_pwr]
    exact hlanes

theorem State.refLost_reg (s : State) (b : Bool) {q u : Nat} (hu : u < 0x1000) (h : q ≠ pSys) :
    (s.refLost b).reg q u = s.reg q u := by
  unfold State.refLost
  rw [State.fault_reg _ _ _ _ _ (key_ne hu (by decide) (fun e => h e.1))]
  cases b <;> rfl

/-- SYS FLT_STA of the lost clock. -/
theorem State.refLanesLost_flag (s : State) (b : Bool) :
    (s.refLanesLost b).flag pSys Reg.Hdr.FLT_STA (if b then 3 else 2) = true := by
  rw [State.refLanesLost_eq]
  unfold State.flag
  rw [State.lanesUnclocked_reg (fun _ h => refLanes_lt h) _ (by decide) (.inl (by decide)) (fun n _ => ne_pLne (by decide))]
  exact State.fault_flag _ _ _ (by cases b <;> decide)

/-- A lane of another clock. -/
theorem State.refLanesLost_other (s : State) {b : Bool} {n u : Nat} (hn : n ∉ refLanes b) (hu : u < 0x1000) :
    (s.refLanesLost b).reg (pLne n) u = s.reg (pLne n) u := by
  rw [State.refLanesLost_eq, State.lanesUnclocked_reg (fun _ h => refLanes_lt h) _ hu (pLne_clear n)
    (fun m hm e => hn (pLne_inj.1 e ▸ hm)), State.refLost_reg s b hu (ne_pLne (by decide)).symm]

/-- A lane of the lost clock that has a mode. -/
theorem State.refLanesLost_unclocked (s : State) {b : Bool} {n : Nat} (hn : n ∈ refLanes b) (h : s.laneMode n ≠ 0) :
    (s.refLanesLost b).unclocked n := by
  rw [State.refLanesLost_eq]
  refine State.lanesUnclocked_unclocked (fun _ h => refLanes_lt h) _ hn ?_
  unfold State.laneMode State.fld at h ⊢
  rwa [State.refLost_reg s b (by decide) (ne_pLne (by decide)).symm]

end Sys2Proof.Machine
end

section
namespace Sys2Proof.Proofs
open Sys2Proof.Machine

/-- Settles O16: the lanes of the clock fall one by one, none raises another's status, and the Colonnade's sides follow REFCLK_B. -/
theorem lostReferenceClockTakesItsLanesDown : Obligations.LostReferenceClockTakesItsLanesDown := by
  unfold Obligations.LostReferenceClockTakesItsLanesDown
  intro s b
  have hlane : ∀ n, ∀ o < 0x1000, (s.done (s.start.refclkLoss b)).reg (pLne n) o = (s.start.refLanesLost b).reg (pLne n) o :=
    fun n o ho => by
      rw [State.done_reg_other _ _ _ _ (key_ne ho (by decide) (fun e => ne_pLne (by decide) e.1.symm)),
        State.refclkLoss_reg _ _ ho (ne_pLne (by decide)).symm]
  refine ⟨_, exec_refclkLoss b s, ?_, ?_, fun n _ hn h => ?_, fun n _ hn o ho => ?_, fun hb => ?_⟩
  · unfold State.flag
    rw [State.done_reg_other _ _ _ _ (by decide), State.refclkLoss_reg _ _ (by decide) (by decide)]
    exact s.start.refLanesLost_flag b
  · rw [State.done_pwr, State.refclkLoss_pwr]
    cases b <;> rfl
  · exact State.unclocked_congr (hlane n) (s.start.refLanesLost_unclocked hn h)
  · rw [hlane n o ho]
    exact s.start.refLanesLost_other hn ho
  · subst hb
    obtain ⟨hsta, hlinks⟩ := (s.start.refLanesLost true).sidesDown
    refine ⟨?_, fun l hl => ?_⟩
    · rw [State.done_fld_other _ _ _ _ _ _ (by decide)]
      exact hsta
    · rw [State.done_flag_other _ _ _ _ _ (key_ne (by unfold Reg.Cln.CL_STA; omega) (by decide) (fun e => absurd e.1 (by decide)))]
      exact hlinks l hl

end Sys2Proof.Proofs
end

section
/-!
SUPPORT. AVS requests (R38, R39, R58) and the conversion of the thermal sensors (R55 to R57, R444).
-/
namespace Sys2Proof.Machine

/-! AVS -/

theorem avsStep_range (last mv : Nat) : 720 ≤ avsStep last mv ∧ avsStep last mv ≤ 800 := by
  unfold avsStep
  omega

theorem avsStep_near {last : Nat} (mv : Nat) (h1 : 720 ≤ last) (h2 : last ≤ 800) :
    avsStep last mv ≤ last + 10 ∧ last - 10 ≤ avsStep last mv := by
  unfold avsStep
  omega

theorem avsStep_asked {last mv : Nat} (h1 : 720 ≤ mv) (h2 : mv ≤ 800) (h3 : last - 10 ≤ mv) (h4 : mv ≤ last + 10) :
    avsStep last mv = mv := by
  unfold avsStep
  omega

/-- The setpoint that a request for mv sends. -/
def State.avsNext (s : State) (mv : Nat) : Nat := avsStep (s.fld pSys Reg.Sys.AVS_STA 9 0) mv

/-- Once the first request went unanswered none is sent. -/
theorem State.avs_silent {s : State} (h : s.pwr.avsSilent = true) (mv : Nat) : s.avsRequest mv = s ∧ s.avsNoAck = s := by
  unfold State.avsRequest State.avsNoAck
  rw [if_pos h, if_pos h]
  exact ⟨rfl, rfl⟩

theorem State.avsRequest_sends {s : State} (h : s.pwr.avsSilent = false) (mv : Nat) :
    s.avsRequest mv = ((s.avsSend mv).setFlag pSys Reg.Sys.AVS_STA 16 true).setFlag pSys Reg.Sys.AVS_STA 17 false := by
  unfold State.avsRequest
  rw [if_neg (by rw [h]; decide)]

/-- A setpoint sent shows in VDD_REQ. -/
theorem State.avsSend_fld (s : State) (mv : Nat) : (s.avsSend mv).fld pSys Reg.Sys.AVS_STA 9 0 = s.avsNext mv := by
  have hcut : s.avsNext mv < 2 ^ (9 + 1 - 0) := Nat.lt_of_le_of_lt (avsStep_range ..).2 (by decide)
  have hsend : (s.avsSend mv).fld pSys Reg.Sys.AVS_STA 9 0 = (s.setFld pSys Reg.Sys.AVS_STA 9 0 (s.avsNext mv)).fld pSys Reg.Sys.AVS_STA 9 0 := rfl
  rw [hsend, State.fld, State.reg_setFld_same, bits_putBits _ _ _ _ (by decide) (by decide), Nat.mod_eq_of_lt hcut]

theorem State.avsSend_reg (s : State) (mv : Nat) {q u : Nat} (h : regKey q u ≠ regKey pSys Reg.Sys.AVS_STA) :
    (s.avsSend mv).reg q u = s.reg q u := by
  have hsend : (s.avsSend mv).reg q u = (s.setFld pSys Reg.Sys.AVS_STA 9 0 (s.avsNext mv)).reg q u := rfl
  rw [hsend, State.reg_setFld, if_neg h]

/-- A field that a flag of the same register lies apart from. -/
theorem State.fld_setFlag_apart (s : State) (p o i hi lo : Nat) (b : Bool) (hi' : i < 32) (h : hi < i ∨ i < lo) :
    (s.setFlag p o i b).fld p o hi lo = s.fld p o hi lo := by
  unfold State.fld State.setFlag
  rw [State.reg_setFld_same, bits_putBits_other _ _ _ _ _ _ hi' h]

/-- What an acknowledged request leaves. -/
theorem State.avsRequest_facts {s : State} (h : s.pwr.avsSilent = false) (mv : Nat) :
    (s.avsRequest mv).out = s.out ++ [.avs (s.avsNext mv)] ∧ (s.avsRequest mv).fld pSys Reg.Sys.AVS_STA 9 0 = s.avsNext mv ∧
      (s.avsRequest mv).flag pSys Reg.Sys.AVS_STA 16 = true ∧ (s.avsRequest mv).flag pSys Reg.Sys.AVS_STA 17 = false ∧
      ∀ q u, regKey q u ≠ regKey pSys Reg.Sys.AVS_STA → (s.avsRequest mv).reg q u = s.reg q u := by
  rw [State.avsRequest_sends h]
  refine ⟨rfl, ?_, ?_, State.flag_setFlag_same _ _ _ _ _ (by decide), fun q u hk => ?_⟩
  · rw [State.fld_setFlag_apart _ _ _ _ _ _ _ (by decide) (by decide), State.fld_setFlag_apart _ _ _ _ _ _ _ (by decide) (by decide),
      State.avsSend_fld]
  · rw [State.flag_setFlag _ _ _ _ _ _ _ _ (by decide), if_neg (by decide), State.flag_setFlag_same _ _ _ _ _ (by decide)]
  · rw [State.reg_setFlag, if_neg hk, State.reg_setFlag, if_neg hk, State.avsSend_reg _ _ hk]

/-- A request sent while it is open whether the board has a regulator (R39). -/
def State.avsUnanswered (s : State) : State :=
  if s.pwr.avsAsked = false then
    { (s.drawNat.2.avsSend s.drawNat.1).setFld pSys Reg.Sys.AVS_STA 9 0 800 with pwr.avsSilent := true }
  else s.drawNat.2.avsSend s.drawNat.1

theorem State.avsNoAck_eq {s : State} (h : s.pwr.avsSilent = false) :
    s.avsNoAck = ((s.avsUnanswered.setFlag pSys Reg.Sys.AVS_STA 16 false).setFlag pSys Reg.Sys.AVS_STA 17 true).fault pSys 1 := by
  unfold State.avsNoAck State.avsUnanswered
  rw [if_neg (by rw [h]; decide)]
  cases hf : s.pwr.avsAsked <;> rfl

/-- What an unanswered request leaves beside its flags. -/
theorem State.avsNoAck_facts {s : State} (h : s.pwr.avsSilent = false) :
    s.avsNoAck.flag pSys Reg.Sys.AVS_STA 16 = false ∧ s.avsNoAck.flag pSys Reg.Sys.AVS_STA 17 = true ∧
      s.avsNoAck.flag pSys Reg.Hdr.FLT_STA 1 = true ∧ s.avsNoAck.pwr = s.avsUnanswered.pwr ∧
      s.avsNoAck.fld pSys Reg.Sys.AVS_STA 9 0 = s.avsUnanswered.fld pSys Reg.Sys.AVS_STA 9 0 := by
  have hreg := fun t : State => t.fault_reg pSys 1 pSys Reg.Sys.AVS_STA (by decide)
  rw [State.avsNoAck_eq h]
  refine ⟨?_, ?_, State.fault_flag _ _ _ (by decide), rfl, ?_⟩
  · rw [State.flag, hreg, ← State.flag_def, State.flag_setFlag _ _ _ _ _ _ _ _ (by decide), if_neg (by decide),
      State.flag_setFlag_same _ _ _ _ _ (by decide)]
  · rw [State.flag, hreg, ← State.flag_def, State.flag_setFlag_same _ _ _ _ _ (by decide)]
  · rw [State.fld, hreg, ← State.fld_def, State.fld_setFlag_apart _ _ _ _ _ _ _ (by decide) (by decide),
      State.fld_setFlag_apart _ _ _ _ _ _ _ (by decide) (by decide)]

theorem State.avsUnanswered_asked (s : State) : s.avsUnanswered.pwr.avsAsked = true := by
  unfold State.avsUnanswered
  split <;> rfl

/-- The first request unanswered: the board has no regulator (R39). -/
theorem State.avsUnanswered_first {s : State} (h : s.pwr.avsAsked = false) :
    s.avsUnanswered.fld pSys Reg.Sys.AVS_STA 9 0 = 800 ∧ s.avsUnanswered.pwr.avsSilent = true := by
  unfold State.avsUnanswered
  rw [if_pos h]
  refine ⟨?_, rfl⟩
  show (State.setFld _ _ _ _ _ _).fld _ _ _ _ = 800
  rw [State.fld, State.reg_setFld_same, bits_putBits _ _ _ _ (by decide) (by decide), Nat.mod_eq_of_lt (by decide)]

/-- A later request unanswered: its setpoint stands, and requests go on. -/
theorem State.avsUnanswered_later {s : State} (h : s.pwr.avsAsked = true) :
    s.avsUnanswered.fld pSys Reg.Sys.AVS_STA 9 0 = s.drawNat.2.avsNext s.drawNat.1 ∧
      s.avsUnanswered.pwr.avsSilent = s.pwr.avsSilent := by
  unfold State.avsUnanswered
  rw [if_neg (by rw [h]; decide)]
  exact ⟨State.avsSend_fld .., rfl⟩

/-! Thermal sensors -/

/-- Sensor i reads x, no sensor reads more, and those before it read less. -/
def HottestAt (ts : List Int) (i : Nat) (x : Int) : Prop :=
  ts[i]? = some x ∧ (∀ y ∈ ts, y ≤ x) ∧ ∀ j < i, ∀ y, ts[j]? = some y → y < x

/-- The first reading of a list is the hottest where the rest's is no hotter. -/
theorem HottestAt.first {t x : Int} {ts : List Int} {i : Nat} (h : HottestAt ts i x) (hx : ¬ t < x) : HottestAt (t :: ts) 0 t := by
  obtain ⟨_, hmax, _⟩ := h
  refine ⟨rfl, fun y hy => ?_, fun j hj => absurd hj (Nat.not_lt_zero j)⟩
  rcases List.mem_cons.1 hy with rfl | hy
  · exact Int.le_refl _
  · exact Int.le_trans (hmax y hy) (Int.not_lt.1 hx)

/-- The rest's hottest reading is the hottest where the first is cooler. -/
theorem HottestAt.later {t x : Int} {ts : List Int} {i : Nat} (h : HottestAt ts i x) (hx : t < x) : HottestAt (t :: ts) (i + 1) x := by
  obtain ⟨hat, hmax, hbefore⟩ := h
  refine ⟨hat, fun y hy => ?_, fun j hj y hy => ?_⟩
  · rcases List.mem_cons.1 hy with rfl | hy
    · exact Int.le_of_lt hx
    · exact hmax y hy
  · cases j with
    | zero => exact (Option.some.inj hy) ▸ hx
    | succ j => exact hbefore j (Nat.lt_of_succ_lt_succ hj) y hy

theorem hottest_spec {ts : List Int} (h : ts ≠ []) (k : Nat) : ∃ i x, hottest ts k = some (k + i, x) ∧ HottestAt ts i x := by
  induction ts generalizing k with
  | nil => exact absurd rfl h
  | cons t ts ih =>
    by_cases hts : ts = []
    · subst hts
      exact ⟨0, t, rfl, rfl, fun y hy => Int.le_of_eq (List.mem_singleton.1 hy), fun j hj => absurd hj (Nat.not_lt_zero j)⟩
    · obtain ⟨i, x, he, hx⟩ := ih hts (k + 1)
      unfold hottest
      rw [he]
      dsimp only
      by_cases hlt : t < x
      · exact ⟨i + 1, x, by rw [if_pos hlt]; simp only [Option.some.injEq, Prod.mk.injEq, and_true]; omega, hx.later hlt⟩
      · exact ⟨0, t, by rw [if_neg hlt]; rfl, hx.first hlt⟩

/-- The readings noted and TEMP_MAX written (R55, R56). -/
def State.tempShown (s : State) (ts : List Int) (i : Nat) (t : Int) : State :=
  ({ s with pwr.temps := ts } : State).setReg pSys Reg.Sys.TEMP_MAX
    (BitVec.ofNat 32 ((BitVec.ofInt 12 t).toNat + i * 2 ^ 12 + 2 ^ 31))

/-- THERM_N follows the hottest reading (R57). -/
def State.thermFollows (s : State) (t : Int) : State :=
  let al := temp12 (s.fld pSys Reg.Sys.THERM_CFG 11 0)
  let cl := temp12 (s.fld pSys Reg.Sys.THERM_CFG 27 16)
  if s.pwr.thermLow then (if (if cl < al then t < cl else t < al) then { s with pwr.thermLow := false } else s)
  else if al ≤ t then ({ s with pwr.thermLow := true }).fault pSys 0 else s

theorem State.tempConversion_eq (s : State) {ts : List Int} {i : Nat} {t : Int} (h : hottest ts 0 = some (i, t)) :
    s.tempConversion ts =
      let s := (s.tempShown ts i t).thermFollows t
      let s := if ts.any (fun u => decide (temp12 (s.fld pHdg Reg.Hdg.TEMP_CFG 11 0) ≤ u)) then s.hdgCondition 5 else s.tempGone 5
      if ts.any (fun u => decide (u ≤ temp12 (s.fld pHdg Reg.Hdg.TEMP_CFG 27 16))) then s.hdgCondition 6 else s.tempGone 6 := by
  unfold State.tempConversion
  rw [h]
  rfl

theorem State.tempGone_keeps (s : State) (i : Nat) : (s.tempGone i).regs = s.regs ∧ (s.tempGone i).pwr = s.pwr := by
  unfold State.tempGone
  split <;> exact ⟨rfl, rfl⟩

/-- A choice is one of its outcomes. -/
theorem ite_either (c : Prop) [Decidable c] (a b : State) : (if c then a else b) = a ∨ (if c then a else b) = b := by
  by_cases h : c
  · exact .inl (if_pos h)
  · exact .inr (if_neg h)

/-- THERM_N stays, rises, or falls with SYS FLT_STA bit 0. -/
theorem State.thermFollows_cases (s : State) (t : Int) :
    s.thermFollows t = s ∨ s.thermFollows t = { s with pwr.thermLow := false } ∨
      s.thermFollows t = ({ s with pwr.thermLow := true } : State).fault pSys 0 := by
  unfold State.thermFollows
  dsimp only
  by_cases hlow : s.pwr.thermLow = true
  · rw [if_pos hlow]
    exact (ite_either _ _ _).elim (fun h => .inr (.inl h)) .inl
  · rw [if_neg hlow]
    exact (ite_either _ _ _).elim (fun h => .inr (.inr h)) .inl

theorem State.thermFollows_reg (s : State) (t : Int) {q u : Nat} (h : regKey q u ≠ regKey pSys Reg.Hdr.FLT_STA) :
    (s.thermFollows t).reg q u = s.reg q u := by
  rcases s.thermFollows_cases t with he | he | he
  · rw [he]
  · rw [he]
    rfl
  · rw [he]
    exact State.fault_reg _ _ _ _ _ h

theorem State.thermFollows_temps (s : State) (t : Int) : (s.thermFollows t).pwr.temps = s.pwr.temps := by
  rcases s.thermFollows_cases t with he | he | he
  · rw [he]
  · rw [he]
  · rw [he]
    rfl

/-- A reading at ALARM holds THERM_N low (R57). -/
theorem State.thermFollows_low {s : State} {t : Int} (h : temp12 (s.fld pSys Reg.Sys.THERM_CFG 11 0) ≤ t) :
    (s.thermFollows t).pwr.thermLow = true := by
  unfold State.thermFollows
  dsimp only
  by_cases hlow : s.pwr.thermLow = true
  · rw [if_pos hlow, if_neg]
    · exact hlow
    · split <;> omega
  · rw [if_neg hlow, if_pos h]
    rfl

theorem State.tempShown_reg (s : State) (ts : List Int) (i : Nat) (t : Int) {q u : Nat} (h : regKey q u ≠ regKey pSys Reg.Sys.TEMP_MAX) :
    (s.tempShown ts i t).reg q u = s.reg q u := by
  unfold State.tempShown
  rw [State.reg_setReg, if_neg h]
  rfl

/-- A conversion inside the Hedge's thresholds raises nothing (R440). -/
theorem State.tempConversion_inside {s : State} {ts : List Int} {i : Nat} {t : Int} (h : hottest ts 0 = some (i, t))
    (hin : ∀ x ∈ ts, x < temp12 (s.fld pHdg Reg.Hdg.TEMP_CFG 11 0) ∧ temp12 (s.fld pHdg Reg.Hdg.TEMP_CFG 27 16) < x) :
    s.tempConversion ts = (((s.tempShown ts i t).thermFollows t).tempGone 5).tempGone 6 := by
  have hcfg : ((s.tempShown ts i t).thermFollows t).reg pHdg Reg.Hdg.TEMP_CFG = s.reg pHdg Reg.Hdg.TEMP_CFG := by
    rw [State.thermFollows_reg _ _ (by decide), State.tempShown_reg _ _ _ _ (by decide)]
  have hhi : ts.any (fun u => decide (temp12 (((s.tempShown ts i t).thermFollows t).fld pHdg Reg.Hdg.TEMP_CFG 11 0) ≤ u)) = false := by
    rw [List.any_eq_false, State.fld, hcfg]
    exact fun x hx => by rw [decide_eq_true_eq]; exact Int.not_le.2 (hin x hx).1
  have hlo : ts.any (fun u => decide (u ≤ temp12 ((((s.tempShown ts i t).thermFollows t).tempGone 5).fld pHdg Reg.Hdg.TEMP_CFG 27 16))) =
      false := by
    have hgone : (((s.tempShown ts i t).thermFollows t).tempGone 5).reg pHdg Reg.Hdg.TEMP_CFG = s.reg pHdg Reg.Hdg.TEMP_CFG := by
      unfold State.reg
      rw [(State.tempGone_keeps ..).1]
      exact hcfg
    rw [List.any_eq_false, State.fld, hgone]
    exact fun x hx => by rw [decide_eq_true_eq]; exact Int.not_le.2 (hin x hx).2
  rw [State.tempConversion_eq s h]
  dsimp only
  rw [hhi, if_neg Bool.false_ne_true, hlo, if_neg Bool.false_ne_true]

end Sys2Proof.Machine
end

section
namespace Sys2Proof.Proofs
open Sys2Proof.Machine

/-- Settles O17: the setpoint is `avsStep` of the last one, and the reading shown is the first hottest of the eight. -/
theorem voltageAndTemperature : Obligations.VoltageAndTemperature := by
  unfold Obligations.VoltageAndTemperature
  refine ⟨fun s mv hu hq => ?_, fun s hu hq => ?_, fun s mv hq => ?_, fun s ts hu hok hin => ?_⟩
  · obtain ⟨hout, hfld, hack, herr, hreg⟩ := State.avsRequest_facts (s := s.start) hq mv
    refine ⟨_, exec_avsRequest mv s hu, fun v hv => ?_⟩
    rw [State.done_fld_other _ _ _ _ _ _ (by decide), hfld] at hv
    subst hv
    refine ⟨?_, (avsStep_range ..).1, (avsStep_range ..).2, fun h1 h2 => avsStep_near _ h1 h2,
      fun h1 h2 h3 h4 => avsStep_asked h1 h2 h3 h4, ?_, ?_, fun p o ho h1 h2 => ?_⟩
    · rw [State.done_out, hout]
      rfl
    · rwa [State.done_flag_other _ _ _ _ _ (by decide)]
    · rwa [State.done_flag_other _ _ _ _ _ (by decide)]
    · rw [State.done_reg_other _ _ _ _ (key_ne ho (by decide) h2), hreg p o (key_ne ho (by decide) h1)]
      rfl
  · obtain ⟨hack, herr, hflt, hpwr, hfld⟩ := State.avsNoAck_facts (s := s.start) hq
    refine ⟨_, exec_avsNoAck s hu, ?_⟩
    rw [State.done_flag_other _ _ _ _ _ (by decide), State.done_flag_other _ _ _ _ _ (by decide),
      State.done_flag_other _ _ _ _ _ (by decide), State.done_fld_other _ _ _ _ _ _ (by decide), State.done_pwr, hpwr, hfld]
    refine ⟨hack, herr, hflt, State.avsUnanswered_asked _, fun ha => State.avsUnanswered_first (s := s.start) ha, fun ha => ?_⟩
    obtain ⟨hset, hgo⟩ := State.avsUnanswered_later (s := s.start) ha
    rw [hset, hgo]
    exact ⟨(avsStep_range ..).1, (avsStep_range ..).2, hq⟩
  · obtain ⟨hreq, hno⟩ := State.avs_silent (s := s.start) hq mv
    cases hu : s.fabricUp with
    | true =>
      rw [exec_avsRequest mv s hu, exec_avsNoAck s hu, hreq, hno]
      exact ⟨rfl, rfl⟩
    | false =>
      have hdown : ∀ f, s.start.whenUp f = s.start := fun f => State.whenUp_down (s := s.start) hu
      exact ⟨congrArg (fun x => Host.Outcome.next (s.done x)) (hdown _), congrArg (fun x => Host.Outcome.next (s.done x)) (hdown _)⟩
  · have hne : ts ≠ [] := by
      rintro rfl
      exact absurd hok (by decide)
    obtain ⟨i, x, hhot, hat, hmax, hbefore⟩ := hottest_spec hne 0
    rw [Nat.zero_add] at hhot
    have hconv := State.tempConversion_inside (s := s.start) hhot hin
    obtain ⟨hregs5, hpwr5⟩ := State.tempGone_keeps ((s.start.tempShown ts i x).thermFollows x) 5
    obtain ⟨hregs6, hpwr6⟩ := State.tempGone_keeps (((s.start.tempShown ts i x).thermFollows x).tempGone 5) 6
    refine ⟨_, i, x, exec_tempConversion ts s hok hu, hat, hmax, hbefore, ?_⟩
    rw [State.done_reg_other _ _ _ _ (by decide), State.done_pwr, hconv, hpwr6, hpwr5]
    refine ⟨?_, State.thermFollows_temps .., fun hal => State.thermFollows_low ?_⟩
    · rw [State.reg, hregs6, hregs5, ← State.reg_def, State.thermFollows_reg _ _ (by decide)]
      exact State.reg_setReg_same ..
    · rw [State.fld, State.tempShown_reg _ _ _ _ (by decide)]
      exact hal

end Sys2Proof.Proofs
end

section
/-!
SUPPORT. Per-port registers of a port number that the lane plan leaves unused: a write to one is discarded (R143).
-/
namespace Sys2Proof.Machine

/-- A write to a per-port register of an unused port changes nothing; that it was discarded is all there is to note. -/
theorem portWrite_absentPort {s : State} {port : Port} {p o n : Nat} {b : Blk} (v : Word) (h : WriteReaches s port p o)
    (hb : blkOf p = some (b, n)) (ho : 0x40 ≤ o) (ho' : o < 0x800) (h4 : o % 4 = 0) (ha : s.absentPort b n o = true) :
    s.start.portWrite port p o v = s.heard.accMark accLost := by
  obtain ⟨hup, hq, hm, hadm, hbusy, hchk⟩ := h
  obtain ⟨hpairs, _, _, hbst⟩ := id hq
  obtain ⟨_, hfly⟩ := portAdmits_rules hadm hb
  refine portWrite_writeAt hup (blkOf_lt hb) (by omega) h4 ?_ (State.gateIdle_congr (s := s) rfl rfl hq.gateIdle)
  have hwait : s.heard.waits port p o = false := by
    unfold State.waits
    rw [show s.heard.gate.pairs = [] from hpairs]
    simp
  have ha' : s.heard.absentPort b n o = true := ha
  rw [writeAt_deliver (s := s.heard) hb hfly hm hwait, deliver_eq (s := s.heard) hbusy hbst hchk, shadowOf_low ho']
  dsimp only
  rw [if_neg (by omega)]
  cases specOf p o with
  | none => rfl
  | some r => exact if_pos ha'

/-- The cluster page and the FLY page of a lane group. -/
theorem blkOf_group {g : Nat} (h : g < 16) : blkOf (pPrc g) = some (.prc, g + 1) ∧ blkOf (pFly g) = some (.fly, g) := by
  revert g
  decide

/-- The per-port registers of an unused port, in its cluster page and in its FLY page. -/
theorem State.absentPort_unused {s : State} {e k : Nat} (hx : s.portExists e = false) (hk : k < 0x40) :
    s.absentPort .prc (e / 16 + 1) (0x100 + 0x40 * (e % 16) + k) = true ∧
      s.absentPort .fly (e / 16) (0x100 + 0x40 * (e % 16) + k) = true := by
  have hplace : 16 * (e / 16) + (0x100 + 0x40 * (e % 16) + k - 0x100) / 64 = e := by omega
  have hlo : 0x100 ≤ 0x100 + 0x40 * (e % 16) + k := by omega
  have hhi : 0x100 + 0x40 * (e % 16) + k < 0x500 := by omega
  unfold State.absentPort
  simp only [Nat.add_sub_cancel, hplace, hx, hlo, hhi, decide_true, Bool.not_false, Bool.and_self, and_self]

/-- A change of the gate list of an unused port is discarded. -/
theorem exec_gclConfigChange_unused {s : State} {port : Port} {e : Fin 256} (v : Word)
    (h : WriteReaches s port (portPage e) (Reg.Prc.GCL_CTL (e % 16))) (hx : s.portExists e = false) :
    exec (.gclConfigChange port e v) s = .next (s.done (s.heard.accMark accLost)) := by
  have ho : Reg.Prc.GCL_CTL (e.val % 16) = 0x100 + 0x40 * (e.val % 16) + 0x10 := by
    show 0x110 + 0x040 * (e.val % 16) = _
    omega
  have ha := (State.absentPort_unused hx (show 0x10 < 0x40 by decide)).1
  rw [← ho] at ha
  rw [exec_gclConfigChange]
  exact congrArg (fun x => Host.Outcome.next (s.done x))
    (portWrite_absentPort _ h (blkOf_group (by omega)).1 (by omega) (by omega) (by omega) ha)

/-- A start of Folly at an unused port is discarded. -/
theorem exec_follyRunStart_unused {s : State} {port : Port} {e : Fin 256} (v : Word)
    (h : WriteReaches s port (flyPage e) (Reg.Fly.FLY_CTL (e % 16))) (hx : s.portExists e = false) :
    exec (.follyRunStart port e v) s = .next (s.done (s.heard.accMark accLost)) := by
  have ho : Reg.Fly.FLY_CTL (e.val % 16) = 0x100 + 0x40 * (e.val % 16) + 0 := rfl
  have ha := (State.absentPort_unused hx (show 0 < 0x40 by decide)).2
  rw [← ho] at ha
  rw [exec_follyRunStart]
  exact congrArg (fun x => Host.Outcome.next (s.done x))
    (portWrite_absentPort _ h (blkOf_group (by omega)).2 (by omega) (by omega) (by omega) ha)

end Sys2Proof.Machine

namespace Sys2Proof.Proofs
open Sys2Proof.Machine

/-- Refutes O59: nothing asks that the port exists. After reset no lane has a mode, so port 0 has no function and a write of its
GCL_CTL is discarded (R143); the clause on CONFIG_CHANGE has the write, whose ADMIN_LEN is 0, set FLT_STA bit 4. -/
theorem not_framesLanesAndGates : ¬ Obligations.FramesLanesAndGates := by
  unfold Obligations.FramesLanesAndGates
  rintro ⟨_, _, _, _, _, _, _, _, _, hchange, _⟩
  have hreach : WriteReaches State.reset .core (portPage (0 : Fin 256)) (Reg.Prc.GCL_CTL ((0 : Fin 256).val % 16)) := by
    decide
  obtain ⟨_, hrefused, _⟩ := hchange State.reset _ .core 0 0 hreach rfl
  obtain ⟨x, hx, _, _, hflag⟩ := hrefused (by decide)
  rw [exec_gclConfigChange_unused 0 hreach (by decide)] at hx
  cases hx
  rw [State.done_flag_other _ _ _ _ _ (by decide)] at hflag
  exact absurd hflag (by decide)

/-- Refutes O60: the clauses on FLY_CTL do not ask that the port exists. After reset no lane has a mode, so port 0 has no function
and a write of its FLY_CTL is discarded (R143, R191); the clause on RUN has the write, of a port that is not in TEST, set FLT_STA
bit 1. -/
theorem not_pairsTablesAndFolly : ¬ Obligations.PairsTablesAndFolly := by
  unfold Obligations.PairsTablesAndFolly
  rintro ⟨_, _, _, _, _, _, _, _, _, _, _, hstart, _⟩
  have hreach : WriteReaches State.reset .maint (flyPage (0 : Fin 256)) (Reg.Fly.FLY_CTL ((0 : Fin 256).val % 16)) := by
    decide
  obtain ⟨_, hrefused, _⟩ := hstart State.reset .maint 0 0 _ rfl hreach rfl
  obtain ⟨x, hx, _, _, hflag⟩ := hrefused (by decide)
  rw [exec_follyRunStart_unused 0 hreach (by decide)] at hx
  cases hx
  rw [State.done_flag_other _ _ _ _ _ (by decide)] at hflag
  exact absurd hflag (by decide)

end Sys2Proof.Proofs
end

section
/-!
SUPPORT. Background work held a second time in one window (R229, R233): nothing more is told.
-/
namespace Sys2Proof.Machine

/-- Background work of a page without a class, held once in the window already, changes nothing. -/
theorem State.background_held_again {s : State} {page n : Nat} (hon : s.pglOn = true) (hc : s.fld page Reg.Hdr.BGT 5 0 = 0)
    (hw : s.pgl.heldWin = true) : s.background page n = (false, s) := by
  unfold State.background
  rw [hon, Bool.not_true, if_neg (by decide), hc, if_pos rfl]
  unfold State.noteHeld
  rw [if_pos hw]

/-- A capture whose copying is held a second time in the window changes nothing. -/
theorem State.capCopy_held_again {s : State} {d : Nat} {c : Capture} {b : Nat} (hcap : s.capOf d = some c)
    (hb : c.left.find? (s.capReady c) = some b) (hbg : s.background pCcp 2 = (false, s)) : s.capCopy d = s := by
  unfold State.capCopy
  rw [hcap]
  dsimp only
  rw [hb]
  unfold State.capBlockCopy
  rw [hbg]

/-- A capture of stream 0 by definition 0, one pre-trigger block of it to be copied. -/
def oneBlockCapture : Capture :=
  { dfn := 0, base := 0, len := 132, pre := 1, streams := [0], heads := [some 5], vis := [some 5], start := 0, left := [0], head0 := 0 }

/-- After reset, the Pergola enabled and that capture begun a slot ago: the CCP page has no background class, and work was held in
this window, whose FLT_STA bit has been cleared since. -/
def heldBefore : State :=
  { State.reset.setReg pPgl Reg.Hdr.CTL 1 with pav.caps := [oneBlockCapture], pav.starts := 1, pgl.heldWin := true }

end Sys2Proof.Machine

namespace Sys2Proof.Proofs
open Sys2Proof.Machine

/-- Refutes O55: background work held is told once a window (R229, R233), but the clause on a capture whose copying is held has
FLT_STA bit 6 set each time. In `heldBefore` the window's work was held before and the bit cleared since: it stays clear. -/
theorem not_pergolaPromiseAndRuns : ¬ Obligations.PergolaPromiseAndRuns := by
  unfold Obligations.PergolaPromiseAndRuns
  rintro ⟨_, _, _, _, _, _, _, _, _, _, _, _, _, _, hcopy, _⟩
  have hcap : heldBefore.pav.caps.find? (fun q => q.dfn = (0 : Fin 8).val) = some oneBlockCapture := by decide
  have hleft : oneBlockCapture.left.find? (heldBefore.capReady oneBlockCapture) = some 0 := by decide
  have hbg : heldBefore.start.background pCcp 2 = (false, heldBefore.start) :=
    State.background_held_again (by decide) (by decide) rfl
  obtain ⟨_, hheld⟩ := hcopy heldBefore 0 oneBlockCapture 0 (by decide) hcap hleft
  obtain ⟨x, hx, _, _, hflag⟩ := hheld (congrArg Prod.fst hbg)
  rw [exec_captureBlockCopy _ _ (by decide), State.capCopy_held_again (s := heldBefore.start) hcap hleft hbg] at hx
  cases hx
  rw [State.done_flag_other _ _ _ _ _ (by decide)] at hflag
  exact absurd hflag (by decide)

end Sys2Proof.Proofs
end

section
/-!
SUPPORT. CCP_IP named by an offset that runs past the page before it, and the level sources a command leaves there (R504).
-/
namespace Sys2Proof.Machine

/-- The register file has one key for a page and an offset, so an offset beyond 4 KiB falls into the next page. -/
theorem regKey_pageBefore_ccpIp : regKey (pCcp - 1) (0x1000 + Reg.Ccp.CCP_IP) = regKey pCcp Reg.Ccp.CCP_IP := by decide

theorem State.done_reg_pageBefore_ccpIp (s x : State) :
    (s.done x).reg (pCcp - 1) (0x1000 + Reg.Ccp.CCP_IP) = x.reg pCcp Reg.Ccp.CCP_IP ||| levelIrqs x := by
  rw [State.done_reg, if_pos regKey_pageBefore_ccpIp]

/-- A level source that asks where a command ends is pending in CCP_IP, by this name of the register too. -/
theorem State.done_level_pageBefore_ccpIp (s : State) {x : State} {i : Nat} (h : bitAt (levelIrqs x) i = true) :
    bitAt ((s.done x).reg (pCcp - 1) (0x1000 + Reg.Ccp.CCP_IP)) i = true := by
  rw [State.done_reg_pageBefore_ccpIp, bitAt, BitVec.getLsbD_or, show (levelIrqs x).getLsbD i = true from h, Bool.or_true]

/-- After reset, Ndear-C past its handoff and an octet waiting in UART_RX, whose level source 13 no command has settled yet. -/
def octetUnsettled : State := { State.reset with boot.entered := true, ccp.rxq := [0] }

end Sys2Proof.Machine

namespace Sys2Proof.Proofs
open Sys2Proof.Machine

/-- Refutes O23: the last clause of CTL_BRK on Ndear-C keeps every register but CCP_IP, and bounds neither page nor offset. The page
before CCP, at an offset of 4 KiB more than CCP_IP's, names CCP_IP again, where the command leaves the level sources that ask (R504):
in `octetUnsettled` bit 13 of it is 0, and 1 afterwards. -/
theorem not_runEnds : ¬ Obligations.RunEnds := by
  unfold Obligations.RunEnds
  rintro ⟨_, hcore⟩
  have hready : UnitReady octetUnsettled .core 0x20 := by decide
  obtain ⟨x, hx, _, _, _, _, _, _, _, _, _, hkeeps⟩ := hcore octetUnsettled hready rfl rfl
  have hkept := hkeeps (pCcp - 1) (0x1000 + Reg.Ccp.CCP_IP) (by decide)
  have hasks : bitAt (levelIrqs (octetUnsettled.start.unitOp .core [] 0x26 0)) 13 = true := by decide
  have hpending := State.done_level_pageBefore_ccpIp octetUnsettled hasks
  rw [exec_ctlBrk _ _ (by decide)] at hx
  cases hx
  rw [hkept] at hpending
  exact absurd hpending (by decide)

end Sys2Proof.Proofs
end
